-- ==== Sys2Proof/Syntax.lean ====
section
/-! DEFINITION. What the block is told: the masters that reach its registers, the packets and frames that arrive at its
ports, and `Instr`, the inductive of its commands. -/

namespace Sys2Proof

/-- R19, R39: the masters that reach the register space, in the order of `GLB_ACCVIOL.MASTER`. -/
inductive Master where
  | f0 | f1 | f2 | f3 | super | user | svc
  deriving DecidableEq, Repr

/-- R41: a write through the normal view or one of the three aliases. -/
inductive WMode where
  | normal | set | clear | toggle
  deriving DecidableEq, Repr

/-- R81: what a node answers to DESC: serial, generation, highest version, echo turnaround in 0.25 ns units, firmware; the sums
of the 64 round trips that the module measures to it from port A and from port B, in 0.25 ns units (R88); the polarity its two
receivers report (R104); how many of its DESC answers failed their CRC before this one (R83 step 4). -/
structure NodeDesc where
  serial : Nat
  gen : Nat
  vmax : Nat
  turn : Nat
  fw : Nat
  ra : Nat
  rb : Nat
  polA : Bool
  polB : Bool
  bad : Nat := 0
  deriving DecidableEq, Repr

/-- R121: one sample set of a RESULT packet. -/
structure ResultSet where
  codes : List Nat
  ntc : List Nat
  flags : Nat
  deriving DecidableEq, Repr

/-- R80, R103: the TYPE of a packet as it arrives, and the serial number of the node that sends it. -/
structure PacketFrom where
  typ : Nat
  serial : Nat
  deriving DecidableEq, Repr

/-- R133: the wires that a node's decisions show open, and its serial number (R103). -/
structure WireDiag where
  wires : Nat
  serial : Nat
  deriving DecidableEq, Repr

/-- R121: the fault cause of a node's diagnostics, and its serial number (R103). -/
structure FaultDiag where
  cause : Nat
  serial : Nat
  deriving DecidableEq, Repr

/-- R87: the hop counter of a HELLO, and the serial number in it. -/
structure Hello where
  hop : Nat
  serial : Nat
  deriving DecidableEq, Repr

/-- R180: the samples of a BURST packet, and the serial number of its node (R103). -/
structure BurstPart where
  samples : List Nat
  serial : Nat
  deriving DecidableEq, Repr

/-- R103: a node that acknowledges a WRCFG, with its serial number. -/
structure NodeAck where
  node : Nat
  serial : Nat
  deriving DecidableEq, Repr

/-- R88, R103: the sums of a node's 64 round trips over port A and over port B, in 0.25 ns, 0 where no ECHO came back, and its serial
number. -/
structure EchoBack where
  ra : Nat := 0
  rb : Nat := 0
  serial : Nat := 0
  deriving DecidableEq, Repr

/-- R189: a calibration reference: |Z| in nΩ, temperature in 0.05 °C, TB_OPS when it was taken. -/
structure ImpRef where
  z : Nat := 0
  t2 : Int := 0
  ops : Nat := 0
  deriving DecidableEq, Repr

/-- R368: what EST carries beside its contexts and registers: ms since the last rest anchor, the discharge throughput in all and as the
fraction of a cycle, the serials of its record by node (R223), and impedance references by slot (R189). -/
structure EstInfo where
  noRest : Nat := 0
  thru : Nat := 0
  cycFrac : Nat := 0
  serials : List (Nat × Nat) := []
  refs : List (Nat × ImpRef) := []
  deriving DecidableEq, Repr

/-- R78: the node table beside its registers: its length and split, the commissioned count and serials that govern, and the echo
turnaround of each node. -/
structure RingInfo where
  total : Nat
  split : Nat
  exp : Nat := 0
  list : List Nat := []
  turns : List Nat := []
  deriving DecidableEq, Repr

/-- What a running enumeration has found (R83): closed ring, nodes reached from port A and, when open, from port B, in
the order they answered, the polarity of the module's receivers. -/
structure EnumFound where
  closed : Bool := false
  fromA : List NodeDesc := []
  fromB : List NodeDesc := []
  polA : Bool := false
  polB : Bool := false
  deriving DecidableEq, Repr

/-- R267: the fields of a control engine instruction beside its opcode. -/
structure CteW where
  neg : Bool
  pr : Nat
  a : Nat
  b : Nat
  x : Nat
  y : Nat
  deriving DecidableEq, Repr


/-- R310, R314, R325, R326: what one channel brings to an exchange: the CF pins, the P pins that are high and the M switches that conduct,
one bit an output; its counts of its own clock, the partner's clock and the CTL tick marker in the exchange interval, each in parts of a
million of what its source counts at its rated speed (notes/assumptions/26). -/
structure SafRead where
  cf : Nat := 63
  prb : Nat := 0
  mrb : Nat := 0
  own : Nat := 1000000
  peer : Nat := 1000000
  mark : Nat := 1000000
  deriving DecidableEq, Repr

/-- R312: what the two channels bring to one exchange. -/
structure SafXch where
  a : SafRead := {}
  b : SafRead := {}
  deriving DecidableEq, Repr

/-- R341, R343: a received HEARTBEAT: whose source address it carries (0 another's, 1 the module's own, 2 the partner's of its
pair), its length, and its fields. -/
structure HbFrame where
  src : Nat := 0
  len : Nat := 96
  version : Nat := 2
  pid : Nat := 0
  sheaf : Nat := 0
  seq : Nat := 0
  flags : Nat := 0
  slot : Nat := 0
  kind : Nat := 0
  wait : Nat := 0
  soc : Nat := 65535
  oepoch : Nat := 0
  q : Nat := 0
  reported : List Nat := []
  view : List (Nat × Nat × Nat) := []
  pb : Int := 0
  hd : Nat := 0
  hc : Nat := 0
  deriving DecidableEq, Repr

/-- R418, R426: what the host answers to a table read: the bytes as a number, or an error (poisoned data, a timeout or
Unsupported Request). -/
inductive TblRead where
  | data (v : Nat)
  | error
  deriving DecidableEq, Repr

/-- R452 to R459: a frame at a switch port: the port; whether FCS, symbols and length are good; length in bytes; addresses;
the PCP of its tag; EtherType; the type byte of a sheaf frame (R341); for PTP the message type, two-step flag, sequenceId, source port identity, correctionField (2^-16
ns) and the timestamp it carries (ns); what the switch measures on it: residence time in ns, and whether the egress queue is
full. Message types: 0 Sync, 1 Delay_Req, 2 Pdelay_Req, 3 Pdelay_Resp, 8 Follow_Up, 9 Delay_Resp, 11 Announce. -/
structure EthFrame where
  port : Nat := 1
  good : Bool := true
  len : Nat := 64
  dst : Nat := 0
  src : Nat := 0
  pcp : Option Nat := none
  etype : Nat := 0
  typ : Nat := 1
  msg : Option Nat := none
  twoStep : Bool := false
  seq : Nat := 0
  sender : Nat := 0
  corr : Int := 0
  stamp : Int := 0
  resid : Int := 0
  full : Bool := false
  deriving DecidableEq, Repr

/-- R461: what an Announce message says: ingress port, domain, and the data set the best master clock algorithm compares. -/
structure Announce where
  port : Nat
  domain : Nat
  sender : Nat
  prio1 : Nat
  cls : Nat
  acc : Nat
  var : Nat
  prio2 : Nat
  gm : Nat
  steps : Nat
  deriving DecidableEq, Repr

/-- R474: a CAN frame. -/
structure CanFrame where
  id : Nat
  xtd : Bool
  fdf : Bool
  brs : Bool
  esi : Bool
  remote : Bool
  dlc : Nat
  data : List Nat
  deriving DecidableEq, Repr

/-- R489: how a bus transaction at SMB1 ends before or after its commit: normally; by a START inside a byte; by a STOP
before the commit; with bytes after the commit. -/
inductive SmbEnd where
  | normal | start | stop | extra
  deriving DecidableEq, Repr

namespace Machine

/-- A position or the string context (R196). x and y in 2^-24 of full charge, u in 2^-40, capacity in 0.01 Ah, charges in
mA times 2 ns. `rimp` carries the TB_OPS of its publication. -/
structure Ctx where
  x : Int := 0
  y : Int := 0
  u : Nat := 0
  q : Nat := 0
  rstep : Option Nat := none
  rimp : Option (Int × Nat) := none
  rimpNew : Option (Int × Nat) := none
  ovr : Nat := 0
  unlearned : Bool := true
  suspect : Bool := false
  firstpend : Bool := true
  swapped : Bool := false
  eod : Bool := false
  eoc : Bool := false
  floorHold : Bool := false
  ceilHold : Bool := false
  eodSlew : Bool := false
  eocSlew : Bool := false
  nEod : Nat := 0
  nEoc : Nat := 0
  nEodClr : Nat := 0
  nEocClr : Nat := 0
  dynAge : Nat := 100
  deriving DecidableEq, Repr

/-- R397: a command in the journal: its SUBMIT ring and submission index, that ring's owner and priority class; the descriptor (R390); whether the standby's
journal holds it (R368) and whether the write-back that covers it is out (R396); TB_OPS at its acceptance; `stg` 0 ACCEPTED
(journaled, `acc` once covered), 1 EXECUTED, 2 COMPLETED, 3 ACKNOWLEDGED; an execution in progress and what it waits for;
status, result, the order of its end, its index on the COMPLETE ring, RET, and whether its completion entry is under way, and whether its ring has been deleted, which discards its completion. -/
structure JRec where
  ring : Nat := 0
  sidx : Nat := 0
  own : Nat := 0
  cls : Nat := 0
  cid : Nat := 0
  op : Nat := 0
  urgent : Bool := false
  rsv : Bool := false
  ttl : Nat := 0
  buf : Nat := 0
  blen : Nat := 0
  par : List Nat := []
  ack : Bool := false
  acc : Bool := false
  wb : Bool := false
  ops : Nat := 0
  stg : Nat := 0
  run : Bool := false
  wait : Nat := 0
  status : Nat := 0
  result : Nat := 0
  fin : Nat := 0
  cidx : Nat := 0
  ret : Bool := false
  busy : Bool := false
  gone : Bool := false
  deriving DecidableEq, Repr

/-- R397, R403: a ring as the journal records it. -/
structure JRing where
  typ : Nat := 0
  ver : Nat := 0
  owner : Nat := 0
  log2n : Nat := 0
  pair : Nat := 0
  vec : Nat := 0
  ien : Bool := false
  cls : Nat := 0
  base : Nat := 0
  wb : Nat := 0
  mod : Nat := 0
  live : Bool := false
  deriving DecidableEq, Repr

/-- The words of the standard loop set's own state (R277), in Q15. -/
structure StdSt where
  pint : List Int := [0, 0, 0, 0, 0, 0]
  sint : Int := 0
  vint : Int := 0
  itot : Int := 0
  deriving DecidableEq, Repr

/-- R257, R280: what goes with the CNV state that the mirror carries (DESIGN CHOICE, notes/assumptions/72): the V_B ramp in mV / 5000, the
soft-stop reference in mA / 2,000,000,000, burst sleep, the string current target of EST in mA. -/
structure CnvInfo where
  ramp : Int := 0
  iref : Int := 0
  sleep : Bool := false
  tgt : Option Int := none
  deriving DecidableEq, Repr

/-- A peer as its last valid heartbeat showed it (R343, R344), its age in ms, heartbeats in a row, whether it is live (R345) and
counts in the sums since an epoch boundary. -/
structure Peer where
  v2 : Bool := false
  seq : Nat := 0
  flags : Nat := 0
  slot : Nat := 0
  kind : Nat := 0
  wait : Nat := 0
  soc : Nat := 65535
  oepoch : Nat := 0
  q : Nat := 0
  pb : Int := 0
  hd : Nat := 0
  hc : Nat := 0
  age : Nat := 0
  cnt : Nat := 0
  live : Bool := false
  counted : Bool := false
  deriving DecidableEq, Repr

/-- R367, R368: a tick frame, as it arrives and as it is sent: whether its CRC is good and on which lanes; the header; the control part (a pending
profile, tick and frame request where there is one; angles and active bit by phase; committed duties; what goes with the CNV state); state-region and parameter words of the
CTE, the words of the standard loop set; SAFM_OUTREQ and the sender's active check value; journal records of commands, acknowledged records, journal records of rings,
EST contexts and what goes with them, the node table beside its registers, registers of the node table and the configuration, peers of the
sheaf for a resynchronising module (R376); whether the frame is marked for a hand-over, its sender is in degraded mode, and CTE words are
outstanding. -/
structure TickFrame where
  crcOk : Bool := true
  lanes : Nat := 3
  ver : Nat := 2
  seq : Nat := 0
  epoch : Nat := 0
  tick : Nat := 0
  fnum : Nat := 0
  epos : Nat := 0
  esn : Nat := 0
  prof : Nat := 0
  profReq : Option Nat := none
  tickReq : Option Nat := none
  frameReq : Option Nat := none
  cnv : Nat := 0
  fcause : Nat := 0
  refsrc : Nat := 0
  nact : Nat := 0
  angles : List (Nat × Bool) := []
  duties : List Nat := []
  info : Option CnvInfo := none
  outreq : Nat := 0
  cv : Nat := 0
  shfSeq : Nat := 0
  delta : List (Nat × Int) := []
  std : Option StdSt := none
  params : List (Nat × Int) := []
  journal : List JRec := []
  acks : List (Nat × Nat) := []
  rings : List (Nat × JRing) := []
  ctx : List (Nat × Ctx) := []
  str : Option Ctx := none
  est : Option EstInfo := none
  ring : Option RingInfo := none
  regs : List (Nat × Nat) := []
  peers : List (Nat × Peer) := []
  mark : Bool := false
  deg : Bool := false
  lag : Bool := false
  deriving DecidableEq, Repr

end Machine


/-- The commands of the block: one constructor per row of the operation table. Each is one step of the part, whole and
indivisible; its operands are what comes from outside with it. -/
inductive Instr where
  /-- POWER_ON (R511) -/
  | powerOn
  /-- POWER_ON_RESET_RELEASE (R511) -/
  | powerOnResetRelease
  /-- INPUT_LOSS (R557) -/
  | inputLoss
  /-- HOLD_UP_END (R21) -/
  | holdUpEnd
  /-- VIN_RETURN (R557) -/
  | vinReturn
  /-- BANK_SUPPLY_CHANGE (R561) -/
  | bankSupplyChange (bankB : Bool) (present : Bool)
  /-- BOOT_STAGE0 (R512) -/
  | bootStage0
  /-- BOOT_STAGE1 (R512) -/
  | bootStage1
  /-- APPLICATION_START (R512) -/
  | applicationStart (peer : Bool)
  /-- READY (R512) -/
  | ready
  /-- DEVICE_RESET (R517) -/
  | deviceReset
  /-- POWER_CYCLE (R518) -/
  | powerCycle
  /-- PCYC_FALLBACK (R518) -/
  | pcycFallback
  /-- HOT_RESET (R516) -/
  | hotReset
  /-- WATCHDOG_KICK (R521) -/
  | watchdogKick (core : Nat)
  /-- WATCHDOG_WARNING (R521) -/
  | watchdogWarning
  /-- WATCHDOG_RESET (R521) -/
  | watchdogReset
  /-- FLR (R405) -/
  | flr (fn : Nat)
  /-- TICK_BOUNDARY (R53) -/
  | tickBoundary (outs : List (List Int))
  /-- ENGINE_PASS (R53) -/
  | enginePass
  /-- CTE_NOP (R268) -/
  | cteNop
  /-- LDA (R268) -/
  | cteLda (w : CteW)
  /-- MPY (R268) -/
  | cteMpy (w : CteW)
  /-- MAC (R268) -/
  | cteMac (w : CteW)
  /-- MSU (R268) -/
  | cteMsu (w : CteW)
  /-- ADD (R268) -/
  | cteAdd (w : CteW)
  /-- SUB (R268) -/
  | cteSub (w : CteW)
  /-- ADDA (R268) -/
  | cteAdda (w : CteW)
  /-- SUBA (R268) -/
  | cteSuba (w : CteW)
  /-- SHL (R268) -/
  | cteShl (w : CteW)
  /-- SHR (R268) -/
  | cteShr (w : CteW)
  /-- CLMP (R268) -/
  | cteClmp (w : CteW)
  /-- CMPLT (R268) -/
  | cteCmplt (w : CteW)
  /-- CMPGE (R268) -/
  | cteCmpge (w : CteW)
  /-- TST (R268) -/
  | cteTst (w : CteW)
  /-- STS (R266) -/
  | cteSts (w : CteW)
  /-- STU (R266) -/
  | cteStu (w : CteW)
  /-- MOV (R268) -/
  | cteMov (w : CteW)
  /-- CTE_END (R268) -/
  | cteEnd
  /-- COMMIT_POINT (R53) -/
  | commitPoint (xl : Bool) (hb : Bool)
  /-- CARRIER_PEAK (R285) -/
  | carrierPeak (k : Nat)
  /-- FRAME_BOUNDARY (R58) -/
  | frameBoundary
  /-- PROFILE_GO (R31) -/
  | profileGo (late : Bool)
  /-- TICK_PERIOD_REQUEST (R59) -/
  | tickPeriodRequest (req : Nat) (late : Bool)
  /-- TICK_FRAME_REQUEST (R59) -/
  | tickFrameRequest (req : Nat) (late : Bool)
  /-- SNAPSHOT_ARM (R67) -/
  | snapshotArm (late : Bool)
  /-- SNAPSHOT_CAPTURE (R66) -/
  | snapshotCapture (phase : Nat)
  /-- OPS_STORE (R63) -/
  | opsStore
  /-- OPS_REFRESH (R65) -/
  | opsRefresh
  /-- EVENT_SEQUENCE (R71) -/
  | eventSequence
  /-- REGISTER_WRITE (R33) -/
  | registerWrite (m : Master) (off : Nat) (v : Nat) (be : Nat) (late : Bool)
  /-- SET_ALIAS_WRITE (R41) -/
  | setAliasWrite (m : Master) (off : Nat) (v : Nat) (be : Nat) (late : Bool)
  /-- CLEAR_ALIAS_WRITE (R41) -/
  | clearAliasWrite (m : Master) (off : Nat) (v : Nat) (be : Nat) (late : Bool)
  /-- TOGGLE_ALIAS_WRITE (R41) -/
  | toggleAliasWrite (m : Master) (off : Nat) (v : Nat) (be : Nat) (late : Bool)
  /-- POSTED_WRITE (R45) -/
  | postedWrite (m : Master) (how : WMode) (off : Nat) (v : Nat) (be : Nat)
  /-- POSTED_WRITE_COMMIT (R45) -/
  | postedWriteCommit (block : Nat)
  /-- ENUM (R82) -/
  | enumReq
  /-- ENUMERATION (R83) -/
  | enumeration (found : EnumFound)
  /-- ENUMERATION_COMPLETE (R84) -/
  | enumerationComplete
  /-- ENUM_RETRY (R84) -/
  | enumRetry
  /-- DLYGO (R88) -/
  | dlygo
  /-- DELAY_REMEASURE_DUE (R88) -/
  | delayRemeasureDue
  /-- DELAY_MEASURE_COMPLETE (R88) -/
  | delayMeasureComplete (trips : List EchoBack)
  /-- NODE_SAMPLE (R90) -/
  | nodeSample (cur : Int)
  /-- RESULT_RECEIVED (R94) -/
  | resultReceived (port : Nat) (crcOk : Bool) (node : Nat) (set : Nat) (res : ResultSet) (pkt : PacketFrom)
  /-- READ_RETRY (R97) -/
  | readRetry (node : Nat) (port : Nat)
  /-- READOUT_COMPLETE (R23) -/
  | readoutComplete
  /-- READOUT_DEADLINE (R96) -/
  | readoutDeadline
  /-- FRAME_RECORD_PUBLISH (R141) -/
  | frameRecordPublish
  /-- BLEED_SCHEDULE_SEND (R152) -/
  | bleedScheduleSend (reached : List NodeAck)
  /-- OPEN_WIRE_DIAG_READ (R132) -/
  | openWireDiagRead (node : Nat) (diag : WireDiag)
  /-- NODE_DIAG_READ (R157) -/
  | nodeDiagRead (node : Nat) (temp : Int) (fault : FaultDiag)
  /-- HELLO_RECEIVED (R87) -/
  | helloReceived (port : Nat) (hello : Hello)
  /-- NODE_READDRESS (R87) -/
  | nodeReaddress (node : Nat) (desc : NodeDesc)
  /-- NODE_UNREACHABLE (R103) -/
  | nodeUnreachable (node : Nat)
  /-- NODE_FAULT (R99) -/
  | nodeFault (node : Nat) (cause : Nat)
  /-- LINK_BREAK (R102) -/
  | linkBreak (node : Nat)
  /-- TONE_LOSS (R100) -/
  | toneLoss (port : Nat)
  /-- TONE_RESTORE (R100) -/
  | toneRestore (port : Nat)
  /-- BREAK_LOCATED (R102) -/
  | breakLocated (lastA : Nat) (firstB : Nat)
  /-- RING_CLOSURE (R102) -/
  | ringClosure
  /-- MEAS_WINDOW_SELECT (R147) -/
  | measWindowSelect (node : Nat) (set : Nat)
  /-- COOLING_MESSAGE (R161) -/
  | coolingMessage
  /-- COOLING_UNIT_LOST (R162) -/
  | coolingUnitLost
  /-- BURST_DUE (R182) -/
  | burstDue
  /-- IMP_GO (R182) -/
  | impGo
  /-- IMP_ABORT (R181) -/
  | impAbort
  /-- BURST_SETUP (R176) -/
  | burstSetup (acked : List NodeAck)
  /-- BURST_SAMPLE (R178) -/
  | burstSample (cur : Int) (missed : List Nat)
  /-- BURST_READOUT_START (R179) -/
  | burstReadoutStart
  /-- BURST_PACKET_RECEIVED (R180) -/
  | burstPacketReceived (port : Nat) (crcOk : Bool) (node : Nat) (ch : Nat) (part : BurstPart)
  /-- BURST_PUBLISH (R186) -/
  | burstPublish
  /-- TIMP_EXPIRE (R188) -/
  | timpExpire
  /-- IMP_RESULT_SELECT (R195) -/
  | impResultSelect (pos : Nat)
  /-- NOREST_SET (R209) -/
  | norestSet
  /-- REST_REQ (R210) -/
  | restReq
  /-- REST_SLOT_END (R211) -/
  | restSlotEnd
  /-- GLEAN_REQ (R216) -/
  | gleanReq
  /-- GLEAN_ABORT (R219) -/
  | gleanAbort
  /-- GLEAN_REST_END (R216) -/
  | gleanRestEnd
  /-- SAVE_NOW (R223) -/
  | saveNow
  /-- PERIODIC_SAVE (R223) -/
  | periodicSave
  /-- SAVE_COMPLETE (R223) -/
  | saveComplete
  /-- EST_POSITION_SELECT (R228) -/
  | estPositionSelect (pos : Nat)
  /-- CNV_CLR (R243) -/
  | cnvClr (late : Bool)
  /-- ON_DELAY_EXPIRE (R243) -/
  | onDelayExpire
  /-- OFF_DELAY_EXPIRE (R243) -/
  | offDelayExpire
  /-- SOFT_START_STALL (R245) -/
  | softStartStall
  /-- RETRY_WAIT_EXPIRE (R243) -/
  | retryWaitExpire
  /-- SOFT_STOP_DONE (R250) -/
  | softStopDone
  /-- SOFT_STOP_TIMEOUT (R250) -/
  | softStopTimeout
  /-- PHASE_SHED (R252) -/
  | phaseShed
  /-- BURST_MODE_ENTER (R256) -/
  | burstModeEnter
  /-- CTE_LOAD_BIT (R272) -/
  | cteLoadBit
  /-- ADMISSION_CHECK (R272) -/
  | admissionCheck
  /-- CTE_STD (R276) -/
  | cteStd
  /-- CTE_HALT (R275) -/
  | cteHalt (late : Bool)
  /-- PM_DATA_WRITE (R273) -/
  | pmDataWrite (v : Nat)
  /-- DM_DATA_WRITE (R276) -/
  | dmDataWrite (v : Nat)
  /-- DM_DATA_READ (R276) -/
  | dmDataRead
  /-- PCOMMIT_GO (R276) -/
  | pcommitGo (late : Bool)
  /-- TRIP_INPUT (R284) -/
  | tripInput (n : Nat) (high : Bool)
  /-- CBC_INPUT (R285) -/
  | cbcInput (n : Nat) (high : Bool)
  /-- CBCP_TRIP (R285) -/
  | cbcpTrip (k : Nat)
  /-- GATE_OFF_LINE (R284) -/
  | gateOffLine (ch : Nat)
  /-- WINDOW_TRIP (R287) -/
  | windowTrip (n : Nat) (outs : List Int)
  /-- STREAM_LOSS (R288) -/
  | streamLoss (n : Nat) (present : Bool)
  /-- CLOCK_LOSS (R289) -/
  | clockLoss (present : Bool)
  /-- CROSS_CHECK_EVALUATE (R290) -/
  | crossCheckEvaluate
  /-- REFSTALE (R293) -/
  | refstale
  /-- OVERCURRENT_TRIP (R297) -/
  | overcurrentTrip
  /-- TRIP_CLEAR (R301) -/
  | tripClear (reg : Nat) (bits : Nat)
  /-- SAFETY_INPUT_SAMPLE (R321) -/
  | safetyInputSample (a : Nat) (b : Nat) (exA : Nat) (exB : Nat)
  /-- GATE_READBACK_TIMEOUT (R318) -/
  | gateReadbackTimeout (ch : Nat)
  /-- DISCREPANCY_FAULT (R322) -/
  | discrepancyFault (input : Nat)
  /-- TEST_PULSE (R323) -/
  | testPulse (side : Nat) (a : Nat) (b : Nat) (rb : Nat)
  /-- OUTPUT_OFF_PULSE (R325) -/
  | outputOffPulse (output : Nat) (side : Nat) (bad : Bool)
  /-- OUTPUT_CURRENT_LIMIT (R325) -/
  | outputCurrentLimit (output : Nat) (side : Nat)
  /-- OPEN_LOAD (R325) -/
  | openLoad (output : Nat)
  /-- CONTACTOR_FEEDBACK_TIMEOUT (R327) -/
  | contactorFeedbackTimeout (output : Nat)
  /-- CHANNEL_EXCHANGE (R312) -/
  | channelExchange (q : SafXch)
  /-- EXCHANGE_MISSING (R312) -/
  | exchangeMissing
  /-- SAFETY_WINDOW_END (R290) -/
  | safetyWindowEnd (count : Nat) (iA : List Int) (iB : List Int) (vA : List Int) (vB : List Int)
  /-- TONE_LINE_DEMAND (R316) -/
  | toneLineDemand
  /-- SINGLE_CHANNEL_FAULT (R328) -/
  | singleChannelFault (ch : Nat) (code : Nat)
  /-- DEGRADED_GATE_OFF (R328) -/
  | degradedGateOff
  /-- DEGRADED_MODE_END (R328) -/
  | degradedModeEnd
  /-- SAFE_STATE_ENTER (R315) -/
  | safeStateEnter
  /-- PARAM_CRC_CHECK (R329) -/
  | paramCrcCheck (okA : Bool) (okB : Bool)
  /-- SELF_TEST_SLICE (R329) -/
  | selfTestSlice (okA : Bool) (okB : Bool)
  /-- RAM_TEST (R329) -/
  | ramTest (okA : Bool) (okB : Bool)
  /-- FIRMWARE_CRC_CHECK (R329) -/
  | firmwareCrcCheck (okA : Bool) (okB : Bool)
  /-- POWER_ON_DIAG_COMPLETE (R329) -/
  | powerOnDiagComplete
  /-- STAGE (R333) -/
  | safStage
  /-- COMPUTE (R331) -/
  | safCompute
  /-- CLRFLT (R325) -/
  | safClrflt
  /-- RST (R319) -/
  | safRst
  /-- CLRWELD (R327) -/
  | safClrweld
  /-- PWDEND (R334) -/
  | safPwdend
  /-- PWDACT (R334) -/
  | safPwdact
  /-- SAFM_CONFIRM_WRITE (R333) -/
  | safmConfirmWrite (v : Nat)
  /-- SAFM_PDATA_WRITE (R338) -/
  | safmPdataWrite (v : Nat)
  /-- PASSWORD_WRITE (R334) -/
  | passwordWrite (w3 : Nat)
  /-- PASSWORD_SESSION_TIMEOUT (R334) -/
  | passwordSessionTimeout
  /-- PASSWORD_LOCKOUT_END (R334) -/
  | passwordLockoutEnd
  /-- SAFM_OUTREQ_WRITE (R320) -/
  | safmOutreqWrite (req : Nat)
  /-- SAFM_LOG_SELECT (R339) -/
  | safmLogSelect (idx : Nat)
  /-- HEARTBEAT_SEND (R342) -/
  | heartbeatSend
  /-- HEARTBEAT_RECEIVED (R345) -/
  | heartbeatReceived (h : HbFrame)
  /-- PEER_LOST (R345) -/
  | peerLost (pid : Nat)
  /-- REPORT_WAIT_EXPIRE (R349) -/
  | reportWaitExpire (pid : Nat)
  /-- REPORT_RECEIVED (R349) -/
  | reportReceived (sheaf : Nat) (len : Nat) (pid : Nat)
  /-- WATCH_SET_RECOMPUTE (R346) -/
  | watchSetRecompute
  /-- AGGREGATE_ENTRY_DROP (R344) -/
  | aggregateEntryDrop (pid : Nat)
  /-- DUPPID_CLEAR (R347) -/
  | duppidClear
  /-- SLOT_VIEW_EXPIRE (R354) -/
  | slotViewExpire (pid : Nat)
  /-- SLOT_REVOKE (R355) -/
  | slotRevoke
  /-- REVOKE (R355) -/
  | shfRevoke
  /-- SHF_EN_WRITE (R355) -/
  | shfEnWrite (en : Nat)
  /-- DISPATCH_FRAME_RECEIVED (R356) -/
  | dispatchFrameReceived (sheaf : Nat) (len : Nat) (hold : Nat) (seq : Nat) (p : Int)
  /-- DISPATCH_GO (R356) -/
  | dispatchGo
  /-- DISPATCH_TARGET_EXPIRE (R359) -/
  | dispatchTargetExpire
  /-- SHF_CONTEXT_SELECT (R362) -/
  | shfContextSelect (idx : Nat)
  /-- OWNERSHIP_GRANT_CHANGE (R365) -/
  | ownershipGrantChange (granted : Bool)
  /-- TICK_FRAME_RECEIVED (R368) -/
  | tickFrameReceived (f : Machine.TickFrame)
  /-- PATH_FAULT (R371) -/
  | pathFault (xl : Bool)
  /-- SWITCH_OVER (R372) -/
  | switchOver
  /-- STANDBY_LOST (R371) -/
  | standbyLost
  /-- GRANT_FAILURE (R371) -/
  | grantFailure
  /-- HANDOVER (R373) -/
  | handover
  /-- RESYNC_COMPLETE (R376) -/
  | resyncComplete (lo : Nat) (hi : Nat) (ms : Nat)
  /-- SUBMIT_DOORBELL (R389) -/
  | submitDoorbell (fn : Nat) (ring : Nat) (v : Nat)
  /-- COMPLETION_ACK_DOORBELL (R389) -/
  | completionAckDoorbell (fn : Nat) (ring : Nat) (v : Nat)
  /-- RESUME (R426) -/
  | ringResume (fn : Nat) (ring : Nat)
  /-- DESCRIPTOR_FETCH (R396) -/
  | descriptorFetch (ring : Nat)
  /-- COMMAND_ACCEPT (R396) -/
  | commandAccept (ring : Nat)
  /-- TLP_ERROR (R383) -/
  | tlpError
  /-- RING_CREATE (R403) -/
  | ringCreate (ring : Nat)
  /-- RING_DELETE (R404) -/
  | ringDelete (ring : Nat)
  /-- RING_DRAIN_COMPLETE (R404) -/
  | ringDrainComplete (ring : Nat)
  /-- RING_QUERY (R402) -/
  | ringQuery (ring : Nat)
  /-- RING_RESTART (R407) -/
  | ringRestart (ring : Nat)
  /-- RING_RESET (R402) -/
  | ringReset (ring : Nat)
  /-- VECTOR_MAP (R402) -/
  | vectorMap (ring : Nat)
  /-- STREAM_BIND (R402) -/
  | streamBind (ring : Nat)
  /-- ATU_INVALIDATE (R423) -/
  | atuInvalidate (ring : Nat)
  /-- IDENTIFY (R402) -/
  | identify (ring : Nat)
  /-- NOP (R402) -/
  | nopCmd (ring : Nat)
  /-- REG_READ (R551) -/
  | regRead (ring : Nat)
  /-- REG_WRITE (R402) -/
  | regWrite (ring : Nat)
  /-- REG_LIST (R402) -/
  | regList (ring : Nat)
  /-- CNV_ON (R402) -/
  | cnvOn (ring : Nat)
  /-- CNV_CLEAR (R402) -/
  | cnvClear (ring : Nat)
  /-- ISET (R402) -/
  | iset (ring : Nat)
  /-- DISPATCH_TARGET (R402) -/
  | dispatchTarget (ring : Nat)
  /-- VREF_NOM (R402) -/
  | vrefNom (ring : Nat)
  /-- OUTPUT_REQUEST (R402) -/
  | outputRequest (ring : Nat)
  /-- PROFILE (R402) -/
  | profileCmd (ring : Nat)
  /-- GLEAN (R402) -/
  | gleanCmd (ring : Nat)
  /-- REST (R402) -/
  | restCmd (ring : Nat)
  /-- IMP_BURST (R402) -/
  | impBurst (ring : Nat)
  /-- CTE_LOAD (R402) -/
  | cteLoad (ring : Nat)
  /-- CTE_PARAM (R402) -/
  | cteParam (ring : Nat)
  /-- SAVE (R402) -/
  | saveCmd (ring : Nat)
  /-- SNAPSHOT (R402) -/
  | snapshotCmd (ring : Nat)
  /-- EVR_READ (R402) -/
  | evrRead (ring : Nat)
  /-- POS_READ (R402) -/
  | posRead (ring : Nat)
  /-- ADMIN_RING_ENABLE (R412) -/
  | adminRingEnable (w : Nat)
  /-- MSIX_MESSAGE (R408) -/
  | msixMessage (vec : Nat) (timer : Bool)
  /-- D_STATE_CHANGE (R410) -/
  | dStateChange (fn : Nat) (d3 : Bool) (pme : Bool)
  /-- PME (R410) -/
  | pme (fn : Nat)
  /-- ATU_CONFIG_COMMIT (R421) -/
  | atuConfigCommit
  /-- DMA_SEGMENT (R424) -/
  | dmaSegment (l1 : TblRead) (l2 : TblRead) (bytes : List Nat)
  /-- FAULT_RECORD_FLUSH (R429) -/
  | faultRecordFlush
  /-- IRQ_ASSERT (R435) -/
  | irqAssert
  /-- IRQ_DELIVER (R438) -/
  | irqDeliver (core : Nat)
  /-- IRQ_EOI (R439) -/
  | irqEoi (core : Nat) (n : Nat)
  /-- HOLD_OFF_EXPIRE (R440) -/
  | holdOffExpire (group : Nat)
  /-- IRQ_PEND_DISCARD (R443) -/
  | irqPendDiscard (word : Nat) (bits : Nat)
  /-- IRQ_SGI (R446) -/
  | irqSgi (bits : Nat)
  /-- ETHERNET_FRAME_RECEIVE (R452) -/
  | ethernetFrameReceive (f : EthFrame)
  /-- ADDRESS_AGEOUT (R452) -/
  | addressAgeout (addr : Nat)
  /-- ETHERNET_LINK_CHANGE (R461) -/
  | ethernetLinkChange (port : Nat) (speed : Nat)
  /-- PTP_SYNC_RECEIVED (R462) -/
  | ptpSyncReceived (port : Nat) (sender : Nat) (t1 : Int) (t2 : Int) (corr : Int)
  /-- ANNOUNCE_RECEIVED (R461) -/
  | announceReceived (a : Announce)
  /-- ANNOUNCE_TIMEOUT (R464) -/
  | announceTimeout (port : Nat) (sender : Nat)
  /-- DELAY_REQ_SEND (R457) -/
  | delayReqSend (t3 : Int)
  /-- PDELAY_REQ_SEND (R460) -/
  | pdelayReqSend (port : Nat) (t1 : Int)
  /-- PDELAY_REQ_RECEIVED (R460) -/
  | pdelayReqReceived (port : Nat) (seq : Nat) (turn : Nat)
  /-- PDELAY_RESP_RECEIVED (R460) -/
  | pdelayRespReceived (port : Nat) (t4 : Int) (turn : Int)
  /-- LINK_DELAY_LOST (R460) -/
  | linkDelayLost (port : Nat)
  /-- FOLLOW_UP_MISS (R459) -/
  | followUpMiss (seq : Nat) (sender : Nat)
  /-- TSET (R466) -/
  | tset
  /-- STEPGO (R466) -/
  | stepgo
  /-- CAN_FRAME_RECEIVE (R474) -/
  | canFrameReceive (f : CanFrame)
  /-- TXREQ (R476) -/
  | txreq (obj : Nat)
  /-- TXABORT (R476) -/
  | txabort (obj : Nat)
  /-- CAN_TX_ACKNOWLEDGED (R476) -/
  | canTxAcknowledged (sec : Nat) (ns : Nat) (tdcv : Nat)
  /-- CAN_ACK_ERROR (R479) -/
  | canAckError (tdcv : Nat)
  /-- BUS_OFF (R478) -/
  | busOff
  /-- BUS_OFF_RECOVERY (R478) -/
  | busOffRecovery
  /-- CAN_INIT_RELEASE (R472) -/
  | canInitRelease
  /-- CAN_LOCK_WRITE (R475) -/
  | canLockWrite (obj : Nat) (v : Bool)
  /-- REFERENCE_MESSAGE_DUE (R480) -/
  | referenceMessageDue
  /-- SMB_GO (R483) -/
  | smbGo (busFree : Bool)
  /-- SMB0_TRANSFER_END (R484) -/
  | smb0TransferEnd (res : Nat) (count : Nat) (data : List Nat)
  /-- SMB0_BUS_TIMEOUT (R484) -/
  | smb0BusTimeout
  /-- CLEAR (R485) -/
  | smbClear (bySda : Bool)
  /-- BUS_CLEAR_ROUND_END (R485) -/
  | busClearRoundEnd (high : Bool)
  /-- BUS_CLEAR_HOLD_END (R485) -/
  | busClearHoldEnd
  /-- BUS_CLEAR_RETRY (R485) -/
  | busClearRetry
  /-- SMB_ALERT (R486) -/
  | smbAlert (ans : Option Nat)
  /-- SMB1_BLOCK_WRITE (R489) -/
  | smb1BlockWrite (addr : Nat) (code : Nat) (data : List Nat) (pecByte : Option Nat) (prev : Bool) (fin : SmbEnd)
  /-- SMB1_BLOCK_READ (R488) -/
  | smb1BlockRead (addr : Nat) (code : Nat) (prev : Bool) (fin : SmbEnd)
  /-- SMB1_TIMEOUT (R490) -/
  | smb1Timeout
  /-- ALERT (R491) -/
  | smbAlertSet
  /-- ALERTCLR (R491) -/
  | smbAlertClr
  /-- SMB1_ALERT_RESPONSE (R491) -/
  | smb1AlertResponse (won : Bool)
  /-- EVENT_RECORD (R499) -/
  | eventRecord
  /-- EVENT_FRAME_SEND (R508) -/
  | eventFrameSend
  /-- EVR_WINDOW_SELECT (R510) -/
  | evrWindowSelect (slot : Nat)
  /-- USB_ATTACH_CHANGE (R529) -/
  | usbAttachChange (attached : Bool)
  /-- HELLO (R529) -/
  | svcHello
  /-- AUTH (R529) -/
  | svcAuth (key : Nat) (ok : Bool)
  /-- AUTH_LOCKOUT_END (R529) -/
  | authLockoutEnd
  /-- SERVICE_SESSION_TIMEOUT (R529) -/
  | serviceSessionTimeout
  /-- SVC_REG_READ (R530) -/
  | svcRegRead (off : Nat)
  /-- SVC_REG_WRITE (R530) -/
  | svcRegWrite (off : Nat) (v : Nat) (late : Bool)
  /-- SVC_EVR_READ (R530) -/
  | svcEvrRead (idx : Nat)
  /-- UPLOAD (R533) -/
  | svcUpload (off : Nat) (data : List Nat) (sigOk : Bool) (hashOk : Bool) (sfw : Nat)
  /-- CHUNK_APPLIED (R535) -/
  | chunkApplied (hashOk : Bool) (sfw : Nat)
  /-- APPLY_RESUME (R536) -/
  | applyResume (sigOk : Bool)
  /-- COMMIT (R537) -/
  | updCommit
  /-- CANCEL (R541) -/
  | updCancel
  /-- BLC_WRITE (R514) -/
  | blcWrite (words : List Nat) (crcOk : Bool)
  /-- SVC_RESET (R530) -/
  | svcReset
  /-- SVC_STATUS (R530) -/
  | svcStatus
  /-- END (R530) -/
  | sessionEnd
  /-- SVC_BLOCK (R529) -/
  | svcBlock (block : Bool)
  /-- IMAGE_CONFIRM (R540) -/
  | imageConfirm
  /-- THERMAL_EVALUATE (R571) -/
  | thermalEvaluate (temp : Int)
  /-- CAN_BUS_ERROR (R478) -/
  | canBusError (lec : Nat) (own : Bool) (heavy : Bool)
  /-- MSIX_VECTOR_UNMASK (R409) -/
  | msixVectorUnmask (vec : Nat) (masked : Bool)
  /-- XL_LANE_FAILURE (R368) -/
  | xlLaneFailure (lane : Nat)
  /-- SMB0_BUS_FREE (R483) -/
  | smb0BusFree
  deriving DecidableEq, Repr

end Sys2Proof
end

