-- ==== Sys2Proof/Decode.lean ====
section
/-! DEFINITION. The command that a word spells. The operation table gives no row of this block any bits: a command is an event
at the block's ports, not a word it reads, so no word spells one (notes/assumptions/1). What words the block does read are
decoded where they are used: control engine instructions (`Machine/Cte.lean`), ring descriptors (`Machine/Ring.lean`),
translation table entries (`Machine/Atu.lean`). -/

namespace Sys2Proof

/-- The command that a word of `nbits` bits spells: none, since no row of the table has bits. -/
def decodeTableWord (_nbits _w : Nat) : Option Instr := none

end Sys2Proof
end

