-- ==== Sys2Proof/Config.lean ====
section
/-! DEFINITION. The free values: what the spec leaves open and the machine goes on with. Each is an opaque constant, so
nothing can be proved of its values, and every statement about the model holds whatever they are. -/

namespace Sys2Proof.Config

/-- The phase within the tick, in 125 ps units, of the `n`-th stamp or of an instant inside a tick (R70; notes/assumptions/2). -/
opaque freePhase : Nat → Nat

/-- A value the spec leaves unstated, by the place that needs it and what it may depend on (notes/assumptions/3). -/
opaque freeInt : Nat → Nat → Int

/-- The temperature where the formula of R135 has no value (BETA or RNOM 0) and where that of R188 gives one beyond its format
(notes/assumptions/3). -/
opaque freeTemp : Nat → Int

/-- The hash of a password that a safety channel keeps (R334; notes/assumptions/3). -/
opaque hash : Nat → Nat

end Sys2Proof.Config
end

