-- ==== Sys2Proof/Word.lean ====
section
/-! DEFINITION. Number conversions the whole model uses, the access types of R33, and what a register field is. -/

namespace Sys2Proof

/-- The two's complement reading of an unsigned field of `w` bits. -/
def toSigned (w n : Nat) : Int :=
  if 2 * (n % 2 ^ w) < 2 ^ w then (n % 2 ^ w : Nat) else ((n % 2 ^ w : Nat) : Int) - (2 ^ w : Nat)

/-- The field of `w` bits that holds an integer, modulo `2 ^ w`. -/
def ofSigned (w : Nat) (x : Int) : Nat := (x % ((2 ^ w : Nat) : Int)).toNat

end Sys2Proof

namespace Sys2Proof.Machine

/-- R33: the access type of a field. -/
inductive Acc where
  | rw | ro | w1c | w1s | wo | rwp
  deriving DecidableEq, Repr

/-- When a write of a field governs: at once; at a tick boundary (R17); at a frame boundary; at an epoch boundary;
at a tick boundary with CNV in OFF (R231); with CNV in OFF or FAULT (R303); at a frame boundary without a burst
(R173); with the function's rings FREE or FROZEN (R421); posted into a slow domain (R45); the request of MEAS_CFG
(R119); or by a command of its own. -/
inductive Cls where
  | imm | tick | frame | epoch | cnvOff | protOff | burst | rings | posted | cfgReq | own
  deriving DecidableEq, Repr

/-- One field of one register: CSR offset, lowest bit, width, reset value, access, instant of commit, place in a wide
value (1 the low word, 2 the high word, 0 none: R44), and whether its reset is the "Stored value" of the
configuration region. -/
structure Fld where
  off : Nat
  lsb : Nat
  width : Nat
  reset : Nat
  acc : Acc
  cls : Cls
  pair : Nat
  stored : Bool
  deriving DecidableEq, Repr

/-- The key of a field in the register store. -/
def Fld.key (f : Fld) : Nat := f.off * 32 + f.lsb

/-- A register, with two index ranges: base offset, count and stride of each index, and its fields at index 0. -/
structure RegDef where
  base : Nat
  n : Nat
  stride : Nat
  n2 : Nat
  stride2 : Nat
  flds : List Fld
  deriving DecidableEq, Repr

end Sys2Proof.Machine
end

