-- ==== Sys2Proof/Machine/Flags.lean ====
section
/-! DEFINITION. The arithmetic the blocks share: clamping and saturation, rounding, bits of a word, and the fixed-point
logarithm, square root, sine and angle the spec's formulas need. -/

namespace Sys2Proof.Machine

/-- Clamp an integer between two bounds. -/
def clampI (lo hi x : Int) : Int := if x < lo then lo else if hi < x then hi else x

/-- Saturate to `w` signed bits. -/
def satS (w : Nat) (x : Int) : Int := clampI (-((2 ^ (w - 1) : Nat) : Int)) (((2 ^ (w - 1) : Nat) : Int) - 1) x

/-- Saturate to `w` unsigned bits. -/
def satU (w : Nat) (x : Int) : Int := clampI 0 (((2 ^ w : Nat) : Int) - 1) x

/-- Nearest integer to `a / b`, halves upward (`b` above 0). -/
def roundDiv (a b : Int) : Int := (2 * a + b) / (2 * b)

/-- Nearest natural number to `a / b`, halves upward. -/
def roundDivN (a b : Nat) : Nat := (2 * a + b) / (2 * b)

/-- The least natural number at or above `a / b`. -/
def ceilDiv (a b : Nat) : Nat := (a + b - 1) / b

/-- The quotient of integers rounded toward zero. -/
def truncDiv (a b : Int) : Int := Int.tdiv a b

/-- Absolute value. -/
def absI (x : Int) : Int := if x < 0 then -x else x

/-- Bit `k` of a word. -/
def bitAt (n k : Nat) : Bool := (n / 2 ^ k) % 2 == 1

/-- `w` bits of a word from bit `k`. -/
def bitsAt (n k w : Nat) : Nat := (n / 2 ^ k) % 2 ^ w

/-- A truth value as a bit. -/
def b2n (b : Bool) : Nat := if b then 1 else 0

/-- The bits of `x` that `m` does not have. -/
def clearBits (x m : Nat) : Nat := Nat.xor x (Nat.land x m)

/-- The number of entries of a list for which a test holds. -/
def countIf {α : Type} (p : α → Bool) : List α → Nat
  | [] => 0
  | x :: xs => (if p x then 1 else 0) + countIf p xs

/-- Sum of a list of integers. -/
def sumI : List Int → Int
  | [] => 0
  | x :: xs => x + sumI xs

/-- Sum of a list of naturals. -/
def sumN : List Nat → Nat
  | [] => 0
  | x :: xs => x + sumN xs

/-- Largest of a list, from a start value. -/
def maxI (d : Int) : List Int → Int
  | [] => d
  | x :: xs => maxI (if d < x then x else d) xs

/-- Smallest of a list, from a start value. -/
def minI (d : Int) : List Int → Int
  | [] => d
  | x :: xs => minI (if x < d then x else d) xs

/-- Apply a function `n` times, told how many calls remain (n - 1 first, 0 last). -/
def times {α : Type} (f : Nat → α → α) : Nat → α → α
  | 0, x => x
  | n + 1, x => times f n (f n x)

/-- `0, 1, …, n - 1`. -/
def upTo (n : Nat) : List Nat := List.range n

/-- Fold a step over `0, 1, …, n - 1` in rising order. -/
def forUp {α : Type} (n : Nat) (f : Nat → α → α) (x : α) : α := (List.range n).foldl (fun a k => f k a) x

/-- The low `n` bytes of a number, lowest first. -/
def leBytes : Nat → Nat → List Nat
  | 0, _ => []
  | n + 1, v => v % 256 :: leBytes n (v / 256)

/-! ### Fixed point

Values are integers scaled by 2^40 unless said otherwise. The spec states real-number formulas and the rounding of
their results; these helpers stand for the real functions (DEDUCED, notes/assumptions/6). -/

/-- One step of the binary logarithm: square the mantissa (in [2^64, 2^65)) and take a bit. -/
def log2Step : Nat → Nat → Nat → Nat
  | 0, _, acc => acc
  | k + 1, m, acc =>
    let q := m * m / 2 ^ 64
    if 2 ^ 65 ≤ q then log2Step k (q / 2) (2 * acc + 1) else log2Step k q (2 * acc)

/-- log2 (num / den) scaled by 2^40, for positive `num`, `den` below 2^128. -/
def log2Fix (num den : Nat) : Int :=
  let r := num * 2 ^ 192 / den
  let e := Nat.log2 r
  let m := if 64 ≤ e then r / 2 ^ (e - 64) else r * 2 ^ (64 - e)
  ((e : Int) - 192) * 2 ^ 40 + (log2Step 40 m 0 : Nat)

/-- ln (num / den) scaled by 2^40; ln 2 = 0.693147… at 2^60. -/
def lnFix (num den : Nat) : Int := roundDiv (log2Fix num den * 799144290325165979) (2 ^ 60)

/-- One Newton step of the integer square root. -/
def sqrtStep : Nat → Nat → Nat → Nat
  | 0, _, x => x
  | k + 1, n, x => let y := (x + n / x) / 2; if x ≤ y then x else sqrtStep k n y

/-- The integer square root. -/
def isqrt (n : Nat) : Nat :=
  if n = 0 then 0 else sqrtStep (Nat.log2 n + 2) n (2 ^ (Nat.log2 n / 2 + 1))

/-- Taylor terms of the sine of `x` (scaled 2^40): the sum of terms from the term `t` of index `2k - 1` on. -/
def sinTerms : Nat → Nat → Int → Int → Int
  | 0, _, _, _ => 0
  | f + 1, k, t, x2 => t + sinTerms f (k + 1) (-(t * x2 / 2 ^ 40) / (((2 * k) * (2 * k + 1) : Nat) : Int)) x2

/-- sin (2π · turn / 2^40) scaled by 2^40, for a whole turn of 2^40. -/
def sinTurn (turn : Nat) : Int :=
  let t := turn % 2 ^ 40
  let q := t / 2 ^ 38
  let r := t % 2 ^ 38
  let a := if q % 2 = 0 then r else 2 ^ 38 - r
  let x : Int := ((a * 6908435304715 + 2 ^ 39) / 2 ^ 40 : Nat)
  let v := sinTerms 14 1 x (x * x / 2 ^ 40)
  if q < 2 then v else -v

/-- cos (2π · turn / 2^40) scaled by 2^40. -/
def cosTurn (turn : Nat) : Int := sinTurn (turn + 2 ^ 38)

/-- Bisection of the angle of a vector in the first octant pair: the largest `a` of `k` more bits with tan not above. -/
def atanBits : Nat → Nat → Int → Int → Nat
  | 0, a, _, _ => a
  | k + 1, a, y, x =>
    let b := a + 2 ^ k
    if sinTurn b * x ≤ y * cosTurn b then atanBits k b y x else atanBits k a y x

/-- The angle of (x, y) as a fraction of a turn scaled by 2^40, in [0, 2^40); 0 for the zero vector. -/
def angleTurn (y x : Int) : Nat :=
  let ay := absI y
  let ax := absI x
  let a := if ay = 0 then 0 else if ax = 0 then 2 ^ 38 else atanBits 38 0 ay ax
  if 0 ≤ x then (if 0 ≤ y then a else (2 ^ 40 - a) % 2 ^ 40)
  else (if 0 ≤ y then 2 ^ 39 - a else 2 ^ 39 + a)

end Sys2Proof.Machine
end

