-- ==== Sys2Proof/Machine/Registers.lean ====
section
/-! DEFINITION. The register map of the block: one `Fld` per field of the spec's register tables (its rule stands
before each register), named as the spec names it, `F.<REGISTER>.<FIELD>`, with its CSR offset, bit position, width,
access type, reset value and the instant at which a write of it governs; and `allRegs`, the table of registers that
a register access by offset looks in (R33 to R48, R547 and the address map). A register that the spec repeats by an
index takes the index counted from 0. -/

namespace Sys2Proof.Machine

/-! GLB_ID: R553 -/
def F.GLB_ID.TYPE : Fld := ⟨0x0, 0, 16, 9590, .ro, .imm, 0, false⟩
def F.GLB_ID.VARIANT : Fld := ⟨0x0, 16, 4, 0, .ro, .imm, 0, false⟩
/-! GLB_VER: R553 -/
def F.GLB_VER.STEP : Fld := ⟨0x4, 0, 8, 0, .ro, .imm, 0, false⟩
def F.GLB_VER.CHNVER : Fld := ⟨0x4, 8, 8, 2, .ro, .imm, 0, false⟩
/-! GLB_SER_LO: R553 -/
def F.GLB_SER_LO.SER : Fld := ⟨0x8, 0, 32, 0, .ro, .imm, 0, false⟩
/-! GLB_SER_HI: R553 -/
def F.GLB_SER_HI.SER : Fld := ⟨0xc, 0, 16, 0, .ro, .imm, 0, false⟩
/-! GLB_STAT: R553 -/
def F.GLB_STAT.READY : Fld := ⟨0x10, 0, 1, 0, .ro, .imm, 0, false⟩
def F.GLB_STAT.TRIP : Fld := ⟨0x10, 1, 1, 0, .ro, .imm, 0, false⟩
def F.GLB_STAT.CNVFAULT : Fld := ⟨0x10, 2, 1, 0, .ro, .imm, 0, false⟩
def F.GLB_STAT.SAFE : Fld := ⟨0x10, 3, 1, 0, .ro, .imm, 0, false⟩
def F.GLB_STAT.DEG : Fld := ⟨0x10, 4, 1, 0, .ro, .imm, 0, false⟩
def F.GLB_STAT.RECOVER : Fld := ⟨0x10, 5, 1, 0, .ro, .imm, 0, false⟩
def F.GLB_STAT.ROLE : Fld := ⟨0x10, 6, 2, 0, .ro, .imm, 0, false⟩
def F.GLB_STAT.THROTTLE : Fld := ⟨0x10, 8, 1, 0, .ro, .imm, 0, false⟩
def F.GLB_STAT.NOREST : Fld := ⟨0x10, 9, 1, 0, .ro, .imm, 0, false⟩
def F.GLB_STAT.ACCEPT : Fld := ⟨0x10, 10, 1, 1, .ro, .imm, 0, false⟩
/-! GLB_SCRATCH: R553 -/
def F.GLB_SCRATCH.DATA : Fld := ⟨0x20, 0, 32, 0, .rw, .imm, 0, false⟩
/-! GLB_ACCVIOL: R39 -/
def F.GLB_ACCVIOL.COUNT : Fld := ⟨0x30, 0, 16, 0, .rw, .imm, 0, false⟩
def F.GLB_ACCVIOL.MASTER : Fld := ⟨0x30, 16, 3, 0, .ro, .imm, 0, false⟩
def F.GLB_ACCVIOL.KIND : Fld := ⟨0x30, 19, 1, 0, .ro, .imm, 0, false⟩
/-! GLB_ACCVIOL_ADDR: R40 -/
def F.GLB_ACCVIOL_ADDR.OFFSET : Fld := ⟨0x34, 0, 19, 0, .ro, .imm, 0, false⟩
/-! GLB_RESET: R527 -/
def F.GLB_RESET.DEVRST : Fld := ⟨0x40, 0, 1, 0, .rwp, .own, 0, false⟩
def F.GLB_RESET.PCYC : Fld := ⟨0x40, 1, 1, 0, .rwp, .own, 0, false⟩
def F.GLB_RESET.KEY : Fld := ⟨0x40, 8, 8, 0, .rwp, .own, 0, false⟩
/-! GLB_RSTCAUSE: R527 -/
def F.GLB_RSTCAUSE.LAST : Fld := ⟨0x44, 0, 3, 0, .ro, .imm, 0, false⟩
def F.GLB_RSTCAUSE.PCYCREQ : Fld := ⟨0x44, 3, 1, 0, .ro, .imm, 0, false⟩
def F.GLB_RSTCAUSE.PCYCFAIL : Fld := ⟨0x44, 4, 1, 0, .ro, .imm, 0, false⟩
def F.GLB_RSTCAUSE.WDCNT : Fld := ⟨0x44, 8, 8, 0, .ro, .imm, 0, false⟩
def F.GLB_RSTCAUSE.DEVCNT : Fld := ⟨0x44, 16, 16, 0, .ro, .imm, 0, false⟩
/-! GLB_BOOT: R527 -/
def F.GLB_BOOT.STAGE : Fld := ⟨0x48, 0, 3, 0, .ro, .imm, 0, false⟩
def F.GLB_BOOT.BANK : Fld := ⟨0x48, 3, 1, 0, .ro, .imm, 0, false⟩
def F.GLB_BOOT.READY : Fld := ⟨0x48, 4, 1, 0, .ro, .imm, 0, false⟩
def F.GLB_BOOT.FALLBACK : Fld := ⟨0x48, 5, 1, 0, .ro, .imm, 0, false⟩
def F.GLB_BOOT.BOOTMS : Fld := ⟨0x48, 16, 16, 0, .ro, .imm, 0, false⟩
/-! GLB_WDT: R527 -/
def F.GLB_WDT.TMO : Fld := ⟨0x4c, 0, 16, 500, .ro, .imm, 0, false⟩
def F.GLB_WDT.WARN : Fld := ⟨0x4c, 16, 1, 0, .w1c, .imm, 0, false⟩
def F.GLB_WDT.KICKS : Fld := ⟨0x4c, 24, 8, 0, .rw, .imm, 0, false⟩
/-! BLC_SEAL: R525 -/
def F.BLC_SEAL.SEAL : Fld := ⟨0x4000, 0, 1, 0, .w1s, .imm, 0, false⟩
def F.BLC_SEAL.SEALED : Fld := ⟨0x4000, 1, 1, 0, .ro, .imm, 0, false⟩
def F.BLC_SEAL.DEF : Fld := ⟨0x4000, 2, 1, 0, .ro, .imm, 0, false⟩
def F.BLC_SEAL.CRCERR : Fld := ⟨0x4000, 3, 1, 0, .ro, .imm, 0, false⟩
/-! BLC_FVIEW: R525 -/
def F.BLC_FVIEW.SLOTEN (i : Nat) : Fld := ⟨0x4010 + 4 * i, 0, 16, 0, .rwp, .imm, 0, false⟩
def F.BLC_FVIEW.GWD (i : Nat) : Fld := ⟨0x4010 + 4 * i, 16, 6, 63, .rwp, .imm, 0, false⟩
/-! BLC_ATU: R525 -/
def F.BLC_ATU.BYPASS : Fld := ⟨0x4020, 0, 4, 0, .rwp, .imm, 0, false⟩
/-! BLC_RED: R525 -/
def F.BLC_RED.PAIR : Fld := ⟨0x4024, 0, 1, 0, .rwp, .imm, 0, false⟩
def F.BLC_RED.SOLOPERM : Fld := ⟨0x4024, 1, 1, 0, .rwp, .imm, 0, false⟩
/-! BLC_UPD: R525 -/
def F.BLC_UPD.SERIAL : Fld := ⟨0x4028, 0, 1, 0, .rwp, .imm, 0, false⟩
def F.BLC_UPD.DOWNGRADE : Fld := ⟨0x4028, 1, 1, 0, .rwp, .imm, 0, false⟩
def F.BLC_UPD.MINVER : Fld := ⟨0x4028, 16, 16, 0, .rwp, .imm, 0, false⟩
/-! BLC_WIN_BASE_LO: R526 -/
def F.BLC_WIN_BASE_LO.BASE (i : Nat) : Fld := ⟨0x4100 + 32 * i, 12, 20, 0, .rwp, .imm, 1, false⟩
/-! BLC_WIN_BASE_HI: R526 -/
def F.BLC_WIN_BASE_HI.BASE (i : Nat) : Fld := ⟨0x4104 + 32 * i, 0, 32, 0, .rwp, .imm, 2, false⟩
/-! BLC_WIN_LIM_LO: R526 -/
def F.BLC_WIN_LIM_LO.LIM (i : Nat) : Fld := ⟨0x4108 + 32 * i, 12, 20, 0, .rwp, .imm, 1, false⟩
/-! BLC_WIN_LIM_HI: R526 -/
def F.BLC_WIN_LIM_HI.LIM (i : Nat) : Fld := ⟨0x410c + 32 * i, 0, 32, 0, .rwp, .imm, 2, false⟩
/-! BLC_WIN_CTRL: R526 -/
def F.BLC_WIN_CTRL.FMASK (i : Nat) : Fld := ⟨0x4110 + 32 * i, 0, 4, 0, .rwp, .imm, 0, false⟩
def F.BLC_WIN_CTRL.EN (i : Nat) : Fld := ⟨0x4110 + 32 * i, 8, 1, 0, .rwp, .imm, 0, false⟩
/-! TICK_PERIOD: R60 -/
def F.TICK_PERIOD.REQ : Fld := ⟨0x8000, 0, 16, 10000, .rw, .own, 0, false⟩
def F.TICK_PERIOD.PEND : Fld := ⟨0x8000, 16, 1, 0, .ro, .imm, 0, false⟩
def F.TICK_PERIOD.ERR : Fld := ⟨0x8000, 17, 3, 0, .ro, .imm, 0, false⟩
/-! TICK_FRAME: R60 -/
def F.TICK_FRAME.REQ : Fld := ⟨0x8004, 0, 13, 500, .rw, .own, 0, false⟩
def F.TICK_FRAME.PEND : Fld := ⟨0x8004, 16, 1, 0, .ro, .imm, 0, false⟩
def F.TICK_FRAME.ERR : Fld := ⟨0x8004, 17, 3, 0, .ro, .imm, 0, false⟩
/-! TICK_CMISS: R56 -/
def F.TICK_CMISS.COUNT : Fld := ⟨0x8008, 0, 16, 0, .rw, .tick, 0, false⟩
/-! TICK_ACT: R61 -/
def F.TICK_ACT.PERIOD : Fld := ⟨0x800c, 0, 16, 10000, .ro, .imm, 0, false⟩
def F.TICK_ACT.NF : Fld := ⟨0x800c, 16, 13, 500, .ro, .imm, 0, false⟩
/-! TICK_COUNT_LO: R65 -/
def F.TICK_COUNT_LO.COUNT : Fld := ⟨0x8010, 0, 32, 0, .ro, .imm, 0, false⟩
/-! TICK_COUNT_HI: R65 -/
def F.TICK_COUNT_HI.COUNT : Fld := ⟨0x8014, 0, 16, 0, .ro, .imm, 0, false⟩
/-! TICK_FNUM: R65 -/
def F.TICK_FNUM.FNUM : Fld := ⟨0x8018, 0, 32, 0, .ro, .imm, 0, false⟩
/-! TICK_EPOS: R65 -/
def F.TICK_EPOS.EPOS : Fld := ⟨0x801c, 0, 4, 0, .ro, .imm, 0, false⟩
/-! TICK_OPS_LO: R65 -/
def F.TICK_OPS_LO.OPS : Fld := ⟨0x8020, 0, 32, 0, .ro, .imm, 0, false⟩
/-! TICK_OPS_HI: R65 -/
def F.TICK_OPS_HI.OPS : Fld := ⟨0x8024, 0, 16, 0, .ro, .imm, 0, false⟩
/-! TICK_PWRCYC: R65 -/
def F.TICK_PWRCYC.PWRCYC : Fld := ⟨0x8028, 0, 32, 0, .ro, .imm, 0, false⟩
/-! TICK_ESN_LO: R65 -/
def F.TICK_ESN_LO.ESN : Fld := ⟨0x8030, 0, 32, 0, .ro, .imm, 0, false⟩
/-! TICK_ESN_HI: R65 -/
def F.TICK_ESN_HI.ESN : Fld := ⟨0x8034, 0, 32, 0, .ro, .imm, 0, false⟩
/-! TICK_PROFILE: R31 -/
def F.TICK_PROFILE.REQ : Fld := ⟨0x8040, 0, 2, 0, .rw, .tick, 0, false⟩
def F.TICK_PROFILE.GO : Fld := ⟨0x8040, 8, 1, 0, .w1s, .own, 0, false⟩
def F.TICK_PROFILE.ACT : Fld := ⟨0x8040, 16, 2, 0, .ro, .imm, 0, false⟩
def F.TICK_PROFILE.PEND : Fld := ⟨0x8040, 24, 1, 0, .ro, .imm, 0, false⟩
def F.TICK_PROFILE.ERR : Fld := ⟨0x8040, 25, 3, 0, .ro, .imm, 0, false⟩
/-! TICK_PROFILE_SW: R32 -/
def F.TICK_PROFILE_SW.COUNT : Fld := ⟨0x8044, 0, 16, 0, .rw, .tick, 0, false⟩
def F.TICK_PROFILE_SW.FROM : Fld := ⟨0x8044, 16, 2, 0, .ro, .imm, 0, false⟩
/-! TICK_SNAP_CTRL: R68 -/
def F.TICK_SNAP_CTRL.SRC : Fld := ⟨0x8050, 0, 2, 0, .rw, .tick, 0, false⟩
def F.TICK_SNAP_CTRL.GO : Fld := ⟨0x8050, 8, 1, 0, .w1s, .own, 0, false⟩
def F.TICK_SNAP_CTRL.VALID : Fld := ⟨0x8050, 16, 1, 0, .ro, .imm, 0, false⟩
def F.TICK_SNAP_CTRL.PLOCK : Fld := ⟨0x8050, 17, 1, 0, .ro, .imm, 0, false⟩
def F.TICK_SNAP_CTRL.CAPS : Fld := ⟨0x8050, 24, 8, 0, .rw, .tick, 0, false⟩
/-! TICK_SNAP_TK_LO: R69 -/
def F.TICK_SNAP_TK_LO.TK : Fld := ⟨0x8060, 0, 32, 0, .ro, .imm, 0, false⟩
/-! TICK_SNAP_TK_HI: R69 -/
def F.TICK_SNAP_TK_HI.TK : Fld := ⟨0x8064, 0, 16, 0, .ro, .imm, 0, false⟩
/-! TICK_SNAP_PHASE: R69 -/
def F.TICK_SNAP_PHASE.PHASE : Fld := ⟨0x8068, 0, 20, 0, .ro, .imm, 0, false⟩
/-! TICK_SNAP_FNUM: R69 -/
def F.TICK_SNAP_FNUM.FNUM : Fld := ⟨0x806c, 0, 32, 0, .ro, .imm, 0, false⟩
/-! TICK_SNAP_PL_NS: R69 -/
def F.TICK_SNAP_PL_NS.NS : Fld := ⟨0x8070, 0, 30, 0, .ro, .imm, 0, false⟩
/-! TICK_SNAP_PL_S_LO: R69 -/
def F.TICK_SNAP_PL_S_LO.S : Fld := ⟨0x8074, 0, 32, 0, .ro, .imm, 0, false⟩
/-! TICK_SNAP_PL_S_HI: R69 -/
def F.TICK_SNAP_PL_S_HI.S : Fld := ⟨0x8078, 0, 16, 0, .ro, .imm, 0, false⟩
/-! TICK_SNAP_LK_LO: R69 -/
def F.TICK_SNAP_LK_LO.LK : Fld := ⟨0x807c, 0, 32, 0, .ro, .imm, 0, false⟩
/-! TICK_SNAP_LK_HI: R69 -/
def F.TICK_SNAP_LK_HI.LK : Fld := ⟨0x8080, 0, 32, 0, .ro, .imm, 0, false⟩
/-! TICK_SNAP_OPS_LO: R69 -/
def F.TICK_SNAP_OPS_LO.OPS : Fld := ⟨0x8084, 0, 32, 0, .ro, .imm, 0, false⟩
/-! TICK_SNAP_OPS_HI: R69 -/
def F.TICK_SNAP_OPS_HI.OPS : Fld := ⟨0x8088, 0, 16, 0, .ro, .imm, 0, false⟩
/-! TICK_SNAP_PWRCYC: R69 -/
def F.TICK_SNAP_PWRCYC.PWRCYC : Fld := ⟨0x808c, 0, 32, 0, .ro, .imm, 0, false⟩
/-! TICK_SNAP_ESN_LO: R69 -/
def F.TICK_SNAP_ESN_LO.ESN : Fld := ⟨0x8090, 0, 32, 0, .ro, .imm, 0, false⟩
/-! TICK_SNAP_ESN_HI: R69 -/
def F.TICK_SNAP_ESN_HI.ESN : Fld := ⟨0x8094, 0, 32, 0, .ro, .imm, 0, false⟩
/-! IRQ_SRC: R448 -/
def F.IRQ_SRC.PRIO (i : Nat) : Fld := ⟨0xc000 + 4 * i, 0, 4, 0, .rwp, .imm, 0, false⟩
def F.IRQ_SRC.TGT (i : Nat) : Fld := ⟨0xc000 + 4 * i, 4, 2, 0, .rwp, .imm, 0, false⟩
def F.IRQ_SRC.FAST (i : Nat) : Fld := ⟨0xc000 + 4 * i, 6, 1, 0, .rwp, .imm, 0, false⟩
def F.IRQ_SRC.EN (i : Nat) : Fld := ⟨0xc000 + 4 * i, 7, 1, 0, .rwp, .imm, 0, false⟩
def F.IRQ_SRC.URG (i : Nat) : Fld := ⟨0xc000 + 4 * i, 8, 1, 0, .rwp, .imm, 0, false⟩
def F.IRQ_SRC.STATE (i : Nat) : Fld := ⟨0xc000 + 4 * i, 12, 2, 0, .ro, .imm, 0, false⟩
def F.IRQ_SRC.OVR (i : Nat) : Fld := ⟨0xc000 + 4 * i, 16, 8, 0, .rw, .imm, 0, false⟩
/-! IRQ_CPU: R449 -/
def F.IRQ_CPU.THR (i : Nat) : Fld := ⟨0xc200 + 16 * i, 0, 4, 15, .rwp, .imm, 0, false⟩
def F.IRQ_CPU.RLVL (i : Nat) : Fld := ⟨0xc200 + 16 * i, 8, 4, 0, .ro, .imm, 0, false⟩
def F.IRQ_CPU.FACT (i : Nat) : Fld := ⟨0xc200 + 16 * i, 12, 1, 0, .ro, .imm, 0, false⟩
def F.IRQ_CPU.DEPTH (i : Nat) : Fld := ⟨0xc200 + 16 * i, 16, 4, 0, .ro, .imm, 0, false⟩
def F.IRQ_CPU.EOIERR (i : Nat) : Fld := ⟨0xc200 + 16 * i, 24, 8, 0, .rw, .imm, 0, false⟩
/-! IRQ_EOI: R449 -/
def F.IRQ_EOI.SRC (i : Nat) : Fld := ⟨0xc204 + 16 * i, 0, 7, 0, .wo, .own, 0, false⟩
/-! IRQ_VBASE: R449 -/
def F.IRQ_VBASE.BASE (i : Nat) : Fld := ⟨0xc208 + 16 * i, 9, 23, 0, .rwp, .imm, 0, false⟩
/-! IRQ_LAST: R449 -/
def F.IRQ_LAST.SRC (i : Nat) : Fld := ⟨0xc20c + 16 * i, 0, 7, 0, .ro, .imm, 0, false⟩
/-! IRQ_HOLD: R450 -/
def F.IRQ_HOLD.HOLD (i : Nat) : Fld := ⟨0xc300 + 4 * i, 0, 12, 0, .rwp, .imm, 0, false⟩
def F.IRQ_HOLD.RUN (i : Nat) : Fld := ⟨0xc300 + 4 * i, 16, 1, 0, .ro, .imm, 0, false⟩
def F.IRQ_HOLD.COAL (i : Nat) : Fld := ⟨0xc300 + 4 * i, 24, 8, 0, .rw, .imm, 0, false⟩
/-! IRQ_PEND: R450 -/
def F.IRQ_PEND.PEND (i : Nat) : Fld := ⟨0xc340 + 4 * i, 0, 32, 0, .w1c, .own, 0, false⟩
/-! IRQ_SGI: R450 -/
def F.IRQ_SGI.TRIG : Fld := ⟨0xc350, 0, 4, 0, .wo, .own, 0, false⟩
/-! IRQ_STAT: R450 -/
def F.IRQ_STAT.OVRSEEN : Fld := ⟨0xc354, 0, 1, 0, .w1c, .imm, 0, false⟩
def F.IRQ_STAT.NPEND : Fld := ⟨0xc354, 8, 8, 0, .ro, .imm, 0, false⟩
def F.IRQ_STAT.NACT : Fld := ⟨0xc354, 16, 8, 0, .ro, .imm, 0, false⟩
/-! HIF_VER: R412 -/
def F.HIF_VER.DMIN : Fld := ⟨0x10000, 0, 8, 1, .ro, .imm, 0, false⟩
def F.HIF_VER.DMAX : Fld := ⟨0x10000, 8, 8, 2, .ro, .imm, 0, false⟩
def F.HIF_VER.OPREV : Fld := ⟨0x10000, 16, 8, 1, .ro, .imm, 0, false⟩
/-! HIF_ASQ_LO: R412 -/
def F.HIF_ASQ_LO.BASE : Fld := ⟨0x10010, 12, 20, 0, .rwp, .imm, 1, false⟩
/-! HIF_ASQ_HI: R412 -/
def F.HIF_ASQ_HI.BASE : Fld := ⟨0x10014, 0, 16, 0, .rwp, .imm, 2, false⟩
/-! HIF_ACQ_LO: R412 -/
def F.HIF_ACQ_LO.BASE : Fld := ⟨0x10018, 12, 20, 0, .rwp, .imm, 1, false⟩
/-! HIF_ACQ_HI: R412 -/
def F.HIF_ACQ_HI.BASE : Fld := ⟨0x1001c, 0, 16, 0, .rwp, .imm, 2, false⟩
/-! HIF_AWB_LO: R412 -/
def F.HIF_AWB_LO.ADDR : Fld := ⟨0x10020, 3, 29, 0, .rwp, .imm, 1, false⟩
/-! HIF_AWB_HI: R412 -/
def F.HIF_AWB_HI.ADDR : Fld := ⟨0x10024, 0, 16, 0, .rwp, .imm, 2, false⟩
/-! HIF_ADM_CFG: R412 -/
def F.HIF_ADM_CFG.SQLOG2 : Fld := ⟨0x10028, 0, 4, 4, .rwp, .imm, 0, false⟩
def F.HIF_ADM_CFG.CQLOG2 : Fld := ⟨0x10028, 4, 4, 4, .rwp, .imm, 0, false⟩
def F.HIF_ADM_CFG.VER : Fld := ⟨0x10028, 8, 1, 1, .rwp, .imm, 0, false⟩
def F.HIF_ADM_CFG.EN : Fld := ⟨0x10028, 31, 1, 0, .rwp, .own, 0, false⟩
/-! HIF_STAT: R413 -/
def F.HIF_STAT.ACCEPT : Fld := ⟨0x10030, 0, 1, 1, .ro, .imm, 0, false⟩
def F.HIF_STAT.JFULL : Fld := ⟨0x10030, 1, 1, 0, .ro, .imm, 0, false⟩
def F.HIF_STAT.RECOVER : Fld := ⟨0x10030, 2, 1, 0, .ro, .imm, 0, false⟩
def F.HIF_STAT.CQFULL : Fld := ⟨0x10030, 3, 1, 0, .ro, .imm, 0, false⟩
/-! HIF_JUSE: R413 -/
def F.HIF_JUSE.USED : Fld := ⟨0x10034, 0, 14, 0, .ro, .imm, 0, false⟩
def F.HIF_JUSE.HIGH : Fld := ⟨0x10034, 16, 14, 0, .rw, .imm, 0, false⟩
/-! HIF_DUPCNT: R413 -/
def F.HIF_DUPCNT.COUNT : Fld := ⟨0x10038, 0, 16, 0, .rw, .imm, 0, false⟩
/-! HIF_DBERR: R413 -/
def F.HIF_DBERR.COUNT : Fld := ⟨0x1003c, 0, 16, 0, .rw, .imm, 0, false⟩
def F.HIF_DBERR.RING : Fld := ⟨0x1003c, 16, 6, 0, .ro, .imm, 0, false⟩
def F.HIF_DBERR.FUNC : Fld := ⟨0x1003c, 24, 2, 0, .ro, .imm, 0, false⟩
/-! HIF_RSTAT: R414 -/
def F.HIF_RSTAT.STATE (i : Nat) : Fld := ⟨0x10100 + 4 * i, 0, 3, 0, .ro, .imm, 0, false⟩
def F.HIF_RSTAT.TYPE (i : Nat) : Fld := ⟨0x10100 + 4 * i, 3, 2, 0, .ro, .imm, 0, false⟩
def F.HIF_RSTAT.VER (i : Nat) : Fld := ⟨0x10100 + 4 * i, 5, 1, 0, .ro, .imm, 0, false⟩
def F.HIF_RSTAT.OWNER (i : Nat) : Fld := ⟨0x10100 + 4 * i, 6, 2, 0, .ro, .imm, 0, false⟩
def F.HIF_RSTAT.LOG2N (i : Nat) : Fld := ⟨0x10100 + 4 * i, 8, 4, 0, .ro, .imm, 0, false⟩
def F.HIF_RSTAT.ERR (i : Nat) : Fld := ⟨0x10100 + 4 * i, 12, 4, 0, .ro, .imm, 0, false⟩
def F.HIF_RSTAT.VEC (i : Nat) : Fld := ⟨0x10100 + 4 * i, 16, 4, 0, .ro, .imm, 0, false⟩
def F.HIF_RSTAT.IEN (i : Nat) : Fld := ⟨0x10100 + 4 * i, 20, 1, 0, .ro, .imm, 0, false⟩
def F.HIF_RSTAT.PAIR (i : Nat) : Fld := ⟨0x10100 + 4 * i, 24, 6, 0, .ro, .imm, 0, false⟩
/-! HIF_RIDX: R414 -/
def F.HIF_RIDX.MOD (i : Nat) : Fld := ⟨0x10200 + 4 * i, 0, 16, 0, .ro, .imm, 0, false⟩
def F.HIF_RIDX.HOST (i : Nat) : Fld := ⟨0x10200 + 4 * i, 16, 16, 0, .ro, .imm, 0, false⟩
/-! HIF_RDROP: R414 -/
def F.HIF_RDROP.COUNT (i : Nat) : Fld := ⟨0x10300 + 4 * i, 0, 16, 0, .rw, .imm, 0, false⟩
/-! HIF_MOD: R415 -/
def F.HIF_MOD.TIMER (i : Nat) : Fld := ⟨0x10400 + 4 * i, 0, 10, 0, .ro, .imm, 0, false⟩
def F.HIF_MOD.COUNT (i : Nat) : Fld := ⟨0x10400 + 4 * i, 16, 8, 1, .ro, .imm, 0, false⟩
def F.HIF_MOD.PENDING (i : Nat) : Fld := ⟨0x10400 + 4 * i, 24, 8, 0, .ro, .imm, 0, false⟩
/-! ATU_CFG: R432 -/
def F.ATU_CFG.MODE (i : Nat) : Fld := ⟨0x14000 + 16 * i, 0, 2, 0, .rwp, .rings, 0, false⟩
def F.ATU_CFG.PEND (i : Nat) : Fld := ⟨0x14000 + 16 * i, 4, 1, 0, .ro, .imm, 0, false⟩
def F.ATU_CFG.ERR (i : Nat) : Fld := ⟨0x14000 + 16 * i, 5, 2, 0, .ro, .imm, 0, false⟩
def F.ATU_CFG.L1N (i : Nat) : Fld := ⟨0x14000 + 16 * i, 14, 18, 0, .rwp, .rings, 0, false⟩
/-! ATU_ROOT_LO: R432 -/
def F.ATU_ROOT_LO.ROOT (i : Nat) : Fld := ⟨0x14004 + 16 * i, 6, 26, 0, .rwp, .rings, 1, false⟩
/-! ATU_ROOT_HI: R432 -/
def F.ATU_ROOT_HI.ROOT (i : Nat) : Fld := ⟨0x14008 + 16 * i, 0, 32, 0, .rwp, .rings, 2, false⟩
/-! ATU_STAT: R433 -/
def F.ATU_STAT.NSTALL : Fld := ⟨0x14040, 0, 7, 0, .ro, .imm, 0, false⟩
def F.ATU_STAT.R3STALL : Fld := ⟨0x14040, 8, 1, 0, .ro, .imm, 0, false⟩
def F.ATU_STAT.NHELD : Fld := ⟨0x14040, 9, 4, 0, .ro, .imm, 0, false⟩
/-! ATU_FCNT: R433 -/
def F.ATU_FCNT.FAULTS : Fld := ⟨0x14044, 0, 16, 0, .rw, .imm, 0, false⟩
def F.ATU_FCNT.FDROP : Fld := ⟨0x14044, 16, 16, 0, .rw, .imm, 0, false⟩
/-! ATU_WALKS: R433 -/
def F.ATU_WALKS.COUNT : Fld := ⟨0x14048, 0, 32, 0, .rw, .imm, 0, false⟩
/-! ATU_INVCNT: R433 -/
def F.ATU_INVCNT.COUNT : Fld := ⟨0x1404c, 0, 16, 0, .rw, .imm, 0, false⟩
/-! ATU_LASTF_RING: R433 -/
def F.ATU_LASTF_RING.RING : Fld := ⟨0x14050, 0, 6, 0, .ro, .imm, 0, false⟩
def F.ATU_LASTF_RING.FUNC : Fld := ⟨0x14050, 8, 2, 0, .ro, .imm, 0, false⟩
def F.ATU_LASTF_RING.CAUSE : Fld := ⟨0x14050, 16, 3, 0, .ro, .imm, 0, false⟩
def F.ATU_LASTF_RING.KIND : Fld := ⟨0x14050, 24, 4, 0, .ro, .imm, 0, false⟩
/-! ATU_LASTF_IOVA_LO: R433 -/
def F.ATU_LASTF_IOVA_LO.IOVA : Fld := ⟨0x14054, 0, 32, 0, .ro, .imm, 0, false⟩
/-! ATU_LASTF_IOVA_HI: R433 -/
def F.ATU_LASTF_IOVA_HI.IOVA : Fld := ⟨0x14058, 0, 32, 0, .ro, .imm, 0, false⟩
/-! ATU_LASTF_DONE: R433 -/
def F.ATU_LASTF_DONE.BYTES : Fld := ⟨0x1405c, 0, 32, 0, .ro, .imm, 0, false⟩
/-! ATU_PRIO: R433 -/
def F.ATU_PRIO.AGE : Fld := ⟨0x14060, 0, 8, 64, .rwp, .imm, 0, false⟩
/-! ATU_PREEMPT: R433 -/
def F.ATU_PREEMPT.COUNT : Fld := ⟨0x14064, 0, 16, 0, .rw, .imm, 0, false⟩
/-! CHN_CTRL: R105 -/
def F.CHN_CTRL.ENUM : Fld := ⟨0x18000, 0, 1, 0, .w1s, .own, 0, false⟩
def F.CHN_CTRL.DLYGO : Fld := ⟨0x18000, 1, 1, 0, .w1s, .own, 0, false⟩
def F.CHN_CTRL.VERMAX : Fld := ⟨0x18000, 2, 2, 2, .rw, .posted, 0, false⟩
/-! CHN_CFG: R106 -/
def F.CHN_CFG.NNODE_EXP : Fld := ⟨0x18004, 0, 6, 0, .rwp, .posted, 0, true⟩
def F.CHN_CFG.DLY_PERIOD : Fld := ⟨0x18004, 16, 16, 6000, .rw, .posted, 0, false⟩
/-! CHN_STAT: R107 -/
def F.CHN_STAT.NNODE : Fld := ⟨0x18008, 0, 6, 0, .ro, .imm, 0, false⟩
def F.CHN_STAT.ENUMDONE : Fld := ⟨0x18008, 6, 1, 0, .ro, .imm, 0, false⟩
def F.CHN_STAT.CLOSED : Fld := ⟨0x18008, 7, 1, 0, .ro, .imm, 0, false⟩
def F.CHN_STAT.RINGREV : Fld := ⟨0x18008, 8, 1, 0, .ro, .imm, 0, false⟩
def F.CHN_STAT.ENUMERR : Fld := ⟨0x18008, 9, 3, 0, .ro, .imm, 0, false⟩
def F.CHN_STAT.POLA : Fld := ⟨0x18008, 12, 1, 0, .ro, .imm, 0, false⟩
def F.CHN_STAT.POLB : Fld := ⟨0x18008, 13, 1, 0, .ro, .imm, 0, false⟩
def F.CHN_STAT.DLYCHG : Fld := ⟨0x18008, 14, 1, 0, .w1c, .posted, 0, false⟩
def F.CHN_STAT.SWAPSEEN : Fld := ⟨0x18008, 15, 1, 0, .w1c, .posted, 0, false⟩
def F.CHN_STAT.ENUMCNT : Fld := ⟨0x18008, 24, 8, 0, .rw, .posted, 0, false⟩
/-! CHN_BRK: R108 -/
def F.CHN_BRK.LASTA : Fld := ⟨0x1800c, 0, 6, 63, .ro, .imm, 0, false⟩
def F.CHN_BRK.FIRSTB : Fld := ⟨0x1800c, 8, 6, 63, .ro, .imm, 0, false⟩
def F.CHN_BRK.BROKEN : Fld := ⟨0x1800c, 16, 1, 0, .ro, .imm, 0, false⟩
/-! CHN_TONE: R108 -/
def F.CHN_TONE.TONEA : Fld := ⟨0x18010, 0, 1, 0, .ro, .imm, 0, false⟩
def F.CHN_TONE.TONEB : Fld := ⟨0x18010, 1, 1, 0, .ro, .imm, 0, false⟩
def F.CHN_TONE.LOSSA : Fld := ⟨0x18010, 2, 1, 0, .w1c, .posted, 0, false⟩
def F.CHN_TONE.LOSSB : Fld := ⟨0x18010, 3, 1, 0, .w1c, .posted, 0, false⟩
def F.CHN_TONE.LOSSCNT : Fld := ⟨0x18010, 16, 16, 0, .rw, .posted, 0, false⟩
/-! CHN_ERR_A: R109 -/
def F.CHN_ERR_A.CRC : Fld := ⟨0x18014, 0, 16, 0, .rw, .posted, 0, false⟩
def F.CHN_ERR_A.RETRY : Fld := ⟨0x18014, 16, 16, 0, .rw, .posted, 0, false⟩
/-! CHN_ERR_B: R109 -/
def F.CHN_ERR_B.CRC : Fld := ⟨0x18018, 0, 16, 0, .rw, .posted, 0, false⟩
def F.CHN_ERR_B.RETRY : Fld := ⟨0x18018, 16, 16, 0, .rw, .posted, 0, false⟩
/-! CHN_ROEST: R110 -/
def F.CHN_ROEST.TICKS : Fld := ⟨0x1801c, 0, 13, 0, .ro, .imm, 0, false⟩
def F.CHN_ROEST.DEADLINE : Fld := ⟨0x1801c, 16, 13, 0, .ro, .imm, 0, false⟩
/-! CHN_NSER_LO: R111 -/
def F.CHN_NSER_LO.SER (i : Nat) : Fld := ⟨0x18100 + 16 * i, 0, 32, 0, .ro, .imm, 0, false⟩
/-! CHN_NSER_HI: R111 -/
def F.CHN_NSER_HI.SER (i : Nat) : Fld := ⟨0x18104 + 16 * i, 0, 16, 0, .ro, .imm, 0, false⟩
/-! CHN_NINFO: R111 -/
def F.CHN_NINFO.GEN (i : Nat) : Fld := ⟨0x18108 + 16 * i, 0, 2, 0, .ro, .imm, 0, false⟩
def F.CHN_NINFO.VER (i : Nat) : Fld := ⟨0x18108 + 16 * i, 2, 2, 0, .ro, .imm, 0, false⟩
def F.CHN_NINFO.SWAP (i : Nat) : Fld := ⟨0x18108 + 16 * i, 4, 1, 0, .ro, .imm, 0, false⟩
def F.CHN_NINFO.REACH (i : Nat) : Fld := ⟨0x18108 + 16 * i, 5, 1, 0, .ro, .imm, 0, false⟩
def F.CHN_NINFO.PATH (i : Nat) : Fld := ⟨0x18108 + 16 * i, 6, 1, 0, .ro, .imm, 0, false⟩
def F.CHN_NINFO.SYNCALT (i : Nat) : Fld := ⟨0x18108 + 16 * i, 7, 1, 0, .ro, .imm, 0, false⟩
def F.CHN_NINFO.POLA (i : Nat) : Fld := ⟨0x18108 + 16 * i, 8, 1, 0, .ro, .imm, 0, false⟩
def F.CHN_NINFO.POLB (i : Nat) : Fld := ⟨0x18108 + 16 * i, 9, 1, 0, .ro, .imm, 0, false⟩
def F.CHN_NINFO.FAULT (i : Nat) : Fld := ⟨0x18108 + 16 * i, 10, 1, 0, .ro, .imm, 0, false⟩
def F.CHN_NINFO.MISS (i : Nat) : Fld := ⟨0x18108 + 16 * i, 16, 8, 0, .ro, .imm, 0, false⟩
/-! CHN_NDLY: R111 -/
def F.CHN_NDLY.DA (i : Nat) : Fld := ⟨0x1810c + 16 * i, 0, 16, 0, .ro, .imm, 0, false⟩
def F.CHN_NDLY.DB (i : Nat) : Fld := ⟨0x1810c + 16 * i, 16, 16, 0, .ro, .imm, 0, false⟩
/-! CHN_CSER_LO: R112 -/
def F.CHN_CSER_LO.SER (i : Nat) : Fld := ⟨0x18400 + 8 * i, 0, 32, 0, .rwp, .posted, 1, true⟩
/-! CHN_CSER_HI: R112 -/
def F.CHN_CSER_HI.SER (i : Nat) : Fld := ⟨0x18404 + 8 * i, 0, 16, 0, .rwp, .posted, 2, true⟩
/-! CHN_XSTAT: R46 -/
def F.CHN_XSTAT.BUSY : Fld := ⟨0x18ffc, 0, 1, 0, .ro, .imm, 0, false⟩
def F.CHN_XSTAT.WDROP : Fld := ⟨0x18ffc, 1, 1, 0, .w1c, .imm, 0, false⟩
/-! MEAS_CFG: R143 -/
def F.MEAS_CFG.MODE : Fld := ⟨0x1c000, 0, 1, 0, .rw, .cfgReq, 0, false⟩
def F.MEAS_CFG.N : Fld := ⟨0x1c000, 8, 7, 1, .rw, .cfgReq, 0, false⟩
def F.MEAS_CFG.S : Fld := ⟨0x1c000, 16, 12, 1, .rw, .cfgReq, 0, false⟩
def F.MEAS_CFG.PEND : Fld := ⟨0x1c000, 28, 1, 0, .ro, .imm, 0, false⟩
def F.MEAS_CFG.ERR : Fld := ⟨0x1c000, 29, 3, 0, .ro, .imm, 0, false⟩
/-! MEAS_PHASE: R144 -/
def F.MEAS_PHASE.PHASE : Fld := ⟨0x1c004, 0, 16, 32768, .rw, .frame, 0, false⟩
/-! MEAS_OW: R144 -/
def F.MEAS_OW.PERIOD : Fld := ⟨0x1c008, 0, 16, 100, .rw, .frame, 0, false⟩
def F.MEAS_OW.THR : Fld := ⟨0x1c008, 16, 10, 200, .rw, .frame, 0, false⟩
/-! MEAS_TNTC: R144 -/
def F.MEAS_TNTC.BETA : Fld := ⟨0x1c00c, 0, 16, 3435, .rw, .frame, 0, false⟩
def F.MEAS_TNTC.RNOM : Fld := ⟨0x1c00c, 16, 16, 1000, .rw, .frame, 0, false⟩
/-! MEAS_THOT: R144 -/
def F.MEAS_THOT.HOT : Fld := ⟨0x1c010, 0, 16, 600, .rw, .frame, 0, false⟩
/-! MEAS_TNB_MARGIN: R144 -/
def F.MEAS_TNB_MARGIN.MARGIN : Fld := ⟨0x1c014, 0, 16, 50, .rw, .frame, 0, false⟩
def F.MEAS_TNB_MARGIN.DEV : Fld := ⟨0x1c014, 16, 16, 150, .rw, .frame, 0, false⟩
/-! MEAS_UNR: R144 -/
def F.MEAS_UNR.TREAT : Fld := ⟨0x1c018, 0, 1, 0, .rwp, .frame, 0, false⟩
def F.MEAS_UNR.STALE_LIM : Fld := ⟨0x1c018, 8, 8, 50, .rwp, .frame, 0, false⟩
/-! MEAS_STAT: R146 -/
def F.MEAS_STAT.NVALID : Fld := ⟨0x1c01c, 0, 10, 0, .ro, .imm, 0, false⟩
def F.MEAS_STAT.NHELD : Fld := ⟨0x1c01c, 10, 10, 0, .ro, .imm, 0, false⟩
def F.MEAS_STAT.OWSEEN : Fld := ⟨0x1c01c, 20, 1, 0, .w1c, .imm, 0, false⟩
def F.MEAS_STAT.REVSEEN : Fld := ⟨0x1c01c, 21, 1, 0, .w1c, .imm, 0, false⟩
def F.MEAS_STAT.OVRSEEN : Fld := ⟨0x1c01c, 22, 1, 0, .w1c, .imm, 0, false⟩
def F.MEAS_STAT.LOSTSEEN : Fld := ⟨0x1c01c, 23, 1, 0, .w1c, .imm, 0, false⟩
def F.MEAS_STAT.TBRKSEEN : Fld := ⟨0x1c01c, 24, 1, 0, .w1c, .imm, 0, false⟩
def F.MEAS_STAT.BLOFFERR : Fld := ⟨0x1c01c, 25, 1, 0, .w1c, .imm, 0, false⟩
def F.MEAS_STAT.NPOSERR : Fld := ⟨0x1c01c, 26, 1, 0, .ro, .imm, 0, false⟩
/-! MEAS_FNUM: R146 -/
def F.MEAS_FNUM.FNUM : Fld := ⟨0x1c020, 0, 32, 0, .ro, .imm, 0, false⟩
/-! MEAS_IS: R146 -/
def F.MEAS_IS.IS : Fld := ⟨0x1c024, 0, 32, 0, .ro, .imm, 0, false⟩
/-! MEAS_OWCNT: R146 -/
def F.MEAS_OWCNT.TESTS : Fld := ⟨0x1c028, 0, 16, 0, .rw, .imm, 0, false⟩
def F.MEAS_OWCNT.UNCONF : Fld := ⟨0x1c028, 16, 16, 0, .rw, .imm, 0, false⟩
/-! MEAS_NCFG: R145 -/
def F.MEAS_NCFG.NPOS (i : Nat) : Fld := ⟨0x1c100 + 4 * i, 0, 5, 16, .rwp, .frame, 0, false⟩
def F.MEAS_NCFG.TTREAT (i : Nat) : Fld := ⟨0x1c100 + 4 * i, 5, 1, 0, .rw, .frame, 0, false⟩
def F.MEAS_NCFG.NTCEN (i : Nat) : Fld := ⟨0x1c100 + 4 * i, 8, 8, 255, .rw, .frame, 0, false⟩
/-! MEAS_WSEL: R147 -/
def F.MEAS_WSEL.NODE : Fld := ⟨0x1c200, 0, 6, 0, .rw, .own, 0, false⟩
def F.MEAS_WSEL.SET : Fld := ⟨0x1c200, 8, 3, 0, .rw, .own, 0, false⟩
def F.MEAS_WSEL.WVALID : Fld := ⟨0x1c200, 16, 1, 0, .ro, .imm, 0, false⟩
/-! MEAS_WFNUM: R147 -/
def F.MEAS_WFNUM.FNUM : Fld := ⟨0x1c204, 0, 32, 0, .ro, .imm, 0, false⟩
/-! MEAS_WIS: R147 -/
def F.MEAS_WIS.IS : Fld := ⟨0x1c208, 0, 32, 0, .ro, .imm, 0, false⟩
/-! MEAS_WPV: R148 -/
def F.MEAS_WPV.CODE (i : Nat) : Fld := ⟨0x1c210 + 4 * i, 0, 16, 0, .ro, .imm, 0, false⟩
def F.MEAS_WPV.AGE (i : Nat) : Fld := ⟨0x1c210 + 4 * i, 16, 8, 0, .ro, .imm, 0, false⟩
def F.MEAS_WPV.VALID (i : Nat) : Fld := ⟨0x1c210 + 4 * i, 24, 1, 0, .ro, .imm, 0, false⟩
def F.MEAS_WPV.PATH (i : Nat) : Fld := ⟨0x1c210 + 4 * i, 25, 1, 0, .ro, .imm, 0, false⟩
def F.MEAS_WPV.SYNCALT (i : Nat) : Fld := ⟨0x1c210 + 4 * i, 26, 1, 0, .ro, .imm, 0, false⟩
def F.MEAS_WPV.OPENWIRE (i : Nat) : Fld := ⟨0x1c210 + 4 * i, 27, 1, 0, .ro, .imm, 0, false⟩
def F.MEAS_WPV.REV (i : Nat) : Fld := ⟨0x1c210 + 4 * i, 28, 1, 0, .ro, .imm, 0, false⟩
def F.MEAS_WPV.OVR (i : Nat) : Fld := ⟨0x1c210 + 4 * i, 29, 1, 0, .ro, .imm, 0, false⟩
def F.MEAS_WPV.UNREACH (i : Nat) : Fld := ⟨0x1c210 + 4 * i, 30, 1, 0, .ro, .imm, 0, false⟩
def F.MEAS_WPV.LOST (i : Nat) : Fld := ⟨0x1c210 + 4 * i, 31, 1, 0, .ro, .imm, 0, false⟩
/-! MEAS_WNT: R149 -/
def F.MEAS_WNT.TEMP (i : Nat) : Fld := ⟨0x1c250 + 4 * i, 0, 16, 0, .ro, .imm, 0, false⟩
def F.MEAS_WNT.AGE (i : Nat) : Fld := ⟨0x1c250 + 4 * i, 16, 8, 0, .ro, .imm, 0, false⟩
def F.MEAS_WNT.VALID (i : Nat) : Fld := ⟨0x1c250 + 4 * i, 24, 1, 0, .ro, .imm, 0, false⟩
def F.MEAS_WNT.BROKEN (i : Nat) : Fld := ⟨0x1c250 + 4 * i, 25, 1, 0, .ro, .imm, 0, false⟩
def F.MEAS_WNT.CAUSE (i : Nat) : Fld := ⟨0x1c250 + 4 * i, 26, 3, 0, .ro, .imm, 0, false⟩
def F.MEAS_WNT.SUBST (i : Nat) : Fld := ⟨0x1c250 + 4 * i, 29, 1, 0, .ro, .imm, 0, false⟩
def F.MEAS_WNT.NBR (i : Nat) : Fld := ⟨0x1c250 + 4 * i, 30, 1, 0, .ro, .imm, 0, false⟩
def F.MEAS_WNT.NOFIT (i : Nat) : Fld := ⟨0x1c250 + 4 * i, 31, 1, 0, .ro, .imm, 0, false⟩
/-! BAL_CFG: R165 -/
def F.BAL_CFG.MODE : Fld := ⟨0x20000, 0, 2, 0, .rw, .frame, 0, false⟩
def F.BAL_CFG.DUTY : Fld := ⟨0x20000, 8, 7, 80, .rw, .frame, 0, false⟩
def F.BAL_CFG.DB : Fld := ⟨0x20000, 16, 16, 50, .rw, .frame, 0, false⟩
/-! BAL_LIM: R166 -/
def F.BAL_LIM.VMIN : Fld := ⟨0x20004, 0, 16, 25000, .rw, .frame, 0, false⟩
def F.BAL_LIM.TMAX : Fld := ⟨0x20004, 16, 16, 550, .rw, .frame, 0, false⟩
/-! BAL_NODE: R166 -/
def F.BAL_NODE.NMAX : Fld := ⟨0x20008, 0, 5, 8, .rw, .frame, 0, false⟩
def F.BAL_NODE.THALF : Fld := ⟨0x20008, 8, 8, 105, .rw, .frame, 0, false⟩
def F.BAL_NODE.TSTOP : Fld := ⟨0x20008, 16, 8, 115, .rw, .frame, 0, false⟩
def F.BAL_NODE.TRESUME : Fld := ⟨0x20008, 24, 8, 100, .rw, .frame, 0, false⟩
/-! BAL_RBLEED: R166 -/
def F.BAL_RBLEED.RB : Fld := ⟨0x2000c, 0, 16, 200, .rwp, .frame, 0, false⟩
/-! BAL_STAT: R166 -/
def F.BAL_STAT.NBLEED : Fld := ⟨0x20010, 0, 10, 0, .ro, .imm, 0, false⟩
def F.BAL_STAT.INTERLEAVED : Fld := ⟨0x20010, 10, 1, 0, .ro, .imm, 0, false⟩
def F.BAL_STAT.NODECAP : Fld := ⟨0x20010, 11, 1, 0, .ro, .imm, 0, false⟩
def F.BAL_STAT.TRUNC : Fld := ⟨0x20010, 12, 1, 0, .ro, .imm, 0, false⟩
def F.BAL_STAT.NODEHOT : Fld := ⟨0x20010, 13, 1, 0, .w1c, .imm, 0, false⟩
def F.BAL_STAT.SCHEDMISS : Fld := ⟨0x20010, 14, 1, 0, .w1c, .imm, 0, false⟩
def F.BAL_STAT.COOLLOST : Fld := ⟨0x20010, 15, 1, 0, .w1c, .imm, 0, false⟩
def F.BAL_STAT.DRERR : Fld := ⟨0x20010, 16, 1, 0, .ro, .imm, 0, false⟩
/-! BAL_CNT: R166 -/
def F.BAL_CNT.MISS : Fld := ⟨0x20014, 0, 16, 0, .rw, .imm, 0, false⟩
def F.BAL_CNT.HOT : Fld := ⟨0x20014, 16, 16, 0, .rw, .imm, 0, false⟩
/-! BAL_SOCB_CFG: R168 -/
def F.BAL_SOCB_CFG.GAIN : Fld := ⟨0x20020, 0, 12, 100, .rw, .epoch, 0, false⟩
def F.BAL_SOCB_CFG.DB : Fld := ⟨0x20020, 12, 4, 2, .rw, .epoch, 0, false⟩
def F.BAL_SOCB_CFG.LIMIT : Fld := ⟨0x20020, 16, 6, 50, .rw, .epoch, 0, false⟩
def F.BAL_SOCB_CFG.EN : Fld := ⟨0x20020, 22, 1, 1, .rw, .epoch, 0, false⟩
def F.BAL_SOCB_CFG.SLEW : Fld := ⟨0x20020, 24, 8, 5, .rw, .epoch, 0, false⟩
/-! BAL_SOCB: R168 -/
def F.BAL_SOCB.ACT : Fld := ⟨0x20024, 0, 16, 0, .ro, .imm, 0, false⟩
def F.BAL_SOCB.SRC : Fld := ⟨0x20024, 16, 1, 0, .ro, .imm, 0, false⟩
def F.BAL_SOCB.HOLD : Fld := ⟨0x20024, 17, 1, 0, .ro, .imm, 0, false⟩
/-! BAL_COOL_CFG: R169 -/
def F.BAL_COOL_CFG.TSTART : Fld := ⟨0x20030, 0, 16, 300, .rw, .epoch, 0, false⟩
def F.BAL_COOL_CFG.TFULL : Fld := ⟨0x20030, 16, 16, 450, .rw, .epoch, 0, false⟩
/-! BAL_COOL_CFG2: R169 -/
def F.BAL_COOL_CFG2.THEAT : Fld := ⟨0x20034, 0, 16, 50, .rw, .epoch, 0, false⟩
def F.BAL_COOL_CFG2.FALL : Fld := ⟨0x20034, 16, 8, 2, .rw, .epoch, 0, false⟩
def F.BAL_COOL_CFG2.TIMEOUT : Fld := ⟨0x20034, 24, 8, 5, .rw, .epoch, 0, false⟩
/-! BAL_COOL: R169 -/
def F.BAL_COOL.DEMAND : Fld := ⟨0x20038, 0, 8, 0, .ro, .imm, 0, false⟩
def F.BAL_COOL.HEAT : Fld := ⟨0x20038, 8, 1, 0, .ro, .imm, 0, false⟩
def F.BAL_COOL.SEQ : Fld := ⟨0x20038, 16, 8, 0, .ro, .imm, 0, false⟩
/-! BAL_TEXT: R169 -/
def F.BAL_TEXT.TMAX : Fld := ⟨0x2003c, 0, 16, 0, .ro, .imm, 0, false⟩
def F.BAL_TEXT.TMIN : Fld := ⟨0x2003c, 16, 16, 0, .ro, .imm, 0, false⟩
/-! BAL_COOL_CAN: R169 -/
def F.BAL_COOL_CAN.ID : Fld := ⟨0x20040, 0, 29, 419374454, .rw, .epoch, 0, false⟩
def F.BAL_COOL_CAN.XTD : Fld := ⟨0x20040, 29, 1, 1, .rw, .epoch, 0, false⟩
def F.BAL_COOL_CAN.EN : Fld := ⟨0x20040, 30, 1, 0, .rw, .epoch, 0, false⟩
/-! BAL_DRC_L: R170 -/
def F.BAL_DRC_L.TL0 : Fld := ⟨0x20080, 0, 16, 0, .rw, .epoch, 0, false⟩
def F.BAL_DRC_L.TL1 : Fld := ⟨0x20080, 16, 16, 100, .rw, .epoch, 0, false⟩
/-! BAL_DRC_H: R170 -/
def F.BAL_DRC_H.TH1 : Fld := ⟨0x20084, 0, 16, 450, .rw, .epoch, 0, false⟩
def F.BAL_DRC_H.TH0 : Fld := ⟨0x20084, 16, 16, 550, .rw, .epoch, 0, false⟩
/-! BAL_DRD_L: R170 -/
def F.BAL_DRD_L.TL0 : Fld := ⟨0x20088, 0, 16, 65336, .rw, .epoch, 0, false⟩
def F.BAL_DRD_L.TL1 : Fld := ⟨0x20088, 16, 16, 65436, .rw, .epoch, 0, false⟩
/-! BAL_DRD_H: R170 -/
def F.BAL_DRD_H.TH1 : Fld := ⟨0x2008c, 0, 16, 500, .rw, .epoch, 0, false⟩
def F.BAL_DRD_H.TH0 : Fld := ⟨0x2008c, 16, 16, 600, .rw, .epoch, 0, false⟩
/-! BAL_DRF: R170 -/
def F.BAL_DRF.FC : Fld := ⟨0x20090, 0, 16, 0, .ro, .imm, 0, false⟩
def F.BAL_DRF.FD : Fld := ⟨0x20090, 16, 16, 0, .ro, .imm, 0, false⟩
/-! BAL_HREQ: R167 -/
def F.BAL_HREQ.REQ (i : Nat) : Fld := ⟨0x20100 + 4 * i, 0, 32, 0, .rw, .imm, 0, false⟩
/-! IMP_CTRL: R193 -/
def F.IMP_CTRL.EN : Fld := ⟨0x24000, 0, 1, 1, .rw, .imm, 0, false⟩
def F.IMP_CTRL.GO : Fld := ⟨0x24000, 1, 1, 0, .w1s, .own, 0, false⟩
def F.IMP_CTRL.ABORT : Fld := ⟨0x24000, 2, 1, 0, .w1s, .own, 0, false⟩
/-! IMP_BCFG: R193 -/
def F.IMP_BCFG.SPACE : Fld := ⟨0x24004, 0, 8, 13, .rw, .burst, 0, false⟩
def F.IMP_BCFG.PRE : Fld := ⟨0x24004, 8, 8, 20, .rw, .burst, 0, false⟩
def F.IMP_BCFG.ERR : Fld := ⟨0x24004, 29, 3, 0, .ro, .imm, 0, false⟩
/-! IMP_AMP: R193 -/
def F.IMP_AMP.IRATED : Fld := ⟨0x24008, 0, 16, 100, .rwp, .imm, 0, false⟩
def F.IMP_AMP.PCT : Fld := ⟨0x24008, 16, 8, 20, .rw, .imm, 0, false⟩
/-! IMP_QCFG: R193 -/
def F.IMP_QCFG.SNR : Fld := ⟨0x2400c, 0, 8, 20, .rw, .imm, 0, false⟩
def F.IMP_QCFG.IMIN : Fld := ⟨0x2400c, 8, 8, 50, .rw, .imm, 0, false⟩
/-! IMP_FREQ0: R193 -/
def F.IMP_FREQ0.BIN : Fld := ⟨0x24010, 0, 10, 1, .rw, .burst, 0, false⟩
/-! IMP_FREQ1: R193 -/
def F.IMP_FREQ1.BIN : Fld := ⟨0x24014, 0, 10, 3, .rw, .burst, 0, false⟩
/-! IMP_FREQ2: R193 -/
def F.IMP_FREQ2.BIN : Fld := ⟨0x24018, 0, 10, 8, .rw, .burst, 0, false⟩
/-! IMP_FREQ3: R193 -/
def F.IMP_FREQ3.BIN : Fld := ⟨0x2401c, 0, 10, 21, .rw, .burst, 0, false⟩
/-! IMP_FREQ4: R193 -/
def F.IMP_FREQ4.BIN : Fld := ⟨0x24020, 0, 10, 53, .rw, .burst, 0, false⟩
/-! IMP_FREQ5: R193 -/
def F.IMP_FREQ5.BIN : Fld := ⟨0x24024, 0, 10, 133, .rw, .burst, 0, false⟩
/-! IMP_FREQ6: R193 -/
def F.IMP_FREQ6.BIN : Fld := ⟨0x24028, 0, 10, 333, .rw, .burst, 0, false⟩
/-! IMP_FREQ7: R193 -/
def F.IMP_FREQ7.BIN : Fld := ⟨0x2402c, 0, 10, 833, .rw, .burst, 0, false⟩
/-! IMP_ZFS: R193 -/
def F.IMP_ZFS.ZFS : Fld := ⟨0x24030, 0, 32, 10000, .rw, .imm, 0, false⟩
/-! IMP_TCFG: R193 -/
def F.IMP_TCFG.FSEL : Fld := ⟨0x24034, 0, 3, 5, .rw, .imm, 0, false⟩
def F.IMP_TCFG.ISO : Fld := ⟨0x24034, 8, 8, 20, .rw, .imm, 0, false⟩
def F.IMP_TCFG.BZ : Fld := ⟨0x24034, 16, 16, 4000, .rw, .imm, 0, false⟩
/-! IMP_TCFG2: R193 -/
def F.IMP_TCFG2.XDEV : Fld := ⟨0x24038, 0, 8, 80, .rw, .imm, 0, false⟩
def F.IMP_TCFG2.AFSEL : Fld := ⟨0x24038, 8, 3, 2, .rw, .imm, 0, false⟩
/-! IMP_STAT: R194 -/
def F.IMP_STAT.STATE : Fld := ⟨0x24040, 0, 3, 0, .ro, .imm, 0, false⟩
def F.IMP_STAT.DEFER : Fld := ⟨0x24040, 4, 3, 0, .ro, .imm, 0, false⟩
def F.IMP_STAT.ABCAUSE : Fld := ⟨0x24040, 8, 3, 0, .ro, .imm, 0, false⟩
def F.IMP_STAT.XFAILSEEN : Fld := ⟨0x24040, 11, 1, 0, .w1c, .imm, 0, false⟩
def F.IMP_STAT.GOPEND : Fld := ⟨0x24040, 12, 1, 0, .ro, .imm, 0, false⟩
def F.IMP_STAT.ROEST : Fld := ⟨0x24040, 16, 16, 0, .ro, .imm, 0, false⟩
/-! IMP_CNT: R194 -/
def F.IMP_CNT.DONE : Fld := ⟨0x24044, 0, 16, 0, .rw, .imm, 0, false⟩
def F.IMP_CNT.ABORTED : Fld := ⟨0x24044, 16, 16, 0, .rw, .imm, 0, false⟩
/-! IMP_GAIN: R194 -/
def F.IMP_GAIN.AMP : Fld := ⟨0x24048, 0, 32, 0, .ro, .imm, 0, false⟩
/-! IMP_BNUM: R194 -/
def F.IMP_BNUM.BNUM : Fld := ⟨0x2404c, 0, 32, 0, .ro, .imm, 0, false⟩
/-! IMP_RSEL: R195 -/
def F.IMP_RSEL.POS : Fld := ⟨0x24100, 0, 10, 0, .rw, .own, 0, false⟩
/-! IMP_RQ: R195 -/
def F.IMP_RQ.QOK : Fld := ⟨0x24104, 0, 8, 0, .ro, .imm, 0, false⟩
/-! IMP_RT: R195 -/
def F.IMP_RT.TIMP : Fld := ⟨0x24108, 0, 16, 0, .ro, .imm, 0, false⟩
def F.IMP_RT.RVALID : Fld := ⟨0x24108, 16, 1, 0, .ro, .imm, 0, false⟩
def F.IMP_RT.RCAL : Fld := ⟨0x24108, 17, 1, 0, .ro, .imm, 0, false⟩
def F.IMP_RT.XFAIL : Fld := ⟨0x24108, 18, 1, 0, .ro, .imm, 0, false⟩
/-! IMP_RZ: R195 -/
def F.IMP_RZ.MAG (i : Nat) : Fld := ⟨0x24110 + 4 * i, 0, 16, 0, .ro, .imm, 0, false⟩
def F.IMP_RZ.PH (i : Nat) : Fld := ⟨0x24110 + 4 * i, 16, 16, 0, .ro, .imm, 0, false⟩
/-! EST_IDB: R225 -/
def F.EST_IDB.IDB : Fld := ⟨0x28000, 0, 24, 2000, .rw, .epoch, 0, false⟩
/-! EST_THR: R225 -/
def F.EST_THR.VEOD : Fld := ⟨0x28004, 0, 16, 0, .rwp, .epoch, 0, true⟩
def F.EST_THR.VEOC : Fld := ⟨0x28004, 16, 16, 0, .rwp, .epoch, 0, true⟩
/-! EST_THR2: R225 -/
def F.EST_THR2.VHYS : Fld := ⟨0x28008, 0, 16, 500, .rw, .epoch, 0, false⟩
def F.EST_THR2.CONF : Fld := ⟨0x28008, 16, 8, 3, .rw, .epoch, 0, false⟩
/-! EST_EOD_SLEW: R225 -/
def F.EST_EOD_SLEW.EOD : Fld := ⟨0x2800c, 0, 16, 50, .rw, .epoch, 0, false⟩
def F.EST_EOD_SLEW.EOC : Fld := ⟨0x2800c, 16, 16, 50, .rw, .epoch, 0, false⟩
/-! EST_FLOOR: R225 -/
def F.EST_FLOOR.FLOOR : Fld := ⟨0x28010, 0, 16, 100, .rw, .epoch, 0, false⟩
def F.EST_FLOOR.CEIL : Fld := ⟨0x28010, 16, 16, 9900, .rw, .epoch, 0, false⟩
/-! EST_CORR: R225 -/
def F.EST_CORR.SLEW : Fld := ⟨0x28014, 0, 16, 2, .rw, .epoch, 0, false⟩
def F.EST_CORR.U0 : Fld := ⟨0x28014, 16, 16, 10, .rw, .epoch, 0, false⟩
/-! EST_RELAX: R225 -/
def F.EST_RELAX.TFIRST : Fld := ⟨0x28018, 0, 16, 60, .rw, .epoch, 0, false⟩
def F.EST_RELAX.TREST : Fld := ⟨0x28018, 16, 16, 600, .rw, .epoch, 0, false⟩
/-! EST_RELAX2: R225 -/
def F.EST_RELAX2.DVDT : Fld := ⟨0x2801c, 0, 16, 5, .rw, .epoch, 0, false⟩
/-! EST_ANCH: R225 -/
def F.EST_ANCH.SLOPE : Fld := ⟨0x28020, 0, 16, 200, .rw, .epoch, 0, false⟩
def F.EST_ANCH.VERR : Fld := ⟨0x28020, 16, 8, 20, .rw, .epoch, 0, false⟩
def F.EST_ANCH.VERRS : Fld := ⟨0x28020, 24, 8, 40, .rw, .epoch, 0, false⟩
/-! EST_ANCH2: R225 -/
def F.EST_ANCH2.KDYN : Fld := ⟨0x28024, 0, 16, 328, .rw, .epoch, 0, false⟩
def F.EST_ANCH2.DYNEN : Fld := ⟨0x28024, 16, 1, 1, .rw, .epoch, 0, false⟩
/-! EST_CAPNOM: R225 -/
def F.EST_CAPNOM.CAP : Fld := ⟨0x28028, 0, 32, 0, .rwp, .epoch, 0, true⟩
/-! EST_RNOM: R225 -/
def F.EST_RNOM.R : Fld := ⟨0x2802c, 0, 32, 0, .rwp, .epoch, 0, true⟩
/-! EST_RSTEP: R225 -/
def F.EST_RSTEP.DI : Fld := ⟨0x28030, 0, 24, 20000, .rw, .epoch, 0, false⟩
/-! EST_IOFS: R225 -/
def F.EST_IOFS.IOFS : Fld := ⟨0x28034, 0, 32, 0, .rwp, .epoch, 0, true⟩
/-! EST_SOPV: R225 -/
def F.EST_SOPV.VSOPD : Fld := ⟨0x28038, 0, 16, 0, .rwp, .epoch, 0, true⟩
def F.EST_SOPV.VSOPC : Fld := ⟨0x28038, 16, 16, 0, .rwp, .epoch, 0, true⟩
/-! EST_SOPMAX_C: R225 -/
def F.EST_SOPMAX_C.IMAX : Fld := ⟨0x2803c, 0, 32, 0, .rwp, .epoch, 0, true⟩
/-! EST_SOPMAX_D: R225 -/
def F.EST_SOPMAX_D.IMAX : Fld := ⟨0x28040, 0, 32, 0, .rwp, .epoch, 0, true⟩
/-! EST_SOPCFG: R225 -/
def F.EST_SOPCFG.LOSTPCT : Fld := ⟨0x28044, 0, 7, 50, .rw, .epoch, 0, false⟩
/-! EST_SAVE_PERIOD: R225 -/
def F.EST_SAVE_PERIOD.MIN : Fld := ⟨0x28048, 0, 16, 15, .rw, .epoch, 0, false⟩
def F.EST_SAVE_PERIOD.NOW : Fld := ⟨0x28048, 16, 1, 0, .w1s, .own, 0, false⟩
/-! EST_GLN_CFG: R225 -/
def F.EST_GLN_CFG.ICHG : Fld := ⟨0x2804c, 0, 16, 80, .rw, .epoch, 0, false⟩
def F.EST_GLN_CFG.IDIS : Fld := ⟨0x2804c, 16, 16, 100, .rw, .epoch, 0, false⟩
/-! EST_GLN_CFG2: R225 -/
def F.EST_GLN_CFG2.W : Fld := ⟨0x28050, 0, 8, 50, .rw, .epoch, 0, false⟩
def F.EST_GLN_CFG2.MAXDEV : Fld := ⟨0x28050, 8, 8, 10, .rw, .epoch, 0, false⟩
def F.EST_GLN_CFG2.DSOCMIN : Fld := ⟨0x28050, 16, 8, 80, .rw, .epoch, 0, false⟩
def F.EST_GLN_CFG2.QCHG : Fld := ⟨0x28050, 24, 8, 20, .rw, .epoch, 0, false⟩
/-! EST_GLN_CFG3: R225 -/
def F.EST_GLN_CFG3.TLO : Fld := ⟨0x28054, 0, 12, 100, .rw, .epoch, 0, false⟩
def F.EST_GLN_CFG3.THI : Fld := ⟨0x28054, 12, 12, 400, .rw, .epoch, 0, false⟩
def F.EST_GLN_CFG3.TMAXH : Fld := ⟨0x28054, 24, 8, 24, .rw, .epoch, 0, false⟩
/-! EST_REST_CFG: R225 -/
def F.EST_REST_CFG.LEN : Fld := ⟨0x28058, 0, 16, 120, .rw, .epoch, 0, false⟩
def F.EST_REST_CFG.KX : Fld := ⟨0x28058, 16, 16, 8192, .rw, .epoch, 0, false⟩
/-! EST_GLN_CTRL: R227 -/
def F.EST_GLN_CTRL.REQ : Fld := ⟨0x28060, 0, 1, 0, .w1s, .own, 0, false⟩
def F.EST_GLN_CTRL.ABORT : Fld := ⟨0x28060, 1, 1, 0, .w1s, .own, 0, false⟩
def F.EST_GLN_CTRL.STATE : Fld := ⟨0x28060, 4, 3, 0, .ro, .imm, 0, false⟩
def F.EST_GLN_CTRL.CAUSE : Fld := ⟨0x28060, 8, 4, 0, .ro, .imm, 0, false⟩
def F.EST_GLN_CTRL.COUNT : Fld := ⟨0x28060, 16, 16, 0, .rw, .imm, 0, false⟩
/-! EST_REST_CTRL: R227 -/
def F.EST_REST_CTRL.REQ : Fld := ⟨0x28064, 0, 1, 0, .w1s, .own, 0, false⟩
def F.EST_REST_CTRL.STATE : Fld := ⟨0x28064, 4, 2, 0, .ro, .imm, 0, false⟩
def F.EST_REST_CTRL.RESULT : Fld := ⟨0x28064, 8, 3, 0, .ro, .imm, 0, false⟩
def F.EST_REST_CTRL.COUNT : Fld := ⟨0x28064, 16, 16, 0, .rw, .imm, 0, false⟩
/-! EST_STAT: R227 -/
def F.EST_STAT.FIRSTPEND : Fld := ⟨0x28068, 0, 1, 1, .ro, .imm, 0, false⟩
def F.EST_STAT.NOREST : Fld := ⟨0x28068, 1, 1, 0, .ro, .imm, 0, false⟩
def F.EST_STAT.EOD : Fld := ⟨0x28068, 2, 1, 0, .ro, .imm, 0, false⟩
def F.EST_STAT.EOC : Fld := ⟨0x28068, 3, 1, 0, .ro, .imm, 0, false⟩
def F.EST_STAT.FLOORHOLD : Fld := ⟨0x28068, 4, 1, 0, .ro, .imm, 0, false⟩
def F.EST_STAT.CEILHOLD : Fld := ⟨0x28068, 5, 1, 0, .ro, .imm, 0, false⟩
def F.EST_STAT.EODSLEW : Fld := ⟨0x28068, 6, 1, 0, .ro, .imm, 0, false⟩
def F.EST_STAT.SUSPECT : Fld := ⟨0x28068, 7, 1, 0, .ro, .imm, 0, false⟩
def F.EST_STAT.UNLEARNED : Fld := ⟨0x28068, 8, 1, 0, .ro, .imm, 0, false⟩
def F.EST_STAT.LOSTCAP : Fld := ⟨0x28068, 9, 1, 0, .ro, .imm, 0, false⟩
def F.EST_STAT.CURINV : Fld := ⟨0x28068, 10, 1, 0, .ro, .imm, 0, false⟩
def F.EST_STAT.SWAPSEEN : Fld := ⟨0x28068, 11, 1, 0, .w1c, .imm, 0, false⟩
def F.EST_STAT.OCVERR : Fld := ⟨0x28068, 12, 1, 0, .ro, .imm, 0, false⟩
def F.EST_STAT.LEARNED : Fld := ⟨0x28068, 13, 1, 0, .w1c, .imm, 0, false⟩
def F.EST_STAT.SAVEERR : Fld := ⟨0x28068, 14, 1, 0, .w1c, .imm, 0, false⟩
/-! EST_SSOC: R227 -/
def F.EST_SSOC.SOC : Fld := ⟨0x2806c, 0, 16, 65535, .ro, .imm, 0, false⟩
def F.EST_SSOC.U : Fld := ⟨0x2806c, 16, 16, 0, .ro, .imm, 0, false⟩
/-! EST_SCAP: R227 -/
def F.EST_SCAP.CAP : Fld := ⟨0x28070, 0, 32, 0, .ro, .imm, 0, false⟩
/-! EST_SSOH: R227 -/
def F.EST_SSOH.SOHC : Fld := ⟨0x28074, 0, 16, 0, .ro, .imm, 0, false⟩
def F.EST_SSOH.SOHR : Fld := ⟨0x28074, 16, 16, 0, .ro, .imm, 0, false⟩
/-! EST_SOP_C: R227 -/
def F.EST_SOP_C.SOPC : Fld := ⟨0x28078, 0, 32, 0, .ro, .imm, 0, false⟩
/-! EST_SOP_D: R227 -/
def F.EST_SOP_D.SOPD : Fld := ⟨0x2807c, 0, 32, 0, .ro, .imm, 0, false⟩
/-! EST_SOVR: R227 -/
def F.EST_SOVR.OVR : Fld := ⟨0x28080, 0, 32, 0, .ro, .imm, 0, false⟩
/-! EST_NORESTT: R227 -/
def F.EST_NORESTT.T : Fld := ⟨0x28084, 0, 32, 0, .ro, .imm, 0, false⟩
/-! EST_CYC: R227 -/
def F.EST_CYC.CYC : Fld := ⟨0x28088, 0, 32, 0, .ro, .imm, 0, false⟩
/-! EST_SAVE_STAT: R227 -/
def F.EST_SAVE_STAT.SEQ : Fld := ⟨0x2808c, 0, 16, 0, .ro, .imm, 0, false⟩
def F.EST_SAVE_STAT.CAUSE : Fld := ⟨0x2808c, 16, 3, 0, .ro, .imm, 0, false⟩
def F.EST_SAVE_STAT.FAILS : Fld := ⟨0x2808c, 24, 8, 0, .rw, .imm, 0, false⟩
/-! EST_PSEL: R228 -/
def F.EST_PSEL.POS : Fld := ⟨0x28100, 0, 10, 0, .rw, .own, 0, false⟩
def F.EST_PSEL.WVALID : Fld := ⟨0x28100, 16, 1, 0, .ro, .imm, 0, false⟩
/-! EST_PSOC: R228 -/
def F.EST_PSOC.SOC : Fld := ⟨0x28104, 0, 16, 0, .ro, .imm, 0, false⟩
def F.EST_PSOC.U : Fld := ⟨0x28104, 16, 16, 0, .ro, .imm, 0, false⟩
/-! EST_PX: R228 -/
def F.EST_PX.X : Fld := ⟨0x28108, 0, 16, 0, .ro, .imm, 0, false⟩
/-! EST_PCAP: R228 -/
def F.EST_PCAP.CAP : Fld := ⟨0x2810c, 0, 32, 0, .ro, .imm, 0, false⟩
/-! EST_PR: R228 -/
def F.EST_PR.R : Fld := ⟨0x28110, 0, 32, 0, .ro, .imm, 0, false⟩
/-! EST_PFLAG: R228 -/
def F.EST_PFLAG.UNLEARNED : Fld := ⟨0x28114, 0, 1, 0, .ro, .imm, 0, false⟩
def F.EST_PFLAG.SUSPECT : Fld := ⟨0x28114, 1, 1, 0, .ro, .imm, 0, false⟩
def F.EST_PFLAG.FIRSTPEND : Fld := ⟨0x28114, 2, 1, 0, .ro, .imm, 0, false⟩
def F.EST_PFLAG.RSRC : Fld := ⟨0x28114, 3, 2, 0, .ro, .imm, 0, false⟩
def F.EST_PFLAG.DYN : Fld := ⟨0x28114, 5, 1, 0, .ro, .imm, 0, false⟩
def F.EST_PFLAG.EOD : Fld := ⟨0x28114, 6, 1, 0, .ro, .imm, 0, false⟩
def F.EST_PFLAG.EOC : Fld := ⟨0x28114, 7, 1, 0, .ro, .imm, 0, false⟩
def F.EST_PFLAG.FLOORHOLD : Fld := ⟨0x28114, 8, 1, 0, .ro, .imm, 0, false⟩
def F.EST_PFLAG.CEILHOLD : Fld := ⟨0x28114, 9, 1, 0, .ro, .imm, 0, false⟩
def F.EST_PFLAG.EODSLEW : Fld := ⟨0x28114, 10, 1, 0, .ro, .imm, 0, false⟩
def F.EST_PFLAG.LOST : Fld := ⟨0x28114, 11, 1, 0, .ro, .imm, 0, false⟩
def F.EST_PFLAG.SWAPPED : Fld := ⟨0x28114, 12, 1, 0, .ro, .imm, 0, false⟩
/-! EST_POVR: R228 -/
def F.EST_POVR.OVR : Fld := ⟨0x28118, 0, 32, 0, .ro, .imm, 0, false⟩
/-! EST_OCV: R226 -/
def F.EST_OCV.V (i : Nat) (j : Nat) : Fld := ⟨0x28400 + 128 * i + 4 * j, 0, 16, 0, .rwp, .epoch, 0, true⟩
/-! CNV_CTRL: R258 -/
def F.CNV_CTRL.ON : Fld := ⟨0x2c000, 0, 1, 0, .rw, .tick, 0, false⟩
def F.CNV_CTRL.CLR : Fld := ⟨0x2c000, 1, 1, 0, .w1s, .own, 0, false⟩
def F.CNV_CTRL.MODE : Fld := ⟨0x2c000, 2, 2, 0, .rw, .tick, 0, false⟩
def F.CNV_CTRL.BUREN : Fld := ⟨0x2c000, 4, 1, 0, .rw, .tick, 0, false⟩
def F.CNV_CTRL.SHEDEN : Fld := ⟨0x2c000, 5, 1, 1, .rw, .tick, 0, false⟩
/-! CNV_TOPO: R258 -/
def F.CNV_TOPO.TOPO : Fld := ⟨0x2c004, 0, 2, 0, .rwp, .cnvOff, 0, true⟩
def F.CNV_TOPO.NPH : Fld := ⟨0x2c004, 4, 3, 0, .rwp, .cnvOff, 0, true⟩
def F.CNV_TOPO.MINPH : Fld := ⟨0x2c004, 8, 3, 1, .rw, .cnvOff, 0, false⟩
def F.CNV_TOPO.PEND : Fld := ⟨0x2c004, 16, 1, 0, .ro, .imm, 0, false⟩
/-! CNV_STAT: R259 -/
def F.CNV_STAT.STATE : Fld := ⟨0x2c008, 0, 3, 0, .ro, .imm, 0, false⟩
def F.CNV_STAT.FCAUSE : Fld := ⟨0x2c008, 4, 3, 0, .ro, .imm, 0, false⟩
def F.CNV_STAT.BLOCK : Fld := ⟨0x2c008, 8, 4, 0, .ro, .imm, 0, false⟩
def F.CNV_STAT.NACT : Fld := ⟨0x2c008, 12, 3, 0, .ro, .imm, 0, false⟩
def F.CNV_STAT.REFSRC : Fld := ⟨0x2c008, 16, 2, 0, .ro, .imm, 0, false⟩
def F.CNV_STAT.CLAMPC : Fld := ⟨0x2c008, 18, 1, 0, .ro, .imm, 0, false⟩
def F.CNV_STAT.CLAMPD : Fld := ⟨0x2c008, 19, 1, 0, .ro, .imm, 0, false⟩
def F.CNV_STAT.RETRY : Fld := ⟨0x2c008, 20, 4, 0, .ro, .imm, 0, false⟩
def F.CNV_STAT.DEG : Fld := ⟨0x2c008, 24, 1, 0, .ro, .imm, 0, false⟩
def F.CNV_STAT.STOPTO : Fld := ⟨0x2c008, 25, 1, 0, .w1c, .tick, 0, false⟩
/-! CNV_PWM: R260 -/
def F.CNV_PWM.DTR : Fld := ⟨0x2c00c, 0, 12, 1600, .rwp, .cnvOff, 0, false⟩
def F.CNV_PWM.DTF : Fld := ⟨0x2c00c, 16, 12, 1600, .rwp, .cnvOff, 0, false⟩
/-! CNV_PWM2: R260 -/
def F.CNV_PWM2.MINPW : Fld := ⟨0x2c010, 0, 12, 800, .rwp, .cnvOff, 0, false⟩
def F.CNV_PWM2.DMAX : Fld := ⟨0x2c010, 16, 16, 31457, .rwp, .cnvOff, 0, false⟩
/-! CNV_ONOFF: R260 -/
def F.CNV_ONOFF.TON : Fld := ⟨0x2c014, 0, 16, 100, .rw, .tick, 0, false⟩
def F.CNV_ONOFF.TOFF : Fld := ⟨0x2c014, 16, 16, 0, .rw, .tick, 0, false⟩
/-! CNV_SS: R260 -/
def F.CNV_SS.RAMP : Fld := ⟨0x2c018, 0, 16, 200, .rw, .tick, 0, false⟩
def F.CNV_SS.ILIM : Fld := ⟨0x2c018, 16, 16, 50, .rw, .tick, 0, false⟩
/-! CNV_SS_STALLV: R260 -/
def F.CNV_SS_STALLV.STALLV : Fld := ⟨0x2c01c, 0, 16, 50, .rw, .tick, 0, false⟩
/-! CNV_SS_STALLT: R260 -/
def F.CNV_SS_STALLT.STALLT : Fld := ⟨0x2c020, 0, 16, 20, .rw, .tick, 0, false⟩
/-! CNV_SS_RETRYT: R260 -/
def F.CNV_SS_RETRYT.RETRYT : Fld := ⟨0x2c024, 0, 16, 2000, .rw, .tick, 0, false⟩
/-! CNV_SS_RETRIES: R260 -/
def F.CNV_SS_RETRIES.RETRIES : Fld := ⟨0x2c028, 0, 4, 3, .rw, .tick, 0, false⟩
/-! CNV_STOP: R260 -/
def F.CNV_STOP.RAMP : Fld := ⟨0x2c02c, 0, 16, 100, .rw, .tick, 0, false⟩
def F.CNV_STOP.IDONE : Fld := ⟨0x2c02c, 16, 16, 2, .rw, .tick, 0, false⟩
/-! CNV_STOP2: R260 -/
def F.CNV_STOP2.TMAX : Fld := ⟨0x2c030, 0, 16, 1000, .rw, .tick, 0, false⟩
/-! CNV_LL_VREF: R260 -/
def F.CNV_LL_VREF.VREF : Fld := ⟨0x2c034, 0, 32, 0, .rw, .tick, 0, true⟩
/-! CNV_LL_R: R260 -/
def F.CNV_LL_R.RLL : Fld := ⟨0x2c038, 0, 16, 1000, .rw, .tick, 0, false⟩
/-! CNV_ISET: R260 -/
def F.CNV_ISET.ISET : Fld := ⟨0x2c03c, 0, 32, 0, .rw, .tick, 0, false⟩
/-! CNV_ILIM_C: R260 -/
def F.CNV_ILIM_C.ILIM : Fld := ⟨0x2c040, 0, 32, 0, .rwp, .tick, 0, true⟩
/-! CNV_ILIM_D: R260 -/
def F.CNV_ILIM_D.ILIM : Fld := ⟨0x2c044, 0, 32, 0, .rwp, .tick, 0, true⟩
/-! CNV_VSMIN: R260 -/
def F.CNV_VSMIN.VSMIN : Fld := ⟨0x2c048, 0, 32, 0, .rwp, .tick, 0, true⟩
/-! CNV_SHED_DWELL: R260 -/
def F.CNV_SHED_DWELL.DWELL : Fld := ⟨0x2c04c, 0, 16, 50, .rw, .tick, 0, false⟩
/-! CNV_SHED: R260 -/
def F.CNV_SHED.ISHED : Fld := ⟨0x2c050, 0, 16, 40, .rw, .tick, 0, false⟩
def F.CNV_SHED.IADD : Fld := ⟨0x2c050, 16, 16, 60, .rw, .tick, 0, false⟩
/-! CNV_STEP_THR: R260 -/
def F.CNV_STEP_THR.STEP : Fld := ⟨0x2c054, 0, 16, 100, .rw, .tick, 0, false⟩
/-! CNV_BURST_THR: R260 -/
def F.CNV_BURST_THR.THR : Fld := ⟨0x2c058, 0, 16, 5, .rw, .tick, 0, false⟩
/-! CNV_BURST_MIN: R260 -/
def F.CNV_BURST_MIN.MIN : Fld := ⟨0x2c05c, 0, 16, 50, .rw, .tick, 0, false⟩
/-! CNV_BURST_HYST: R260 -/
def F.CNV_BURST_HYST.HYST : Fld := ⟨0x2c060, 0, 32, 10000, .rw, .tick, 0, false⟩
/-! CNV_VBTGT: R260 -/
def F.CNV_VBTGT.VBT : Fld := ⟨0x2c064, 0, 32, 0, .ro, .imm, 0, false⟩
/-! CNV_ITOT: R260 -/
def F.CNV_ITOT.ITOT : Fld := ⟨0x2c068, 0, 32, 0, .ro, .imm, 0, false⟩
/-! CNV_CLIM_C: R260 -/
def F.CNV_CLIM_C.CLIM : Fld := ⟨0x2c06c, 0, 32, 0, .ro, .imm, 0, false⟩
/-! CNV_CLIM_D: R260 -/
def F.CNV_CLIM_D.CLIM : Fld := ⟨0x2c070, 0, 32, 0, .ro, .imm, 0, false⟩
/-! CNV_CNT: R260 -/
def F.CNV_CNT.STALLS : Fld := ⟨0x2c074, 0, 16, 0, .rw, .tick, 0, false⟩
def F.CNV_CNT.SHEDX : Fld := ⟨0x2c074, 16, 16, 0, .rw, .tick, 0, false⟩
/-! CNV_CNT2: R260 -/
def F.CNV_CNT2.STARTS : Fld := ⟨0x2c078, 0, 16, 0, .rw, .tick, 0, false⟩
def F.CNV_CNT2.SHEDS : Fld := ⟨0x2c078, 16, 16, 0, .rw, .tick, 0, false⟩
/-! CNV_PH_ANG: R261 -/
def F.CNV_PH_ANG.ANG (i : Nat) : Fld := ⟨0x2c080 + 4 * i, 0, 16, 0, .ro, .imm, 0, false⟩
def F.CNV_PH_ANG.ACT (i : Nat) : Fld := ⟨0x2c080 + 4 * i, 16, 1, 0, .ro, .imm, 0, false⟩
/-! CTE_CTRL: R281 -/
def F.CTE_CTRL.LOAD : Fld := ⟨0x30000, 0, 1, 0, .w1s, .own, 0, false⟩
def F.CTE_CTRL.STD : Fld := ⟨0x30000, 1, 1, 0, .w1s, .own, 0, false⟩
def F.CTE_CTRL.HALT : Fld := ⟨0x30000, 2, 1, 0, .w1s, .own, 0, false⟩
/-! CTE_LOAD: R281 -/
def F.CTE_LOAD.BASE : Fld := ⟨0x30004, 0, 10, 0, .rwp, .tick, 0, false⟩
def F.CTE_LOAD.LEN : Fld := ⟨0x30004, 16, 11, 0, .rwp, .tick, 0, false⟩
/-! CTE_SWAP: R281 -/
def F.CTE_SWAP.SWAP : Fld := ⟨0x30008, 0, 2, 0, .rwp, .tick, 0, false⟩
def F.CTE_SWAP.KEEP : Fld := ⟨0x30008, 2, 1, 0, .rwp, .tick, 0, false⟩
def F.CTE_SWAP.BIND : Fld := ⟨0x30008, 16, 16, 0, .rwp, .tick, 0, false⟩
/-! CTE_PMADDR: R281 -/
def F.CTE_PMADDR.ADDR : Fld := ⟨0x30010, 0, 10, 0, .rwp, .tick, 0, false⟩
/-! CTE_PMDATA: R281 -/
def F.CTE_PMDATA.DATA : Fld := ⟨0x30014, 0, 32, 0, .rwp, .own, 0, false⟩
/-! CTE_DMADDR: R281 -/
def F.CTE_DMADDR.ADDR : Fld := ⟨0x30018, 0, 9, 0, .rw, .tick, 0, false⟩
/-! CTE_DMDATA: R281 -/
def F.CTE_DMDATA.DATA : Fld := ⟨0x3001c, 0, 16, 0, .rw, .own, 0, false⟩
/-! CTE_PCOMMIT: R281 -/
def F.CTE_PCOMMIT.GO : Fld := ⟨0x30020, 0, 1, 0, .w1s, .own, 0, false⟩
def F.CTE_PCOMMIT.MODE : Fld := ⟨0x30020, 1, 1, 0, .rw, .tick, 0, false⟩
def F.CTE_PCOMMIT.PEND : Fld := ⟨0x30020, 2, 1, 0, .ro, .imm, 0, false⟩
/-! CTE_STAT: R282 -/
def F.CTE_STAT.ACT : Fld := ⟨0x30030, 0, 1, 1, .ro, .imm, 0, false⟩
def F.CTE_STAT.STG : Fld := ⟨0x30030, 1, 1, 0, .ro, .imm, 0, false⟩
def F.CTE_STAT.LERR : Fld := ⟨0x30030, 2, 3, 0, .ro, .imm, 0, false⟩
def F.CTE_STAT.ACCSAT : Fld := ⟨0x30030, 5, 1, 0, .w1c, .tick, 0, false⟩
def F.CTE_STAT.PMWERR : Fld := ⟨0x30030, 6, 1, 0, .w1c, .tick, 0, false⟩
def F.CTE_STAT.LADDR : Fld := ⟨0x30030, 16, 10, 0, .ro, .imm, 0, false⟩
/-! CTE_ACT_WCET: R282 -/
def F.CTE_ACT_WCET.WCET : Fld := ⟨0x30034, 0, 16, 1472, .ro, .imm, 0, false⟩
def F.CTE_ACT_WCET.PMIN : Fld := ⟨0x30034, 16, 16, 1920, .ro, .imm, 0, false⟩
/-! CTE_STG_WCET: R282 -/
def F.CTE_STG_WCET.WCET : Fld := ⟨0x30038, 0, 16, 0, .ro, .imm, 0, false⟩
def F.CTE_STG_WCET.PMIN : Fld := ⟨0x30038, 16, 16, 0, .ro, .imm, 0, false⟩
/-! CTE_ACT_REG: R282 -/
def F.CTE_ACT_REG.BASE : Fld := ⟨0x3003c, 0, 10, 0, .ro, .imm, 0, false⟩
def F.CTE_ACT_REG.LEN : Fld := ⟨0x3003c, 16, 11, 368, .ro, .imm, 0, false⟩
/-! CTE_SATCNT: R282 -/
def F.CTE_SATCNT.COUNT : Fld := ⟨0x30040, 0, 16, 0, .rw, .tick, 0, false⟩
/-! CTE_SWCNT: R282 -/
def F.CTE_SWCNT.COUNT : Fld := ⟨0x30044, 0, 16, 0, .rw, .tick, 0, false⟩
/-! SDM_CFG: R262 -/
def F.SDM_CFG.EN (i : Nat) : Fld := ⟨0x34000 + 4 * i, 0, 1, 0, .rwp, .cnvOff, 0, true⟩
def F.SDM_CFG.ROLE (i : Nat) : Fld := ⟨0x34000 + 4 * i, 1, 3, 0, .rwp, .cnvOff, 0, true⟩
def F.SDM_CFG.PHASE (i : Nat) : Fld := ⟨0x34000 + 4 * i, 4, 3, 0, .rwp, .cnvOff, 0, true⟩
def F.SDM_CFG.CK (i : Nat) : Fld := ⟨0x34000 + 4 * i, 8, 2, 0, .rwp, .cnvOff, 0, true⟩
def F.SDM_CFG.DLY (i : Nat) : Fld := ⟨0x34000 + 4 * i, 10, 4, 0, .rwp, .cnvOff, 0, false⟩
def F.SDM_CFG.OSR (i : Nat) : Fld := ⟨0x34000 + 4 * i, 16, 8, 64, .rwp, .cnvOff, 0, false⟩
/-! SDM_FS: R263 -/
def F.SDM_FS.FS (i : Nat) : Fld := ⟨0x34040 + 4 * i, 0, 32, 0, .rwp, .cnvOff, 0, true⟩
/-! SDM_RES: R263 -/
def F.SDM_RES.RES (i : Nat) : Fld := ⟨0x34080 + 4 * i, 0, 32, 0, .ro, .imm, 0, false⟩
/-! SDM_CKEN: R263 -/
def F.SDM_CKEN.EN : Fld := ⟨0x340c0, 0, 4, 15, .rwp, .cnvOff, 0, false⟩
/-! SDM_STAT: R263 -/
def F.SDM_STAT.LOSS : Fld := ⟨0x340c4, 0, 12, 0, .ro, .imm, 0, false⟩
def F.SDM_STAT.ROLEOK : Fld := ⟨0x340c4, 16, 1, 0, .ro, .imm, 0, false⟩
def F.SDM_STAT.SLOW : Fld := ⟨0x340c4, 17, 1, 0, .ro, .imm, 0, false⟩
/-! PROT_TRIP: R306 -/
def F.PROT_TRIP.MODE (i : Nat) : Fld := ⟨0x38000 + 4 * i, 0, 2, 1, .rwp, .protOff, 0, true⟩
def F.PROT_TRIP.PHMASK (i : Nat) : Fld := ⟨0x38000 + 4 * i, 8, 6, 0, .rwp, .protOff, 0, true⟩
/-! PROT_WIN: R306 -/
def F.PROT_WIN.HI (i : Nat) : Fld := ⟨0x38040 + 4 * i, 0, 16, 32767, .rwp, .protOff, 0, false⟩
def F.PROT_WIN.LO (i : Nat) : Fld := ⟨0x38040 + 4 * i, 16, 16, 32768, .rwp, .protOff, 0, false⟩
/-! PROT_FAST: R306 -/
def F.PROT_FAST.OSR : Fld := ⟨0x38080, 0, 5, 8, .rwp, .protOff, 0, false⟩
def F.PROT_FAST.CNT : Fld := ⟨0x38080, 8, 3, 2, .rwp, .protOff, 0, false⟩
def F.PROT_FAST.ERR : Fld := ⟨0x38080, 16, 1, 0, .ro, .imm, 0, false⟩
/-! PROT_ICBC: R306 -/
def F.PROT_ICBC.ICBC : Fld := ⟨0x38084, 0, 16, 0, .rwp, .protOff, 0, true⟩
def F.PROT_ICBC.NMAX : Fld := ⟨0x38084, 16, 8, 16, .rwp, .protOff, 0, false⟩
/-! PROT_XV: R307 -/
def F.PROT_XV.WIN : Fld := ⟨0x38088, 0, 16, 20, .rwp, .frame, 0, false⟩
def F.PROT_XV.PCT : Fld := ⟨0x38088, 16, 8, 20, .rwp, .frame, 0, false⟩
/-! PROT_XI: R307 -/
def F.PROT_XI.WIN : Fld := ⟨0x3808c, 0, 16, 10, .rwp, .frame, 0, false⟩
def F.PROT_XI.PCT : Fld := ⟨0x3808c, 16, 8, 20, .rwp, .frame, 0, false⟩
def F.PROT_XI.NEG : Fld := ⟨0x3808c, 24, 1, 0, .rwp, .frame, 0, false⟩
/-! PROT_PV: R307 -/
def F.PROT_PV.OV : Fld := ⟨0x380a0, 0, 16, 0, .rwp, .frame, 0, true⟩
def F.PROT_PV.UV : Fld := ⟨0x380a0, 16, 16, 0, .rwp, .frame, 0, true⟩
/-! PROT_PVA: R307 -/
def F.PROT_PVA.OVA : Fld := ⟨0x380a4, 0, 16, 0, .rw, .frame, 0, true⟩
def F.PROT_PVA.UVA : Fld := ⟨0x380a4, 16, 16, 0, .rw, .frame, 0, true⟩
/-! PROT_PT: R307 -/
def F.PROT_PT.OT : Fld := ⟨0x380a8, 0, 16, 650, .rwp, .frame, 0, false⟩
def F.PROT_PT.OTA : Fld := ⟨0x380a8, 16, 16, 580, .rw, .frame, 0, false⟩
/-! PROT_PCONF: R307 -/
def F.PROT_PCONF.N : Fld := ⟨0x380ac, 0, 4, 2, .rwp, .frame, 0, false⟩
def F.PROT_PCONF.LOSTTRIP : Fld := ⟨0x380ac, 4, 1, 0, .rwp, .frame, 0, false⟩
/-! PROT_PHYS: R307 -/
def F.PROT_PHYS.VHYS : Fld := ⟨0x380b0, 0, 16, 500, .rw, .frame, 0, false⟩
def F.PROT_PHYS.THYS : Fld := ⟨0x380b0, 16, 16, 50, .rw, .frame, 0, false⟩
/-! PROT_IS: R307 -/
def F.PROT_IS.OCC : Fld := ⟨0x380b4, 0, 16, 0, .rwp, .frame, 0, true⟩
def F.PROT_IS.OCD : Fld := ⟨0x380b4, 16, 16, 0, .rwp, .frame, 0, true⟩
/-! PROT_IST: R307 -/
def F.PROT_IST.T : Fld := ⟨0x380b8, 0, 16, 100, .rwp, .frame, 0, false⟩
/-! PROT_ISO: R307 -/
def F.PROT_ISO.RBR : Fld := ⟨0x380bc, 0, 16, 0, .rwp, .frame, 0, true⟩
def F.PROT_ISO.N : Fld := ⟨0x380bc, 16, 8, 100, .rwp, .frame, 0, false⟩
def F.PROT_ISO.SRC : Fld := ⟨0x380bc, 24, 4, 0, .rwp, .frame, 0, true⟩
def F.PROT_ISO.EN : Fld := ⟨0x380bc, 28, 1, 0, .rwp, .frame, 0, false⟩
/-! PROT_ISO2: R307 -/
def F.PROT_ISO2.TR : Fld := ⟨0x380c0, 0, 16, 0, .rwp, .frame, 0, true⟩
def F.PROT_ISO2.AL : Fld := ⟨0x380c0, 16, 16, 0, .rw, .frame, 0, true⟩
/-! PROT_TRIP0: R308 -/
def F.PROT_TRIP0.TIN : Fld := ⟨0x380d0, 0, 8, 0, .w1c, .own, 0, false⟩
def F.PROT_TRIP0.WIN : Fld := ⟨0x380d0, 8, 12, 0, .w1c, .own, 0, false⟩
/-! PROT_TRIP1: R308 -/
def F.PROT_TRIP1.LOSS : Fld := ⟨0x380d4, 0, 12, 0, .w1c, .own, 0, false⟩
def F.PROT_TRIP1.XV : Fld := ⟨0x380d4, 12, 1, 0, .w1c, .own, 0, false⟩
def F.PROT_TRIP1.XI : Fld := ⟨0x380d4, 13, 1, 0, .w1c, .own, 0, false⟩
def F.PROT_TRIP1.OV : Fld := ⟨0x380d4, 14, 1, 0, .w1c, .own, 0, false⟩
def F.PROT_TRIP1.UV : Fld := ⟨0x380d4, 15, 1, 0, .w1c, .own, 0, false⟩
def F.PROT_TRIP1.OT : Fld := ⟨0x380d4, 16, 1, 0, .w1c, .own, 0, false⟩
def F.PROT_TRIP1.LOST : Fld := ⟨0x380d4, 17, 1, 0, .w1c, .own, 0, false⟩
def F.PROT_TRIP1.OCC : Fld := ⟨0x380d4, 18, 1, 0, .w1c, .own, 0, false⟩
def F.PROT_TRIP1.OCD : Fld := ⟨0x380d4, 19, 1, 0, .w1c, .own, 0, false⟩
def F.PROT_TRIP1.ISO : Fld := ⟨0x380d4, 20, 1, 0, .w1c, .own, 0, false⟩
def F.PROT_TRIP1.CBCP : Fld := ⟨0x380d4, 21, 1, 0, .w1c, .own, 0, false⟩
def F.PROT_TRIP1.SFA : Fld := ⟨0x380d4, 22, 1, 0, .w1c, .own, 0, false⟩
def F.PROT_TRIP1.SFB : Fld := ⟨0x380d4, 23, 1, 0, .w1c, .own, 0, false⟩
def F.PROT_TRIP1.CLK : Fld := ⟨0x380d4, 24, 1, 0, .w1c, .own, 0, false⟩
/-! PROT_FIRST: R308 -/
def F.PROT_FIRST.CODE : Fld := ⟨0x380d8, 0, 8, 0, .ro, .imm, 0, false⟩
/-! PROT_STAT: R308 -/
def F.PROT_STAT.TRIP : Fld := ⟨0x380dc, 0, 1, 0, .ro, .imm, 0, false⟩
def F.PROT_STAT.PEND : Fld := ⟨0x380dc, 1, 1, 0, .ro, .imm, 0, false⟩
def F.PROT_STAT.CLRREF : Fld := ⟨0x380dc, 2, 1, 0, .w1c, .tick, 0, false⟩
def F.PROT_STAT.CBCACT : Fld := ⟨0x380dc, 8, 6, 0, .ro, .imm, 0, false⟩
def F.PROT_STAT.ALOV : Fld := ⟨0x380dc, 16, 1, 0, .ro, .imm, 0, false⟩
def F.PROT_STAT.ALUV : Fld := ⟨0x380dc, 17, 1, 0, .ro, .imm, 0, false⟩
def F.PROT_STAT.ALOT : Fld := ⟨0x380dc, 18, 1, 0, .ro, .imm, 0, false⟩
def F.PROT_STAT.ALISO : Fld := ⟨0x380dc, 19, 1, 0, .ro, .imm, 0, false⟩
def F.PROT_STAT.REFSTALE : Fld := ⟨0x380dc, 20, 1, 0, .ro, .imm, 0, false⟩
/-! PROT_CBCCNT: R308 -/
def F.PROT_CBCCNT.COUNT (i : Nat) : Fld := ⟨0x380e0 + 4 * i, 0, 16, 0, .rw, .tick, 0, false⟩
/-! PROT_RISO: R308 -/
def F.PROT_RISO.RISO : Fld := ⟨0x380f8, 0, 32, 4294967295, .ro, .imm, 0, false⟩
/-! PROT_TRIPCNT: R308 -/
def F.PROT_TRIPCNT.COUNT : Fld := ⟨0x380fc, 0, 16, 0, .rw, .tick, 0, false⟩
/-! SAFM_STAT: R337 -/
def F.SAFM_STAT.STA : Fld := ⟨0x3c000, 0, 2, 2, .ro, .imm, 0, false⟩
def F.SAFM_STAT.STB : Fld := ⟨0x3c000, 2, 2, 2, .ro, .imm, 0, false⟩
def F.SAFM_STAT.DEG : Fld := ⟨0x3c000, 4, 1, 0, .ro, .imm, 0, false⟩
def F.SAFM_STAT.DEGCH : Fld := ⟨0x3c000, 5, 1, 0, .ro, .imm, 0, false⟩
def F.SAFM_STAT.SAFE : Fld := ⟨0x3c000, 6, 1, 0, .ro, .imm, 0, false⟩
def F.SAFM_STAT.RSTREQ : Fld := ⟨0x3c000, 7, 1, 1, .ro, .imm, 0, false⟩
def F.SAFM_STAT.CFGPATH : Fld := ⟨0x3c000, 8, 2, 0, .ro, .imm, 0, false⟩
def F.SAFM_STAT.STGOK : Fld := ⟨0x3c000, 10, 1, 0, .ro, .imm, 0, false⟩
def F.SAFM_STAT.GSAFE : Fld := ⟨0x3c000, 11, 1, 0, .ro, .imm, 0, false⟩
def F.SAFM_STAT.TONE1 : Fld := ⟨0x3c000, 12, 1, 0, .w1c, .posted, 0, false⟩
def F.SAFM_STAT.DEGT : Fld := ⟨0x3c000, 16, 16, 0, .ro, .imm, 0, false⟩
/-! SAFM_SF: R337 -/
def F.SAFM_SF.DEM : Fld := ⟨0x3c004, 0, 6, 0, .ro, .imm, 0, false⟩
/-! SAFM_IN: R337 -/
def F.SAFM_IN.FA : Fld := ⟨0x3c008, 0, 8, 0, .ro, .imm, 0, false⟩
def F.SAFM_IN.FB : Fld := ⟨0x3c008, 8, 8, 0, .ro, .imm, 0, false⟩
def F.SAFM_IN.DISC : Fld := ⟨0x3c008, 16, 8, 0, .ro, .imm, 0, false⟩
def F.SAFM_IN.INF : Fld := ⟨0x3c008, 24, 8, 0, .ro, .imm, 0, false⟩
/-! SAFM_INFLT: R337 -/
def F.SAFM_INFLT.CAUSE0 : Fld := ⟨0x3c00c, 0, 2, 0, .ro, .imm, 0, false⟩
def F.SAFM_INFLT.CAUSE1 : Fld := ⟨0x3c00c, 4, 2, 0, .ro, .imm, 0, false⟩
def F.SAFM_INFLT.CAUSE2 : Fld := ⟨0x3c00c, 8, 2, 0, .ro, .imm, 0, false⟩
def F.SAFM_INFLT.CAUSE3 : Fld := ⟨0x3c00c, 12, 2, 0, .ro, .imm, 0, false⟩
def F.SAFM_INFLT.CAUSE4 : Fld := ⟨0x3c00c, 16, 2, 0, .ro, .imm, 0, false⟩
def F.SAFM_INFLT.CAUSE5 : Fld := ⟨0x3c00c, 20, 2, 0, .ro, .imm, 0, false⟩
def F.SAFM_INFLT.CAUSE6 : Fld := ⟨0x3c00c, 24, 2, 0, .ro, .imm, 0, false⟩
def F.SAFM_INFLT.CAUSE7 : Fld := ⟨0x3c00c, 28, 2, 0, .ro, .imm, 0, false⟩
/-! SAFM_OUT: R337 -/
def F.SAFM_OUT.ON : Fld := ⟨0x3c010, 0, 6, 0, .ro, .imm, 0, false⟩
def F.SAFM_OUT.PRB : Fld := ⟨0x3c010, 8, 6, 0, .ro, .imm, 0, false⟩
def F.SAFM_OUT.MRB : Fld := ⟨0x3c010, 16, 6, 0, .ro, .imm, 0, false⟩
def F.SAFM_OUT.CFO : Fld := ⟨0x3c010, 24, 6, 0, .ro, .imm, 0, false⟩
/-! SAFM_OUTREQ: R338 -/
def F.SAFM_OUTREQ.REQ : Fld := ⟨0x3c014, 0, 6, 0, .rw, .own, 0, false⟩
def F.SAFM_OUTREQ.PEND : Fld := ⟨0x3c014, 8, 6, 0, .ro, .imm, 0, false⟩
/-! SAFM_OUTFLT: R337 -/
def F.SAFM_OUTFLT.CAUSE0 : Fld := ⟨0x3c018, 0, 4, 0, .ro, .imm, 0, false⟩
def F.SAFM_OUTFLT.CAUSE1 : Fld := ⟨0x3c018, 4, 4, 0, .ro, .imm, 0, false⟩
def F.SAFM_OUTFLT.CAUSE2 : Fld := ⟨0x3c018, 8, 4, 0, .ro, .imm, 0, false⟩
def F.SAFM_OUTFLT.CAUSE3 : Fld := ⟨0x3c018, 12, 4, 0, .ro, .imm, 0, false⟩
def F.SAFM_OUTFLT.CAUSE4 : Fld := ⟨0x3c018, 16, 4, 0, .ro, .imm, 0, false⟩
def F.SAFM_OUTFLT.CAUSE5 : Fld := ⟨0x3c018, 20, 4, 0, .ro, .imm, 0, false⟩
/-! SAFM_CV_A: R338 -/
def F.SAFM_CV_A.CV : Fld := ⟨0x3c020, 0, 32, 0, .ro, .imm, 0, false⟩
/-! SAFM_CV_B: R338 -/
def F.SAFM_CV_B.CV : Fld := ⟨0x3c024, 0, 32, 0, .ro, .imm, 0, false⟩
/-! SAFM_CV_ACT: R338 -/
def F.SAFM_CV_ACT.CV : Fld := ⟨0x3c028, 0, 32, 0, .ro, .imm, 0, false⟩
/-! SAFM_CONFIRM: R338 -/
def F.SAFM_CONFIRM.CV : Fld := ⟨0x3c02c, 0, 32, 0, .rwp, .own, 0, false⟩
/-! SAFM_PADDR: R338 -/
def F.SAFM_PADDR.IDX : Fld := ⟨0x3c030, 0, 8, 0, .rwp, .posted, 0, false⟩
/-! SAFM_PDATA: R338 -/
def F.SAFM_PDATA.DATA : Fld := ⟨0x3c034, 0, 32, 0, .rwp, .own, 0, false⟩
/-! SAFM_CMD: R338 -/
def F.SAFM_CMD.STAGE : Fld := ⟨0x3c038, 0, 1, 0, .w1s, .own, 0, false⟩
def F.SAFM_CMD.COMPUTE : Fld := ⟨0x3c038, 1, 1, 0, .w1s, .own, 0, false⟩
def F.SAFM_CMD.CLRFLT : Fld := ⟨0x3c038, 2, 1, 0, .w1s, .own, 0, false⟩
def F.SAFM_CMD.RST : Fld := ⟨0x3c038, 3, 1, 0, .w1s, .own, 0, false⟩
def F.SAFM_CMD.CLRWELD : Fld := ⟨0x3c038, 4, 1, 0, .w1s, .own, 0, false⟩
def F.SAFM_CMD.PWDEND : Fld := ⟨0x3c038, 5, 1, 0, .w1s, .own, 0, false⟩
def F.SAFM_CMD.PWDACT : Fld := ⟨0x3c038, 6, 1, 0, .w1s, .own, 0, false⟩
def F.SAFM_CMD.RESULT : Fld := ⟨0x3c038, 8, 3, 0, .ro, .imm, 0, false⟩
/-! SAFM_PWD: R338 -/
def F.SAFM_PWD.PWD (i : Nat) : Fld := ⟨0x3c040 + 4 * i, 0, 32, 0, .wo, .posted, 0, false⟩
/-! SAFM_DIAG: R338 -/
def F.SAFM_DIAG.FA : Fld := ⟨0x3c050, 0, 8, 0, .ro, .imm, 0, false⟩
def F.SAFM_DIAG.FB : Fld := ⟨0x3c050, 8, 8, 0, .ro, .imm, 0, false⟩
/-! SAFM_VB_A: R338 -/
def F.SAFM_VB_A.VB : Fld := ⟨0x3c054, 0, 32, 0, .ro, .imm, 0, false⟩
/-! SAFM_VB_B: R338 -/
def F.SAFM_VB_B.VB : Fld := ⟨0x3c058, 0, 32, 0, .ro, .imm, 0, false⟩
/-! SAFM_I2_A: R338 -/
def F.SAFM_I2_A.I2 : Fld := ⟨0x3c05c, 0, 32, 0, .ro, .imm, 0, false⟩
/-! SAFM_I2_B: R338 -/
def F.SAFM_I2_B.I2 : Fld := ⟨0x3c060, 0, 32, 0, .ro, .imm, 0, false⟩
/-! SAFM_LOGSEL: R339 -/
def F.SAFM_LOGSEL.IDX : Fld := ⟨0x3c100, 0, 8, 0, .rw, .own, 0, false⟩
def F.SAFM_LOGSEL.LVALID : Fld := ⟨0x3c100, 16, 1, 0, .ro, .imm, 0, false⟩
/-! SAFM_LOG0: R339 -/
def F.SAFM_LOG0.WORD : Fld := ⟨0x3c104, 0, 8, 0, .ro, .imm, 0, false⟩
def F.SAFM_LOG0.PATH : Fld := ⟨0x3c104, 8, 2, 0, .ro, .imm, 0, false⟩
/-! SAFM_LOG1: R339 -/
def F.SAFM_LOG1.OLD : Fld := ⟨0x3c108, 0, 32, 0, .ro, .imm, 0, false⟩
/-! SAFM_LOG2: R339 -/
def F.SAFM_LOG2.NEW : Fld := ⟨0x3c10c, 0, 32, 0, .ro, .imm, 0, false⟩
/-! SAFM_LOG3: R339 -/
def F.SAFM_LOG3.OPS : Fld := ⟨0x3c110, 0, 32, 0, .ro, .imm, 0, false⟩
/-! SAFM_LOG4: R339 -/
def F.SAFM_LOG4.OPSH : Fld := ⟨0x3c114, 0, 16, 0, .ro, .imm, 0, false⟩
/-! SAFM_LOG5: R339 -/
def F.SAFM_LOG5.PWRCYC : Fld := ⟨0x3c118, 0, 32, 0, .ro, .imm, 0, false⟩
/-! SAFM_XSTAT: R46 -/
def F.SAFM_XSTAT.BUSY : Fld := ⟨0x3cffc, 0, 1, 0, .ro, .imm, 0, false⟩
def F.SAFM_XSTAT.WDROP : Fld := ⟨0x3cffc, 1, 1, 0, .w1c, .imm, 0, false⟩
/-! SHF_CTRL: R360 -/
def F.SHF_CTRL.EN : Fld := ⟨0x40000, 0, 1, 0, .rw, .own, 0, false⟩
def F.SHF_CTRL.REVOKE : Fld := ⟨0x40000, 1, 1, 0, .w1s, .own, 0, false⟩
/-! SHF_ID: R360 -/
def F.SHF_ID.PID : Fld := ⟨0x40004, 0, 16, 0, .rwp, .epoch, 0, true⟩
def F.SHF_ID.SHEAF : Fld := ⟨0x40004, 16, 16, 0, .rwp, .epoch, 0, true⟩
/-! SHF_NET: R360 -/
def F.SHF_NET.ETYPE : Fld := ⟨0x40008, 0, 16, 34997, .rwp, .epoch, 0, false⟩
def F.SHF_NET.VID : Fld := ⟨0x40008, 16, 12, 0, .rwp, .epoch, 0, false⟩
def F.SHF_NET.PCP : Fld := ⟨0x40008, 28, 3, 6, .rwp, .epoch, 0, false⟩
/-! SHF_MCAST_LO: R360 -/
def F.SHF_MCAST_LO.ADDR : Fld := ⟨0x4000c, 0, 32, 9590, .rwp, .epoch, 1, false⟩
/-! SHF_MCAST_HI: R360 -/
def F.SHF_MCAST_HI.ADDR : Fld := ⟨0x40010, 0, 16, 768, .rwp, .epoch, 2, false⟩
/-! SHF_SLOTCFG: R360 -/
def F.SHF_SLOTCFG.NMAX : Fld := ⟨0x40014, 0, 3, 1, .rw, .epoch, 0, false⟩
def F.SHF_SLOTCFG.MINLIVE : Fld := ⟨0x40014, 4, 4, 2, .rw, .epoch, 0, false⟩
def F.SHF_SLOTCFG.TMO : Fld := ⟨0x40014, 16, 8, 10, .rw, .epoch, 0, false⟩
/-! SHF_DCFG: R360 -/
def F.SHF_DCFG.SRC : Fld := ⟨0x40018, 0, 2, 0, .rw, .epoch, 0, false⟩
def F.SHF_DCFG.VSLEW : Fld := ⟨0x40018, 8, 8, 20, .rw, .epoch, 0, false⟩
def F.SHF_DCFG.KD : Fld := ⟨0x40018, 16, 16, 8192, .rw, .epoch, 0, false⟩
/-! SHF_DCFG2: R360 -/
def F.SHF_DCFG2.TMO : Fld := ⟨0x4001c, 0, 16, 5000, .rw, .epoch, 0, false⟩
/-! SHF_VREF_NOM: R360 -/
def F.SHF_VREF_NOM.V : Fld := ⟨0x40020, 0, 32, 0, .rw, .epoch, 0, true⟩
/-! SHF_VREF_MIN: R360 -/
def F.SHF_VREF_MIN.V : Fld := ⟨0x40024, 0, 32, 0, .rwp, .epoch, 0, true⟩
/-! SHF_VREF_MAX: R360 -/
def F.SHF_VREF_MAX.V : Fld := ⟨0x40028, 0, 32, 0, .rwp, .epoch, 0, true⟩
/-! SHF_PTGT: R360 -/
def F.SHF_PTGT.P : Fld := ⟨0x4002c, 0, 32, 0, .rw, .epoch, 0, false⟩
/-! SHF_DCTRL: R360 -/
def F.SHF_DCTRL.GO : Fld := ⟨0x40030, 0, 1, 0, .w1s, .own, 0, false⟩
/-! SHF_STAT: R361 -/
def F.SHF_STAT.NLIVE : Fld := ⟨0x40040, 0, 8, 0, .ro, .imm, 0, false⟩
def F.SHF_STAT.SOCVALID : Fld := ⟨0x40040, 8, 1, 0, .ro, .imm, 0, false⟩
def F.SHF_STAT.DGOV : Fld := ⟨0x40040, 9, 1, 0, .ro, .imm, 0, false⟩
def F.SHF_STAT.DSAT : Fld := ⟨0x40040, 10, 1, 0, .ro, .imm, 0, false⟩
def F.SHF_STAT.DTMO : Fld := ⟨0x40040, 11, 1, 0, .w1c, .imm, 0, false⟩
def F.SHF_STAT.LARGE : Fld := ⟨0x40040, 12, 1, 0, .ro, .imm, 0, false⟩
def F.SHF_STAT.LOSTSEEN : Fld := ⟨0x40040, 13, 1, 0, .w1c, .imm, 0, false⟩
def F.SHF_STAT.V1PEER : Fld := ⟨0x40040, 14, 1, 0, .ro, .imm, 0, false⟩
def F.SHF_STAT.DUPPID : Fld := ⟨0x40040, 15, 1, 0, .ro, .imm, 0, false⟩
def F.SHF_STAT.SLOT : Fld := ⟨0x40040, 16, 2, 0, .ro, .imm, 0, false⟩
def F.SHF_STAT.SKIND : Fld := ⟨0x40040, 18, 1, 0, .ro, .imm, 0, false⟩
def F.SHF_STAT.COLL : Fld := ⟨0x40040, 19, 1, 0, .w1c, .imm, 0, false⟩
/-! SHF_SOCMEAN: R361 -/
def F.SHF_SOCMEAN.SOC : Fld := ⟨0x40044, 0, 16, 65535, .ro, .imm, 0, false⟩
def F.SHF_SOCMEAN.NCONTRIB : Fld := ⟨0x40044, 16, 11, 0, .ro, .imm, 0, false⟩
/-! SHF_SHARE: R361 -/
def F.SHF_SHARE.P : Fld := ⟨0x40048, 0, 32, 0, .ro, .imm, 0, false⟩
/-! SHF_HSUM: R361 -/
def F.SHF_HSUM.H : Fld := ⟨0x4004c, 0, 32, 0, .ro, .imm, 0, false⟩
/-! SHF_CNT: R361 -/
def F.SHF_CNT.LOSSES : Fld := ⟨0x40050, 0, 16, 0, .rw, .imm, 0, false⟩
def F.SHF_CNT.REPORTS : Fld := ⟨0x40050, 16, 16, 0, .rw, .imm, 0, false⟩
/-! SHF_CNT2: R361 -/
def F.SHF_CNT2.SUPP : Fld := ⟨0x40054, 0, 16, 0, .rw, .imm, 0, false⟩
def F.SHF_CNT2.RXERR : Fld := ⟨0x40054, 16, 16, 0, .rw, .imm, 0, false⟩
/-! SHF_NPEER: R361 -/
def F.SHF_NPEER.N : Fld := ⟨0x40058, 0, 11, 0, .ro, .imm, 0, false⟩
/-! SHF_SLOTVIEW: R361 -/
def F.SHF_SLOTVIEW.PID (i : Nat) : Fld := ⟨0x40060 + 4 * i, 0, 16, 65535, .ro, .imm, 0, false⟩
def F.SHF_SLOTVIEW.KIND (i : Nat) : Fld := ⟨0x40060 + 4 * i, 16, 1, 0, .ro, .imm, 0, false⟩
def F.SHF_SLOTVIEW.REMAIN (i : Nat) : Fld := ⟨0x40060 + 4 * i, 24, 8, 0, .ro, .imm, 0, false⟩
/-! SHF_CSEL: R362 -/
def F.SHF_CSEL.IDX : Fld := ⟨0x40100, 0, 8, 0, .rw, .own, 0, false⟩
def F.SHF_CSEL.CVALID : Fld := ⟨0x40100, 16, 1, 0, .ro, .imm, 0, false⟩
/-! SHF_CPID: R362 -/
def F.SHF_CPID.PID : Fld := ⟨0x40104, 0, 16, 0, .ro, .imm, 0, false⟩
def F.SHF_CPID.LIVE : Fld := ⟨0x40104, 16, 1, 0, .ro, .imm, 0, false⟩
def F.SHF_CPID.V2 : Fld := ⟨0x40104, 17, 1, 0, .ro, .imm, 0, false⟩
def F.SHF_CPID.SLOT : Fld := ⟨0x40104, 18, 2, 0, .ro, .imm, 0, false⟩
def F.SHF_CPID.AGE : Fld := ⟨0x40104, 24, 8, 0, .ro, .imm, 0, false⟩
/-! SHF_CSOC: R362 -/
def F.SHF_CSOC.SOC : Fld := ⟨0x40108, 0, 16, 0, .ro, .imm, 0, false⟩
def F.SHF_CSOC.OEPOCH : Fld := ⟨0x40108, 16, 8, 0, .ro, .imm, 0, false⟩
/-! RED_CTRL: R380 -/
def F.RED_CTRL.HANDOVER : Fld := ⟨0x44000, 0, 1, 0, .w1s, .own, 0, false⟩
/-! RED_CFG: R380 -/
def F.RED_CFG.PAIR : Fld := ⟨0x44004, 0, 1, 0, .ro, .imm, 0, false⟩
def F.RED_CFG.SOLO : Fld := ⟨0x44004, 1, 1, 0, .rwp, .imm, 0, true⟩
/-! RED_STAT: R381 -/
def F.RED_STAT.ROLE : Fld := ⟨0x44008, 0, 2, 0, .ro, .imm, 0, false⟩
def F.RED_STAT.GNT : Fld := ⟨0x44008, 2, 1, 0, .ro, .imm, 0, false⟩
def F.RED_STAT.SBYVALID : Fld := ⟨0x44008, 3, 1, 0, .ro, .imm, 0, false⟩
def F.RED_STAT.XLF : Fld := ⟨0x44008, 4, 1, 0, .w1c, .imm, 0, false⟩
def F.RED_STAT.HBF : Fld := ⟨0x44008, 5, 1, 0, .w1c, .imm, 0, false⟩
def F.RED_STAT.LANEF : Fld := ⟨0x44008, 6, 1, 0, .w1c, .imm, 0, false⟩
def F.RED_STAT.CVMIS : Fld := ⟨0x44008, 7, 1, 0, .ro, .imm, 0, false⟩
def F.RED_STAT.VERERR : Fld := ⟨0x44008, 8, 1, 0, .ro, .imm, 0, false⟩
def F.RED_STAT.GNTFAIL : Fld := ⟨0x44008, 9, 1, 0, .w1c, .imm, 0, false⟩
def F.RED_STAT.SOLOACT : Fld := ⟨0x44008, 10, 1, 0, .ro, .imm, 0, false⟩
def F.RED_STAT.PEERDEG : Fld := ⟨0x44008, 11, 1, 0, .ro, .imm, 0, false⟩
def F.RED_STAT.CTELAG : Fld := ⟨0x44008, 12, 1, 0, .ro, .imm, 0, false⟩
def F.RED_STAT.HOERR : Fld := ⟨0x44008, 13, 1, 0, .w1c, .imm, 0, false⟩
/-! RED_XLVER: R381 -/
def F.RED_XLVER.OWNMIN : Fld := ⟨0x4400c, 0, 8, 1, .ro, .imm, 0, false⟩
def F.RED_XLVER.OWNMAX : Fld := ⟨0x4400c, 8, 8, 2, .ro, .imm, 0, false⟩
def F.RED_XLVER.USED : Fld := ⟨0x4400c, 16, 8, 0, .ro, .imm, 0, false⟩
def F.RED_XLVER.PEERMAX : Fld := ⟨0x4400c, 24, 8, 0, .ro, .imm, 0, false⟩
/-! RED_CNT: R381 -/
def F.RED_CNT.SWITCH : Fld := ⟨0x44010, 0, 16, 0, .rw, .imm, 0, false⟩
def F.RED_CNT.HANDOVERS : Fld := ⟨0x44010, 16, 16, 0, .rw, .imm, 0, false⟩
/-! RED_CNT2: R381 -/
def F.RED_CNT2.PATHF : Fld := ⟨0x44014, 0, 16, 0, .rw, .imm, 0, false⟩
def F.RED_CNT2.CRCERR : Fld := ⟨0x44014, 16, 16, 0, .rw, .imm, 0, false⟩
/-! RED_LAST_LO: R381 -/
def F.RED_LAST_LO.TICK : Fld := ⟨0x44018, 0, 32, 0, .ro, .imm, 0, false⟩
/-! RED_LAST_HI: R381 -/
def F.RED_LAST_HI.TICK : Fld := ⟨0x4401c, 0, 16, 0, .ro, .imm, 0, false⟩
def F.RED_LAST_HI.CAUSE : Fld := ⟨0x4401c, 16, 4, 0, .ro, .imm, 0, false⟩
/-! RED_SYNC: R381 -/
def F.RED_SYNC.MS : Fld := ⟨0x44020, 0, 16, 0, .ro, .imm, 0, false⟩
/-! NET_PORT: R468 -/
def F.NET_PORT.EN (i : Nat) : Fld := ⟨0x48004 + 4 * i, 0, 1, 1, .rwp, .imm, 0, false⟩
def F.NET_PORT.MODE (i : Nat) : Fld := ⟨0x48004 + 4 * i, 1, 1, 0, .rwp, .imm, 0, true⟩
def F.NET_PORT.ANEG (i : Nat) : Fld := ⟨0x48004 + 4 * i, 2, 1, 1, .rw, .imm, 0, false⟩
def F.NET_PORT.DEFPCP (i : Nat) : Fld := ⟨0x48004 + 4 * i, 4, 3, 0, .rw, .imm, 0, false⟩
def F.NET_PORT.LINK (i : Nat) : Fld := ⟨0x48004 + 4 * i, 8, 1, 0, .ro, .imm, 0, false⟩
def F.NET_PORT.SPEED (i : Nat) : Fld := ⟨0x48004 + 4 * i, 9, 2, 0, .ro, .imm, 0, false⟩
def F.NET_PORT.LCHG (i : Nat) : Fld := ⟨0x48004 + 4 * i, 11, 1, 0, .w1c, .imm, 0, false⟩
/-! NET_PCPMAP: R468 -/
def F.NET_PCPMAP.Q0 : Fld := ⟨0x4800c, 0, 2, 0, .rw, .imm, 0, false⟩
def F.NET_PCPMAP.Q1 : Fld := ⟨0x4800c, 2, 2, 0, .rw, .imm, 0, false⟩
def F.NET_PCPMAP.Q2 : Fld := ⟨0x4800c, 4, 2, 0, .rw, .imm, 0, false⟩
def F.NET_PCPMAP.Q3 : Fld := ⟨0x4800c, 6, 2, 1, .rw, .imm, 0, false⟩
def F.NET_PCPMAP.Q4 : Fld := ⟨0x4800c, 8, 2, 1, .rw, .imm, 0, false⟩
def F.NET_PCPMAP.Q5 : Fld := ⟨0x4800c, 10, 2, 2, .rw, .imm, 0, false⟩
def F.NET_PCPMAP.Q6 : Fld := ⟨0x4800c, 12, 2, 2, .rw, .imm, 0, false⟩
def F.NET_PCPMAP.Q7 : Fld := ⟨0x4800c, 14, 2, 3, .rw, .imm, 0, false⟩
/-! NET_MAC1_LO: R468 -/
def F.NET_MAC1_LO.MAC : Fld := ⟨0x48010, 0, 32, 0, .ro, .imm, 0, false⟩
/-! NET_MAC1_HI: R468 -/
def F.NET_MAC1_HI.MAC : Fld := ⟨0x48014, 0, 16, 0, .ro, .imm, 0, false⟩
/-! NET_MAC2_LO: R468 -/
def F.NET_MAC2_LO.MAC : Fld := ⟨0x48018, 0, 32, 0, .ro, .imm, 0, false⟩
/-! NET_MAC2_HI: R468 -/
def F.NET_MAC2_HI.MAC : Fld := ⟨0x4801c, 0, 16, 0, .ro, .imm, 0, false⟩
/-! NET_AGE: R468 -/
def F.NET_AGE.AGE : Fld := ⟨0x48020, 0, 16, 300, .rw, .imm, 0, false⟩
/-! NET_RXOK: R468 -/
def F.NET_RXOK.COUNT (i : Nat) : Fld := ⟨0x48040 + 16 * i, 0, 32, 0, .rw, .imm, 0, false⟩
/-! NET_ERR: R468 -/
def F.NET_ERR.RXERR (i : Nat) : Fld := ⟨0x48044 + 16 * i, 0, 16, 0, .rw, .imm, 0, false⟩
def F.NET_ERR.DROP (i : Nat) : Fld := ⟨0x48044 + 16 * i, 16, 16, 0, .rw, .imm, 0, false⟩
/-! NET_TXOK: R468 -/
def F.NET_TXOK.COUNT (i : Nat) : Fld := ⟨0x48048 + 16 * i, 0, 32, 0, .rw, .imm, 0, false⟩
/-! NET_NOTERM: R468 -/
def F.NET_NOTERM.COUNT (i : Nat) : Fld := ⟨0x4804c + 16 * i, 0, 16, 0, .rw, .imm, 0, false⟩
/-! PTP_CFG: R469 -/
def F.PTP_CFG.PROF : Fld := ⟨0x4c000, 0, 2, 0, .rwp, .imm, 0, true⟩
def F.PTP_CFG.DOMAIN : Fld := ⟨0x4c000, 8, 8, 0, .rwp, .imm, 0, false⟩
def F.PTP_CFG.TCEN : Fld := ⟨0x4c000, 16, 1, 1, .rwp, .imm, 0, false⟩
def F.PTP_CFG.VID : Fld := ⟨0x4c000, 18, 12, 0, .rwp, .imm, 0, false⟩
/-! PTP_CTRL: R469 -/
def F.PTP_CTRL.SERVO : Fld := ⟨0x4c004, 0, 1, 1, .rw, .imm, 0, false⟩
def F.PTP_CTRL.TSET : Fld := ⟨0x4c004, 1, 1, 0, .w1s, .own, 0, false⟩
def F.PTP_CTRL.STEPGO : Fld := ⟨0x4c004, 2, 1, 0, .w1s, .own, 0, false⟩
/-! PTP_SERVO: R469 -/
def F.PTP_SERVO.KP : Fld := ⟨0x4c008, 0, 16, 32768, .rw, .imm, 0, false⟩
def F.PTP_SERVO.KI : Fld := ⟨0x4c008, 16, 16, 3277, .rw, .imm, 0, false⟩
/-! PTP_THR: R469 -/
def F.PTP_THR.STEP : Fld := ⟨0x4c00c, 0, 16, 100, .rw, .imm, 0, false⟩
def F.PTP_THR.LOCK : Fld := ⟨0x4c00c, 16, 8, 25, .rw, .imm, 0, false⟩
def F.PTP_THR.UNLOCK : Fld := ⟨0x4c00c, 24, 8, 100, .rw, .imm, 0, false⟩
/-! PTP_RATE: R469 -/
def F.PTP_RATE.ADJ : Fld := ⟨0x4c010, 0, 32, 0, .rw, .imm, 0, false⟩
/-! PTP_HOLDRATE: R470 -/
def F.PTP_HOLDRATE.RATE : Fld := ⟨0x4c014, 0, 32, 0, .ro, .imm, 0, false⟩
/-! PTP_STAT: R470 -/
def F.PTP_STAT.PSTATE : Fld := ⟨0x4c018, 0, 3, 1, .ro, .imm, 0, false⟩
def F.PTP_STAT.LOCK : Fld := ⟨0x4c018, 3, 1, 0, .ro, .imm, 0, false⟩
def F.PTP_STAT.HOLD : Fld := ⟨0x4c018, 4, 1, 0, .ro, .imm, 0, false⟩
def F.PTP_STAT.MCHG : Fld := ⟨0x4c018, 5, 1, 0, .w1c, .imm, 0, false⟩
def F.PTP_STAT.STEPPED : Fld := ⟨0x4c018, 6, 1, 0, .w1c, .imm, 0, false⟩
def F.PTP_STAT.TSETERR : Fld := ⟨0x4c018, 7, 1, 0, .w1c, .imm, 0, false⟩
def F.PTP_STAT.MPORT : Fld := ⟨0x4c018, 8, 2, 0, .ro, .imm, 0, false⟩
/-! PTP_OFFSET: R470 -/
def F.PTP_OFFSET.O : Fld := ⟨0x4c01c, 0, 32, 0, .ro, .imm, 0, false⟩
/-! PTP_MPD: R470 -/
def F.PTP_MPD.MPD : Fld := ⟨0x4c020, 0, 32, 0, .ro, .imm, 0, false⟩
/-! PTP_GM_LO: R470 -/
def F.PTP_GM_LO.ID : Fld := ⟨0x4c024, 0, 32, 0, .ro, .imm, 0, false⟩
/-! PTP_GM_HI: R470 -/
def F.PTP_GM_HI.ID : Fld := ⟨0x4c028, 0, 32, 0, .ro, .imm, 0, false⟩
/-! PTP_TIME_NS: R470 -/
def F.PTP_TIME_NS.NS : Fld := ⟨0x4c030, 0, 30, 0, .ro, .imm, 0, false⟩
/-! PTP_TIME_S_LO: R470 -/
def F.PTP_TIME_S_LO.S : Fld := ⟨0x4c034, 0, 32, 0, .ro, .imm, 0, false⟩
/-! PTP_TIME_S_HI: R470 -/
def F.PTP_TIME_S_HI.S : Fld := ⟨0x4c038, 0, 16, 0, .ro, .imm, 0, false⟩
/-! PTP_TSET_NS: R469 -/
def F.PTP_TSET_NS.NS : Fld := ⟨0x4c040, 0, 30, 0, .rw, .imm, 0, false⟩
/-! PTP_TSET_S_LO: R469 -/
def F.PTP_TSET_S_LO.S : Fld := ⟨0x4c044, 0, 32, 0, .rw, .imm, 1, false⟩
/-! PTP_TSET_S_HI: R469 -/
def F.PTP_TSET_S_HI.S : Fld := ⟨0x4c048, 0, 16, 0, .rw, .imm, 2, false⟩
/-! PTP_STEPV: R469 -/
def F.PTP_STEPV.NS : Fld := ⟨0x4c04c, 0, 32, 0, .rw, .imm, 0, false⟩
/-! PTP_PORT_ASYM: R469 -/
def F.PTP_PORT_ASYM.ASYM (i : Nat) : Fld := ⟨0x4c060 + 8 * i, 0, 16, 0, .rwp, .imm, 0, false⟩
/-! PTP_PORT_LDLY: R470 -/
def F.PTP_PORT_LDLY.LDLY (i : Nat) : Fld := ⟨0x4c064 + 8 * i, 0, 32, 4294967295, .ro, .imm, 0, false⟩
/-! PTP_CNT: R470 -/
def F.PTP_CNT.TCFWD : Fld := ⟨0x4c070, 0, 16, 0, .rw, .imm, 0, false⟩
def F.PTP_CNT.FUMISS : Fld := ⟨0x4c070, 16, 16, 0, .rw, .imm, 0, false⟩
/-! CAN_CTRL: R493 -/
def F.CAN_CTRL.INIT : Fld := ⟨0x50000, 0, 1, 1, .rw, .own, 0, false⟩
def F.CAN_CTRL.AUTOREC : Fld := ⟨0x50000, 1, 1, 1, .rw, .posted, 0, false⟩
def F.CAN_CTRL.FDEN : Fld := ⟨0x50000, 2, 1, 1, .rw, .posted, 0, false⟩
def F.CAN_CTRL.BRSEN : Fld := ⟨0x50000, 3, 1, 1, .rw, .posted, 0, false⟩
def F.CAN_CTRL.TDCEN : Fld := ⟨0x50000, 4, 1, 1, .rw, .posted, 0, false⟩
/-! CAN_NBT: R493 -/
def F.CAN_NBT.NBRP : Fld := ⟨0x50004, 0, 5, 1, .rw, .posted, 0, false⟩
def F.CAN_NBT.NTSEG1 : Fld := ⟨0x50004, 8, 8, 74, .rw, .posted, 0, false⟩
def F.CAN_NBT.NTSEG2 : Fld := ⟨0x50004, 16, 7, 19, .rw, .posted, 0, false⟩
def F.CAN_NBT.NSJW : Fld := ⟨0x50004, 24, 7, 19, .rw, .posted, 0, false⟩
/-! CAN_DBT: R493 -/
def F.CAN_DBT.DBRP : Fld := ⟨0x50008, 0, 5, 0, .rw, .posted, 0, false⟩
def F.CAN_DBT.DTSEG1 : Fld := ⟨0x50008, 5, 5, 16, .rw, .posted, 0, false⟩
def F.CAN_DBT.DTSEG2 : Fld := ⟨0x50008, 10, 4, 5, .rw, .posted, 0, false⟩
def F.CAN_DBT.DSJW : Fld := ⟨0x50008, 14, 4, 5, .rw, .posted, 0, false⟩
def F.CAN_DBT.TDCO : Fld := ⟨0x50008, 24, 7, 18, .rw, .posted, 0, false⟩
/-! CAN_STAT: R493 -/
def F.CAN_STAT.EST : Fld := ⟨0x5000c, 0, 2, 0, .ro, .imm, 0, false⟩
def F.CAN_STAT.ALONE : Fld := ⟨0x5000c, 2, 1, 0, .ro, .imm, 0, false⟩
def F.CAN_STAT.BOFFSEEN : Fld := ⟨0x5000c, 3, 1, 0, .w1c, .posted, 0, false⟩
def F.CAN_STAT.ALONESEEN : Fld := ⟨0x5000c, 4, 1, 0, .w1c, .posted, 0, false⟩
def F.CAN_STAT.LEC : Fld := ⟨0x5000c, 8, 3, 0, .ro, .imm, 0, false⟩
def F.CAN_STAT.TDCV : Fld := ⟨0x5000c, 16, 7, 0, .ro, .imm, 0, false⟩
/-! CAN_ERRCNT: R493 -/
def F.CAN_ERRCNT.TEC : Fld := ⟨0x50010, 0, 9, 0, .ro, .imm, 0, false⟩
def F.CAN_ERRCNT.REC : Fld := ⟨0x50010, 16, 8, 0, .ro, .imm, 0, false⟩
def F.CAN_ERRCNT.NOACK : Fld := ⟨0x50010, 24, 8, 0, .ro, .imm, 0, false⟩
/-! CAN_CNT: R493 -/
def F.CAN_CNT.TXOK : Fld := ⟨0x50014, 0, 16, 0, .rw, .posted, 0, false⟩
def F.CAN_CNT.RXOK : Fld := ⟨0x50014, 16, 16, 0, .rw, .posted, 0, false⟩
/-! CAN_CNT2: R493 -/
def F.CAN_CNT2.NOMATCH : Fld := ⟨0x50018, 0, 8, 0, .rw, .posted, 0, false⟩
def F.CAN_CNT2.LOSTCNT : Fld := ⟨0x50018, 8, 8, 0, .rw, .posted, 0, false⟩
def F.CAN_CNT2.BOFFCNT : Fld := ⟨0x50018, 16, 8, 0, .rw, .posted, 0, false⟩
/-! CAN_TM_CFG: R494 -/
def F.CAN_TM_CFG.EN : Fld := ⟨0x50020, 0, 1, 0, .rw, .posted, 0, false⟩
def F.CAN_TM_CFG.XTD : Fld := ⟨0x50020, 1, 1, 0, .rw, .posted, 0, false⟩
def F.CAN_TM_CFG.PER : Fld := ⟨0x50020, 16, 16, 100, .rw, .posted, 0, false⟩
/-! CAN_TM_ID: R494 -/
def F.CAN_TM_ID.ID : Fld := ⟨0x50024, 0, 29, 256, .rw, .posted, 0, false⟩
/-! CAN_TM_STAT: R494 -/
def F.CAN_TM_STAT.SEQ : Fld := ⟨0x50028, 0, 8, 0, .ro, .imm, 0, false⟩
def F.CAN_TM_STAT.REPL : Fld := ⟨0x50028, 16, 16, 0, .rw, .posted, 0, false⟩
/-! CAN_TM_TS_NS: R494 -/
def F.CAN_TM_TS_NS.NS : Fld := ⟨0x5002c, 0, 30, 0, .ro, .imm, 0, false⟩
/-! CAN_TM_TS_S_LO: R494 -/
def F.CAN_TM_TS_S_LO.S : Fld := ⟨0x50030, 0, 32, 0, .ro, .imm, 0, false⟩
/-! CAN_TM_TS_S_HI: R494 -/
def F.CAN_TM_TS_S_HI.S : Fld := ⟨0x50034, 0, 16, 0, .ro, .imm, 0, false⟩
/-! CAN_OBJ_CFG: R495 -/
def F.CAN_OBJ_CFG.EN (i : Nat) : Fld := ⟨0x50200 + 96 * i, 0, 1, 0, .rw, .posted, 0, false⟩
def F.CAN_OBJ_CFG.DIR (i : Nat) : Fld := ⟨0x50200 + 96 * i, 1, 1, 0, .rw, .posted, 0, false⟩
def F.CAN_OBJ_CFG.XTD (i : Nat) : Fld := ⟨0x50200 + 96 * i, 2, 1, 0, .rw, .posted, 0, false⟩
def F.CAN_OBJ_CFG.FDF (i : Nat) : Fld := ⟨0x50200 + 96 * i, 3, 1, 0, .rw, .posted, 0, false⟩
def F.CAN_OBJ_CFG.BRS (i : Nat) : Fld := ⟨0x50200 + 96 * i, 4, 1, 0, .rw, .posted, 0, false⟩
def F.CAN_OBJ_CFG.DLC (i : Nat) : Fld := ⟨0x50200 + 96 * i, 8, 4, 0, .rw, .posted, 0, false⟩
def F.CAN_OBJ_CFG.TXREQ (i : Nat) : Fld := ⟨0x50200 + 96 * i, 16, 1, 0, .w1s, .own, 0, false⟩
def F.CAN_OBJ_CFG.TXABORT (i : Nat) : Fld := ⟨0x50200 + 96 * i, 17, 1, 0, .w1s, .own, 0, false⟩
def F.CAN_OBJ_CFG.LOCK (i : Nat) : Fld := ⟨0x50200 + 96 * i, 18, 1, 0, .rw, .own, 0, false⟩
/-! CAN_OBJ_ID: R495 -/
def F.CAN_OBJ_ID.ID (i : Nat) : Fld := ⟨0x50204 + 96 * i, 0, 29, 0, .rw, .posted, 0, false⟩
/-! CAN_OBJ_MASK: R495 -/
def F.CAN_OBJ_MASK.MASK (i : Nat) : Fld := ⟨0x50208 + 96 * i, 0, 29, 536870911, .rw, .posted, 0, false⟩
/-! CAN_OBJ_STAT: R495 -/
def F.CAN_OBJ_STAT.NEW (i : Nat) : Fld := ⟨0x5020c + 96 * i, 0, 1, 0, .w1c, .posted, 0, false⟩
def F.CAN_OBJ_STAT.LOST (i : Nat) : Fld := ⟨0x5020c + 96 * i, 1, 1, 0, .w1c, .posted, 0, false⟩
def F.CAN_OBJ_STAT.TXDONE (i : Nat) : Fld := ⟨0x5020c + 96 * i, 2, 1, 0, .w1c, .posted, 0, false⟩
def F.CAN_OBJ_STAT.WERR (i : Nat) : Fld := ⟨0x5020c + 96 * i, 3, 1, 0, .w1c, .posted, 0, false⟩
def F.CAN_OBJ_STAT.SHADOW (i : Nat) : Fld := ⟨0x5020c + 96 * i, 4, 1, 0, .ro, .imm, 0, false⟩
def F.CAN_OBJ_STAT.RDLC (i : Nat) : Fld := ⟨0x5020c + 96 * i, 8, 4, 0, .ro, .imm, 0, false⟩
def F.CAN_OBJ_STAT.RFDF (i : Nat) : Fld := ⟨0x5020c + 96 * i, 12, 1, 0, .ro, .imm, 0, false⟩
def F.CAN_OBJ_STAT.RBRS (i : Nat) : Fld := ⟨0x5020c + 96 * i, 13, 1, 0, .ro, .imm, 0, false⟩
def F.CAN_OBJ_STAT.RESI (i : Nat) : Fld := ⟨0x5020c + 96 * i, 14, 1, 0, .ro, .imm, 0, false⟩
/-! CAN_OBJ_TS: R495 -/
def F.CAN_OBJ_TS.TS (i : Nat) : Fld := ⟨0x50210 + 96 * i, 0, 32, 0, .ro, .imm, 0, false⟩
/-! CAN_OBJ_D: R495 -/
def F.CAN_OBJ_D.DATA (i : Nat) (j : Nat) : Fld := ⟨0x50220 + 96 * i + 4 * j, 0, 32, 0, .rw, .posted, 0, false⟩
/-! CAN_XSTAT: R46 -/
def F.CAN_XSTAT.BUSY : Fld := ⟨0x50ffc, 0, 1, 0, .ro, .imm, 0, false⟩
def F.CAN_XSTAT.WDROP : Fld := ⟨0x50ffc, 1, 1, 0, .w1c, .imm, 0, false⟩
/-! SMB_C_CFG: R496 -/
def F.SMB_C_CFG.SPEED : Fld := ⟨0x54000, 0, 2, 0, .rw, .posted, 0, false⟩
def F.SMB_C_CFG.PEC : Fld := ⟨0x54000, 2, 1, 0, .rw, .posted, 0, false⟩
def F.SMB_C_CFG.AUTOARA : Fld := ⟨0x54000, 3, 1, 1, .rw, .posted, 0, false⟩
def F.SMB_C_CFG.ARBRETRY : Fld := ⟨0x54000, 4, 3, 3, .rw, .posted, 0, false⟩
/-! SMB_C_CMD: R496 -/
def F.SMB_C_CMD.ADDR : Fld := ⟨0x54004, 0, 7, 0, .rw, .posted, 0, false⟩
def F.SMB_C_CMD.PROT : Fld := ⟨0x54004, 8, 4, 0, .rw, .posted, 0, false⟩
def F.SMB_C_CMD.CODE : Fld := ⟨0x54004, 16, 8, 0, .rw, .posted, 0, false⟩
def F.SMB_C_CMD.PECEN : Fld := ⟨0x54004, 24, 1, 0, .rw, .posted, 0, false⟩
def F.SMB_C_CMD.GO : Fld := ⟨0x54004, 31, 1, 0, .w1s, .own, 0, false⟩
/-! SMB_C_LEN: R496 -/
def F.SMB_C_LEN.WCNT : Fld := ⟨0x54008, 0, 8, 0, .rw, .posted, 0, false⟩
def F.SMB_C_LEN.RCNT : Fld := ⟨0x54008, 8, 8, 0, .ro, .imm, 0, false⟩
/-! SMB_C_CTRL: R496 -/
def F.SMB_C_CTRL.CLEAR : Fld := ⟨0x5400c, 0, 1, 0, .w1s, .own, 0, false⟩
/-! SMB_C_STAT: R496 -/
def F.SMB_C_STAT.DONE : Fld := ⟨0x54010, 0, 1, 0, .w1c, .posted, 0, false⟩
def F.SMB_C_STAT.RESULT : Fld := ⟨0x54010, 1, 3, 0, .ro, .imm, 0, false⟩
def F.SMB_C_STAT.BUSERR : Fld := ⟨0x54010, 4, 1, 0, .w1c, .posted, 0, false⟩
def F.SMB_C_STAT.SDASTUCK : Fld := ⟨0x54010, 5, 1, 0, .ro, .imm, 0, false⟩
def F.SMB_C_STAT.CLEARING : Fld := ⟨0x54010, 6, 1, 0, .ro, .imm, 0, false⟩
def F.SMB_C_STAT.ALERTSEEN : Fld := ⟨0x54010, 7, 1, 0, .w1c, .posted, 0, false⟩
def F.SMB_C_STAT.ALERTNAK : Fld := ⟨0x54010, 8, 1, 0, .w1c, .posted, 0, false⟩
/-! SMB_C_ALERT: R496 -/
def F.SMB_C_ALERT.ADDR : Fld := ⟨0x54014, 0, 7, 0, .ro, .imm, 0, false⟩
def F.SMB_C_ALERT.COUNT : Fld := ⟨0x54014, 16, 16, 0, .rw, .posted, 0, false⟩
/-! SMB_T_CFG: R497 -/
def F.SMB_T_CFG.ADDR : Fld := ⟨0x54020, 0, 7, 0, .rwp, .posted, 0, true⟩
def F.SMB_T_CFG.EN : Fld := ⟨0x54020, 8, 1, 0, .rwp, .posted, 0, false⟩
def F.SMB_T_CFG.PECREQ : Fld := ⟨0x54020, 9, 1, 0, .rw, .posted, 0, false⟩
def F.SMB_T_CFG.OVWR : Fld := ⟨0x54020, 10, 1, 1, .rw, .posted, 0, false⟩
/-! SMB_T_CTRL: R497 -/
def F.SMB_T_CTRL.ALERT : Fld := ⟨0x54024, 0, 1, 0, .w1s, .own, 0, false⟩
def F.SMB_T_CTRL.ALERTCLR : Fld := ⟨0x54024, 1, 1, 0, .w1s, .own, 0, false⟩
/-! SMB_T_STAT: R497 -/
def F.SMB_T_STAT.PROTOERR : Fld := ⟨0x54028, 0, 1, 0, .w1c, .posted, 0, false⟩
def F.SMB_T_STAT.PECERR : Fld := ⟨0x54028, 1, 1, 0, .w1c, .posted, 0, false⟩
def F.SMB_T_STAT.TIMEOUT : Fld := ⟨0x54028, 2, 1, 0, .w1c, .posted, 0, false⟩
def F.SMB_T_STAT.ARADONE : Fld := ⟨0x54028, 3, 1, 0, .w1c, .posted, 0, false⟩
def F.SMB_T_STAT.BUSYNAK : Fld := ⟨0x54028, 16, 16, 0, .rw, .posted, 0, false⟩
/-! SMB_T_NEW: R497 -/
def F.SMB_T_NEW.NEW : Fld := ⟨0x5402c, 0, 32, 0, .w1c, .posted, 0, false⟩
/-! SMB_C_DATA: R496 -/
def F.SMB_C_DATA.DATA (i : Nat) : Fld := ⟨0x54100 + 4 * i, 0, 32, 0, .rw, .posted, 0, false⟩
/-! SMB_T_WIN: R497 -/
def F.SMB_T_WIN.WORD (i : Nat) : Fld := ⟨0x54200 + 4 * i, 0, 32, 0, .rw, .posted, 0, false⟩
/-! SMB_T_WINB: R497 -/
def F.SMB_T_WINB.WORD (i : Nat) : Fld := ⟨0x54280 + 4 * i, 0, 32, 0, .ro, .imm, 0, false⟩
/-! SMB_XSTAT: R46 -/
def F.SMB_XSTAT.BUSY : Fld := ⟨0x54ffc, 0, 1, 0, .ro, .imm, 0, false⟩
def F.SMB_XSTAT.WDROP : Fld := ⟨0x54ffc, 1, 1, 0, .w1c, .imm, 0, false⟩
/-! EVR_STAT: R509 -/
def F.EVR_STAT.WPTR : Fld := ⟨0x58000, 0, 16, 0, .ro, .imm, 0, false⟩
def F.EVR_STAT.WRAP : Fld := ⟨0x58000, 16, 1, 0, .ro, .imm, 0, false⟩
/-! EVR_NEWEST_LO: R509 -/
def F.EVR_NEWEST_LO.ESN : Fld := ⟨0x58004, 0, 32, 0, .ro, .imm, 0, false⟩
/-! EVR_NEWEST_HI: R509 -/
def F.EVR_NEWEST_HI.ESN : Fld := ⟨0x58008, 0, 32, 0, .ro, .imm, 0, false⟩
/-! EVR_OLDEST_LO: R509 -/
def F.EVR_OLDEST_LO.ESN : Fld := ⟨0x5800c, 0, 32, 0, .ro, .imm, 0, false⟩
/-! EVR_OLDEST_HI: R509 -/
def F.EVR_OLDEST_HI.ESN : Fld := ⟨0x58010, 0, 32, 0, .ro, .imm, 0, false⟩
/-! EVR_CNT: R509 -/
def F.EVR_CNT.RECORDS : Fld := ⟨0x58014, 0, 32, 0, .rw, .imm, 0, false⟩
/-! EVR_MCNT: R509 -/
def F.EVR_MCNT.MERGES : Fld := ⟨0x58018, 0, 32, 0, .rw, .imm, 0, false⟩
/-! EVR_NET: R509 -/
def F.EVR_NET.EN : Fld := ⟨0x58020, 0, 1, 0, .rwp, .imm, 0, false⟩
def F.EVR_NET.ETYPE : Fld := ⟨0x58020, 16, 16, 34998, .rwp, .imm, 0, false⟩
/-! EVR_NETMASK: R509 -/
def F.EVR_NETMASK.GROUPS : Fld := ⟨0x58024, 0, 16, 65535, .rw, .imm, 0, false⟩
def F.EVR_NETMASK.HIGH : Fld := ⟨0x58024, 16, 1, 1, .rw, .imm, 0, false⟩
/-! EVR_MCAST_LO: R509 -/
def F.EVR_MCAST_LO.ADDR : Fld := ⟨0x58028, 0, 32, 9591, .rwp, .imm, 1, false⟩
/-! EVR_MCAST_HI: R509 -/
def F.EVR_MCAST_HI.ADDR : Fld := ⟨0x5802c, 0, 16, 768, .rwp, .imm, 2, false⟩
/-! EVR_WSEL: R510 -/
def F.EVR_WSEL.SLOT : Fld := ⟨0x58100, 0, 16, 0, .rw, .own, 0, false⟩
def F.EVR_WSEL.WVALID : Fld := ⟨0x58100, 16, 1, 0, .ro, .imm, 0, false⟩
/-! EVR_W: R510 -/
def F.EVR_W.DATA (i : Nat) : Fld := ⟨0x58110 + 4 * i, 0, 32, 0, .ro, .imm, 0, false⟩
/-! UPD_STAT: R544 -/
def F.UPD_STAT.STATE : Fld := ⟨0x5c000, 0, 3, 0, .ro, .imm, 0, false⟩
def F.UPD_STAT.ERR : Fld := ⟨0x5c000, 4, 4, 0, .ro, .imm, 0, false⟩
def F.UPD_STAT.TRIAL : Fld := ⟨0x5c000, 8, 1, 0, .ro, .imm, 0, false⟩
def F.UPD_STAT.TRIES : Fld := ⟨0x5c000, 9, 2, 0, .ro, .imm, 0, false⟩
def F.UPD_STAT.SFWPEND : Fld := ⟨0x5c000, 11, 1, 0, .ro, .imm, 0, false⟩
def F.UPD_STAT.RESUMED : Fld := ⟨0x5c000, 12, 1, 0, .w1c, .imm, 0, false⟩
/-! UPD_PROG: R544 -/
def F.UPD_PROG.DONE : Fld := ⟨0x5c004, 0, 16, 0, .ro, .imm, 0, false⟩
def F.UPD_PROG.TOTAL : Fld := ⟨0x5c004, 16, 16, 0, .ro, .imm, 0, false⟩
/-! UPD_RUNVER: R544 -/
def F.UPD_RUNVER.VER : Fld := ⟨0x5c008, 0, 16, 0, .ro, .imm, 0, false⟩
def F.UPD_RUNVER.SVER : Fld := ⟨0x5c008, 16, 16, 0, .ro, .imm, 0, false⟩
/-! UPD_TGTVER: R544 -/
def F.UPD_TGTVER.VER : Fld := ⟨0x5c00c, 0, 16, 0, .ro, .imm, 0, false⟩
def F.UPD_TGTVER.SVER : Fld := ⟨0x5c00c, 16, 16, 0, .ro, .imm, 0, false⟩
/-! UPD_CFG: R544 -/
def F.UPD_CFG.CONFIRMT : Fld := ⟨0x5c010, 0, 8, 60, .rwp, .imm, 0, false⟩
/-! UPD_CNT: R544 -/
def F.UPD_CNT.APPLIED : Fld := ⟨0x5c014, 0, 16, 0, .rw, .imm, 0, true⟩
def F.UPD_CNT.ROLLBACKS : Fld := ⟨0x5c014, 16, 16, 0, .rw, .imm, 0, true⟩
/-! UPD_TGTHASH: R544 -/
def F.UPD_TGTHASH.HASH (i : Nat) : Fld := ⟨0x5c020 + 4 * i, 0, 32, 0, .ro, .imm, 0, false⟩
/-! THM_TEMP: R578 -/
def F.THM_TEMP.TEMP : Fld := ⟨0x60000, 0, 16, 0, .ro, .imm, 0, false⟩
def F.THM_TEMP.MAX : Fld := ⟨0x60000, 16, 16, 32768, .rw, .imm, 0, false⟩
/-! THM_LVL: R578 -/
def F.THM_LVL.LVL : Fld := ⟨0x60004, 0, 2, 0, .rw, .imm, 0, false⟩
def F.THM_LVL.MINLVL : Fld := ⟨0x60004, 4, 2, 0, .rw, .imm, 0, false⟩
def F.THM_LVL.HOTSEEN : Fld := ⟨0x60004, 8, 1, 0, .w1c, .imm, 0, false⟩
/-! THM_CNT: R578 -/
def F.THM_CNT.L1 : Fld := ⟨0x60008, 0, 16, 0, .rw, .imm, 0, false⟩
def F.THM_CNT.L2 : Fld := ⟨0x60008, 16, 16, 0, .rw, .imm, 0, false⟩
/-! SVC_CTRL: R545 -/
def F.SVC_CTRL.BLOCK : Fld := ⟨0x64000, 0, 1, 0, .rwp, .own, 0, false⟩
/-! SVC_STAT: R545 -/
def F.SVC_STAT.ATTACH : Fld := ⟨0x64004, 0, 1, 0, .ro, .imm, 0, false⟩
def F.SVC_STAT.SESSION : Fld := ⟨0x64004, 1, 1, 0, .ro, .imm, 0, false⟩
def F.SVC_STAT.KEY : Fld := ⟨0x64004, 2, 2, 0, .ro, .imm, 0, false⟩
def F.SVC_STAT.LOCKOUT : Fld := ⟨0x64004, 4, 1, 0, .ro, .imm, 0, false⟩
def F.SVC_STAT.FAILS : Fld := ⟨0x64004, 5, 2, 0, .ro, .imm, 0, false⟩
def F.SVC_STAT.LOCKT : Fld := ⟨0x64004, 16, 16, 0, .ro, .imm, 0, false⟩
/-! SVC_CNT: R545 -/
def F.SVC_CNT.SESSIONS : Fld := ⟨0x64008, 0, 16, 0, .rw, .posted, 0, false⟩
def F.SVC_CNT.AUTHFAIL : Fld := ⟨0x64008, 16, 16, 0, .rw, .posted, 0, false⟩
/-! SVC_XSTAT: R46 -/
def F.SVC_XSTAT.BUSY : Fld := ⟨0x64ffc, 0, 1, 0, .ro, .imm, 0, false⟩
def F.SVC_XSTAT.WDROP : Fld := ⟨0x64ffc, 1, 1, 0, .w1c, .imm, 0, false⟩

/-- Registers of GLB, part 1. -/
def regsGLB1 : List RegDef := [
  ⟨0x0, 1, 1, 1, 1, [F.GLB_ID.TYPE, F.GLB_ID.VARIANT]⟩,
  ⟨0x4, 1, 1, 1, 1, [F.GLB_VER.STEP, F.GLB_VER.CHNVER]⟩,
  ⟨0x8, 1, 1, 1, 1, [F.GLB_SER_LO.SER]⟩,
  ⟨0xc, 1, 1, 1, 1, [F.GLB_SER_HI.SER]⟩,
  ⟨0x10, 1, 1, 1, 1, [F.GLB_STAT.READY, F.GLB_STAT.TRIP, F.GLB_STAT.CNVFAULT, F.GLB_STAT.SAFE, F.GLB_STAT.DEG, F.GLB_STAT.RECOVER, F.GLB_STAT.ROLE, F.GLB_STAT.THROTTLE, F.GLB_STAT.NOREST, F.GLB_STAT.ACCEPT]⟩,
  ⟨0x20, 1, 1, 1, 1, [F.GLB_SCRATCH.DATA]⟩,
  ⟨0x30, 1, 1, 1, 1, [F.GLB_ACCVIOL.COUNT, F.GLB_ACCVIOL.MASTER, F.GLB_ACCVIOL.KIND]⟩,
  ⟨0x34, 1, 1, 1, 1, [F.GLB_ACCVIOL_ADDR.OFFSET]⟩,
  ⟨0x40, 1, 1, 1, 1, [F.GLB_RESET.DEVRST, F.GLB_RESET.PCYC, F.GLB_RESET.KEY]⟩,
  ⟨0x44, 1, 1, 1, 1, [F.GLB_RSTCAUSE.LAST, F.GLB_RSTCAUSE.PCYCREQ, F.GLB_RSTCAUSE.PCYCFAIL, F.GLB_RSTCAUSE.WDCNT, F.GLB_RSTCAUSE.DEVCNT]⟩,
  ⟨0x48, 1, 1, 1, 1, [F.GLB_BOOT.STAGE, F.GLB_BOOT.BANK, F.GLB_BOOT.READY, F.GLB_BOOT.FALLBACK, F.GLB_BOOT.BOOTMS]⟩,
  ⟨0x4c, 1, 1, 1, 1, [F.GLB_WDT.TMO, F.GLB_WDT.WARN, F.GLB_WDT.KICKS]⟩]

/-- Registers of BLC, part 1. -/
def regsBLC1 : List RegDef := [
  ⟨0x4000, 1, 1, 1, 1, [F.BLC_SEAL.SEAL, F.BLC_SEAL.SEALED, F.BLC_SEAL.DEF, F.BLC_SEAL.CRCERR]⟩,
  ⟨0x4010, 3, 4, 1, 1, [F.BLC_FVIEW.SLOTEN 0, F.BLC_FVIEW.GWD 0]⟩,
  ⟨0x4020, 1, 1, 1, 1, [F.BLC_ATU.BYPASS]⟩,
  ⟨0x4024, 1, 1, 1, 1, [F.BLC_RED.PAIR, F.BLC_RED.SOLOPERM]⟩,
  ⟨0x4028, 1, 1, 1, 1, [F.BLC_UPD.SERIAL, F.BLC_UPD.DOWNGRADE, F.BLC_UPD.MINVER]⟩,
  ⟨0x4100, 8, 32, 1, 1, [F.BLC_WIN_BASE_LO.BASE 0]⟩,
  ⟨0x4104, 8, 32, 1, 1, [F.BLC_WIN_BASE_HI.BASE 0]⟩,
  ⟨0x4108, 8, 32, 1, 1, [F.BLC_WIN_LIM_LO.LIM 0]⟩,
  ⟨0x410c, 8, 32, 1, 1, [F.BLC_WIN_LIM_HI.LIM 0]⟩,
  ⟨0x4110, 8, 32, 1, 1, [F.BLC_WIN_CTRL.FMASK 0, F.BLC_WIN_CTRL.EN 0]⟩]

/-- Registers of TICK, part 1. -/
def regsTICK1 : List RegDef := [
  ⟨0x8000, 1, 1, 1, 1, [F.TICK_PERIOD.REQ, F.TICK_PERIOD.PEND, F.TICK_PERIOD.ERR]⟩,
  ⟨0x8004, 1, 1, 1, 1, [F.TICK_FRAME.REQ, F.TICK_FRAME.PEND, F.TICK_FRAME.ERR]⟩,
  ⟨0x8008, 1, 1, 1, 1, [F.TICK_CMISS.COUNT]⟩,
  ⟨0x800c, 1, 1, 1, 1, [F.TICK_ACT.PERIOD, F.TICK_ACT.NF]⟩,
  ⟨0x8010, 1, 1, 1, 1, [F.TICK_COUNT_LO.COUNT]⟩,
  ⟨0x8014, 1, 1, 1, 1, [F.TICK_COUNT_HI.COUNT]⟩,
  ⟨0x8018, 1, 1, 1, 1, [F.TICK_FNUM.FNUM]⟩,
  ⟨0x801c, 1, 1, 1, 1, [F.TICK_EPOS.EPOS]⟩,
  ⟨0x8020, 1, 1, 1, 1, [F.TICK_OPS_LO.OPS]⟩,
  ⟨0x8024, 1, 1, 1, 1, [F.TICK_OPS_HI.OPS]⟩,
  ⟨0x8028, 1, 1, 1, 1, [F.TICK_PWRCYC.PWRCYC]⟩,
  ⟨0x8030, 1, 1, 1, 1, [F.TICK_ESN_LO.ESN]⟩,
  ⟨0x8034, 1, 1, 1, 1, [F.TICK_ESN_HI.ESN]⟩,
  ⟨0x8040, 1, 1, 1, 1, [F.TICK_PROFILE.REQ, F.TICK_PROFILE.GO, F.TICK_PROFILE.ACT, F.TICK_PROFILE.PEND, F.TICK_PROFILE.ERR]⟩,
  ⟨0x8044, 1, 1, 1, 1, [F.TICK_PROFILE_SW.COUNT, F.TICK_PROFILE_SW.FROM]⟩,
  ⟨0x8050, 1, 1, 1, 1, [F.TICK_SNAP_CTRL.SRC, F.TICK_SNAP_CTRL.GO, F.TICK_SNAP_CTRL.VALID, F.TICK_SNAP_CTRL.PLOCK, F.TICK_SNAP_CTRL.CAPS]⟩,
  ⟨0x8060, 1, 1, 1, 1, [F.TICK_SNAP_TK_LO.TK]⟩,
  ⟨0x8064, 1, 1, 1, 1, [F.TICK_SNAP_TK_HI.TK]⟩,
  ⟨0x8068, 1, 1, 1, 1, [F.TICK_SNAP_PHASE.PHASE]⟩,
  ⟨0x806c, 1, 1, 1, 1, [F.TICK_SNAP_FNUM.FNUM]⟩,
  ⟨0x8070, 1, 1, 1, 1, [F.TICK_SNAP_PL_NS.NS]⟩,
  ⟨0x8074, 1, 1, 1, 1, [F.TICK_SNAP_PL_S_LO.S]⟩,
  ⟨0x8078, 1, 1, 1, 1, [F.TICK_SNAP_PL_S_HI.S]⟩,
  ⟨0x807c, 1, 1, 1, 1, [F.TICK_SNAP_LK_LO.LK]⟩]

/-- Registers of TICK, part 2. -/
def regsTICK2 : List RegDef := [
  ⟨0x8080, 1, 1, 1, 1, [F.TICK_SNAP_LK_HI.LK]⟩,
  ⟨0x8084, 1, 1, 1, 1, [F.TICK_SNAP_OPS_LO.OPS]⟩,
  ⟨0x8088, 1, 1, 1, 1, [F.TICK_SNAP_OPS_HI.OPS]⟩,
  ⟨0x808c, 1, 1, 1, 1, [F.TICK_SNAP_PWRCYC.PWRCYC]⟩,
  ⟨0x8090, 1, 1, 1, 1, [F.TICK_SNAP_ESN_LO.ESN]⟩,
  ⟨0x8094, 1, 1, 1, 1, [F.TICK_SNAP_ESN_HI.ESN]⟩]

/-- Registers of IRQ, part 1. -/
def regsIRQ1 : List RegDef := [
  ⟨0xc000, 128, 4, 1, 1, [F.IRQ_SRC.PRIO 0, F.IRQ_SRC.TGT 0, F.IRQ_SRC.FAST 0, F.IRQ_SRC.EN 0, F.IRQ_SRC.URG 0, F.IRQ_SRC.STATE 0, F.IRQ_SRC.OVR 0]⟩,
  ⟨0xc200, 4, 16, 1, 1, [F.IRQ_CPU.THR 0, F.IRQ_CPU.RLVL 0, F.IRQ_CPU.FACT 0, F.IRQ_CPU.DEPTH 0, F.IRQ_CPU.EOIERR 0]⟩,
  ⟨0xc204, 4, 16, 1, 1, [F.IRQ_EOI.SRC 0]⟩,
  ⟨0xc208, 4, 16, 1, 1, [F.IRQ_VBASE.BASE 0]⟩,
  ⟨0xc20c, 4, 16, 1, 1, [F.IRQ_LAST.SRC 0]⟩,
  ⟨0xc300, 16, 4, 1, 1, [F.IRQ_HOLD.HOLD 0, F.IRQ_HOLD.RUN 0, F.IRQ_HOLD.COAL 0]⟩,
  ⟨0xc340, 4, 4, 1, 1, [F.IRQ_PEND.PEND 0]⟩,
  ⟨0xc350, 1, 1, 1, 1, [F.IRQ_SGI.TRIG]⟩,
  ⟨0xc354, 1, 1, 1, 1, [F.IRQ_STAT.OVRSEEN, F.IRQ_STAT.NPEND, F.IRQ_STAT.NACT]⟩]

/-- Registers of HIF, part 1. -/
def regsHIF1 : List RegDef := [
  ⟨0x10000, 1, 1, 1, 1, [F.HIF_VER.DMIN, F.HIF_VER.DMAX, F.HIF_VER.OPREV]⟩,
  ⟨0x10010, 1, 1, 1, 1, [F.HIF_ASQ_LO.BASE]⟩,
  ⟨0x10014, 1, 1, 1, 1, [F.HIF_ASQ_HI.BASE]⟩,
  ⟨0x10018, 1, 1, 1, 1, [F.HIF_ACQ_LO.BASE]⟩,
  ⟨0x1001c, 1, 1, 1, 1, [F.HIF_ACQ_HI.BASE]⟩,
  ⟨0x10020, 1, 1, 1, 1, [F.HIF_AWB_LO.ADDR]⟩,
  ⟨0x10024, 1, 1, 1, 1, [F.HIF_AWB_HI.ADDR]⟩,
  ⟨0x10028, 1, 1, 1, 1, [F.HIF_ADM_CFG.SQLOG2, F.HIF_ADM_CFG.CQLOG2, F.HIF_ADM_CFG.VER, F.HIF_ADM_CFG.EN]⟩,
  ⟨0x10030, 1, 1, 1, 1, [F.HIF_STAT.ACCEPT, F.HIF_STAT.JFULL, F.HIF_STAT.RECOVER, F.HIF_STAT.CQFULL]⟩,
  ⟨0x10034, 1, 1, 1, 1, [F.HIF_JUSE.USED, F.HIF_JUSE.HIGH]⟩,
  ⟨0x10038, 1, 1, 1, 1, [F.HIF_DUPCNT.COUNT]⟩,
  ⟨0x1003c, 1, 1, 1, 1, [F.HIF_DBERR.COUNT, F.HIF_DBERR.RING, F.HIF_DBERR.FUNC]⟩,
  ⟨0x10100, 64, 4, 1, 1, [F.HIF_RSTAT.STATE 0, F.HIF_RSTAT.TYPE 0, F.HIF_RSTAT.VER 0, F.HIF_RSTAT.OWNER 0, F.HIF_RSTAT.LOG2N 0, F.HIF_RSTAT.ERR 0, F.HIF_RSTAT.VEC 0, F.HIF_RSTAT.IEN 0, F.HIF_RSTAT.PAIR 0]⟩,
  ⟨0x10200, 64, 4, 1, 1, [F.HIF_RIDX.MOD 0, F.HIF_RIDX.HOST 0]⟩,
  ⟨0x10300, 64, 4, 1, 1, [F.HIF_RDROP.COUNT 0]⟩,
  ⟨0x10400, 64, 4, 1, 1, [F.HIF_MOD.TIMER 0, F.HIF_MOD.COUNT 0, F.HIF_MOD.PENDING 0]⟩]

/-- Registers of ATU, part 1. -/
def regsATU1 : List RegDef := [
  ⟨0x14000, 4, 16, 1, 1, [F.ATU_CFG.MODE 0, F.ATU_CFG.PEND 0, F.ATU_CFG.ERR 0, F.ATU_CFG.L1N 0]⟩,
  ⟨0x14004, 4, 16, 1, 1, [F.ATU_ROOT_LO.ROOT 0]⟩,
  ⟨0x14008, 4, 16, 1, 1, [F.ATU_ROOT_HI.ROOT 0]⟩,
  ⟨0x14040, 1, 1, 1, 1, [F.ATU_STAT.NSTALL, F.ATU_STAT.R3STALL, F.ATU_STAT.NHELD]⟩,
  ⟨0x14044, 1, 1, 1, 1, [F.ATU_FCNT.FAULTS, F.ATU_FCNT.FDROP]⟩,
  ⟨0x14048, 1, 1, 1, 1, [F.ATU_WALKS.COUNT]⟩,
  ⟨0x1404c, 1, 1, 1, 1, [F.ATU_INVCNT.COUNT]⟩,
  ⟨0x14050, 1, 1, 1, 1, [F.ATU_LASTF_RING.RING, F.ATU_LASTF_RING.FUNC, F.ATU_LASTF_RING.CAUSE, F.ATU_LASTF_RING.KIND]⟩,
  ⟨0x14054, 1, 1, 1, 1, [F.ATU_LASTF_IOVA_LO.IOVA]⟩,
  ⟨0x14058, 1, 1, 1, 1, [F.ATU_LASTF_IOVA_HI.IOVA]⟩,
  ⟨0x1405c, 1, 1, 1, 1, [F.ATU_LASTF_DONE.BYTES]⟩,
  ⟨0x14060, 1, 1, 1, 1, [F.ATU_PRIO.AGE]⟩,
  ⟨0x14064, 1, 1, 1, 1, [F.ATU_PREEMPT.COUNT]⟩]

/-- Registers of CHN, part 1. -/
def regsCHN1 : List RegDef := [
  ⟨0x18000, 1, 1, 1, 1, [F.CHN_CTRL.ENUM, F.CHN_CTRL.DLYGO, F.CHN_CTRL.VERMAX]⟩,
  ⟨0x18004, 1, 1, 1, 1, [F.CHN_CFG.NNODE_EXP, F.CHN_CFG.DLY_PERIOD]⟩,
  ⟨0x18008, 1, 1, 1, 1, [F.CHN_STAT.NNODE, F.CHN_STAT.ENUMDONE, F.CHN_STAT.CLOSED, F.CHN_STAT.RINGREV, F.CHN_STAT.ENUMERR, F.CHN_STAT.POLA, F.CHN_STAT.POLB, F.CHN_STAT.DLYCHG, F.CHN_STAT.SWAPSEEN, F.CHN_STAT.ENUMCNT]⟩,
  ⟨0x1800c, 1, 1, 1, 1, [F.CHN_BRK.LASTA, F.CHN_BRK.FIRSTB, F.CHN_BRK.BROKEN]⟩,
  ⟨0x18010, 1, 1, 1, 1, [F.CHN_TONE.TONEA, F.CHN_TONE.TONEB, F.CHN_TONE.LOSSA, F.CHN_TONE.LOSSB, F.CHN_TONE.LOSSCNT]⟩,
  ⟨0x18014, 1, 1, 1, 1, [F.CHN_ERR_A.CRC, F.CHN_ERR_A.RETRY]⟩,
  ⟨0x18018, 1, 1, 1, 1, [F.CHN_ERR_B.CRC, F.CHN_ERR_B.RETRY]⟩,
  ⟨0x1801c, 1, 1, 1, 1, [F.CHN_ROEST.TICKS, F.CHN_ROEST.DEADLINE]⟩,
  ⟨0x18100, 40, 16, 1, 1, [F.CHN_NSER_LO.SER 0]⟩,
  ⟨0x18104, 40, 16, 1, 1, [F.CHN_NSER_HI.SER 0]⟩,
  ⟨0x18108, 40, 16, 1, 1, [F.CHN_NINFO.GEN 0, F.CHN_NINFO.VER 0, F.CHN_NINFO.SWAP 0, F.CHN_NINFO.REACH 0, F.CHN_NINFO.PATH 0, F.CHN_NINFO.SYNCALT 0, F.CHN_NINFO.POLA 0, F.CHN_NINFO.POLB 0, F.CHN_NINFO.FAULT 0, F.CHN_NINFO.MISS 0]⟩,
  ⟨0x1810c, 40, 16, 1, 1, [F.CHN_NDLY.DA 0, F.CHN_NDLY.DB 0]⟩,
  ⟨0x18400, 40, 8, 1, 1, [F.CHN_CSER_LO.SER 0]⟩,
  ⟨0x18404, 40, 8, 1, 1, [F.CHN_CSER_HI.SER 0]⟩,
  ⟨0x18ffc, 1, 1, 1, 1, [F.CHN_XSTAT.BUSY, F.CHN_XSTAT.WDROP]⟩]

/-- Registers of MEAS, part 1. -/
def regsMEAS1 : List RegDef := [
  ⟨0x1c000, 1, 1, 1, 1, [F.MEAS_CFG.MODE, F.MEAS_CFG.N, F.MEAS_CFG.S, F.MEAS_CFG.PEND, F.MEAS_CFG.ERR]⟩,
  ⟨0x1c004, 1, 1, 1, 1, [F.MEAS_PHASE.PHASE]⟩,
  ⟨0x1c008, 1, 1, 1, 1, [F.MEAS_OW.PERIOD, F.MEAS_OW.THR]⟩,
  ⟨0x1c00c, 1, 1, 1, 1, [F.MEAS_TNTC.BETA, F.MEAS_TNTC.RNOM]⟩,
  ⟨0x1c010, 1, 1, 1, 1, [F.MEAS_THOT.HOT]⟩,
  ⟨0x1c014, 1, 1, 1, 1, [F.MEAS_TNB_MARGIN.MARGIN, F.MEAS_TNB_MARGIN.DEV]⟩,
  ⟨0x1c018, 1, 1, 1, 1, [F.MEAS_UNR.TREAT, F.MEAS_UNR.STALE_LIM]⟩,
  ⟨0x1c01c, 1, 1, 1, 1, [F.MEAS_STAT.NVALID, F.MEAS_STAT.NHELD, F.MEAS_STAT.OWSEEN, F.MEAS_STAT.REVSEEN, F.MEAS_STAT.OVRSEEN, F.MEAS_STAT.LOSTSEEN, F.MEAS_STAT.TBRKSEEN, F.MEAS_STAT.BLOFFERR, F.MEAS_STAT.NPOSERR]⟩,
  ⟨0x1c020, 1, 1, 1, 1, [F.MEAS_FNUM.FNUM]⟩,
  ⟨0x1c024, 1, 1, 1, 1, [F.MEAS_IS.IS]⟩,
  ⟨0x1c028, 1, 1, 1, 1, [F.MEAS_OWCNT.TESTS, F.MEAS_OWCNT.UNCONF]⟩,
  ⟨0x1c100, 40, 4, 1, 1, [F.MEAS_NCFG.NPOS 0, F.MEAS_NCFG.TTREAT 0, F.MEAS_NCFG.NTCEN 0]⟩,
  ⟨0x1c200, 1, 1, 1, 1, [F.MEAS_WSEL.NODE, F.MEAS_WSEL.SET, F.MEAS_WSEL.WVALID]⟩,
  ⟨0x1c204, 1, 1, 1, 1, [F.MEAS_WFNUM.FNUM]⟩,
  ⟨0x1c208, 1, 1, 1, 1, [F.MEAS_WIS.IS]⟩,
  ⟨0x1c210, 16, 4, 1, 1, [F.MEAS_WPV.CODE 0, F.MEAS_WPV.AGE 0, F.MEAS_WPV.VALID 0, F.MEAS_WPV.PATH 0, F.MEAS_WPV.SYNCALT 0, F.MEAS_WPV.OPENWIRE 0, F.MEAS_WPV.REV 0, F.MEAS_WPV.OVR 0, F.MEAS_WPV.UNREACH 0, F.MEAS_WPV.LOST 0]⟩,
  ⟨0x1c250, 8, 4, 1, 1, [F.MEAS_WNT.TEMP 0, F.MEAS_WNT.AGE 0, F.MEAS_WNT.VALID 0, F.MEAS_WNT.BROKEN 0, F.MEAS_WNT.CAUSE 0, F.MEAS_WNT.SUBST 0, F.MEAS_WNT.NBR 0, F.MEAS_WNT.NOFIT 0]⟩]

/-- Registers of BAL, part 1. -/
def regsBAL1 : List RegDef := [
  ⟨0x20000, 1, 1, 1, 1, [F.BAL_CFG.MODE, F.BAL_CFG.DUTY, F.BAL_CFG.DB]⟩,
  ⟨0x20004, 1, 1, 1, 1, [F.BAL_LIM.VMIN, F.BAL_LIM.TMAX]⟩,
  ⟨0x20008, 1, 1, 1, 1, [F.BAL_NODE.NMAX, F.BAL_NODE.THALF, F.BAL_NODE.TSTOP, F.BAL_NODE.TRESUME]⟩,
  ⟨0x2000c, 1, 1, 1, 1, [F.BAL_RBLEED.RB]⟩,
  ⟨0x20010, 1, 1, 1, 1, [F.BAL_STAT.NBLEED, F.BAL_STAT.INTERLEAVED, F.BAL_STAT.NODECAP, F.BAL_STAT.TRUNC, F.BAL_STAT.NODEHOT, F.BAL_STAT.SCHEDMISS, F.BAL_STAT.COOLLOST, F.BAL_STAT.DRERR]⟩,
  ⟨0x20014, 1, 1, 1, 1, [F.BAL_CNT.MISS, F.BAL_CNT.HOT]⟩,
  ⟨0x20020, 1, 1, 1, 1, [F.BAL_SOCB_CFG.GAIN, F.BAL_SOCB_CFG.DB, F.BAL_SOCB_CFG.LIMIT, F.BAL_SOCB_CFG.EN, F.BAL_SOCB_CFG.SLEW]⟩,
  ⟨0x20024, 1, 1, 1, 1, [F.BAL_SOCB.ACT, F.BAL_SOCB.SRC, F.BAL_SOCB.HOLD]⟩,
  ⟨0x20030, 1, 1, 1, 1, [F.BAL_COOL_CFG.TSTART, F.BAL_COOL_CFG.TFULL]⟩,
  ⟨0x20034, 1, 1, 1, 1, [F.BAL_COOL_CFG2.THEAT, F.BAL_COOL_CFG2.FALL, F.BAL_COOL_CFG2.TIMEOUT]⟩,
  ⟨0x20038, 1, 1, 1, 1, [F.BAL_COOL.DEMAND, F.BAL_COOL.HEAT, F.BAL_COOL.SEQ]⟩,
  ⟨0x2003c, 1, 1, 1, 1, [F.BAL_TEXT.TMAX, F.BAL_TEXT.TMIN]⟩,
  ⟨0x20040, 1, 1, 1, 1, [F.BAL_COOL_CAN.ID, F.BAL_COOL_CAN.XTD, F.BAL_COOL_CAN.EN]⟩,
  ⟨0x20080, 1, 1, 1, 1, [F.BAL_DRC_L.TL0, F.BAL_DRC_L.TL1]⟩,
  ⟨0x20084, 1, 1, 1, 1, [F.BAL_DRC_H.TH1, F.BAL_DRC_H.TH0]⟩,
  ⟨0x20088, 1, 1, 1, 1, [F.BAL_DRD_L.TL0, F.BAL_DRD_L.TL1]⟩,
  ⟨0x2008c, 1, 1, 1, 1, [F.BAL_DRD_H.TH1, F.BAL_DRD_H.TH0]⟩,
  ⟨0x20090, 1, 1, 1, 1, [F.BAL_DRF.FC, F.BAL_DRF.FD]⟩,
  ⟨0x20100, 18, 4, 1, 1, [F.BAL_HREQ.REQ 0]⟩]

/-- Registers of IMP, part 1. -/
def regsIMP1 : List RegDef := [
  ⟨0x24000, 1, 1, 1, 1, [F.IMP_CTRL.EN, F.IMP_CTRL.GO, F.IMP_CTRL.ABORT]⟩,
  ⟨0x24004, 1, 1, 1, 1, [F.IMP_BCFG.SPACE, F.IMP_BCFG.PRE, F.IMP_BCFG.ERR]⟩,
  ⟨0x24008, 1, 1, 1, 1, [F.IMP_AMP.IRATED, F.IMP_AMP.PCT]⟩,
  ⟨0x2400c, 1, 1, 1, 1, [F.IMP_QCFG.SNR, F.IMP_QCFG.IMIN]⟩,
  ⟨0x24010, 1, 1, 1, 1, [F.IMP_FREQ0.BIN]⟩,
  ⟨0x24014, 1, 1, 1, 1, [F.IMP_FREQ1.BIN]⟩,
  ⟨0x24018, 1, 1, 1, 1, [F.IMP_FREQ2.BIN]⟩,
  ⟨0x2401c, 1, 1, 1, 1, [F.IMP_FREQ3.BIN]⟩,
  ⟨0x24020, 1, 1, 1, 1, [F.IMP_FREQ4.BIN]⟩,
  ⟨0x24024, 1, 1, 1, 1, [F.IMP_FREQ5.BIN]⟩,
  ⟨0x24028, 1, 1, 1, 1, [F.IMP_FREQ6.BIN]⟩,
  ⟨0x2402c, 1, 1, 1, 1, [F.IMP_FREQ7.BIN]⟩,
  ⟨0x24030, 1, 1, 1, 1, [F.IMP_ZFS.ZFS]⟩,
  ⟨0x24034, 1, 1, 1, 1, [F.IMP_TCFG.FSEL, F.IMP_TCFG.ISO, F.IMP_TCFG.BZ]⟩,
  ⟨0x24038, 1, 1, 1, 1, [F.IMP_TCFG2.XDEV, F.IMP_TCFG2.AFSEL]⟩,
  ⟨0x24040, 1, 1, 1, 1, [F.IMP_STAT.STATE, F.IMP_STAT.DEFER, F.IMP_STAT.ABCAUSE, F.IMP_STAT.XFAILSEEN, F.IMP_STAT.GOPEND, F.IMP_STAT.ROEST]⟩,
  ⟨0x24044, 1, 1, 1, 1, [F.IMP_CNT.DONE, F.IMP_CNT.ABORTED]⟩,
  ⟨0x24048, 1, 1, 1, 1, [F.IMP_GAIN.AMP]⟩,
  ⟨0x2404c, 1, 1, 1, 1, [F.IMP_BNUM.BNUM]⟩,
  ⟨0x24100, 1, 1, 1, 1, [F.IMP_RSEL.POS]⟩,
  ⟨0x24104, 1, 1, 1, 1, [F.IMP_RQ.QOK]⟩,
  ⟨0x24108, 1, 1, 1, 1, [F.IMP_RT.TIMP, F.IMP_RT.RVALID, F.IMP_RT.RCAL, F.IMP_RT.XFAIL]⟩,
  ⟨0x24110, 8, 4, 1, 1, [F.IMP_RZ.MAG 0, F.IMP_RZ.PH 0]⟩]

/-- Registers of EST, part 1. -/
def regsEST1 : List RegDef := [
  ⟨0x28000, 1, 1, 1, 1, [F.EST_IDB.IDB]⟩,
  ⟨0x28004, 1, 1, 1, 1, [F.EST_THR.VEOD, F.EST_THR.VEOC]⟩,
  ⟨0x28008, 1, 1, 1, 1, [F.EST_THR2.VHYS, F.EST_THR2.CONF]⟩,
  ⟨0x2800c, 1, 1, 1, 1, [F.EST_EOD_SLEW.EOD, F.EST_EOD_SLEW.EOC]⟩,
  ⟨0x28010, 1, 1, 1, 1, [F.EST_FLOOR.FLOOR, F.EST_FLOOR.CEIL]⟩,
  ⟨0x28014, 1, 1, 1, 1, [F.EST_CORR.SLEW, F.EST_CORR.U0]⟩,
  ⟨0x28018, 1, 1, 1, 1, [F.EST_RELAX.TFIRST, F.EST_RELAX.TREST]⟩,
  ⟨0x2801c, 1, 1, 1, 1, [F.EST_RELAX2.DVDT]⟩,
  ⟨0x28020, 1, 1, 1, 1, [F.EST_ANCH.SLOPE, F.EST_ANCH.VERR, F.EST_ANCH.VERRS]⟩,
  ⟨0x28024, 1, 1, 1, 1, [F.EST_ANCH2.KDYN, F.EST_ANCH2.DYNEN]⟩,
  ⟨0x28028, 1, 1, 1, 1, [F.EST_CAPNOM.CAP]⟩,
  ⟨0x2802c, 1, 1, 1, 1, [F.EST_RNOM.R]⟩,
  ⟨0x28030, 1, 1, 1, 1, [F.EST_RSTEP.DI]⟩,
  ⟨0x28034, 1, 1, 1, 1, [F.EST_IOFS.IOFS]⟩,
  ⟨0x28038, 1, 1, 1, 1, [F.EST_SOPV.VSOPD, F.EST_SOPV.VSOPC]⟩,
  ⟨0x2803c, 1, 1, 1, 1, [F.EST_SOPMAX_C.IMAX]⟩,
  ⟨0x28040, 1, 1, 1, 1, [F.EST_SOPMAX_D.IMAX]⟩,
  ⟨0x28044, 1, 1, 1, 1, [F.EST_SOPCFG.LOSTPCT]⟩,
  ⟨0x28048, 1, 1, 1, 1, [F.EST_SAVE_PERIOD.MIN, F.EST_SAVE_PERIOD.NOW]⟩,
  ⟨0x2804c, 1, 1, 1, 1, [F.EST_GLN_CFG.ICHG, F.EST_GLN_CFG.IDIS]⟩,
  ⟨0x28050, 1, 1, 1, 1, [F.EST_GLN_CFG2.W, F.EST_GLN_CFG2.MAXDEV, F.EST_GLN_CFG2.DSOCMIN, F.EST_GLN_CFG2.QCHG]⟩,
  ⟨0x28054, 1, 1, 1, 1, [F.EST_GLN_CFG3.TLO, F.EST_GLN_CFG3.THI, F.EST_GLN_CFG3.TMAXH]⟩,
  ⟨0x28058, 1, 1, 1, 1, [F.EST_REST_CFG.LEN, F.EST_REST_CFG.KX]⟩,
  ⟨0x28060, 1, 1, 1, 1, [F.EST_GLN_CTRL.REQ, F.EST_GLN_CTRL.ABORT, F.EST_GLN_CTRL.STATE, F.EST_GLN_CTRL.CAUSE, F.EST_GLN_CTRL.COUNT]⟩]

/-- Registers of EST, part 2. -/
def regsEST2 : List RegDef := [
  ⟨0x28064, 1, 1, 1, 1, [F.EST_REST_CTRL.REQ, F.EST_REST_CTRL.STATE, F.EST_REST_CTRL.RESULT, F.EST_REST_CTRL.COUNT]⟩,
  ⟨0x28068, 1, 1, 1, 1, [F.EST_STAT.FIRSTPEND, F.EST_STAT.NOREST, F.EST_STAT.EOD, F.EST_STAT.EOC, F.EST_STAT.FLOORHOLD, F.EST_STAT.CEILHOLD, F.EST_STAT.EODSLEW, F.EST_STAT.SUSPECT, F.EST_STAT.UNLEARNED, F.EST_STAT.LOSTCAP, F.EST_STAT.CURINV, F.EST_STAT.SWAPSEEN, F.EST_STAT.OCVERR, F.EST_STAT.LEARNED, F.EST_STAT.SAVEERR]⟩,
  ⟨0x2806c, 1, 1, 1, 1, [F.EST_SSOC.SOC, F.EST_SSOC.U]⟩,
  ⟨0x28070, 1, 1, 1, 1, [F.EST_SCAP.CAP]⟩,
  ⟨0x28074, 1, 1, 1, 1, [F.EST_SSOH.SOHC, F.EST_SSOH.SOHR]⟩,
  ⟨0x28078, 1, 1, 1, 1, [F.EST_SOP_C.SOPC]⟩,
  ⟨0x2807c, 1, 1, 1, 1, [F.EST_SOP_D.SOPD]⟩,
  ⟨0x28080, 1, 1, 1, 1, [F.EST_SOVR.OVR]⟩,
  ⟨0x28084, 1, 1, 1, 1, [F.EST_NORESTT.T]⟩,
  ⟨0x28088, 1, 1, 1, 1, [F.EST_CYC.CYC]⟩,
  ⟨0x2808c, 1, 1, 1, 1, [F.EST_SAVE_STAT.SEQ, F.EST_SAVE_STAT.CAUSE, F.EST_SAVE_STAT.FAILS]⟩,
  ⟨0x28100, 1, 1, 1, 1, [F.EST_PSEL.POS, F.EST_PSEL.WVALID]⟩,
  ⟨0x28104, 1, 1, 1, 1, [F.EST_PSOC.SOC, F.EST_PSOC.U]⟩,
  ⟨0x28108, 1, 1, 1, 1, [F.EST_PX.X]⟩,
  ⟨0x2810c, 1, 1, 1, 1, [F.EST_PCAP.CAP]⟩,
  ⟨0x28110, 1, 1, 1, 1, [F.EST_PR.R]⟩,
  ⟨0x28114, 1, 1, 1, 1, [F.EST_PFLAG.UNLEARNED, F.EST_PFLAG.SUSPECT, F.EST_PFLAG.FIRSTPEND, F.EST_PFLAG.RSRC, F.EST_PFLAG.DYN, F.EST_PFLAG.EOD, F.EST_PFLAG.EOC, F.EST_PFLAG.FLOORHOLD, F.EST_PFLAG.CEILHOLD, F.EST_PFLAG.EODSLEW, F.EST_PFLAG.LOST, F.EST_PFLAG.SWAPPED]⟩,
  ⟨0x28118, 1, 1, 1, 1, [F.EST_POVR.OVR]⟩,
  ⟨0x28400, 3, 128, 21, 4, [F.EST_OCV.V 0 0]⟩]

/-- Registers of CNV, part 1. -/
def regsCNV1 : List RegDef := [
  ⟨0x2c000, 1, 1, 1, 1, [F.CNV_CTRL.ON, F.CNV_CTRL.CLR, F.CNV_CTRL.MODE, F.CNV_CTRL.BUREN, F.CNV_CTRL.SHEDEN]⟩,
  ⟨0x2c004, 1, 1, 1, 1, [F.CNV_TOPO.TOPO, F.CNV_TOPO.NPH, F.CNV_TOPO.MINPH, F.CNV_TOPO.PEND]⟩,
  ⟨0x2c008, 1, 1, 1, 1, [F.CNV_STAT.STATE, F.CNV_STAT.FCAUSE, F.CNV_STAT.BLOCK, F.CNV_STAT.NACT, F.CNV_STAT.REFSRC, F.CNV_STAT.CLAMPC, F.CNV_STAT.CLAMPD, F.CNV_STAT.RETRY, F.CNV_STAT.DEG, F.CNV_STAT.STOPTO]⟩,
  ⟨0x2c00c, 1, 1, 1, 1, [F.CNV_PWM.DTR, F.CNV_PWM.DTF]⟩,
  ⟨0x2c010, 1, 1, 1, 1, [F.CNV_PWM2.MINPW, F.CNV_PWM2.DMAX]⟩,
  ⟨0x2c014, 1, 1, 1, 1, [F.CNV_ONOFF.TON, F.CNV_ONOFF.TOFF]⟩,
  ⟨0x2c018, 1, 1, 1, 1, [F.CNV_SS.RAMP, F.CNV_SS.ILIM]⟩,
  ⟨0x2c01c, 1, 1, 1, 1, [F.CNV_SS_STALLV.STALLV]⟩,
  ⟨0x2c020, 1, 1, 1, 1, [F.CNV_SS_STALLT.STALLT]⟩,
  ⟨0x2c024, 1, 1, 1, 1, [F.CNV_SS_RETRYT.RETRYT]⟩,
  ⟨0x2c028, 1, 1, 1, 1, [F.CNV_SS_RETRIES.RETRIES]⟩,
  ⟨0x2c02c, 1, 1, 1, 1, [F.CNV_STOP.RAMP, F.CNV_STOP.IDONE]⟩,
  ⟨0x2c030, 1, 1, 1, 1, [F.CNV_STOP2.TMAX]⟩,
  ⟨0x2c034, 1, 1, 1, 1, [F.CNV_LL_VREF.VREF]⟩,
  ⟨0x2c038, 1, 1, 1, 1, [F.CNV_LL_R.RLL]⟩,
  ⟨0x2c03c, 1, 1, 1, 1, [F.CNV_ISET.ISET]⟩,
  ⟨0x2c040, 1, 1, 1, 1, [F.CNV_ILIM_C.ILIM]⟩,
  ⟨0x2c044, 1, 1, 1, 1, [F.CNV_ILIM_D.ILIM]⟩,
  ⟨0x2c048, 1, 1, 1, 1, [F.CNV_VSMIN.VSMIN]⟩,
  ⟨0x2c04c, 1, 1, 1, 1, [F.CNV_SHED_DWELL.DWELL]⟩,
  ⟨0x2c050, 1, 1, 1, 1, [F.CNV_SHED.ISHED, F.CNV_SHED.IADD]⟩,
  ⟨0x2c054, 1, 1, 1, 1, [F.CNV_STEP_THR.STEP]⟩,
  ⟨0x2c058, 1, 1, 1, 1, [F.CNV_BURST_THR.THR]⟩,
  ⟨0x2c05c, 1, 1, 1, 1, [F.CNV_BURST_MIN.MIN]⟩]

/-- Registers of CNV, part 2. -/
def regsCNV2 : List RegDef := [
  ⟨0x2c060, 1, 1, 1, 1, [F.CNV_BURST_HYST.HYST]⟩,
  ⟨0x2c064, 1, 1, 1, 1, [F.CNV_VBTGT.VBT]⟩,
  ⟨0x2c068, 1, 1, 1, 1, [F.CNV_ITOT.ITOT]⟩,
  ⟨0x2c06c, 1, 1, 1, 1, [F.CNV_CLIM_C.CLIM]⟩,
  ⟨0x2c070, 1, 1, 1, 1, [F.CNV_CLIM_D.CLIM]⟩,
  ⟨0x2c074, 1, 1, 1, 1, [F.CNV_CNT.STALLS, F.CNV_CNT.SHEDX]⟩,
  ⟨0x2c078, 1, 1, 1, 1, [F.CNV_CNT2.STARTS, F.CNV_CNT2.SHEDS]⟩,
  ⟨0x2c080, 6, 4, 1, 1, [F.CNV_PH_ANG.ANG 0, F.CNV_PH_ANG.ACT 0]⟩]

/-- Registers of CTE, part 1. -/
def regsCTE1 : List RegDef := [
  ⟨0x30000, 1, 1, 1, 1, [F.CTE_CTRL.LOAD, F.CTE_CTRL.STD, F.CTE_CTRL.HALT]⟩,
  ⟨0x30004, 1, 1, 1, 1, [F.CTE_LOAD.BASE, F.CTE_LOAD.LEN]⟩,
  ⟨0x30008, 1, 1, 1, 1, [F.CTE_SWAP.SWAP, F.CTE_SWAP.KEEP, F.CTE_SWAP.BIND]⟩,
  ⟨0x30010, 1, 1, 1, 1, [F.CTE_PMADDR.ADDR]⟩,
  ⟨0x30014, 1, 1, 1, 1, [F.CTE_PMDATA.DATA]⟩,
  ⟨0x30018, 1, 1, 1, 1, [F.CTE_DMADDR.ADDR]⟩,
  ⟨0x3001c, 1, 1, 1, 1, [F.CTE_DMDATA.DATA]⟩,
  ⟨0x30020, 1, 1, 1, 1, [F.CTE_PCOMMIT.GO, F.CTE_PCOMMIT.MODE, F.CTE_PCOMMIT.PEND]⟩,
  ⟨0x30030, 1, 1, 1, 1, [F.CTE_STAT.ACT, F.CTE_STAT.STG, F.CTE_STAT.LERR, F.CTE_STAT.ACCSAT, F.CTE_STAT.PMWERR, F.CTE_STAT.LADDR]⟩,
  ⟨0x30034, 1, 1, 1, 1, [F.CTE_ACT_WCET.WCET, F.CTE_ACT_WCET.PMIN]⟩,
  ⟨0x30038, 1, 1, 1, 1, [F.CTE_STG_WCET.WCET, F.CTE_STG_WCET.PMIN]⟩,
  ⟨0x3003c, 1, 1, 1, 1, [F.CTE_ACT_REG.BASE, F.CTE_ACT_REG.LEN]⟩,
  ⟨0x30040, 1, 1, 1, 1, [F.CTE_SATCNT.COUNT]⟩,
  ⟨0x30044, 1, 1, 1, 1, [F.CTE_SWCNT.COUNT]⟩]

/-- Registers of SDM, part 1. -/
def regsSDM1 : List RegDef := [
  ⟨0x34000, 12, 4, 1, 1, [F.SDM_CFG.EN 0, F.SDM_CFG.ROLE 0, F.SDM_CFG.PHASE 0, F.SDM_CFG.CK 0, F.SDM_CFG.DLY 0, F.SDM_CFG.OSR 0]⟩,
  ⟨0x34040, 12, 4, 1, 1, [F.SDM_FS.FS 0]⟩,
  ⟨0x34080, 12, 4, 1, 1, [F.SDM_RES.RES 0]⟩,
  ⟨0x340c0, 1, 1, 1, 1, [F.SDM_CKEN.EN]⟩,
  ⟨0x340c4, 1, 1, 1, 1, [F.SDM_STAT.LOSS, F.SDM_STAT.ROLEOK, F.SDM_STAT.SLOW]⟩]

/-- Registers of PROT, part 1. -/
def regsPROT1 : List RegDef := [
  ⟨0x38000, 8, 4, 1, 1, [F.PROT_TRIP.MODE 0, F.PROT_TRIP.PHMASK 0]⟩,
  ⟨0x38040, 12, 4, 1, 1, [F.PROT_WIN.HI 0, F.PROT_WIN.LO 0]⟩,
  ⟨0x38080, 1, 1, 1, 1, [F.PROT_FAST.OSR, F.PROT_FAST.CNT, F.PROT_FAST.ERR]⟩,
  ⟨0x38084, 1, 1, 1, 1, [F.PROT_ICBC.ICBC, F.PROT_ICBC.NMAX]⟩,
  ⟨0x38088, 1, 1, 1, 1, [F.PROT_XV.WIN, F.PROT_XV.PCT]⟩,
  ⟨0x3808c, 1, 1, 1, 1, [F.PROT_XI.WIN, F.PROT_XI.PCT, F.PROT_XI.NEG]⟩,
  ⟨0x380a0, 1, 1, 1, 1, [F.PROT_PV.OV, F.PROT_PV.UV]⟩,
  ⟨0x380a4, 1, 1, 1, 1, [F.PROT_PVA.OVA, F.PROT_PVA.UVA]⟩,
  ⟨0x380a8, 1, 1, 1, 1, [F.PROT_PT.OT, F.PROT_PT.OTA]⟩,
  ⟨0x380ac, 1, 1, 1, 1, [F.PROT_PCONF.N, F.PROT_PCONF.LOSTTRIP]⟩,
  ⟨0x380b0, 1, 1, 1, 1, [F.PROT_PHYS.VHYS, F.PROT_PHYS.THYS]⟩,
  ⟨0x380b4, 1, 1, 1, 1, [F.PROT_IS.OCC, F.PROT_IS.OCD]⟩,
  ⟨0x380b8, 1, 1, 1, 1, [F.PROT_IST.T]⟩,
  ⟨0x380bc, 1, 1, 1, 1, [F.PROT_ISO.RBR, F.PROT_ISO.N, F.PROT_ISO.SRC, F.PROT_ISO.EN]⟩,
  ⟨0x380c0, 1, 1, 1, 1, [F.PROT_ISO2.TR, F.PROT_ISO2.AL]⟩,
  ⟨0x380d0, 1, 1, 1, 1, [F.PROT_TRIP0.TIN, F.PROT_TRIP0.WIN]⟩,
  ⟨0x380d4, 1, 1, 1, 1, [F.PROT_TRIP1.LOSS, F.PROT_TRIP1.XV, F.PROT_TRIP1.XI, F.PROT_TRIP1.OV, F.PROT_TRIP1.UV, F.PROT_TRIP1.OT, F.PROT_TRIP1.LOST, F.PROT_TRIP1.OCC, F.PROT_TRIP1.OCD, F.PROT_TRIP1.ISO, F.PROT_TRIP1.CBCP, F.PROT_TRIP1.SFA, F.PROT_TRIP1.SFB, F.PROT_TRIP1.CLK]⟩,
  ⟨0x380d8, 1, 1, 1, 1, [F.PROT_FIRST.CODE]⟩,
  ⟨0x380dc, 1, 1, 1, 1, [F.PROT_STAT.TRIP, F.PROT_STAT.PEND, F.PROT_STAT.CLRREF, F.PROT_STAT.CBCACT, F.PROT_STAT.ALOV, F.PROT_STAT.ALUV, F.PROT_STAT.ALOT, F.PROT_STAT.ALISO, F.PROT_STAT.REFSTALE]⟩,
  ⟨0x380e0, 6, 4, 1, 1, [F.PROT_CBCCNT.COUNT 0]⟩,
  ⟨0x380f8, 1, 1, 1, 1, [F.PROT_RISO.RISO]⟩,
  ⟨0x380fc, 1, 1, 1, 1, [F.PROT_TRIPCNT.COUNT]⟩]

/-- Registers of SAFM, part 1. -/
def regsSAFM1 : List RegDef := [
  ⟨0x3c000, 1, 1, 1, 1, [F.SAFM_STAT.STA, F.SAFM_STAT.STB, F.SAFM_STAT.DEG, F.SAFM_STAT.DEGCH, F.SAFM_STAT.SAFE, F.SAFM_STAT.RSTREQ, F.SAFM_STAT.CFGPATH, F.SAFM_STAT.STGOK, F.SAFM_STAT.GSAFE, F.SAFM_STAT.TONE1, F.SAFM_STAT.DEGT]⟩,
  ⟨0x3c004, 1, 1, 1, 1, [F.SAFM_SF.DEM]⟩,
  ⟨0x3c008, 1, 1, 1, 1, [F.SAFM_IN.FA, F.SAFM_IN.FB, F.SAFM_IN.DISC, F.SAFM_IN.INF]⟩,
  ⟨0x3c00c, 1, 1, 1, 1, [F.SAFM_INFLT.CAUSE0, F.SAFM_INFLT.CAUSE1, F.SAFM_INFLT.CAUSE2, F.SAFM_INFLT.CAUSE3, F.SAFM_INFLT.CAUSE4, F.SAFM_INFLT.CAUSE5, F.SAFM_INFLT.CAUSE6, F.SAFM_INFLT.CAUSE7]⟩,
  ⟨0x3c010, 1, 1, 1, 1, [F.SAFM_OUT.ON, F.SAFM_OUT.PRB, F.SAFM_OUT.MRB, F.SAFM_OUT.CFO]⟩,
  ⟨0x3c014, 1, 1, 1, 1, [F.SAFM_OUTREQ.REQ, F.SAFM_OUTREQ.PEND]⟩,
  ⟨0x3c018, 1, 1, 1, 1, [F.SAFM_OUTFLT.CAUSE0, F.SAFM_OUTFLT.CAUSE1, F.SAFM_OUTFLT.CAUSE2, F.SAFM_OUTFLT.CAUSE3, F.SAFM_OUTFLT.CAUSE4, F.SAFM_OUTFLT.CAUSE5]⟩,
  ⟨0x3c020, 1, 1, 1, 1, [F.SAFM_CV_A.CV]⟩,
  ⟨0x3c024, 1, 1, 1, 1, [F.SAFM_CV_B.CV]⟩,
  ⟨0x3c028, 1, 1, 1, 1, [F.SAFM_CV_ACT.CV]⟩,
  ⟨0x3c02c, 1, 1, 1, 1, [F.SAFM_CONFIRM.CV]⟩,
  ⟨0x3c030, 1, 1, 1, 1, [F.SAFM_PADDR.IDX]⟩,
  ⟨0x3c034, 1, 1, 1, 1, [F.SAFM_PDATA.DATA]⟩,
  ⟨0x3c038, 1, 1, 1, 1, [F.SAFM_CMD.STAGE, F.SAFM_CMD.COMPUTE, F.SAFM_CMD.CLRFLT, F.SAFM_CMD.RST, F.SAFM_CMD.CLRWELD, F.SAFM_CMD.PWDEND, F.SAFM_CMD.PWDACT, F.SAFM_CMD.RESULT]⟩,
  ⟨0x3c040, 4, 4, 1, 1, [F.SAFM_PWD.PWD 0]⟩,
  ⟨0x3c050, 1, 1, 1, 1, [F.SAFM_DIAG.FA, F.SAFM_DIAG.FB]⟩,
  ⟨0x3c054, 1, 1, 1, 1, [F.SAFM_VB_A.VB]⟩,
  ⟨0x3c058, 1, 1, 1, 1, [F.SAFM_VB_B.VB]⟩,
  ⟨0x3c05c, 1, 1, 1, 1, [F.SAFM_I2_A.I2]⟩,
  ⟨0x3c060, 1, 1, 1, 1, [F.SAFM_I2_B.I2]⟩,
  ⟨0x3c100, 1, 1, 1, 1, [F.SAFM_LOGSEL.IDX, F.SAFM_LOGSEL.LVALID]⟩,
  ⟨0x3c104, 1, 1, 1, 1, [F.SAFM_LOG0.WORD, F.SAFM_LOG0.PATH]⟩,
  ⟨0x3c108, 1, 1, 1, 1, [F.SAFM_LOG1.OLD]⟩,
  ⟨0x3c10c, 1, 1, 1, 1, [F.SAFM_LOG2.NEW]⟩]

/-- Registers of SAFM, part 2. -/
def regsSAFM2 : List RegDef := [
  ⟨0x3c110, 1, 1, 1, 1, [F.SAFM_LOG3.OPS]⟩,
  ⟨0x3c114, 1, 1, 1, 1, [F.SAFM_LOG4.OPSH]⟩,
  ⟨0x3c118, 1, 1, 1, 1, [F.SAFM_LOG5.PWRCYC]⟩,
  ⟨0x3cffc, 1, 1, 1, 1, [F.SAFM_XSTAT.BUSY, F.SAFM_XSTAT.WDROP]⟩]

/-- Registers of SHF, part 1. -/
def regsSHF1 : List RegDef := [
  ⟨0x40000, 1, 1, 1, 1, [F.SHF_CTRL.EN, F.SHF_CTRL.REVOKE]⟩,
  ⟨0x40004, 1, 1, 1, 1, [F.SHF_ID.PID, F.SHF_ID.SHEAF]⟩,
  ⟨0x40008, 1, 1, 1, 1, [F.SHF_NET.ETYPE, F.SHF_NET.VID, F.SHF_NET.PCP]⟩,
  ⟨0x4000c, 1, 1, 1, 1, [F.SHF_MCAST_LO.ADDR]⟩,
  ⟨0x40010, 1, 1, 1, 1, [F.SHF_MCAST_HI.ADDR]⟩,
  ⟨0x40014, 1, 1, 1, 1, [F.SHF_SLOTCFG.NMAX, F.SHF_SLOTCFG.MINLIVE, F.SHF_SLOTCFG.TMO]⟩,
  ⟨0x40018, 1, 1, 1, 1, [F.SHF_DCFG.SRC, F.SHF_DCFG.VSLEW, F.SHF_DCFG.KD]⟩,
  ⟨0x4001c, 1, 1, 1, 1, [F.SHF_DCFG2.TMO]⟩,
  ⟨0x40020, 1, 1, 1, 1, [F.SHF_VREF_NOM.V]⟩,
  ⟨0x40024, 1, 1, 1, 1, [F.SHF_VREF_MIN.V]⟩,
  ⟨0x40028, 1, 1, 1, 1, [F.SHF_VREF_MAX.V]⟩,
  ⟨0x4002c, 1, 1, 1, 1, [F.SHF_PTGT.P]⟩,
  ⟨0x40030, 1, 1, 1, 1, [F.SHF_DCTRL.GO]⟩,
  ⟨0x40040, 1, 1, 1, 1, [F.SHF_STAT.NLIVE, F.SHF_STAT.SOCVALID, F.SHF_STAT.DGOV, F.SHF_STAT.DSAT, F.SHF_STAT.DTMO, F.SHF_STAT.LARGE, F.SHF_STAT.LOSTSEEN, F.SHF_STAT.V1PEER, F.SHF_STAT.DUPPID, F.SHF_STAT.SLOT, F.SHF_STAT.SKIND, F.SHF_STAT.COLL]⟩,
  ⟨0x40044, 1, 1, 1, 1, [F.SHF_SOCMEAN.SOC, F.SHF_SOCMEAN.NCONTRIB]⟩,
  ⟨0x40048, 1, 1, 1, 1, [F.SHF_SHARE.P]⟩,
  ⟨0x4004c, 1, 1, 1, 1, [F.SHF_HSUM.H]⟩,
  ⟨0x40050, 1, 1, 1, 1, [F.SHF_CNT.LOSSES, F.SHF_CNT.REPORTS]⟩,
  ⟨0x40054, 1, 1, 1, 1, [F.SHF_CNT2.SUPP, F.SHF_CNT2.RXERR]⟩,
  ⟨0x40058, 1, 1, 1, 1, [F.SHF_NPEER.N]⟩,
  ⟨0x40060, 4, 4, 1, 1, [F.SHF_SLOTVIEW.PID 0, F.SHF_SLOTVIEW.KIND 0, F.SHF_SLOTVIEW.REMAIN 0]⟩,
  ⟨0x40100, 1, 1, 1, 1, [F.SHF_CSEL.IDX, F.SHF_CSEL.CVALID]⟩,
  ⟨0x40104, 1, 1, 1, 1, [F.SHF_CPID.PID, F.SHF_CPID.LIVE, F.SHF_CPID.V2, F.SHF_CPID.SLOT, F.SHF_CPID.AGE]⟩,
  ⟨0x40108, 1, 1, 1, 1, [F.SHF_CSOC.SOC, F.SHF_CSOC.OEPOCH]⟩]

/-- Registers of RED, part 1. -/
def regsRED1 : List RegDef := [
  ⟨0x44000, 1, 1, 1, 1, [F.RED_CTRL.HANDOVER]⟩,
  ⟨0x44004, 1, 1, 1, 1, [F.RED_CFG.PAIR, F.RED_CFG.SOLO]⟩,
  ⟨0x44008, 1, 1, 1, 1, [F.RED_STAT.ROLE, F.RED_STAT.GNT, F.RED_STAT.SBYVALID, F.RED_STAT.XLF, F.RED_STAT.HBF, F.RED_STAT.LANEF, F.RED_STAT.CVMIS, F.RED_STAT.VERERR, F.RED_STAT.GNTFAIL, F.RED_STAT.SOLOACT, F.RED_STAT.PEERDEG, F.RED_STAT.CTELAG, F.RED_STAT.HOERR]⟩,
  ⟨0x4400c, 1, 1, 1, 1, [F.RED_XLVER.OWNMIN, F.RED_XLVER.OWNMAX, F.RED_XLVER.USED, F.RED_XLVER.PEERMAX]⟩,
  ⟨0x44010, 1, 1, 1, 1, [F.RED_CNT.SWITCH, F.RED_CNT.HANDOVERS]⟩,
  ⟨0x44014, 1, 1, 1, 1, [F.RED_CNT2.PATHF, F.RED_CNT2.CRCERR]⟩,
  ⟨0x44018, 1, 1, 1, 1, [F.RED_LAST_LO.TICK]⟩,
  ⟨0x4401c, 1, 1, 1, 1, [F.RED_LAST_HI.TICK, F.RED_LAST_HI.CAUSE]⟩,
  ⟨0x44020, 1, 1, 1, 1, [F.RED_SYNC.MS]⟩]

/-- Registers of NET, part 1. -/
def regsNET1 : List RegDef := [
  ⟨0x48004, 2, 4, 1, 1, [F.NET_PORT.EN 0, F.NET_PORT.MODE 0, F.NET_PORT.ANEG 0, F.NET_PORT.DEFPCP 0, F.NET_PORT.LINK 0, F.NET_PORT.SPEED 0, F.NET_PORT.LCHG 0]⟩,
  ⟨0x4800c, 1, 1, 1, 1, [F.NET_PCPMAP.Q0, F.NET_PCPMAP.Q1, F.NET_PCPMAP.Q2, F.NET_PCPMAP.Q3, F.NET_PCPMAP.Q4, F.NET_PCPMAP.Q5, F.NET_PCPMAP.Q6, F.NET_PCPMAP.Q7]⟩,
  ⟨0x48010, 1, 1, 1, 1, [F.NET_MAC1_LO.MAC]⟩,
  ⟨0x48014, 1, 1, 1, 1, [F.NET_MAC1_HI.MAC]⟩,
  ⟨0x48018, 1, 1, 1, 1, [F.NET_MAC2_LO.MAC]⟩,
  ⟨0x4801c, 1, 1, 1, 1, [F.NET_MAC2_HI.MAC]⟩,
  ⟨0x48020, 1, 1, 1, 1, [F.NET_AGE.AGE]⟩,
  ⟨0x48040, 2, 16, 1, 1, [F.NET_RXOK.COUNT 0]⟩,
  ⟨0x48044, 2, 16, 1, 1, [F.NET_ERR.RXERR 0, F.NET_ERR.DROP 0]⟩,
  ⟨0x48048, 2, 16, 1, 1, [F.NET_TXOK.COUNT 0]⟩,
  ⟨0x4804c, 2, 16, 1, 1, [F.NET_NOTERM.COUNT 0]⟩]

/-- Registers of PTP, part 1. -/
def regsPTP1 : List RegDef := [
  ⟨0x4c000, 1, 1, 1, 1, [F.PTP_CFG.PROF, F.PTP_CFG.DOMAIN, F.PTP_CFG.TCEN, F.PTP_CFG.VID]⟩,
  ⟨0x4c004, 1, 1, 1, 1, [F.PTP_CTRL.SERVO, F.PTP_CTRL.TSET, F.PTP_CTRL.STEPGO]⟩,
  ⟨0x4c008, 1, 1, 1, 1, [F.PTP_SERVO.KP, F.PTP_SERVO.KI]⟩,
  ⟨0x4c00c, 1, 1, 1, 1, [F.PTP_THR.STEP, F.PTP_THR.LOCK, F.PTP_THR.UNLOCK]⟩,
  ⟨0x4c010, 1, 1, 1, 1, [F.PTP_RATE.ADJ]⟩,
  ⟨0x4c014, 1, 1, 1, 1, [F.PTP_HOLDRATE.RATE]⟩,
  ⟨0x4c018, 1, 1, 1, 1, [F.PTP_STAT.PSTATE, F.PTP_STAT.LOCK, F.PTP_STAT.HOLD, F.PTP_STAT.MCHG, F.PTP_STAT.STEPPED, F.PTP_STAT.TSETERR, F.PTP_STAT.MPORT]⟩,
  ⟨0x4c01c, 1, 1, 1, 1, [F.PTP_OFFSET.O]⟩,
  ⟨0x4c020, 1, 1, 1, 1, [F.PTP_MPD.MPD]⟩,
  ⟨0x4c024, 1, 1, 1, 1, [F.PTP_GM_LO.ID]⟩,
  ⟨0x4c028, 1, 1, 1, 1, [F.PTP_GM_HI.ID]⟩,
  ⟨0x4c030, 1, 1, 1, 1, [F.PTP_TIME_NS.NS]⟩,
  ⟨0x4c034, 1, 1, 1, 1, [F.PTP_TIME_S_LO.S]⟩,
  ⟨0x4c038, 1, 1, 1, 1, [F.PTP_TIME_S_HI.S]⟩,
  ⟨0x4c040, 1, 1, 1, 1, [F.PTP_TSET_NS.NS]⟩,
  ⟨0x4c044, 1, 1, 1, 1, [F.PTP_TSET_S_LO.S]⟩,
  ⟨0x4c048, 1, 1, 1, 1, [F.PTP_TSET_S_HI.S]⟩,
  ⟨0x4c04c, 1, 1, 1, 1, [F.PTP_STEPV.NS]⟩,
  ⟨0x4c060, 2, 8, 1, 1, [F.PTP_PORT_ASYM.ASYM 0]⟩,
  ⟨0x4c064, 2, 8, 1, 1, [F.PTP_PORT_LDLY.LDLY 0]⟩,
  ⟨0x4c070, 1, 1, 1, 1, [F.PTP_CNT.TCFWD, F.PTP_CNT.FUMISS]⟩]

/-- Registers of CAN, part 1. -/
def regsCAN1 : List RegDef := [
  ⟨0x50000, 1, 1, 1, 1, [F.CAN_CTRL.INIT, F.CAN_CTRL.AUTOREC, F.CAN_CTRL.FDEN, F.CAN_CTRL.BRSEN, F.CAN_CTRL.TDCEN]⟩,
  ⟨0x50004, 1, 1, 1, 1, [F.CAN_NBT.NBRP, F.CAN_NBT.NTSEG1, F.CAN_NBT.NTSEG2, F.CAN_NBT.NSJW]⟩,
  ⟨0x50008, 1, 1, 1, 1, [F.CAN_DBT.DBRP, F.CAN_DBT.DTSEG1, F.CAN_DBT.DTSEG2, F.CAN_DBT.DSJW, F.CAN_DBT.TDCO]⟩,
  ⟨0x5000c, 1, 1, 1, 1, [F.CAN_STAT.EST, F.CAN_STAT.ALONE, F.CAN_STAT.BOFFSEEN, F.CAN_STAT.ALONESEEN, F.CAN_STAT.LEC, F.CAN_STAT.TDCV]⟩,
  ⟨0x50010, 1, 1, 1, 1, [F.CAN_ERRCNT.TEC, F.CAN_ERRCNT.REC, F.CAN_ERRCNT.NOACK]⟩,
  ⟨0x50014, 1, 1, 1, 1, [F.CAN_CNT.TXOK, F.CAN_CNT.RXOK]⟩,
  ⟨0x50018, 1, 1, 1, 1, [F.CAN_CNT2.NOMATCH, F.CAN_CNT2.LOSTCNT, F.CAN_CNT2.BOFFCNT]⟩,
  ⟨0x50020, 1, 1, 1, 1, [F.CAN_TM_CFG.EN, F.CAN_TM_CFG.XTD, F.CAN_TM_CFG.PER]⟩,
  ⟨0x50024, 1, 1, 1, 1, [F.CAN_TM_ID.ID]⟩,
  ⟨0x50028, 1, 1, 1, 1, [F.CAN_TM_STAT.SEQ, F.CAN_TM_STAT.REPL]⟩,
  ⟨0x5002c, 1, 1, 1, 1, [F.CAN_TM_TS_NS.NS]⟩,
  ⟨0x50030, 1, 1, 1, 1, [F.CAN_TM_TS_S_LO.S]⟩,
  ⟨0x50034, 1, 1, 1, 1, [F.CAN_TM_TS_S_HI.S]⟩,
  ⟨0x50200, 32, 96, 1, 1, [F.CAN_OBJ_CFG.EN 0, F.CAN_OBJ_CFG.DIR 0, F.CAN_OBJ_CFG.XTD 0, F.CAN_OBJ_CFG.FDF 0, F.CAN_OBJ_CFG.BRS 0, F.CAN_OBJ_CFG.DLC 0, F.CAN_OBJ_CFG.TXREQ 0, F.CAN_OBJ_CFG.TXABORT 0, F.CAN_OBJ_CFG.LOCK 0]⟩,
  ⟨0x50204, 32, 96, 1, 1, [F.CAN_OBJ_ID.ID 0]⟩,
  ⟨0x50208, 32, 96, 1, 1, [F.CAN_OBJ_MASK.MASK 0]⟩,
  ⟨0x5020c, 32, 96, 1, 1, [F.CAN_OBJ_STAT.NEW 0, F.CAN_OBJ_STAT.LOST 0, F.CAN_OBJ_STAT.TXDONE 0, F.CAN_OBJ_STAT.WERR 0, F.CAN_OBJ_STAT.SHADOW 0, F.CAN_OBJ_STAT.RDLC 0, F.CAN_OBJ_STAT.RFDF 0, F.CAN_OBJ_STAT.RBRS 0, F.CAN_OBJ_STAT.RESI 0]⟩,
  ⟨0x50210, 32, 96, 1, 1, [F.CAN_OBJ_TS.TS 0]⟩,
  ⟨0x50220, 32, 96, 16, 4, [F.CAN_OBJ_D.DATA 0 0]⟩,
  ⟨0x50ffc, 1, 1, 1, 1, [F.CAN_XSTAT.BUSY, F.CAN_XSTAT.WDROP]⟩]

/-- Registers of SMB, part 1. -/
def regsSMB1 : List RegDef := [
  ⟨0x54000, 1, 1, 1, 1, [F.SMB_C_CFG.SPEED, F.SMB_C_CFG.PEC, F.SMB_C_CFG.AUTOARA, F.SMB_C_CFG.ARBRETRY]⟩,
  ⟨0x54004, 1, 1, 1, 1, [F.SMB_C_CMD.ADDR, F.SMB_C_CMD.PROT, F.SMB_C_CMD.CODE, F.SMB_C_CMD.PECEN, F.SMB_C_CMD.GO]⟩,
  ⟨0x54008, 1, 1, 1, 1, [F.SMB_C_LEN.WCNT, F.SMB_C_LEN.RCNT]⟩,
  ⟨0x5400c, 1, 1, 1, 1, [F.SMB_C_CTRL.CLEAR]⟩,
  ⟨0x54010, 1, 1, 1, 1, [F.SMB_C_STAT.DONE, F.SMB_C_STAT.RESULT, F.SMB_C_STAT.BUSERR, F.SMB_C_STAT.SDASTUCK, F.SMB_C_STAT.CLEARING, F.SMB_C_STAT.ALERTSEEN, F.SMB_C_STAT.ALERTNAK]⟩,
  ⟨0x54014, 1, 1, 1, 1, [F.SMB_C_ALERT.ADDR, F.SMB_C_ALERT.COUNT]⟩,
  ⟨0x54020, 1, 1, 1, 1, [F.SMB_T_CFG.ADDR, F.SMB_T_CFG.EN, F.SMB_T_CFG.PECREQ, F.SMB_T_CFG.OVWR]⟩,
  ⟨0x54024, 1, 1, 1, 1, [F.SMB_T_CTRL.ALERT, F.SMB_T_CTRL.ALERTCLR]⟩,
  ⟨0x54028, 1, 1, 1, 1, [F.SMB_T_STAT.PROTOERR, F.SMB_T_STAT.PECERR, F.SMB_T_STAT.TIMEOUT, F.SMB_T_STAT.ARADONE, F.SMB_T_STAT.BUSYNAK]⟩,
  ⟨0x5402c, 1, 1, 1, 1, [F.SMB_T_NEW.NEW]⟩,
  ⟨0x54100, 64, 4, 1, 1, [F.SMB_C_DATA.DATA 0]⟩,
  ⟨0x54200, 32, 4, 1, 1, [F.SMB_T_WIN.WORD 0]⟩,
  ⟨0x54280, 32, 4, 1, 1, [F.SMB_T_WINB.WORD 0]⟩,
  ⟨0x54ffc, 1, 1, 1, 1, [F.SMB_XSTAT.BUSY, F.SMB_XSTAT.WDROP]⟩]

/-- Registers of EVR, part 1. -/
def regsEVR1 : List RegDef := [
  ⟨0x58000, 1, 1, 1, 1, [F.EVR_STAT.WPTR, F.EVR_STAT.WRAP]⟩,
  ⟨0x58004, 1, 1, 1, 1, [F.EVR_NEWEST_LO.ESN]⟩,
  ⟨0x58008, 1, 1, 1, 1, [F.EVR_NEWEST_HI.ESN]⟩,
  ⟨0x5800c, 1, 1, 1, 1, [F.EVR_OLDEST_LO.ESN]⟩,
  ⟨0x58010, 1, 1, 1, 1, [F.EVR_OLDEST_HI.ESN]⟩,
  ⟨0x58014, 1, 1, 1, 1, [F.EVR_CNT.RECORDS]⟩,
  ⟨0x58018, 1, 1, 1, 1, [F.EVR_MCNT.MERGES]⟩,
  ⟨0x58020, 1, 1, 1, 1, [F.EVR_NET.EN, F.EVR_NET.ETYPE]⟩,
  ⟨0x58024, 1, 1, 1, 1, [F.EVR_NETMASK.GROUPS, F.EVR_NETMASK.HIGH]⟩,
  ⟨0x58028, 1, 1, 1, 1, [F.EVR_MCAST_LO.ADDR]⟩,
  ⟨0x5802c, 1, 1, 1, 1, [F.EVR_MCAST_HI.ADDR]⟩,
  ⟨0x58100, 1, 1, 1, 1, [F.EVR_WSEL.SLOT, F.EVR_WSEL.WVALID]⟩,
  ⟨0x58110, 16, 4, 1, 1, [F.EVR_W.DATA 0]⟩]

/-- Registers of UPD, part 1. -/
def regsUPD1 : List RegDef := [
  ⟨0x5c000, 1, 1, 1, 1, [F.UPD_STAT.STATE, F.UPD_STAT.ERR, F.UPD_STAT.TRIAL, F.UPD_STAT.TRIES, F.UPD_STAT.SFWPEND, F.UPD_STAT.RESUMED]⟩,
  ⟨0x5c004, 1, 1, 1, 1, [F.UPD_PROG.DONE, F.UPD_PROG.TOTAL]⟩,
  ⟨0x5c008, 1, 1, 1, 1, [F.UPD_RUNVER.VER, F.UPD_RUNVER.SVER]⟩,
  ⟨0x5c00c, 1, 1, 1, 1, [F.UPD_TGTVER.VER, F.UPD_TGTVER.SVER]⟩,
  ⟨0x5c010, 1, 1, 1, 1, [F.UPD_CFG.CONFIRMT]⟩,
  ⟨0x5c014, 1, 1, 1, 1, [F.UPD_CNT.APPLIED, F.UPD_CNT.ROLLBACKS]⟩,
  ⟨0x5c020, 8, 4, 1, 1, [F.UPD_TGTHASH.HASH 0]⟩]

/-- Registers of THM, part 1. -/
def regsTHM1 : List RegDef := [
  ⟨0x60000, 1, 1, 1, 1, [F.THM_TEMP.TEMP, F.THM_TEMP.MAX]⟩,
  ⟨0x60004, 1, 1, 1, 1, [F.THM_LVL.LVL, F.THM_LVL.MINLVL, F.THM_LVL.HOTSEEN]⟩,
  ⟨0x60008, 1, 1, 1, 1, [F.THM_CNT.L1, F.THM_CNT.L2]⟩]

/-- Registers of SVC, part 1. -/
def regsSVC1 : List RegDef := [
  ⟨0x64000, 1, 1, 1, 1, [F.SVC_CTRL.BLOCK]⟩,
  ⟨0x64004, 1, 1, 1, 1, [F.SVC_STAT.ATTACH, F.SVC_STAT.SESSION, F.SVC_STAT.KEY, F.SVC_STAT.LOCKOUT, F.SVC_STAT.FAILS, F.SVC_STAT.LOCKT]⟩,
  ⟨0x64008, 1, 1, 1, 1, [F.SVC_CNT.SESSIONS, F.SVC_CNT.AUTHFAIL]⟩,
  ⟨0x64ffc, 1, 1, 1, 1, [F.SVC_XSTAT.BUSY, F.SVC_XSTAT.WDROP]⟩]

/-- Every register of the block. -/
def allRegs : List RegDef :=
  regsGLB1 ++
  regsBLC1 ++
  regsTICK1 ++
  regsTICK2 ++
  regsIRQ1 ++
  regsHIF1 ++
  regsATU1 ++
  regsCHN1 ++
  regsMEAS1 ++
  regsBAL1 ++
  regsIMP1 ++
  regsEST1 ++
  regsEST2 ++
  regsCNV1 ++
  regsCNV2 ++
  regsCTE1 ++
  regsSDM1 ++
  regsPROT1 ++
  regsSAFM1 ++
  regsSAFM2 ++
  regsSHF1 ++
  regsRED1 ++
  regsNET1 ++
  regsPTP1 ++
  regsCAN1 ++
  regsSMB1 ++
  regsEVR1 ++
  regsUPD1 ++
  regsTHM1 ++
  regsSVC1

end Sys2Proof.Machine
end

