-- ==== Sys2Proof/Machine/Tables.lean ====
section
/-! DEFINITION. Sparse tables of plain data in one canonical form (keys strictly rising, no entry equal to what an
unlisted key reads as), and the register store `Csr` built on them: one entry per field that differs from its reset
value. Memories (CTE data and program memory, the MRAM recorder, the package store) are tables too. -/

namespace Sys2Proof.Machine

/-- A sparse table: what is not listed reads as the default the accessor is given. -/
abbrev Tab (α : Type) := List (Nat × α)

/-- The entry at key `k`, or the default. -/
def Tab.get {α : Type} (d : α) : Tab α → Nat → α
  | [], _ => d
  | (k', v) :: t, k => if k' = k then v else Tab.get d t k

/-- The table without key `k`. -/
def Tab.del {α : Type} : Tab α → Nat → Tab α
  | [], _ => []
  | (k', v) :: t, k => if k' = k then Tab.del t k else (k', v) :: Tab.del t k

/-- The table with an entry put at its place in the order of keys. -/
def Tab.ins {α : Type} : Tab α → Nat → α → Tab α
  | [], k, v => [(k, v)]
  | (k', v') :: t, k, v => if k < k' then (k, v) :: (k', v') :: t else (k', v') :: Tab.ins t k v

/-- Writing `v` at `k`; writing the default removes the entry. -/
def Tab.put {α : Type} [DecidableEq α] (d : α) (t : Tab α) (k : Nat) (v : α) : Tab α :=
  if v = d then Tab.del t k else Tab.ins (Tab.del t k) k v

/-- Change the entry at a key. -/
def Tab.upd {α : Type} [DecidableEq α] (d : α) (t : Tab α) (k : Nat) (f : α → α) : Tab α := Tab.put d t k (f (Tab.get d t k))

/-- Every key of the table is above `b`, and the keys rise strictly. -/
def Tab.above {α : Type} : Nat → Tab α → Bool
  | _, [] => true
  | b, (k, _) :: t => decide (b < k) && Tab.above k t

/-- No entry equals the default. -/
def Tab.lean {α : Type} [DecidableEq α] (d : α) : Tab α → Bool
  | [] => true
  | (_, v) :: t => decide (v ≠ d) && Tab.lean d t

/-- Keys rise strictly. -/
def Tab.rising {α : Type} : Tab α → Bool
  | [] => true
  | (k, _) :: t => Tab.above k t

/-- The canonical form. -/
def Tab.wf {α : Type} [DecidableEq α] (d : α) (t : Tab α) : Bool := Tab.rising t && Tab.lean d t

/-- Writing a list of values from key `k` upward. -/
def Tab.putList {α : Type} [DecidableEq α] (d : α) : Tab α → Nat → List α → Tab α
  | t, _, [] => t
  | t, k, v :: vs => Tab.putList d (Tab.put d t k v) (k + 1) vs

/-- `n` entries from key `k` upward. -/
def Tab.getList {α : Type} (d : α) (t : Tab α) (k : Nat) : Nat → List α
  | 0 => []
  | n + 1 => Tab.get d t k :: Tab.getList d t (k + 1) n

/-- The register store: the fields that differ from their reset values, by `Fld.key`. -/
abbrev Csr := Tab Nat

/-- The value a field holds. -/
def Csr.get (c : Csr) (f : Fld) : Nat := Tab.get f.reset c f.key

/-- A field takes a value, cut to its width. -/
def Csr.put (c : Csr) (f : Fld) (v : Nat) : Csr := Tab.put f.reset c f.key (v % 2 ^ f.width)

end Sys2Proof.Machine
end

