-- ==== Sys2Proof/Machine/State.lean ====
section
/-! DEFINITION. The state of the block, as plain data, and `State.reset`. Registers live in one store (`Core.csr`); the
structures below hold what the spec gives each block beyond its registers. -/

namespace Sys2Proof.Machine

/-! ## Events, outputs, pending writes -/

/-- R70: the stamp of an event, TB_TICK count and phase in 125 ps units. -/
structure Stamp where
  count : Nat := 0
  phase : Nat := 0
  deriving DecidableEq, Repr

/-- An event as its source raises it: code (R500), SOURCE, the primary value and the owning block's status (R501). -/
structure Ev where
  code : Nat := 0
  src : Nat := 0
  prim : Nat := 0
  stat : List Nat := []
  stamp : Stamp := {}
  deriving DecidableEq, Repr

/-- R71: an event that the sequencer has numbered, with what the recorder stores beside it (R498). -/
structure SeqEv where
  esn : Nat := 0
  ev : Ev := {}
  ops : Nat := 0
  pwrcyc : Nat := 0
  hold : Bool := false
  deriving DecidableEq, Repr

/-- R498: one slot of the event recorder. `mark` other than 0xA5 is no record. -/
structure Rec where
  esn : Nat := 0
  code : Nat := 0
  src : Nat := 0
  ops : Nat := 0
  pwrcyc : Nat := 0
  ldelta : Nat := 0
  rep : Nat := 0
  flags : Nat := 0
  mark : Nat := 0
  prim : Nat := 0
  stat : List Nat := []
  deriving DecidableEq, Repr

/-- What the block sends: ring packets (ports mask 1 = A, 2 = B; R80: the header as its 24 bits, the payload bytes with 256 for each
status group TONE among them, the CRC), CAN frames, Ethernet frames (ports mask),
cross-link frames (R367), host memory writes, MSI-X messages, PME, SMBus and USB answers,
edges of its pins, and the words that register reads return. -/
inductive Out where
  | chain (ports header : Nat) (data : List Nat) (crc : Nat)
  | can (id : Nat) (xtd fdf brs : Bool) (data : List Nat)
  | eth (ports kind : Nat) (data : List Nat)
  | xl (f : TickFrame)
  | mem (fn addr : Nat) (data : List Nat)
  | msix (fn vec : Nat)
  | pme (fn : Nat)
  | smb (port kind : Nat) (data : List Nat)
  | usb (status : Nat) (data : List Nat)
  | pin (id level : Nat)
  | read (off value : Nat)
  deriving DecidableEq, Repr

/-- A write held for its instant of commit (R17, R45): the field, the bits written to it, the alias, whether it came after the
write cut-off of its tick, and the master (R38). -/
structure PWrite where
  fld : Fld
  bits : Nat
  how : WMode
  late : Bool
  mst : Master
  deriving DecidableEq, Repr

/-! ## TICK -/

/-- The tick generator beyond its registers: tick in the frame, the phase of TB_TICK in 125 ps units as the latest instant that the
model has seen (R62) with whether the happening under way lies at exactly that phase (R53, R70), the TB_LINK count and its remainder (1/125 of an LNK
clock), the TB_PLANT remainder in 1e-10 ns, the trigger of an armed snapshot, tick boundaries since its arming boundary,
whether its trigger has arrived (R67), whether GO has been written again at the boundary of that trigger (R49), and for how long
tick markers have run since CTL was released, in 2 ns up to 10 ms (R520). -/
structure TickSt where
  pos : Nat := 0
  phase : Nat := 0
  exact : Bool := false
  running : Bool := false
  link : Nat := 0
  linkFrac : Nat := 0
  plantFrac : Nat := 0
  snapSrc : Option Nat := none
  snapAge : Nat := 0
  snapDue : Bool := false
  snapAgain : Bool := false
  marks : Nat := 0
  deriving DecidableEq, Repr

/-! ## IRQ and EVR -/

/-- IRQ beyond its registers: assertions crossing into SYS (R434) and, per core, the stack of normal handlers (level,
source; innermost first) and the fast handler that runs (R436). -/
structure IrqSt where
  cross : List Nat := []
  stack : Tab (List (Nat × Nat)) := []
  fast : Tab (Option Nat) := []
  deriving DecidableEq, Repr

/-- The event paths: whether the sequencer runs (R505) and the first event of the run; events that have not entered SYS yet;
sequenced events waiting for ring 2, for Ethernet and for the recorder; the slots of the newest 64 records (R502, newest
first); how many ESNs were assigned beyond the highest that the recorder holds (R503). -/
structure EvSt where
  ready : Bool := false
  raw : List Ev := []
  ring2 : List SeqEv := []
  eth : List SeqEv := []
  recq : List SeqEv := []
  recent : List Nat := []
  beyond : Nat := 0
  deriving DecidableEq, Repr

/-! ## CHN -/

/-- One node in the current frame: whether all its sample sets were read, whether it gave a response of any kind and whether a
result; whether through the other port; the sets; how often a missing result has been asked for (R97) and whether it is recorded as
not read; whether its wire decisions were read; the node's own fault (R99, FCAUSE of R121); a HELLO waiting for
re-addressing with the serial it gave, and a node that has no SYNC since (R87); its echo turnaround; its bleed duty state (R157: 0 full, 1 half, 2 stopped); the comparator thresholds it holds (R580); frames in a row
without any response (R103). -/
structure NodeRt where
  got : Bool := false
  response : Bool := false
  result : Bool := false
  path : Bool := false
  sets : Tab ResultSet := []
  asked : Nat := 0
  notRead : Bool := false
  owRead : Bool := false
  fault : Nat := 0
  hello : Bool := false
  helloSer : Nat := 0
  joins : Bool := false
  turn : Nat := 800
  duty : Nat := 0
  thr22 : Nat := 0
  thr23 : Nat := 0
  quiet : Nat := 0
  deriving DecidableEq, Repr

/-- CHN beyond its registers: a running enumeration and one more requested (R82), a retry due (R84), the node count and the
commissioned serials that govern (R106, R112), the next sequence number (R80), the nodes whose NPOS or NTCEN has changed (R83), the frame
of the last node diagnostic read (R26), the bleed duty states by serial that are not those of the table (R157), the enumerated node
count, the node count read through port A (R93), a re-planned split or a closure that acts
at the next frame boundary (R102), the delay measurement (R88), the nodes, and the readout of the current frame. -/
structure ChnSt where
  run : Option EnumFound := none
  cut : Option Nat := none
  again : Bool := false
  retry : Bool := false
  exp : Nat := 0
  list : Tab Nat := []
  seq : Nat := 0
  cfgDue : List Nat := []
  diagF : Option Nat := none
  duty : Tab Nat := []
  total : Nat := 0
  split : Nat := 0
  plan : Option (Nat × Nat) := none
  closure : Bool := false
  dlyRun : Bool := false
  dlyCnt : Nat := 0
  dlyNew : List (Nat × Nat) := []
  rt : Tab NodeRt := []
  synced : Bool := false
  rodone : Bool := false
  deadline : Bool := false
  published : Bool := false
  tchg : Option Nat := none
  deriving DecidableEq, Repr

/-! ## MEAS -/

/-- One position slot (R126 to R129): code held, age, flags of the latest judgement, episodes in progress. -/
structure Pos where
  code : Nat := 65535
  age : Nat := 255
  valid : Bool := false
  rev : Bool := false
  ovr : Bool := false
  lost : Bool := false
  revEp : Bool := false
  ovrEp : Bool := false
  setCodes : List Nat := []
  deriving DecidableEq, Repr

/-- One NTC channel (R136 to R140): last good value, whether it has been fitted in a frame with SYNC, counts, and what it reports. -/
structure Ntc where
  temp : Int := -32768
  has : Bool := false
  seen : Bool := false
  age : Nat := 255
  good : Bool := false
  broken : Bool := false
  cause : Nat := 0
  badCnt : Nat := 0
  clrCnt : Nat := 0
  histCnt : Nat := 0
  driftCnt : Nat := 0
  rep : Int := -32768
  subst : Bool := false
  nbr : Bool := false
  deriving DecidableEq, Repr

/-- The latest published frame record (R142): header, the per-set string currents, the position words (key
`set * 640 + 16 * node + channel`) and the NTC words (key `8 * node + channel`). -/
structure FrameRec where
  fnum : Nat := 0
  tick : Nat := 0
  dict : Bool := false
  ow : Bool := false
  imp : Bool := false
  nodes : Nat := 0
  c : Nat := 0
  n : Nat := 0
  s : Nat := 0
  phase : Nat := 0
  valid : Nat := 0
  held : Nat := 0
  lost : Nat := 0
  broken : Nat := 0
  sumMv : Int := 0
  isMean : Int := 0
  isSet : List Int := []
  pv : Tab Nat := []
  nt : Tab Nat := []
  deriving DecidableEq, Repr

/-- MEAS beyond its registers: the mode, n and s that govern (R119), whether a frame with SYNC has been recorded (R127), the
string current latches of the frame (R115), the open-wire frame flags (R130), the positions (key `16 * node + channel`), the
NTC channels (key `8 * node + channel`), the wires (key `32 * node + wire`; 0 passes, 1 suspect, 2 confirmed, 3 confirmed
and passed once) as decided and as the records show them (R133), a switch to averaged mode due (R120), an excess of
positions reported (R125), and the latest record. -/
structure MeasSt where
  mode : Nat := 0
  n : Nat := 1
  s : Nat := 1
  started : Bool := false
  latches : List Int := []
  ow : Bool := false
  owConfirm : Bool := false
  owRepeat : Bool := false
  owDefer : Bool := false
  pos : Tab Pos := []
  ntc : Tab Ntc := []
  wire : Tab Nat := []
  wireAct : Tab Nat := []
  nposSeen : Bool := false
  last : FrameRec := {}
  deriving DecidableEq, Repr

/-! ## BAL -/

/-- One derating direction (R163, R164): TL0, TL1, TH1, TH0 in 0.1 °C. -/
structure DrSet where
  tl0 : Int
  tl1 : Int
  th1 : Int
  th0 : Int
  deriving DecidableEq, Repr

/-- BAL beyond its registers: automatic requests (R153); the schedule computed for the next frame (R150, R156); the schedule each node holds (target frame, 16 on-times; R152); the actual on-times of this frame, keyed by
slot (R155); the bias, factors that commit at the next tick boundary (R158, R163); the governing derating sets (R164); the
fraction of a demand fall in 1/500,000,000 of a percent-second; the demand and HEAT of the last message sent, and a message
due (R161). -/
structure BalSt where
  auto : Tab Bool := []
  sched : Tab Nat := []
  schedFor : Nat := 0
  schedMade : Bool := false
  schedTrunc : Bool := false
  hold : Tab (Nat × List Nat) := []
  act : Tab Nat := []
  biasNext : Option Int := none
  drfNext : Option (Nat × Nat) := none
  drC : DrSet := ⟨0, 100, 450, 550⟩
  drD : DrSet := ⟨-200, -100, 500, 600⟩
  fallFrac : Nat := 0
  sentDemand : Nat := 0
  sentHeat : Bool := false
  msgDue : Bool := false
  deriving DecidableEq, Repr

/-! ## IMP -/

/-- The result of one position in the last published burst (R185 to R191), R_AF in µΩ, T_imp in 0.1 °C. -/
structure ImpRes where
  mag : List Nat := []
  ph : List Nat := []
  rvalid : Bool := false
  calib : Bool := false
  timp : Option Int := none
  xfail : Bool := false
  xcnt : Nat := 0
  deriving DecidableEq, Repr

/-- A frequency set (R172): SPACE, pre-roll, the eight BINs. -/
structure ImpSet where
  space : Nat
  pre : Nat
  bins : List Nat
  deriving DecidableEq, Repr

/-- IMP beyond its registers: the set in force, a burst due, its deferral reported, clocks since the last capture or abandonment and whether they have
made their burst due (R182),
whether the capture overlaps this frame (R177), the setpoint computed at the last tick boundary and the one that governs (R174); the
running burst: its set with the spacing used, number, start frame, TB_TICK count of burst instant 0, component amplitude in µA, nodes that
acknowledged the setup, samples of the current, node buffers by slot, how often a packet of a slot has been asked for again (3 given
up, R180), slots not VALID in some frame, NTC readings of the first and last record and whether they count (R189); results by slot; references by slot. -/
structure ImpSt where
  set : Option ImpSet := none
  due : Bool := false
  defRaised : Bool := false
  since : Nat := 0
  used : Bool := false
  bnum : Nat := 0
  startF : Nat := 0
  t0 : Nat := 0
  amp : Nat := 0
  own : ImpSet := ⟨0, 0, []⟩
  pert : Bool := false
  capFrame : Bool := false
  wave : Int := 0
  perturb : Int := 0
  acked : List Nat := []
  cur : List Int := []
  buf : Tab (List Nat) := []
  asks : Tab Nat := []
  bad : List Nat := []
  ntc0 : Tab (Int × Bool) := []
  ntc1 : Tab (Int × Bool) := []
  res : Tab ImpRes := []
  qok : Nat := 0
  pubStart : Nat := 0
  pubBins : List Nat := []
  pubSpace : Nat := 0
  refs : Tab ImpRef := []
  tvAge : Nat := 0
  deriving DecidableEq, Repr

/-! ## EST -/

/-- One epoch of one position as the relaxation check sees it (R205): VALID in every frame, lowest, highest, sum and number
of its codes. -/
structure EpAgg where
  ok : Bool := true
  lo : Nat := 65535
  hi : Nat := 0
  sum : Nat := 0
  n : Nat := 0
  clk : Nat := 0
  deriving DecidableEq, Repr


/-- What EST accumulates of a position between epoch boundaries and over a rest: bleed charge; V_c sum in 0.1 µV and count;
VALID frames; the current epoch's aggregate and the past ones of the rest, newest first; the last VALID code and current of
the previous record (R204); rest duration at the last rest anchor; whether a rest or rest-slot anchor came in this epoch (R208);
SOC and uncertainty of a rest-slot anchor that the next epoch boundary applies (R201); rest-slot sums (R211); bleed and x of a gleaning cycle (R218). -/
structure PosAcc where
  bleed : Nat := 0
  vc : Int := 0
  vcN : Nat := 0
  vfr : Nat := 0
  agg : EpAgg := {}
  hist : List EpAgg := []
  prev : Option (Nat × Int) := none
  anchAt : Nat := 0
  anchNow : Bool := false
  pend : Option (Nat × Nat) := none
  slotOk : Bool := true
  midSum : Nat := 0
  midN : Nat := 0
  endSum : Nat := 0
  endN : Nat := 0
  glnBleed : Nat := 0
  xTop : Nat := 0
  deriving DecidableEq, Repr

/-- What is kept of the positions of a node (R197): learned contexts, accumulators, impedance references and results. -/
structure Kept where
  pos : Tab Ctx := []
  acc : Tab PosAcc := []
  refs : Tab ImpRef := []
  res : Tab ImpRes := []
  deriving DecidableEq, Repr

/-- A learned copy in MRAM (R223): its valid mark, whether its CRC-32 matches; `cut` a save into it was cut off by the end of hold-up. -/
structure EstCopy where
  valid : Bool := false
  crcOk : Bool := false
  cut : Bool := false
  seq : Nat := 0
  str : Ctx := {}
  pos : Tab Ctx := []
  serials : Tab Nat := []
  away : List (Nat × Kept) := []
  noRest : Nat := 0
  cyc : Nat := 0
  cycFrac : Nat := 0
  thru : Nat := 0
  refs : Tab ImpRef := []
  deriving DecidableEq, Repr

/-- EST beyond its registers: contexts by slot, the string context, accumulators; what the window shows (R228): contexts, and R, its source and LOST; charge and
clocks of the running epoch and a loss of the primary current within the tick (R198, R200); clocks of the running rest; the OCV table that governs (63 values) and a new one to check
(R202); the serials of the learned record, what is kept of nodes that have left their place (R197), and the nodes whose serial has not been compared with it yet (R221); whether contexts are
established, the save in progress and one merged, NOW asked for the merged one (R223, R225); clocks since the last save; discharge
throughput, as the fraction of a cycle and in all (R196, R220); TB_OPS ms of the last rest anchor; SOP and the string current target in mA as they govern in CNV and the target as it is passed (R16, R25, R210,
R216); rest slot and gleaning progress, TREST passed in a gleaning rest, the slots LOST in the last record (R217). -/
structure EstSt where
  pos : Tab Ctx := []
  str : Ctx := {}
  acc : Tab PosAcc := []
  shown : Tab Ctx := []
  shownR : Tab (Int × Nat × Bool) := []
  seen : Bool := false
  qe : Int := 0
  clk : Nat := 0
  lostTick : Bool := false
  restClk : Nat := 0
  inRest : Bool := false
  ocv : Option (List Nat) := none
  serials : Tab Nat := []
  away : List (Nat × Kept) := []
  unchk : List Nat := []
  estab : Bool := false
  saving : Option Nat := none
  again : Option Nat := none
  nowAgain : Bool := false
  sinceSave : Nat := 0
  cycFrac : Nat := 0
  thru : Nat := 0
  restBase : Int := 0
  sopGov : Nat × Nat := (0, 0)
  tgt : Option Int := none
  tgtGov : Option Int := none
  slotClk : Nat := 0
  slotCur : Bool := false
  glnClk : Nat := 0
  glnRet : Nat := 0
  glnNet : Int := 0
  glnCount : Bool := false
  glnEnd : Bool := false
  lostWas : List Nat := []
  deriving DecidableEq, Repr

/-! ## SDM, CNV, CTE, PROT -/

/-- SDM: per input, of the last tick with a window centre the sum of 2d - 1 over its filter outputs, scaled by 2^32, with their number
(R238); and the latest output. -/
structure SdmSt where
  mean : Tab (Int × Nat) := []
  last : Tab Int := []
  deriving DecidableEq, Repr

/-- One leg of a phase in a switching period (R232 to R234): the on-times of its high and low switch and the valley of its carrier after
the tick boundary; the commands that its midpoint rises and falls, from the boundary; all in 125 ps (R232). -/
structure Leg where
  hi : Nat := 0
  lo : Nat := 0
  valley : Nat := 0
  rise : Int := 0
  fall : Int := 0
  deriving DecidableEq, Repr

/-- CNV beyond its registers: clocks since the state was entered; the state an off delay returns to; the V_B ramp in mV / 5000
(R244), whether it has reached its target and whether it rises; clocks of stall (R245); the soft-stop reference in
mA / 2,000,000,000, the rate per clock in the same unit that degraded mode asks for, its limit in clocks with whether TMAX counts beside
it, and the ticks at or below IDONE (R250, R251);
degraded mode now, and newly entered; I_tot of the tick before, a step seen, the dwell counts of R252 and R256; what the tick
decided for the phases (0 nothing, 1 add one, 2 all); a phase gated off whose angles have not changed yet; phases that sheds
have gated off; phases newly active; the RELOAD condition (R270); burst sleep, ticks of the burst (R256); a write that
drops BUREN or a profile change is read from the registers; the bounds of R249 in mA; the duties committed, loaded and loaded before, by
2 * phase + leg; the legs' switching in the period and what of it is at the outputs (R285, R299); whether the gates were enabled in the tick
that ended (R292). -/
structure CnvSt where
  age : Nat := 0
  back : Nat := 3
  ramp : Int := 0
  rampEnd : Bool := false
  rising : Bool := false
  stall : Nat := 0
  iref : Int := 0
  rate : Nat := 0
  tmax : Option (Nat × Bool) := none
  done : Nat := 0
  deg : Bool := false
  degNew : Bool := false
  prevItot : Option Nat := none
  step : Bool := false
  dwell : Nat := 0
  bdwell : Nat := 0
  todo : Nat := 0
  shed : Option Nat := none
  shedSet : List Nat := []
  fresh : List Nat := []
  reload : Bool := false
  sleep : Bool := false
  burstAge : Nat := 0
  hi : Int := 0
  lo : Int := 0
  shadow : Tab Nat := []
  duty : Tab Nat := []
  prev : Tab Nat := []
  sched : Tab Leg := []
  legs : Tab Leg := []
  wasOn : Bool := false
  deriving DecidableEq, Repr

/-- A program as the admission check leaves it (R272): region, cycles, shortest tick, swap condition, KEEP, BIND, and whether
it is the standard loop set. -/
structure Prog where
  base : Nat
  len : Nat
  wcet : Nat
  pmin : Nat
  swap : Nat
  keep : Bool
  bind : Nat
  std : Bool
  deriving DecidableEq, Repr


/-- CTE beyond its registers (R265, R269): accumulators and predicates, program memory (a written word plus 1; 0 never
written), the places where the standard loop set was put, data memory, parameter shadow, input and output ports, the active
and the staged program, the first pass after a swap, and the words of the standard loop set; the pass of the standard loop set whose state
words stand (free, notes/assumptions/3) and the state words written since; the words that the mirror holds for a standby (R280); a swap that is
due at the frame boundary under way (R273). -/
structure CteSt where
  acc : List Int := [0, 0, 0, 0]
  pred : List Bool := [true, false, false, false]
  pm : Tab Nat := []
  stdAt : List Nat := [0]
  dm : Tab Int := []
  shadow : Tab Int := []
  inp : Tab Int := []
  out : Tab Int := []
  act : Option Prog := some ⟨0, 368, 1472, 1920, 1, true, 0, true⟩
  stg : Option Prog := none
  first : Bool := false
  std : StdSt := {}
  stdFree : Option Nat := none
  wrote : List Nat := []
  mirror : Tab Int := []
  mirStd : StdSt := {}
  due : Bool := false
  deriving DecidableEq, Repr

/-- A cross-check window of R290: TB_TICK count of its first tick, its length, sums of the V_B and I_S tick results and of
the phase sum, whether the phase sum counts, clocks since its end. -/
structure XWin where
  count : Nat
  len : Nat
  vb : Int
  cur : Int
  iph : Int
  phOk : Bool
  age : Nat
  deriving DecidableEq, Repr

/-- A reference of one channel for a window (R290): channel (0 A, 1 B), TB_TICK count of the window, r_V in mV, r_I in mA. -/
structure XRef where
  ch : Nat
  count : Nat
  rv : Int
  ri : Int
  deriving DecidableEq, Repr

/-- PROT beyond its registers: pins at low level (bit n; gate-off lines of A and B), consecutive outside outputs and the
latest one's verdict per input (R287), streams lost now (R288), CTL clock lost; per phase whether forced in its period and
how many periods in a row (R285); the running window and the ended ones; references; misses in a row; windows in a row above the
limit of XV and XI and the verdict of the latest; consecutive frames of OV, UV and OT per slot, of ISO; whether alarms stood
in the record before; ticks of overcurrent; whether a record's values stand above the clearing levels; frame sums of V_NPE and V_S;
whether the slow causes' conditions hold at present; references that wait for a tick boundary, with whether they came after the cut-off
(R290); a trip that CNV has not met yet (R299); the phases whose forcing tripped (R301); whether VIO_A is present (R561); the trips of a record that force the gates safe at the next tick boundary
(bit 0 OV, 1 UV, 2 OT, 3 LOST). -/
structure ProtSt where
  low : Nat := 0
  gLow : Nat := 0
  wCnt : Tab Nat := []
  wOut : Nat := 0
  lossNow : Nat := 0
  clkLost : Bool := false
  forced : Nat := 0
  period : Nat := 0
  rowF : Tab Nat := []
  win : Option XWin := none
  ended : List XWin := []
  refs : List XRef := []
  miss : Nat := 0
  xvCnt : Nat := 0
  xiCnt : Nat := 0
  xvBad : Bool := false
  xiBad : Bool := false
  ovCnt : Tab Nat := []
  uvCnt : Tab Nat := []
  otCnt : Tab Nat := []
  isoCnt : Nat := 0
  isoGone : Bool := true
  ovBad : Bool := false
  uvBad : Bool := false
  otBad : Bool := false
  lostSet : List Nat := []
  occCnt : Nat := 0
  ocdCnt : Nat := 0
  ocBad : Bool := false
  refIn : List (XRef × Bool) := []
  tripSeen : Bool := false
  cbcp : Nat := 0
  vioA : Bool := true
  due : Nat := 0
  vnpe : Int := 0
  vs : Int := 0
  frames : Nat := 0
  deriving DecidableEq, Repr

/-! ## Safety channels -/

/-- One safety input pair as the channels see it (R321 to R323): the filtered states (true permit), samples of the other state
so far, ms of disagreement, discrepancy latched, progress of a clearing sequence (1 both in demand seen), ms both saw a reset
button closed at a stretch, whether that stretch has ended; input fault cause, failed pulses in a row by side and observation
(3 * side + cause - 1), passed pulses in a row, clearing sequence done since. -/
structure SafIn where
  fa : Bool := false
  fb : Bool := false
  ca : Nat := 0
  cb : Nat := 0
  dt : Nat := 0
  disc : Bool := false
  clr : Nat := 0
  btn : Nat := 0
  cut : Bool := false
  inf : Nat := 0
  bad : Tab Nat := []
  good : Nat := 0
  seq : Bool := false
  deriving DecidableEq, Repr

/-- One safety output (R324 to R327): its P and M switches, fault cause (R325, R327), CF level at each channel, ms that CF
contradicts the switches, ms that the channels differ, ms that CF indicates open, ms of clean readback when de-energised, a
request that waits. -/
structure SafOut where
  p : Bool := false
  m : Bool := false
  fault : Nat := 0
  cfA : Bool := true
  cfB : Bool := true
  wrong : Nat := 0
  differ : Nat := 0
  openMs : Nat := 0
  clean : Nat := 0
  deriving DecidableEq, Repr

/-- R335: one entry of the change log. -/
structure SafLog where
  word : Nat := 0
  path : Nat := 0
  old : Nat := 0
  new : Nat := 0
  ops : Nat := 0
  pwrcyc : Nat := 0
  deriving DecidableEq, Repr

/-- The safety channels (R309 to R335), which no device reset touches. Non-volatile: the active set (`conf` when one is active),
its path and check value, the password's hash, the change log (newest first). The staged set with its check values; the
request of activation (value, or none for a password) that the next exchange takes; session, mismatches, lockout and their ages in
ms; inputs and outputs by number; REQ as requested; gate-off lines asserted (bit 0 A, bit 1 B) and the gate-safe readback; the restart
interlock; functions in demand (bit j - 1); counts of SF-3 and SF-4 windows per channel and both channels out of range; faulty
channels (bit mask), last fault codes; degraded mode with its survivor and age in ms; the safe state latched or due; exchanges in a
row in which an output's commanded states, and a readback item's two readings, differ, windows in a row in which the currents and the
voltages do (R312), mismatches that no test has attributed yet, with their code and age in ms (R313); the means of the last window; the
P and M readback of each channel; power-on diagnostics done; the 24 V input feeds the outputs (R557); what SAFM shows and takes for the
channels (R336): TONE1, IDX, the password words written, the confirmation value, the log window. Channel B's own copies of the active and
the staged set, of the active set's check value and of the log, and its gate-safe readback, have names that end in B (R309, R310). -/
structure SafSt where
  conf : Bool := false
  act : Tab Nat := []
  actB : Tab Nat := []
  path : Nat := 0
  cvAct : Nat := 0
  cvActB : Nat := 0
  pw : Option Nat := none
  log : List SafLog := []
  logB : List SafLog := []
  stg : Tab Nat := []
  stgB : Tab Nat := []
  stgOk : Bool := false
  cvA : Nat := 0
  cvB : Nat := 0
  ask : Option (Option Nat) := none
  session : Bool := false
  sessAge : Nat := 0
  mism : Nat := 0
  lock : Bool := false
  lockAge : Nat := 0
  result : Nat := 0
  inp : Tab SafIn := []
  out : Tab SafOut := []
  req : Nat := 0
  held : Nat := 0
  gate : Nat := 0
  gsafe : Bool := false
  gsafeB : Bool := false
  rst : Bool := true
  dem : Nat := 0
  n3 : List Nat := [0, 0]
  n4 : List Nat := [0, 0]
  out3 : Bool := false
  out4 : Bool := false
  faulty : Nat := 0
  diagA : Nat := 0
  diagB : Nat := 0
  deg : Bool := false
  degCh : Nat := 0
  degAge : Nat := 0
  safe : Bool := false
  safeDue : Bool := false
  cmdBad : Tab Nat := []
  rbBad : Tab Nat := []
  iBad : Nat := 0
  vBad : Nat := 0
  mis : List (Nat × Nat) := []
  missing : Nat := 0
  vb : List Int := [0, 0]
  i2 : List Int := [0, 0]
  prb : Nat := 0
  prbB : Nat := 0
  mrb : Nat := 0
  mrbB : Nat := 0
  diagDone : Bool := false
  fed : Bool := true
  tone1 : Bool := false
  idx : Nat := 0
  pwd : List Nat := [0, 0, 0]
  confirm : Nat := 0
  logSel : Nat := 0
  logOk : Bool := false
  logWin : SafLog := {}
  deriving DecidableEq, Repr

/-! ## SHF -/

/-- An entry of the slot view (R354): kind, ms left, the holder's frozen wait count. -/
structure SlotEnt where
  pid : Nat
  kind : Nat
  left : Nat
  wait : Nat
  deriving DecidableEq, Repr

/-- A dispatch target (R356): power in W, sequence, ms of its hold time left. -/
structure DTarget where
  p : Int
  seq : Nat
  left : Nat
  deriving DecidableEq, Repr

/-- A report that waits for its rank (R349): lost peer, rank, ms waited, whether a report for it has been seen,
TB_PLANT seconds and nanoseconds when the loss was declared (R351). -/
structure RepWait where
  pid : Nat
  rank : Nat
  waited : Nat
  seen : Bool
  sec : Nat
  ns : Nat
  deriving DecidableEq, Repr

/-- SHF beyond its registers: heartbeats of releasing left; own sequence, wait count and owner epoch; ms since EN was set; the
aggregate table by PID; the contexts (PIDs in order); lost peers not yet back; reports that wait; PIDs of the reported field with
their ms left, newest first; the slot view; ms since a duplicate PID was heard; ms of a MINLIVE shortfall; the target that
governs and the one that will; the first target after SRC is set counts as newer; V_B,ref slewing to nominal; sums of the
epoch for V_S, V_B, I_B and port-B power, ticks in them; own P_B, H_D, H_C as published. -/
structure ShfSt where
  relLeft : Nat := 0
  seq : Nat := 0
  wait : Nat := 0
  oepoch : Nat := 0
  enMs : Nat := 0
  agg : Tab Peer := []
  ctx : List Nat := []
  lost : List Nat := []
  reps : List RepWait := []
  rfield : List (Nat × Nat) := []
  view : List SlotEnt := []
  dupAge : Nat := 0
  short : Nat := 0
  tgt : Option DTarget := none
  next : Option DTarget := none
  lastSeq : Option Nat := none
  slew : Bool := false
  sVs : Int := 0
  sVb : Int := 0
  sIb : Int := 0
  sPb : Int := 0
  n : Nat := 0
  pb : Int := 0
  hd : Nat := 0
  hc : Nat := 0
  deriving DecidableEq, Repr

/-! ## HIF and ATU -/


/-- A transfer of the DMA engine (R424 to R428): kind by R426 (7 write-back, 9 ring 3), ring, function, class, IOVA, length,
bytes done, the bytes to write or read so far, whether it writes, whether the first unit comes last (R428) and that unit's
turn has come; the page it holds; index and CID it serves; whether its entry is urgent; stalled by a fault; segments waited; whether pre-emption has
divided it. -/
structure Xfer where
  kind : Nat := 0
  ring : Nat := 0
  fn : Nat := 0
  cls : Nat := 0
  iova : Nat := 0
  len : Nat := 0
  pos : Nat := 0
  data : List Nat := []
  write : Bool := false
  hdrLast : Bool := false
  hdr : Bool := false
  page : Option Nat := none
  idx : Nat := 0
  cid : Nat := 0
  urgent : Bool := false
  stalled : Bool := false
  waited : Nat := 0
  cut : Bool := false
  deriving DecidableEq, Repr

/-- R427: a fault record. -/
structure FaultRec where
  ring : Nat := 0
  fn : Nat := 0
  cause : Nat := 0
  kind : Nat := 0
  idx : Nat := 0
  iova : Nat := 0
  cid : Nat := 0
  done : Nat := 0
  len : Nat := 0
  esn : Nat := 0
  stamp : Stamp := {}
  deriving DecidableEq, Repr

/-- A cached translation (R422): function, page (IOVA / 4096), host page, permissions. -/
structure TlbEnt where
  fn : Nat
  page : Nat
  phys : Nat
  r : Bool
  w : Bool
  deriving DecidableEq, Repr

/-- A cached L1 entry (R422). -/
structure L1Ent where
  fn : Nat
  idx : Nat
  base : Nat
  l2n : Nat
  deriving DecidableEq, Repr

/-- HIF and ATU beyond their registers: per ring the next index to fetch, the descriptor fetched (64 bytes), write-back count,
STREAM sequence and drops since the last record; the buffer read for a ring's running command; entries of a vector
since its last message and the vectors whose message is due; sources bound to STREAM rings (source, ring); transfers, oldest
first, and the one served last; fault records held; translations, most recently used first; functions in D3hot, with PME
enabled, with a PME sent, and the vectors pending under moderation when D3hot began; enabled vectors, pending
bits; functions back in D0 whose vectors are raised again once their retained entries are written (R410). -/
structure HifSt where
  fetch : Tab Nat := []
  desc : Tab (List Nat) := []
  wbCnt : Tab Nat := []
  sseq : Tab Nat := []
  sdrop : Tab Nat := []
  rbuf : Tab (List Nat) := []
  since : Tab Nat := []
  due : List Nat := []
  bind : List (Nat × Nat) := []
  xf : List Xfer := []
  last : Option Nat := none
  fheld : List FaultRec := []
  tlb : List TlbEnt := []
  l1c : List L1Ent := []
  d3 : List Nat := []
  pme : List Nat := []
  pmeSent : List Nat := []
  modPend : List Nat := []
  men : List Nat := []
  mpend : List Nat := []
  back : List Nat := []
  deriving DecidableEq, Repr

/-! ## RED -/

/-- R367: what the partner's mirror has been sent beside the state words of the CTE: parameter words, EST contexts and what goes with them,
the node table beside its registers, registers, journal records of commands and of rings, peers. -/
structure Told where
  params : Tab Int := []
  ctx : Tab Ctx := []
  str : Option Ctx := none
  est : Option EstInfo := none
  ring : Option RingInfo := none
  regs : Csr := []
  recs : List JRec := []
  rings : Tab JRing := []
  peers : Tab Peer := []
  deriving DecidableEq, Repr

/-- RED beyond its registers: whether the module claims ownership (R364, R365); silent ticks in a row on the XL and HB paths
(R370, R371), and ticks since both were silent without the grant; the XL lanes that work (bit mask); the hand-over or switch-over under
way: 0 none, 1 the new active module loads the held duty at the next boundary, 3 the former one gates off there, 4 the former
standby takes the role at the next commit point, 5 the frame to mark is due; its cause; what the partner's frames said last: ESN, active
check value, degraded mode; frame sequence; CTE words the mirror has, words outstanding and ticks since; records that the
next frame acknowledges; whether the full state has come; TB_TICK count and frame number of the last frame taken, and whether
its position in the frame is known (R64); the level of HBO, and whether it toggled at the boundary of this tick (R370); what the mirror has
been sent, the background bytes saved up for the next item, and whether an epoch's EST contexts are still to go (R367); whether the silence of
the XL path, of the HB path, and of both has been declared, and the missing grant (R371). -/
structure RedSt where
  claim : Bool := false
  xlSil : Nat := 0
  hbSil : Nat := 0
  noGnt : Nat := 0
  lanes : Nat := 3
  ho : Nat := 0
  hoCause : Nat := 0
  peerEsn : Nat := 0
  peerCv : Option Nat := none
  peerDeg : Bool := false
  seq : Nat := 0
  sent : Tab Int := []
  lag : Nat := 0
  lagTk : Nat := 0
  acks : List (Nat × Nat) := []
  full : Bool := false
  mir : Option (Nat × Nat) := none
  aligned : Bool := false
  hbo : Bool := false
  hbSent : Bool := false
  told : Told := {}
  credit : Nat := 0
  estDue : Bool := false
  xlSaid : Bool := false
  hbSaid : Bool := false
  bothSaid : Bool := false
  gntSaid : Bool := false
  deriving DecidableEq, Repr

/-! ## NET, PTP -/

/-- A master known by its Announce messages (R461): data set, and how many have come. -/
structure Foreign where
  ann : Announce
  cnt : Nat
  deriving DecidableEq, Repr

/-- NET and PTP beyond their registers: learned addresses with their port (R452); TB_PLANT; the integral term in 2^-16 of 0.1
ppb (R462), consecutive updates inside the lock window and outside the unlock window (R463), the last 16 values of ADJ with LOCK
(R464); known masters and the one tracked (port, sender); the last Sync's t2 - t1 - corr and Delay_Req's departure (R457); held
two-step sums (R459); responses and request departures of the link delay, by port (R460). -/
structure PtpSt where
  sec : Nat := 0
  ns : Nat := 0
  macs : List (Nat × Nat) := []
  integ : Int := 0
  lockCnt : Nat := 0
  unCnt : Nat := 0
  adjs : List Int := []
  foreign : List Foreign := []
  master : Option (Nat × Nat) := none
  syncD : Int := 0
  reqT3 : Option Int := none
  sums : List (Nat × Nat × Int) := []
  resp : Tab (List Int) := []
  reqT1 : Tab (Option Int) := []
  deriving DecidableEq, Repr

/-! ## CAN, SMB -/

/-- CAN beyond its registers: the bit timing loaded (R472); shadowed frames (R475); the message of the running attempt (an object,
32 the reference message) with an abort against it, and the one last attempted; the reference message that is pending and
the one of the running attempt (sequence, bytes); the sequence, time and LOCK of the last acknowledged one (R480); a bus-off
recovery running; whether BAL has taken objects 30 and 31. -/
structure CanSt where
  nbt : Nat := 0
  dbt : Nat := 0
  shadow : Tab (Option CanFrame) := []
  cur : Option Nat := none
  abort : Bool := false
  lastTry : Option Nat := none
  ref : Option (Nat × List Nat) := none
  refCur : Option (Nat × List Nat) := none
  refAck : Option (Nat × Nat × Nat × Bool) := none
  recover : Bool := false
  bal : Bool := false
  deriving DecidableEq, Repr

/-- SMB beyond its registers: SMB0's transfer running, waiting for the bus, a further GO held; arbitration losses of this
transfer; the bus clear: 0 none, 1 a round, 2 a hold, 3 waiting for a retry; rounds done; SDA sampled since reset (R485). -/
structure SmbSt where
  run : Bool := false
  want : Bool := false
  again : Bool := false
  arb : Nat := 0
  phase : Nat := 0
  rounds : Nat := 0
  sampled : Bool := false
  deriving DecidableEq, Repr

/-! ## UPD, SVC, THM -/

/-- A flash bank (R537 to R540): whether its image verifies, its versions, its hash and that of its safety firmware. -/
structure Image where
  valid : Bool := true
  ver : Nat := 0
  sver : Nat := 0
  hash : Nat := 0
  sfw : Nat := 0
  deriving DecidableEq, Repr

/-- A checkpoint slot (R535). -/
structure Ckpt where
  valid : Bool := false
  seq : Nat := 0
  chunks : Nat := 0
  deriving DecidableEq, Repr

/-- The update journal and package store (R533 to R541): STATE; the package's bytes, how many have arrived and whether its
header has passed; versions, target hash and chunks; the checkpoints; the boot record (ACT, PEND, TRIES), a trial
that CANCEL has ended. -/
structure UpdSt where
  state : Nat := 0
  pkg : Tab Nat := []
  got : Nat := 0
  headOk : Bool := false
  ver : Nat := 0
  sver : Nat := 0
  hash : Nat := 0
  total : Nat := 0
  done : Nat := 0
  ck0 : Ckpt := {}
  ck1 : Ckpt := {}
  act : Bool := false
  pend : Option Bool := none
  tries : Nat := 0
  ended : Bool := false
  full : Option Bool := none
  deriving DecidableEq, Repr

/-- UPD, SVC and boot beyond their registers: an apply that waits for its re-verification (R536) or stops after this chunk;
the bank that runs; the nonce of the last HELLO; ms of the lockout left; TB_OPS at READY; ms since the release; stage 0
has selected a bank; an exchange has reached SAFM since the release. -/
structure SvcSt where
  resume : Bool := false
  stop : Bool := false
  run : Bool := false
  nonce : Option Int := none
  lockMs : Nat := 0
  readyOps : Nat := 0
  bootMs : Nat := 0
  sel : Bool := false
  exch : Bool := false
  deriving DecidableEq, Repr

/-- THM beyond its registers: the level by the thresholds, ms below the leaving threshold, readings in a row at or above 125 °C,
and ms toward the next second at levels 1 and 2 (R571, R573). -/
structure ThmSt where
  lvl : Nat := 0
  cool : Nat := 0
  hot : Nat := 0
  ms1 : Nat := 0
  ms2 : Nat := 0
  deriving DecidableEq, Repr

/-! ## Power, boot, recorder memory, always-on section -/

/-- The 24 V input (R511, R557): absent, valid and waiting out the 10 ms, running, or lost with hold-up running. -/
inductive Vin where
  | off | rising | on | holdUp
  deriving DecidableEq, Repr

/-- What no device reset touches outside the safety channels: the input, the domains held in power-on reset, the
carrier banks, the PLLs, PCYC_N and the reset history of this power-on (R511 to R521), the cores that have kicked the
watchdog in the running round, the safety firmware the channels run (R542), and PERST_N held low by an absent bank (R561). -/
structure PwrSt where
  vin : Vin := .on
  held : Bool := false
  back : Bool := false
  bankA : Bool := true
  bankB : Bool := true
  pll : Bool := false
  pcycLow : Bool := false
  pcycReq : Bool := false
  pcycFail : Bool := false
  restart : Nat := 1
  wdCnt : Nat := 0
  devCnt : Nat := 0
  wdOps : List Nat := []
  kicked : List Nat := []
  warned : Bool := false
  sfw : Nat := 0
  perst : Bool := false
  deriving DecidableEq, Repr

/-- The always-on section of SFA (R63): TB_OPS and PWRCYC, the copies in its own cells, and a store at input loss under way. -/
structure AonSt where
  ops : Nat := 0
  pwrcyc : Nat := 1
  storing : Bool := false
  storedOps : Nat := 0
  storedPwrcyc : Nat := 0
  deriving DecidableEq, Repr

/-- The Lanpol line interface (R98 to R101): TONE received and accepted at each port, whether it has been present at both since power-on,
whether the module's line interface sends TONE, and the setting of a pair, which it keeps through a device reset. -/
structure LineSt where
  toneA : Bool := false
  toneB : Bool := false
  seen : Bool := false
  sending : Bool := false
  pair : Bool := false
  deriving DecidableEq, Repr

/-! ## The machine -/

/-- Everything a device reset returns to its reset values (R519), and the trace of what the block has sent. -/
structure Core where
  csr : Csr := []
  wait : List PWrite := []
  stg : Tab Nat := []
  free : Nat := 0
  out : List Out := []
  tick : TickSt := {}
  irq : IrqSt := {}
  ev : EvSt := {}
  chn : ChnSt := {}
  meas : MeasSt := {}
  bal : BalSt := {}
  imp : ImpSt := {}
  est : EstSt := {}
  shf : ShfSt := {}
  sdm : SdmSt := {}
  cnv : CnvSt := {}
  cte : CteSt := {}
  prot : ProtSt := {}
  ptp : PtpSt := {}
  hif : HifSt := {}
  red : RedSt := {}
  can : CanSt := {}
  smb : SmbSt := {}
  svc : SvcSt := {}
  thm : ThmSt := {}
  deriving DecidableEq, Repr

/-- What survives every reset in non-volatile memory: the MRAM regions (R20) and the flash banks. -/
structure NvSt where
  region : Csr := []
  recs : Tab Rec := []
  est0 : EstCopy := {}
  est1 : EstCopy := {}
  jrec : List JRec := []
  jring : Tab JRing := []
  upd : UpdSt := {}
  imgA : Image := {}
  imgB : Image := {}
  blc : List Nat := []
  blcOk : Bool := true
  params : Tab Int := []
  deriving DecidableEq, Repr

/-- The whole machine, and the commands that wait, first in first out. -/
structure State where
  aon : AonSt := {}
  pwr : PwrSt := {}
  line : LineSt := {}
  saf : SafSt := {}
  nv : NvSt := {}
  core : Core := {}
  pending : List Instr := []
  deriving DecidableEq, Repr

/-- The machine right after the power-on reset has released (R511): stage 0 about to run, every register at its reset
value but `GLB_RSTCAUSE.LAST` and `TICK_PWRCYC`, which show this power-on (R63, R527); nothing recorded, no command waiting. What the spec gives no reset value for stands in notes/assumptions. -/
def State.reset : State := { core := { csr := [(0x44 * 32, 1), (0x8028 * 32, 1)] } }

/-- The reasons for which a step stops with a fault. No command of this block does: kept closed and unused, so safe. -/
inductive Fault where
  /-- Raised by no command. -/
  | none
  deriving DecidableEq, Repr

/-- The reasons for which a command is refused. -/
inductive Refusal where
  /-- Raised by an arm of `exec` whose command has no meaning yet; safe. -/
  | notModelled (mnemonic : String)
  deriving DecidableEq, Repr

end Sys2Proof.Machine
end

