-- ==== Sys2Proof/Machine/Ops.lean ====
section
/-! DEFINITION. The named operations every meaning is built from: reading and writing a register field, counters, wide
values, outputs, raising an event, commits of held writes, and the lifts of an effect on one part to the machine. -/

namespace Sys2Proof.Machine

/-! ### Register fields -/

/-- The value a field holds. -/
def Core.rd (c : Core) (f : Fld) : Nat := c.csr.get f

/-- The value of a field read as two's complement. -/
def Core.rdS (c : Core) (f : Fld) : Int := toSigned f.width (c.rd f)

/-- A one-bit field as a truth value. -/
def Core.on (c : Core) (f : Fld) : Bool := c.rd f != 0

/-- A field takes a value. -/
def Core.wr (c : Core) (f : Fld) (v : Nat) : Core := { c with csr := c.csr.put f v }

/-- A field takes a signed value. -/
def Core.wrS (c : Core) (f : Fld) (v : Int) : Core := c.wr f (ofSigned f.width v)

/-- A bit takes a truth value. -/
def Core.wrB (c : Core) (f : Fld) (b : Bool) : Core := c.wr f (b2n b)

/-- A counter that saturates at its largest value grows by `n`. -/
def Core.cntSat (c : Core) (f : Fld) (n : Nat := 1) : Core := c.wr f (min (2 ^ f.width - 1) (c.rd f + n))

/-- A counter that wraps grows by `n`. -/
def Core.cntWrap (c : Core) (f : Fld) (n : Nat := 1) : Core := c.wr f (c.rd f + n)

/-- A wide value in a low and a high word (R44). -/
def Core.rd2 (c : Core) (lo hi : Fld) : Nat := c.rd lo + 2 ^ lo.width * c.rd hi

/-- A wide value is written whole. -/
def Core.wr2 (c : Core) (lo hi : Fld) (v : Nat) : Core := (c.wr lo v).wr hi (v / 2 ^ lo.width)

/-- The tick length that governs. -/
def Core.period (c : Core) : Nat := c.rd F.TICK_ACT.PERIOD

/-- The frame length that governs. -/
def Core.nf (c : Core) : Nat := c.rd F.TICK_ACT.NF

/-- The profile that governs. -/
def Core.prof (c : Core) : Nat := c.rd F.TICK_PROFILE.ACT

/-! ### Outputs and events -/

/-- The number by which the trace names PCYC_N. -/
def pcycPin : Nat := 1

/-- The number by which the trace names HBO. -/
def hboPin : Nat := 41

/-- R365, R561: the module of a pair without OWNGNT has its chain transmitters at high impedance; without VIO_A, HBO and PCYC_N are not driven. -/
def Core.muted (c : Core) : Out → Bool
  | .chain .. => c.on F.RED_CFG.PAIR && !c.on F.RED_STAT.GNT
  | .pin p _ => (p == pcycPin || p == hboPin) && !c.prot.vioA
  | _ => false

/-- R381: the module is a standby or resynchronises. -/
def Core.standby (c : Core) : Bool := c.rd F.RED_STAT.ROLE == 2 || c.rd F.RED_STAT.ROLE == 3

/-- The block sends something; the trace holds the newest first. -/
def Core.send (c : Core) (o : Out) : Core := if c.muted o then c else { c with out := o :: c.out }

/-- Use up one free value. -/
def Core.tickFree (c : Core) : Core := { c with free := c.free + 1 }

/-- The TB_TICK count (R52). -/
def Core.tbTick (c : Core) : Nat := c.rd2 F.TICK_COUNT_LO.COUNT F.TICK_COUNT_HI.COUNT

/-- R500: the event code of IRQ source `n`. -/
def srcCode (n : Nat) : Nat := 256 * (n / 8) + n % 8

/-- R70: the resolution of a stamp in the domain that raises an event code, in 125 ps units, as a fraction: CTL 2 ns and the trips of
PROT 125 ps, the PCI controller's errors 4 ns, LNK 7.8125 ns, NET 8 ns, FLD 1/96 MHz, SYS 2.5 ns. DESIGN CHOICE (notes/assumptions/62):
what both safety channels do is stamped by SFA, in 10 ns, unless only SFB runs (`onlyB`), in 12.5 ns. -/
def stampGrain (onlyB : Bool) (code : Nat) : Nat × Nat :=
  let b := code / 256
  if code = 2048 then (1, 1) else if b = 0 ∨ b = 7 ∨ b = 8 then (16, 1) else if code = 263 then (32, 1)
  else if b = 9 ∧ code % 8 ≠ 5 then (if onlyB then 100 else 80, 1)
  else if b = 3 then (125, 2) else if b = 12 then (64, 1)
  else if b = 13 ∨ (b = 14 ∧ 4 ≤ code % 8) then (250, 3) else (20, 1)

/-- R62, R70, R74: the phase of an instant not before the latest one of the tick; 0 before CTL runs (R14). A boundary and a commit point
have their own (R53); else where in the rest of the tick it lies is free (notes/assumptions/2). -/
def Core.instant (c : Core) : Nat :=
  if c.tick.running && !c.tick.exact then c.tick.phase + Config.freePhase c.free % (16 * c.period - c.tick.phase) else c.tick.phase

/-- R17, R53: an instant in the running tick lies behind the write cut-off, 4 clocks before the end of the tick. -/
def Core.pastCutOff (c : Core) : Bool := c.tick.running && decide (16 * (c.period - 4) < c.instant)

/-- The instant is now the latest of the tick. -/
def Core.moment (c : Core) : Core := { c.tickFree with tick := { c.tick with phase := c.instant } }

/-- R53, R70: what happens at a phase of its own in the tick, unless an instant behind it has been told already. -/
def atPhase (ph : Nat) (f : Core → Core) (c : Core) : Core :=
  let d := f { c with tick := { c.tick with phase := max c.tick.phase ph, exact := true } }
  { d with tick := { d.tick with exact := false } }

/-- R70: the stamp of an event raised now, in the resolution of its source's domain. -/
def Core.stamp (c : Core) (code : Nat) : Stamp :=
  let g := stampGrain (c.rd F.SAFM_STAT.STA == 3) code
  ⟨c.tbTick, c.instant * g.2 / g.1 * g.1 / g.2⟩

/-- An event with a given code is raised: stamped with TB_TICK (R70) and queued for the sequencer. -/
def Core.raiseCode (c : Core) (code src prim : Nat) (stat : List Nat) : Core :=
  { c with
    free := c.free + 1
    tick := { c.tick with phase := c.instant }
    ev := { c.ev with raw := c.ev.raw ++ [⟨code, src, prim, stat, c.stamp code⟩] } }

/-- A source pulses toward IRQ (R434); the assertion crosses into SYS. -/
def Core.pulse (c : Core) (n : Nat) : Core := { c with irq := { c.irq with cross := c.irq.cross ++ [n] } }

/-- R501: the fields of the status register that an event of IRQ source `n` carries, by the block that owns the source;
none for TICK, which has no status register. -/
def statusFlds (n : Nat) : List Fld :=
  if n < 8 then []
  else if n < 16 then [F.HIF_STAT.ACCEPT, F.HIF_STAT.JFULL, F.HIF_STAT.RECOVER, F.HIF_STAT.CQFULL]
  else if n < 24 then [F.ATU_STAT.NSTALL, F.ATU_STAT.R3STALL, F.ATU_STAT.NHELD]
  else if n < 32 then
    [F.CHN_STAT.NNODE, F.CHN_STAT.ENUMDONE, F.CHN_STAT.CLOSED, F.CHN_STAT.RINGREV,
      F.CHN_STAT.ENUMERR, F.CHN_STAT.POLA, F.CHN_STAT.POLB, F.CHN_STAT.DLYCHG, F.CHN_STAT.SWAPSEEN, F.CHN_STAT.ENUMCNT]
  else if n < 40 then
    [F.MEAS_STAT.NVALID, F.MEAS_STAT.NHELD, F.MEAS_STAT.OWSEEN, F.MEAS_STAT.REVSEEN,
      F.MEAS_STAT.OVRSEEN, F.MEAS_STAT.LOSTSEEN, F.MEAS_STAT.TBRKSEEN, F.MEAS_STAT.BLOFFERR, F.MEAS_STAT.NPOSERR]
  else if n < 43 then
    [F.BAL_STAT.NBLEED, F.BAL_STAT.INTERLEAVED, F.BAL_STAT.NODECAP, F.BAL_STAT.TRUNC,
      F.BAL_STAT.NODEHOT, F.BAL_STAT.SCHEDMISS, F.BAL_STAT.COOLLOST, F.BAL_STAT.DRERR]
  else if n < 48 then
    [F.IMP_STAT.STATE, F.IMP_STAT.DEFER, F.IMP_STAT.ABCAUSE, F.IMP_STAT.XFAILSEEN,
      F.IMP_STAT.GOPEND, F.IMP_STAT.ROEST]
  else if n < 56 then
    [F.EST_STAT.FIRSTPEND, F.EST_STAT.NOREST, F.EST_STAT.EOD, F.EST_STAT.EOC,
      F.EST_STAT.FLOORHOLD, F.EST_STAT.CEILHOLD, F.EST_STAT.EODSLEW, F.EST_STAT.SUSPECT, F.EST_STAT.UNLEARNED,
      F.EST_STAT.LOSTCAP, F.EST_STAT.CURINV, F.EST_STAT.SWAPSEEN, F.EST_STAT.OCVERR, F.EST_STAT.LEARNED,
      F.EST_STAT.SAVEERR]
  else if n < 59 then
    [F.CNV_STAT.STATE, F.CNV_STAT.FCAUSE, F.CNV_STAT.BLOCK, F.CNV_STAT.NACT,
      F.CNV_STAT.REFSRC, F.CNV_STAT.CLAMPC, F.CNV_STAT.CLAMPD, F.CNV_STAT.RETRY, F.CNV_STAT.DEG, F.CNV_STAT.STOPTO]
  else if n < 62 then
    [F.CTE_STAT.ACT, F.CTE_STAT.STG, F.CTE_STAT.LERR, F.CTE_STAT.ACCSAT, F.CTE_STAT.PMWERR,
      F.CTE_STAT.LADDR]
  else if n < 64 then
    [F.CNV_STAT.STATE, F.CNV_STAT.FCAUSE, F.CNV_STAT.BLOCK, F.CNV_STAT.NACT,
      F.CNV_STAT.REFSRC, F.CNV_STAT.CLAMPC, F.CNV_STAT.CLAMPD, F.CNV_STAT.RETRY, F.CNV_STAT.DEG, F.CNV_STAT.STOPTO]
  else if n < 72 then
    [F.PROT_STAT.TRIP, F.PROT_STAT.PEND, F.PROT_STAT.CLRREF, F.PROT_STAT.CBCACT,
      F.PROT_STAT.ALOV, F.PROT_STAT.ALUV, F.PROT_STAT.ALOT, F.PROT_STAT.ALISO, F.PROT_STAT.REFSTALE]
  else if n < 80 then
    [F.SAFM_STAT.STA, F.SAFM_STAT.STB, F.SAFM_STAT.DEG, F.SAFM_STAT.DEGCH, F.SAFM_STAT.SAFE,
      F.SAFM_STAT.RSTREQ, F.SAFM_STAT.CFGPATH, F.SAFM_STAT.STGOK, F.SAFM_STAT.GSAFE, F.SAFM_STAT.TONE1, F.SAFM_STAT.DEGT]
  else if n < 88 then
    [F.SHF_STAT.NLIVE, F.SHF_STAT.SOCVALID, F.SHF_STAT.DGOV, F.SHF_STAT.DSAT, F.SHF_STAT.DTMO,
      F.SHF_STAT.LARGE, F.SHF_STAT.LOSTSEEN, F.SHF_STAT.V1PEER, F.SHF_STAT.DUPPID, F.SHF_STAT.SLOT, F.SHF_STAT.SKIND,
      F.SHF_STAT.COLL]
  else if n < 96 then
    [F.RED_STAT.ROLE, F.RED_STAT.GNT, F.RED_STAT.SBYVALID, F.RED_STAT.XLF, F.RED_STAT.HBF,
      F.RED_STAT.LANEF, F.RED_STAT.CVMIS, F.RED_STAT.VERERR, F.RED_STAT.GNTFAIL, F.RED_STAT.SOLOACT, F.RED_STAT.PEERDEG,
      F.RED_STAT.CTELAG, F.RED_STAT.HOERR]
  else if n < 104 then
    [F.PTP_STAT.PSTATE, F.PTP_STAT.LOCK, F.PTP_STAT.HOLD, F.PTP_STAT.MCHG,
      F.PTP_STAT.STEPPED, F.PTP_STAT.TSETERR, F.PTP_STAT.MPORT]
  else if n < 107 then
    [F.CAN_STAT.EST, F.CAN_STAT.ALONE, F.CAN_STAT.BOFFSEEN, F.CAN_STAT.ALONESEEN,
      F.CAN_STAT.LEC, F.CAN_STAT.TDCV]
  else if n < 109 then
    [F.SMB_C_STAT.DONE, F.SMB_C_STAT.RESULT, F.SMB_C_STAT.BUSERR, F.SMB_C_STAT.SDASTUCK,
      F.SMB_C_STAT.CLEARING, F.SMB_C_STAT.ALERTSEEN, F.SMB_C_STAT.ALERTNAK]
  else if n < 111 then
    [F.SMB_T_STAT.PROTOERR, F.SMB_T_STAT.PECERR, F.SMB_T_STAT.TIMEOUT, F.SMB_T_STAT.ARADONE,
      F.SMB_T_STAT.BUSYNAK]
  else if n < 112 then
    [F.SMB_C_STAT.DONE, F.SMB_C_STAT.RESULT, F.SMB_C_STAT.BUSERR, F.SMB_C_STAT.SDASTUCK,
      F.SMB_C_STAT.CLEARING, F.SMB_C_STAT.ALERTSEEN, F.SMB_C_STAT.ALERTNAK]
  else if n < 114 then [F.EVR_STAT.WPTR, F.EVR_STAT.WRAP]
  else if n < 116 then
    [F.UPD_STAT.STATE, F.UPD_STAT.ERR, F.UPD_STAT.TRIAL, F.UPD_STAT.TRIES,
      F.UPD_STAT.SFWPEND, F.UPD_STAT.RESUMED]
  else if n < 120 then
    [F.SVC_STAT.ATTACH, F.SVC_STAT.SESSION, F.SVC_STAT.KEY, F.SVC_STAT.LOCKOUT,
      F.SVC_STAT.FAILS, F.SVC_STAT.LOCKT]
  else if n < 122 then [F.THM_LVL.LVL, F.THM_LVL.MINLVL, F.THM_LVL.HOTSEEN]
  else []

/-- R553: what `GLB_STAT` mirrors. -/
def Core.glbStat (c : Core) : Nat :=
  c.rd F.GLB_BOOT.READY + 2 * c.rd F.PROT_STAT.TRIP + 4 * b2n (c.rd F.CNV_STAT.STATE == 7) + 8 * c.rd F.SAFM_STAT.SAFE
    + 16 * c.rd F.SAFM_STAT.DEG + 32 * c.rd F.HIF_STAT.RECOVER + 64 * c.rd F.RED_STAT.ROLE + 256 * b2n (c.rd F.THM_LVL.LVL != 0)
    + 512 * c.rd F.EST_STAT.NOREST + 1024 * c.rd F.HIF_STAT.ACCEPT

/-- The word that a list of fields of one register makes. -/
def Core.wordOf (c : Core) (fs : List Fld) : Nat := sumN (fs.map (fun f => c.rd f * 2 ^ f.lsb))

/-- IRQ source `n` asserts and its event is raised, with SOURCE, primary value and the owner's status (R434, R500, R501). -/
def Core.raise (c : Core) (n src prim : Nat) : Core :=
  (c.raiseCode (srcCode n) src prim [if n < 122 then c.wordOf (statusFlds n) else c.glbStat]).pulse n

/-- An effect that happens only under a condition. -/
def Core.when (c : Core) (b : Bool) (f : Core → Core) : Core := if b then f c else c

/-! ### Held writes -/

/-- What a field becomes by a write of `bits` through a view (R33, R41, R42). -/
def Fld.after (f : Fld) (how : WMode) (old bits : Nat) : Nat :=
  match how, f.acc with
  | .normal, .rw => bits
  | .normal, .rwp => bits
  | .normal, .w1c => clearBits old bits
  | .normal, .w1s => Nat.lor old bits
  | .normal, .ro => old
  | .normal, .wo => old
  | .set, .rw => Nat.lor old bits
  | .set, .rwp => Nat.lor old bits
  | .clear, .rw => clearBits old bits
  | .clear, .rwp => clearBits old bits
  | .toggle, .rw => Nat.xor old bits
  | .toggle, .rwp => Nat.xor old bits
  | _, .ro => old
  | _, .wo => old
  | _, .w1c => old
  | _, .w1s => old

/-- One write takes effect on its field. -/
def Core.apply (c : Core) (w : PWrite) : Core := c.wr w.fld (w.fld.after w.how (c.rd w.fld) (w.bits % 2 ^ w.fld.width))

/-- The held writes that a test selects commit, in the order they were made; the others stay held. -/
def Core.commit (c : Core) (p : PWrite → Bool) : Core :=
  (c.wait.filter p).foldl Core.apply { c with wait := c.wait.filter (fun w => !p w) }

/-- Some write of a class is held. -/
def Core.held (c : Core) (k : Cls) : Bool := c.wait.any (fun w => w.fld.cls == k)

/-- R281: a held write of a memory port of the control engine moves its address register `f` on. -/
def PWrite.moves (w : PWrite) (f : Fld) : Bool :=
  (f.key == F.CTE_PMADDR.ADDR.key && w.fld.key == F.CTE_PMDATA.DATA.key) || (f.key == F.CTE_DMADDR.ADDR.key && w.fld.key == F.CTE_DMDATA.DATA.key)

/-- The value a read of a field returns to a master: what the writes made so far leave in it (R47, R51); a posted low word
shows nothing before its high word (R44), and a status bit stands until its cycle (R49). -/
def Core.view (c : Core) (f : Fld) : Nat :=
  if (f.pair == 1 && f.cls == .posted) || f.acc == .w1c then c.rd f else
  (c.wait.filter (fun w => w.fld.key == f.key || w.moves f)).foldl
    (fun v w => if w.moves f then (v + 1) % 2 ^ f.width else w.fld.after w.how v (w.bits % 2 ^ f.width)) (c.rd f)

/-! ### Lifts -/

/-- An effect on the resettable part; nothing happens while the domains are held in power-on reset (R511). -/
def onCore (f : Core → Core) (s : State) : State := if s.pwr.held then s else { s with core := f s.core }

/-- An effect on the resettable part that knows the always-on section and the power state. -/
def onCoreA (f : AonSt → PwrSt → Core → Core) (s : State) : State :=
  if s.pwr.held then s else { s with core := f s.aon s.pwr s.core }

/-- An effect on the non-volatile memories and the resettable part. -/
def onNv (f : AonSt → NvSt → Core → NvSt × Core) (s : State) : State :=
  if s.pwr.held then s else
    let r := f s.aon s.nv s.core
    { s with nv := r.1, core := r.2 }

/-- An effect on the line interface and the resettable part; the interface goes on while a hot reset holds the domains (R101). -/
def onLine (f : LineSt → Core → LineSt × Core) (s : State) : State :=
  if s.pwr.held && !s.pwr.perst then s else
    let r := f s.line s.core
    { s with line := r.1, core := r.2 }

/-- The outcome of a command that runs. -/
abbrev Answer := Host.Outcome State Fault Refusal

end Sys2Proof.Machine
end

