-- ==== Sys2Proof/Machine/Chain.lean ====
section
/-! DEFINITION. CHN, the Lanpol link ring (R75 to R112, R580): layout arithmetic, the node table, enumeration, delays,
readout, tone, breaks. -/

namespace Sys2Proof.Machine

/-! ### Layout (R23, R24, R95, R96) -/

/-- R26: the chain share of a profile in percent. -/
def profShare (p : Nat) : Nat := match p with | 1 => 60 | 3 => 5 | _ => 20

/-- R26: the tick length of a profile in CTL clocks. -/
def profTick (p : Nat) : Nat := match p with | 2 => 5000 | _ => 10000

/-- R26: the frame length of a profile in ticks. -/
def profFrame (p : Nat) : Nat := match p with | 0 => 500 | 1 => 100 | 2 => 1000 | _ => 2500

/-- R26: the impedance interval of a profile in CTL clocks; 0 off. -/
def profImp (p : Nat) : Nat := match p with | 0 => 300 * 500000000 | 1 => 60 * 500000000 | _ => 0

/-- R26: uncertainty growth without rest, in 0.001 % per hour. -/
def profGrow (p : Nat) : Nat := match p with | 0 => 40 | 1 => 25 | _ => 150

/-- R23: the tick of the last sample instant. -/
def lastTick (n s : Nat) : Nat := 40 + (n - 1) * s

/-- R95: the readout estimate in ticks, for `total` nodes, `m` sets a node, tick length `p` in clocks of 2 ns. -/
def readoutEst (total m p : Nat) : Nat := ceilDiv (160000 + ceilDiv total 2 * m * 6475) p

/-- R24: the layout fits. -/
def layoutFits (total mode n s p nf : Nat) : Bool :=
  decide (lastTick n s + 21 + readoutEst total (if mode = 1 then n else 1) p + 10 ≤ nf)

/-- R96: the readout deadline in ticks from the frame boundary. -/
def deadlineTick (prof n s nf : Nat) : Nat :=
  min (lastTick n s + 1 + ceilDiv (profShare prof * nf) 100) (nf - 10)

/-- A tick and a frame length govern, and both REQ fields read them (R59, R61). -/
def takeLayout (p nf : Nat) (c : Core) : Core :=
  (((c.wr F.TICK_ACT.PERIOD p).wr F.TICK_ACT.NF nf).wr F.TICK_PERIOD.REQ p).wr F.TICK_FRAME.REQ nf

/-- R117: the sample sets of a readout. -/
def Core.setsM (c : Core) : Nat := if c.meas.mode = 1 then c.meas.n else 1

/-- R110: the registers that show the estimate and the deadline follow the active layout. -/
def Core.showLayout (c : Core) : Core :=
  (c.wr F.CHN_ROEST.TICKS (readoutEst c.chn.total c.setsM c.period)).wr F.CHN_ROEST.DEADLINE
    (deadlineTick c.prof c.meas.n c.meas.s c.nf)

/-! ### Packets (R80, R81, R85) -/

/-- R80: one bit through the CRC-16 with polynomial 0x1021. -/
def crcBit (crc : Nat) (b : Bool) : Nat := if bitAt crc 15 != b then Nat.xor (crc * 2 % 65536) 0x1021 else crc * 2 % 65536

/-- R80: the CRC-16 over bytes, each highest bit first. -/
def crc16 (bs : List Nat) : Nat := bs.foldl (fun c x => (List.range 8).foldl (fun c k => crcBit c (bitAt x (7 - k))) c) 65535

/-- R80, R98: in a payload longer than 64 bytes a status group TONE (256) follows every 64 bytes. -/
def withGroups (bs : List Nat) : List Nat :=
  if bs.length ≤ 64 then bs else bs.zipIdx.flatMap (fun x => if x.2 % 64 = 63 then [x.1, 256] else [x.1])

/-- R80: the header: TYPE, ADDR, T (the module sends TONE, R98), V, LEN and SEQ. -/
def packetHeader (typ addr : Nat) (v2 : Bool) (len seq : Nat) : Nat :=
  typ % 16 * 2 ^ 20 + addr % 64 * 2 ^ 14 + 2 ^ 13 + b2n v2 * 2 ^ 12 + len % 512 * 8 + seq % 8

/-- R85: version 2 is used with the node at an address; a broadcast uses version 1, which every node knows (DESIGN CHOICE,
notes/assumptions/44). -/
def Core.speaksV2 (c : Core) (addr : Nat) : Bool := decide (addr < 40) && c.rd (F.CHN_NINFO.VER addr) == 2

/-- R81, R85: the longest payload to or from a node. -/
def Core.maxPayload (c : Core) (addr : Nat) : Nat := if c.speaksV2 addr then 256 else 128

/-- R80: a packet goes out through the ports of a mask, with sequence number `seq`. -/
def Core.packetSeq (c : Core) (seq ports typ addr : Nat) (payload : List Nat) : Core :=
  let h := packetHeader typ addr (c.speaksV2 addr) payload.length seq
  c.send (.chain ports h (withGroups payload) (crc16 ([h / 65536, h / 256 % 256, h % 256] ++ payload)))

/-- R80: a new packet takes the next sequence number. -/
def Core.packet (c : Core) (ports typ addr : Nat) (payload : List Nat) : Core :=
  if c.muted (.chain ports 0 [] 0) then c
  else ({ c with chn := { c.chn with seq := (c.chn.seq + 1) % 8 } }).packetSeq c.chn.seq ports typ addr payload

/-- R80: a packet that asks again has the sequence number of the one before. -/
def Core.packetAgain (c : Core) (ports typ addr : Nat) (payload : List Nat) : Core := c.packetSeq (c.chn.seq + 7) ports typ addr payload

/-- R88: 64 ECHO packets to a node on each port. -/
def Core.echo (c : Core) (j : Nat) : Core := forUp 64 (fun _ c => c.packet 3 3 j []) c

/-- R88: the one-way delay from the sum of 64 round trips and the echo turnaround, in 0.25 ns units. DESIGN CHOICE
(notes/assumptions/63): a path over which no ECHO returns has the sum 0 and so the delay 0, which counts as a change like another. -/
def pathDelay (trips turn : Nat) : Nat := roundDivN (trips - 64 * turn) 128

/-! ### Nodes -/

/-- The node as it stands. -/
def Core.node (c : Core) (j : Nat) : NodeRt := Tab.get {} c.chn.rt j

/-- Change one node. -/
def Core.setNode (c : Core) (j : Nat) (f : NodeRt → NodeRt) : Core :=
  { c with chn := { c.chn with rt := Tab.put {} c.chn.rt j (f (Tab.get {} c.chn.rt j)) } }

/-- R106: the commissioned node count that governs. -/
def Core.expected (c : Core) : Nat := c.chn.exp

/-- R145: the configured positions of node `j`. -/
def Core.npos (c : Core) (j : Nat) : Nat :=
  let n := c.rd (F.MEAS_NCFG.NPOS j)
  if n = 0 then 16 else if 16 < n then 16 else n

/-- The key of channel `ch` of node `j`. -/
def slotKey (j ch : Nat) : Nat := 16 * j + ch

/-- R124, R125: the configured positions of the enumerated nodes in ring order, at most 576. -/
def Core.slots (c : Core) : List Nat :=
  ((upTo c.chn.total).flatMap (fun j => (upTo (c.npos j)).map (slotKey j))).take 576

/-- R125: the sum of the NPOS values of the enumerated nodes. -/
def Core.nposSum (c : Core) : Nat := sumN ((upTo c.chn.total).map c.npos)

/-- R145: NTC channel `t` of node `j` is fitted. -/
def Core.fitted (c : Core) (j t : Nat) : Bool := bitAt (c.rd (F.MEAS_NCFG.NTCEN j)) t

/-- R86: the physical port that has a role in the rules of the ring, 0 port A, 1 port B; the roles are exchanged while
RINGREV is set. The same function gives the role of a physical port. -/
def Core.portRole (c : Core) (p : Nat) : Nat := if c.on F.CHN_STAT.RINGREV then 1 - p else p

/-- R93, R102: the physical port node `j` is read through: 0 port A, 1 port B. -/
def Core.homePort (c : Core) (j : Nat) : Nat := c.portRole (if j < c.chn.split then 0 else 1)

/-- R93: the physical port that reads node `j` in the default split. -/
def Core.defaultPort (c : Core) (j : Nat) : Nat := c.portRole (if j < ceilDiv c.chn.total 2 then 0 else 1)

/-- R85: the version used with a node of highest version `v`. -/
def Core.version (c : Core) (v : Nat) : Nat :=
  let m := c.rd F.CHN_CTRL.VERMAX
  min v (if m = 1 then 1 else 2)

/-- R111: the registers of node `j`. -/
def nodeFlds (j : Nat) : List Fld :=
  [F.CHN_NSER_LO.SER j, F.CHN_NSER_HI.SER j, F.CHN_NINFO.GEN j, F.CHN_NINFO.VER j, F.CHN_NINFO.SWAP j, F.CHN_NINFO.REACH j, F.CHN_NINFO.PATH j,
    F.CHN_NINFO.SYNCALT j, F.CHN_NINFO.POLA j, F.CHN_NINFO.POLB j, F.CHN_NINFO.FAULT j, F.CHN_NINFO.MISS j, F.CHN_NDLY.DA j, F.CHN_NDLY.DB j]

/-- R111: they read zero where there is no node. -/
def Core.clearNode (c : Core) (j : Nat) : Core := (nodeFlds j).foldl (fun c f => c.wr f 0) c

/-- R88: a measured delay differs from the previous one by more than 5 ns, 20 units of 0.25 ns; a node that has none yet moves none. -/
def Core.delayMoved (c : Core) (j da db : Nat) : Bool :=
  let oa := c.rd (F.CHN_NDLY.DA j)
  let ob := c.rd (F.CHN_NDLY.DB j)
  (oa != 0 || ob != 0) && (decide (20 < absI ((da : Int) - oa)) || decide (20 < absI ((db : Int) - ob)))

/-- R88: DLYCHG with its event. -/
def delayChanged (moved : Bool) (c : Core) : Core := if moved then (c.wr F.CHN_STAT.DLYCHG 1).raise 29 0 0 else c

/-- The enumerated serial of node `j`. -/
def Core.nser (c : Core) (j : Nat) : Nat := c.rd2 (F.CHN_NSER_LO.SER j) (F.CHN_NSER_HI.SER j)

/-- R157: the bleed duty state of the node at `j` is kept under its serial. -/
def Core.keepDuty (c : Core) (j : Nat) : Core :=
  { c with chn := { c.chn with duty := Tab.put 0 c.chn.duty (c.nser j) (c.node j).duty } }

/-- R157: the node with a serial stands at `j`, in the duty state it has had; that of the node before it is kept. -/
def Core.takeSerial (c : Core) (j serial : Nat) : Core :=
  let c1 := c.keepDuty j
  (c1.setNode j (fun n => { n with duty := Tab.get 0 c1.chn.duty serial })).wr2 (F.CHN_NSER_LO.SER j) (F.CHN_NSER_HI.SER j) serial

/-- R83 steps 4 and 5, R111: the registers of node `j` are filled from its DESC, and the version is negotiated. -/
def Core.fillDesc (c : Core) (j : Nat) (d : NodeDesc) : Core :=
  ((((((((c.takeSerial j d.serial).setNode j (fun n => { n with turn := d.turn })).wr (F.CHN_NINFO.GEN j) d.gen).wr
    (F.CHN_NINFO.VER j) (c.version d.vmax)).wrB (F.CHN_NINFO.POLA j) d.polA).wrB (F.CHN_NINFO.POLB j) d.polB).wr
    (F.CHN_NINFO.REACH j) 1).wr (F.CHN_NINFO.MISS j) 0).wr (F.CHN_NINFO.SWAP j) 0

/-- R83 steps 4 to 6, R88, R111: the registers of node `j` are filled from its DESC, then from the delays that the ECHO packets give. -/
def Core.fillNode (c : Core) (j : Nat) (d : NodeDesc) : Core :=
  (((c.fillDesc j d).echo j).wr (F.CHN_NDLY.DA j) (pathDelay d.ra d.turn)).wr (F.CHN_NDLY.DB j) (pathDelay d.rb d.turn)

/-- R144: V_OW in mV. -/
def Core.owThr (c : Core) : Nat := max 50 (min 1000 (c.rd F.MEAS_OW.THR))

/-- R83 step 7, R132, R580: the node is written its delays, tick length, NPOS, NTCEN, comparator thresholds and V_OW. -/
def Core.configNode (c : Core) (j w22 w23 : Nat) : Core :=
  (c.packet 3 6 j (leBytes 2 (c.rd (F.CHN_NDLY.DA j)) ++ leBytes 2 (c.rd (F.CHN_NDLY.DB j)) ++ leBytes 2 c.period ++ [c.npos j,
    c.rd (F.MEAS_NCFG.NTCEN j)] ++ leBytes 4 w22 ++ leBytes 4 w23 ++ leBytes 2 c.owThr)).setNode j
    (fun n => { n with thr22 := w22, thr23 := w23 })

/-- R83: NPOS and NTCEN of the nodes whose values changed at an earlier boundary go to them. -/
def cfgSend (c : Core) : Core :=
  let js := c.chn.cfgDue
  if c.on F.CHN_STAT.ENUMDONE then
    js.foldl (fun c j => if j < c.chn.total then c.packet 3 6 j [c.npos j, c.rd (F.MEAS_NCFG.NTCEN j)] else c)
      { c with chn := { c.chn with cfgDue := [] } }
  else c

/-- The commissioned serial of node `j` that governs (R112). -/
def Core.cser (c : Core) (j : Nat) : Nat := Tab.get 0 c.chn.list j

/-- R112: the commissioned serial of node `j` as written governs. -/
def Core.takeCser (c : Core) (j : Nat) : Core :=
  { c with chn := { c.chn with list := Tab.put 0 c.chn.list j (c.rd2 (F.CHN_CSER_LO.SER j) (F.CHN_CSER_HI.SER j)) } }

/-- R106, R112: with an enumeration the commissioned count and serials as written govern. -/
def takeExpected (c : Core) : Core :=
  forUp 40 (fun j c => c.takeCser j) { c with chn := { c.chn with exp := min 40 (c.rd F.CHN_CFG.NNODE_EXP) } }

/-- R86: SWAP of one node, with its event. -/
def Core.serialCheck (c : Core) (j : Nat) : Core :=
  if c.expected = 0 || c.nser j == c.cser j then c.wr (F.CHN_NINFO.SWAP j) 0
  else ((c.wr (F.CHN_NINFO.SWAP j) 1).wr F.CHN_STAT.SWAPSEEN 1).raise 31 j (c.nser j % 65536)

/-! ### Enumeration -/

/-- R82: an enumeration is requested; one that runs holds it pending. -/
def enumRequest (c : Core) : Core :=
  if c.chn.run.isSome then { c with chn := { c.chn with again := true } } else c.wr F.CHN_CTRL.ENUM 1

/-- R83 step 4: a node whose DESC has come in one of 3 attempts; what follows on three failures is not stated: the node counts and is
UNREACHABLE (DESIGN CHOICE, notes/assumptions/45). -/
def descRead (d : NodeDesc) : Option NodeDesc := if d.bad < 3 then some d else none

/-- R83, R84: what the ring gives: the nodes in ring order, absent where none answered. -/
def ringOf (e : EnumFound) (exp : Nat) : List (Option NodeDesc) :=
  if e.closed then e.fromA.map descRead
  else e.fromA.map descRead ++ List.replicate (exp - e.fromA.length - e.fromB.length) none ++ (e.fromB.reverse.map descRead)

/-- R84: the error code of an enumeration, 0 for success. -/
def enumErr (e : EnumFound) (exp : Nat) : Nat :=
  if e.closed then (if exp = 0 ∨ e.fromA.length = exp then 0 else 1)
  else if exp = 0 then 2 else if e.fromA.length + e.fromB.length ≤ exp then 0 else 1

/-- The number of nodes whose serial matches the commissioned list at the index a function gives them. -/
def serialHits (c : Core) (ring : List (Option NodeDesc)) (at' : Nat → Nat) : Nat :=
  countIf (fun j => match ring.getD j none with | some d => d.serial == c.cser (at' j) | none => false) (upTo ring.length)

/-- R86: more serials match in reverse order than in ring order. -/
def ringReversed (c : Core) (ring : List (Option NodeDesc)) : Bool :=
  c.expected != 0 && decide (serialHits c ring id < serialHits c ring (fun j => ring.length - 1 - j))

/-- The CRC counter of a port (R109). -/
def crcCnt (port : Nat) : Fld := if port = 0 then F.CHN_ERR_A.CRC else F.CHN_ERR_B.CRC

/-- The READ retry counter of a port (R109). -/
def retryCnt (port : Nat) : Fld := if port = 0 then F.CHN_ERR_A.RETRY else F.CHN_ERR_B.RETRY

/-- R121: OWDONE in the sets of a node. -/
def NodeRt.owDone (n : NodeRt) : Bool := (n.sets.map (fun p => bitAt p.2.flags 1)).all id && n.got

/-- What a node starts a frame with: nothing read. -/
def NodeRt.cleared (n : NodeRt) : NodeRt :=
  { n with got := false, response := false, result := false, path := false, sets := [], asked := 0, notRead := false, owRead := false }

/-- R78, R82, R101: an enumeration may start: one is requested, none runs, the application runs the chain, and the module is no standby. -/
def Core.enumMay (c : Core) : Bool := c.on F.CHN_CTRL.ENUM && c.chn.run.isNone && c.tick.running && !c.standby

/-- R82, R83 steps 1 to 3: RSTADDR and ENUM go out; a requested enumeration runs with what the ring answers, and every node is
NOT_SAMPLED in the frame. DESIGN CHOICE (notes/assumptions/46): with NNODE_EXP = 0 the counter from port B is 0. -/
def enumStart (found : EnumFound) (c : Core) : Core :=
  if c.enumMay then
    let c0 := takeExpected c
    let c1 := (c0.packet 3 11 63 []).packet 1 4 63 [0]
    let c2 := if found.closed then c1 else c1.packet 2 4 63 [c0.expected - 1]
    { c2 with chn := { c2.chn with run := some found, synced := false, rt := c2.chn.rt.map (fun x => (x.1, x.2.cleared)) } }
  else c

/-- R108: the last node reached from port A and the first reached from port B in an open ring of `n` nodes numbered in ring order or in
reverse. -/
def openEnds (rev : Bool) (a b n : Nat) : Nat × Nat :=
  (if a = 0 then 63 else if rev then n - a else a - 1, if b = 0 then 63 else if rev then b - 1 else n - b)

/-- R83 steps 4 to 8 for a successful enumeration: table, delays, configuration, serials. The nodes of the table before keep their duty
states by serial (R157). DESIGN CHOICE (notes/assumptions/64): no packet is sent that asks a node for its DESC. -/
def enumTable (e : EnumFound) (w22 w23 : Nat) (c0 : Core) : Core :=
  let c := forUp c0.chn.total (fun j c => c.keepDuty j) c0
  let ring0 := ringOf e c.expected
  let rev := ringReversed c ring0
  let ring := if rev then ring0.reverse else ring0
  let ends := if e.closed then (63, 63) else openEnds rev e.fromA.length e.fromB.length ring.length
  let moved := (upTo ring.length).any (fun j => match ring.getD j none with
    | some d => c.delayMoved j (pathDelay d.ra d.turn) (pathDelay d.rb d.turn)
    | none => false)
  let c1 := { c with chn := { c.chn with
    total := ring.length
    split := if e.closed then ceilDiv ring.length 2 else if rev then e.fromB.length else e.fromA.length
    rt := [], plan := none, closure := false, cut := none, dlyCnt := 0, dlyNew := [], cfgDue := [], tchg := none } }
  let c2 := (((c1.wrB F.CHN_STAT.RINGREV rev).wrB F.CHN_BRK.BROKEN (!e.closed)).wr F.CHN_BRK.LASTA ends.1).wr F.CHN_BRK.FIRSTB ends.2
  let fill := fun j (x : Core) => match ring.getD j none with
    | some d => (x.fillNode j d).configNode j w22 w23
    | none => x
  let c3 := forUp ring.length fill (forUp 40 (fun j c => c.clearNode j) c2)
  let chk := fun j (c : Core) => match ring.getD j none with | some _ => c.serialCheck j | none => c
  delayChanged moved (forUp ring.length chk c3)

/-- R109, R83 step 4: the DESC answers of an enumeration that failed their CRC, through the port that reached the node. -/
def descErrors (e : EnumFound) (c : Core) : Core :=
  (c.cntSat (crcCnt 0) (sumN (e.fromA.map (fun d => min 3 d.bad)))).cntSat (crcCnt 1) (sumN (e.fromB.map (fun d => min 3 d.bad)))

/-- R83 step 9, R84: the enumeration ends with success or ENUMERR. DESIGN CHOICE (notes/assumptions/65): with it a DLYGO and a
re-measurement that run end, whatever its outcome. -/
def enumFinish (w22 w23 : Nat) (c : Core) : Core :=
  match c.chn.run with
  | none => c
  | some e =>
    let err := enumErr e c.expected
    let c1 := (descErrors e { c with chn := { c.chn with run := none, again := false, retry := err != 0, dlyRun := false } }).wr F.CHN_CTRL.DLYGO 0
    let c2 := ((((c1.wr F.CHN_STAT.NNODE (e.fromA.length + e.fromB.length)).wrB F.CHN_STAT.CLOSED e.closed).wr
      F.CHN_STAT.ENUMERR err).wrB F.CHN_STAT.POLA e.polA).wrB F.CHN_STAT.POLB e.polB
    let c3 := (c2.cntWrap F.CHN_STAT.ENUMCNT).wrB F.CHN_CTRL.ENUM c.chn.again
    if err = 0 then
      (((enumTable e w22 w23 c3).wr F.CHN_STAT.ENUMDONE 1).showLayout).raise 26 0 0
    else c3.wr F.CHN_STAT.ENUMDONE 0

/-- R84: one second after a failed enumeration it is requested again. -/
def enumRetry (c : Core) : Core :=
  if c.chn.retry then enumRequest { c with chn := { c.chn with retry := false } } else c

/-! ### Path delays -/

/-- R88: a re-measurement starts; its packets go in background chain time. -/
def delayStart (c : Core) : Core := { c with chn := { c.chn with dlyRun := true, dlyCnt := 0 } }

/-- R88: DLYGO. -/
def delayGo (c : Core) : Core := delayStart (c.wr F.CHN_CTRL.DLYGO 1)

/-- R88: DLY_PERIOD frames have passed. -/
def delayDue (c : Core) : Core :=
  if 0 < c.rd F.CHN_CFG.DLY_PERIOD ∧ c.rd F.CHN_CFG.DLY_PERIOD ≤ c.chn.dlyCnt then delayStart c else c

/-- R96: the readout deadline of this frame has passed. -/
def Core.pastDeadline (c : Core) : Bool := c.chn.deadline || decide (deadlineTick c.prof c.meas.n c.meas.s c.nf ≤ c.tick.pos)

/-- R96: the chain time that frame readout leaves to other traffic: before tick T_L + 1, and after readout has completed or D has
passed; a frame without SYNC has no readout. -/
def Core.background (c : Core) : Bool :=
  !c.chn.synced || c.chn.rodone || decide (c.tick.pos ≤ lastTick c.meas.n c.meas.s) || c.pastDeadline

/-- R132: an open-wire DIAG read is still to make: of a node that sampled and performed the test (OWDONE), after D. -/
def Core.owPending (c : Core) : Bool :=
  c.meas.ow && c.pastDeadline && (upTo c.chn.total).any (fun j => (c.node j).owDone && !(c.node j).owRead)

/-- R152: the chain time behind the open-wire DIAG reads and the bleed schedule, which both go after D. -/
def Core.behindBleed (c : Core) : Bool := c.background && !c.owPending && !(c.pastDeadline && c.bal.schedMade)

/-- R179: a burst is read out: STATE is READOUT, 20 tk and more after the last burst instant. -/
def Core.burstReads (c : Core) : Bool := c.rd F.IMP_STAT.STATE == 4 && decide (20 * c.period ≤ c.imp.since)

/-- R179: the chain time behind burst readout, for delay measurement and diagnostics. -/
def Core.behindBurst (c : Core) : Bool := c.behindBleed && !c.burstReads

/-- R103: an UNREACHABLE node answers: its serial is read and compared, and UNREACHABLE clears. -/
def nodeBack (j serial : Nat) (c : Core) : Core :=
  if c.on (F.CHN_NINFO.REACH j) then c
  else ((c.takeSerial j serial).serialCheck j).wr (F.CHN_NINFO.REACH j) 1

/-- R103: a node answers in another way than with a result. -/
def nodeAnswers (j serial : Nat) (c : Core) : Core := (nodeBack j serial c).setNode j (fun n => { n with response := true })

/-- R103: nodes of the table answer, each with its serial. -/
def nodesAnswer (js : List (Nat × Nat)) (c : Core) : Core :=
  js.foldl (fun c x => if x.1 < c.chn.total then nodeAnswers x.1 x.2 c else c) c

/-- R88, R103: the measurement ends: the ECHO packets have gone to every node and come back with these sums of round trips, from a node
of this serial, which has then answered; the new delays go to the nodes, which apply them at the next SYNC. It runs behind burst readout
(R179). -/
def delayFinish (back : List EchoBack) (c0 : Core) : Core :=
  if c0.chn.dlyRun && c0.behindBurst then
    let c := nodesAnswer ((back.zipIdx.filter (fun x => x.1.ra != 0 || x.1.rb != 0)).map (fun x => (x.2, x.1.serial))) c0
    let ds := (upTo (min back.length c.chn.total)).map (fun j =>
      let t := back.getD j {}
      (pathDelay t.ra (c.node j).turn, pathDelay t.rb (c.node j).turn))
    let moved := (upTo ds.length).any (fun j => c.delayMoved j (ds.getD j (0, 0)).1 (ds.getD j (0, 0)).2)
    let c1 := ({ c with chn := { c.chn with dlyRun := false, dlyNew := ds } }).wr F.CHN_CTRL.DLYGO 0
    delayChanged moved (forUp ds.length (fun j c =>
      (c.echo j).packet 3 6 j (leBytes 2 (ds.getD j (0, 0)).1 ++ leBytes 2 (ds.getD j (0, 0)).2)) c1)
  else c0

/-- R88: at SYNC the nodes take the delays measured since. -/
def delayApply (c : Core) : Core :=
  let ds := c.chn.dlyNew
  let c1 := forUp ds.length (fun j c =>
    (c.wr (F.CHN_NDLY.DA j) (ds.getD j (0, 0)).1).wr (F.CHN_NDLY.DB j) (ds.getD j (0, 0)).2) c
  { c1 with chn := { c1.chn with dlyNew := [] } }

/-! ### Readout -/

/-- R23, R96: results of this frame are read: a SYNC has gone out, the last sample instant is over, D is not. -/
def Core.reading (c : Core) : Bool :=
  c.chn.synced && decide (lastTick c.meas.n c.meas.s < c.tick.pos) && !c.pastDeadline

/-- R94: both slot sweeps have ended: the longer side's last slot, counted in ns from the frame boundary, ends inside this tick or before. -/
def Core.sweepsOver (c : Core) : Bool :=
  let k := max c.chn.split (c.chn.total - c.chn.split)
  let t := lastTick c.meas.n c.meas.s * c.period * 2 + c.rd F.MEAS_PHASE.PHASE * (16 * c.period) / 65536 / 8 + 320000 + k * c.setsM * 12950
  decide (t < (c.tick.pos + 1) * c.period * 2)

/-- R94, R121: a RESULT with a good CRC is stored as one sample set of its node. -/
def resultStore (port j set : Nat) (r : ResultSet) (c : Core) : Core :=
  let path := decide (port ≠ c.defaultPort j)
  let m := c.setsM
  let c1 := c.setNode j (fun n =>
    let sets := Tab.put ⟨[], [], 0⟩ n.sets set r
    { n with response := true, result := true, path := path, sets := sets, got := decide (m ≤ sets.length) })
  let c2 := (((c1.wrB (F.CHN_NINFO.PATH j) path).wrB (F.CHN_NINFO.SYNCALT j) (bitAt r.flags 0)).wr (F.CHN_NINFO.MISS j) 0)
  if c.rd (F.CHN_NINFO.VER j) = 2 then c2.wrB (F.CHN_NINFO.FAULT j) (bitsAt r.flags 4 4 != 0) else c2

/-- R80, R94, R96: a packet arrives: discarded and counted with a bad CRC, whatever its type; discarded when its type is reserved; a
RESULT is stored while results are read, from a node that has had a SYNC since it was addressed (R87). The other types come with
commands of their own. -/
def resultReceived (port typ : Nat) (crcOk : Bool) (j set : Nat) (r : ResultSet) (serial : Nat) (c : Core) : Core :=
  if !crcOk then c.cntSat (crcCnt port)
  else if typ == 1 && decide (j < c.chn.total) && c.reading && !(c.node j).joins && decide (set < c.setsM) then
    resultStore port j set r (nodeBack j serial c)
  else c

/-- R97: a missing result is read by READ after both sweeps, through the other port first and then once through the original one. -/
def readRetry (j port : Nat) (c : Core) : Core :=
  let n := c.node j
  let want := if n.asked = 0 then 1 - c.homePort j else c.homePort j
  if c.reading && c.sweepsOver && decide (j < c.chn.total) && !n.got && decide (n.asked < 2) && port == want then
    ((c.setNode j (fun n => { n with asked := n.asked + 1 })).cntSat (retryCnt port)).packetAgain (port + 1) 2 j [255]
  else c

/-- R23: every result of the frame has been read. -/
def readoutDone (c : Core) : Core :=
  if c.chn.synced && !c.chn.rodone && (upTo c.chn.total).all (fun j => (c.node j).got) then
    ({ c with chn := { c.chn with rodone := true } }).raise 24 0 0
  else c

/-- R96, R97: the readout deadline passes; a node whose result is not read is recorded so. -/
def readoutDeadline (c : Core) : Core :=
  if c.pastDeadline && !c.chn.deadline then
    forUp c.chn.total (fun j c => if c.chn.synced && !(c.node j).got then c.setNode j (fun n => { n with notRead := true }) else c)
      { c with chn := { c.chn with deadline := true } }
  else c

/-- R103, R111: at the end of a frame, nodes without a valid result count a miss, and those without any valid response count
toward UNREACHABLE. -/
def missCount (c : Core) : Core :=
  forUp c.chn.total (fun j c =>
    (if (c.node j).result then c.wr (F.CHN_NINFO.MISS j) 0 else c.cntSat (F.CHN_NINFO.MISS j)).setNode j
      (fun n => { n with quiet := if n.response then 0 else n.quiet + 1 })) c

/-! ### HELLO, faults, breaks, tone -/

/-- R87: the node that a HELLO comes from, by the port and the hop counter. DESIGN CHOICE (notes/assumptions/47): the counter starts at
0, so a node at the port itself has hop 0. -/
def Core.helloNode (c : Core) (port hop : Nat) : Nat := if c.portRole port = 0 then hop else c.chn.total - 1 - hop

/-- R87: a restarted node says HELLO with its serial; the hop counter gives its position. It is NOT_SAMPLED until the first SYNC after
its re-addressing. -/
def helloReceived (port serial hop : Nat) (c : Core) : Core :=
  let j := c.helloNode port hop
  if decide (hop < c.chn.total) && c.on F.CHN_STAT.ENUMDONE then
    c.setNode j (fun n => { n.cleared with hello := true, helloSer := serial, joins := true, response := n.response, fault := 0 })
  else c

/-- R87: the node is re-addressed, its DESC read, its delays measured, its configuration written, its serial compared, in background
chain time behind the bleed schedule (R96, R132, R152); one whose DESC fails three times stays in HELLO (DESIGN CHOICE, notes/assumptions/45). -/
def readdress (j : Nat) (d : NodeDesc) (w22 w23 : Nat) (c : Core) : Core :=
  if (c.node j).hello && c.behindBleed then
    let c0 := ((c.takeCser j).packet 3 4 63 [j]).cntSat (crcCnt (c.homePort j)) (min 3 d.bad)
    if 3 ≤ d.bad then c0 else
    let moved := c.delayMoved j (pathDelay d.ra d.turn) (pathDelay d.rb d.turn)
    let c1 := (c0.fillNode j d).configNode j w22 w23
    delayChanged moved ((c1.setNode j (fun n => { n with hello := false, response := true })).serialCheck j) |>.raise 28 j j
  else c

/-- R102, R107: the ring breaks after node `j`. -/
def linkBreak (j : Nat) (c : Core) : Core := ({ c with chn := { c.chn with cut := some j } }).wr F.CHN_STAT.CLOSED 0

/-- R102, R108: the break is located; the split is planned anew from the next frame boundary. -/
def breakLocated (a b : Nat) (c : Core) : Core :=
  ((({ c with chn := { c.chn with plan := some (a, b), closure := false } }).wr F.CHN_BRK.LASTA a).wr F.CHN_BRK.FIRSTB b).wr F.CHN_BRK.BROKEN 1
    |>.raise 27 a a

/-- R102: ring closure is seen by tone and ECHO. -/
def ringClosure (c : Core) : Core :=
  (({ c with chn := { c.chn with cut := none, plan := none, closure := true } }).wr F.CHN_STAT.CLOSED 1).wr F.CHN_BRK.BROKEN 0

/-- R102: at a frame boundary the planned split, or the default one after a closure, takes effect; in a ring numbered in reverse port B
reads the low numbers (R86). -/
def splitApply (c : Core) : Core :=
  let c1 := match c.chn.plan with
    | some (a, b) =>
      let last := if c.on F.CHN_STAT.RINGREV then b else a
      { c with chn := { c.chn with plan := none, split := if last = 63 then 0 else last + 1 } }
    | none => c
  if c1.chn.closure then
    delayStart { c1 with chn := { c1.chn with closure := false, split := ceilDiv c1.chn.total 2 } }
  else c1

/-- R99: a node's comparator, supply or self-test fault; the node sends NOTONE. -/
def nodeFault (j cause : Nat) (c : Core) : Core := c.setNode j (fun n => { n with fault := cause })

/-- The tone registers of a port. -/
def toneFld (port : Nat) : Fld := if port = 0 then F.CHN_TONE.TONEA else F.CHN_TONE.TONEB

/-- The loss flag of a port. -/
def lossFld (port : Nat) : Fld := if port = 0 then F.CHN_TONE.LOSSA else F.CHN_TONE.LOSSB

/-- The tone at a port. -/
def LineSt.tone (l : LineSt) (port : Nat) : Bool := if port = 0 then l.toneA else l.toneB

/-- The line interface takes a tone state at a port. -/
def LineSt.setTone (l : LineSt) (port : Nat) (b : Bool) : LineSt :=
  let l1 := if port = 0 then { l with toneA := b } else { l with toneB := b }
  { l1 with seen := l1.seen || (l1.toneA && l1.toneB) }

/-- R100: tone loss at a port, unless the tone was not present there yet. -/
def toneLoss (port : Nat) (l : LineSt) (c : Core) : LineSt × Core :=
  if l.tone port then
    (l.setTone port false, (((c.wr (toneFld port) 0).wr (lossFld port) 1).cntSat F.CHN_TONE.LOSSCNT).raise 25 port port)
  else (l, c)

/-- R100: the tone is restored at a port. -/
def toneRestore (port : Nat) (l : LineSt) (c : Core) : LineSt × Core := (l.setTone port true, c.wr (toneFld port) 1)

end Sys2Proof.Machine
end

