-- ==== Sys2Proof/Machine/Meas.lean ====
section
/-! DEFINITION. MEAS, synchronised cell measurement (R113 to R149): judging positions and NTC channels at publication, the
frame record, open-wire decisions, the node window. -/

namespace Sys2Proof.Machine

/-! ### Small reads -/

/-- The position at a slot. -/
def Core.pos (c : Core) (k : Nat) : Pos := Tab.get {} c.meas.pos k

/-- The NTC channel `t` of node `j`. -/
def Core.ntcAt (c : Core) (j t : Nat) : Ntc := Tab.get {} c.meas.ntc (8 * j + t)

/-- The T_imp of a slot while it is valid (R188), in 0.1 °C. -/
def Core.timp (c : Core) (k : Nat) : Option Int := (Tab.get {} c.imp.res k).timp

/-- R144: the age limit. -/
def Core.staleLim (c : Core) : Nat := max 1 (c.rd F.MEAS_UNR.STALE_LIM)

/-- The higher of a value and an optional one. -/
def maxOpt (x : Int) : Option Int → Int
  | none => x
  | some y => if x < y then y else x

/-! ### Sample instants -/

/-- R115, R235: the primary current sensor delivers: an input with ROLE 0x2 is enabled, its clock runs and its stream is not lost. -/
def Core.primaryRuns (c : Core) : Bool :=
  (upTo 12).any (fun n => c.on (F.SDM_CFG.EN n) && c.rd (F.SDM_CFG.ROLE n) == 2 && bitAt (c.rd F.SDM_CKEN.EN) (c.rd (F.SDM_CFG.CK n)) &&
    !bitAt c.prot.lossNow n)

/-- R115: what SDM latches: `cur` from the primary current sensor; without one the spec states no value, and it is free
(notes/assumptions/3). -/
def Core.latched (c : Core) (cur : Int) : Int := if c.primaryRuns then cur else Config.freeInt 20 c.free

/-- R113, R115: sample instant i lies in tick 40 + i * s; there SDM latches the string current. -/
def nodeSample (cur : Int) (c : Core) : Core :=
  let i := c.meas.latches.length
  if c.chn.synced && decide (i < c.meas.n) && decide (c.tick.pos = 40 + i * c.meas.s) then
    { c.tickFree with meas := { c.meas with latches := c.meas.latches ++ [c.latched cur] } }
  else c

/-- R118: the mean of the latches. DESIGN CHOICE (notes/assumptions/48): 0 mA in a frame without latches. -/
def Core.isMean (c : Core) : Int :=
  if c.meas.latches.length = 0 then 0 else roundDiv (sumI c.meas.latches) c.meas.latches.length

/-- R118: the string current of each sample set. -/
def Core.isSets (c : Core) : List Int := if c.meas.mode = 1 then c.meas.latches else [c.isMean]

/-! ### Open wire -/

/-- R133: a wire decision state shows its channels as OPENWIRE. -/
def wireOpen (w : Nat) : Bool := w != 0

/-- R133, R124: the OPENWIRE flag of a slot in the records of this frame. -/
def Core.openWire (c : Core) (k : Nat) : Bool :=
  let j := k / 16
  let ch := k % 16
  wireOpen (Tab.get 0 c.meas.wireAct (32 * j + ch)) || wireOpen (Tab.get 0 c.meas.wireAct (32 * j + ch + 1))

/-- R133: the new state of a wire found open or passing: 0 passes, 1 suspect, 2 confirmed, 3 confirmed and passed once. -/
def wireNext (st : Nat) (isOpen : Bool) : Nat :=
  if isOpen then (if st = 0 then 1 else 2) else (if st = 2 then 3 else 0)

/-- R133: one wire decision of node `j`. -/
def wireDecide (j w : Nat) (isOpen : Bool) (c : Core) : Core :=
  let st := Tab.get 0 c.meas.wire (32 * j + w)
  let nx := wireNext st isOpen
  let c1 := { c with meas := { c.meas with
    wire := Tab.put 0 c.meas.wire (32 * j + w) nx
    owConfirm := c.meas.owConfirm || nx == 1 || nx == 3 } }
  if st == 1 && isOpen then (c1.wr F.MEAS_STAT.OWSEEN 1).raise 33 j w
  else if st == 1 then c1.cntSat F.MEAS_OWCNT.UNCONF
  else c1

/-- R131 to R133: the DIAG read of a node's wire decisions after D of an open-wire frame; a node that did not perform the test has it
repeated (R132). -/
def openWireDiag (j wires serial : Nat) (c0 : Core) : Core :=
  let n := c0.node j
  if c0.meas.ow && n.got && !n.owRead && c0.pastDeadline then
    let c := nodeAnswers j serial c0
    if n.owDone then
      forUp (c.npos j + 1) (fun w c => wireDecide j w (bitAt wires w) c) (c.setNode j (fun n => { n with owRead := true }))
    else { c with meas := { c.meas with owRepeat := true } }
  else c0

/-- R132: at the end of an open-wire frame, a node that sampled and whose decisions were not read has its test repeated. -/
def openWireMissed (c : Core) : Bool :=
  c.meas.ow && (upTo c.chn.total).any (fun j => (c.node j).got && !(c.node j).owRead)

/-! ### Positions -/

/-- R122, R126: the code that judges a position over the codes of its sets. -/
def frameCode (codes : List Nat) : Nat :=
  if codes.all (fun x => decide (x ≤ 50000)) then codes.getLastD 65535
  else if codes.any (fun x => x == 65534) then 65534
  else if codes.any (fun x => x == 65533) then 65533
  else 65535

/-- The codes of a slot in the sets its node returned, in set order. -/
def Core.slotCodes (c : Core) (k : Nat) : List Nat :=
  (c.node (k / 16)).sets.map (fun p => p.2.codes.getD (k % 16) 65535)

/-- R121: BLOFF in every set of a node. -/
def NodeRt.blOff (n : NodeRt) : Bool := n.sets.all (fun p => bitAt p.2.flags 2)

/-- R127: where a frame stands in the start-up: before the first frame with SYNC, that frame, or after it. -/
inductive Start where
  | before | first | running
  deriving DecidableEq, Repr

/-- R127: the age after a frame without a new value. -/
def Start.age : Start → Nat → Nat
  | .before, _ => 255
  | .first, _ => 0
  | .running, a => min 255 (a + 1)

/-- R126 to R129: a position judged in this frame. Before the first frame with SYNC the age takes part in no limit. DESIGN CHOICE
(notes/assumptions/49): a slot first configured later starts with age 255, and is LOST at once. -/
def judgePos (st : Start) (got bloff unreach ow treat : Bool) (lim : Nat) (codes : List Nat) (p : Pos) : Pos :=
  let code := frameCode codes
  let good := decide (code ≤ 50000)
  let v := got && bloff && good && !ow
  let rev := got && code == 65533
  let ovr := got && code == 65534
  let age := if v then 0 else st.age p.age
  let lost := !v && (p.lost || (st != .before && decide (lim ≤ age)) || (treat && (unreach || ow)))
  let held := if v then code else p.code
  { code := held, age := age, valid := v, rev := rev, ovr := ovr, lost := lost
    revEp := if rev then true else if got && good then false else p.revEp
    ovrEp := if ovr then true else if got && good then false else p.ovrEp
    setCodes := if v then codes else codes.map (fun _ => held) }

/-- R126 to R129: judge the position of string index `i` at slot `k`, with the flags and events of MEAS. -/
def evalPos (st : Start) (i k : Nat) (c : Core) : Core :=
  let j := k / 16
  let n := c.node j
  let p := c.pos k
  let q := judgePos st n.got n.blOff (!c.on (F.CHN_NINFO.REACH j)) (c.openWire k) (c.on F.MEAS_UNR.TREAT) c.staleLim
    (c.slotCodes k) p
  let c1 := { c with meas := { c.meas with pos := Tab.put {} c.meas.pos k q } }
  let c2 := c1.when (q.rev && !p.revEp) (fun c => (c.wr F.MEAS_STAT.REVSEEN 1).raise 35 i 1)
  let c3 := c2.when (q.ovr && !p.ovrEp) (fun c => (c.wr F.MEAS_STAT.OVRSEEN 1).raise 35 i 2)
  c3.when (q.lost && !p.lost) (fun c => (c.wr F.MEAS_STAT.LOSTSEEN 1).raise 34 i i)

/-- R128: a node that reported BLOFF = 0. -/
def evalBloff (j : Nat) (c : Core) : Core :=
  c.when ((c.node j).got && !(c.node j).blOff)
    (fun c => (c.wr F.MEAS_STAT.BLOFFERR 1).raise 37 j j)

/-! ### Temperatures -/

/-- R135, R188: T in 0.1 °C from a reference temperature in 1/20 K and the ratio num / den of the resistance or impedance to
its reference, with the constant `b` in K; nothing where the formula has no value. -/
def betaTemp (t20 : Int) (num den b : Nat) : Option Int :=
  if num = 0 ∨ den = 0 ∨ b = 0 ∨ t20 ≤ 0 then none else
    let bb : Int := (b : Int) * 2 ^ 40
    let d : Int := 20 * bb + t20 * lnFix num den
    if d = 0 then none else if d < 0 then some (roundDiv (5463 * d - 20 * t20 * bb) (-(2 * d)))
    else some (roundDiv (20 * t20 * bb - 5463 * d) (2 * d))

/-- R123: the frame code of an NTC channel over the sets of a frame. -/
def ntcFrameCode (codes : List Nat) : Nat :=
  if codes.all (fun x => decide (16 ≤ x) && decide (x ≤ 4079)) then roundDivN (sumN codes) codes.length
  else if codes.any (fun x => decide (4080 ≤ x)) then 4095 else 0

/-- R135: the temperature of an NTC code; where the formula gives none, a free value. -/
def ntcTemp (code rnom beta : Nat) : Int :=
  match betaTemp 5963 (1000 * code) ((4096 - code) * rnom) beta with
  | some t => t
  | none => Config.freeTemp code

/-- R136: the reading of a frame code: 0 good, else the cause (1 open, 2 short, 3 out of range). -/
def ntcFault (code : Nat) (t : Int) : Nat :=
  if 4080 ≤ code then 1 else if code ≤ 15 then 2 else if t < -450 ∨ 1250 < t then 3 else 0

/-- R136: the age of a channel after a frame without a good reading. DESIGN CHOICE (notes/assumptions/51): it is 0 in the record of the
first frame with SYNC in which the channel is fitted. -/
def Ntc.nextAge (n : Ntc) (st : Start) : Nat := if n.seen || st = .before then st.age n.age else 0

/-- R136, R138: the first pass over a fitted channel: its reading, age, counts and history. DESIGN CHOICE (notes/assumptions/50): where the
third abnormal frame and the age limit coincide the cause is that of the third frame. -/
def ntcRead (st : Start) (got : Bool) (code : Nat) (t : Int) (lim : Nat) (n : Ntc) : Ntc :=
  let flt := ntcFault code t
  let good := got && flt == 0
  let age := if good then 0 else n.nextAge st
  let bad := if got then (if flt = 0 then 0 else min 3 (n.badCnt + 1)) else n.badCnt
  let brk3 := !n.broken && decide (3 ≤ bad) && got
  let stale := !n.broken && !brk3 && st != .before && decide (lim ≤ age)
  { n with
    temp := if good then t else n.temp
    has := n.has || good
    seen := n.seen || st != .before
    age := age
    good := good
    badCnt := bad
    broken := n.broken || brk3 || stale
    cause := if brk3 then flt else if stale then 5 else n.cause
    histCnt := if brk3 || stale then 0 else if n.broken then 0 else if good then min 10 (n.histCnt + 1) else if got then 0 else n.histCnt
    clrCnt := if brk3 || stale then 0 else n.clrCnt }

/-- R138: a channel that serves as a good neighbour. -/
def Ntc.goodNbr (n : Ntc) : Bool := n.has && !n.broken && decide (10 ≤ n.histCnt)

/-- R138: the neighbour channels of channel `t` of node `j`, as (node, channel). -/
def nbrOf (total j t : Nat) : List (Nat × Nat) :=
  (if t = 0 then (if j = 0 then [] else [(j - 1, 7)]) else [(j, t - 1)]) ++
  (if t = 7 then (if j + 1 < total then [(j + 1, 0)] else []) else [(j, t + 1)])

/-- R138: the temperatures of the good neighbours. -/
def Core.goodNbrs (c : Core) (j t : Nat) : List Int :=
  ((nbrOf c.chn.total j t).filter (fun x => c.fitted x.1 x.2 && (c.ntcAt x.1 x.2).goodNbr)).map (fun x => (c.ntcAt x.1 x.2).temp)

/-- R136, R140: the second pass: drift, and the clearing of BROKEN. -/
def ntcDrift (got : Bool) (nbrs : List Int) (dev : Nat) (n : Ntc) : Ntc :=
  let two := decide (2 ≤ nbrs.length)
  let off := two && n.good && (decide (10 ≤ n.histCnt) || n.broken) &&
    decide ((dev : Int) * nbrs.length < absI (n.temp * nbrs.length - sumI nbrs))
  let dc := if !two then 0 else if !got then n.driftCnt else if off then n.driftCnt + 1 else 0
  let brk := !n.broken && decide (100 ≤ dc)
  let clr := if n.broken then (if !got then n.clrCnt else if n.good && !off then n.clrCnt + 1 else 0) else 0
  let heal := n.broken && decide (10 ≤ clr)
  { n with
    driftCnt := if n.broken || brk then 0 else dc
    broken := (n.broken || brk) && !heal
    cause := if brk then 4 else if heal then 0 else n.cause
    histCnt := if brk || heal then 0 else n.histCnt
    badCnt := if heal then 0 else n.badCnt
    clrCnt := if heal then 0 else clr }

/-- R137: the third pass: what the channel reports. `hot`, `margin` and the covered positions' highest valid T_imp enter. -/
def ntcReport (nbrs : List Int) (treat : Bool) (hot : Int) (margin : Nat) (ti : Option Int) (n : Ntc) : Ntc :=
  if n.broken then
    let useN := treat && nbrs != []
    let base := if useN then maxI (nbrs.headD 0) nbrs + margin else hot
    { n with rep := maxOpt base ti, subst := true, nbr := useN }
  else { n with rep := if n.has then n.temp else -32768, subst := false, nbr := false }

/-- R139: the positions a channel covers: the highest valid T_imp among them. -/
def Core.coverTimp (c : Core) (j t : Nat) : Option Int :=
  match c.timp (slotKey j (2 * t)), c.timp (slotKey j (2 * t + 1)) with
  | none, b => b
  | some a, b => some (maxOpt a b)

/-- One pass over every NTC channel of the enumerated nodes. -/
def ntcPass (f : Nat → Nat → Core → Core) (c : Core) : Core :=
  forUp c.chn.total (fun j c => forUp 8 (fun t c => f j t c) c) c

/-- Change one NTC channel. -/
def Core.setNtc (c : Core) (j t : Nat) (n : Ntc) : Core :=
  { c with meas := { c.meas with ntc := Tab.put {} c.meas.ntc (8 * j + t) n } }

/-- R136: the event of a channel that becomes BROKEN. -/
def ntcBroke (j t : Nat) (was : Bool) (n : Ntc) (c : Core) : Core :=
  c.when (n.broken && !was) (fun c => (c.wr F.MEAS_STAT.TBRKSEEN 1).raise 36 j t)

/-- First pass at one channel. DESIGN CHOICE (notes/assumptions/51): a channel disabled in NTCEN loses its value, history and state, and
starts anew when it is enabled again. -/
def ntcPass1 (st : Start) (j t : Nat) (c : Core) : Core :=
  if c.fitted j t then
    let nd := c.node j
    let code := ntcFrameCode (nd.sets.map (fun p => p.2.ntc.getD t 0))
    let n := c.ntcAt j t
    let n1 := ntcRead st nd.got code (ntcTemp code (c.rd F.MEAS_TNTC.RNOM) (c.rd F.MEAS_TNTC.BETA)) c.staleLim n
    ntcBroke j t n.broken n1 (c.setNtc j t n1)
  else c.setNtc j t {}

/-- Second pass at one channel. DESIGN CHOICE (notes/assumptions/59): the channels in rising order, each seeing those before it as they
are after this frame. -/
def ntcPass2 (j t : Nat) (c : Core) : Core :=
  if c.fitted j t then
    let n := c.ntcAt j t
    let n1 := ntcDrift (c.node j).got (c.goodNbrs j t) (c.rd F.MEAS_TNB_MARGIN.DEV) n
    ntcBroke j t n.broken n1 (c.setNtc j t n1)
  else c

/-- Third pass at one channel. -/
def ntcPass3 (j t : Nat) (c : Core) : Core :=
  if c.fitted j t then
    c.setNtc j t (ntcReport (c.goodNbrs j t) (c.on (F.MEAS_NCFG.TTREAT j)) (c.rdS F.MEAS_THOT.HOT) (c.rd F.MEAS_TNB_MARGIN.MARGIN)
      (c.coverTimp j t) (c.ntcAt j t))
  else c

/-- R136 to R140: every NTC channel in this frame. -/
def evalNtc (st : Start) (c : Core) : Core := ntcPass ntcPass3 (ntcPass ntcPass2 (ntcPass (ntcPass1 st) c))

/-- R139, R190: the temperature of a position, if it has one. -/
def Core.posTemp (c : Core) (k : Nat) : Option Int :=
  let j := k / 16
  let t := (k % 16) / 2
  let n := c.ntcAt j t
  if c.fitted j t && (n.has || n.broken) then some (maxOpt n.rep (c.timp k)) else c.timp k

/-! ### The frame record -/

/-- R148: the word of a position in a sample set. DESIGN CHOICE (notes/assumptions/52): SYNCALT of a node that was not read in this frame is
the last one it gave. -/
def Core.pvWord (c : Core) (k set : Nat) : Nat :=
  let p := c.pos k
  let n := c.node (k / 16)
  p.setCodes.getD set p.code + 2 ^ 16 * p.age + 2 ^ 24 * b2n p.valid + 2 ^ 25 * b2n n.path +
    2 ^ 26 * b2n (c.on (F.CHN_NINFO.SYNCALT (k / 16))) + 2 ^ 27 * b2n (c.openWire k) + 2 ^ 28 * b2n p.rev + 2 ^ 29 * b2n p.ovr +
    2 ^ 30 * b2n (!c.on (F.CHN_NINFO.REACH (k / 16))) + 2 ^ 31 * b2n p.lost

/-- R149: the word of an NTC channel. -/
def Core.ntWord (c : Core) (j t : Nat) : Nat :=
  if c.fitted j t then
    let n := c.ntcAt j t
    ofSigned 16 n.rep + 2 ^ 16 * n.age + 2 ^ 24 * b2n (n.good && !n.broken) + 2 ^ 25 * b2n n.broken + 2 ^ 26 * n.cause +
      2 ^ 29 * b2n n.subst + 2 ^ 30 * b2n n.nbr
  else 32768 + 2 ^ 31

/-- R142: the value of a position that enters the sum, in 100 µV: held values enter, codes that are no voltage do not. -/
def sumCode (code : Nat) : Nat := if code ≤ 50000 then code else 0

/-- R142: the frame record of the frame as judged; the sum in mV is rounded to nearest (DESIGN CHOICE,
notes/assumptions/58). -/
def Core.makeRec (c : Core) : FrameRec :=
  let ks := c.slots
  let cc := c.setsM
  { fnum := c.rd F.TICK_FNUM.FNUM
    tick := c.tbTick - c.tick.pos + 40
    dict := c.meas.mode == 1
    ow := c.meas.ow
    imp := c.imp.capFrame
    nodes := c.chn.total
    c := cc
    n := c.meas.n
    s := c.meas.s
    phase := c.rd F.MEAS_PHASE.PHASE * (c.period * 16) / 65536
    valid := countIf (fun k => (c.pos k).valid) ks
    held := countIf (fun k => !(c.pos k).valid && !(c.pos k).lost) ks
    lost := countIf (fun k => (c.pos k).lost) ks
    broken := sumN ((upTo c.chn.total).map (fun j => countIf (fun t => c.fitted j t && (c.ntcAt j t).broken) (upTo 8)))
    sumMv := (roundDivN (sumN (ks.map (fun k => sumCode (c.pos k).code))) 10 : Nat)
    isMean := c.isMean
    isSet := c.isSets
    pv := (upTo cc).flatMap (fun set => ks.map (fun k => (set * 640 + k, c.pvWord k set)))
    nt := (upTo c.chn.total).flatMap (fun j => (upTo 8).map (fun t => (8 * j + t, c.ntWord j t))) }

/-- R126 to R142: MEAS judges every position and NTC channel and publishes the record. -/
def measPublish (c : Core) : Core :=
  let st := if c.meas.started then Start.running else if c.chn.synced then .first else .before
  let c1 := forUp c.chn.total (fun j c => evalBloff j c) c
  let ks := c.slots
  let c2 := forUp ks.length (fun i c => evalPos st i (ks.getD i 0) c) c1
  let c3 := evalNtc st c2
  let r := c3.makeRec
  let c4 := { c3 with
    meas := { c3.meas with last := r, started := c3.meas.started || c3.chn.synced }
    chn := { c3.chn with published := true } }
  ((((c4.wr F.MEAS_STAT.NVALID r.valid).wr F.MEAS_STAT.NHELD r.held).wr F.MEAS_FNUM.FNUM r.fnum).wrS F.MEAS_IS.IS r.isMean)
    |>.when (c.meas.ow && c.chn.synced) (fun c => c.cntSat F.MEAS_OWCNT.TESTS) |>.raise 32 0 r.fnum

/-- R147: one sample set of one node of the latest record is copied into the window; zeros where there is none. -/
def measWindow (node set : Nat) (c : Core) : Core :=
  let r := c.meas.last
  let ok := decide (node < r.nodes) && decide (set < r.c)
  let c1 := (((c.wr F.MEAS_WSEL.NODE node).wr F.MEAS_WSEL.SET set).wrB F.MEAS_WSEL.WVALID ok)
  let c2 := (c1.wr F.MEAS_WFNUM.FNUM (if ok then r.fnum else 0)).wrS F.MEAS_WIS.IS (if ok then r.isSet.getD set 0 else 0)
  let c3 := forUp 16 (fun ch c =>
    let w := if ok then Tab.get 65535 r.pv (set * 640 + slotKey node ch) else 0
    ((((((((((c.wr (F.MEAS_WPV.CODE ch) w).wr (F.MEAS_WPV.AGE ch) (bitsAt w 16 8)).wrB (F.MEAS_WPV.VALID ch) (bitAt w 24)).wrB
      (F.MEAS_WPV.PATH ch) (bitAt w 25)).wrB (F.MEAS_WPV.SYNCALT ch) (bitAt w 26)).wrB (F.MEAS_WPV.OPENWIRE ch) (bitAt w 27)).wrB
      (F.MEAS_WPV.REV ch) (bitAt w 28)).wrB (F.MEAS_WPV.OVR ch) (bitAt w 29)).wrB (F.MEAS_WPV.UNREACH ch) (bitAt w 30)).wrB
      (F.MEAS_WPV.LOST ch) (bitAt w 31))) c2
  forUp 8 (fun t c =>
    let w := if ok then Tab.get 0 r.nt (8 * node + t) else 0
    ((((((((c.wr (F.MEAS_WNT.TEMP t) w).wr (F.MEAS_WNT.AGE t) (bitsAt w 16 8)).wrB (F.MEAS_WNT.VALID t) (bitAt w 24)).wrB
      (F.MEAS_WNT.BROKEN t) (bitAt w 25)).wr (F.MEAS_WNT.CAUSE t) (bitsAt w 26 3)).wrB (F.MEAS_WNT.SUBST t) (bitAt w 29)).wrB
      (F.MEAS_WNT.NBR t) (bitAt w 30)).wrB (F.MEAS_WNT.NOFIT t) (bitAt w 31))) c3

/-! ### Configuration -/

/-- R117, R143: n and s lie in their ranges for a mode. -/
def measRange (mode n s : Nat) : Bool :=
  decide (1 ≤ n) && decide (n ≤ (if mode = 1 then 8 else 64)) && decide (1 ≤ s)

/-- R119: the result code of a MEAS_CFG request, 0 when it commits, against a tick and frame length. -/
def measCheck (total mode n s p nf : Nat) : Nat :=
  if !measRange mode n s then 3
  else if mode = 1 ∧ 2 ≤ n ∧ 20 < total then 5
  else if !layoutFits total mode n s p nf then 2
  else 0

/-- The requested values of MEAS_CFG. -/
def Core.measReq (c : Core) : Nat × Nat × Nat := (c.rd F.MEAS_CFG.MODE, c.rd F.MEAS_CFG.N, c.rd F.MEAS_CFG.S)

/-- A refused request reloads MODE, N and S from the active values (R119). -/
def measReload (c : Core) : Core :=
  ((c.wr F.MEAS_CFG.MODE c.meas.mode).wr F.MEAS_CFG.N c.meas.n).wr F.MEAS_CFG.S c.meas.s

/-- R119: a pending request commits or is refused. -/
def measCfgEvaluate (c : Core) : Core :=
  if c.on F.MEAS_CFG.PEND then
    let r := c.measReq
    let err := measCheck c.chn.total r.1 r.2.1 r.2.2 c.period c.nf
    let c1 := (c.wr F.MEAS_CFG.PEND 0).wr F.MEAS_CFG.ERR err
    if err = 0 then { c1 with meas := { c1.meas with mode := r.1, n := r.2.1, s := r.2.2 } } else measReload c1
  else c

/-- R120: dictated mode is withdrawn after an enumeration of more than 20 nodes. -/
def dictatedWithdrawn (c : Core) : Core :=
  if c.meas.mode = 1 ∧ 2 ≤ c.meas.n ∧ 20 < c.chn.total then
    ((({ c with meas := { c.meas with mode := 0 } }).wr F.MEAS_CFG.MODE 0).wr F.MEAS_CFG.ERR 5).raise 38 0 c.chn.total
     
  else c

/-- R125: the excess of configured positions as NPOSERR shows it. -/
def nposShow (c : Core) : Core := c.wrB F.MEAS_STAT.NPOSERR (decide (576 < c.nposSum))

/-- R125: the excess of configured positions at a frame boundary; its event at the first at which it appears. -/
def nposExcess (c : Core) : Core :=
  let ex := decide (576 < c.nposSum)
  let c1 := nposShow c
  if ex && !c.meas.nposSeen then
    ({ c1 with meas := { c1.meas with nposSeen := true } }).raise 39 0 c.nposSum
  else { c1 with meas := { c1.meas with nposSeen := ex } }

end Sys2Proof.Machine
end

