-- ==== Sys2Proof/Machine/Bal.lean ====
section
/-! DEFINITION. BAL, balancing and string thermal control (R150 to R170). -/

namespace Sys2Proof.Machine

/-- R210, R216: a gleaning cycle or a rest slot of this string is in progress. -/
def Core.inSlot (c : Core) : Bool := c.rd F.EST_GLN_CTRL.STATE != 0 || c.rd F.EST_REST_CTRL.STATE == 2

/-- A SOC of 2^-24 as it is reported, rounded down to 0.01 % (R196). -/
def soc100 (x : Int) : Nat := x.toNat * 10000 / 2 ^ 24

/-- The context of a slot. -/
def Core.ctx (c : Core) (k : Nat) : Ctx := Tab.get {} c.est.pos k

/-! ### Requests (R153, R154) -/

/-- R153: the lowest reported position SOC of the string. -/
def Core.minSoc (c : Core) : Nat :=
  (c.slots.filter (fun k => !(c.ctx k).firstpend)).foldl (fun m k => min m (soc100 (c.ctx k).y)) 10000

/-- R153: automatic requests start above DB and stop at DB / 2. -/
def autoReq (db lowest soc : Nat) (was : Bool) : Bool :=
  if was then decide (db < 2 * (soc - lowest)) else decide (lowest + db < soc)

/-- R153: whether the position of string index `i` at slot `k` requests. -/
def Core.requests (c : Core) (i k : Nat) : Bool :=
  match c.rd F.BAL_CFG.MODE with
  | 1 => Tab.get false c.bal.auto k
  | 2 => bitAt (c.rd (F.BAL_HREQ.REQ (i / 32))) (i % 32)
  | _ => false

/-- R154: the request of a slot stands for the next frame. -/
def Core.mayBleed (c : Core) (k : Nat) : Bool :=
  let p := c.pos k
  p.valid && !p.lost && !c.openWire k && decide (c.rd F.BAL_LIM.VMIN ≤ p.code) &&
  (match c.posTemp k with | some t => decide (t < c.rdS F.BAL_LIM.TMAX) | none => true) &&
  decide ((c.node (k / 16)).duty ≠ 2)

/-! ### The schedule (R150, R156) -/

/-- R150: E, the tick at which the pause ends. -/
def pauseEnd (n s : Nat) (ow : Bool) : Nat := lastTick n s + (if ow then 21 else 1)

/-- R165: the maximum duty in percent. -/
def Core.duty (c : Core) : Nat := min 80 (c.rd F.BAL_CFG.DUTY)

/-- R150: the on-time of a scheduled position. -/
def onTime (duty nf e : Nat) : Nat := min (duty * nf / 100) (nf - e)

/-- R156: the channels kept of those that request, for target frame `f`. -/
def bleedSel (req : List Nat) (f : Nat) : List Nat :=
  let paired := fun ch => req.contains (ch + 1) || (decide (0 < ch) && req.contains (ch - 1))
  req.filter (fun ch => !paired ch || ch % 2 == f % 2)

/-- R156: at most `nmax` channels, in rising order from channel `f mod 16`, wrapping. -/
def bleedCap (sel : List Nat) (nmax f : Nat) : List Nat :=
  if sel.length ≤ nmax then sel
  else (((upTo 16).map (fun i => (f + i) % 16)).filter (fun ch => sel.contains ch)).take nmax

/-- R166: NMAX. -/
def Core.nmax (c : Core) : Nat := min 16 (max 1 (c.rd F.BAL_NODE.NMAX))

/-- The channels of node `j` that request after R154, with their string indices given by the list of slots. -/
def Core.reqOf (c : Core) (ks : List Nat) (j : Nat) : List Nat :=
  ((upTo ks.length).filter (fun i => ks.getD i 0 / 16 == j && c.requests i (ks.getD i 0) && c.mayBleed (ks.getD i 0))).map
    (fun i => ks.getD i 0 % 16)

/-- R153: the automatic requests move with the SOC values. DESIGN CHOICE (notes/assumptions/76): they do so in every mode, so that a change
to automatic finds the requests of the SOC values since. -/
def autoUpdate (c : Core) : Core :=
  let lo := c.minSoc
  { c with bal := { c.bal with auto := c.slots.foldl (fun t k =>
      Tab.put false t k (!(c.ctx k).firstpend && autoReq (c.rd F.BAL_CFG.DB) lo (soc100 (c.ctx k).y) (Tab.get false t k))) c.bal.auto } }

/-- R156: BAL computes the schedule for frame `f` from the record just published; `ow` is what is known of `f` (R150). -/
def bleedCompute (f : Nat) (ow : Bool) (c0 : Core) : Core :=
  let c := autoUpdate c0
  let ks := c.slots
  let e := pauseEnd c.meas.n c.meas.s ow
  let t := if c.duty = 0 then 0 else onTime c.duty c.nf e
  let per := (upTo c.chn.total).map (fun j =>
    let req := c.reqOf ks j
    let sel := bleedSel req f
    (j, req, sel, bleedCap sel c.nmax f))
  let sched := per.foldl (fun tb x => x.2.2.2.foldl (fun tb ch =>
    Tab.put 0 tb (slotKey x.1 ch) (if (c.node x.1).duty = 1 then t / 2 else t)) tb) []
  let inter := per.any (fun x => x.2.1.any (fun ch => x.2.1.contains (ch + 1)))
  let cap := per.any (fun x => decide (c.nmax < x.2.2.1.length))
  let hot := countIf (fun j => (c.node j).duty == 2) (upTo c.chn.total)
  let c1 := { c with bal := { c.bal with
    sched := sched, schedFor := f, schedMade := true, schedTrunc := !sched.isEmpty && decide (c.nf - e < c.duty * c.nf / 100) } }
  (((c1.wr F.BAL_STAT.NBLEED sched.length).wrB F.BAL_STAT.INTERLEAVED inter).wrB F.BAL_STAT.NODECAP cap).cntSat
    F.BAL_CNT.HOT hot

/-- R103, R152: after D and the open-wire DIAG reads, each node that the WRCFG reaches holds the schedule and answers with an ACK. -/
def bleedSend (acks : List NodeAck) (c0 : Core) : Core :=
  if c0.bal.schedMade && c0.pastDeadline && !c0.owPending then
    let js := acks.map NodeAck.node
    let c := nodesAnswer (acks.map (fun a => (a.node, a.serial))) c0
    let c1 := js.foldl (fun c j =>
      if j < c.chn.total then
        let ts := (upTo 16).map (fun ch => Tab.get 0 c.bal.sched (slotKey j ch))
        ({ c with bal := { c.bal with hold := Tab.put (0, []) c.bal.hold j (c.bal.schedFor, ts) } }).packet (c.homePort j + 1) 6 j
          (leBytes 4 c.bal.schedFor ++ ts.flatMap (leBytes 2))
      else c) c
    ({ c1 with bal := { c1.bal with schedMade := false } }).raise 40 0 c.bal.schedFor
  else c0

/-- R150, R151, R152: at the boundary that opens frame `f`, what each node bleeds; `sync` a SYNC went out, `barred` a burst capture
overlaps the frame or a rest slot runs, `ow` an open-wire frame. A standby sends no schedule and misses none. -/
def bleedFrame (f : Nat) (sync barred ow : Bool) (c : Core) : Core :=
  let e := pauseEnd c.meas.n c.meas.s ow
  let win := c.nf - e
  let cut := c.bal.schedTrunc && c.bal.schedFor == f
  if !sync || barred then ({ c with bal := { c.bal with act := [], hold := [] } } : Core).wrB F.BAL_STAT.TRUNC cut
  else
    let miss := countIf (fun j => (Tab.get (0, []) c.bal.hold j).1 != f || (Tab.get (0, []) c.bal.hold j).2 == []) (upTo c.chn.total)
    let act := (upTo c.chn.total).foldl (fun tb j =>
      let h := Tab.get (0, []) c.bal.hold j
      if h.1 = f then forUp 16 (fun ch tb => Tab.put 0 tb (slotKey j ch) (min win (h.2.getD ch 0))) tb else tb) []
    let short := (upTo c.chn.total).any (fun j =>
      let h := Tab.get (0, []) c.bal.hold j
      decide (h.1 = f) && h.2.any (fun t => decide (win < t)))
    let c1 := { c with bal := { c.bal with act := act, hold := [] } }
    let c2 := c1.wrB F.BAL_STAT.TRUNC (cut || short)
    c2.when (decide (0 < miss) && !c.standby) (fun c => (c.cntSat F.BAL_CNT.MISS miss).wr F.BAL_STAT.SCHEDMISS 1)

/-! ### Node die temperature (R157) -/

/-- R157: the duty state after a reading: 0 FULL, 1 HALF, 2 STOP. -/
def dutyNext (thalf tstop tres : Nat) (st : Nat) (t : Int) : Nat :=
  if (tstop : Int) ≤ t then 2
  else match st with
    | 0 => if (thalf : Int) ≤ t then 1 else 0
    | 1 => if t ≤ (tres : Int) then 0 else 1
    | _ => if t ≤ (tres : Int) then 1 else 2

/-- R26: a node diagnostic read may take place: in Emmer one node in 10 frames; otherwise in background chain time behind burst readout (R96, R179). -/
def Core.diagMay (c : Core) : Bool :=
  c.behindBurst && !(c.prof == 1 && (match c.chn.diagF with | some f => decide ((c.rd F.TICK_FNUM.FNUM + 2 ^ 32 - f) % 2 ^ 32 < 10) | none => false))

/-- R157, R85: a DIAG read of node `j` brings its die temperature and, for a version 1 node, its fault. -/
def nodeDiag (j : Nat) (t : Int) (fault serial : Nat) (c0 : Core) : Core :=
  if !c0.diagMay then c0 else
  let c := nodeBack j serial { c0 with chn := { c0.chn with diagF := some (c0.rd F.TICK_FNUM.FNUM) } }
  let st := (c.node j).duty
  let nx := dutyNext (c.rd F.BAL_NODE.THALF) (c.rd F.BAL_NODE.TSTOP) (c.rd F.BAL_NODE.TRESUME) st t
  let c1 := c.setNode j (fun n => { n with duty := nx, response := true })
  let c2 := c1.wrB (F.CHN_NINFO.FAULT j) (fault != 0)
  c2.when (nx == 2 && st != 2) (fun c => (c.wr F.BAL_STAT.NODEHOT 1).raise 41 j j)

/-! ### Bias between strings (R158, R159) -/

/-- R158: the bias target in 0.001 % for a SOC difference in 0.01 %. -/
def biasTarget (gain db limit : Nat) (d : Int) : Int :=
  if absI d ≤ 10 * db then 0
  else clampI (-(10 * (min limit 50 : Nat) : Int)) (10 * (min limit 50 : Nat)) (roundDiv (gain * d) 100)

/-- A value moves toward a target by at most a step. -/
def slewTo (step : Int) (x target : Int) : Int := x + clampI (-step) step (target - x)

/-- R158, R159: the bias at an epoch boundary; it governs from the next tick boundary. DESIGN CHOICE (notes/assumptions/77): the sheaf mean
that it takes is the one that stood before this boundary. -/
def biasUpdate (c : Core) : Core :=
  let src := c.on F.SHF_STAT.SOCVALID
  let hold := c.inSlot
  let soc := c.rd F.EST_SSOC.SOC
  let d : Int := if soc = 65535 then Config.freeInt 1 c.free else (soc : Int) - c.rd F.SHF_SOCMEAN.SOC
  let bt := if !c.on F.BAL_SOCB_CFG.EN || !src || hold then 0
    else biasTarget (c.rd F.BAL_SOCB_CFG.GAIN) (c.rd F.BAL_SOCB_CFG.DB) (c.rd F.BAL_SOCB_CFG.LIMIT) d
  let b := clampI (-500) 500 (slewTo (c.rd F.BAL_SOCB_CFG.SLEW) (c.rdS F.BAL_SOCB.ACT) bt)
  ((({ c with bal := { c.bal with biasNext := some b } }).wrB F.BAL_SOCB.SRC src).wrB F.BAL_SOCB.HOLD hold).tickFree

/-! ### Cooling (R160 to R162) -/

/-- The temperatures of the positions that have one. -/
def Core.temps (c : Core) : List Int := c.slots.filterMap c.posTemp

/-- R160: the valid impedance-derived temperatures. -/
def Core.timps (c : Core) : List Int := c.slots.filterMap c.timp

/-- R160: T_max and T_min, if any position has a temperature. -/
def Core.tMaxMin (c : Core) : Option (Int × Int) :=
  match c.temps with
  | [] => none
  | t :: ts => some (maxI t (ts ++ c.timps), minI t ts)

/-- R160: the demand target in percent. -/
def demandTarget (ts tf t : Int) : Nat :=
  if t ≤ ts then 0 else if tf ≤ t then 100 else (100 * (t - ts) / (tf - ts)).toNat

/-- R160: the demand after an epoch of `clk` clocks: a rise at once, a fall by at most FALL percent a second. The second
component carries the fraction of a percent not yet taken. -/
def demandMove (fall clk frac cur tgt : Nat) : Nat × Nat :=
  if cur ≤ tgt then (tgt, 0) else
    let q := frac + max 1 fall * clk
    let drop := q / 500000000
    if cur - drop ≤ tgt then (tgt, 0) else (cur - drop, q % 500000000)

/-- R160: the cooling demand at an epoch boundary whose epoch lasted `clk` clocks. -/
def coolingUpdate (clk : Nat) (c : Core) : Core :=
  match c.tMaxMin with
  | none => (c.wr F.BAL_TEXT.TMAX 32768).wr F.BAL_TEXT.TMIN 32768
  | some (tx, tn) =>
    let tgt := demandTarget (c.rdS F.BAL_COOL_CFG.TSTART) (c.rdS F.BAL_COOL_CFG.TFULL) tx
    let m := demandMove (c.rd F.BAL_COOL_CFG2.FALL) clk c.bal.fallFrac (c.rd F.BAL_COOL.DEMAND) tgt
    let heat := decide (tn < c.rdS F.BAL_COOL_CFG2.THEAT) && m.1 == 0
    let due := decide (5 ≤ absI ((m.1 : Int) - c.bal.sentDemand)) || heat != c.bal.sentHeat
    let c1 := { c with bal := { c.bal with fallFrac := m.2, msgDue := c.bal.msgDue || due } }
    (((c1.wr F.BAL_COOL.DEMAND m.1).wrB F.BAL_COOL.HEAT heat).wrS F.BAL_TEXT.TMAX tx).wrS F.BAL_TEXT.TMIN tn

/-- R161: the eight bytes of the cooling message with counter `seq`. -/
def Core.coolingData (c : Core) (seq : Nat) : List Nat :=
  let der := decide (c.rd F.BAL_DRF.FC < 32768) || decide (c.rd F.BAL_DRF.FD < 32768)
  let tx := c.rd F.BAL_TEXT.TMAX
  let tn := c.rd F.BAL_TEXT.TMIN
  [c.rd F.BAL_COOL.DEMAND, c.rd F.BAL_COOL.HEAT + 2 * b2n der, tx % 256, tx / 256, tn % 256, tn / 256,
    c.rd F.SHF_ID.PID % 256, seq]

/-- R162: the cooling unit's status has been missing for TIMEOUT seconds. -/
def coolingLost (c : Core) : Core :=
  if c.rd F.BAL_COOL_CFG2.TIMEOUT = 0 then c
  else (c.wr F.BAL_STAT.COOLLOST 1).raise 42 0 0

/-! ### Derating (R163, R164) -/

/-- R164: the order of a breakpoint set. -/
def DrSet.ok (d : DrSet) : Bool := decide (d.tl0 < d.tl1) && decide (d.tl1 ≤ d.th1) && decide (d.th1 < d.th0)

/-- R163: the low-side ramp. -/
def drLow (d : DrSet) (t : Int) : Nat :=
  if t ≤ d.tl0 then 0 else if d.tl1 ≤ t then 32768 else (32768 * (t - d.tl0) / (d.tl1 - d.tl0)).toNat

/-- R163: the high-side ramp. -/
def drHigh (d : DrSet) (t : Int) : Nat :=
  if d.th0 ≤ t then 0 else if t ≤ d.th1 then 32768 else (32768 * (d.th0 - t) / (d.th0 - d.th1)).toNat

/-- R163: a derating factor, 0x8000 = 1.0. -/
def drFactor (d : DrSet) (tmax tmin : Int) : Nat := min (drLow d tmin) (drHigh d tmax)

/-- The charge set that the registers hold. -/
def Core.drcWant (c : Core) : DrSet := ⟨c.rdS F.BAL_DRC_L.TL0, c.rdS F.BAL_DRC_L.TL1, c.rdS F.BAL_DRC_H.TH1, c.rdS F.BAL_DRC_H.TH0⟩

/-- The discharge set that the registers hold. -/
def Core.drdWant (c : Core) : DrSet := ⟨c.rdS F.BAL_DRD_L.TL0, c.rdS F.BAL_DRD_L.TL1, c.rdS F.BAL_DRD_H.TH1, c.rdS F.BAL_DRD_H.TH0⟩

/-- R164: the sets commit if valid. -/
def deratingCommit (c : Core) : Core :=
  let bc := if c.drcWant.ok then c.drcWant else c.bal.drC
  let bd := if c.drdWant.ok then c.drdWant else c.bal.drD
  ({ c with bal := { c.bal with drC := bc, drD := bd } }).wrB F.BAL_STAT.DRERR (!(c.drcWant.ok && c.drdWant.ok))

/-- R163, R164: the factors published at an epoch boundary, governing from the next tick boundary. -/
def deratingPublish (c : Core) : Core :=
  let f := match c.tMaxMin with
    | none => (0, 0)
    | some (tx, tn) => (drFactor c.bal.drC tx tn, drFactor c.bal.drD tx tn)
  { c with bal := { c.bal with drfNext := some f } }

/-- R158, R163: at a tick boundary the published bias and factors govern. -/
def balTick (c : Core) : Core :=
  let c1 := match c.bal.biasNext with | some b => c.wrS F.BAL_SOCB.ACT b | none => c
  let c2 := match c.bal.drfNext with | some (fc, fd) => (c1.wr F.BAL_DRF.FC fc).wr F.BAL_DRF.FD fd | none => c1
  { c2 with bal := { c2.bal with biasNext := none, drfNext := none } }

end Sys2Proof.Machine
end

