-- ==== Sys2Proof/Machine/Imp.lean ====
section
/-! DEFINITION. IMP, in-service impedance measurement (R171 to R195): frequency sets, the perturbation, the burst from due to
published, demodulation, impedance-derived temperature. -/

namespace Sys2Proof.Machine

/-! ### Frequency sets (R171, R172) -/

/-- R171: the spacing used, at least 250 µs. -/
def burstSpace (space p : Nat) : Nat := max space (ceilDiv 125000 p)

/-- R172: an enabled BIN lies in its range at spacing `sb` and tick length `p`. -/
def binOk (sb p b : Nat) : Bool :=
  decide (1 ≤ b) && decide (b ≤ 1023) && decide (sb * p * 2048 ≤ 1000000000 * b) && decide (500000000 * b ≤ 4096000 * (sb * p))

/-- Two equal entries stand in a list. -/
def hasDup : List Nat → Bool
  | [] => false
  | x :: xs => xs.contains x || hasDup xs

/-- R172, R193: the check of a set: 0 valid, 1 out of range, 2 duplicate, 3 none enabled. DESIGN CHOICE (notes/assumptions/70): of two
that hold the lower value shows. -/
def setErr (sb p : Nat) (bins : List Nat) : Nat :=
  let en := bins.filter (fun b => b != 0)
  if en = [] then 3 else if !en.all (binOk sb p) then 1 else if hasDup en then 2 else 0

/-- The BINs the registers hold. -/
def Core.bins (c : Core) : List Nat :=
  [c.rd F.IMP_FREQ0.BIN, c.rd F.IMP_FREQ1.BIN, c.rd F.IMP_FREQ2.BIN, c.rd F.IMP_FREQ3.BIN,
   c.rd F.IMP_FREQ4.BIN, c.rd F.IMP_FREQ5.BIN, c.rd F.IMP_FREQ6.BIN, c.rd F.IMP_FREQ7.BIN]

/-- The state IMP_STAT shows. -/
def Core.impState (c : Core) : Nat := c.rd F.IMP_STAT.STATE

/-- R171, R172: the check of a set at tick length `p`. -/
def ImpSet.err (s : ImpSet) (p : Nat) : Nat := setErr (burstSpace s.space p) p s.bins

/-- R172: at a frame boundary without pre-roll or capture the held writes commit and the set is checked against the active tick. An
invalid set keeps the previous one in force, if that is valid at this tick length (DEDUCED, notes/assumptions/60); one that is not is dropped for good (DESIGN CHOICE,
notes/assumptions/60). -/
def impCfg (c : Core) : Core :=
  if c.impState = 2 ∨ c.impState = 3 then c else
    let c1 := c.commit (fun w => w.fld.cls == .burst)
    let want : ImpSet := ⟨c1.rd F.IMP_BCFG.SPACE, max 1 (c1.rd F.IMP_BCFG.PRE), c1.bins⟩
    let e := want.err c1.period
    let c2 := c1.wr F.IMP_BCFG.ERR e
    { c2 with imp := { c2.imp with set := if e = 0 then some want else c1.imp.set.filter (fun s => s.err c1.period == 0) } }

/-! ### The perturbation (R173 to R175) -/

/-- R173: A_peak in mA. -/
def peakMa (irated pct : Nat) : Nat := min (max (min 50 (max 20 pct) * irated) 2000) (50 * irated)

/-- R173: the sum of the K enabled components at `tau` ticks from the first burst instant, scaled by 2^40. -/
def multiSine (sb : Nat) (en : List Nat) (tau : Int) : Int :=
  let kk := en.length
  sumI ((upTo kk).map (fun i =>
    let k := i + 1
    let ph : Int := (en.getD i 0 * 2 ^ 40 : Nat) * tau / (2048 * sb : Nat) - ((k * (k - 1) * 2 ^ 39 / kk : Nat) : Int)
    cosTurn (ph % (2 ^ 40 : Nat)).toNat))

/-- R173: the peak of the sum over one capture. -/
def multiPeak (sb : Nat) (en : List Nat) : Int :=
  (upTo (2048 * sb)).foldl (fun (m : Int) (t : Nat) => if m < absI (multiSine sb en t) then absI (multiSine sb en t) else m) 1

/-- R173: the component amplitude in µA whose sum peaks at A_peak. -/
def compAmp (sb : Nat) (en : List Nat) (peak : Nat) : Nat := ((peak * 1000 * 2 ^ 40 : Nat) / multiPeak sb en).toNat

/-- R174: the setpoint in mA at a tick count. -/
def perturbAt (i : ImpSt) (tick : Nat) : Int :=
  if i.pert then
    roundDiv (i.amp * multiSine i.own.space (i.own.bins.filter (fun b => b != 0)) ((tick : Int) - i.t0)) (1000 * 2 ^ 40)
  else 0

/-- R174, R175: the operand that governs; a burst that ends leaves it until the next tick boundary. -/
def ImpSt.operand (i : ImpSt) : Int := i.perturb

/-- R174: at a tick boundary the value computed at the boundary before commits, and IMP computes the waveform for the new tick count. -/
def impTick (c : Core) : Core :=
  { c with imp := { c.imp with
    perturb := if c.imp.pert then c.imp.wave else 0
    wave := perturbAt c.imp c.tbTick
    since := c.imp.since + c.period
    tvAge := c.imp.tvAge + c.period } }

/-! ### The life of a burst (R175 to R182) -/

/-- R26, R182: IMP runs bursts: the profile is Spelt or Emmer, and the module owns the chain. -/
def Core.runsBursts (c : Core) : Bool := decide (0 < profImp c.prof) && !c.standby

/-- R181: a burst in pre-roll, capture or readout is abandoned. -/
def burstAbandon (cause : Nat) (c : Core) : Core :=
  if c.impState = 2 ∨ c.impState = 3 ∨ c.impState = 4 then
    let c1 := { c with imp := { c.imp with
      pert := false, since := 0, used := false, cur := [], buf := [], asks := [], bad := [], acked := [], ntc0 := [], ntc1 := [] } }
    (((c1.wrB F.IMP_STAT.STATE c.imp.due).wr F.IMP_STAT.ABCAUSE cause).cntSat F.IMP_CNT.ABORTED).raise 44 0 cause
  else c

/-- R182: a burst falls due. -/
def burstDue (c : Core) : Core :=
  { c with imp := { c.imp with due := true, defRaised := false } }.when (c.impState == 0) (fun c => c.wr F.IMP_STAT.STATE 1)

/-- R182: the profile interval has elapsed; one interval makes one burst due. -/
def burstInterval (c : Core) : Core :=
  if c.on F.IMP_CTRL.EN && c.runsBursts && decide (profImp c.prof ≤ c.imp.since) && !c.imp.used then
    ({ c with imp := { c.imp with used := true } } : Core).when (!c.imp.due) burstDue
  else c

/-- R182: GO; ignored in Durum and Millet, and by a standby. -/
def impGo (c : Core) : Core :=
  if !c.runsBursts then c.wr F.IMP_CTRL.GO 0
  else if c.impState = 0 then burstDue (c.wr F.IMP_CTRL.GO 1)
  else (c.wr F.IMP_CTRL.GO 1).wr F.IMP_STAT.GOPEND 1

/-- R182: a burst that is due, and a GO held pending, are dropped: where no burst runs there is none to start. DESIGN CHOICE
(notes/assumptions/53): a switch to Durum or Millet does so. -/
def burstDrop (c : Core) : Core :=
  (((({ c with imp := { c.imp with due := false, used := false, defRaised := false } } : Core).wr F.IMP_STAT.GOPEND 0).wr F.IMP_CTRL.GO 0).wr
    F.IMP_STAT.DEFER 0).when (c.impState == 1) (fun c => c.wr F.IMP_STAT.STATE 0)

/-- R182: the first deferral condition that holds. -/
def deferCause (c : Core) : Nat :=
  if c.rd F.CNV_STAT.STATE ≠ 3 then 1
  else if c.rd F.EST_REST_CTRL.STATE = 2 then 2
  else if c.impState ≠ 0 ∧ c.impState ≠ 1 then 3
  else if 2 ≤ c.rd F.THM_LVL.LVL then 4
  else if c.chn.run.isSome then 5
  else if c.imp.set.isNone then 6
  else 0

/-- R175: the pre-roll of a due burst starts at a frame boundary, at which the waveform is computed for the first time. -/
def prerollStart (s : ImpSet) (c : Core) : Core :=
  let own : ImpSet := { s with space := burstSpace s.space c.period }
  let amp := compAmp own.space (s.bins.filter (fun b => b != 0)) (peakMa (c.rd F.IMP_AMP.IRATED) (c.rd F.IMP_AMP.PCT))
  let f := c.rd F.TICK_FNUM.FNUM
  let i : ImpSt := { c.imp with
    due := false, defRaised := false, own := own, bnum := c.imp.bnum + 1, startF := (f + s.pre) % 2 ^ 32, amp := amp, pert := true
    t0 := c.tbTick + s.pre * c.nf + 40, perturb := 0, acked := [], cur := [], buf := [], asks := [], bad := [], ntc0 := [], ntc1 := [] }
  let c1 := { c with imp := { i with wave := perturbAt i c.tbTick } }
  (((c1.wr F.IMP_STAT.STATE 2).wr F.IMP_GAIN.AMP (roundDivN amp 1000)).wr F.IMP_CTRL.GO (c.rd F.IMP_STAT.GOPEND))

/-- R182: at a frame boundary a due burst starts or is deferred. -/
def burstBoundary (c : Core) : Core :=
  if c.imp.due && c.runsBursts then
    let d := deferCause c
    let c1 := c.wr F.IMP_STAT.DEFER d
    if d = 0 then (match c.imp.set with | some s => prerollStart s c1 | none => c1)
    else if c.imp.defRaised then c1
    else ({ c1 with imp := { c1.imp with defRaised := true } }).raise 45 0 d
  else c.wr F.IMP_STAT.DEFER 0

/-- R176: the setup WRCFG goes to every node; the nodes named acknowledge it, which is an answer (R103). DESIGN CHOICE
(notes/assumptions/67): it is one broadcast, with the start frame in 4 bytes, s_b in one and the burst number in 4, in this order. -/
def burstSetup (acks : List NodeAck) (c : Core) : Core :=
  if c.impState = 2 then
    (nodesAnswer (acks.map (fun a => (a.node, a.serial))) { c with imp := { c.imp with acked := acks.map NodeAck.node } }).packet 3 6 63
      (leBytes 4 c.imp.startF ++ [c.imp.own.space % 256] ++ leBytes 4 (c.imp.bnum % 2 ^ 32))
  else c

/-- R174: in pre-roll the first burst instant follows from the frame length that governs; the waveform of this boundary counts from it. -/
def prerollOrigin (f : Nat) (c : Core) : Core :=
  if c.impState = 2 then
    let i : ImpSt := { c.imp with t0 := c.tbTick + (c.imp.startF + 2 ^ 32 - f) % 2 ^ 32 * c.nf + 40 }
    { c with imp := { i with wave := perturbAt i c.tbTick } }
  else c

/-- R176, R177, R181: at the boundary of frame `f` capture starts with the start frame; the nodes must have acknowledged. -/
def captureBoundary (f : Nat) (c : Core) : Core :=
  if c.impState = 2 ∧ c.imp.startF = f then
    if (upTo c.chn.total).all (fun j => c.imp.acked.contains j && c.on (F.CHN_NINFO.REACH j)) then
      ({ c with imp := { c.imp with capFrame := true } }).wr F.IMP_STAT.STATE 3
    else burstAbandon 2 { c with imp := { c.imp with capFrame := false } }
  else { c with imp := { c.imp with capFrame := c.impState == 3 } }

/-- R176, R178: burst instant j lies in tick 40 + j * s_b from the start frame's boundary; there SDM latches the current into IMP;
`missed` are nodes that did not arm on the start frame's SYNC. -/
def burstSample (cur : Int) (missed : List Nat) (c : Core) : Core :=
  if c.impState = 3 && c.tbTick == c.imp.t0 + c.imp.cur.length * c.imp.own.space then
    if c.imp.cur = [] ∧ missed ≠ [] then burstAbandon 2 c
    else
      let c1 := { c.tickFree with imp := { c.imp with cur := c.latched cur :: c.imp.cur } }
      if c.imp.cur.length + 1 = 2048 then
        ({ c1 with imp := { c1.imp with pert := false, since := 0, used := false } }).wr F.IMP_STAT.STATE 4
      else c1
  else c

/-- R179: the link time in clocks of 2 ns of a side, whose nodes run from `lo` to `hi`, with the slowest version on it. -/
def Core.sideTime (c : Core) (lo hi : Nat) : Nat :=
  (hi - lo) * (if (upTo hi).any (fun j => decide (lo ≤ j) && c.rd (F.CHN_NINFO.VER j) == 1) then 13132800 else 12806400)

/-- R179: the readout estimate in frames, from the longer side. -/
def Core.burstRoEst (c : Core) : Nat :=
  let a := c.chn.split
  let b := c.chn.total - a
  let t := if b < a then c.sideTime 0 a else if a < b then c.sideTime a c.chn.total
    else max (c.sideTime 0 a) (c.sideTime a c.chn.total)
  ceilDiv t ((c.nf - deadlineTick c.prof c.meas.n c.meas.s c.nf) * c.period)

/-- R179: ROEST shows the estimate for the active layout. -/
def showRoEst (c : Core) : Core := c.wr F.IMP_STAT.ROEST c.burstRoEst

/-- R179: burst readout starts, at least 20 tk after the last burst instant, in the chain time behind the bleed schedule. DESIGN CHOICE
(notes/assumptions/66): the READ with index 0xFF asks for the burst buffer, as it asks for the results of a frame. -/
def readoutStart (c : Core) : Core :=
  if c.burstReads && c.behindBleed then
    (upTo c.chn.total).foldl (fun c j => c.packet (c.homePort j + 1) 2 j [255]) c
  else c

/-- R185: the samples of a slot have come in full, or R180's requests have not brought a packet of them. -/
def ImpSt.slotOver (i : ImpSt) (k : Nat) : Bool := (Tab.get [] i.buf k).length == 2048 || Tab.get 0 i.asks k == 3

/-- R186: burst readout has ended for every slot, and demodulation starts. -/
def readoutOver (c : Core) : Core := if c.slots.all c.imp.slotOver then c.wr F.IMP_STAT.STATE 5 else c

/-- R180: a BURST packet of slot `k` has failed its CRC: it is asked for through the other port first, then once more through the
original one, then no more. -/
def burstAgain (port j k : Nat) (c : Core) : Core :=
  let n := min 3 (Tab.get 0 c.imp.asks k + 1)
  let p := if n = 1 then 1 - c.homePort j else c.homePort j
  let c1 := ({ c with imp := { c.imp with asks := Tab.put 0 c.imp.asks k n } }).cntSat (crcCnt port)
  if n = 3 then readoutOver c1 else (c1.cntSat (retryCnt p)).packetAgain (p + 1) 2 j [255]

/-- R80, R103, R180: a BURST packet of node `j` brings samples of one channel; those that complete in one packet are at most 43 in
version 1 and 86 in version 2 (R85). The nodes send them to READs in the chain time of burst readout (R96, R179); a packet at another
time answers none. -/
def burstPacket (port : Nat) (crcOk : Bool) (j ch : Nat) (samples : List Nat) (serial : Nat) (c0 : Core) : Core :=
  if c0.burstReads && c0.behindBleed && decide (j < c0.chn.total) then
    let k := slotKey j ch
    if !crcOk then burstAgain port j k c0
    else if 3 * samples.length ≤ c0.maxPayload j + 2 then
      let c := nodeAnswers j serial c0
      readoutOver { c with imp := { c.imp with
        buf := Tab.put [] c.imp.buf k ((Tab.get [] c.imp.buf k ++ samples).take 2048)
        asks := if Tab.get 0 c.imp.asks k = 3 then c.imp.asks else Tab.put 0 c.imp.asks k 0 } }
    else c0
  else if crcOk then c0 else c0.cntSat (crcCnt port)

/-! ### Demodulation (R183 to R191) -/

/-- Least-squares sums of a record: Σ v and Σ u·v with u = 2j - (N - 1). -/
def lineSums : List Int → Int → Int × Int
  | [], _ => (0, 0)
  | v :: vs, u => let r := lineSums vs (u + 2); (v + r.1, u * v + r.2)

/-- R183: the record less its least-squares line, scaled by N·S with S = Σ u². -/
def detrend (v : List Int) : List Int :=
  let n : Int := v.length
  let s : Int := n * (n * n - 1) / 3
  let m := lineSums v (1 - n)
  (upTo v.length).map (fun j => n * s * v.getD j 0 - s * m.1 - n * m.2 * (2 * j - (n - 1)))

/-- R183: the Fourier sum of a record at a bin, without a window: real and imaginary part. -/
def dftAt (w : List Int) (bin : Nat) : Int × Int :=
  let n := w.length
  let r := (upTo n).foldl (fun (a : Int × Int) j =>
    let ph := (bin * j % n) * 2 ^ 40 / n
    (a.1 + w.getD j 0 * cosTurn ph, a.2 - w.getD j 0 * sinTurn ph)) (0, 0)
  (r.1 / 2 ^ 40, r.2 / 2 ^ 40)

/-- The squared magnitude of a complex number. -/
def mag2 (z : Int × Int) : Nat := (z.1 * z.1 + z.2 * z.2).toNat

/-- R184: the ratio of a magnitude to a mean of neighbours reaches `snr` dB; log10 2 scaled by 2^40 is 330985980541. -/
def snrOk (snr m mean : Nat) : Bool :=
  if mean = 0 then true else if m = 0 then false
  else decide ((snr : Int) * 2 ^ 80 ≤ 20 * 330985980541 * log2Fix m mean)

/-- R184: a frequency is good, judged on the detrended current record and the component amplitude in mA. -/
def freqGood (w : List Int) (amp imin snr bin : Nat) : Bool :=
  let n := w.length
  let m := isqrt (mag2 (dftAt w bin))
  let s := n * (n * n - 1) / 3
  let lo := isqrt (mag2 (dftAt w (bin - 1)))
  let hi := isqrt (mag2 (dftAt w (bin + 1)))
  let mean := if bin = 1023 then lo else (lo + hi) / 2
  bin != 0 && decide (imin * amp * (n * n * s) ≤ 200 * m) && snrOk snr m mean

/-- R183, R185: |Z| in nΩ, arg in turns of 2^40, Re in µΩ, from the Fourier sums of voltage and current; free values where
the current has no component. -/
def impedance (v i : Int × Int) : Nat × Nat × Int :=
  let i2 := mag2 i
  let re := v.1 * i.1 + v.2 * i.2
  let im := v.2 * i.1 - v.1 * i.2
  if i2 = 0 then ((Config.freeInt 2 0).toNat, (Config.freeInt 2 1).toNat % 2 ^ 40, Config.freeInt 2 2)
  else (isqrt (mag2 v * 6250000 ^ 2 / i2), angleTurn im re, roundDiv (6250 * re) i2)

/-- R185: MAG of |Z| in nΩ. -/
def magCode (zn zfs : Nat) : Nat :=
  if zfs = 0 then (Config.freeInt 3 zn).toNat % 32768 else min (roundDivN (32768 * zn) (1000 * zfs)) 32767

/-- R185: PH of an angle in turns of 2^40, in its 16-bit field. -/
def phCode (turn : Nat) : Nat := roundDivN (65536 * turn) (2 ^ 40) % 65536

/-- R189: the NTC channels that are fitted, with what they report and whether that is a reading of a channel that is not BROKEN. -/
def Core.ntcSnap (c : Core) : Tab (Int × Bool) :=
  (upTo (8 * c.chn.total)).filterMap (fun i =>
    let n := Tab.get {} c.meas.ntc i
    if c.fitted (i / 8) (i % 8) then some (i, (n.rep, !n.broken && n.has)) else none)

/-- R189: the channel `i` in a record, without a temperature where it is not fitted. -/
def snapAt (t : Tab (Int × Bool)) (i : Nat) : Int × Bool := Tab.get (-32768, false) t i

/-- R189: two records are isothermal within `iso`, and no channel moved by more than 1.0 °C. -/
def isothermal (iso : Nat) (a b : Tab (Int × Bool)) : Bool :=
  let flat := fun (t : Tab (Int × Bool)) => match (t.filter (fun p => p.2.2)).map (fun p => p.2.1) with
    | [] => true
    | x :: xs => decide (maxI x xs - minI x xs ≤ iso)
  flat a && flat b && (a ++ b).all (fun p => decide (absI ((snapAt b p.1).1 - (snapAt a p.1).1) ≤ 10))

/-- R177, R185, R189: the record of a frame that the capture overlaps: positions not VALID, and the NTC readings. -/
def impRecord (c : Core) : Core :=
  if c.imp.capFrame then
    let bad := c.slots.filter (fun k => !(c.pos k).valid && !c.imp.bad.contains k)
    let snap := c.ntcSnap
    { c with imp := { c.imp with
      bad := c.imp.bad ++ bad
      ntc0 := if c.rd F.TICK_FNUM.FNUM = c.imp.startF then snap else c.imp.ntc0
      ntc1 := snap } }
  else c

/-- What one position takes from a burst. -/
structure PosBurst where
  ok : Bool
  zs : List (Nat × Nat × Int)

/-- R183, R185: the impedances of a slot at the enabled BINs. -/
def posBurst (c : Core) (wi : List Int) (bins : List Nat) (k : Nat) : PosBurst :=
  let v := Tab.get [] c.imp.buf k
  let ok := decide (v.length = 2048) && Tab.get 0 c.imp.asks k != 3 && !c.imp.bad.contains k && v.all (fun x => decide (x < 800000))
  let w := detrend (v.map Int.ofNat)
  ⟨ok, if ok then bins.map (fun b => if b = 0 then (0, 0, 0) else impedance (dftAt w b) (dftAt wi b)) else []⟩

/-- R188: the SOC of a position lies where T_imp is valid. -/
def socMid (y : Int) : Bool := decide (2000 * 2 ^ 24 ≤ y * 10000) && decide (y * 10000 ≤ 8000 * 2 ^ 24)

/-- R195: a temperature in its 16-bit format, 0x8000 being none; one that does not fit is a free value (notes/assumptions/3). -/
def fitTemp (site : Nat) (t : Int) : Int := if -32768 < t ∧ t < 32768 then t else Config.freeTemp site

/-- R188 to R191: one position is published. -/
def posPublish (ops : Nat) (qok : Nat) (iso : Bool) (wi : List Int) (bins : List Nat) (i k : Nat) (c : Core) : Core :=
  let b := posBurst c wi bins k
  let old := Tab.get {} c.imp.res k
  let fs := c.rd F.IMP_TCFG.FSEL
  let af := c.rd F.IMP_TCFG2.AFSEL
  let z := fun f => b.zs.getD f (0, 0, 0)
  let ref := Tab.get {} c.imp.refs k
  let cond := b.ok && bitAt qok fs && !(c.ctx k).firstpend && socMid (c.ctx k).y
  let fresh := ref.z != 0 && decide (ops - ref.ops ≤ 2592000000)
  let ti := if cond && fresh && decide (0 < profImp c.prof) then (betaTemp (ref.t2 + 5463) (z fs).1 ref.z (c.rd F.IMP_TCFG.BZ)).map (fitTemp (z fs).1) else none
  let cov := c.ntcAt (k / 16) ((k % 16) / 2)
  let cmp := cov.has && !cov.broken && c.fitted (k / 16) ((k % 16) / 2)
  let off := match ti with | some t => cmp && decide ((c.rd F.IMP_TCFG2.XDEV : Int) < absI (t - cov.rep)) | none => false
  let near := match ti with | some _ => cmp && !off | none => false
  let xcnt := if off then old.xcnt + 1 else 0
  let xfail := if near then false else old.xfail || decide (3 ≤ xcnt)
  let ck := 8 * (k / 16) + (k % 16) / 2
  let both := (snapAt c.imp.ntc0 ck).2 && (snapAt c.imp.ntc1 ck).2
  let cal := cond && iso && cmp && both && !xfail && (z fs).1 != 0
  let res : ImpRes :=
    { mag := (upTo 8).map (fun f => if b.ok && bitAt qok f then magCode (z f).1 (c.rd F.IMP_ZFS.ZFS) else 0)
      ph := (upTo 8).map (fun f => if b.ok && bitAt qok f then phCode (z f).2.1 else 0)
      rvalid := b.ok, calib := cal, timp := ti, xfail := xfail, xcnt := min 3 xcnt }
  let refs := if cal then Tab.put {} c.imp.refs k ⟨(z fs).1, (snapAt c.imp.ntc0 ck).1 + (snapAt c.imp.ntc1 ck).1, ops⟩ else c.imp.refs
  let c1 := { c with imp := { c.imp with res := Tab.put {} c.imp.res k res, refs := refs } }
  let cx : Ctx := { c1.ctx k with rimpNew := some ((z af).2.2, ops) }
  let c2 := if b.ok && bitAt qok af then { c1 with est := { c1.est with pos := Tab.put {} c1.est.pos k cx } } else c1
  c2.when (xfail && !old.xfail) (fun c => (c.wr F.IMP_STAT.XFAILSEEN 1).raise 46 i i)

/-- R183 to R191: demodulation completes and IMP publishes the burst in one step. -/
def burstPublish (ops : Nat) (c : Core) : Core :=
  if c.impState = 5 then
    let s := c.imp.own
    let wi := detrend c.imp.cur.reverse
    let qok := sumN ((upTo 8).map (fun f =>
      if freqGood wi (c.rd F.IMP_GAIN.AMP) (c.rd F.IMP_QCFG.IMIN) (c.rd F.IMP_QCFG.SNR) (s.bins.getD f 0) then 2 ^ f else 0))
    let iso := isothermal (c.rd F.IMP_TCFG.ISO) c.imp.ntc0 c.imp.ntc1
    let ks := c.slots
    let c1 := forUp ks.length (fun i c => posPublish ops qok iso wi s.bins i (ks.getD i 0) c) c
    let c2 := { c1 with imp := { c1.imp with
      qok := qok, pubStart := c1.imp.startF, pubBins := s.bins, pubSpace := s.space, tvAge := 0
      cur := [], buf := [], asks := [], bad := [], acked := [], ntc0 := [], ntc1 := [] } }
    let c3 := (((c2.cntSat F.IMP_CNT.DONE).wr F.IMP_BNUM.BNUM c.imp.bnum).wrB F.IMP_STAT.STATE c.imp.due).raise 43 0 c.imp.bnum
    if c.on F.IMP_STAT.GOPEND then burstDue ((c3.wr F.IMP_STAT.GOPEND 0).wr F.IMP_STAT.STATE 0) else c3
  else c

/-- R188: no T_imp is valid any more. -/
def timpClear (c : Core) : Core :=
  { c with imp := { c.imp with res := c.imp.res.map (fun (p : Nat × ImpRes) => (p.1, { p.2 with timp := none })) } }

/-- R188: a T_imp has stood for two profile intervals. -/
def timpExpire (c : Core) : Core := if 2 * profImp c.prof ≤ c.imp.tvAge then timpClear c else c

/-- R195: the results of one position are copied into the window. -/
def impSelect (p : Nat) (c : Core) : Core :=
  let k := c.slots.getD p 0
  let ok := decide (p < c.slots.length)
  let r := Tab.get {} c.imp.res k
  let c1 := (c.wr F.IMP_RSEL.POS p).wr F.IMP_RQ.QOK (if ok then c.imp.qok else 0)
  let c2 := c1.wr F.IMP_RT.TIMP (if ok then (match r.timp with | some t => ofSigned 16 t | none => 32768) else 0)
  let c3 := ((c2.wrB F.IMP_RT.RVALID (ok && r.rvalid)).wrB F.IMP_RT.RCAL (ok && (Tab.get {} c.imp.refs k).z != 0)).wrB
    F.IMP_RT.XFAIL (ok && r.xfail)
  forUp 8 (fun f c => (c.wr (F.IMP_RZ.MAG f) (if ok then r.mag.getD f 0 else 0)).wr (F.IMP_RZ.PH f) (if ok then r.ph.getD f 0 else 0)) c3

end Sys2Proof.Machine
end

