-- ==== Sys2Proof/Machine/Est.lean ====
section
/-! DEFINITION. EST, state of charge, capacity and health (R196 to R228): contexts, counting, anchors, the end rules, rest slots
and gleaning, learning, saves, allowed currents. Charges are in mA times 2 ns; 0.01 Ah is 18·10^12 of them. -/

namespace Sys2Proof.Machine

/-- Full charge on the scale of x and y (R196). -/
def full : Nat := 2 ^ 24

/-- 0.01 Ah in mA times 2 ns. -/
def chargeUnit : Nat := 18000000000000

/-- One second in CTL clocks. -/
def secClk : Nat := 500000000

/-- A SOC given in 0.01 %, on the scale of x and y. -/
def ofPct100 (v : Nat) : Nat := roundDivN (v * full) 10000

/-- A SOC given in 0.01 %, rounded up so that it reads back (R196). -/
def upPct100 (v : Nat) : Nat := ceilDiv (v * full) 10000

/-- An uncertainty given in 0.01 %, on the scale of u, rounded up so that it reads back. -/
def uOfPct100 (v : Nat) : Nat := ceilDiv (v * 2 ^ 40) 10000

/-- Change one context. -/
def Core.setCtx (c : Core) (k : Nat) (x : Ctx) : Core := { c with est := { c.est with pos := Tab.put {} c.est.pos k x } }

/-- The accumulators of a slot. -/
def Core.acc (c : Core) (k : Nat) : PosAcc := Tab.get {} c.est.acc k

/-- Change the accumulators of a slot. -/
def Core.setAcc (c : Core) (k : Nat) (a : PosAcc) : Core := { c with est := { c.est with acc := Tab.put {} c.est.acc k a } }

/-- The slots whose positions are not LOST. -/
def Core.liveSlots (c : Core) : List Nat := c.slots.filter (fun k => !(c.pos k).lost)

/-! ### Resistance (R204) -/

/-- R204: the governing R_p in µΩ and its source code, at TB_OPS `ops` in a profile. -/
def Core.rp (c : Core) (ops : Nat) (x : Ctx) : Int × Nat :=
  let step : Int × Nat := match x.rstep with | some r => (r, 1) | none => (c.rd F.EST_RNOM.R, 0)
  match x.rimp with
  | some (r, t) => if decide (0 < profImp c.prof) && decide ((ops - t) * 500000 ≤ 2 * profImp c.prof) then (r, 2) else step
  | none => step

/-- A resistance or a ratio of one in an unsigned register; for a negative one the spec states no value: it is free
(notes/assumptions/3). -/
def natOr (site : Nat) (v : Int) : Nat := if v < 0 then (Config.freeInt site v.natAbs).toNat else v.toNat

/-- R204: a step estimate from the voltage change in 100 µV and the current change in mA between two records. -/
def stepUpdate (rnom : Nat) (dv di : Int) (old : Option Nat) : Option Nat :=
  if di = 0 then old else
    let rm := roundDiv (absI dv * 100000 * (if (dv < 0) = (di < 0) then 1 else -1)) (absI di)
    match old with
    | none => if (rnom : Int) ≤ 2 * rm ∧ rm ≤ 2 * rnom then some rm.toNat else none
    | some r => if (r : Int) ≤ 2 * rm ∧ rm ≤ 2 * r then some ((r : Int) + roundDiv (rm - r) 16).toNat else some r

/-! ### The OCV table (R202) -/

/-- R202: point `i` of the table at a temperature in 0.1 °C, in 0.1 µV. -/
def ocvPt (tb : List Nat) (t : Int) (i : Nat) : Int :=
  let a : Int := tb.getD i 0
  let b : Int := tb.getD (21 + i) 0
  let d : Int := tb.getD (42 + i) 0
  if t ≤ 0 then a * 1000 else if 450 ≤ t then d * 1000
  else if t ≤ 250 then a * 1000 + (b - a) * t * 4 else b * 1000 + (d - b) * (t - 250) * 5

/-- R202: open-circuit voltage in 0.1 µV at a SOC. -/
def ocvAt (tb : List Nat) (t : Int) (x : Nat) : Int :=
  let i := min 19 (x * 20 / full)
  let fr : Int := x * 20 - i * full
  ocvPt tb t i + (ocvPt tb t (i + 1) - ocvPt tb t i) * fr / (full : Int)

/-- The segment a voltage lies in, counted down from `i`. -/
def ocvSeg (tb : List Nat) (t v : Int) : Nat → Nat
  | 0 => 0
  | i + 1 => if ocvPt tb t (i + 1) ≤ v then i + 1 else ocvSeg tb t v i

/-- R202, R206: the table SOC of a voltage in 0.1 µV, and the rise of its segment, at least 0.05 mV (0.01 mV per % over 5 %).
Beyond the ends of the table the SOC is a free value in range. -/
def socOf (tb : List Nat) (t v : Int) : Nat × Nat :=
  let i := ocvSeg tb t v 19
  let p := ocvPt tb t i
  let q := ocvPt tb t (i + 1)
  let d := (max (q - p) 500).toNat
  if v < ocvPt tb t 0 ∨ ocvPt tb t 20 < v then ((Config.freeInt 4 v.toNat).toNat % (full + 1), d)
  else ((((i : Int) * full + (v - p) * full / max (q - p) 1) / 20).toNat, d)

/-- R202: every column strictly rises. -/
def ocvOk (tb : List Nat) : Bool :=
  (upTo 3).all (fun t => (upTo 20).all (fun i => decide (tb.getD (21 * t + i) 0 < tb.getD (21 * t + i + 1) 0)))

/-- The table the registers hold. -/
def Core.ocvRegs (c : Core) : List Nat := (upTo 3).flatMap (fun t => (upTo 21).map (fun i => c.rd (F.EST_OCV.V t i)))

/-- R202: the table commits if it rises; OCVERR tells. -/
def ocvCommit (c : Core) : Core :=
  let tb := c.ocvRegs
  if ocvOk tb then ({ c with est := { c.est with ocv := some tb } }).wr F.EST_STAT.OCVERR 0 else c.wr F.EST_STAT.OCVERR 1

/-- R202: the temperature used for a position. -/
def Core.ocvTemp (c : Core) (k : Nat) : Int := (c.posTemp k).getD 250

/-! ### Anchors (R205 to R208, R211) -/

/-- R205: the epochs of the last 60 s of a rest, newest first. -/
def last60 : List EpAgg → Nat → List EpAgg
  | [], _ => []
  | e :: es, t => if 60 * secClk ≤ t then [] else e :: last60 es (t + e.clk)

/-- R205: the relaxation check over the last 60 s: VALID throughout and steady. -/
def relaxed (dvdt : Nat) (h : List EpAgg) : Bool :=
  let w := last60 h 0
  let lo := w.foldl (fun m e => min m e.lo) 65535
  let hi := w.foldl (fun m e => max m e.hi) 0
  w.all (fun e => e.ok) && decide (60 * secClk ≤ sumN (w.map EpAgg.clk)) && decide (0 < sumN (w.map EpAgg.n)) && decide (hi ≤ lo + dvdt)

/-- R206: the mean value over the last 60 s, in 0.1 µV. -/
def relaxMean (h : List EpAgg) : Int :=
  let w := last60 h 0
  (sumN (w.map EpAgg.sum) * 1000 / max 1 (sumN (w.map EpAgg.n)) : Nat)

/-- R206: the anchor uncertainty on the scale of u, from a voltage error in 0.1 mV and a segment rise in 0.1 µV. -/
def anchorU (verr d : Nat) : Nat := verr * 50 * 2 ^ 40 / d

/-- R206: an anchor with gain from the uncertainties. -/
def anchor (u0 ua soc : Nat) (x : Ctx) : Ctx :=
  let s := x.u * x.u + ua * ua
  if s = 0 then { x with x := ((Config.freeInt 5 soc).toNat % (full + 1) : Nat), u := u0 }
  else { x with
    x := x.x + roundDiv ((x.u * x.u : Nat) * ((soc : Int) - x.x)) s
    u := max (x.u * ua / max 1 (isqrt s)) u0 }

/-- R206: A and H over the positions that are not LOST, in units of full charge times 0.01 Ah, if any exists. -/
def Core.aAndH (c : Core) : Option (Nat × Nat) :=
  match c.liveSlots with
  | [] => none
  | k :: ks =>
    let a := fun k => (c.ctx k).x.toNat * (c.ctx k).q
    let h := fun k => (full - (c.ctx k).x.toNat) * (c.ctx k).q
    some (ks.foldl (fun m k => min m (a k)) (a k), ks.foldl (fun m k => min m (h k)) (h k))

/-- R206: x_S from A and H; a free value where both are 0. -/
def Core.xString (c : Core) : Option Nat :=
  match c.aAndH with
  | none => none
  | some (a, h) => some (if a + h = 0 then (Config.freeInt 6 0).toNat % (full + 1) else a * full / (a + h))

/-- The string context takes x. -/
def Core.setXs (c : Core) (x : Option Nat) : Core :=
  match x with | some v => { c with est := { c.est with str := { c.est.str with x := (v : Int) } } } | none => c

/-- R209: a rest or rest-slot anchor resets the no-rest time and NOREST. -/
def restTaken (ops : Nat) (c : Core) : Core :=
  (({ c with est := { c.est with restBase := ops } }).wr F.EST_NORESTT.T 0).wr F.EST_STAT.NOREST 0

/-- R206: the rest anchor of one slot from a mean voltage. -/
def restAnchorAt (tb : List Nat) (verr u0 : Nat) (k : Nat) (v : Int) (c : Core) : Core :=
  let r := socOf tb (c.ocvTemp k) v
  c.setCtx k (anchor u0 (anchorU verr r.2) r.1 (c.ctx k))

/-- R222: the first estimate of one slot from a mean voltage. -/
def firstEstimate (tb : List Nat) (verr u0 : Nat) (k : Nat) (v : Int) (c : Core) : Core :=
  let r := socOf tb (c.ocvTemp k) v
  c.setCtx k { c.ctx k with x := r.1, y := r.1, u := max (anchorU verr r.2) u0, firstpend := false }

/-- TREST in clocks. -/
def Core.trest (c : Core) : Nat := max 600 (c.rd F.EST_RELAX.TREST) * secClk

/-- TFIRST in clocks. -/
def Core.tfirst (c : Core) : Nat := max 60 (c.rd F.EST_RELAX.TFIRST) * secClk

/-- U0 on the scale of u. -/
def Core.u0 (c : Core) : Nat := uOfPct100 (c.rd F.EST_CORR.U0)

/-- R205, R206: a rest anchor of one slot, `rest` clocks into the rest, where its relaxation check of TREST passes again; whether it was
taken. -/
def restAnchor (tb : List Nat) (rest k : Nat) (c : Core) : Core × Bool :=
  let a := c.acc k
  if !(c.ctx k).firstpend && c.est.inRest && relaxed (c.rd F.EST_RELAX2.DVDT) a.hist && decide (a.anchAt + c.trest ≤ rest) then
    ((restAnchorAt tb (c.rd F.EST_ANCH.VERR) c.u0 k (relaxMean a.hist) c).setAcc k { a with anchAt := rest, anchNow := true }, true)
  else (c, false)

/-- R205, R206, R222: the anchors at rest of one slot at an epoch boundary: whether a rest anchor or a first estimate was taken. -/
def restOf (tb : List Nat) (k : Nat) (c : Core) : Core × Bool × Bool :=
  let a := c.acc k
  if (c.ctx k).firstpend then
    if c.est.inRest && relaxed (c.rd F.EST_RELAX2.DVDT) a.hist && decide (c.tfirst ≤ c.est.restClk) then
      (firstEstimate tb (c.rd F.EST_ANCH.VERR) c.u0 k (relaxMean a.hist) c, false, true)
    else (c, false, false)
  else
    let r := restAnchor tb c.est.restClk k c
    (r.1, r.2, false)

/-- R207: a dynamic anchor of one slot, and whether it was taken. -/
def dynOf (ops : Nat) (tb : List Nat) (k : Nat) (c : Core) : Core × Bool :=
  let a := c.acc k
  let x := c.ctx k
  let r := socOf tb (c.ocvTemp k) (a.vc / max 1 (a.vcN : Int) / 100)
  if c.on F.EST_ANCH2.DYNEN && decide (c.prof ≤ 1) && (c.rp ops x).2 == 2 && decide (5 ≤ a.vfr) && decide (0 < a.vcN) && !x.firstpend &&
      decide (c.rd F.EST_ANCH.SLOPE * 500 ≤ r.2) then
    (c.setCtx k { x with
      x := x.x + roundDiv ((c.rd F.EST_ANCH2.KDYN : Int) * ((r.1 : Int) - x.x)) 32768, dynAge := 0 }, true)
  else (c.setCtx k { x with dynAge := min 100 (x.dynAge + 1) }, false)

/-- R208: the growth of u over an epoch without a rest anchor. -/
def growU (g clk u : Nat) : Nat := min (2 ^ 39) (u + roundDivN (g * clk * 2 ^ 40) 180000000000000000)

/-! ### Counting and the end rules (R198 to R201, R213) -/

/-- R198: Δx on the scale of x for a charge and a capacity. -/
def deltaX (q : Int) (cap : Nat) : Int := if cap = 0 then 0 else roundDiv (q * full) (cap * chargeUnit : Nat)

/-- R199: 1 Charge, 2 Discharge, 0 Idle. -/
def epochClass (idb : Nat) (qe : Int) (clk : Nat) : Nat :=
  if (idb : Int) * clk < qe then 1 else if qe < -((idb : Int) * clk) then 2 else 0

/-- What the end rules need of the configuration: FLOOR, CEIL, SLEW on the scale of y, and the EOD and EOC falls of an epoch. -/
structure EndCfg where
  floor : Nat
  ceil : Nat
  slew : Nat
  eod : Nat
  eoc : Nat
  deriving DecidableEq, Repr

/-- The end rule configuration of an epoch of `clk` clocks. -/
def Core.endCfg (c : Core) (clk : Nat) : EndCfg :=
  ⟨upPct100 (c.rd F.EST_FLOOR.FLOOR), upPct100 (c.rd F.EST_FLOOR.CEIL), ofPct100 (c.rd F.EST_CORR.SLEW),
   roundDivN (ofPct100 (max 1 (c.rd F.EST_EOD_SLEW.EOD)) * clk) secClk, roundDivN (ofPct100 (max 1 (c.rd F.EST_EOD_SLEW.EOC)) * clk) secClk⟩

/-- R213: holds that a new epoch class ends before counting. -/
def endHolds (cls : Nat) (x : Ctx) : Ctx :=
  { x with
    floorHold := x.floorHold && !(cls == 1 && !x.eod)
    ceilHold := x.ceilHold && !(cls == 2 && !x.eoc) }

/-- R201, R213: the count of an epoch on x and y; `q` is the charge of the context. A held or slewing y is not counted. -/
def countEpoch (cls : Nat) (q : Int) (x0 : Ctx) : Ctx :=
  let x := endHolds cls x0
  let d := deltaX q x.q
  { x with
    x := x.x + d
    y := if x.floorHold || x.ceilHold || x.eodSlew || x.eocSlew then x.y else x.y + d }

/-- R213: x has reached 0 in discharge before EOD. -/
def Ctx.empties (x : Ctx) (cls : Nat) : Bool := decide (x.x ≤ 0) && cls == 2 && !x.eod && x.q != 0

/-- R213: the rules for x at its limits, after the count and the anchors of an epoch that began with `x0`: x stays there, and what is
discharged below 0 adds to the overrun accumulator, in mA times 2 ns. -/
def endRules (cls : Nat) (q : Int) (x0 x : Ctx) : Ctx :=
  let moved := x.x - x0.x - deltaX q x.q
  let below := -q - (x0.x + moved) * (x.q * chargeUnit : Nat) / (full : Int)
  let hit := x.empties cls
  let hitTop := decide ((full : Int) ≤ x.x) && cls == 1 && !x.eoc && x.q != 0
  { x with
    x := clampI 0 full x.x
    ovr := if hit then x.ovr + below.toNat else x.ovr
    suspect := x.suspect || hit
    floorHold := x.floorHold || hit
    ceilHold := x.ceilHold || hitTop }

/-- R201, R213: the holds, slews, correction and limit of y that close an epoch which began with y at `y0`. A hold at FLOOR never raises y
(DEDUCED, notes/assumptions/61). -/
def moveY (g : EndCfg) (cls : Nat) (y0 : Int) (x : Ctx) : Ctx :=
  if x.eodSlew then
    let y := clampI 0 full (x.y - g.eod)
    { x with y := y, eodSlew := decide (0 < y) }
  else if x.eocSlew then
    let y := clampI 0 full (x.y + g.eoc)
    { x with y := y, eocSlew := decide (y < full) }
  else if x.floorHold then { x with y := min y0 g.floor }
  else if x.ceilHold then { x with y := g.ceil }
  else
    let e : Int := if cls = 2 then 0 else x.x - x.y
    let y := clampI 0 full (x.y + clampI (-(g.slew : Int)) g.slew e)
    if cls = 2 && decide (y ≤ g.floor) && decide ((g.floor : Int) ≤ y0) && !x.eod then { x with y := g.floor, floorHold := true }
    else { x with y := y }

/-- R201, R213: what closes the update of a context that the epoch found as `x0`, after counting and anchors. -/
def closeEpoch (g : EndCfg) (cls : Nat) (q : Int) (x0 x : Ctx) : Ctx := moveY g cls x0.y (endRules cls q x0 x)

/-- R213: EOD is declared for a context. -/
def declareEod (u0 : Nat) (x : Ctx) : Ctx :=
  { x with
    eod := true, x := 0, u := u0
    y := if x.floorHold then 0 else x.y
    floorHold := false
    eodSlew := !x.floorHold && decide (0 < x.y)
    eocSlew := false }

/-- R213: EOC is declared for a context. -/
def declareEoc (u0 : Nat) (x : Ctx) : Ctx :=
  { x with
    eoc := true, x := (full : Int), u := u0, ovr := 0
    y := if x.ceilHold then (full : Int) else x.y
    ceilHold := false
    eocSlew := !x.ceilHold && decide (x.y < full)
    eodSlew := false }

/-! ### Slots of the sheaf (R353, R355): asking and ending -/

/-- EST asks SHF for a slot; `kind` 0 rest, 1 gleaning. A module that still shows releasing requests after it (R355). -/
def slotAsk (kind : Nat) (c : Core) : Core :=
  if c.rd F.SHF_STAT.SLOT = 3 then c
  else (({ c with shf := { c.shf with wait := 0 } } : Core).wr F.SHF_STAT.SLOT 1).wr F.SHF_STAT.SKIND kind

/-- R355: EST ends its slot; a request is withdrawn. -/
def slotRelease (c : Core) : Core :=
  if c.rd F.SHF_STAT.SLOT = 2 then { c.wr F.SHF_STAT.SLOT 3 with shf := { c.shf with relLeft := 5 } }
  else if c.rd F.SHF_STAT.SLOT = 1 then c.wr F.SHF_STAT.SLOT 0 else c

/-! ### Saves (R223) -/

/-- R223: a save trigger; one that arrives before the contexts are established, or during a save, is merged. -/
def saveTrigger (cause : Nat) (c : Core) : Core :=
  if !c.est.estab || c.est.saving.isSome then { c with est := { c.est with again := some cause } }
  else { c with est := { c.est with saving := some cause } }

/-- R223: MIN minutes have passed since the last save. -/
def periodicSave (c : Core) : Core :=
  if decide (0 < c.rd F.EST_SAVE_PERIOD.MIN) && decide (c.rd F.EST_SAVE_PERIOD.MIN * 60 * secClk ≤ c.est.sinceSave) then
    saveTrigger 0 { c with est := { c.est with sinceSave := 0 } } else c

/-- R223, R225: NOW; where the save it asks for is merged, NOW reads 1 until that one completes. -/
def saveNow (c : Core) : Core :=
  let late := !c.est.estab || c.est.saving.isSome
  saveTrigger 6 ({ c with est := { c.est with nowAgain := c.est.nowAgain || late } }.wr F.EST_SAVE_PERIOD.NOW 1)

/-- R223: the contexts are established: triggers merged until now save. -/
def establish (c : Core) : Core :=
  let e := { c.est with estab := true }
  if e.saving.isNone && e.again.isSome then { c with est := { e with saving := e.again, again := none, nowAgain := false } }
  else { c with est := e }

/-- R223: what a save stores. -/
def Core.learnedCopy (c : Core) (seq : Nat) : EstCopy :=
  { valid := true, crcOk := true, cut := false, seq := seq, str := c.est.str, pos := c.est.pos, serials := c.est.serials, away := c.est.away, noRest := c.rd F.EST_NORESTT.T
    cyc := c.rd F.EST_CYC.CYC, cycFrac := c.est.cycFrac, thru := c.est.thru, refs := c.imp.refs }

/-- R223: a copy that may be loaded: marked valid, with a matching CRC. -/
def EstCopy.good (e : EstCopy) : Bool := e.valid && e.crcOk

/-- R223: the newer copy is copy 0. -/
def newerIs0 (nv : NvSt) : Bool :=
  nv.est0.good && (!nv.est1.good || decide (nv.est1.seq < nv.est0.seq))

/-- R223: a save completes in the older copy; a merged trigger starts one more. -/
def saveComplete (_ : AonSt) (nv : NvSt) (c : Core) : NvSt × Core :=
  match c.est.saving with
  | none => (nv, c)
  | some cause =>
    let seq := max (if nv.est0.good then nv.est0.seq else 0) (if nv.est1.good then nv.est1.seq else 0) + 1
    let cp := c.learnedCopy seq
    let nv1 := if newerIs0 nv then { nv with est1 := cp } else { nv with est0 := cp }
    let c1 := { c with est := { c.est with saving := c.est.again, again := none, nowAgain := false, sinceSave := 0 } }
    (nv1, (((c1.wr F.EST_SAVE_STAT.SEQ seq).wr F.EST_SAVE_STAT.CAUSE cause).wrB F.EST_SAVE_PERIOD.NOW c.est.nowAgain).raise 52 0 cause)

/-- R223: the hold-up ends during a save: the copy it was writing has no valid mark. -/
def saveCut (c : Core) (nv : NvSt) : NvSt :=
  if c.est.saving.isNone then nv
  else if newerIs0 nv then { nv with est1 := { nv.est1 with valid := false, cut := true } }
  else { nv with est0 := { nv.est0 with valid := false, cut := true } }

/-- R196, R223: what a learned copy restores of a context: the values of R196; declarations and their counts start anew. -/
def Ctx.restored (x : Ctx) : Ctx :=
  { x with
    rimpNew := none, eod := false, eoc := false, floorHold := false, ceilHold := false, eodSlew := false, eocSlew := false
    nEod := 0, nEoc := 0, nEodClr := 0, nEocClr := 0, dynAge := 100 }

/-- R223: EST loads its learned values at start-up. DESIGN CHOICE (notes/assumptions/55): FAILS counts the copies that it finds cut off. -/
def estLoad (nv : NvSt) (ops : Nat) (c0 : Core) : Core :=
  let c := c0.cntSat F.EST_SAVE_STAT.FAILS (b2n nv.est0.cut + b2n nv.est1.cut)
  if !nv.est0.good && !nv.est1.good then { (c.wr F.EST_STAT.SAVEERR 1) with est := { c.est with restBase := ops } } else
    let cp := if newerIs0 nv then nv.est0 else nv.est1
    let c1 := { c with
      est := { c.est with str := cp.str.restored, pos := (cp.pos.map (fun (p : Nat × Ctx) => (p.1, p.2.restored))).filter (fun p => p.2 != ({} : Ctx)), serials := cp.serials, away := cp.away, cycFrac := cp.cycFrac, thru := cp.thru, restBase := (ops : Int) - 1000 * cp.noRest }
      imp := { c.imp with refs := cp.refs } }
    ((c1.wr F.EST_SAVE_STAT.SEQ cp.seq).wr F.EST_NORESTT.T cp.noRest).wr F.EST_CYC.CYC cp.cyc

/-! ### First estimate and serials (R221) -/

/-- R221: the context of a position that has nothing learned. -/
def Core.freshCtx (c : Core) (swapped : Bool) : Ctx := { q := c.rd F.EST_CAPNOM.CAP, swapped := swapped }

/-- The node index under which a serial stands in the learned record. -/
def oldIndex (t : Tab Nat) (serial : Nat) : Option Nat := (t.find? (fun p => p.2 == serial)).map Prod.fst

/-- What is kept now. -/
def Core.kept (c : Core) : Kept := ⟨c.est.pos, c.est.acc, c.imp.refs, c.imp.res⟩

/-- Something else is kept. -/
def Core.keep (c : Core) (q : Kept) : Core :=
  { c with est := { c.est with pos := q.pos, acc := q.acc }, imp := { c.imp with refs := q.refs, res := q.res } }

/-- R197: the 16 positions of node `j` take what those of node `i` kept; `more` is added to u. -/
def Kept.move (old : Kept) (i j more : Nat) (q : Kept) : Kept :=
  forUp 16 (fun ch q =>
    let a := slotKey i ch
    let b := slotKey j ch
    let x := Tab.get {} old.pos a
    ⟨Tab.put {} q.pos b { x with u := min (2 ^ 39) (x.u + more) }, Tab.put {} q.acc b (Tab.get {} old.acc a),
      Tab.put {} q.refs b (Tab.get {} old.refs a), Tab.put {} q.res b (Tab.get {} old.res a)⟩) q

/-- R221: the positions of node `j` start with nothing learned. -/
def Kept.fresh (x : Ctx) (j : Nat) (q : Kept) : Kept :=
  forUp 16 (fun ch q =>
    let b := slotKey j ch
    ⟨Tab.put {} q.pos b x, Tab.put {} q.acc b {}, Tab.put {} q.refs b {}, Tab.put {} q.res b {}⟩) q

/-- 0.50 % on the scale of u. -/
def halfPct : Nat := 2 ^ 40 / 200

/-- R221: a swapped battery module: Q_S is kept with SUSPECT. -/
def estSwapped (j : Nat) (c : Core) : Core :=
  ({ c with est := { c.est with str := { c.est.str with suspect := true } } }.wr F.EST_STAT.SWAPSEEN 1).raise 53 j 2

/-- R197: what is kept of node `i`, apart from its place, as of node 0. -/
def Kept.pick (q : Kept) (i : Nat) : Kept := q.move i 0 0 {}

/-- R197: what is kept of a node that has left its place. -/
def Core.asideOf (c : Core) (serial : Nat) : Option Kept := (c.est.away.find? (fun x => x.1 == serial)).map Prod.snd

/-- R197, R221: a serial stands in the learned record, or its node has left its place. -/
def Core.knownSerial (c : Core) (serial : Nat) : Bool := (oldIndex c.est.serials serial).isSome || (c.asideOf serial).isSome

/-- R197, R221: node `j` has answered with its serial, which is compared with the learned record `ser`; `old` is what was kept under it. -/
def estNode (ser : Tab Nat) (old : Kept) (j : Nat) (c : Core) : Core :=
  match oldIndex ser (c.nser j), c.asideOf (c.nser j) with
  | some i, _ => c.keep (Kept.move old i j halfPct c.kept)
  | none, some q => c.keep (Kept.move q 0 j halfPct c.kept)
  | none, none =>
    let swap := ser != []
    let c1 := c.keep (Kept.fresh (c.freshCtx swap) j c.kept)
    if swap then estSwapped j c1 else c1

/-- R197: the nodes that have answered stand in reverse of the learned record. -/
def Core.estFlip (c : Core) (ser : Tab Nat) : Bool :=
  let hits := fun (at' : Nat → Nat) => countIf (fun j => c.on (F.CHN_NINFO.REACH j) && oldIndex ser (c.nser j) == some (at' j)) (upTo c.chn.total)
  decide (hits id < hits (fun j => c.chn.total - 1 - j))

/-- R197, R221: node `j` has not been reached: it keeps what its place in the record holds, and is compared when it answers. -/
def estUnreached (ser : Tab Nat) (old : Kept) (flip : Bool) (j : Nat) (c : Core) : Core :=
  let i := if flip then c.chn.total - 1 - j else j
  if ser = [] then c.keep (Kept.fresh (c.freshCtx false) j c.kept)
  else c.keep (Kept.move old i j 0 c.kept)

/-- R221, R223: EST compares every serial at an enumeration; the contexts are then established. -/
def estSerialCheck (c : Core) : Core :=
  let ser := c.est.serials
  let old := c.kept
  let flip := c.estFlip ser
  let up := fun (j : Nat) => c.on (F.CHN_NINFO.REACH j)
  let c0 := if ser = [] then
      { c with est := { c.est with str := { c.est.str with q := c.rd F.EST_CAPNOM.CAP, firstpend := false, unlearned := true } } }
    else c
  let c1 := forUp c.chn.total (fun j c => if up j then estNode ser old j c else estUnreached ser old flip j c) c0
  establish { c1 with est := { c1.est with
    away := [], unchk := (upTo c.chn.total).filter (fun j => !up j)
    serials := (upTo c.chn.total).map (fun j => (j, if up j then c.nser j else Tab.get 0 ser (if flip then c.chn.total - 1 - j else j))) } }

/-- R197: where another node now stands at `j`, what was learned of the one before it is put aside under its serial. -/
def estAside (j : Nat) (c : Core) : Core :=
  let o := Tab.get 0 c.est.serials j
  if o = 0 ∨ o = c.nser j then c
  else { c with est := { c.est with
    away := (o, c.kept.pick j) :: c.est.away.filter (fun x => x.1 != o), serials := Tab.put 0 c.est.serials j 0 } }

/-- R197, R221: EST compares the serial of one node that has been re-addressed or has answered for the first time; it stands at no other
place of the record any more. -/
def estReaddress (j : Nat) (c0 : Core) : Core :=
  let c := estAside j c0
  let s := c.nser j
  let c1 := estNode c.est.serials c.kept j c
  { c1 with est := { c1.est with
    serials := Tab.put 0 (c.est.serials.filter (fun p => p.2 != s)) j s
    away := c1.est.away.filter (fun x => x.1 != s), unchk := c1.est.unchk.filter (· != j) } }

/-- R221: nodes not reached at the enumeration have answered since. -/
def estLate (c : Core) : Core :=
  c.est.unchk.foldl (fun c j => if c.on (F.CHN_NINFO.REACH j) then estReaddress j c else c) c

/-! ### Allowed currents (R224) -/

/-- R224: the discharge and charge limits of one position in mA. -/
def posSop (ocv : Int) (vd vc : Nat) (r : Int) : Nat × Nat :=
  if r = 0 then (0, 0) else ((((ocv - vd * 1000) * 100).fdiv r).toNat, (((vc * 1000 - ocv) * 100).fdiv r).toNat)

/-- A position is FIRSTPEND. -/
def Core.anyFirst (c : Core) : Bool := c.slots.any (fun k => (c.ctx k).firstpend)

/-- R224: SOP_C and SOP_D. -/
def Core.sop (c : Core) (ops : Nat) : Nat × Nat :=
  match c.est.ocv with
  | none => (0, 0)
  | some tb =>
    if c.liveSlots = [] || c.anyFirst then (0, 0) else
      let each := c.liveSlots.map (fun k => posSop (ocvAt tb (c.ocvTemp k) (c.ctx k).x.toNat) (c.rd F.EST_SOPV.VSOPD) (c.rd F.EST_SOPV.VSOPC)
        (c.rp ops (c.ctx k)).1)
      let d := each.foldl (fun m p => min m p.1) (c.rd F.EST_SOPMAX_D.IMAX)
      let ch := each.foldl (fun m p => min m p.2) (c.rd F.EST_SOPMAX_C.IMAX)
      let lost := decide (c.liveSlots.length < c.slots.length)
      let pct := min 100 (c.rd F.EST_SOPCFG.LOSTPCT)
      let d1 := if lost then d * pct / 100 else d
      let c1 := if lost then ch * pct / 100 else ch
      (if c.on F.EST_STAT.EOC then 0 else c1, if c.on F.EST_STAT.EOD then 0 else d1)

/-- R224: EST publishes SOP to CNV; it commits at the next tick boundary (R25). -/
def sopPublish (ops : Nat) (c : Core) : Core :=
  let p := c.sop ops
  (((c.wr F.EST_SOP_C.SOPC p.1).wr F.EST_SOP_D.SOPD p.2).wrB F.EST_STAT.LOSTCAP (decide (c.liveSlots.length < c.slots.length))).raise 49 0
    (p.1 % 2 ^ 32)

/-! ### Gleaning and rest slots (R210, R211, R216 to R219) -/

/-- A REQ held during another slot is passed on when the slot ends (R210, R216). -/
def passOn (c : Core) : Core :=
  if c.on F.EST_REST_CTRL.REQ then slotAsk 0 ((c.wr F.EST_REST_CTRL.REQ 0).wr F.EST_REST_CTRL.STATE 1)
  else if c.on F.EST_GLN_CTRL.REQ then
    if c.on F.EST_STAT.FIRSTPEND then (c.wr F.EST_GLN_CTRL.REQ 0).wr F.EST_GLN_CTRL.CAUSE 10
    else slotAsk 1 ((c.wr F.EST_GLN_CTRL.REQ 0).wr F.EST_GLN_CTRL.STATE 1)
  else c

/-- The gleaning cycle ends with a cause; its slot is released (R217, R219). -/
def gleanEnd (cause : Nat) (c : Core) : Core :=
  let c1 := slotRelease ({ c with est := { c.est with tgt := none, glnCount := false, glnEnd := false } })
  passOn (((c1.wr F.EST_GLN_CTRL.STATE 0).wr F.EST_GLN_CTRL.CAUSE cause).raise 54 0 cause)

/-- R217: from which state to which a condition of a cause applies. -/
def gleanRange (cause st : Nat) : Bool :=
  if cause = 8 ∨ cause = 9 then decide (2 ≤ st) && decide (st ≤ 6) else decide (3 ≤ st) && decide (st ≤ 5)

/-- R217: a qualification condition fails. -/
def gleanFail (cause : Nat) (c : Core) : Core :=
  if gleanRange cause (c.rd F.EST_GLN_CTRL.STATE) then gleanEnd cause c else c

/-- R219: ABORT. -/
def gleanAbort (c : Core) : Core := if c.rd F.EST_GLN_CTRL.STATE = 0 then c else gleanEnd 1 c

/-- R216: REQ of a gleaning cycle. -/
def gleanReq (c : Core) : Core :=
  if c.on F.EST_STAT.FIRSTPEND && c.rd F.EST_GLN_CTRL.STATE == 0 then (c.wr F.EST_GLN_CTRL.REQ 0).wr F.EST_GLN_CTRL.CAUSE 10
  else if c.rd F.EST_GLN_CTRL.STATE ≠ 0 ∨ c.rd F.EST_REST_CTRL.STATE ≠ 0 then c.wr F.EST_GLN_CTRL.REQ 1
  else (slotAsk 1 ((c.wr F.EST_GLN_CTRL.REQ 0).wr F.EST_GLN_CTRL.STATE 1)).raise 54 0 1

/-- R210: REQ of a rest slot. -/
def restReq (c : Core) : Core :=
  if c.rd F.EST_GLN_CTRL.STATE ≠ 0 then (c.wr F.EST_REST_CTRL.REQ 0).wr F.EST_REST_CTRL.RESULT 3
  else if c.rd F.EST_REST_CTRL.STATE ≠ 0 then c.wr F.EST_REST_CTRL.REQ 1
  else (slotAsk 0 ((c.wr F.EST_REST_CTRL.REQ 0).wr F.EST_REST_CTRL.STATE 1)).raise 54 0 1

/-- The rest slot ends without an anchor (R211), with a result. -/
def restEarly (result : Nat) (c : Core) : Core :=
  if c.rd F.EST_REST_CTRL.STATE = 2 then
    passOn ((slotRelease (((({ c with est := { c.est with tgt := none } }).wr F.EST_REST_CTRL.STATE 0).wr F.EST_REST_CTRL.RESULT result))).raise
      54 0 result)
  else c

/-- R210, R216, R217: SHF passes the grant to EST. -/
def slotGranted (kind : Nat) (c : Core) : Core :=
  if kind = 1 then
    let c1 := c.wr F.EST_GLN_CTRL.STATE 2
    if c.rd F.CNV_STAT.STATE ≠ 3 then gleanFail 8 c1
    else ({ c1 with est := { c1.est with tgt := some (1000 * c.rd F.EST_GLN_CFG.ICHG), glnClk := 0, glnRet := 0, glnEnd := false } }).raise 54 0 2
  else
    let c1 := { c with est := { c.est with
      tgt := some 0, slotClk := 0, slotCur := false
      acc := c.slots.foldl (fun t k => Tab.upd {} t k (fun a => { a with slotOk := true, midSum := 0, midN := 0, endSum := 0, endN := 0 })) c.est.acc } }
    (c1.wr F.EST_REST_CTRL.STATE 2).raise 54 0 2

/-- R355: a revocation reaches EST. -/
def slotRevoked (c : Core) : Core :=
  let c1 := if c.rd F.EST_GLN_CTRL.STATE = 1 then
      passOn ((c.wr F.EST_GLN_CTRL.STATE 0).wr F.EST_GLN_CTRL.CAUSE 9) else gleanFail 9 c
  if c1.rd F.EST_REST_CTRL.STATE = 1 then passOn ((c1.wr F.EST_REST_CTRL.STATE 0).wr F.EST_REST_CTRL.RESULT 4) else restEarly 4 c1

/-- The length of a rest slot in clocks (R225). -/
def Core.restLen (c : Core) : Nat := max 30 (c.rd F.EST_REST_CFG.LEN) * secClk

/-- R201, R211: the rest-slot anchor of one position, which the next epoch boundary applies, and whether it was taken. -/
def restSlotAnchor (tb : List Nat) (k : Nat) (r : Core × Bool) : Core × Bool :=
  let c := r.1
  let a := c.acc k
  if a.slotOk && decide (0 < a.midN) && decide (0 < a.endN) && !(c.ctx k).firstpend then
    let ve : Int := (a.endSum * 1000 / a.endN : Nat)
    let vm : Int := (a.midSum * 1000 / a.midN : Nat)
    let s := socOf tb (c.ocvTemp k) (ve + (c.rd F.EST_REST_CFG.KX : Int) * (ve - vm) / 32768)
    (c.setAcc k { a with pend := some (s.1, anchorU (c.rd F.EST_ANCH.VERRS) s.2) }, true)
  else r

/-- R209: after anchors of some positions the string follows and the no-rest time starts anew. -/
def anchorsTaken (ops : Nat) (c : Core) : Core := restTaken ops (c.setXs c.xString)

/-- R211: LEN seconds after the grant the slot ends. DESIGN CHOICE (notes/assumptions/54): RESULT reads 0b000 where no position has
anchored and no condition of the table holds. -/
def restSlotEnd (c : Core) : Core :=
  if decide (c.rd F.EST_REST_CTRL.STATE = 2) && decide (c.restLen ≤ c.est.slotClk) then
    if c.est.slotCur then restEarly 2 c else
      match c.est.ocv with
      | none => restEarly 0 c
      | some tb =>
        let r := c.slots.foldl (fun r k => restSlotAnchor tb k r) (c, false)
        if r.2 then restEarly 1 (r.1.cntSat F.EST_REST_CTRL.COUNT) else restEarly 0 c
  else c

/-- R217: the temperatures of a gleaning discharge. -/
def Core.gleanTempOk (c : Core) : Bool :=
  c.temps.all (fun t => decide (c.rdS F.EST_GLN_CFG3.TLO ≤ t) && decide (t ≤ c.rdS F.EST_GLN_CFG3.THI))

/-- R217: the conditions on the positions, judged with every record; a position that was LOST before does not become so. -/
def gleanPositions (c : Core) : Core :=
  let lost := c.slots.filter (fun k => (c.pos k).lost)
  let c1 := { c with est := { c.est with lostWas := lost } }
  let c2 := if c.gleanTempOk then c1 else gleanFail 2 c1
  if lost.any (fun k => !c.est.lostWas.contains k) then gleanFail 6 c2 else c2

/-- R217: the conditions on charge, time, current sensor and converter, judged at every tick. -/
def gleanTick (c : Core) : Core :=
  let st := c.rd F.EST_GLN_CTRL.STATE
  let c1 := if c.rd F.EST_GLN_CFG2.QCHG * (c.est.str.q * chargeUnit) < c.est.glnRet * 1000 then gleanFail 3 c else c
  let c2 := if st = 4 ∧ c.rd F.EST_GLN_CFG3.TMAXH * 3600 * secClk < c.est.glnClk then gleanFail 4 c1 else c1
  if c2.on F.EST_STAT.CURINV then gleanFail 5 c2 else c2

/-- R181, R211, R217: CNV is not in RUN: a burst, a rest slot and a gleaning cycle end. -/
def cnvLeft (c : Core) : Core := if c.rd F.CNV_STAT.STATE = 3 then c else restEarly 4 (gleanFail 8 (burstAbandon 3 c))

/-- R218: a learned capacity: weight, limit, the measured capacity as a ratio in 0.01 Ah, the old one; whether it was limited. -/
def learn (w maxdev : Nat) (unl : Bool) (num den : Int) (q : Nat) : Nat × Bool :=
  let ww : Int := if unl then 100 else min 100 (max 1 w)
  let dn := ww * (num - q * den)
  let lim : Int := (maxdev * q : Nat)
  if !unl && decide (lim * den < absI dn) then
    ((roundDiv ((q : Int) * 100 + (if dn < 0 then -lim else lim)) 100).toNat, true)
  else ((roundDiv ((q : Int) * 100 * den + dn) (100 * den)).toNat, false)

/-- R218: one position learns. -/
def learnPos (qm : Int) (i k : Nat) (c : Core) : Core :=
  let a := c.acc k
  let x := c.ctx k
  let sw : Int := (a.xTop : Int) - x.x
  if (c.pos k).lost || decide (sw * 100 < (c.rd F.EST_GLN_CFG2.DSOCMIN : Int) * full) || decide (sw ≤ 0) then c else
    let r := learn (c.rd F.EST_GLN_CFG2.W) (c.rd F.EST_GLN_CFG2.MAXDEV) x.unlearned ((qm - a.glnBleed) * full) (sw * chargeUnit) x.q
    let c1 := c.setCtx k { x with q := r.1, suspect := r.2, unlearned := x.unlearned && r.2, swapped := x.swapped && r.2 }
    c1.when r.2 (fun c => c.raise 51 i 2)

/-- R218: EST learns at the end of rest bottom. -/
def gleanLearn (c : Core) : Core :=
  let qm := c.est.glnNet
  let ks := c.slots
  let c1 := forUp ks.length (fun i c => learnPos qm i (ks.getD i 0) c) c
  let s := c1.est.str
  let r := learn (c1.rd F.EST_GLN_CFG2.W) (c1.rd F.EST_GLN_CFG2.MAXDEV) s.unlearned qm chargeUnit s.q
  let c2 := { c1 with est := { c1.est with str := { s with q := r.1, suspect := r.2, unlearned := s.unlearned && r.2 } } }
  let c3 := c2.when r.2 (fun c => c.raise 51 65535 2)
  saveTrigger 3 (((c3.wr F.EST_STAT.LEARNED 1).cntSat F.EST_GLN_CTRL.COUNT).raise 51 0 1)

/-- R216: TREST passes in rest top or rest bottom: the rest ends at the next epoch boundary, at which the rest anchors are taken (R201,
R206). -/
def gleanRestEnd (c : Core) : Core :=
  let st := c.rd F.EST_GLN_CTRL.STATE
  if (st = 3 ∨ st = 5) ∧ c.trest ≤ c.est.glnClk then { c with est := { c.est with glnEnd := true } } else c

/-- R216, R218: a gleaning rest that has lasted TREST ends after the anchors of the epoch boundary. -/
def gleanNext (c0 : Core) : Core :=
  if !c0.est.glnEnd then c0 else
    let c := { c0 with est := { c0.est with glnEnd := false } }
    match c.rd F.EST_GLN_CTRL.STATE with
    | 3 =>
      let c1 := { c with est := { c.est with
        tgt := some (-(1000 * (c.rd F.EST_GLN_CFG.IDIS : Int))), glnClk := 0, glnRet := 0, str := { c.est.str with ovr := 0 }
        pos := c.est.pos.map (fun (p : Nat × Ctx) => (p.1, { p.2 with ovr := 0 }))
        acc := c.slots.foldl (fun t k => Tab.upd {} t k (fun a => { a with xTop := (c.ctx k).x.toNat })) c.est.acc } }
      (c1.wr F.EST_GLN_CTRL.STATE 4).raise 54 0 4
    | 5 =>
      let c1 := gleanLearn c
      (({ c1 with est := { c1.est with tgt := some (1000 * c.rd F.EST_GLN_CFG.ICHG), glnClk := 0 } }).wr F.EST_GLN_CTRL.STATE 6).raise 54 0 6
    | _ => c

/-- R216: the recharge ends when y_S reaches the sheaf mean, or 50 %. -/
def gleanRecharge (c : Core) : Core :=
  let goal := if c.on F.SHF_STAT.SOCVALID then c.rd F.SHF_SOCMEAN.SOC else 5000
  if decide (c.rd F.EST_GLN_CTRL.STATE = 6) && decide (goal ≤ soc100 c.est.str.y) then
    let c1 := slotRelease { c with est := { c.est with tgt := none } }
    passOn ((c1.wr F.EST_GLN_CTRL.STATE 0).raise 54 0 0)
  else c

/-! ### Every tick, every record, every epoch -/

/-- R200, R217: an episode without the primary current stream begins, lasts or ends. -/
def curInvalid (lost : Bool) (c : Core) : Core :=
  if lost && !c.on F.EST_STAT.CURINV then
    let c1 := { c with est := { c.est with pos := c.est.pos.map (fun (x : Nat × Ctx) => (x.1, { x.2 with u := min (2 ^ 39) (x.2.u + halfPct) })) } }
    gleanFail 5 ((c1.wr F.EST_STAT.CURINV 1).raise 55 0 1)
  else if !lost then c.wr F.EST_STAT.CURINV 0 else c

/-- R200: the primary current sensor loses its stream or has it back. -/
def curChange (lost : Bool) (c : Core) : Core :=
  curInvalid lost { c with est := { c.est with lostTick := c.est.lostTick || lost } }

/-- R198, R200: the primary current of the tick that ended; `lost` while its stream is lost; it may have been lost within the tick. -/
def estTick (cur : Int) (lost : Bool) (c : Core) : Core :=
  let p := c.period
  let q : Int := if lost || c.est.lostTick then 0 else (cur - c.rdS F.EST_IOFS.IOFS) * p
  let st := c.rd F.EST_GLN_CTRL.STATE
  let idb : Int := c.rd F.EST_IDB.IDB
  let c1 := { c with est := { c.est with
    qe := c.est.qe + q, clk := c.est.clk + p, lostTick := false, sinceSave := c.est.sinceSave + p
    slotClk := if c.rd F.EST_REST_CTRL.STATE = 2 then c.est.slotClk + p else c.est.slotClk
    glnClk := if st = 0 then 0 else c.est.glnClk + p
    glnRet := if decide (st = 4) && decide (idb * p < q) then c.est.glnRet + q.toNat else c.est.glnRet
    glnNet := if c.est.glnCount then c.est.glnNet - q else c.est.glnNet } }
  curInvalid lost c1

/-- R203: the load-compensated voltage of a code at a current, in nV. -/
def vComp (code : Nat) (i r : Int) : Int := (code : Int) * 100000 - i * r

/-- R212, R214: the counts of a VALID frame. -/
def endCounts (veod veoc vhys conf idb : Nat) (v i : Int) (x : Ctx) : Ctx :=
  let low := decide (v ≤ (veod : Int) * 100000) && decide (i ≤ idb)
  let high := decide ((veoc : Int) * 100000 ≤ v) && decide (-(idb : Int) ≤ i)
  { x with
    nEod := if low then min conf (x.nEod + 1) else 0
    nEoc := if high then min conf (x.nEoc + 1) else 0
    nEodClr := if ((veod : Int) + vhys) * 100000 ≤ v then min conf (x.nEodClr + 1) else 0
    nEocClr := if v ≤ ((veoc : Int) - vhys) * 100000 then min conf (x.nEocClr + 1) else 0 }

/-- R212 to R214: declarations and clearings of one position after its counts. -/
def endDeclare (conf u0 : Nat) (x : Ctx) : Ctx :=
  let x1 := if x.eod && decide (conf ≤ x.nEodClr) then { x with eod := false } else x
  let x2 := if x1.eoc && decide (conf ≤ x1.nEocClr) then { x1 with eoc := false } else x1
  let x3 := if !x2.eod && decide (conf ≤ x2.nEod) then declareEod u0 x2 else x2
  if !x3.eoc && decide (conf ≤ x3.nEoc) then declareEoc u0 x3 else x3

/-- R155, R198, R203 to R205, R211 to R214: the record of a frame at one slot. -/
def estPosRecord (ops : Nat) (isSet : List Int) (k : Nat) (c : Core) : Core :=
  let p := c.pos k
  let a := c.acc k
  let x := c.ctx k
  let r := (c.rp ops x).1
  let rb := c.rd F.BAL_RBLEED.RB
  let ton := Tab.get 0 c.bal.act k
  let b := if ton = 0 then 0 else if rb = 0 then (Config.freeInt 7 p.code).toNat else p.code * ton * c.period / rb
  let iLast := isSet.getLastD 0
  let conf := max 1 (c.rd F.EST_THR2.CONF)
  let rest := c.rd F.EST_REST_CTRL.STATE = 2
  let t := c.est.slotClk
  let half := c.restLen / 2
  let inMid := decide rest && decide (half ≤ t + secClk) && decide (t < half)
  let inEnd := decide rest && decide (c.restLen ≤ t + secClk) && decide (t < c.restLen)
  let vcs := (upTo p.setCodes.length).map (fun s => vComp (p.setCodes.getD s 0) (isSet.getD s iLast) r)
  let a1 : PosAcc := if p.valid then
      { a with
        bleed := a.bleed + b, glnBleed := if c.est.glnCount then a.glnBleed + b else a.glnBleed
        vc := a.vc + sumI vcs, vcN := a.vcN + vcs.length, vfr := a.vfr + 1
        agg := { a.agg with lo := min a.agg.lo p.code, hi := max a.agg.hi p.code, sum := a.agg.sum + p.code, n := a.agg.n + 1 }
        prev := some (p.code, iLast)
        midSum := if inMid then a.midSum + p.code else a.midSum, midN := if inMid then a.midN + 1 else a.midN
        endSum := if inEnd then a.endSum + p.code else a.endSum, endN := if inEnd then a.endN + 1 else a.endN }
    else { a with
      bleed := a.bleed + b, glnBleed := if c.est.glnCount then a.glnBleed + b else a.glnBleed
      agg := { a.agg with ok := false }, prev := none, slotOk := a.slotOk && !decide rest }
  let x1 := match a.prev with
    | some (v0, i0) => if p.valid && decide ((c.rd F.EST_RSTEP.DI : Int) ≤ absI (iLast - i0)) then
        { x with rstep := stepUpdate (c.rd F.EST_RNOM.R) ((p.code : Int) - v0) (iLast - i0) x.rstep } else x
    | none => x
  let x2 := if p.valid then
      endDeclare conf c.u0
        (endCounts (c.rd F.EST_THR.VEOD) (c.rd F.EST_THR.VEOC) (c.rd F.EST_THR2.VHYS) conf (c.rd F.EST_IDB.IDB)
          (vcs.getLastD (vComp p.code iLast r)) iLast x1)
    else x1
  (c.setAcc k a1).setCtx k x2

/-- R209: TB_OPS ms since the last rest anchor. -/
def Core.noRest (c : Core) (ops : Nat) : Nat := ((ops : Int) - c.est.restBase).toNat

/-- R227: the status registers of the string after an epoch, or a declaration (R213). -/
def estShow (ops : Nat) (c : Core) : Core :=
  let s := c.est.str
  let fp := c.slots = [] || c.anyFirst
  let u := c.liveSlots.foldl (fun m k => max m (c.ctx k).u) 0
  let c1 := (((c.wr F.EST_SSOC.SOC (if fp then 65535 else soc100 s.y)).wr F.EST_SSOC.U (u * 10000 / 2 ^ 40)).wr F.EST_SCAP.CAP s.q).wr F.EST_SOVR.OVR
    (s.ovr / chargeUnit)
  let c2 := ((((c1.wrB F.EST_STAT.FIRSTPEND fp).wrB F.EST_STAT.FLOORHOLD s.floorHold).wrB F.EST_STAT.CEILHOLD s.ceilHold).wrB F.EST_STAT.EODSLEW
    s.eodSlew).wrB F.EST_STAT.SUSPECT s.suspect
  (c2.wrB F.EST_STAT.UNLEARNED (c.slots.any (fun k => (c.ctx k).unlearned))).wr F.EST_NORESTT.T (c.noRest ops / 1000)

/-- R212, R216: the string declares end of discharge. -/
def stringEod (ops : Nat) (c : Core) : Core :=
  let c1 := { c with est := { c.est with str := declareEod c.u0 c.est.str, glnCount := false } }
  let c2 := saveTrigger 2 (sopPublish ops (estShow ops ((c1.wr F.EST_STAT.EOD 1).raise 50 0 1)))
  if c2.rd F.EST_GLN_CTRL.STATE = 4 then
    (({ c2 with est := { c2.est with tgt := some 0, glnClk := 0 } }).wr F.EST_GLN_CTRL.STATE 5).raise 54 0 5 else c2

/-- R212, R216, R218: the string declares end of charge; the net charge of a cycle counts from here. -/
def stringEoc (ops : Nat) (c : Core) : Core :=
  let c1 := { c with est := { c.est with str := declareEoc c.u0 c.est.str } }
  let c2 := saveTrigger 1 (sopPublish ops (estShow ops ((c1.wr F.EST_STAT.EOC 1).raise 50 0 2)))
  if c2.rd F.EST_GLN_CTRL.STATE = 2 then
    (({ c2 with est := { c2.est with
        tgt := some 0, glnClk := 0, glnRet := 0, glnNet := 0, glnCount := true
        acc := c2.slots.foldl (fun t k => Tab.upd {} t k (fun a => { a with glnBleed := 0 })) c2.est.acc } }).wr F.EST_GLN_CTRL.STATE 3).raise 54 0 3
  else c2

/-- R212, R214: the string's EOD and EOC after the positions'. -/
def estString (ops : Nat) (c : Core) : Core :=
  let live := c.liveSlots
  let conf := max 1 (c.rd F.EST_THR2.CONF)
  let clrD := live != [] && live.all (fun k => decide (conf ≤ (c.ctx k).nEodClr))
  let clrC := live != [] && live.all (fun k => decide (conf ≤ (c.ctx k).nEocClr))
  let c1 := if c.on F.EST_STAT.EOD && clrD then ({ c with est := { c.est with str := { c.est.str with eod := false } } }).wr F.EST_STAT.EOD 0 else c
  let c2 := if c1.on F.EST_STAT.EOC && clrC then ({ c1 with est := { c1.est with str := { c1.est.str with eoc := false } } }).wr F.EST_STAT.EOC 0 else c1
  let c3 := if !c2.on F.EST_STAT.EOD && live.any (fun k => decide (conf ≤ (c2.ctx k).nEod)) then stringEod ops c2 else c2
  if !c3.on F.EST_STAT.EOC && live.any (fun k => decide (conf ≤ (c3.ctx k).nEoc)) then stringEoc ops c3 else c3

/-- R141: EST takes a frame record. -/
def estRecord (ops : Nat) (c : Core) : Core :=
  let iset := c.meas.last.isSet
  let c1 := c.slots.foldl (fun c k => estPosRecord ops iset k c) c
  let big := decide ((c.rd F.EST_IDB.IDB : Int) < absI c.meas.last.isMean) && decide (10 * secClk < c.est.slotClk)
  let c2 := { c1 with est := { c1.est with slotCur := c1.est.slotCur || (big && decide (c.rd F.EST_REST_CTRL.STATE = 2)) } }
  gleanPositions (estString ops c2)

/-- R201, R211: a rest-slot anchor of this epoch is applied; whether there was one. -/
def slotAnchorTake (k : Nat) (c : Core) : Core × Bool :=
  let a := c.acc k
  match a.pend with
  | some p =>
    let c1 := c.setAcc k { a with pend := none, anchNow := !(c.ctx k).firstpend }
    if (c.ctx k).firstpend then (c1, false) else (c1.setCtx k (anchor c.u0 p.2 p.1 (c.ctx k)), true)
  | none => (c, false)

/-- R201: one position at an epoch boundary: counting, anchors, limits; whether a rest anchor, first estimate or dynamic anchor was
taken. `g` is the end rule configuration of the epoch. -/
def estPosEpoch (ops cls : Nat) (g : EndCfg) (i k : Nat) (r : Core × Bool × Bool × Bool) : Core × Bool × Bool × Bool :=
  let c := r.1
  let old := c.ctx k
  let a := c.acc k
  let x0 := { old with rimp := match old.rimpNew with | some z => some z | none => old.rimp, rimpNew := none }
  let q := c.est.qe - a.bleed
  let hist := if c.est.inRest then last60 ({ a.agg with clk := c.est.clk } :: a.hist) 0 else []
  let c1 := (c.setCtx k (if x0.firstpend then x0 else countEpoch cls q x0)).setAcc k
    { a with bleed := 0, agg := {}, hist := hist, anchAt := if c.est.inRest then a.anchAt else 0 }
  let r0 := match c.est.ocv with | some tb => restOf tb k c1 | none => (c1, false, false)
  let p := slotAnchorTake k r0.1
  let r1 := (p.1, r0.2.1 || p.2, r0.2.2)
  let aged := r1.1.setCtx k { r1.1.ctx k with dynAge := min 100 ((r1.1.ctx k).dynAge + 1) }
  let r2 := match c.est.ocv with
    | some tb => if cls = 0 then (aged, false) else dynOf ops tb k r1.1
    | none => (aged, false)
  let c3 := r2.1
  let b := c3.acc k
  let y := c3.ctx k
  let z := if b.anchNow then y else { y with u := growU (if y.dynAge < 100 then profGrow c.prof else 150) c.est.clk y.u }
  let w := if x0.firstpend then z else closeEpoch g cls q x0 z
  let c4 := (c3.setCtx k w).setAcc k { b with vc := 0, vcN := 0, vfr := 0, anchNow := false }
  (c4.when (z.empties cls && !x0.firstpend && (decide (0 < x0.x) || !x0.floorHold)) (fun c => c.raise 50 i 3), r.2.1 || r1.2.1, r.2.2.1 || r1.2.2, r.2.2.2 || r2.2)

/-- R220: health figures. -/
def healthPublish (ops : Nat) (c : Core) : Core :=
  let cap := c.rd F.EST_CAPNOM.CAP
  let rn := c.rd F.EST_RNOM.R
  let rs := (c.slots.map (fun k => c.rp ops (c.ctx k))).filter (fun p => p.2 != 0)
  let sohc := if cap = 0 then 0 else min 65535 (c.est.str.q * 10000 / cap)
  let sohr := if rn = 0 || rs = [] then 0 else min 65535 (natOr 16 (sumI (rs.map Prod.fst) * 10000 / ((rs.length * rn : Nat) : Int)))
  let fr := if c.est.str.q = 0 then c.est.cycFrac else
    c.est.cycFrac + (max 0 (-c.est.qe)).toNat * 100 * 2 ^ 40 / (c.est.str.q * chargeUnit)
  (({ c with est := { c.est with cycFrac := fr % 2 ^ 40, thru := c.est.thru + (-c.est.qe).toNat } }.wr F.EST_SSOH.SOHC sohc).wr F.EST_SSOH.SOHR sohr).wr F.EST_CYC.CYC
    (c.rd F.EST_CYC.CYC + fr / 2 ^ 40)

/-- R201, R206, R207: the string context at an epoch boundary, after its positions: `rest`, `dyn` whether some took an anchor. -/
def estStrEpoch (ops cls : Nat) (g : EndCfg) (rest dyn : Bool) (c : Core) : Core :=
  let x0 := c.est.str
  let c1 := { c with est := { c.est with str := countEpoch cls c.est.qe x0 } }
  let c2 := if rest then anchorsTaken ops c1 else c1
  let c3 := match c2.xString with
    | some t => if dyn then
        { c2 with est := { c2.est with str := { c2.est.str with
          x := c2.est.str.x + roundDiv ((c2.rd F.EST_ANCH2.KDYN : Int) * ((t : Int) - c2.est.str.x)) 32768 } } }
      else c2
    | none => c2
  let c4 := { c3 with est := { c3.est with str := closeEpoch g cls c3.est.qe x0 c3.est.str } }
  c4.when (c3.est.str.empties cls && (decide (0 < x0.x) || !x0.floorHold)) (fun c => c.raise 50 65535 3)

/-- R222: the string takes its estimate with the last position. -/
def estStrFirst (c : Core) : Core :=
  match c.xString with
  | some t => { c with est := { c.est with str := { c.est.str with x := (t : Int), y := (t : Int), firstpend := false } } }
  | none => c

/-- R228: what the window shows until the next epoch boundary. -/
def estWindow (ops : Nat) (c : Core) : Core :=
  { c with est := { c.est with
    shown := c.est.pos, seen := true
    shownR := c.slots.map (fun k => (k, (c.rp ops (c.ctx k)).1, (c.rp ops (c.ctx k)).2, (c.pos k).lost)) } }

/-- R201: EST at an epoch boundary. -/
def estEpoch (ops : Nat) (c0 : Core) : Core :=
  let c := ocvCommit c0
  let cls := epochClass (c.rd F.EST_IDB.IDB) c.est.qe c.est.clk
  let idle := cls == 0
  let ca := { c with est := { c.est with inRest := idle, restClk := if idle then c.est.restClk + c.est.clk else 0 } }
  let g := ca.endCfg ca.est.clk
  let ks := ca.slots
  let r := forUp ks.length (fun i r => estPosEpoch ops cls g i (ks.getD i 0) r) (ca, false, false, false)
  let cb := estStrEpoch ops cls g r.2.1 r.2.2.2 r.1
  let cc := if ca.anyFirst && !cb.anyFirst then estStrFirst cb else cb
  let cd := estWindow ops (sopPublish ops (gleanRecharge (estShow ops (gleanNext (healthPublish ops cc)))))
  ({ cd with est := { cd.est with qe := 0, clk := 0 } }).raise 48 0 (c.rd F.TICK_FNUM.FNUM)

/-- R209: the no-rest time reaches 72 h. -/
def noRestSet (ops : Nat) (c : Core) : Core :=
  let t := c.noRest ops / 1000
  if decide (259200 ≤ t) && !c.on F.EST_STAT.NOREST then
    ((c.wr F.EST_NORESTT.T t).wr F.EST_STAT.NOREST 1).raise 53 0 1 else c

/-- R228: one position context as of the last epoch boundary is copied into the window. -/
def estSelect (p : Nat) (c : Core) : Core :=
  let k := c.slots.getD p 0
  let ok := c.est.seen && decide (p < c.slots.length)
  let x := Tab.get {} c.est.shown k
  let r := Tab.get (0, 0, false) c.est.shownR k
  let z := fun (n : Nat) => if ok then n else 0
  let c1 := ((c.wr F.EST_PSEL.POS p).wrB F.EST_PSEL.WVALID ok).wr F.EST_PSOC.SOC (z (if x.firstpend then 65535 else soc100 x.y))
  let c2 := (((c1.wr F.EST_PSOC.U (z (x.u * 10000 / 2 ^ 40))).wr F.EST_PX.X (z (soc100 x.x))).wr F.EST_PCAP.CAP (z x.q)).wr F.EST_PR.R (z (natOr 17 r.1))
  let c3 := (((c2.wr F.EST_PFLAG.UNLEARNED (z (b2n x.unlearned))).wr F.EST_PFLAG.SUSPECT (z (b2n x.suspect))).wr F.EST_PFLAG.FIRSTPEND
    (z (b2n x.firstpend))).wr F.EST_PFLAG.RSRC (z r.2.1)
  let c4 := (((c3.wr F.EST_PFLAG.DYN (z (b2n (decide (x.dynAge < 100))))).wr F.EST_PFLAG.EOD (z (b2n x.eod))).wr F.EST_PFLAG.EOC (z (b2n x.eoc))).wr
    F.EST_PFLAG.FLOORHOLD (z (b2n x.floorHold))
  let c5 := (((c4.wr F.EST_PFLAG.CEILHOLD (z (b2n x.ceilHold))).wr F.EST_PFLAG.EODSLEW (z (b2n x.eodSlew))).wr F.EST_PFLAG.LOST
    (z (b2n r.2.2))).wr F.EST_PFLAG.SWAPPED (z (b2n x.swapped))
  c5.wr F.EST_POVR.OVR (z (x.ovr / chargeUnit))

end Sys2Proof.Machine
end

