-- ==== Sys2Proof/Machine/Irq.lean ====
section
/-! DEFINITION. IRQ: assertion, delivery, end of interrupt, hold-off, discards and software interrupts (R434 to R450). -/

namespace Sys2Proof.Machine

/-- R435: the state of a source: 0 IDLE, 1 PENDING, 2 ACTIVE. -/
def Core.irqState (c : Core) (n : Nat) : Nat := c.rd (F.IRQ_SRC.STATE n)

/-- R434: the sources that never assert. -/
def irqReserved (n : Nat) : Bool :=
  [6, 7, 20, 21, 22, 23, 47, 63, 69, 70, 71, 95, 102, 103, 118, 119].contains n

/-- A source changes state; `IRQ_PEND` and the counts of `IRQ_STAT` follow (R450). -/
def irqSet (n st : Nat) (c : Core) : Core :=
  let old := c.irqState n
  let w := n / 32
  let bit := 2 ^ (n % 32)
  let p := c.rd (F.IRQ_PEND.PEND w)
  let c1 := (c.wr (F.IRQ_SRC.STATE n) st).wr (F.IRQ_PEND.PEND w) (if st = 1 then Nat.lor p bit else clearBits p bit)
  let c2 := c1.wr F.IRQ_STAT.NPEND (c1.rd F.IRQ_STAT.NPEND + b2n (st == 1) - b2n (old == 1))
  c2.wr F.IRQ_STAT.NACT (c2.rd F.IRQ_STAT.NACT + b2n (st == 2) - b2n (old == 2))

/-- R435: source `n` asserts. -/
def irqAssert (n : Nat) (c : Core) : Core :=
  if irqReserved n then c
  else if c.irqState n = 0 then irqSet n 1 c
  else if c.irqState n = 1 then c.cntSat (F.IRQ_HOLD.COAL (n / 8))
  else (c.cntSat (F.IRQ_SRC.OVR n)).wrB F.IRQ_STAT.OVRSEEN true

/-- R434, R435: the oldest assertion that crosses reaches IRQ. -/
def irqCross (c : Core) : Core :=
  match c.irq.cross with
  | [] => c
  | n :: rest => irqAssert n { c with irq := { c.irq with cross := rest } }

/-- The fast handler that runs on a core. -/
def Core.fastOn (c : Core) (k : Nat) : Option Nat := Tab.get none c.irq.fast k

/-- The normal handlers nested on a core, innermost first: level and source. -/
def Core.nest (c : Core) (k : Nat) : List (Nat × Nat) := Tab.get [] c.irq.stack k

/-- R436: source `n` is deliverable to core `k`. -/
def Core.deliverable (c : Core) (k n : Nat) : Bool :=
  c.irqState n == 1 && c.rd (F.IRQ_SRC.TGT n) == k && c.on (F.IRQ_SRC.EN n) && c.rd (F.IRQ_SRC.PRIO n) != 0 &&
    decide (c.rd (F.IRQ_CPU.THR k) < c.rd (F.IRQ_SRC.PRIO n)) && !c.on (F.IRQ_HOLD.RUN (n / 8)) && c.fastOn k == none &&
    (c.on (F.IRQ_SRC.FAST n) || decide (c.rd (F.IRQ_CPU.RLVL k) < c.rd (F.IRQ_SRC.PRIO n)))

/-- R437: the rank of a deliverable source: fast before normal, then the highest level, then the lowest number. -/
def Core.irqRank (c : Core) (n : Nat) : Nat := (16 * c.rd (F.IRQ_SRC.FAST n) + c.rd (F.IRQ_SRC.PRIO n)) * 128 + (127 - n)

/-- R437: the source to deliver to core `k`. -/
def Core.irqBest (c : Core) (k : Nat) : Option Nat :=
  (upTo 128).foldl (fun b n => if c.deliverable k n then
    match b with
    | none => some n
    | some m => if c.irqRank m < c.irqRank n then some n else some m
    else b) none

/-- The levels that a core's registers show (R449). -/
def irqShow (k : Nat) (c : Core) : Core :=
  (((c.wr (F.IRQ_CPU.RLVL k) (match c.nest k with | [] => 0 | x :: _ => x.1)).wr (F.IRQ_CPU.DEPTH k) (c.nest k).length).wrB
    (F.IRQ_CPU.FACT k) (c.fastOn k != none))

/-- R438, R440: core `k` starts the vector fetch of its next source; the group's hold-off starts. -/
def irqDeliver (k : Nat) (c : Core) : Core :=
  match c.irqBest k with
  | none => c
  | some n =>
    let c1 := (irqSet n 2 c).wr (F.IRQ_LAST.SRC k) n
    let c2 := c1.wrB (F.IRQ_HOLD.RUN (n / 8)) (c1.rd (F.IRQ_HOLD.HOLD (n / 8)) != 0)
    irqShow k (if c2.on (F.IRQ_SRC.FAST n) then
        { c2 with irq := { c2.irq with fast := Tab.put none c2.irq.fast k (some n) } }
      else { c2 with irq := { c2.irq with stack := Tab.put [] c2.irq.stack k ((c2.rd (F.IRQ_SRC.PRIO n), n) :: c2.nest k) } })

/-- R439: a handler on core `k` ends with source `n`. -/
def irqEoi (k n : Nat) (c : Core) : Core :=
  if c.fastOn k = some n then
    irqShow k { irqSet n 0 c with irq := { c.irq with fast := Tab.put none c.irq.fast k none } }
  else if (c.nest k).any (fun x => x.2 == n) then
    irqShow k { irqSet n 0 c with irq := { c.irq with stack := Tab.put [] c.irq.stack k ((c.nest k).filter (fun x => x.2 != n)) } }
  else c.cntSat (F.IRQ_CPU.EOIERR k)

/-- R440: the hold-off of group `g` expires. -/
def irqHoldEnd (g : Nat) (c : Core) : Core := c.wrB (F.IRQ_HOLD.RUN g) false

/-- R443: a write of ones to `IRQ_PENDw` discards pending assertions. -/
def irqDiscard (w bits : Nat) (c : Core) : Core :=
  forUp 32 (fun i c => if bitAt bits i && c.irqState (32 * w + i) == 1 then irqSet (32 * w + i) 0 c else c) c

/-- R446: software interrupts. -/
def irqSgi (bits : Nat) (c : Core) : Core := forUp 4 (fun k c => if bitAt bits k then c.pulse (124 + k) else c) c

end Sys2Proof.Machine
end

