-- ==== Sys2Proof/Machine/Sdm.lean ====
section
/-! DEFINITION. SDM: roles, tick results, operands and status (R236 to R239). -/

namespace Sys2Proof.Machine

/-- R236: input `n` is enabled and its modulator clock runs. -/
def Core.sdmRuns (c : Core) (n : Nat) : Bool := c.on (F.SDM_CFG.EN n) && bitAt (c.rd F.SDM_CKEN.EN) (c.rd (F.SDM_CFG.CK n))

/-- R258: the configured phases. -/
def Core.nph (c : Core) : Nat := min 6 (c.rd F.CNV_TOPO.NPH)

/-- The enabled inputs with a role. -/
def Core.withRole (c : Core) (r : Nat) : List Nat := (upTo 12).filter (fun n => c.on (F.SDM_CFG.EN n) && c.rd (F.SDM_CFG.ROLE n) == r)

/-- The enabled role 0x1 inputs of a phase. -/
def Core.phaseInputs (c : Core) (k : Nat) : List Nat := (c.withRole 1).filter (fun n => c.rd (F.SDM_CFG.PHASE n) == k)

/-- R237: the configuration is complete. -/
def Core.roleOk (c : Core) : Bool :=
  ([2, 3, 4, 5].all (fun r => (c.withRole r).length == 1)) && ((upTo c.nph).all (fun k => (c.phaseInputs k).length == 1))

/-- R262: the decimation ratio that acts. -/
def Core.osr (c : Core) (n : Nat) : Nat := max 8 (c.rd (F.SDM_CFG.OSR n))

/-- R238: an enabled input delivers outputs less often than once a tick (50 ns is 25 CTL clocks). -/
def Core.slow (c : Core) : Bool := (upTo 12).any (fun n => c.on (F.SDM_CFG.EN n) && decide (c.period < 25 * c.osr n))

/-- R238: full scale. -/
def Core.fs (c : Core) (n : Nat) : Int := c.rd (F.SDM_FS.FS n)

/-- R238: the mean of 2d - 1, given by its sum scaled by 2^32 and a number, in mA or mV, rounded to nearest, saturated to full scale. -/
def sdmValue (fs : Int) (m : Int × Nat) : Int := clampI (-fs) fs (roundDiv (fs * m.1) (2 ^ 32 * max 1 (m.2 : Int)))

/-- R238: the same mean as a Q15 operand. -/
def sdmOperand (m : Int × Nat) : Int := satS 16 (roundDiv m.1 (2 ^ 17 * max 1 (m.2 : Int)))

/-- The tick result of an input. -/
def Core.res (c : Core) (n : Nat) : Int := c.rdS (F.SDM_RES.RES n)

/-- The tick result of the input with a role, 0 where no input has it. -/
def Core.role (c : Core) (r : Nat) : Int := match c.withRole r with | n :: _ => c.res n | [] => 0

/-- The full scale of the input with a role, 0 where no input has it. -/
def Core.roleFs (c : Core) (r : Nat) : Int := match c.withRole r with | n :: _ => c.fs n | [] => 0

/-- The operand of an input. -/
def Core.operand (c : Core) (n : Nat) : Int := sdmOperand (Tab.get (0, 1) c.sdm.mean n)

/-- The operand of the input with a role. -/
def Core.roleOperand (c : Core) (r : Nat) : Int := match c.withRole r with | n :: _ => c.operand n | [] => 0

/-- The primary current stream is lost (R200). -/
def Core.isLost (c : Core) : Bool := match c.withRole 2 with | n :: _ => bitAt (c.rd F.SDM_STAT.LOSS) n | [] => false

/-- R238: the outputs of an input whose window centres lie in a tick are at most as many as its decimation gives. -/
def Core.sdmOuts (c : Core) (n : Nat) (outs : List Int) : List Int := outs.take (c.period / (25 * c.osr n) + 1)

/-- R238: one input delivers its tick result, the mean of the outputs whose window centres lie in the tick; with none of them the latest
output is repeated. -/
def sdmInput (n : Nat) (outs : List Int) (c : Core) : Core :=
  if c.sdmRuns n then
    let xs := c.sdmOuts n outs
    let m : Int × Nat := if xs = [] then (Tab.get 0 c.sdm.last n, 1) else (sumI xs, xs.length)
    ({ c with sdm := { mean := Tab.put (0, 1) c.sdm.mean n m, last := Tab.put 0 c.sdm.last n (xs.getLastD (Tab.get 0 c.sdm.last n)) } } : Core).wrS
      (F.SDM_RES.RES n) (sdmValue (c.fs n) m)
  else c

/-- R53, R238: at a tick boundary the filters deliver the results of the ended tick. -/
def sdmTick (outs : List (List Int)) (c : Core) : Core :=
  let c1 := forUp 12 (fun n c => sdmInput n (outs.getD n []) c) c
  (c1.wrB F.SDM_STAT.ROLEOK c1.roleOk).wrB F.SDM_STAT.SLOW c1.slow

end Sys2Proof.Machine
end

