-- ==== Sys2Proof/Machine/Cte.lean ====
section
/-! DEFINITION. CTE, the control engine (R264 to R282): the instruction word, the meaning of each opcode on the engine's
state, a whole pass, the standard loop set, admission, staging, swaps, and the parameter shadow. -/

namespace Sys2Proof.Machine

/-! ### Operand space (R269) -/

/-- R276, R277: a state word after pass `n` of the standard loop set; where that set keeps its state is not stated, so it is free
(notes/assumptions/3). -/
def stdWord (n a : Nat) : Int := toSigned 16 ((Config.freeInt 8 (256 * n + a)).toNat % 65536)

/-- A word of data memory: a state word that the standard loop set left and nothing has written since is free. -/
def CteSt.word (e : CteSt) (a : Nat) : Int :=
  match e.stdFree with
  | some n => if a < 256 && !e.wrote.contains a then stdWord n a else Tab.get 0 e.dm a
  | none => Tab.get 0 e.dm a

/-- A word of data memory is written. -/
def CteSt.put (e : CteSt) (a : Nat) (v : Int) : CteSt :=
  { e with
    dm := Tab.put 0 e.dm a v
    wrote := if e.stdFree.isSome && decide (a < 256) && !e.wrote.contains a then a :: e.wrote else e.wrote }

/-- A read of the 10-bit operand space. -/
def CteSt.rd (e : CteSt) (a : Nat) : Int :=
  if a < 512 then e.word a else if a < 592 then Tab.get 0 e.inp a else 0

/-- The engine may write data memory at an address: state and free region. -/
def dmWritable (a : Nat) : Bool := decide (a < 256) || (decide (384 ≤ a) && decide (a < 512))

/-- A write by the engine. -/
def CteSt.wr (e : CteSt) (a : Nat) (v : Int) : CteSt :=
  if dmWritable a then e.put a v
  else if 592 ≤ a ∧ a < 624 then { e with out := Tab.put 0 e.out a v } else e

/-- R265: the 40-bit range of an accumulator. -/
def accSat (x : Int) : Int := satS 40 x

/-- An accumulator. -/
def CteSt.a (e : CteSt) (i : Nat) : Int := e.acc.getD i 0

/-- A predicate; P0 always reads 1. -/
def CteSt.p (e : CteSt) (i : Nat) : Bool := i == 0 || e.pred.getD i false

/-- An accumulator takes a result, saturated; ACCSAT records a saturation. -/
def setAcc (i : Nat) (x : Int) (c : Core) : Core :=
  let c1 := { c with cte := { c.cte with acc := c.cte.acc.set i (accSat x) } }
  if accSat x = x then c1 else c1.wr F.CTE_STAT.ACCSAT 1

/-- A predicate takes a value; P0 is never written. -/
def setPred (i : Nat) (b : Bool) (c : Core) : Core :=
  if i = 0 then c else { c with cte := { c.cte with pred := c.cte.pred.set i b } }

/-- R266: rounding of a store, ties toward plus infinity. -/
def q15Round (x : Int) : Int := (x + 16384) / 32768

/-- R266: a store saturates to a range and counts if it did. -/
def storeAcc (lo hi : Int) (x : Nat) (v : Int) (c : Core) : Core :=
  let r := clampI lo hi (q15Round v)
  let c1 := { c with cte := c.cte.wr x r }
  if r = q15Round v then c1 else c1.cntSat F.CTE_SATCNT.COUNT

/-! ### Instructions (R267, R268) -/

/-- The instruction executes: its predicate holds. -/
def cteGoes (w : CteW) (e : CteSt) : Bool := e.p w.pr != w.neg

/-- An instruction takes effect only where its predicate holds. -/
def cteRun (w : CteW) (f : Core → Core) (c : Core) : Core := if cteGoes w c.cte then f c else c

/-- LDA: A_a = X × 2^15. -/
def cteLda (w : CteW) (c : Core) : Core := cteRun w (fun c => setAcc w.a (c.cte.rd w.x * 32768) c) c

/-- MPY: A_a = X × Y. -/
def cteMpy (w : CteW) (c : Core) : Core := cteRun w (fun c => setAcc w.a (c.cte.rd w.x * c.cte.rd w.y) c) c

/-- MAC: A_a = A_a + X × Y. -/
def cteMac (w : CteW) (c : Core) : Core := cteRun w (fun c => setAcc w.a (c.cte.a w.a + c.cte.rd w.x * c.cte.rd w.y) c) c

/-- MSU: A_a = A_a − X × Y. -/
def cteMsu (w : CteW) (c : Core) : Core := cteRun w (fun c => setAcc w.a (c.cte.a w.a - c.cte.rd w.x * c.cte.rd w.y) c) c

/-- ADD: A_a = A_a + X × 2^15. -/
def cteAdd (w : CteW) (c : Core) : Core := cteRun w (fun c => setAcc w.a (c.cte.a w.a + c.cte.rd w.x * 32768) c) c

/-- SUB: A_a = A_a − X × 2^15. -/
def cteSub (w : CteW) (c : Core) : Core := cteRun w (fun c => setAcc w.a (c.cte.a w.a - c.cte.rd w.x * 32768) c) c

/-- ADDA: A_a = A_a + A_b. -/
def cteAdda (w : CteW) (c : Core) : Core := cteRun w (fun c => setAcc w.a (c.cte.a w.a + c.cte.a w.b) c) c

/-- SUBA: A_a = A_a − A_b. -/
def cteSuba (w : CteW) (c : Core) : Core := cteRun w (fun c => setAcc w.a (c.cte.a w.a - c.cte.a w.b) c) c

/-- SHL: A_a = A_a × 2^n, n = Y[4:0]. -/
def cteShl (w : CteW) (c : Core) : Core := cteRun w (fun c => setAcc w.a (c.cte.a w.a * ((2 ^ (w.y % 32) : Nat) : Int)) c) c

/-- SHR: arithmetic shift right by n = Y[4:0], toward minus infinity. -/
def cteShr (w : CteW) (c : Core) : Core := cteRun w (fun c => setAcc w.a (c.cte.a w.a / ((2 ^ (w.y % 32) : Nat) : Int)) c) c

/-- CLMP: A_a = min(max(A_a, X × 2^15), Y × 2^15). -/
def cteClmp (w : CteW) (c : Core) : Core :=
  cteRun w (fun c => setAcc w.a (min (max (c.cte.a w.a) (c.cte.rd w.x * 32768)) (c.cte.rd w.y * 32768)) c) c

/-- CMPLT: P_p = 1 if A_a is strictly below X × 2^15. -/
def cteCmplt (w : CteW) (c : Core) : Core := cteRun w (fun c => setPred w.b (decide (c.cte.a w.a < c.cte.rd w.x * 32768)) c) c

/-- CMPGE: P_p = 1 if A_a is at or above X × 2^15. -/
def cteCmpge (w : CteW) (c : Core) : Core := cteRun w (fun c => setPred w.b (decide (c.cte.rd w.x * 32768 ≤ c.cte.a w.a)) c) c

/-- TST: P_p = 1 if X ≠ 0. -/
def cteTst (w : CteW) (c : Core) : Core := cteRun w (fun c => setPred w.b (decide (c.cte.rd w.x ≠ 0)) c) c

/-- STS: store A_a at X, signed. -/
def cteSts (w : CteW) (c : Core) : Core := cteRun w (fun c => storeAcc (-32768) 32767 w.x (c.cte.a w.a) c) c

/-- STU: store A_a at X, unsigned. -/
def cteStu (w : CteW) (c : Core) : Core := cteRun w (fun c => storeAcc 0 32767 w.x (c.cte.a w.a) c) c

/-- MOV: word at X = word at Y. -/
def cteMov (w : CteW) (c : Core) : Core := cteRun w (fun c => { c with cte := c.cte.wr w.x (c.cte.rd w.y) }) c

/-- R267: the fields of an instruction word. -/
def cteFields (n : Nat) : CteW :=
  ⟨bitAt n 26, bitsAt n 24 2, bitsAt n 22 2, bitsAt n 20 2, bitsAt n 10 10, bitsAt n 0 10⟩

/-- R267: the opcode of an instruction word. -/
def cteOp (n : Nat) : Nat := bitsAt n 27 5

/-- One instruction word executes. NOP, END and words that no admitted program holds have no effect of their own. -/
def cteExec (n : Nat) (c : Core) : Core :=
  let w := cteFields n
  match cteOp n with
  | 1 => cteLda w c
  | 2 => cteMpy w c
  | 3 => cteMac w c
  | 4 => cteMsu w c
  | 5 => cteAdd w c
  | 6 => cteSub w c
  | 7 => cteAdda w c
  | 8 => cteSuba w c
  | 9 => cteShl w c
  | 10 => cteShr w c
  | 11 => cteClmp w c
  | 12 => cteCmplt w c
  | 13 => cteCmpge w c
  | 14 => cteTst w c
  | 15 => cteSts w c
  | 16 => cteStu w c
  | 17 => cteMov w c
  | _ => c

/-! ### Program memory -/

/-- A word of program memory. The words of the standard loop set are not stated: free (notes/assumptions/3), but for the first, which reads
the reset value of CTE_PMDATA (R281). -/
def Core.pmWord (c : Core) (a : Nat) : Nat :=
  let v := Tab.get 0 c.cte.pm a
  if v ≠ 0 then v - 1
  else match c.cte.stdAt.find? (fun b => decide (b ≤ a) && decide (a < b + 368)) with
    | some b => if a = b then 0 else (Config.freeInt 9 (a - b)).toNat % 2 ^ 32
    | none => 0

/-- The words of a region. -/
def Core.pmWords (c : Core) (base len : Nat) : List Nat := (upTo len).map (fun i => c.pmWord (base + i))

/-- Two regions overlap. -/
def overlap (b1 l1 b2 l2 : Nat) : Bool := decide (b1 < b2 + l2) && decide (b2 < b1 + l1)

/-- R282: the registers that show the active and the staged program. -/
def cteShow (c : Core) : Core :=
  let a := c.cte.act
  let s := c.cte.stg
  let c1 := ((c.wrB F.CTE_STAT.ACT a.isSome).wrB F.CTE_STAT.STG s.isSome)
  let c2 := match a with
    | some p => (((c1.wr F.CTE_ACT_WCET.WCET p.wcet).wr F.CTE_ACT_WCET.PMIN p.pmin).wr F.CTE_ACT_REG.BASE p.base).wr F.CTE_ACT_REG.LEN p.len
    | none => (((c1.wr F.CTE_ACT_WCET.WCET 0).wr F.CTE_ACT_WCET.PMIN 0).wr F.CTE_ACT_REG.BASE 0).wr F.CTE_ACT_REG.LEN 0
  match s with
  | some p => (c2.wr F.CTE_STG_WCET.WCET p.wcet).wr F.CTE_STG_WCET.PMIN p.pmin
  | none => (c2.wr F.CTE_STG_WCET.WCET 0).wr F.CTE_STG_WCET.PMIN 0

/-- R273: the program word that a write would change is in the active region: the write is discarded. -/
def Core.pmBarred (c : Core) : Bool :=
  match c.cte.act with | some p => overlap (c.rd F.CTE_PMADDR.ADDR) 1 p.base p.len | none => false

/-- R273, R281: a host write of a program word. -/
def pmWrite (v : Nat) (c : Core) : Core :=
  let a := c.rd F.CTE_PMADDR.ADDR
  let c1 := c.cntWrap F.CTE_PMADDR.ADDR
  if c.pmBarred then c1.wr F.CTE_STAT.PMWERR 1
  else
    let inStg := match c.cte.stg with | some p => overlap a 1 p.base p.len | none => false
    let c2 := { c1 with cte := { c1.cte with pm := Tab.put 0 c1.cte.pm a (v % 2 ^ 32 + 1) } }
    if inStg then cteShow { c2 with cte := { c2.cte with stg := none } } else c2

/-- R276: the data word that a write would change is outside the parameter region while a program is active: the write is discarded. -/
def Core.dmBarred (c : Core) : Bool :=
  let a := c.rd F.CTE_DMADDR.ADDR
  !(decide (256 ≤ a) && decide (a < 384)) && c.cte.act.isSome

/-- R276: a host write of a data-memory word. -/
def dmWrite (v : Nat) (c : Core) : Core :=
  let a := c.rd F.CTE_DMADDR.ADDR
  let c1 := c.cntWrap F.CTE_DMADDR.ADDR
  if 256 ≤ a ∧ a < 384 then { c1 with cte := { c1.cte with shadow := Tab.put 0 c1.cte.shadow a (toSigned 16 v) } }
  else if !c.dmBarred then { c1 with cte := c1.cte.put a (toSigned 16 v) } else c1

/-- R276: the word that a read of CTE_DMDATA returns: that of the last completed pass. -/
def Core.dmWord (c : Core) (a : Nat) : Nat := ofSigned 16 (c.cte.word a)

/-! ### Admission (R272) -/

/-- R54: the budget at a tick length. -/
def cteBudget (p : Nat) : Int := ((4 * p / 5 : Nat) : Int) - 64

/-- R272: the shortest tick that admits a cycle count. -/
def ctePmin (wcet : Nat) : Nat := ceilDiv ((wcet + 64) * 5) 4

/-- R268: the clocks of a word. -/
def cteClocks (n : Nat) : Nat := if cteOp n = 15 ∨ cteOp n = 16 then 2 else 1

/-- Check 3: a known opcode, and a shift of at most 16. -/
def wordKnown (n : Nat) : Bool :=
  let o := cteOp n
  (decide (o ≤ 17) || o == 31) && !((o == 9 || o == 10) && decide (16 < n % 32))

/-- Check 4: the addresses a word reads and writes are allowed. -/
def wordPlaces (n : Nat) : Bool :=
  let o := cteOp n
  let w := cteFields n
  let rdOk := fun a => decide (a < 592)
  let wrOk := fun a => dmWritable a || (decide (592 ≤ a) && decide (a < 624))
  let rx := [1, 2, 3, 4, 5, 6, 11, 12, 13, 14].contains o
  let ry := [2, 3, 4, 11, 17].contains o
  let wx := [15, 16, 17].contains o
  (!rx || rdOk w.x) && (!ry || rdOk w.y) && (!wx || wrOk w.x) && !(o == 15 && decide (592 ≤ w.x) && decide (w.x < 604))

/-- The first word that fails a test. -/
def firstBad (p : Nat → Bool) : Nat → List Nat → Option Nat
  | _, [] => none
  | i, w :: ws => if p w then firstBad p (i + 1) ws else some i

/-- Check 5: END is the last word and stands nowhere else. -/
def endCheck (ws : List Nat) : Option Nat :=
  match firstBad (fun w => cteOp w != 31) 0 ws with
  | some i => if i + 1 = ws.length then none else some i
  | none => some (ws.length - 1)

/-- Checks 3 to 5: the error and the offset of the failing word, 0 where they pass. -/
def wordChecks (ws : List Nat) : Nat × Nat :=
  match firstBad wordKnown 0 ws with
  | some i => (3, i)
  | none => match firstBad wordPlaces 0 ws with
    | some i => (4, i)
    | none => match endCheck ws with
      | some i => (5, i)
      | none => (0, 0)

/-- R281: the swap condition that acts. -/
def Core.swapCond (c : Core) : Nat := if c.rd F.CTE_SWAP.SWAP = 3 then 0 else c.rd F.CTE_SWAP.SWAP

/-- R272: the seven checks in order on the program that the registers name. -/
def admitOf (std : Bool) (c : Core) : Nat × Nat × Nat :=
  let base := c.rd F.CTE_LOAD.BASE
  let len := if std then 368 else c.rd F.CTE_LOAD.LEN
  if len = 0 ∨ 1024 < base + len then (1, 0, 0)
  else if (match c.cte.act with | some p => overlap base len p.base p.len | none => false) then (2, 0, 0)
  else
    let ws := if std then [] else c.pmWords base len
    let chk := if std then (0, 0) else wordChecks ws
    let wcet := if std then 1472 else sumN (ws.map cteClocks)
    if chk.1 ≠ 0 then (chk.1, chk.2, wcet)
    else
      let p := if c.swapCond = 2 then c.rd F.CTE_SWAP.BIND else c.period
      if c.swapCond ≠ 0 ∧ cteBudget p < wcet then (6, 0, wcet)
      else if c.swapCond = 0 then (7, 0, wcet) else (0, 0, wcet)

/-- R272: the admission check completes. -/
def admissionCheck (c : Core) : Core :=
  let std := c.on F.CTE_CTRL.STD
  if std || c.on F.CTE_CTRL.LOAD then
    let r := admitOf std c
    let base := c.rd F.CTE_LOAD.BASE
    let len := if std then 368 else c.rd F.CTE_LOAD.LEN
    let c1 := (((c.wr F.CTE_CTRL.STD 0).wr F.CTE_CTRL.LOAD (if std then c.rd F.CTE_CTRL.LOAD else 0)).wr F.CTE_STAT.LERR r.1).wr F.CTE_STAT.LADDR r.2.1
    let c2 :=
      if r.1 = 0 then
        let p : Prog := ⟨base, len, r.2.2, ctePmin r.2.2, c.swapCond, c.on F.CTE_SWAP.KEEP, c.rd F.CTE_SWAP.BIND, std⟩
        let pm := if std then c1.cte.pm.filter (fun (x : Nat × Nat) => !overlap x.1 1 base 368) else c1.cte.pm
        cteShow { c1 with cte := { c1.cte with stg := some p, pm := pm, stdAt := if std then base :: c1.cte.stdAt else c1.cte.stdAt } }
      else c1
    c2.raise 59 0 r.1
  else c

/-- R272: a tick length has an admitted program at a boundary. -/
def admittedFor (c : Core) (p : Nat) : Bool :=
  match c.cte.stg with
  | some s =>
    if s.swap = 1 then decide (s.pmin ≤ p)
    else (s.swap == 2 && s.bind == p) || (match c.cte.act with | some a => decide (a.pmin ≤ p) | none => false)
  | none => match c.cte.act with | some a => decide (a.pmin ≤ p) | none => false

/-- An admitted program governs at the present tick length, or one that is due at this boundary does from it on (R273, R275). -/
def Core.hasProgram (c : Core) : Bool := c.cte.due || match c.cte.act with | some a => decide (a.pmin ≤ c.period) | none => false

/-! ### Swap, halt, parameters (R273 to R276) -/

/-- R271, R273, R274: the staged program becomes active. -/
def cteSwap (s : Prog) (c : Core) : Core :=
  let c1 := { c with cte := { c.cte with
    act := some s, stg := none, out := [], first := true
    dm := if s.keep then c.cte.dm else c.cte.dm.filter (fun (x : Nat × Int) => decide (256 ≤ x.1))
    std := if s.keep then c.cte.std else {}
    stdFree := if s.keep then c.cte.stdFree else none
    wrote := if s.keep then c.cte.wrote else []
    inp := Tab.put 0 c.cte.inp 556 32767 } }
  ((cteShow c1).cntSat F.CTE_SWCNT.COUNT).raise 60 0 s.base

/-- R273: a program staged with SWAP = 0b01 is due at a boundary. -/
def swapNow (c : Core) : Core :=
  match c.cte.stg with
  | some s => if s.swap = 1 then (if s.pmin ≤ c.period then cteSwap s c else c.wr F.CTE_STAT.LERR 6) else c
  | none => c

/-- R273: a program staged for a tick length swaps at the change to it. -/
def swapAtChange (c : Core) : Core :=
  match c.cte.stg with
  | some s => if s.swap = 2 ∧ s.bind = c.period then cteSwap s c else c
  | none => c

/-- R275: a withdrawn program ends at the tick boundary. -/
def cteHalt (c : Core) : Core :=
  if c.on F.CTE_CTRL.HALT then cteShow { (c.wr F.CTE_CTRL.HALT 0) with cte := { c.cte with act := none } } else c

/-- R276: the whole shadow commits. -/
def paramCommit (c : Core) : Core :=
  let dm := forUp 128 (fun i t => Tab.put 0 t (256 + i) (Tab.get 0 c.cte.shadow (256 + i))) c.cte.dm
  let m := c.rd F.CTE_PCOMMIT.MODE
  ((({ c with cte := { c.cte with dm := dm } }).wr F.CTE_PCOMMIT.GO 0).wrB F.CTE_PCOMMIT.PEND
    (c.wait.any (fun w => w.fld.key == F.CTE_PCOMMIT.GO.key))).raise 61 0 m

/-- R276: at a tick boundary a requested commit of MODE 0b0 takes place; one of MODE 0b1 waits. -/
def paramTick (c : Core) : Core :=
  if c.on F.CTE_PCOMMIT.GO then (if c.rd F.CTE_PCOMMIT.MODE = 0 then paramCommit c else c.wr F.CTE_PCOMMIT.PEND 1) else c

/-- R276: at a committed tick change a commit of MODE 0b1 takes place. -/
def paramChange (c : Core) : Core := if c.on F.CTE_PCOMMIT.GO && c.rd F.CTE_PCOMMIT.MODE == 1 then paramCommit c else c

/-! ### The standard loop set (R277, R278) -/

/-- A sum of Q30 terms stored as a signed Q15 word (R266). -/
def q15 (x : Int) : Int := clampI (-32768) 32767 (q15Round x)

/-- R266: a value that a store has to saturate counts one. -/
def satOne (v : Int) : Nat := if clampI (-32768) 32767 v = v then 0 else 1

/-- One phase of the standard loop set: the phase number, whether four-switch, and the word itot; with the count of saturated words. -/
def stdPhase (e : CteSt) (four reload hold : Bool) (itot : Int) (k : Nat) (r : StdSt × Tab Int × Nat) : StdSt × Tab Int × Nat :=
  let par := fun a => Tab.get 0 e.dm (256 + a)
  let inp := fun a => Tab.get 0 e.inp (512 + a)
  let dmax := par 7
  let act := inp (60 + k) != 0
  let p0 := r.1.pint.getD k 0
  let p1 := if reload then (if four then q15Round ((inp (48 + 2 * k) + dmax - inp (49 + 2 * k)) * 16384) else inp (48 + 2 * k)) else p0
  let refRaw := if act then roundDiv (2 * par 9 * par 6 * inp 45 * itot) (2 ^ 45) else 0
  let ref := clampI (-32768) 32767 refRaw
  let e' := clampI (-32768) 32767 (ref - inp (16 + k))
  let gain := if four then (1 : Int) else 2
  let pRaw := if hold then p1 else roundDiv (p1 * 65536 + gain * par 1 * e') 65536
  let p2 := clampI (-32768) 32767 pRaw
  let u := clampI 0 dmax (roundDiv (p2 * 65536 + gain * par 0 * e') 65536)
  let da := if four then min (2 * u) dmax else u
  let db := if four then (if 2 * u ≤ dmax then dmax else 2 * dmax - 2 * u) else 0
  let o1 := Tab.put 0 (Tab.put 0 r.2.1 (604 + k) ref) (592 + 2 * k) da
  ({ r.1 with pint := r.1.pint.set k p2 }, if four then Tab.put 0 o1 (593 + 2 * k) db else o1,
    r.2.2 + satOne refRaw + satOne (ref - inp (16 + k)) + satOne pRaw)

/-- R277: one pass of the standard loop set, with the count of words it saturates (R266). Every assigned word is the exact right-hand side
rounded and saturated once. -/
def stdPass (e : CteSt) : CteSt × Nat :=
  let par := fun a => Tab.get 0 e.dm (256 + a)
  let inp := fun a => Tab.get 0 e.inp (512 + a)
  let reload := inp 44 != 0
  let hold := inp 43 != 0
  let four := par 8 == 2
  let ihi := inp 36
  let ilo := inp 37
  let sint0 := if reload then e.std.itot else e.std.sint
  let vint0 := if reload then inp 22 else e.std.vint
  let ss := inp 41 != 0
  let ll := inp 39 != 0
  let vtRaw := if ll then inp 32 * 32768 - inp 33 * inp 23 else if ss then inp 38 * 32768 else 0
  let vt := q15 vtRaw
  let ev := clampI (-32768) 32767 (vt - inp 24)
  let vint1 := if (ss || ll) && !hold then clampI ilo ihi (q15 (vint0 * 32768 + par 5 * ev)) else vint0
  let isrRaw := if ss || ll then par 4 * ev + vint1 * 32768 else 0
  let isrV := q15 isrRaw
  let isr0 := if inp 42 != 0 then inp 38 else if inp 40 != 0 then inp 34 else isrV
  let isr1 := clampI (-32768) 32767 (isr0 + inp 35)
  let clc := decide (ihi < isr1)
  let cld := decide (isr1 < ilo)
  let isr := clampI ilo ihi isr1
  let es := clampI (-32768) 32767 (isr - inp 22)
  let sintRaw := if hold then sint0 * 32768 else sint0 * 32768 + par 3 * es
  let sint := q15 sintRaw
  let itotRaw := par 2 * es + sint * 32768
  let itot := q15 itotRaw
  let out0 := if ss || ll then Tab.put 0 e.out 610 vt else e.out
  let out1 := Tab.put 0 (Tab.put 0 out0 611 (if clc then 32767 else 0)) 612 (if cld then 32767 else 0)
  let sat := satOne (q15Round vtRaw) + satOne (if ss || ll then vt - inp 24 else 0) + satOne (q15Round isrRaw) + satOne (isr0 + inp 35) +
    satOne (isr - inp 22) + satOne (q15Round sintRaw) + satOne (q15Round itotRaw)
  let r := forUp 6 (stdPhase e four reload hold itot) ({ e.std with sint := sint, vint := vint1, itot := itot }, out1, sat)
  ({ e with std := r.1, out := r.2.1 }, r.2.2)

/-! ### A pass (R53, R265, R274) -/

/-- R280: before each engine start of a standby its state and parameter regions take the mirrored values. -/
def engineMirror (c : Core) : Core :=
  if c.standby then
    { c with cte := { c.cte with
      dm := c.cte.mirror ++ c.cte.dm.filter (fun (x : Nat × Int) => decide (384 ≤ x.1)), std := c.cte.mirStd, stdFree := none, wrote := [] } }
  else c

/-- R280: a module that becomes a standby has what its engine held until the mirror brings other values. -/
def mirrorInit (c : Core) : Core :=
  { c with cte := { c.cte with mirror := c.cte.dm.filter (fun (x : Nat × Int) => decide (x.1 < 384)), mirStd := c.cte.std } }

/-- R53: the engine runs its pass on the latched operands. -/
def enginePass (c0 : Core) : Core :=
  let c := engineMirror c0
  match c.cte.act with
  | none => c
  | some p =>
    let c1 := { c with cte := { c.cte with acc := [0, 0, 0, 0], pred := [true, false, false, false] } }
    if p.std then
      let r := stdPass c1.cte
      (({ c1 with cte := { r.1 with stdFree := some c1.free, wrote := [] } } : Core).tickFree).cntSat F.CTE_SATCNT.COUNT r.2
    else (c1.pmWords p.base p.len).foldl (fun c w => cteExec w c) c1

/-- R55, R274: the running pass misses the commit point. -/
def Core.passLate (c : Core) : Bool :=
  match c.cte.act with
  | some p => c.cte.first && decide (cteBudget c.period < ((if p.keep then 16 else 272) + p.wcet : Nat))
  | none => false

end Sys2Proof.Machine
end

