-- ==== Sys2Proof/Machine/Prot.lean ====
section
/-! DEFINITION. PROT, the protection fabric (R283 to R308): trips, cycle-by-cycle limit, windows, stream and clock loss,
cross-checks, string limits, insulation, clearing, configuration commits. -/

namespace Sys2Proof.Machine

/-! ### Latching a trip (R299, R302) -/

/-- The states in which CNV switches (R240). -/
def switching (st : Nat) : Bool := st == 2 || st == 3 || st == 4 || st == 5 || st == 6

/-- The state CNV is in. -/
def Core.cnvState (c : Core) : Nat := c.rd F.CNV_STAT.STATE

/-- R230, R299, R301: the gates are enabled: CNV switches, no burst sleep, no trip nor one that has been cleared before CNV met it, VIO_A present
(R561), the module runs the converter. -/
def Core.gatesOn (c : Core) : Bool :=
  switching c.cnvState && !c.cnv.sleep && !c.on F.PROT_STAT.TRIP && !c.prot.tripSeen && c.prot.vioA && !c.standby &&
    (!c.on F.RED_CFG.PAIR || c.on F.RED_STAT.GNT)

/-- R285: the outputs of phase `k` are not held safe. -/
def Core.phaseOn (c : Core) (k : Nat) : Bool := c.gatesOn && !bitAt c.prot.forced k

/-- R230, R285, R299: the outputs follow the period's switching where they are not held safe. -/
def gateOutputs (c : Core) : Core :=
  { c with cnv := { c.cnv with legs := c.cnv.sched.filter (fun (x : Nat × Leg) => c.phaseOn (x.1 / 2)) } }

/-- R299: a cause latches its bit, with its `PROT_FIRST` code, and the gates go safe. -/
def protTrip (f : Fld) (bit code : Nat) (c : Core) : Core :=
  if bitAt (c.rd f) bit then c else
    let c1 := c.wr f (c.rd f + 2 ^ bit)
    let c2 := if c1.on F.PROT_STAT.TRIP then c1
      else ((c1.wr F.PROT_STAT.TRIP 1).wr F.PROT_FIRST.CODE code).cntSat F.PROT_TRIPCNT.COUNT
    gateOutputs ({ c2 with prot := { c2.prot with tripSeen := true } }.raise 64 0 code)

/-! ### Trip inputs (R283 to R285) -/

/-- R283: the mode that acts on an input; 0b11 acts as 0b01. -/
def Core.tripMode (c : Core) (n : Nat) : Nat := let m := c.rd (F.PROT_TRIP.MODE n); if m = 3 then 1 else m

/-- A bit of a mask takes a value. -/
def setBit (m k : Nat) (b : Bool) : Nat := if bitAt m k = b then m else if b then m + 2 ^ k else m - 2 ^ k

/-- R285: an input in cycle-by-cycle mode forces its phases, whose outputs are safe at once. -/
def cbcForce (n : Nat) (c : Core) : Core :=
  let m := c.rd (F.PROT_TRIP.PHMASK n)
  let c1 := { c with prot := { c.prot with forced := Nat.lor c.prot.forced m, period := Nat.lor c.prot.period m } }
  gateOutputs (c1.wr F.PROT_STAT.CBCACT c1.prot.forced)

/-- An input is at low level (R283). -/
def tripLow (n : Nat) (c : Core) : Core :=
  if c.tripMode n = 1 then protTrip F.PROT_TRIP0.TIN n (n + 1) c
  else if c.tripMode n = 2 then cbcForce n c else c

/-- An edge on TRIPn_N, which reads low without VIO_A (R561). -/
def tripPin (n : Nat) (high : Bool) (c : Core) : Core :=
  if high && !c.prot.vioA then c else
  let c1 := { c with prot := { c.prot with low := setBit c.prot.low n (!high) } }
  if high then c1 else tripLow n c1

/-- R285: some low input in cycle-by-cycle mode holds phase `k`. -/
def Core.cbcHolds (c : Core) (k : Nat) : Bool :=
  (upTo 8).any (fun n => bitAt c.prot.low n && c.tripMode n == 2 && bitAt (c.rd (F.PROT_TRIP.PHMASK n)) k)

/-- R285: the carrier peak of phase `k` ends its period: it counts if forced, and releases if no input holds it. -/
def carrierPeak (k : Nat) (c : Core) : Core :=
  let was := bitAt c.prot.period k
  let holds := c.cbcHolds k
  let row := if was then Tab.get 0 c.prot.rowF k + 1 else 0
  let c1 := { c with prot := { c.prot with
    rowF := Tab.put 0 c.prot.rowF k row, forced := setBit c.prot.forced k holds, period := setBit c.prot.period k holds } }
  gateOutputs ((c1.when was (fun c => c.cntSat (F.PROT_CBCCNT.COUNT k))).wr F.PROT_STAT.CBCACT c1.prot.forced)

/-- R285: NMAX forced periods in a row trip. -/
def cbcpTrip (k : Nat) (c : Core) : Core :=
  if max 1 (c.rd F.PROT_ICBC.NMAX) ≤ Tab.get 0 c.prot.rowF k then
    protTrip F.PROT_TRIP1.CBCP 0 57
      { c with prot := { c.prot with cbcp := setBit (if c.on F.PROT_TRIP1.CBCP then c.prot.cbcp else 0) k true } }
  else c

/-- R284: the level of a channel's gate-off line as PROT sees it. -/
def gateLine (ch : Nat) (low : Bool) (c : Core) : Core :=
  let c1 := { c with prot := { c.prot with gLow := setBit c.prot.gLow ch low } }
  if low then (if ch = 0 then protTrip F.PROT_TRIP1.SFA 0 58 c1 else protTrip F.PROT_TRIP1.SFB 0 59 c1) else c1

/-! ### Fast path (R287 to R289) -/

/-- R306: the consecutive outputs that act. -/
def fastCnt (v : Nat) : Nat := max 1 (min 4 v)

/-- R306: the fast decimation that acts. -/
def fastOsr (v : Nat) : Nat := max 4 (min 16 v)

/-- R287: one fast output of an input meets its window. -/
def fastOutput (n : Nat) (c : Core) (x : Int) : Core :=
  let out := decide (c.rdS (F.PROT_WIN.HI n) < x) || decide (x < c.rdS (F.PROT_WIN.LO n))
  let k := if out then Tab.get 0 c.prot.wCnt n + 1 else 0
  let c1 := { c with prot := { c.prot with wCnt := Tab.put 0 c.prot.wCnt n k, wOut := setBit c.prot.wOut n out } }
  if fastCnt (c.rd F.PROT_FAST.CNT) ≤ k then protTrip F.PROT_TRIP0.WIN n (16 + n) c1 else c1

/-- R287: fast outputs of an enabled input, oldest first. -/
def fastWindow (n : Nat) (outs : List Int) (c : Core) : Core :=
  if c.on (F.SDM_CFG.EN n) then outs.foldl (fastOutput n) c else c

/-- R288: a stream stops, or has run again for 1 ms. -/
def streamLoss (n : Nat) (present : Bool) (c : Core) : Core :=
  let c1 := ({ c with prot := { c.prot with lossNow := setBit c.prot.lossNow n (!present) } }).wr F.SDM_STAT.LOSS
    (setBit (c.rd F.SDM_STAT.LOSS) n (!present))
  if present then c1
  else if c.on (F.SDM_CFG.EN n) then protTrip F.PROT_TRIP1.LOSS n (32 + n) c1 else c

/-- R289: the CTL clock shows no edge for 100 ns, or is back. -/
def clockLoss (present : Bool) (c : Core) : Core :=
  let c1 := { c with prot := { c.prot with clkLost := !present } }
  if present then c1 else protTrip F.PROT_TRIP1.CLK 0 60 c1

/-! ### Cross-checks (R290 to R293) -/

/-- R290: the ticks of a window. -/
def xLen (p : Nat) : Nat := roundDivN 500000 p

/-- R292: the weight of a phase, scaled by 2^15. -/
def Core.xWeight (c : Core) (k : Nat) : Int := if c.rd F.CNV_TOPO.TOPO = 2 then 32768 else (Tab.get 0 c.cnv.duty (2 * k) : Nat)

/-- R292: the weighted phase sum of the tick that ended, scaled by 2^15, before its sign. -/
def Core.xPhase (c : Core) : Int :=
  sumI ((upTo c.nph).map (fun k =>
    if c.on (F.CNV_PH_ANG.ACT k) then (match c.phaseInputs k with | n :: _ => c.xWeight k * c.res n | [] => 0) else 0))

/-- R290: a window starts at a tick boundary whose count is a multiple of its length. -/
def Core.xStart (c : Core) : Option XWin :=
  if c.tbTick % xLen c.period = 0 then some ⟨c.tbTick, xLen c.period, 0, 0, 0, true, 0⟩ else none

/-- R290: the references that came before the cut-off commit. -/
def refsCommit (c : Core) : Core :=
  { c with prot := { c.prot with
    refs := c.prot.refs ++ (c.prot.refIn.filter (fun (x : XRef × Bool) => !x.2)).map (·.1)
    refIn := c.prot.refIn.filter (fun (x : XRef × Bool) => x.2) } }

/-- R290, R293: a channel's reference for a window reaches PROT, unless it comes later than 1 ms after the window's end. -/
def refArrive (late : Bool) (c : Core) (r : XRef) : Core :=
  if c.prot.ended.any (fun w => w.count == r.count && decide (16 * 500000 < 16 * w.age + c.instant)) then c
  else { c with prot := { c.prot with refIn := c.prot.refIn ++ [(r, late)] } }

/-- R290: the running window takes the tick that ended, ends when full, and the next starts at a multiple of its length. -/
def xTick (c : Core) : Core :=
  let t := c.tbTick
  let p := c.prot
  let grown := p.win.map (fun w => { w with
    vb := w.vb + c.role 4, cur := w.cur + c.role 2, iph := w.iph + c.xPhase, phOk := w.phOk && c.cnv.wasOn })
  let full := match grown with | some w => decide (w.count + w.len ≤ t) | none => false
  let aged := p.ended.map (fun w => { w with age := w.age + c.period })
  let ended := match grown with | some w => if full then aged ++ [w] else aged | none => aged
  let win := match c.xStart with | some w => some w | none => if full then none else grown
  { c with prot := { p with win := win, ended := ended } }

/-- R293: the references of both channels for a window have arrived. -/
def ProtSt.arrived (p : ProtSt) (w : XWin) : Bool :=
  let came := fun (ch : Nat) => p.refs.any (fun r => r.ch == ch && r.count == w.count) || p.refIn.any (fun x => x.1.ch == ch && x.1.count == w.count)
  came 0 && came 1

/-- R293: windows whose references have not arrived within 1 ms after their end are missed. -/
def xMiss (conf : Bool) (c : Core) : Core :=
  let gone := fun (w : XWin) => decide (500000 < w.age) && !c.prot.arrived w
  { c with prot := { c.prot with
    ended := c.prot.ended.filter (fun w => !gone w), miss := if conf then c.prot.miss + countIf gone c.prot.ended else 0 } }

/-- R290: when a tick change commits the running window ends without evaluation, and one of the new length starts there if its count fits. -/
def xDrop (c : Core) : Core := { c with prot := { c.prot with win := c.xStart } }

/-- A reference of a channel for a window. -/
def Core.xRef (c : Core) (ch count : Nat) : Option XRef := c.prot.refs.find? (fun r => r.ch == ch && r.count == count)

/-- A window sum differs from a reference (both scaled by `k`) by strictly more than win + pct × |r|. -/
def xExceeds (win pct len k : Nat) (sum r : Int) : Bool :=
  decide (((win * 1000000 : Nat) + pct * absI r) * len * k < absI (sum - r * len * k) * 1000)

/-- R291: the voltage check of a window against a reference. -/
def Core.xvOver (c : Core) (w : XWin) (r : XRef) : Bool := xExceeds (c.rd F.PROT_XV.WIN) (c.rd F.PROT_XV.PCT) w.len 1 w.vb r.rv

/-- R292: the current check of a window against a reference. -/
def Core.xiOver (c : Core) (w : XWin) (r : XRef) : Bool :=
  let win := c.rd F.PROT_XI.WIN
  let pct := c.rd F.PROT_XI.PCT
  let s : Int := if c.on F.PROT_XI.NEG then -w.iph else w.iph
  xExceeds win pct w.len 1 w.cur r.ri || (w.phOk && xExceeds win pct w.len 32768 s r.ri)

/-- R290 to R293: the oldest window that has both references is evaluated. -/
def crossCheck (c : Core) : Core :=
  match c.prot.ended.find? (fun w => (c.xRef 0 w.count).isSome && (c.xRef 1 w.count).isSome) with
  | none => c
  | some w =>
    match c.xRef 0 w.count, c.xRef 1 w.count with
    | some ra, some rb =>
      let vb := c.xvOver w ra || c.xvOver w rb
      let ib := c.xiOver w ra || c.xiOver w rb
      let c1 := ({ c with prot := { c.prot with
        ended := c.prot.ended.filter (fun x => x.count != w.count), refs := c.prot.refs.filter (fun r => decide (w.count < r.count))
        miss := 0, xvBad := vb, xiBad := ib
        xvCnt := if vb then c.prot.xvCnt + 1 else 0, xiCnt := if ib then c.prot.xiCnt + 1 else 0 } }).wr F.PROT_STAT.REFSTALE 0
      let c2 := if 2 ≤ c1.prot.xvCnt then protTrip F.PROT_TRIP1.XV 0 48 c1 else c1
      if 2 ≤ c1.prot.xiCnt then protTrip F.PROT_TRIP1.XI 0 49 c2 else c2
    | _, _ => c

/-- R293: references missing for 10 windows in a row. -/
def refStale (c : Core) : Core :=
  if 10 ≤ c.prot.miss ∧ !c.on F.PROT_STAT.REFSTALE then (c.wr F.PROT_STAT.REFSTALE 1).raise 67 0 0 else c

/-! ### String limits (R294 to R298) -/

/-- R294, R295: a count of consecutive frames. -/
def frameCnt (judged beyond : Bool) (n : Nat) : Nat := if !judged then n else if beyond then n + 1 else 0

/-- R294: position `k` stands at or above a level; OVR counts as above. -/
def posAbove (p : Pos) (lv : Nat) : Bool := p.ovr || (p.valid && decide (lv ≤ p.code))

/-- R294: position `k` stands at or below a level; REV counts as below. -/
def posBelow (p : Pos) (lv : Nat) : Bool := p.rev || (p.valid && decide (p.code ≤ lv))

/-- R294, R295: the counts of one slot. -/
def protSlot (k : Nat) (c : Core) : Core :=
  let p := c.pos k
  let judged := p.valid || p.rev || p.ovr
  let q := c.prot
  let ov := frameCnt judged (posAbove p (c.rd F.PROT_PV.OV)) (Tab.get 0 q.ovCnt k)
  let uv := frameCnt judged (posBelow p (c.rd F.PROT_PV.UV)) (Tab.get 0 q.uvCnt k)
  let ot := match c.posTemp k with
    | some t => frameCnt true (decide (c.rdS F.PROT_PT.OT ≤ t)) (Tab.get 0 q.otCnt k)
    | none => Tab.get 0 q.otCnt k
  { c with prot := { q with ovCnt := Tab.put 0 q.ovCnt k ov, uvCnt := Tab.put 0 q.uvCnt k uv, otCnt := Tab.put 0 q.otCnt k ot } }

/-- R294, R295: an alarm of the record, with its event at the start of an episode. -/
def alarm (f : Fld) (kind : Nat) (b : Bool) (c : Core) : Core :=
  (c.wrB f b).when (b && !c.on f) (fun c => c.raise 65 0 kind)

/-- Some count of a table is at or above N. -/
def anyAt (n : Nat) (t : Tab Nat) : Bool := t.any (fun p => decide (n ≤ p.2))

/-- R294 to R296: PROT evaluates a frame record; a slot that is no position any more counts nowhere (R124). -/
def protRecord (c0 : Core) : Core :=
  let ks := c0.slots
  let of := fun (t : Tab Nat) => t.filter (fun (x : Nat × Nat) => ks.contains x.1)
  let cs : Core := { c0 with prot := { c0.prot with ovCnt := of c0.prot.ovCnt, uvCnt := of c0.prot.uvCnt, otCnt := of c0.prot.otCnt } }
  let c := ks.foldl (fun c k => protSlot k c) cs
  let n := max 1 (c.rd F.PROT_PCONF.N)
  let any := fun (f : Pos → Bool) => ks.any (fun k => f (c.pos k))
  let temps := ks.filterMap c.posTemp
  let lost := ks.filter (fun k => (c.pos k).lost)
  let newLost := lost.any (fun k => !c.prot.lostSet.contains k)
  let vh := c.rd F.PROT_PHYS.VHYS
  let c1 := { c with prot := { c.prot with
    lostSet := lost
    ovBad := any (fun p => posAbove p (c.rd F.PROT_PV.OV - vh)), uvBad := any (fun p => posBelow p (c.rd F.PROT_PV.UV + vh))
    otBad := temps.any (fun t => decide (c.rdS F.PROT_PT.OT - c.rd F.PROT_PHYS.THYS ≤ t)) } }
  let c2 := alarm F.PROT_STAT.ALOV 1 (any (fun p => posAbove p (c.rd F.PROT_PVA.OVA))) c1
  let c3 := alarm F.PROT_STAT.ALUV 2 (any (fun p => posBelow p (c.rd F.PROT_PVA.UVA))) c2
  let c4 := alarm F.PROT_STAT.ALOT 3 (temps.any (fun t => decide (c.rdS F.PROT_PT.OTA ≤ t))) c3
  let due := b2n (anyAt n c.prot.ovCnt) + 2 * b2n (anyAt n c.prot.uvCnt) + 4 * b2n (anyAt n c.prot.otCnt) +
    8 * b2n (newLost && c.on F.PROT_PCONF.LOSTTRIP)
  { c4 with prot := { c4.prot with due := Nat.lor c4.prot.due due } }

/-- R294 to R296: the trips of the last record force the gates safe at a tick boundary. -/
def protDue (c : Core) : Core :=
  let d := c.prot.due
  let c1 : Core := { c with prot := { c.prot with due := 0 } }
  let c2 := if bitAt d 0 then protTrip F.PROT_TRIP1.OV 0 50 c1 else c1
  let c3 := if bitAt d 1 then protTrip F.PROT_TRIP1.UV 0 51 c2 else c2
  let c4 := if bitAt d 2 then protTrip F.PROT_TRIP1.OT 0 52 c3 else c3
  if bitAt d 3 then protTrip F.PROT_TRIP1.LOST 0 53 c4 else c4

/-- R290 to R293, R297, R298: the counts of a tick. -/
def protTick (conf : Bool) (c : Core) : Core :=
  let i := c.role 2
  let occ := decide (1000 * (c.rd F.PROT_IS.OCC : Int) < i)
  let ocd := decide (i < -(1000 * (c.rd F.PROT_IS.OCD : Int)))
  let c1 := { c with prot := { c.prot with
    occCnt := if occ then c.prot.occCnt + 1 else 0, ocdCnt := if ocd then c.prot.ocdCnt + 1 else 0, ocBad := occ || ocd
    vnpe := c.prot.vnpe + c.res (c.rd F.PROT_ISO.SRC), vs := c.prot.vs + c.role 5, frames := c.prot.frames + 1 } }
  xMiss conf (xTick (refsCommit c1))

/-- R297: T ticks of overcurrent trip. -/
def overcurrent (c : Core) : Core :=
  let t := max 1 (c.rd F.PROT_IST.T)
  let c1 := if t ≤ c.prot.occCnt then protTrip F.PROT_TRIP1.OCC 0 54 c else c
  if t ≤ c.prot.ocdCnt then protTrip F.PROT_TRIP1.OCD 0 55 c1 else c1

/-- R298: R_iso is at or below `lv` kΩ, from the frame sums of V_NPE and V_S. -/
def isoAtMost (rbr : Nat) (n s : Int) (lv : Nat) : Bool :=
  decide (2 * n ≠ s) && decide ((rbr : Int) * max 0 (min n (s - n)) ≤ lv * absI (2 * n - s))

/-- R298: R_iso in kΩ as the register shows it. -/
def isoValue (rbr : Nat) (n s : Int) : Nat :=
  if 2 * n = s then 4294967295
  else min 4294967294 ((rbr : Int) * max 0 (min n (s - n)) / absI (2 * n - s)).toNat

/-- R298: insulation at a frame boundary, from the sums of the frame that ended. -/
def isoFrame (c0 : Core) : Core :=
  let n := c0.prot.vnpe
  let s := c0.prot.vs
  let has := decide (0 < c0.prot.frames) && decide (50000 * (c0.prot.frames : Int) ≤ s)
  let c := { c0 with prot := { c0.prot with vnpe := 0, vs := 0, frames := 0 } }
  if !c.on F.PROT_ISO.EN then { c with prot := { c.prot with isoCnt := 0 } }
  else if !has then c.wr F.PROT_RISO.RISO 4294967295
  else
    let rbr := c.rd F.PROT_ISO.RBR
    let bad := isoAtMost rbr n s (c.rd F.PROT_ISO2.TR)
    let al := isoAtMost rbr n s (c.rd F.PROT_ISO2.AL)
    let k := if bad then c.prot.isoCnt + 1 else 0
    let c1 := alarm F.PROT_STAT.ALISO 4 al (({ c with prot := { c.prot with isoCnt := k, isoGone := !al } }).wr F.PROT_RISO.RISO (isoValue rbr n s))
    if max 1 (c.rd F.PROT_ISO.N) ≤ k then protTrip F.PROT_TRIP1.ISO 0 56 c1 else c1

/-! ### Clearing (R301) -/

/-- The bits of a cause mask that may clear: those not in `present`. A refused bit sets CLRREF. -/
def clearCause (f : Fld) (bits present : Nat) (c : Core) : Core :=
  let want := Nat.land bits (c.rd f)
  let refused := Nat.land want present
  let c1 := c.wr f (clearBits (c.rd f) (clearBits want present))
  if refused = 0 then c1 else (c1.wr F.PROT_STAT.CLRREF 1).raise 66 0 refused

/-- The mask of a one-bit cause that is present. -/
def maskIf (b : Bool) : Nat := if b then 1 else 0

/-- R301: when the last cause bit clears the trip ends. -/
def tripEnd (c : Core) : Core :=
  if [F.PROT_TRIP0.TIN, F.PROT_TRIP0.WIN, F.PROT_TRIP1.LOSS, F.PROT_TRIP1.XV, F.PROT_TRIP1.XI, F.PROT_TRIP1.OV, F.PROT_TRIP1.UV,
      F.PROT_TRIP1.OT, F.PROT_TRIP1.LOST, F.PROT_TRIP1.OCC, F.PROT_TRIP1.OCD, F.PROT_TRIP1.ISO, F.PROT_TRIP1.CBCP, F.PROT_TRIP1.SFA,
      F.PROT_TRIP1.SFB, F.PROT_TRIP1.CLK].all (fun f => c.rd f == 0) then
    (c.wr F.PROT_STAT.TRIP 0).wr F.PROT_FIRST.CODE 0
  else c

/-- R301: a write of ones to PROT_TRIP0. -/
def clearTrip0 (w : Nat) (c : Core) : Core :=
  tripEnd (clearCause F.PROT_TRIP0.WIN (bitsAt w 8 12) c.prot.wOut (clearCause F.PROT_TRIP0.TIN (bitsAt w 0 8) c.prot.low c))

/-- R301: a write of ones to PROT_TRIP1. -/
def clearTrip1 (w : Nat) (c : Core) : Core :=
  let p := c.prot
  let one := fun (f : Fld) (b : Bool) (c : Core) => clearCause f (bitsAt w f.lsb 1) (maskIf b) c
  let c1 := clearCause F.PROT_TRIP1.LOSS (bitsAt w 0 12) p.lossNow c
  let vBad := p.ovBad || p.uvBad
  let c2 := one F.PROT_TRIP1.UV vBad (one F.PROT_TRIP1.OV vBad (one F.PROT_TRIP1.XI p.xiBad (one F.PROT_TRIP1.XV p.xvBad c1)))
  let c3 := one F.PROT_TRIP1.OCD p.ocBad (one F.PROT_TRIP1.OCC p.ocBad (one F.PROT_TRIP1.LOST (p.lostSet != []) (one F.PROT_TRIP1.OT p.otBad c2)))
  let c4 := one F.PROT_TRIP1.CBCP ((upTo 6).any (fun k => bitAt p.cbcp k && Tab.get 0 p.rowF k != 0)) (one F.PROT_TRIP1.ISO (!p.isoGone) c3)
  let c5 := one F.PROT_TRIP1.SFB (bitAt p.gLow 1) (one F.PROT_TRIP1.SFA (bitAt p.gLow 0) c4)
  tripEnd (one F.PROT_TRIP1.CLK p.clkLost c5)

/-! ### Configuration (R303) -/

/-- R287: the fast-path setting in the registers is one that PROT refuses. -/
def Core.fastBad (c : Core) : Bool := decide (18 < (fastCnt (c.rd F.PROT_FAST.CNT) - 1) * fastOsr (c.rd F.PROT_FAST.OSR))

/-- R287: a fast-path setting takes effect, or is refused and the previous one stays in force. -/
def fastSet (ws : List PWrite) (c : Core) : Core :=
  let d := ws.foldl Core.apply c
  if d.fastBad then c.wr F.PROT_FAST.ERR 1 else d.wr F.PROT_FAST.ERR 0

/-- R287: the writes of PROT_FAST in their order; one write of the register gives the bits of both its fields. -/
def fastCommit : List PWrite → Core → Core
  | a :: b :: ws, c => fastCommit ws (fastSet [a, b] c)
  | ws, c => if ws = [] then c else fastSet ws c

/-- R303: trip inputs, windows, fast path and cycle-by-cycle configuration commit in OFF or FAULT. -/
def protCfgCommit (c : Core) : Core :=
  if c.held .protOff && (c.cnvState == 0 || c.cnvState == 7) then
    let isFast := fun (w : PWrite) => w.fld.off == F.PROT_FAST.OSR.off
    let c1 := fastCommit (c.wait.filter (fun w => isFast w && !w.late)) { c with wait := c.wait.filter (fun w => !isFast w || w.late) }
    let was := c.on F.PROT_STAT.PEND
    let ci := c1.commit (fun w => w.fld.cls == .protOff && !w.late)
    let c2 := ci.wrB F.PROT_STAT.PEND (ci.held .protOff)
    let c3 := forUp 8 (fun n c => if bitAt c.prot.low n then tripLow n c else c) c2
    c3.when was (fun c => c.raise 68 0 0)
  else c

/-- R303: the other configuration commits at a frame boundary, and counts in progress restart. -/
def protFrameCommit (isProt : PWrite → Bool) (c : Core) : Core :=
  if c.wait.any isProt then
    { c with prot := { c.prot with ovCnt := [], uvCnt := [], otCnt := [], isoCnt := 0 } }
  else c

end Sys2Proof.Machine
end

