-- ==== Sys2Proof/Machine/Cnv.lean ====
section
/-! DEFINITION. CNV, the string converter's sequencing, references, phases and PWM (R229 to R263). -/

namespace Sys2Proof.Machine

/-! ### PWM (R232 to R235) -/

/-- R232: the tick in 125 ps units. -/
def Core.p125 (c : Core) : Nat := 16 * c.period

/-- R232: the valley of the carrier of phase `k` after a tick boundary, in 125 ps. -/
def Core.valley (c : Core) (k : Nat) : Nat := c.rd (F.CNV_PH_ANG.ANG k) * c.p125 / 65536

/-- R232: its peak, half a period from the valley, in 125 ps from the boundary. -/
def Core.peak (c : Core) (k : Nat) : Nat := (c.valley k + c.p125 / 2) % c.p125

/-- R233: the midpoint's commanded high time of a duty, in 125 ps. -/
def tHigh (p125 d : Nat) : Nat := d * p125 / 32768

/-- R233, R234: the switches of a leg in a period with its valley at `v`: the clamped duty before, `d0`, sets the rising command and `d` the
falling one, half of t_H to either side of the valley, on the grid of 125 ps (DEDUCED, notes/assumptions/56). -/
def legTimes (p125 dtr dtf minpw v d0 d : Nat) : Leg :=
  let t0 := tHigh p125 d0
  let t := tHigh p125 d
  let hi := t0 / 2 + (t + 1) / 2 - dtr
  let lo := (p125 - t) - dtf
  let on : Nat × Nat := if hi < minpw ∧ lo < minpw then (0, 0) else if hi < minpw then (0, p125) else if lo < minpw then (p125, 0) else (hi, lo)
  { hi := on.1, lo := on.2, valley := v, rise := (v : Int) - (t0 / 2 : Nat), fall := v + (t + 1) / 2 }

/-- R235: the angle of active phase number `j` of `n`. -/
def phaseAngle (n j : Nat) : Nat := j * 65536 / n

/-- R229: the legs a topology uses. -/
def legUsed (topo leg : Nat) : Bool := topo == 3 || ((topo == 1 || topo == 2) && leg == 0)

/-- The active phases, in rising number. -/
def Core.actPhases (c : Core) : List Nat := (upTo 6).filter (fun k => c.on (F.CNV_PH_ANG.ACT k))

/-- R234: the gates go safe: no switch is on. -/
def pwmSafe (c : Core) : Core := { c with cnv := { c.cnv with sched := [], legs := [] } }

/-! ### Phases (R235, R252 to R254) -/

/-- N_act. -/
def Core.nact (c : Core) : Nat := c.rd F.CNV_STAT.NACT

/-- The phases `ks` (rising) are active with the angles for their number, or with those they had. -/
def setPhases (ks : List Nat) (angles : Bool) (c : Core) : Core :=
  let was := c.actPhases
  let new := ks.filter (fun k => !was.contains k)
  let c1 := forUp 6 (fun k c => c.wrB (F.CNV_PH_ANG.ACT k) (ks.contains k)) c
  let c2 := if angles then
      forUp 6 (fun k c => if ks.contains k then c.wr (F.CNV_PH_ANG.ANG k) (phaseAngle ks.length ((ks.filter (fun i => decide (i < k))).length)) else c) c1
    else c1
  ({ c2 with cnv := { c2.cnv with fresh := c2.cnv.fresh ++ new, reload := c2.cnv.reload || new != [] } }).wr F.CNV_STAT.NACT ks.length

/-- Every configured phase is active. -/
def allPhases (c : Core) : Core := setPhases (upTo c.nph) true { c with cnv := { c.cnv with shedSet := [], shed := none } }

/-- R258: the fewest active phases. -/
def Core.minPh (c : Core) : Nat := min (max 1 (c.rd F.CNV_TOPO.MINPH)) c.nph

/-- R244: V_S and V_B as they are measured. -/
def Core.vS (c : Core) : Int := c.role 5

/-- The measured V_B. -/
def Core.vB (c : Core) : Int := c.role 4

/-- R244: a duty quotient `k × num / den`, with the spec's cases of a non-positive divisor or numerator. -/
def dutyQuot (dmax : Nat) (k : Nat) (num den : Int) : Nat :=
  if den ≤ 0 then dmax else if num ≤ 0 then 0 else (roundDiv (k * num) den).toNat

/-- R244, R253: the preset duties of leg A and leg B. -/
def Core.preset (c : Core) : Nat × Nat :=
  let dmax := c.rd F.CNV_PWM2.DMAX
  match c.rd F.CNV_TOPO.TOPO with
  | 1 => (min dmax (dutyQuot dmax 32768 c.vB c.vS), 0)
  | 2 => (min dmax (dutyQuot dmax 32768 c.vS c.vB), 0)
  | 3 =>
    let da := dutyQuot dmax dmax c.vB c.vS
    if dmax < da then (dmax, min dmax (dutyQuot dmax dmax c.vS c.vB)) else (da, dmax)
  | _ => (0, 0)

/-- R233, R253: the duty that leg `i % 2` of phase `i / 2` loads: the preset on a phase that has just become active. -/
def Core.loadDuty (c : Core) (i : Nat) : Nat :=
  let d := if c.cnv.fresh.contains (i / 2) then (if i % 2 = 0 then c.preset.1 else c.preset.2) else Tab.get 0 c.cnv.shadow i
  min (c.rd F.CNV_PWM2.DMAX) d

/-- R53, R232 to R234, R285: the PWM loads the duties committed in the tick before, each phase at its first valley from the boundary on; a
phase that is held keeps its outputs safe. -/
def pwmLoad (c : Core) : Core :=
  let times := fun (i : Nat) =>
    let d0 := if c.cnv.fresh.contains (i / 2) then c.loadDuty i else Tab.get 0 c.cnv.prev i
    legTimes c.p125 (max 8 (c.rd F.CNV_PWM.DTR)) (max 8 (c.rd F.CNV_PWM.DTF)) (c.rd F.CNV_PWM2.MINPW) (c.valley (i / 2)) d0 (c.loadDuty i)
  let duty := (upTo 12).foldl (fun t i => Tab.put 0 t i (c.loadDuty i)) []
  let sched := (upTo 12).foldl (fun t i =>
    if c.gatesOn && c.on (F.CNV_PH_ANG.ACT (i / 2)) && legUsed (c.rd F.CNV_TOPO.TOPO) (i % 2) then Tab.put {} t i (times i) else t) []
  gateOutputs { c with cnv := { c.cnv with duty := duty, sched := sched } }

/-- R233, R292: at a tick boundary the duties of the tick that ended become the ones before, and whether its gates were enabled is known. -/
def pwmShift (c : Core) : Core := { c with cnv := { c.cnv with prev := c.cnv.duty, wasOn := c.gatesOn } }

/-! ### Start blocks (R242) -/

/-- R242: the first start block that holds. -/
def Core.block (c : Core) : Nat :=
  if c.rd F.CNV_TOPO.TOPO = 0 ∨ c.rd F.CNV_TOPO.NPH = 0 then 1
  else if !c.on F.SDM_STAT.ROLEOK || c.on F.CNV_TOPO.PEND then 2
  else if !c.hasProgram then 3
  else if c.on F.PROT_STAT.TRIP then 4
  else if c.vS < c.rdS F.CNV_VSMIN.VSMIN then 5
  else if c.cnv.deg then 6
  else if c.on F.MEAS_STAT.NPOSERR then 7
  else 0

/-! ### References (R246 to R249) -/

/-- R247: the load-line target at the measured I_B, in mV / 5000. -/
def Core.llTarget (c : Core) : Int :=
  (c.rdS F.CNV_LL_VREF.VREF * (100000 + c.rdS F.BAL_SOCB.ACT) - 10 * (c.rd F.CNV_LL_R.RLL) * c.role 3) / 20

/-- The state whose references govern: an off delay acts as the state it came from. -/
def Core.effState (c : Core) : Nat := if c.cnvState = 5 then c.cnv.back else c.cnvState

/-- R246: the reference source that applies. -/
def Core.refWant (c : Core) : Nat :=
  let s := c.effState
  if s = 2 ∨ s = 6 then 3
  else if s = 3 ∨ s = 4 then (if c.est.tgtGov.isSome then 2 else if c.rd F.CNV_CTRL.MODE = 1 then 1 else 0)
  else 0

/-- R246: the source that governs from this boundary; the loop that takes over reloads. -/
def refSource (c : Core) : Core :=
  let w := c.refWant
  if c.rd F.CNV_STAT.REFSRC = w then c else ({ c with cnv := { c.cnv with reload := true } }).wr F.CNV_STAT.REFSRC w

/-- R249: a bound from SOP, the derating factor (0x8000 is 1.0) and the power stage's limit. -/
def sopBound (sop f ilim : Nat) : Nat := min (sop * f / 32768) ilim

/-- R16, R25: at a tick boundary the SOP and the string current target that EST has passed govern. -/
def estCross (c : Core) : Core :=
  { c with est := { c.est with sopGov := (c.rd F.EST_SOP_C.SOPC, c.rd F.EST_SOP_D.SOPD), tgtGov := c.est.tgt } }

/-- R249, R244: the bounds of the string current reference. -/
def bounds (c : Core) : Core :=
  let bc := sopBound c.est.sopGov.1 (c.rd F.BAL_DRF.FC) (c.rd F.CNV_ILIM_C.ILIM)
  let bd := sopBound c.est.sopGov.2 (c.rd F.BAL_DRF.FD) (c.rd F.CNV_ILIM_D.ILIM)
  let il := 1000 * c.rd F.CNV_SS.ILIM
  let ss := c.effState == 2
  (({ c with cnv := { c.cnv with hi := if ss then min bc il else bc, lo := -((if ss then min bd il else bd : Nat) : Int) } }).wr
    F.CNV_CLIM_C.CLIM bc).wr F.CNV_CLIM_D.CLIM bd

/-! ### Entering a state (R240 to R251) -/

/-- CNV enters a state, with its event (R240). -/
def cnvEnter (st fcause : Nat) (c : Core) : Core :=
  let c1 := (({ c with cnv := { c.cnv with age := 0 } }).wr F.CNV_STAT.STATE st).wr F.CNV_STAT.FCAUSE fcause
  let c2 := if st = 0 ∨ st = 7 then
      setPhases [] false { c1 with cnv := { c1.cnv with sched := [], legs := [], sleep := false, dwell := 0, bdwell := 0, todo := 0, shed := none, shedSet := [] } }
    else c1
  c2.raise 56 0 (st + 16 * fcause)

/-- R244: entry to SOFT_START. -/
def enterSoftStart (c : Core) : Core :=
  let tgt := c.llTarget
  let start := 5000 * c.vB
  cnvEnter 2 0 (allPhases { c with cnv := { c.cnv with
    ramp := start, rampEnd := decide (start = tgt), rising := decide (start < tgt), stall := 0, reload := true, fresh := upTo c.nph } })

/-- R251: the rate of a degraded-mode stop: the measured I_S over 4 s. -/
def Core.degRate (c : Core) : Nat := (absI (c.role 2)).toNat

/-- R251: the time limit of a degraded-mode stop in clocks. -/
def degLimit : Nat := 4500 * 500000

/-- R250, R251: entry to SOFT_STOP. -/
def enterSoftStop (deg : Bool) (c : Core) : Core :=
  let c1 := { c with cnv := { c.cnv with
    iref := 2000000000 * c.role 2, done := 0, sleep := false, rate := if deg then c.degRate else 0
    tmax := if deg then some (degLimit, false) else none } }
  cnvEnter 6 0 (c1.when deg (fun c => c.wr F.CNV_STAT.DEG 1))

/-- R251: degraded mode begins while a soft stop runs. -/
def degradeStop (c : Core) : Core :=
  ({ c with cnv := { c.cnv with rate := c.degRate, tmax := some (c.cnv.age + degLimit, true) } }).wr F.CNV_STAT.DEG 1

/-- R250, R251: the rate of the soft stop per clock, in mA / 2,000,000,000. -/
def Core.stopRate (c : Core) : Nat := max (max 1 (c.rd F.CNV_STOP.RAMP) * 400000) c.cnv.rate

/-- R250, R251: the time limit of the soft stop in clocks. -/
def Core.stopLimit (c : Core) : Nat :=
  let own := c.rd F.CNV_STOP2.TMAX * 500000
  match c.cnv.tmax with | none => own | some (t, both) => if both then min own t else t

/-! ### Ramps -/

/-- R244: the ramp moves toward the target. -/
def rampStep (c : Core) : Core :=
  let tgt := c.llTarget
  let step : Int := max 1 (c.rd F.CNV_SS.RAMP) * c.period
  let d := tgt - c.cnv.ramp
  if c.cnv.rampEnd || decide (absI d ≤ step) then { c with cnv := { c.cnv with ramp := tgt, rampEnd := true, rising := false } }
  else { c with cnv := { c.cnv with ramp := c.cnv.ramp + (if 0 < d then step else -step), rising := decide (0 < d) } }

/-- R245: the stall condition of the tick that ended. -/
def stallTick (c : Core) : Core :=
  let low := c.cnv.rising && decide (5000 * c.vB < c.cnv.ramp - 5000 * 1000 * (c.rd F.CNV_SS_STALLV.STALLV : Int))
  { c with cnv := { c.cnv with stall := if low then c.cnv.stall + c.period else 0 } }

/-- R250: the soft-stop reference and the count of ticks at or below IDONE. -/
def stopTick (c : Core) : Core :=
  let small := c.cnv.iref == 0 && decide (absI (c.role 2) ≤ 1000 * (c.rd F.CNV_STOP.IDONE : Int))
  let step : Int := c.stopRate * c.period
  let r := c.cnv.iref
  { c with cnv := { c.cnv with
    done := if small then c.cnv.done + 1 else 0
    iref := if absI r ≤ step then 0 else if 0 < r then r - step else r + step } }

/-! ### Burst mode (R256) -/

/-- R256: V_B's distance from its target. -/
def Core.bandDist (c : Core) : Int := absI (c.vB - c.rdS F.CNV_VBTGT.VBT)

/-- The burst conditions that end burst mode in a step or by configuration. -/
def Core.burstQuit (c : Core) : Bool :=
  c.cnv.step || !c.on F.CNV_CTRL.BUREN || c.est.tgtGov.isSome || c.rd F.CNV_CTRL.MODE == 1 || c.prof != 3

/-- BURST gives way to RUN; in an off delay the state to return to changes instead. -/
def burstToRun (c : Core) : Core :=
  let c1 := { c with cnv := { c.cnv with sleep := false, bdwell := 0 } }
  if c.cnvState = 5 then { c1 with cnv := { c1.cnv with back := 3 } } else cnvEnter 3 0 c1

/-- R256: the tick result moves burst mode. -/
def burstTick (c : Core) : Core :=
  if c.effState ≠ 4 then c
  else if c.burstQuit then allPhases (burstToRun c)
  else if c.cnv.sleep then
    if (c.rd F.CNV_BURST_HYST.HYST : Int) < c.bandDist then
      setPhases (upTo c.minPh) true { c with cnv := { c.cnv with sleep := false, burstAge := 0 } }
    else c
  else if 1000 * c.rd F.CNV_BURST_THR.THR ≤ c.rd F.CNV_ITOT.ITOT then burstToRun c
  else if max 1 (c.rd F.CNV_BURST_MIN.MIN) ≤ c.cnv.burstAge + 1 ∧ 2 * c.bandDist ≤ (c.rd F.CNV_BURST_HYST.HYST : Int) then
    { (pwmSafe c) with cnv := { (pwmSafe c).cnv with sleep := true } }
  else { c with cnv := { c.cnv with burstAge := c.cnv.burstAge + 1 } }

/-- R256: BURST entered in sleep once the dwell is complete. -/
def burstEnter (c : Core) : Core :=
  if c.cnvState = 3 ∧ c.rd F.CNV_STAT.REFSRC = 0 ∧ c.prof = 3 ∧ c.on F.CNV_CTRL.BUREN ∧ max 1 (c.rd F.CNV_SHED_DWELL.DWELL) ≤ c.cnv.bdwell then
    let c1 := pwmSafe c
    cnvEnter 4 0 { c1 with cnv := { c1.cnv with sleep := true, bdwell := 0, dwell := 0 } }
  else c

/-! ### Adding and shedding at a boundary (R252 to R254) -/

/-- R252: the dwell is complete; the highest active phase is gated off with the angles unchanged. -/
def phaseShed (c : Core) : Core :=
  let ks := c.actPhases
  if c.cnvState = 3 ∧ c.on F.CNV_CTRL.SHEDEN ∧ max 1 (c.rd F.CNV_SHED_DWELL.DWELL) ≤ c.cnv.dwell ∧ !c.cnv.step ∧ c.minPh < ks.length then
    let k := ks.getLastD 0
    let c1 := setPhases (ks.filter (fun i => i != k)) false c
    gateOutputs { c1 with cnv := { c1.cnv with
      shed := some k, shedSet := k :: c1.cnv.shedSet, dwell := 0, sched := c1.cnv.sched.filter (fun (x : Nat × Leg) => x.1 / 2 != k) } }
  else c

/-- R253: phases are added outside burst mode, which has its own rule (R256). -/
def Core.addsPhases (c : Core) : Bool := switching c.cnvState && c.effState != 4

/-- R252: the second boundary of a shed: the angles of the phases that remain apply. -/
def shedAngles (c : Core) : Core :=
  let ks := c.actPhases
  if c.cnv.shed.isSome && switching c.cnvState then
    ((setPhases ks true { c with cnv := { c.cnv with shed := none } }).cntSat F.CNV_CNT2.SHEDS).raise 58 0 ks.length
  else c

/-- R253: the lowest-numbered inactive phase becomes active. -/
def phaseAdd (c : Core) : Core :=
  let ks := c.actPhases
  match (upTo c.nph).find? (fun k => !ks.contains k) with
  | some k => (setPhases ((upTo 6).filter (fun i => i == k || ks.contains i)) true
      { c with cnv := { c.cnv with shedSet := c.cnv.shedSet.filter (fun i => i != k) } }).raise 58 0 (ks.length + 1)
  | none => c

/-- R252 to R254: what the tick that ended decided for the phases. -/
def phaseTick (c : Core) : Core :=
  let todo := c.cnv.todo
  let c0 := { c with cnv := { c.cnv with todo := 0, step := if c.effState = 4 then c.cnv.step else false } }
  if !c.addsPhases then shedAngles c0
  else if todo = 2 ∨ !c.on F.CNV_CTRL.SHEDEN then
    if c.actPhases.length < c.nph then (allPhases c0).raise 58 0 c.nph else { c0 with cnv := { c0.cnv with shed := none } }
  else if todo = 1 then phaseAdd (shedAngles c0)
  else shedAngles c0

/-! ### Transitions (R243) -/

/-- R242: the block shown: in a switching state none is checked. -/
def showBlock (c : Core) : Core := c.wr F.CNV_STAT.BLOCK (if switching c.cnvState then 0 else c.block)

/-- R243: the CLR bit at a tick boundary. -/
def clrTick (c : Core) : Core :=
  if !c.on F.CNV_CTRL.CLR then c
  else
    let c1 := c.wr F.CNV_CTRL.CLR 0
    let fc := c.rd F.CNV_STAT.FCAUSE
    if c.cnvState = 7 ∧ fc ≠ 2 ∧ ¬(fc = 1 ∧ c.on F.PROT_STAT.TRIP) then (cnvEnter 0 0 c1).wr F.CNV_STAT.RETRY 0 else c1

/-- R243, R299: transitions that need no timer, in the order fault causes, degraded mode, the rows of the state. -/
def cnvMove (c : Core) : Core :=
  let st := c.cnvState
  let on := c.on F.CNV_CTRL.ON
  let blk := c.block
  if switching st && (c.on F.PROT_STAT.TRIP || c.prot.tripSeen) then cnvEnter 7 1 c
  else if switching st && !c.hasProgram then cnvEnter 7 4 c
  else if c.cnv.degNew && st == 6 then stopTick (degradeStop c)
  else if c.cnv.degNew && (st == 1 || switching st) then enterSoftStop true c
  else match st with
    | 0 => if on && blk == 0 then cnvEnter 1 0 c else c
    | 1 => if !on || blk != 0 then cnvEnter 0 0 c else c
    | 2 => if c.cnv.rampEnd then cnvEnter 3 0 ((c.wr F.CNV_STAT.RETRY 0).cntSat F.CNV_CNT2.STARTS) else rampStep (stallTick c)
    | 3 => if !on then cnvEnter 5 0 { c with cnv := { c.cnv with back := 3 } } else c
    | 4 => if !on then cnvEnter 5 0 { c with cnv := { c.cnv with back := 4 } } else c
    | 5 => if on then cnvEnter c.cnv.back 0 c else c
    | 6 => stopTick c
    | 7 => if c.rd F.CNV_STAT.FCAUSE = 2 ∧ !on then (cnvEnter 0 0 c).wr F.CNV_STAT.RETRY 0 else c
    | _ => c

/-- R251: DEG shows a degraded-mode stop in force. -/
def degShow (c : Core) : Core :=
  let c1 := { c with cnv := { c.cnv with degNew := false } }
  if c.cnv.deg then c1 else c1.wr F.CNV_STAT.DEG 0

/-- R243 to R256: what CNV does at a tick boundary, after the commits of the boundary. -/
def cnvTick (c0 : Core) : Core :=
  let c := { c0 with cnv := { c0.cnv with age := c0.cnv.age + c0.period } }
  let tripMet := fun (c : Core) => { c with prot := { c.prot with tripSeen := false } }
  bounds (refSource (showBlock (degShow (phaseTick (burstTick (tripMet (cnvMove (clrTick c))))))))

/-- R29, R256: a profile switch out of Millet has committed: burst mode ends at the boundary of the commit. -/
def burstLeave (c : Core) : Core :=
  if c.effState = 4 && c.prof != 3 then pwmLoad (bounds (refSource (showBlock (allPhases (burstToRun c))))) else c

/-- R243: TON has elapsed. -/
def onDelayExpire (c : Core) : Core :=
  if c.cnvState = 1 ∧ c.rd F.CNV_ONOFF.TON * 500000 ≤ c.cnv.age ∧ c.block = 0 then enterSoftStart c else c

/-- R243: TOFF has elapsed. -/
def offDelayExpire (c : Core) : Core :=
  if c.cnvState = 5 ∧ c.rd F.CNV_ONOFF.TOFF * 500000 ≤ c.cnv.age then enterSoftStop false c else c

/-- R245: the stall has lasted STALLT. -/
def softStall (c : Core) : Core :=
  if c.cnvState = 2 ∧ max 1 (c.rd F.CNV_SS_STALLT.STALLT) * 500000 ≤ c.cnv.stall then
    let c1 := c.cntSat F.CNV_CNT.STALLS
    let again := decide (c.rd F.CNV_STAT.RETRY < c.rd F.CNV_SS_RETRIES.RETRIES)
    let c2 := if again then c1.wr F.CNV_STAT.RETRY (c.rd F.CNV_STAT.RETRY + 1) else c1
    let fc := if again then 2 else 3
    cnvEnter 7 fc (c2.raise 57 0 fc)
  else c

/-- R243: the retry wait has elapsed. -/
def retryExpire (c : Core) : Core :=
  if c.cnvState = 7 ∧ c.rd F.CNV_STAT.FCAUSE = 2 ∧ c.rd F.CNV_SS_RETRYT.RETRYT * 500000 ≤ c.cnv.age ∧ c.on F.CNV_CTRL.ON ∧ c.block = 0 then
    enterSoftStart c
  else c

/-- R250: ten ticks at or below IDONE. -/
def stopDone (c : Core) : Core := if c.cnvState = 6 ∧ 10 ≤ c.cnv.done then cnvEnter 0 0 c else c

/-- R250: TMAX has elapsed. -/
def stopTimeout (c : Core) : Core :=
  if c.cnvState = 6 ∧ c.stopLimit ≤ c.cnv.age then cnvEnter 0 0 ((c.wr F.CNV_STAT.STOPTO 1).raise 62 0 1) else c

/-! ### Operands and results (R270, R271) -/

/-- A value in mV or mA over a denominator, as a Q15 word of a full scale. -/
def toQ15 (v den fs : Int) : Int := if fs ≤ 0 then 0 else clampI (-32768) 32767 (roundDiv (v * 32768) (den * fs))

/-- R270: a port that reads 0 or 0x7FFF. -/
def flagPort (b : Bool) : Int := if b then 32767 else 0

/-- R270: the value of input port `512 + i` at a tick boundary. -/
def Core.portIn (c : Core) (i : Nat) : Int :=
  let st := c.cnvState
  let eff := c.effState
  let run := eff == 3 || eff == 4
  let rs := c.rd F.CNV_STAT.REFSRC
  let fsI := c.roleFs 2
  let fsV := c.roleFs 4
  if i < 12 then c.operand i
  else if 16 ≤ i ∧ i < 22 then
    (if i - 16 < c.nph then (match c.phaseInputs (i - 16) with | n :: _ => c.operand n | [] => 0) else 0)
  else if 48 ≤ i ∧ i < 60 then
    (let k := (i - 48) / 2
     let l := i % 2
     if c.cnv.fresh.contains k then ((if l = 0 then c.preset.1 else c.preset.2 : Nat) : Int) else (Tab.get 0 c.cnv.shadow (2 * k + l) : Nat))
  else if 60 ≤ i ∧ i < 66 then flagPort (c.on (F.CNV_PH_ANG.ACT (i - 60)))
  else match i with
    | 22 => c.roleOperand 2
    | 23 => c.roleOperand 3
    | 24 => c.roleOperand 4
    | 25 => c.roleOperand 5
    | 32 => toQ15 (c.rdS F.CNV_LL_VREF.VREF * (100000 + c.rdS F.BAL_SOCB.ACT)) 100000 fsV
    | 33 => if fsV ≤ 0 then 0 else min 32767 (roundDiv (c.rd F.CNV_LL_R.RLL * c.roleFs 3 * 32768) (10000 * fsV))
    | 34 => if rs = 1 then toQ15 (c.rdS F.CNV_ISET.ISET) 1 fsI else if rs = 2 then toQ15 (c.est.tgtGov.getD 0) 1 fsI else 0
    | 35 => toQ15 c.imp.operand 1 fsI
    | 36 => toQ15 c.cnv.hi 1 fsI
    | 37 => toQ15 c.cnv.lo 1 fsI
    | 38 => if eff = 2 then toQ15 c.cnv.ramp 5000 fsV else if eff = 6 then toQ15 c.cnv.iref 2000000000 fsI else 0
    | 39 => flagPort (run && rs == 0)
    | 40 => flagPort (run && (rs == 1 || rs == 2))
    | 41 => flagPort (st == 2)
    | 42 => flagPort (st == 6)
    | 43 => flagPort c.cnv.sleep
    | 44 => flagPort (c.cnv.reload || c.cte.first)
    | 45 => if c.nact = 0 then 0 else min 32767 ((32768 / c.nact : Nat) : Int)
    | _ => 0

/-- R270: the input ports are latched. -/
def latchPorts (c : Core) : Core :=
  { c with cte := { c.cte with inp := forUp 80 (fun i t => Tab.put 0 t (512 + i) (c.portIn i)) [] } }

/-- R53, R243, R270: a timed transition of CNV belongs to the tick boundary at which it falls due; the pass of that tick runs
on operands latched after it. -/
def atBoundary (f : Core → Core) (c : Core) : Core :=
  let d := f c
  if c.cnvState = d.cnvState ∧ c.nact = d.nact then d else latchPorts (pwmLoad (bounds (refSource (showBlock d))))

/-- An output port. -/
def Core.portOut (c : Core) (a : Nat) : Int := Tab.get 0 c.cte.out a

/-- I_tot in mA (R252): the magnitude of the sum of the phase current references. -/
def Core.itotNow (c : Core) : Nat :=
  (absI (roundDiv (sumI ((upTo 6).map (fun k => match c.phaseInputs k with | n :: _ => c.portOut (604 + k) * c.fs n | [] => 0))) 32768)).toNat

/-- R252 to R256: the shed, add and burst conditions of the tick. -/
def shedConditions (c : Core) : Core :=
  let it := c.rd F.CNV_ITOT.ITOT
  let n := c.nact
  let step := match c.cnv.prevItot with
    | some p => decide (1000 * (c.rd F.CNV_STEP_THR.STEP : Int) < absI ((it : Int) - p))
    | none => false
  let run := c.cnvState == 3
  let live := c.addsPhases
  let cond := run && c.on F.CNV_CTRL.SHEDEN && decide (c.minPh < n) && decide (it < (n - 1) * c.rd F.CNV_SHED.ISHED * 1000)
  let dwellT := max 1 (c.rd F.CNV_SHED_DWELL.DWELL)
  let iadd := (if c.rd F.CNV_SHED.IADD ≤ c.rd F.CNV_SHED.ISHED then c.rd F.CNV_SHED.ISHED + 1 else c.rd F.CNV_SHED.IADD) * 1000
  let low := run && c.rd F.CNV_STAT.REFSRC == 0 && c.prof == 3 && c.on F.CNV_CTRL.BUREN && decide (it < 1000 * c.rd F.CNV_BURST_THR.THR)
  let back := c.effState == 4 && c.cnv.shedSet.any (fun k => !c.on (F.CNV_PH_ANG.ACT k))
  let met := back || (live && (c.cnv.shed.isSome || c.cnv.shedSet != [] || (cond && decide (dwellT ≤ c.cnv.dwell + 1))))
  let c1 := { c with cnv := { c.cnv with
    prevItot := some it, step := step
    dwell := if step then 0 else if c.cnv.shed.isSome then c.cnv.dwell else if cond then c.cnv.dwell + 1 else 0
    bdwell := if low then c.cnv.bdwell + 1 else 0
    todo := if !live then 0 else if step then 2 else if decide (n < c.nph) && decide (n * iadd ≤ it) then 1 else 0 } }
  c1.when (step && met) (fun c => c.cntSat F.CNV_CNT.SHEDX)

/-- R53, R55, R271: at the commit point the PWM's shadow closes and CNV takes the output ports. -/
def commitPoint (c : Core) : Core :=
  let late := c.passLate
  let duty := if late then c.cnv.shadow else (upTo 12).foldl (fun t i => Tab.put 0 t i (clampI 0 32767 (c.portOut (592 + i))).toNat) []
  let c1 := { c with cnv := { c.cnv with shadow := duty, reload := false, fresh := [] } }
  let c2 := { c1 with cte := { c1.cte with first := false } }
  let c3 := if late then (c2.cntSat F.TICK_CMISS.COUNT).raise 3 0 (c.tbTick % 2 ^ 32) else c2
  let c4 := (c3.wr F.CNV_ITOT.ITOT c.itotNow).wrS F.CNV_VBTGT.VBT (roundDiv (c.portOut 610 * c.roleFs 4) 32768)
  shedConditions ((c4.wrB F.CNV_STAT.CLAMPC (c.portOut 611 != 0)).wrB F.CNV_STAT.CLAMPD (c.portOut 612 != 0))

/-- R231: topology, PWM and SDM configuration commit in OFF; a write made there after the cut-off waits for the next boundary only, while CNV
stays in OFF. -/
def cnvCfgCommit (c : Core) : Core :=
  if !c.held .cnvOff then c
  else if c.cnvState = 0 then (c.commit (fun w => w.fld.cls == .cnvOff && !w.late)).wr F.CNV_TOPO.PEND 0
  else c.wr F.CNV_TOPO.PEND 1

end Sys2Proof.Machine
end

