-- ==== Sys2Proof/Machine/Net.lean ====
section
/-! DEFINITION. The Ethernet switch NET and the clock PTP (R451 to R470). -/

namespace Sys2Proof.Machine

/-- Ports are numbered 1 and 2; their registers are indexed from 0. -/
def portUp (p : Nat) (c : Core) : Bool := c.on (F.NET_PORT.EN (p - 1)) && c.on (F.NET_PORT.LINK (p - 1))

/-- The other external port. -/
def otherPort (p : Nat) : Nat := 3 - p

/-- A frame leaves through an external port. -/
def portSent (p : Nat) (c : Core) : Core := (c.cntWrap (F.NET_TXOK.COUNT (p - 1))).raise 97 p p

/-- The module sends a frame of its own through the external ports of a mask (bit 0 port 1, bit 1 port 2). -/
def ethSend (mask kind : Nat) (data : List Nat) (c : Core) : Core :=
  let m := (if bitAt mask 0 && portUp 1 c then 1 else 0) + (if bitAt mask 1 && portUp 2 c then 2 else 0)
  if m = 0 then c else
    let c1 := c.send (.eth m kind data)
    let c2 := if bitAt m 0 then portSent 1 c1 else c1
    if bitAt m 1 then portSent 2 c2 else c2

/-- `n` little-endian bytes of a number. -/
def le : Nat → Nat → List Nat
  | 0, _ => []
  | n + 1, v => v % 256 :: le n (v / 256)

/-- `n` bytes of a number, the highest first. -/
def be (n v : Nat) : List Nat := (le n v).reverse

/-- The MAC address of an external port. -/
def Core.macOf (c : Core) (p : Nat) : Nat :=
  if p = 1 then c.rd F.NET_MAC1_LO.MAC + 2 ^ 32 * c.rd F.NET_MAC1_HI.MAC else c.rd F.NET_MAC2_LO.MAC + 2 ^ 32 * c.rd F.NET_MAC2_HI.MAC

/-- R341, R508: the addressing of a frame that leaves through port `p`: destination, the port's own address as source, an 802.1Q tag where
the VLAN identifier is not 0, EtherType. -/
def Core.ethHead (c : Core) (p dst vid pcp etype : Nat) : List Nat :=
  be 6 dst ++ be 6 (c.macOf p) ++ (if vid = 0 then [] else be 2 33024 ++ be 2 (8192 * pcp + vid)) ++ be 2 etype

/-- The module's own PID. -/
def Core.pid (c : Core) : Nat := c.rd F.SHF_ID.PID

/-- R360: sheaf traffic runs. -/
def Core.shfOn (c : Core) : Bool := c.on F.SHF_CTRL.EN && c.pid != 65535

/-! ### TB_PLANT -/

/-- TB_PLANT moves by a number of ns. -/
def plantMove (d : Int) (c : Core) : Core :=
  let t := (c.ptp.sec : Int) * 1000000000 + c.ptp.ns + d
  let t1 := (t % (2 ^ 48 * 1000000000)).toNat
  let c1 := { c with ptp := { c.ptp with sec := t1 / 1000000000, ns := t1 % 1000000000 } }
  ((c1.wr F.PTP_TIME_NS.NS c1.ptp.ns).wr F.PTP_TIME_S_LO.S c1.ptp.sec).wr F.PTP_TIME_S_HI.S (c1.ptp.sec / 2 ^ 32)

/-- R466: TB_PLANT loads `PTP_TSET`, or the load is refused. -/
def plantSet (c : Core) : Core :=
  let st := c.rd F.PTP_STAT.PSTATE
  if (st = 2 ∨ st = 3) ∧ c.on F.PTP_CTRL.SERVO then c.wrB F.PTP_STAT.TSETERR true
  else
    let t : Int := (c.rd2 F.PTP_TSET_S_LO.S F.PTP_TSET_S_HI.S : Nat) * 1000000000 + c.rd F.PTP_TSET_NS.NS
    plantMove (t - ((c.ptp.sec : Int) * 1000000000 + c.ptp.ns)) c

/-- R466: TB_PLANT moves by `PTP_STEPV`. -/
def plantStep (c : Core) : Core := plantMove (c.rdS F.PTP_STEPV.NS) c

/-! ### The switch -/

/-- R457: a peer-to-peer delay mechanism is selected. -/
def Core.p2p (c : Core) : Bool := c.rd F.PTP_CFG.PROF == 1 || c.rd F.PTP_CFG.PROF == 2

/-- The messages that are timestamped (R455). -/
def eventMsg (m : Nat) : Bool := m ≤ 3

/-- R455: the egress queue of a frame from a port. -/
def egressQueue (f : EthFrame) (c : Core) : Nat :=
  match f.msg with
  | some m => if eventMsg m then 3 else 2
  | none => c.rd ⟨0x4800c, 2 * (f.pcp.getD (c.rd (F.NET_PORT.DEFPCP (f.port - 1)))), 2, 0, .rw, .imm, 0, false⟩

/-- R453: the EtherTypes that port 0 terminates. -/
def Core.terminated (c : Core) (t : Nat) : Bool := t == 35063 || t == c.rd F.SHF_NET.ETYPE || t == c.rd F.EVR_NET.ETYPE

/-- The port a learned address stands on. -/
def Core.macPort (c : Core) (a : Nat) : Option Nat := (c.ptp.macs.find? (fun x => x.1 == a)).map Prod.snd

/-- R452: a source address is learned. -/
def learn1 (a p : Nat) (c : Core) : Core :=
  if bitAt a 40 then c
  else if (c.macPort a).isSome then { c with ptp := { c.ptp with macs := c.ptp.macs.map (fun x => if x.1 = a then (a, p) else x) } }
  else if c.ptp.macs.length < 256 then { c with ptp := { c.ptp with macs := c.ptp.macs ++ [(a, p)] } }
  else c

/-- The link delay of a port toward reception (R458, R460). -/
def Core.linkDelay (c : Core) (p : Nat) : Option Int :=
  let v := c.rd (F.PTP_PORT_LDLY.LDLY (p - 1))
  if v = 4294967295 then none else some ((v : Int) + c.rdS (F.PTP_PORT_ASYM.ASYM (p - 1)))

/-- R459: the correction that a forwarded event message gets, in ns: residence, and under P2P the ingress link delay of a
Sync. Where no link delay is known the spec states none. -/
def Core.tcSum (c : Core) (f : EthFrame) : Int :=
  f.resid + (if c.p2p && f.msg == some 0 then (c.linkDelay f.port).getD (Config.freeInt 11 f.port) else 0)

/-- R459: the transparent clock on a forwarded frame: its correctionField, and the sums held for two-step messages. -/
def tcForward (f : EthFrame) (c : Core) : Int × Core :=
  if !c.on F.PTP_CFG.TCEN then (f.corr, c) else
    match f.msg with
    | some 0 =>
      if !f.twoStep then (f.corr + 65536 * c.tcSum f, c.cntWrap F.PTP_CNT.TCFWD)
      else if c.ptp.sums.length < 16 then
        (f.corr, ({ c with ptp := { c.ptp with sums := c.ptp.sums ++ [(f.seq, f.sender, c.tcSum f)] } } : Core).cntWrap F.PTP_CNT.TCFWD)
      else (f.corr, c)
    | some 1 => (f.corr + 65536 * f.resid, c.cntWrap F.PTP_CNT.TCFWD)
    | some 8 =>
      match c.ptp.sums.find? (fun x => x.1 == f.seq && x.2.1 == f.sender) with
      | some x => (f.corr + 65536 * x.2.2, { c with ptp := { c.ptp with sums := c.ptp.sums.filter (fun y => y != x) } })
      | none => (f.corr, c)
    | _ => (f.corr, c)

/-- R452, R455, R459: a frame is forwarded to an external port. -/
def ethForward (f : EthFrame) (p : Nat) (c : Core) : Core :=
  if c.on F.PTP_CFG.TCEN && c.p2p && (f.msg == some 1 || f.msg == some 9) then c
  else if !portUp p c then c
  else if f.full then c.cntSat (F.NET_ERR.DROP (p - 1))
  else
    let r := tcForward f c
    portSent p (r.2.send (.eth p f.etype [f.dst, f.src, egressQueue f c, f.len, ofSigned 64 r.1]))

/-- R457: a Delay_Resp answers the module's Delay_Req: the mean path delay. -/
def delayResp (f : EthFrame) (c : Core) : Core :=
  match c.ptp.reqT3 with
  | none => c
  | some t3 =>
    if c.p2p then c else
      let m := truncDiv (c.ptp.syncD + (f.stamp - t3 - truncDiv f.corr 65536)) 2
      ({ c with ptp := { c.ptp with reqT3 := none } } : Core).wrS F.PTP_MPD.MPD (m + c.rdS (F.PTP_PORT_ASYM.ASYM (f.port - 1)))

/-- R341: the frame types of the sheaf. -/
def shfTypes : List Nat := [1, 2, 16]

/-- R341, R453: a frame reaches port 0; the content of a sheaf frame of a known type is a command of its own. -/
def port0 (f : EthFrame) (c : Core) : Core :=
  if !c.terminated f.etype then c.cntSat (F.NET_NOTERM.COUNT (f.port - 1))
  else if f.etype = c.rd F.SHF_NET.ETYPE ∧ c.shfOn = true ∧ shfTypes.contains f.typ = false then c.cntSat F.SHF_CNT2.RXERR
  else if f.msg = some 9 then delayResp f c else c

/-- R452: a frame arrives at an external port. -/
def ethReceive (f : EthFrame) (c : Core) : Core :=
  let i := f.port - 1
  if f.port = 0 ∨ 2 < f.port ∨ !portUp f.port c then c
  else if !f.good ∨ 1522 < f.len then c.cntSat (F.NET_ERR.RXERR i)
  else
    let c0 := (c.cntWrap (F.NET_RXOK.COUNT i)).raise 96 f.port f.port
    let c1 := learn1 f.src f.port (match f.msg with | some m => if eventMsg m then c0.raise 99 f.port m else c0 | none => c0)
    let own := f.dst == c1.macOf 1 || f.dst == c1.macOf 2
    if f.dst / 16 = 0x0180C200000 then (if f.msg = some 2 ∨ f.msg = some 3 ∨ f.msg = some 10 then port0 f c1 else c1)
    else if bitAt f.dst 40 then
      let c2 := ethForward f (otherPort f.port) c1
      if c2.terminated f.etype then port0 f c2 else c2
    else if own then port0 f c1
    else
      match c1.macPort f.dst with
      | some p => if p = f.port then c1 else ethForward f p c1
      | none => ethForward f (otherPort f.port) c1

/-- R452: a learned address has not been refreshed for AGE s. -/
def ageOut (a : Nat) (c : Core) : Core :=
  if c.rd F.NET_AGE.AGE = 0 then c else { c with ptp := { c.ptp with macs := c.ptp.macs.filter (fun x => x.1 != a) } }

/-! ### Masters -/

/-- R464: the mean of ADJ over the last locked updates. -/
def Core.holdRate (c : Core) : Int := if c.ptp.adjs = [] then 0 else roundDiv (sumI c.ptp.adjs) c.ptp.adjs.length

/-- R461: of two qualified masters, the first is better. -/
def Announce.better (a b : Announce) : Bool :=
  let ka := [a.prio1, a.cls, a.acc, a.var, a.prio2, a.gm]
  let kb := [b.prio1, b.cls, b.acc, b.var, b.prio2, b.gm]
  if a.gm = b.gm then decide ([a.steps, a.sender, a.port] < [b.steps, b.sender, b.port]) else decide (ka < kb)

/-- R461: the best qualified master: two Announce messages qualify one. -/
def Core.bestMaster (c : Core) : Option Announce :=
  (c.ptp.foreign.filter (fun f => decide (2 ≤ f.cnt))).foldl (fun b f => match b with
    | none => some f.ann
    | some a => if Announce.better f.ann a then some f.ann else some a) none

/-- LOCK changes; the servo lock change is an event. -/
def setLock (b : Bool) (c : Core) : Core := if c.on F.PTP_STAT.LOCK = b then c else (c.wrB F.PTP_STAT.LOCK b).raise 100 0 (b2n b)

/-- R464: the clock goes over to another master, or to none. -/
def masterTo (m : Option Announce) (c : Core) : Core :=
  let was := c.ptp.master.isSome
  let c1 := if was then
      (setLock false (((c.wrS F.PTP_HOLDRATE.RATE c.holdRate).wrS F.PTP_RATE.ADJ c.holdRate).wrB F.PTP_STAT.HOLD true))
    else c
  let c2 := { c1 with ptp := { c1.ptp with lockCnt := 0, unCnt := 0, reqT3 := none } }
  match m with
  | none => ((({ c2 with ptp := { c2.ptp with master := none } } : Core).wr F.PTP_STAT.PSTATE 1).wr F.PTP_STAT.MPORT 0).raise 101 0 0
  | some a =>
    (((((({ c2 with ptp := { c2.ptp with master := some (a.port, a.sender) } } : Core).wr F.PTP_STAT.PSTATE 2).wr F.PTP_STAT.MPORT a.port).wr
      F.PTP_GM_LO.ID a.gm).wr F.PTP_GM_HI.ID (a.gm / 2 ^ 32)).wrB F.PTP_STAT.MCHG true).raise 101 0 a.port

/-- R461: the best master clock algorithm is rerun. -/
def bmcRun (c : Core) : Core :=
  let m := c.bestMaster
  if m.map (fun a => (a.port, a.sender)) = c.ptp.master then
    match m with
    | none => c
    | some a => (c.wr F.PTP_GM_LO.ID a.gm).wr F.PTP_GM_HI.ID (a.gm / 2 ^ 32)
  else masterTo m c

/-- R461: an Announce message. -/
def announceReceived (a : Announce) (c : Core) : Core :=
  if a.port = 0 ∨ 2 < a.port ∨ !portUp a.port c ∨ a.domain ≠ c.rd F.PTP_CFG.DOMAIN then c else
    let same := fun (f : Foreign) => f.ann.port == a.port && f.ann.sender == a.sender
    let l := if c.ptp.foreign.any same then c.ptp.foreign.map (fun f => if same f then ⟨a, f.cnt + 1⟩ else f) else c.ptp.foreign ++ [⟨a, 1⟩]
    bmcRun { c with ptp := { c.ptp with foreign := l } }

/-- R461, R464: a master's Announce messages have stopped. -/
def announceTimeout (port sender : Nat) (c : Core) : Core :=
  bmcRun { c with ptp := { c.ptp with foreign := c.ptp.foreign.filter (fun f => !(f.ann.port == port && f.ann.sender == sender)) } }

/-- R461, R464, R468: an external port's link goes up or down. -/
def linkChange (p speed : Nat) (c : Core) : Core :=
  if p = 0 ∨ 2 < p then c else
    let c1 := (((c.wrB (F.NET_PORT.LINK (p - 1)) (speed != 0)).wr (F.NET_PORT.SPEED (p - 1)) speed).wrB (F.NET_PORT.LCHG (p - 1)) true).raise 98 p speed
    if speed = 0 then bmcRun { c1 with ptp := { c1.ptp with foreign := c1.ptp.foreign.filter (fun f => f.ann.port != p) } } else c1

/-! ### The servo -/

/-- R463: LOCK after an update with offset `o`. -/
def lockUpdate (o : Int) (c : Core) : Core :=
  let a := absI o
  let n := if a ≤ 10 * c.rd F.PTP_THR.LOCK then min 8 (c.ptp.lockCnt + 1) else 0
  let u := if 10 * c.rd F.PTP_THR.UNLOCK < a then min 4 (c.ptp.unCnt + 1) else 0
  let c1 := { c with ptp := { c.ptp with lockCnt := n, unCnt := u } }
  if 4 ≤ u then setLock false c1 else if 8 ≤ n then setLock true c1 else c1

/-- R462: the largest rate adjustment, 200 ppm. -/
def adjMax : Int := 2000000

/-- R462: one update of the servo with t1, t2, corr in ns. -/
def servoUpdate (port : Nat) (t1 t2 corr : Int) (c0 : Core) : Core :=
  let c := { c0 with ptp := { c0.ptp with syncD := t2 - t1 - corr } }
  let mpd := if c.p2p then c.linkDelay port else some (c.rdS F.PTP_MPD.MPD)
  match mpd with
  | none => c
  | some d =>
    if !c.on F.PTP_CTRL.SERVO then c else
      let o := t2 - t1 - corr - d
      let stepped := c.rd F.PTP_STAT.PSTATE == 2 && decide ((1000 * c.rd F.PTP_THR.STEP : Nat) ≤ absI o)
      let c1 := if stepped then (plantMove (-o) c).wrB F.PTP_STAT.STEPPED true else c
      let o1 := if stepped then 0 else o
      let integ := clampI (-(65536 * adjMax)) (65536 * adjMax) (c1.ptp.integ - 10 * (c1.rd F.PTP_SERVO.KI : Int) * o1)
      let adj := clampI (-adjMax) adjMax (roundDiv (integ - 10 * (c1.rd F.PTP_SERVO.KP : Int) * o1) 65536)
      let c2 := ((({ c1 with ptp := { c1.ptp with integ := integ } } : Core).wrS F.PTP_RATE.ADJ adj).wrS F.PTP_OFFSET.O (satS 32 o)).wrS F.PTP_MPD.MPD d
      let c3 := c2.wrB F.PTP_STAT.HOLD false
      let c4 := lockUpdate o1 (if stepped then c3 else c3.wr F.PTP_STAT.PSTATE 3)
      if c4.on F.PTP_STAT.LOCK then { c4 with ptp := { c4.ptp with adjs := (adj :: c4.ptp.adjs).take 16 } } else c4

/-- R462: a Sync of the tracked master, or its Follow_Up for a two-step one. -/
def syncReceived (port sender : Nat) (t1 t2 corr : Int) (c : Core) : Core :=
  if c.ptp.master = some (port, sender) then servoUpdate port t1 t2 corr c else c

/-- R453, R457: what a PTP message of the module's own begins with: message type, VLAN, the source address of the port it leaves through. -/
def Core.ptpHead (c : Core) (p msg : Nat) : List Nat := [msg, c.rd F.PTP_CFG.VID] ++ be 6 (c.macOf p)

/-- R457: a Delay_Req leaves through the master's port. -/
def delayReqSend (t3 : Int) (c : Core) : Core :=
  match c.ptp.master with
  | none => c
  | some m =>
    if c.p2p then c else
      ethSend m.1 35063 (c.ptpHead m.1 1) { c with ptp := { c.ptp with reqT3 := some t3 } }

/-- R460: a port sends its Pdelay_Req at `t1`. -/
def pdelayReqSend (p : Nat) (t1 : Int) (c : Core) : Core :=
  if !c.p2p || !portUp p c then c
  else ethSend p 35063 (c.ptpHead p 2) { c with ptp := { c.ptp with reqT1 := Tab.put none c.ptp.reqT1 p (some t1) } }

/-- R460: a port answers a Pdelay_Req in one step; the turnaround time goes into the correctionField. -/
def pdelayReqReceived (p seq turn : Nat) (c : Core) : Core :=
  if !c.p2p || !portUp p c then c else (ethSend p 35063 (c.ptpHead p 3 ++ [seq, 65536 * turn]) c)

/-- R460: a valid response: arrival `t4`, turnaround in ns. -/
def pdelayRespReceived (p : Nat) (t4 turn : Int) (c : Core) : Core :=
  match Tab.get none c.ptp.reqT1 p with
  | none => c
  | some t1 =>
    if !c.p2p || !portUp p c then c else
      let l := (truncDiv (t4 - t1 - turn) 2 :: Tab.get [] c.ptp.resp p).take 8
      ({ c with ptp := { c.ptp with resp := Tab.put [] c.ptp.resp p l, reqT1 := Tab.put none c.ptp.reqT1 p none } } : Core).wr
        (F.PTP_PORT_LDLY.LDLY (p - 1)) (clampI 0 4294967294 (roundDiv (sumI l) l.length)).toNat

/-- R460: no valid response for 3 s. -/
def linkDelayLost (p : Nat) (c : Core) : Core := if p = 0 ∨ 2 < p then c else c.wr (F.PTP_PORT_LDLY.LDLY (p - 1)) 4294967295

/-- R459: a held sum has had no Follow_Up for 1 s. -/
def followUpMiss (seq sender : Nat) (c : Core) : Core :=
  if c.ptp.sums.any (fun x => x.1 == seq && x.2.1 == sender) then
    ({ c with ptp := { c.ptp with sums := c.ptp.sums.filter (fun x => !(x.1 == seq && x.2.1 == sender)) } } : Core).cntSat F.PTP_CNT.FUMISS
  else c

end Sys2Proof.Machine
end

