-- ==== Sys2Proof/Machine/Evr.lean ====
section
/-! DEFINITION. The event sequencer and its paths, and the event recorder EVR (R70 to R74, R498 to R510). -/

namespace Sys2Proof.Machine

/-- An effect on the memories and the resettable part. -/
abbrev NC := NvSt × Core

/-- The last ESN assigned (R72). -/
def Core.lastEsn (c : Core) : Nat := c.rd2 F.TICK_ESN_LO.ESN F.TICK_ESN_HI.ESN

/-- R508: Ethernet delivers an event code. -/
def Core.ethTakes (c : Core) (code : Nat) : Bool :=
  c.on F.EVR_NET.EN && !c.standby &&
    (if code < 4096 then bitAt (c.rd F.EVR_NETMASK.GROUPS) (code / 256) else c.on F.EVR_NETMASK.HIGH)

/-- R71, R73, R369: the oldest event that has not entered SYS receives the next ESN and goes to its paths; ring 2 holds at
most 256 events that wait (R426), the recorder's queue 4,096 (R504). -/
def evSequence (a : AonSt) (p : PwrSt) (c : Core) : Core :=
  if !c.ev.ready then c else
    match c.ev.raw with
    | [] => c
    | e :: rest =>
      let esn := c.lastEsn + 1
      let q : SeqEv := ⟨esn, e, a.ops, a.pwrcyc, p.vin == .holdUp⟩
      let pcie := !c.standby && c.rd (F.HIF_RSTAT.STATE 2) != 0 &&
        c.rd (F.HIF_RSTAT.STATE 2) != 4 && decide (c.ev.ring2.length < 256)
      (({ c with
        ev := { c.ev with
          raw := rest
          ring2 := if pcie then c.ev.ring2 ++ [q] else c.ev.ring2
          eth := if c.ethTakes e.code then c.ev.eth ++ [q] else c.ev.eth
          recq := if c.ev.recq.length < 4096 then c.ev.recq ++ [q] else c.ev.recq
          beyond := c.ev.beyond + 1 } } : Core)).wr2 F.TICK_ESN_LO.ESN F.TICK_ESN_HI.ESN esn

/-- R501: the codes whose repeats merge whatever their payload. -/
def periodicCode (n : Nat) : Bool :=
  [0x0000, 0x0001, 0x0101, 0x0300, 0x0400, 0x0500, 0x0600, 0x0601, 0x0A01, 0x0B00, 0x0C00, 0x0C01, 0x0C03, 0x0D00, 0x0D01,
    0x0D03, 0x0D05, 0x0E00, 0x0E05].contains n

/-- The record in a slot. -/
def NvSt.slot (nv : NvSt) (i : Nat) : Rec := Tab.get {} nv.recs i

/-- R499: a slot holds a record. -/
def Rec.valid (r : Rec) : Bool := r.mark == 165

/-- R502: an event repeats a record. -/
def Rec.same (r : Rec) (e : SeqEv) : Bool :=
  r.valid && r.code == e.ev.code && r.src == e.ev.src && (periodicCode e.ev.code || r.prim % 2 ^ 32 == e.ev.prim % 2 ^ 32)

/-- The lowest ESN among the valid records, from a start value. -/
def oldestOf (d : Nat) (l : Tab Rec) : Nat := l.foldl (fun b y => if y.2.valid && decide (y.2.esn < b) then y.2.esn else b) d

/-- R499, R503: a new record goes into the slot at WPTR. -/
def evrWrite (r : Rec) (high : Nat) (q : NC) : NC :=
  let (nv, c) := q
  let w := c.rd F.EVR_STAT.WPTR
  let old := nv.slot w
  let nv1 := { nv with recs := Tab.put {} nv.recs w r }
  let c1 := ((c.wr F.EVR_STAT.WPTR (w + 1)).cntWrap F.EVR_CNT.RECORDS).wr2 F.EVR_NEWEST_LO.ESN F.EVR_NEWEST_HI.ESN high
  let c2 := if old.valid || nv.recs.all (fun x => !x.2.valid) then
      c1.wr2 F.EVR_OLDEST_LO.ESN F.EVR_OLDEST_HI.ESN (oldestOf r.esn nv1.recs)
    else c1
  let c3 := if w = 65535 then (c2.wrB F.EVR_STAT.WRAP true).raise 113 0 0 else c2
  (nv1, { c3 with ev := { c3.ev with recent := (w :: c3.ev.recent).take 64, beyond := c3.lastEsn - high } })

/-- R498, R502: an event as a new record. -/
def evrNew (e : SeqEv) (q : NC) : NC :=
  let (nv, c) := evrWrite ⟨e.esn, e.ev.code, e.ev.src, e.ops, e.pwrcyc, 0, 0, b2n e.hold, 165, e.ev.prim, e.ev.stat⟩ e.esn q
  (nv, c.raise 112 0 0)

/-- R502: a repeat merges into the record of slot `i`. -/
def evrMerge (i : Nat) (e : SeqEv) (q : NC) : NC :=
  let (nv, c) := q
  let r := nv.slot i
  if r.rep = 65535 ∨ 4294967295 < e.esn - r.esn then
    evrNew e ({ nv with recs := Tab.put {} nv.recs i { r with flags := Nat.lor r.flags 2 } }, c)
  else
    let c1 := (c.cntWrap F.EVR_MCNT.MERGES).wr2 F.EVR_NEWEST_LO.ESN F.EVR_NEWEST_HI.ESN e.esn
    ({ nv with recs := Tab.put {} nv.recs i { r with rep := r.rep + 1, ldelta := e.esn - r.esn } },
      { c1 with ev := { c1.ev with beyond := c1.lastEsn - e.esn } })

/-- R499, R502, R503: the recorder takes its next event; 32,768 ESNs beyond the highest it holds make it write an ESN_MARK. -/
def evrRecord (a : AonSt) (nv : NvSt) (c : Core) : NC :=
  if 32768 ≤ c.ev.beyond then
    evrWrite ⟨c.lastEsn, 4096, 0, a.ops, a.pwrcyc, 0, 0, 4, 165, 0, []⟩ c.lastEsn (nv, c)
  else
    match c.ev.recq with
    | [] => (nv, c)
    | e :: rest =>
      let c1 := { c with ev := { c.ev with recq := rest } }
      match c1.ev.recent.find? (fun i => (nv.slot i).same e) with
      | some i => evrMerge i e (nv, c1)
      | none => evrNew e (nv, c1)

/-- All events that have not entered SYS are sequenced and recorded: the pending event records of R506 and R517. -/
def evFlush (a : AonSt) (p : PwrSt) (q : NC) : NC :=
  let n := q.2.ev.raw.length + q.2.ev.recq.length
  let c1 := times (fun _ c => evSequence a p c) q.2.ev.raw.length q.2
  times (fun _ x => evrRecord a x.1 x.2) (n + 2) (q.1, c1)

/-- R505: the recorder scan at start-up. DESIGN CHOICE (R65, notes/assumptions/57): until the first ESN is assigned TICK_ESN shows the
number below it. -/
def evrScan (q : NC) : NC :=
  let (nv, c) := q
  let vs := nv.recs.filter (fun x => x.2.valid)
  match vs with
  | [] => (nv, (c.wr F.EVR_STAT.WPTR 0).wr2 F.TICK_ESN_LO.ESN F.TICK_ESN_HI.ESN 65535)
  | x :: xs =>
    let top := xs.foldl (fun b y => if b.2.esn + b.2.ldelta < y.2.esn + y.2.ldelta then y else b) x
    let low := oldestOf x.2.esn xs
    let high := top.2.esn + top.2.ldelta
    let w := (top.1 + 1) % 65536
    let c1 := ((c.wr F.EVR_STAT.WPTR w).wrB F.EVR_STAT.WRAP (vs.any (fun y => decide (w ≤ y.1)))).wr2 F.EVR_NEWEST_LO.ESN F.EVR_NEWEST_HI.ESN high
    let c2 := (c1.wr2 F.EVR_OLDEST_LO.ESN F.EVR_OLDEST_HI.ESN low).wr2 F.TICK_ESN_LO.ESN F.TICK_ESN_HI.ESN (high + 65535)
    (nv, c2)

/-- R505, R516: the sequencer starts; the first event of the run is RESTART. -/
def evrStart (code : Nat) (c : Core) : Core :=
  { c with
    free := c.free + 1
    ev := { c.ev with ready := true, raw := ⟨4097, 0, code, [], c.stamp 4097⟩ :: c.ev.raw } }

/-- R72: the sequencer goes on above both series at a switch-over. DESIGN CHOICE (R65, notes/assumptions/57): until it assigns the next
ESN TICK_ESN shows the number below that. -/
def evrTakeOver (peer : Nat) (c : Core) : Core :=
  c.wr2 F.TICK_ESN_LO.ESN F.TICK_ESN_HI.ESN (max peer c.lastEsn + 65535)

/-- A list cut or filled with zeros to `n` bytes. -/
def padTo (n : Nat) (l : List Nat) : List Nat := (l ++ List.replicate (n - l.length) 0).take n

/-- R501: the payload: the primary value and the owning block's status. -/
def evPayload (prim : Nat) (stat : List Nat) : List Nat := padTo 32 (leBytes 4 prim ++ stat.flatMap (leBytes 4))

/-- R498: the 64 bytes of a record. -/
def Rec.bytes (r : Rec) : List Nat :=
  leBytes 8 r.esn ++ leBytes 2 r.code ++ leBytes 2 r.src ++ leBytes 6 r.ops ++ leBytes 4 r.pwrcyc ++ [0, 0] ++
    leBytes 4 r.ldelta ++ leBytes 2 r.rep ++ [r.flags, r.mark] ++ evPayload r.prim r.stat

/-- R393: the 64 bytes of an event entry. -/
def SeqEv.bytes (e : SeqEv) (ph : Nat) : List Nat :=
  leBytes 8 e.esn ++ leBytes 6 e.ev.stamp.count ++ [0, 0] ++ leBytes 4 (e.ev.stamp.phase % 2 ^ 20) ++ leBytes 2 e.ev.code ++
    leBytes 2 e.ev.src ++ padTo 8 [ph] ++ evPayload e.ev.prim e.ev.stat

/-- R508, R369: up to 16 events leave in one frame on both Ethernet ports; a standby sends none. -/
def evFrameSend (c : Core) : Core :=
  if c.ev.eth = [] ∨ c.standby = true then c else
    let data := fun p => c.ethHead p (c.rd F.EVR_MCAST_LO.ADDR + 2 ^ 32 * c.rd F.EVR_MCAST_HI.ADDR) 0 0 (c.rd F.EVR_NET.ETYPE) ++
      (c.ev.eth.take 16).flatMap (fun e => e.bytes 0)
    ethSend 2 3 (data 2) (ethSend 1 3 (data 1) { c with ev := { c.ev with eth := c.ev.eth.drop 16 } })

/-- Four bytes from place `4 * k` as a word. -/
def wordAt (l : List Nat) (k : Nat) : Nat :=
  l.getD (4 * k) 0 + 256 * l.getD (4 * k + 1) 0 + 65536 * l.getD (4 * k + 2) 0 + 16777216 * l.getD (4 * k + 3) 0

/-- R510: a write to `EVR_WSEL` copies a slot into the window. -/
def evrWindow (slot : Nat) (nv : NvSt) (c : Core) : NC :=
  let r := nv.slot (slot % 65536)
  let b := if r.valid then r.bytes else []
  (nv, forUp 16 (fun k c => c.wr (F.EVR_W.DATA k) (wordAt b k)) ((c.wr F.EVR_WSEL.SLOT slot).wrB F.EVR_WSEL.WVALID r.valid))

/-- A record at its place in ESN order. -/
def insRec (r : Rec) : List Rec → List Rec
  | [] => [r]
  | x :: xs => if r.esn < x.esn then r :: x :: xs else x :: insRec r xs

/-- R507: the records from the first one that covers an ESN, or the next higher, in ESN order, at most `n`. -/
def evrFrom (nv : NvSt) (esn n : Nat) : List Rec :=
  (((nv.recs.filter (fun x => x.2.valid)).foldr (fun x l => insRec x.2 l) []).dropWhile (fun r => decide (r.esn + r.ldelta < esn))).take n

end Sys2Proof.Machine
end

