-- ==== Sys2Proof/Machine/Ring.lean ====
section
/-! DEFINITION. HIF: the rings, their doorbells, the command journal, acceptance and completion, moderation of messages,
and the transfers that these ask of the DMA engine (R384 to R411). -/

namespace Sys2Proof.Machine

/-! ### Rings -/

/-- R404: the state of a ring: 0 FREE, 1 ACTIVE, 2 STALLED, 3 HALTED, 4 FROZEN, 5 DRAINING. -/
def Core.rst (c : Core) (r : Nat) : Nat := c.rd (F.HIF_RSTAT.STATE r)

/-- R403: the type of a ring: 0 SUBMIT, 1 COMPLETE, 2 STREAM, 3 EVENT. -/
def Core.rtyp (c : Core) (r : Nat) : Nat := c.rd (F.HIF_RSTAT.TYPE r)

/-- The function that owns a ring. -/
def Core.rowner (c : Core) (r : Nat) : Nat := c.rd (F.HIF_RSTAT.OWNER r)

/-- The entries a ring holds (R386). -/
def Core.rsize (c : Core) (r : Nat) : Nat := 2 ^ c.rd (F.HIF_RSTAT.LOG2N r)

/-- The module's index of a ring: consumer for SUBMIT, producer otherwise. -/
def Core.rmod (c : Core) (r : Nat) : Nat := c.rd (F.HIF_RIDX.MOD r)

/-- The host's index of a ring. -/
def Core.rhost (c : Core) (r : Nat) : Nat := c.rd (F.HIF_RIDX.HOST r)

/-- R388: the distance of two free-running 16-bit indices. -/
def dist16 (a b : Nat) : Nat := (a + 65536 - b % 65536) % 65536

/-- R388: the phase bit of an entry. -/
def Core.phaseBit (c : Core) (r i : Nat) : Nat := 1 - (i / c.rsize r) % 2

/-- The journal's record of a ring. -/
def NvSt.ring (nv : NvSt) (r : Nat) : JRing := Tab.get {} nv.jring r

/-- Change the journal's record of a ring. -/
def NvSt.setRing (nv : NvSt) (r : Nat) (f : JRing → JRing) : NvSt := { nv with jring := Tab.upd {} nv.jring r f }

/-- R404: a ring changes state; `HIF_STAT.RECOVER` (R406), `ATU_STAT` follow, and the ring's state change is an event. -/
def ringState (r st : Nat) (c : Core) : Core :=
  if c.rst r = st then c else
    let c1 := c.wr (F.HIF_RSTAT.STATE r) st
    let c2 := c1.wrB F.HIF_STAT.RECOVER ((upTo 64).any (fun k => c1.rst k == 4))
    let c3 := (c2.wr F.ATU_STAT.NSTALL (countIf (fun k => c2.rst k == 2) (upTo 64))).wrB F.ATU_STAT.R3STALL (c2.rst 3 == 2)
    c3.raise 11 r st

/-- The module's index of a ring takes a value; the journal keeps it (R397, R407). -/
def setMod (r v : Nat) (q : NC) : NC := (q.1.setRing r (fun x => { x with mod := v % 65536 }), q.2.wr (F.HIF_RIDX.MOD r) v)

/-- A function is in D3hot (R410). -/
def Core.inD3 (c : Core) (fn : Nat) : Bool := c.hif.d3.contains fn

/-- A transfer joins those that wait. -/
def pushXf (x : Xfer) (c : Core) : Core := { c with hif := { c.hif with xf := c.hif.xf ++ [x] } }

/-- Some transfer of a kind is under way for a ring. -/
def Core.hasXf (c : Core) (r k : Nat) : Bool := c.hif.xf.any (fun x => x.ring == r && x.kind == k)

/-! ### Messages -/

/-- The vector of a ring, 0 to 63 (R415). -/
def Core.rvec (c : Core) (r : Nat) : Nat := 16 * c.rowner r + c.rd (F.HIF_RSTAT.VEC r)

/-- R410: something falls due for a function in D3hot; PME is signalled once when it is enabled. -/
def pmeSend (fn : Nat) (c : Core) : Core :=
  if c.inD3 fn && c.hif.pme.contains fn && !c.hif.pmeSent.contains fn then
    ({ c with hif := { c.hif with pmeSent := fn :: c.hif.pmeSent } } : Core).send (.pme fn)
  else c

/-- R408: the module has written an entry to a ring; its vector's message falls due at COUNT, at once for TIMER 0 or an urgent
entry. -/
def entryWritten (r : Nat) (urgent : Bool) (c : Core) : Core :=
  if !c.on (F.HIF_RSTAT.IEN r) then c else
    let v := c.rvec r
    let n := Tab.get 0 c.hif.since v + 1
    let dueNow := urgent || decide (max 1 (c.rd (F.HIF_MOD.COUNT v)) ≤ n) || c.rd (F.HIF_MOD.TIMER v) == 0
    ({ c with
      hif := { c.hif with
        since := Tab.put 0 c.hif.since v n
        due := if dueNow && !c.hif.due.contains v then c.hif.due ++ [v] else c.hif.due } } : Core).wr
      (F.HIF_MOD.PENDING v) (min 255 n)

/-- R408, R409: the message of vector `v` leaves, or pends while the vector is masked; `timer`: TIMER µs have passed. -/
def msixMessage (v : Nat) (timer : Bool) (c : Core) : Core :=
  if c.inD3 (v / 16) || !(c.hif.due.contains v || (timer && Tab.get 0 c.hif.since v != 0)) then c else
    let c1 := ({ c with
      hif := { c.hif with
        since := Tab.put 0 c.hif.since v 0
        due := c.hif.due.filter (fun x => x != v) } } : Core).wr (F.HIF_MOD.PENDING v) 0
    if c1.hif.men.contains v then c1.send (.msix (v / 16) (v % 16))
    else { c1 with hif := { c1.hif with mpend := if c1.hif.mpend.contains v then c1.hif.mpend else c1.hif.mpend ++ [v] } }

/-- R409: host software unmasks vector `v` (or masks it); a pending message is sent. -/
def msixMask (v : Nat) (masked : Bool) (c : Core) : Core :=
  if masked then { c with hif := { c.hif with men := c.hif.men.filter (fun x => x != v) } }
  else
    let c1 : Core := { c with hif := { c.hif with men := if c.hif.men.contains v then c.hif.men else v :: c.hif.men } }
    if c1.hif.mpend.contains v && !c1.inD3 (v / 16) then
      ({ c1 with hif := { c1.hif with mpend := c1.hif.mpend.filter (fun x => x != v) } } : Core).send (.msix (v / 16) (v % 16))
    else c1

/-- A COMPLETE, STREAM or EVENT ring takes entries: it is ACTIVE or DRAINING and its owner is not in D3hot. -/
def Core.takes (c : Core) (r : Nat) : Bool := (c.rst r == 1 || c.rst r == 5) && !c.inD3 (c.rowner r)

/-! ### The journal -/

/-- Change the first record that satisfies a test. -/
def updFirst (p : JRec → Bool) (f : JRec → JRec) : List JRec → List JRec
  | [] => []
  | j :: l => if p j then f j :: l else j :: updFirst p f l

/-- Change the record of the command of a ring that is executing. -/
def NvSt.setRun (nv : NvSt) (r sidx : Nat) (f : JRec → JRec) : NvSt :=
  { nv with jrec := updFirst (fun j => j.ring == r && j.sidx == sidx && j.stg == 0) f nv.jrec }

/-- Change one record. -/
def NvSt.setRec (nv : NvSt) (j : JRec) (f : JRec → JRec) : NvSt := { nv with jrec := updFirst (fun x => x == j) f nv.jrec }

/-- The place in the order of ends that the last command ended has (R398, R407): the journal keeps it through resets and a switch-over. -/
def NvSt.lastFin (nv : NvSt) : Nat := nv.jrec.foldl (fun m j => max m j.fin) 0

/-- The journal's use as `HIF_JUSE` shows it. -/
def jShow (q : NC) : NC :=
  let n := q.1.jrec.length
  (q.1, ((q.2.wr F.HIF_JUSE.USED n).wr F.HIF_JUSE.HIGH (max n (q.2.rd F.HIF_JUSE.HIGH))).wrB F.HIF_STAT.JFULL (decide (8192 ≤ n)))

/-- R397, R399: records are freed once 64 later commands of the same ring are acknowledged too; not one whose ID a command that waits has. -/
def jFree (q : NC) : NC :=
  let asked := fun (j : JRec) => q.1.jrec.any (fun k => k.ring == j.ring && k.stg == 0 && k.cid == j.cid)
  let keep := fun (j : JRec) =>
    !(j.stg == 3 && decide (64 ≤ countIf (fun k => k.ring == j.ring && k.stg == 3 && decide (j.fin < k.fin)) q.1.jrec)) || asked j
  jShow ({ q.1 with jrec := q.1.jrec.filter keep }, q.2)

/-- R396, R398: the first two conditions: the record is in MRAM, and in a pair the standby's journal has it or SOLOACT holds. -/
def Core.journaled (c : Core) (j : JRec) : Bool := !c.on F.RED_CFG.PAIR || j.ack || c.on F.RED_STAT.SOLOACT

/-- R398, R404: the command of a SUBMIT ring that is next to execute; those that a deleted ring had accepted come first. -/
def NvSt.headRec (nv : NvSt) (r : Nat) : Option JRec := nv.jrec.find? (fun j => j.ring == r && j.stg == 0 && (!j.gone || j.acc))

/-- A command ends with a status and a result: EXECUTED (R397). -/
def finish (r sidx status result : Nat) (q : NC) : NC :=
  let n := q.1.lastFin + 1
  let gone := q.1.jrec.any (fun j => j.ring == r && j.sidx == sidx && j.stg == 0 && j.gone)
  let q1 : NC := (q.1.setRun r sidx (fun j => { j with stg := 1, run := false, wait := 0, status := status, result := result % 2 ^ 64, fin := n }),
    { q.2 with hif := { q.2.hif with rbuf := Tab.del q.2.hif.rbuf r } })
  let c2 := if status = 1 then q1.2.cntSat F.HIF_DUPCNT.COUNT else q1.2
  let c3 := if gone || c2.takes (q.1.ring r).pair then c2 else pmeSend (c2.rowner r) (c2.raise 12 r sidx)
  jShow ({ q1.1 with jrec := q1.1.jrec.filter (fun j => !(j.gone && j.stg != 0)) }, c3)

/-- R402: the opcodes of opcode set revision 1. -/
def opKnown (op : Nat) : Bool :=
  (decide (1 ≤ op) && decide (op ≤ 9)) || (decide (16 ≤ op) && decide (op ≤ 19)) || (decide (32 ≤ op) && decide (op ≤ 44)) ||
    (decide (48 ≤ op) && decide (op ≤ 50))

/-- R399: an earlier command of the ring with the same ID. -/
def NvSt.original (nv : NvSt) (j : JRec) : Option JRec :=
  nv.jrec.find? (fun k => k.ring == j.ring && k.cid == j.cid && k.stg != 0)

/-- The bytes a command reads from its buffer (R402): REG_LIST, CTE_LOAD and CTE_PARAM. -/
def JRec.reads (j : JRec) : Nat :=
  if j.op = 19 then min 3072 j.blen else if j.op = 42 then min (4 * (j.par.getD 2 0 + 256 * j.par.getD 3 0)) j.blen
  else if j.op = 43 then min 512 j.blen else 0

/-- R399, R402, R411: the head of a ring ends at once as a duplicate or an unknown opcode, or its buffer is read. -/
def advance1 (r : Nat) (q : NC) : NC :=
  match q.1.headRec r with
  | none => q
  | some j =>
    if j.run || !q.2.journaled j || q.2.standby then q
    else match q.1.original j with
      | some o => finish r j.sidx 1 o.result q
      | none =>
        if !opKnown j.op then finish r j.sidx 2 0 q
        else if j.reads != 0 && !q.2.hasXf r 2 && (q.2.hif.rbuf.find? (fun x => x.1 == r)).isNone then
          (q.1, pushXf { kind := 2, ring := r, fn := j.own, cls := j.cls, iova := j.buf, len := j.reads, idx := j.sidx, cid := j.cid } q.2)
        else q

/-- The heads of a ring that need no command of their own end. -/
def advance (r : Nat) (q : NC) : NC := times (fun _ q => advance1 r q) (countIf (fun j => j.ring == r) q.1.jrec) q

/-! ### Entries written by the module -/

/-- R391, R392: a completion entry; its ESN stamp comes when it is written. -/
def complBytes (ver : Nat) (ph : Nat) (j : JRec) : List Nat :=
  if ver = 1 then leBytes 8 j.cid ++ leBytes 8 0 ++ leBytes 2 j.status ++ leBytes 2 j.sidx ++ [j.ring, ph + 2 * b2n j.ret, 0, 0] ++ leBytes 8 j.result
  else leBytes 2 j.sidx ++ [j.ring, ph + 2 * b2n j.ret] ++ leBytes 2 j.status ++ [0, 0] ++ leBytes 8 j.result ++ List.replicate 16 0

/-- R388: room for one more entry. -/
def Core.hasRoom (c : Core) (r : Nat) : Bool := decide (dist16 (c.rmod r) (c.rhost r) < c.rsize r)

/-- R396 to R398: the oldest completion of COMPLETE ring `r` that may be written. -/
def NvSt.nextCompl (nv : NvSt) (r : Nat) : Option JRec :=
  nv.jrec.foldl (fun b j => if j.stg == 1 && j.wb && !j.busy && !j.gone && (nv.ring j.ring).pair == r then
    match b with
    | none => some j
    | some k => if j.fin < k.fin then some j else some k
    else b) none

/-- The completion of the next command goes on its way. -/
def complPump (r : Nat) (q : NC) : NC :=
  if q.2.rtyp r != 1 || !q.2.takes r || q.2.hasXf r 4 || !q.2.hasRoom r then q else
    match q.1.nextCompl r with
    | none => q
    | some j =>
      let i := q.2.rmod r
      (q.1.setRec j (fun x => { x with busy := true, cidx := i }),
        pushXf {
              kind := 4, ring := r, fn := q.2.rowner r, cls := (q.1.ring r).cls, iova := (q.1.ring r).base + 32 * (i % q.2.rsize r), len := 32
              data := complBytes (q.2.rd (F.HIF_RSTAT.VER r)) (q.2.phaseBit r i) j, write := true, idx := i, cid := j.cid, urgent := j.urgent } q.2)

/-- R393, R445: the oldest event that waits for ring 2 goes on its way. -/
def eventPump (q : NC) : NC :=
  let c := q.2
  match c.ev.ring2 with
  | [] => q
  | e :: _ =>
    if !c.takes 2 then (q.1, pmeSend (c.rowner 2) c)
    else if c.hasXf 2 5 || !c.hasRoom 2 then q
    else
      let i := c.rmod 2
      (q.1, pushXf {
            kind := 5, ring := 2, fn := c.rowner 2, cls := 0, iova := (q.1.ring 2).base + 64 * (i % c.rsize 2), len := 64
            data := e.bytes (c.phaseBit 2 i), write := true, idx := i
            urgent := decide (e.ev.code < 4096) && c.on (F.IRQ_SRC.URG (e.ev.code / 256 * 8 + e.ev.code % 256)) } c)

/-- R427: the 32 payload bytes of a fault record. -/
def FaultRec.bytes (f : FaultRec) : List Nat :=
  [f.ring, f.fn, f.cause, f.kind] ++ leBytes 2 f.idx ++ [0, 0] ++ leBytes 8 f.iova ++ leBytes 8 f.cid ++ leBytes 4 f.done ++ leBytes 4 f.len

/-- R427, R429: the oldest fault record held goes to ring 3 when it has room. -/
def faultPump (q : NC) : NC :=
  let c := q.2
  match c.hif.fheld with
  | [] => q
  | f :: rest =>
    if c.rtyp 3 != 3 || !c.takes 3 || c.hasXf 3 9 || !c.hasRoom 3 then q else
      let i := c.rmod 3
      (q.1, (pushXf {
            kind := 9, ring := 3, fn := c.rowner 3, cls := 0, iova := (q.1.ring 3).base + 64 * (i % c.rsize 3), len := 64
            data := leBytes 8 f.esn ++ leBytes 6 f.stamp.count ++ [0, 0] ++ leBytes 4 (f.stamp.phase % 2 ^ 20) ++ leBytes 2 512 ++ leBytes 2 f.ring ++
          padTo 8 [c.phaseBit 3 i] ++ f.bytes, write := true, idx := i } ({ c with hif := { c.hif with fheld := rest } })).wr
        F.ATU_STAT.NHELD rest.length)

/-- R390, R396: the next descriptor of a SUBMIT ring is fetched. -/
def fetchPump (r : Nat) (q : NC) : NC :=
  let c := q.2
  let i := Tab.get 0 c.hif.fetch r
  if c.rst r = 1 && c.rtyp r == 0 && !c.inD3 (c.rowner r) && !c.hasXf r 1 && (c.hif.desc.find? (fun x => x.1 == r)).isNone &&
      dist16 (c.rhost r) i != 0 && decide (dist16 (c.rhost r) i ≤ c.rsize r) then
    (q.1, pushXf { kind := 1, ring := r, fn := c.rowner r, cls := (q.1.ring r).cls, iova := (q.1.ring r).base + 64 * (i % c.rsize r), len := 64, idx := i } c)
  else q

/-- R410: no retained entry of a function is still to be written. -/
def Core.retainedOut (c : Core) (fn : Nat) : Bool := !c.hif.xf.any (fun x => x.fn == fn && !x.stalled && (x.kind == 4 || x.kind == 5 || x.kind == 9))

/-- R410: the vector of every ring of a function whose module index differs from the host's is raised again. -/
def vectorsAgain (fn : Nat) (q : NC) : Core :=
  q.1.jring.foldl (fun c p =>
    let v := c.rvec p.1
    if p.2.owner = fn && c.on (F.HIF_RSTAT.IEN p.1) && c.rtyp p.1 != 0 && c.rmod p.1 != c.rhost p.1 && !c.hif.due.contains v then
      { c with hif := { c.hif with due := c.hif.due ++ [v] } } else c) q.2

/-- R410: what a return to D0 still owes, once the retained entries are written. -/
def backPump (q : NC) : NC :=
  q.2.hif.back.foldl (fun q fn => if q.2.retainedOut fn then
    let c := vectorsAgain fn q
    (q.1, { c with hif := { c.hif with back := c.hif.back.filter (fun x => x != fn) } }) else q) q

/-- Everything that can go on its way does: fetches, buffers, completions, events and fault records; nothing in a standby (R369). -/
def hifPump (q : NC) : NC :=
  if q.2.standby then q
  else backPump (faultPump (eventPump (q.1.jring.foldl (fun q p => complPump p.1 (advance p.1 (fetchPump p.1 q))) q)))

/-- R395: a consumer-index write-back is due. -/
def writeBack (r : Nat) (q : NC) : NC :=
  let c := q.2
  let n := Tab.get 0 c.hif.wbCnt r + 1
  (q.1, pushXf {
        kind := 7, ring := r, fn := c.rowner r, cls := (q.1.ring r).cls, iova := (q.1.ring r).wb, len := 8
        data := leBytes 2 (c.rmod r) ++ [c.rst r, 0] ++ leBytes 4 n, write := true, idx := c.rmod r }
    { c with hif := { c.hif with wbCnt := Tab.put 0 c.hif.wbCnt r n } })

/-- What follows the last segment of a transfer (R388, R394 to R398, R426). -/
def xferDone (x : Xfer) (q : NC) : NC :=
  let (nv, c) := q
  if x.kind = 1 then (nv, { c with hif := { c.hif with desc := Tab.ins (Tab.del c.hif.desc x.ring) x.ring x.data } })
  else if x.kind = 2 then (nv, { c with hif := { c.hif with rbuf := Tab.ins (Tab.del c.hif.rbuf x.ring) x.ring x.data } })
  else if x.kind = 3 then
    match nv.jrec.find? (fun j => j.ring == x.ring && j.sidx == x.idx && j.stg == 0) with
    | some j => finish x.ring x.idx j.status j.result q
    | none => q
  else if x.kind = 4 then
    let q1 := setMod x.ring (x.idx + 1) q
    ({ q1.1 with jrec := q1.1.jrec.map (fun j => if j.busy && j.cidx == x.idx && (q1.1.ring j.ring).pair == x.ring then
        { j with stg := 2, busy := false } else j) }, entryWritten x.ring x.urgent q1.2)
  else if x.kind = 5 then
    let q1 := setMod 2 (x.idx + 1) q
    (q1.1, entryWritten 2 x.urgent { q1.2 with ev := { q1.2.ev with ring2 := q1.2.ev.ring2.drop 1 } })
  else if x.kind = 6 then
    let q1 := setMod x.ring (c.rmod x.ring + x.len / 64) q
    (q1.1, entryWritten x.ring false q1.2)
  else if x.kind = 7 then
    ({ nv with jrec := nv.jrec.map (fun j => if j.ring == x.ring && j.acc && decide (dist16 x.idx (j.sidx + 1) < 32768) then { j with wb := true } else j) }, c)
  else if x.kind = 9 then
    let q1 := setMod 3 (x.idx + 1) q
    (q1.1, entryWritten 3 false q1.2)
  else q

/-- R396: entries of COMPLETE ring `p` in use or reserved. -/
def reserved (p : Nat) (q : NC) : Nat :=
  dist16 (q.2.rmod p) (q.2.rhost p) + countIf (fun j => (q.1.ring j.ring).pair == p && j.acc && decide (j.stg < 2) && !j.gone) q.1.jrec

/-- R377, R396: the pair accepts commands: there is no pair, a valid standby, or SOLO. -/
def Core.accepts (c : Core) : Bool :=
  !c.on F.RED_CFG.PAIR || (c.rd F.RED_STAT.ROLE == 1 && (c.on F.RED_STAT.SBYVALID || c.on F.RED_STAT.SOLOACT))

/-- R396: no entry of COMPLETE ring `p` can be reserved. -/
def cqFull (p : Nat) (q : NC) : Bool := decide (q.2.rsize p ≤ reserved p q) || q.2.rtyp p != 1 || q.2.rst p == 0

/-- R396: CQFULL shows that the next command of some SUBMIT ring waits for an entry of its COMPLETE ring. -/
def cqShow (q : NC) : NC :=
  (q.1, q.2.wrB F.HIF_STAT.CQFULL (q.1.jring.any (fun x => x.2.live && x.2.typ == 0 &&
    match q.1.jrec.find? (fun j => j.ring == x.1 && !j.acc && !j.gone) with
    | some j => q.2.journaled j && q.2.accepts && cqFull x.2.pair q
    | none => false)))

/-! ### Doorbells -/

/-- R389: a doorbell write is ignored and counted. -/
def dbErr (fn r : Nat) (c : Core) : Core := ((c.cntSat F.HIF_DBERR.COUNT).wr F.HIF_DBERR.RING r).wr F.HIF_DBERR.FUNC fn

/-- R389: the writing function does not own the ring, or the ring is FREE or FROZEN. -/
def Core.dbBad (c : Core) (fn r : Nat) : Bool := c.rowner r != fn || c.rst r == 0 || c.rst r == 4

/-- R404: a doorbell breaks R388: an ACTIVE ring halts. -/
def dbHalt (fn r : Nat) (c : Core) : Core :=
  let c1 := dbErr fn r c
  if c1.rst r = 1 then ringState r 3 (c1.wr (F.HIF_RSTAT.ERR r) 1) else c1

/-- R389: a PROD doorbell write. -/
def prodDoorbell (fn r v : Nat) (q : NC) : NC :=
  let c := q.2
  if c.dbBad fn r then (q.1, dbErr fn r c)
  else if c.rtyp r != 0 then q
  else if c.rsize r < dist16 v (c.rmod r) then (q.1, dbHalt fn r c)
  else hifPump (q.1, (c.wr (F.HIF_RIDX.HOST r) v).pulse 8)

/-- R389, R397: a CACK doorbell write. -/
def cackDoorbell (fn r v : Nat) (q : NC) : NC :=
  let c := q.2
  if c.dbBad fn r then (q.1, dbErr fn r c)
  else if c.rtyp r = 0 then q
  else if c.rsize r < dist16 (c.rmod r) v then (q.1, dbHalt fn r c)
  else
    let n := dist16 (c.rmod r) v
    let nv1 := { q.1 with jrec := q.1.jrec.map (fun j =>
      if j.stg == 2 && (q.1.ring j.ring).pair == r && c.rtyp r == 1 && decide (n < dist16 (c.rmod r) j.cidx) then { j with stg := 3 } else j) }
    hifPump (cqShow (jFree (nv1, c.wr (F.HIF_RIDX.HOST r) v)))

/-- R426, R430: a RESUME doorbell write of 1. -/
def resumeDoorbell (fn r : Nat) (q : NC) : NC :=
  let c := q.2
  if c.rowner r != fn then (q.1, dbErr fn r c)
  else if c.rst r != 2 then q
  else
    let c1 := ringState r 1 c
    hifPump (q.1, { c1 with hif := { c1.hif with xf := c1.hif.xf.map (fun x => if x.ring = r then { x with stalled := false, page := none } else x) } })

/-! ### Fetch and acceptance -/

/-- R390: the fields of a descriptor of 64 bytes. -/
def leVal : List Nat → Nat
  | [] => 0
  | b :: bs => b % 256 + 256 * leVal bs

/-- R390: a descriptor as its journal record. -/
def descOf (r sidx : Nat) (d : List Nat) : JRec :=
  {
        ring := r, sidx := sidx, cid := leVal (d.take 8), op := d.getD 8 0, urgent := bitAt (d.getD 9 0) 0
        rsv := decide (2 ≤ d.getD 9 0) || d.getD 10 0 != 0 || d.getD 11 0 != 0 || leVal ((d.drop 28).take 4) != 0
        ttl := leVal ((d.drop 12).take 4), buf := leVal ((d.drop 16).take 8), blen := leVal ((d.drop 24).take 4), par := padTo 32 (d.drop 32) }

/-- R396, R397: the fetched descriptor of a ring is journaled, if the journal has a free record. -/
def descriptorFetch (r : Nat) (q : NC) : NC :=
  let (nv, c) := q
  match c.hif.desc.find? (fun x => x.1 == r) with
  | none => q
  | some d =>
    if 8192 ≤ nv.jrec.length then jShow (nv, if c.on F.HIF_STAT.JFULL then c else c.raise 10 r 0)
    else
      let i := Tab.get 0 c.hif.fetch r
      hifPump (jShow ({ nv with jrec := nv.jrec ++ [{ descOf r i d.2 with own := (nv.ring r).owner, cls := (nv.ring r).cls }] },
        { c with hif := { c.hif with desc := Tab.del c.hif.desc r, fetch := Tab.put 0 c.hif.fetch r ((i + 1) % 65536) } }))

/-- R396: the next command of a ring in submission order is accepted if it may be. -/
def accept1 (a : AonSt) (r : Nat) (q : NC) : NC :=
  match q.1.jrec.find? (fun j => j.ring == r && !j.acc && !j.gone) with
  | none => q
  | some j =>
    let p := (q.1.ring r).pair
    if !(q.2.journaled j && q.2.accepts) || cqFull p q then q
    else setMod r (j.sidx + 1) (q.1.setRec j (fun x => { x with acc := true, ops := a.ops }), q.2)

/-- R396: acceptance of what a ring's journaled commands allow, and the write-back that covers it. -/
def commandAccept (a : AonSt) (r : Nat) (q : NC) : NC :=
  if q.2.rst r = 0 || q.2.rst r == 4 || q.2.rtyp r != 0 then q else
    let m := q.2.rmod r
    let q1 := cqShow (times (fun _ q => accept1 a r q) (countIf (fun j => j.ring == r && !j.acc) q.1.jrec) q)
    if q1.2.rmod r = m then q1
    else hifPump (writeBack r (q1.1, q1.2.raise 9 r (dist16 (q1.2.rmod r) m)))

/-! ### Freezing and restarting -/

/-- R405, R431: a buffer transfer of a command that still executes begins anew. -/
def xferAgain (t : Xfer) : Xfer :=
  { t with stalled := false, page := none, pos := 0, waited := 0, cut := false, data := if t.write then t.data else [] }

/-- R400, R405, R407: a ring becomes FROZEN. Commands journaled and mirrored count as accepted, at TB_OPS `ops`; the rest leave the
journal; completions not acknowledged are retained. -/
def freezeRing (ops r : Nat) (q : NC) : NC :=
  let (nv, c) := q
  let x := nv.ring r
  if !x.live then q else
    let keep := fun (j : JRec) => !(j.ring == r && x.typ == 0 && !j.acc && !c.journaled j)
    let recs := (nv.jrec.filter keep).map (fun j =>
      let j1 := if j.ring = r && x.typ == 0 && !j.acc then { j with acc := true, ops := ops } else j
      if (nv.ring j1.ring).pair = r && x.typ == 1 && j1.stg == 2 then { j1 with stg := 1, busy := false }
      else if (nv.ring j1.ring).pair = r && x.typ == 1 then { j1 with busy := false } else j1)
    let last := recs.foldl (fun m j => if j.ring = r && x.typ == 0 then (j.sidx + 1) % 65536 else m) (c.rmod r)
    let q1 : NC := if x.typ = 0 then setMod r last ({ nv with jrec := recs }, c) else ({ nv with jrec := recs }, c)
    let c2 := { q1.2 with
      hif := { q1.2.hif with
        xf := (q1.2.hif.xf.filter (fun t => t.ring != r || (t.kind == 2 || t.kind == 3))).map (fun t => if t.ring = r then xferAgain t else t)
        desc := Tab.del q1.2.hif.desc r }
      ev := { q1.2.ev with ring2 := if r = 2 then [] else q1.2.ev.ring2 } }
    jShow (q1.1, ringState r 4 c2)

/-- All rings freeze. -/
def freezeAll (ops : Nat) (q : NC) : NC := q.1.jring.foldl (fun q p => freezeRing ops p.1 q) q

/-- R405: FLR of a function. -/
def freezeFn (ops fn : Nat) (q : NC) : NC := q.1.jring.foldl (fun q p => if p.2.owner = fn then freezeRing ops p.1 q else q) q

/-- What was executing executes again from its record (R397). -/
def recsIdle (nv : NvSt) : NvSt := { nv with jrec := nv.jrec.map (fun j => { j with run := false, wait := 0, busy := false }) }

/-- The registers of the rings as the journal has them (R397), FROZEN, at a start. -/
def ringsRestore (q : NC) : NC :=
  jShow (q.1, q.1.jring.foldl (fun c p =>
    let r := p.1
    let x := p.2
    if !x.live then c else
      let c1 := (((((c.wr (F.HIF_RSTAT.TYPE r) x.typ).wr (F.HIF_RSTAT.VER r) x.ver).wr (F.HIF_RSTAT.OWNER r) x.owner).wr
        (F.HIF_RSTAT.LOG2N r) x.log2n).wr (F.HIF_RSTAT.PAIR r) x.pair).wr (F.HIF_RSTAT.VEC r) x.vec
      let c2 := (c1.wrB (F.HIF_RSTAT.IEN r) x.ien).wr (F.HIF_RIDX.MOD r) x.mod
      (c2.wr (F.HIF_RSTAT.STATE r) 4).wrB F.HIF_STAT.RECOVER true) q.2)

/-- R404: a ring is created ACTIVE with all indices 0. -/
def ringCreate (r : Nat) (x : JRing) (q : NC) : NC :=
  let c := q.2
  let c1 := (((((c.wr (F.HIF_RSTAT.TYPE r) x.typ).wr (F.HIF_RSTAT.VER r) x.ver).wr (F.HIF_RSTAT.OWNER r) x.owner).wr
    (F.HIF_RSTAT.LOG2N r) x.log2n).wr (F.HIF_RSTAT.PAIR r) x.pair).wr (F.HIF_RSTAT.VEC r) x.vec
  let c2 := ((c1.wrB (F.HIF_RSTAT.IEN r) x.ien).wr (F.HIF_RIDX.MOD r) 0).wr (F.HIF_RIDX.HOST r) 0
  let c3 := { c2.wr (F.HIF_RSTAT.ERR r) 0 with
    hif := { c2.hif with
      fetch := Tab.put 0 c2.hif.fetch r 0, wbCnt := Tab.put 0 c2.hif.wbCnt r 0, sseq := Tab.put 0 c2.hif.sseq r 0, sdrop := Tab.put 0 c2.hif.sdrop r 0,
      desc := Tab.del c2.hif.desc r } }
  (q.1.setRing r (fun _ => { x with live := true, mod := 0 }), ringState r 1 c3)

/-- R404, R411: a ring becomes FREE. Commands it accepted still execute; their completions are discarded. -/
def ringFree (r : Nat) (q : NC) : NC :=
  let recs := (q.1.jrec.filter (fun j => !(j.ring == r && j.stg != 0))).map (fun j => if j.ring = r then { j with gone := true } else j)
  let c1 := { q.2 with
    hif := { q.2.hif with
      xf := q.2.hif.xf.filter (fun t => t.ring != r || (t.kind == 2 || t.kind == 3))
      bind := q.2.hif.bind.filter (fun b => b.2 != r)
      desc := Tab.del q.2.hif.desc r } }
  jShow ({ (q.1.setRing r (fun _ => {})) with jrec := recs }, ringState r 0 c1)

/-- R407: a FROZEN ring becomes ACTIVE in new memory. -/
def ringRestart (r base wb : Nat) (q : NC) : NC :=
  let c := q.2
  let nv1 := q.1.setRing r (fun x => { x with base := base, wb := wb })
  if (q.1.ring r).typ = 0 then
    let c1 := { c.wr (F.HIF_RIDX.HOST r) (c.rmod r) with hif := { c.hif with fetch := Tab.put 0 c.hif.fetch r (c.rmod r) } }
    writeBack r (nv1, ringState r 1 { c1 with hif := { c1.hif with xf := c1.hif.xf.map (fun x => if x.ring = r then { x with stalled := false } else x) } })
  else
    let nv2 := if (q.1.ring r).typ = 1 then
        { nv1 with jrec := nv1.jrec.map (fun j => if (nv1.ring j.ring).pair = r && j.stg == 1 then { j with ret := true } else j) }
      else nv1
    setMod r 0 (nv2, ringState r 1 (c.wr (F.HIF_RIDX.HOST r) 0))

/-! ### Power states -/

/-- R410: a function enters or leaves D3hot. -/
def dState (fn : Nat) (d3 pme : Bool) (q : NC) : NC :=
  let c := q.2
  let c0 := { c with hif := { c.hif with pme := if pme then fn :: c.hif.pme.filter (fun x => x != fn) else c.hif.pme.filter (fun x => x != fn) } }
  if d3 = c.inD3 fn then (q.1, c0)
  else if d3 then
    let c1 := ({ c0 with hif := { c0.hif with d3 := fn :: c0.hif.d3, back := c0.hif.back.filter (fun x => x != fn) } } : Core).raise 13 fn 3
    (q.1, if c1.hif.since.any (fun x => x.1 / 16 == fn && x.2 != 0) then pmeSend fn c1 else c1)
  else
    let h := c0.hif
    hifPump (q.1, ({ c0 with hif := { h with
      d3 := h.d3.filter (fun x => x != fn), pmeSent := h.pmeSent.filter (fun x => x != fn), back := fn :: h.back.filter (fun x => x != fn) } } : Core).raise 13 fn 0)

/-! ### STREAM records -/

/-- R394: the 16-byte header of a STREAM record. -/
def streamHdr (typ ph len seq drops : Nat) : List Nat := [typ, ph, 0, 0] ++ leBytes 4 len ++ leBytes 4 seq ++ leBytes 4 drops

/-- R394: one unit group, header last (R388). -/
def streamPush (r i typ len units : Nat) (body : List Nat) (q : NC) : NC :=
  let c := q.2
  let n := Tab.get 0 c.hif.sseq r + 1
  let d := streamHdr typ (c.phaseBit r i) len n (Tab.get 0 c.hif.sdrop r) ++ body
  (q.1, pushXf {
        kind := 6, ring := r, fn := c.rowner r, cls := (q.1.ring r).cls, iova := (q.1.ring r).base + 64 * (i % c.rsize r), len := 64 * units
        pos := if 1 < units then 64 else 0, data := padTo (64 * units) d, write := true, hdrLast := decide (1 < units), idx := i }
    { c with hif := { c.hif with sseq := Tab.put 0 c.hif.sseq r n, sdrop := Tab.put 0 c.hif.sdrop r 0 } })

/-- R394: a record for one bound ring; a record that does not fit before the end of the ring comes after a pad, and is dropped
when the units, the pad among them, are not free. -/
def streamRing (r typ : Nat) (body : List Nat) (q : NC) : NC :=
  let c := q.2
  let flight := sumN ((c.hif.xf.filter (fun x => x.ring == r && x.kind == 6)).map (fun x => x.len / 64))
  let i := (c.rmod r + flight) % 65536
  let units := ceilDiv (16 + body.length) 64
  let room := c.rsize r - i % c.rsize r
  let pad := if room < units then room else 0
  if c.standby then q
  else if c.rst r != 1 || c.inD3 (c.rowner r) || decide (c.rsize r < dist16 i (c.rhost r) + pad + units) then
    (q.1, pmeSend (c.rowner r) ({ c.cntSat (F.HIF_RDROP.COUNT r) with hif := { c.hif with sdrop := Tab.put 0 c.hif.sdrop r (Tab.get 0 c.hif.sdrop r + 1) } }))
  else
    let q1 := if pad = 0 then q else streamPush r i 255 (64 * pad - 16) pad [] q
    streamPush r ((i + pad) % 65536) typ body.length units body q1

/-- R394: a record of a source (1 frame, 2 impedance) goes to its bound rings. -/
def streamWrite (src : Nat) (body : List Nat) (q : NC) : NC :=
  (q.2.hif.bind.filter (fun b => b.1 == src)).foldl (fun q b => streamRing b.2 src body q) q

end Sys2Proof.Machine
end

