-- ==== Sys2Proof/Machine/Atu.lean ====
section
/-! DEFINITION. ATU and the DMA engine: contexts, table walks, windows, the caches, segments and their priority, and
faults (R416 to R433). -/

namespace Sys2Proof.Machine

/-- R419: all bytes of a host physical access lie in one window enabled for the function. -/
def Core.inWindow (c : Core) (fn a n : Nat) : Bool :=
  (upTo 8).any (fun k => c.on (F.BLC_WIN_CTRL.EN k) && bitAt (c.rd (F.BLC_WIN_CTRL.FMASK k)) fn &&
    decide (4096 * c.rd (F.BLC_WIN_BASE_LO.BASE k) + 2 ^ 32 * c.rd (F.BLC_WIN_BASE_HI.BASE k) ≤ a) &&
    decide (a + n ≤ 4096 * c.rd (F.BLC_WIN_LIM_LO.LIM k) + 2 ^ 32 * c.rd (F.BLC_WIN_LIM_HI.LIM k) + 4096))

/-- The outcome of a translation: the host physical address, or a fault: cause, kind 8 for a table read (0: the transfer's
own), address. -/
inductive Trans where
  | ok (phys : Nat)
  | fault (cause kind addr : Nat)
  deriving DecidableEq, Repr

/-- R422: a translation joins the cache in front; 256 entries, least recently used leaves. -/
def tlbPut (e : TlbEnt) (c : Core) : Core :=
  { c with hif := { c.hif with tlb := (e :: c.hif.tlb.filter (fun x => !(x.fn == e.fn && x.page == e.page))).take 256 } }

/-- R422: an L1 entry joins its cache; 16 entries. -/
def l1Put (e : L1Ent) (c : Core) : Core :=
  { c with hif := { c.hif with l1c := (e :: c.hif.l1c.filter (fun x => !(x.fn == e.fn && x.idx == e.idx))).take 16 } }

/-- R417 step 3, R418: the L1 entry, from the cache or read. -/
def walkL1 (fn i : Nat) (l1 : TblRead) (c : Core) : Except Trans L1Ent :=
  match c.hif.l1c.find? (fun x => x.fn == fn && x.idx == i) with
  | some e => .ok e
  | none =>
    let a := 64 * c.rd (F.ATU_ROOT_LO.ROOT fn) + 2 ^ 32 * c.rd (F.ATU_ROOT_HI.ROOT fn) + 16 * i
    if !c.inWindow fn a 16 then .error (.fault 6 8 a) else
      match l1 with
      | .error => .error (.fault 7 8 a)
      | .data v =>
        if v % 2 = 0 ∨ bitsAt v 1 5 ≠ 0 ∨ bitsAt v 82 46 ≠ 0 then .error (.fault 3 0 0)
        else .ok ⟨fn, i, 64 * bitsAt v 6 58, bitsAt v 64 18⟩

/-- R417 step 4, R418: the L2 entry of page index `j`. -/
def walkL2 (fn j : Nat) (write : Bool) (e : L1Ent) (l2 : TblRead) (c : Core) : Except Trans TlbEnt :=
  if e.l2n < j then .error (.fault 3 0 0) else
    let a := e.base + 8 * j
    if !c.inWindow fn a 8 then .error (.fault 6 8 a) else
      match l2 with
      | .error => .error (.fault 7 8 a)
      | .data v =>
        if v % 2 = 0 ∨ bitsAt v 3 9 ≠ 0 then .error (.fault 4 0 0)
        else if !(if write then bitAt v 2 else bitAt v 1) then .error (.fault 5 0 0)
        else .ok ⟨fn, e.idx * 2 ^ 18 + j, bitsAt v 12 52, bitAt v 1, bitAt v 2⟩

/-- R416, R417, R422: the translation of an IOVA for an access. -/
def translate (fn addr : Nat) (write : Bool) (l1 l2 : TblRead) (c : Core) : Trans × Core :=
  let mode := c.rd (F.ATU_CFG.MODE fn)
  if mode = 2 then (.ok addr, c)
  else if mode ≠ 1 then (.fault 1 0 addr, c)
  else if 2 ^ 48 ≤ addr then (.fault 2 0 addr, c)
  else
    match c.hif.tlb.find? (fun x => x.fn == fn && x.page == addr / 4096 && (if write then x.w else x.r)) with
    | some e => (.ok (e.phys * 4096 + addr % 4096), tlbPut e c)
    | none =>
      let c1 := c.cntWrap F.ATU_WALKS.COUNT
      let i := addr / 2 ^ 30
      if c1.rd (F.ATU_CFG.L1N fn) < i then (.fault 3 0 addr, c1) else
        match walkL1 fn i l1 c1 with
        | .error (.fault a k x) => (.fault a k (if k = 8 then x else addr), c1)
        | .error (.ok x) => (.ok x, c1)
        | .ok e =>
          match walkL2 fn (addr / 4096 % 2 ^ 18) write e l2 c1 with
          | .error (.fault a k x) => (.fault a k (if k = 8 then x else addr), c1)
          | .error (.ok x) => (.ok x, c1)
          | .ok t => (.ok (t.phys * 4096 + addr % 4096), tlbPut t (l1Put e c1))

/-- R423: cached entries leave that a test selects by function and page. -/
def cacheDrop (p : Nat → Nat → Bool) (l1 : Nat → Nat → Bool) (c : Core) : Core :=
  { c with hif := { c.hif with tlb := c.hif.tlb.filter (fun x => !p x.fn x.page), l1c := c.hif.l1c.filter (fun x => !l1 x.fn x.idx) } }

/-- R421: a held write to a context commits once its function's rings are all FREE or FROZEN; its cache empties. -/
def atuCommit (c0 : Core) : Core :=
  forUp 4 (fun k c =>
    let mine := fun (w : PWrite) => w.fld.cls == .rings && decide (w.fld.off / 16 = 5120 + k)
    let free := (upTo 64).all (fun r => c.rowner r != k || c.rst r == 0 || c.rst r == 4)
    if c.wait.any mine && free then
      ((cacheDrop (fun f _ => f == k) (fun f _ => f == k) (c.commit mine)).wr (F.ATU_CFG.PEND k) 0).raise 19 k (c.rd (F.ATU_CFG.MODE k))
    else if c.wait.any mine then c.wr (F.ATU_CFG.PEND k) 1
    else c) c0

/-- R420: a bypass that BLC does not permit is refused when it is written. -/
def Core.bypassRefused (c : Core) (k mode : Nat) : Bool := mode == 2 && !bitAt (c.rd F.BLC_ATU.BYPASS) k

/-! ### Faults -/

/-- R428: bytes completed. -/
def Xfer.doneBytes (x : Xfer) : Nat := if x.hdr then x.len - 64 else if x.hdrLast then x.pos - 64 else x.pos

/-- R382, R426, R427, R429: a transfer faults; a table read that failed is reported through AER too. -/
def xferFault (x : Xfer) (cause kind addr : Nat) (q : NC) : NC :=
  let (nv, c) := q
  let k := if kind = 8 then 8 else if x.kind = 9 then 5 else x.kind
  let f : FaultRec := ⟨x.ring, x.fn, cause, k, x.idx % 65536, addr, x.cid, x.doneBytes, x.len, c.lastEsn + c.ev.raw.length + 1, c.stamp 512⟩
  let c1 := (((((((c.cntSat F.ATU_FCNT.FAULTS).wr F.ATU_LASTF_RING.RING x.ring).wr F.ATU_LASTF_RING.FUNC x.fn).wr F.ATU_LASTF_RING.CAUSE cause).wr
    F.ATU_LASTF_RING.KIND k).wr F.ATU_LASTF_IOVA_LO.IOVA addr).wr F.ATU_LASTF_IOVA_HI.IOVA (addr / 2 ^ 32)).wr F.ATU_LASTF_DONE.BYTES x.doneBytes
  let w := f.bytes
  let c1 := c1.when (cause == 7) (fun c => c.raise 15 x.fn x.ring)
  let c2 := (c1.raiseCode 512 x.ring (wordAt w 0) ((upTo 7).map (fun i => wordAt w (i + 1)))).pulse 16
  let c3 := if c2.hif.fheld.length < 16 then
      ({ c2 with hif := { c2.hif with fheld := c2.hif.fheld ++ [f] } } : Core).wr F.ATU_STAT.NHELD (c2.hif.fheld.length + 1)
    else (c2.cntSat F.ATU_FCNT.FDROP).raise 17 x.ring 0
  if c3.rst x.ring = 5 ∨ c3.rst x.ring = 0 then
    let c4 := { c3 with hif := { c3.hif with xf := c3.hif.xf.filter (fun t => t != x) } }
    if x.kind = 2 ∨ x.kind = 3 then finish x.ring x.idx 5 0 (nv, c4) else (nv, c4)
  else
    let c4 := { c3 with hif := { c3.hif with xf := c3.hif.xf.map (fun t => if t = x then { t with stalled := true, page := none } else t) } }
    (nv, if c4.rst x.ring = 1 then ringState x.ring 2 c4 else c4)

/-! ### Segments -/

/-- R404, R425: a transfer may be served: it is not stalled, its ring is not either and its function is in D0 unless it is a buffer, whose
command still executes (R410), and of its ring's transfers that are not stalled it is the oldest; a buffer of a ring that is not ACTIVE waits
for its context (R519). -/
def Core.served (c : Core) (x : Xfer) : Bool :=
  !x.stalled && !(c.inD3 x.fn && x.kind != 2 && x.kind != 3) &&
    (c.rst x.ring == 1 || c.rst x.ring == 5 || (x.kind == 3 || x.kind == 2) && (c.rd (F.ATU_CFG.MODE x.fn) == 1 || c.rd (F.ATU_CFG.MODE x.fn) == 2)) &&
    (c.hif.xf.find? (fun t => t.ring == x.ring && !t.stalled && (c.rst x.ring != 2 || t.kind == 2 || t.kind == 3))) == some x

/-- R425: the rank of a transfer: class 0, then those that have waited long enough, then by class; rings within a class take
turns. -/
def Core.xfRank (c : Core) (x : Xfer) : Nat :=
  let g := if x.cls = 0 then 0 else if max 1 (c.rd F.ATU_PRIO.AGE) ≤ x.waited then 1 else 1 + x.cls
  64 * g + (match c.hif.last with | some l => (x.ring + 63 - l) % 64 | none => x.ring)

/-- R425: the transfer that is served next. -/
def Core.xfPick (c : Core) : Option Xfer :=
  c.hif.xf.foldl (fun b x => if c.served x then
    match b with
    | none => some x
    | some y => if c.xfRank x < c.xfRank y then some x else some y
    else b) none

/-- The transfer has begun and is not done. -/
def Xfer.begun (x : Xfer) : Bool := x.pos != 0 && !(x.hdrLast && x.pos == 64 && !x.hdr) && decide (x.pos < x.len)

/-- R425: what serving `x` does to the others: those of a higher class wait on, and one that pre-emption divides is counted. -/
def xfOthers (x : Xfer) (c : Core) : Core :=
  let cuts := fun (t : Xfer) => t != x && c.hif.last == some t.ring && t.begun && !t.cut && decide (x.cls < t.cls)
  let c1 := c.cntSat F.ATU_PREEMPT.COUNT (countIf cuts c.hif.xf)
  { c1 with
    hif := { c1.hif with
      last := some x.ring
      xf := c1.hif.xf.map (fun t => if t = x then t else
        { t with waited := if x.cls < t.cls then t.waited + 1 else 0, cut := t.cut || cuts t }) } }

/-- R424: the end of the segment that starts where a transfer stands. -/
def Xfer.segEnd (x : Xfer) : Nat := min (if x.hdr then min 64 x.len else x.len) (x.pos + (256 - (x.iova + x.pos) % 256))

/-- R424, R428: a transfer after a segment; the header unit of a STREAM record comes last. -/
def Xfer.next (x : Xfer) (e phys : Nat) (bytes : List Nat) : Xfer :=
  let y := { x with pos := e, page := some ((phys - (x.iova + x.pos) % 4096) / 4096), waited := 0, data := if x.write then x.data else x.data ++ bytes }
  if x.hdrLast && !x.hdr && e == x.len then { y with hdr := true, pos := 0, page := none } else y

/-- A transfer has moved all its bytes. -/
def Xfer.whole (x : Xfer) : Bool := if x.hdrLast then x.hdr && decide (min 64 x.len ≤ x.pos) else decide (x.len ≤ x.pos)

/-- R392: the bytes that a write sends: a completion of version 2 takes the ESN stamp of the moment. -/
def Core.stamped (c : Core) (x : Xfer) : List Nat :=
  if x.kind = 4 ∧ c.rd (F.HIF_RSTAT.VER x.ring) = 1 then x.data.take 8 ++ leBytes 8 c.lastEsn ++ x.data.drop 16 else x.data

/-- R424: the DMA engine moves one segment; `l1` and `l2` are what the host answers to table reads, `bytes` what it answers
to a buffer or descriptor read. -/
def dmaSegment (l1 l2 : TblRead) (bytes : List Nat) (q : NC) : NC :=
  match q.2.xfPick with
  | none => q
  | some x =>
    let c0 := xfOthers x q.2
    let a := x.iova + x.pos
    let e := x.segEnd
    let tr : Trans × Core := match x.page with
      | some p => if a % 4096 = 0 then translate x.fn a x.write l1 l2 c0 else (.ok (p * 4096 + a % 4096), c0)
      | none => translate x.fn a x.write l1 l2 c0
    match tr with
    | (.fault cause kind addr, c1) => hifPump (xferFault x cause kind addr (q.1, c1))
    | (.ok phys, c1) =>
      if !c1.inWindow x.fn phys (e - x.pos) then hifPump (xferFault x 6 0 a (q.1, c1))
      else
        let y := x.next e phys (padTo (e - x.pos) bytes)
        let c2 := if x.write then c1.send (.mem x.fn phys (((c1.stamped x).drop x.pos).take (e - x.pos))) else c1
        if y.whole then hifPump (xferDone y (q.1, { c2 with hif := { c2.hif with xf := c2.hif.xf.filter (fun t => t != x) } }))
        else (q.1, { c2 with hif := { c2.hif with xf := c2.hif.xf.map (fun t => if t = x then y else t) } })

/-- R383: poisoned data or a completion timeout on the read that is served next. -/
def tlpError (q : NC) : NC :=
  match q.2.xfPick with
  | none => q
  | some x =>
    if x.write then q else
      let c1 := { q.2 with hif := { q.2.hif with xf := q.2.hif.xf.filter (fun t => t != x) } }
      let c2 := c1.raise 15 x.fn x.ring
      if x.kind = 1 then (q.1, if c2.rst x.ring = 1 then ringState x.ring 3 (c2.wr (F.HIF_RSTAT.ERR x.ring) 2) else c2)
      else hifPump (finish x.ring x.idx 10 0 (q.1, c2))

/-- R429: ring 3 has room again and held fault records are written. -/
def faultFlush (q : NC) : NC := hifPump q

/-- R423: the entries that ATU_INVALIDATE removes, by scope, function, first page and pages. -/
def atuInvalidate (scope fn first pages : Nat) (c : Core) : Core :=
  let hit := fun f p => if scope = 0 then true else f == fn && (scope == 1 || (decide (first ≤ p) && decide (p < first + pages)))
  let hit1 := fun f i => if scope = 0 then true else f == fn && (scope == 1 || (decide (first / 2 ^ 18 ≤ i) && decide (i * 2 ^ 18 < first + pages)))
  cacheDrop hit hit1 c

/-- R423, R433: ATU_INVALIDATE completes. -/
def atuInvDone (fn : Nat) (c : Core) : Core := (c.cntSat F.ATU_INVCNT.COUNT).raise 18 fn 0

/-- R423: a transfer under way holds a translation in scope. -/
def Core.holdsIn (c : Core) (scope fn first pages : Nat) : Bool :=
  c.hif.xf.any (fun x => !x.stalled && x.page.isSome && (x.iova + x.pos) % 4096 != 0 &&
    (scope == 0 || (x.fn == fn && (scope == 1 || (decide (first ≤ (x.iova + x.pos) / 4096) && decide ((x.iova + x.pos) / 4096 < first + pages))))))

/-- R431: FLR of a function, in the ATU. -/
def atuFlr (fn : Nat) (c : Core) : Core :=
  let c1 := cacheDrop (fun f _ => f == fn) (fun f _ => f == fn) c
  let c2 := { c1 with hif := { c1.hif with xf := c1.hif.xf.filter (fun x => x.fn != fn || x.kind == 2 || x.kind == 3), fheld := c1.hif.fheld.filter (fun f => f.fn != fn) } }
  let c3 := c2.wr F.ATU_STAT.NHELD c2.hif.fheld.length
  if fn = 0 then (c3.wr (F.ATU_CFG.MODE 0) 0) else c3

end Sys2Proof.Machine
end

