-- ==== Sys2Proof/Machine/Can.lean ====
section
/-! DEFINITION. The CAN FD controller and the time master (R471 to R481, R492 to R495). -/

namespace Sys2Proof.Machine

/-- The bytes that a DLC stands for. -/
def dlcBytes (fdf : Bool) (d : Nat) : Nat :=
  if d ≤ 8 then d else if !fdf then 8
  else match d with | 9 => 12 | 10 => 16 | 11 => 20 | 12 => 24 | 13 => 32 | 14 => 48 | _ => 64

/-- The first `n` data bytes of an object. -/
def Core.objBytes (c : Core) (o n : Nat) : List Nat := (upTo n).map (fun i => bitsAt (c.rd (F.CAN_OBJ_D.DATA o (i / 4))) (8 * (i % 4)) 8)

/-- Bytes go into the data words of an object. -/
def objStore (o : Nat) (data : List Nat) (c : Core) : Core :=
  forUp data.length (fun i c =>
    let f := F.CAN_OBJ_D.DATA o (i / 4)
    let w := c.rd f
    c.wr f (w - 2 ^ (8 * (i % 4)) * bitsAt w (8 * (i % 4)) 8 + 2 ^ (8 * (i % 4)) * (data.getD i 0 % 256))) c

/-! ### Sending -/

/-- An object waits to be sent (R476). -/
def Core.txPending (c : Core) (o : Nat) : Bool := c.on (F.CAN_OBJ_CFG.TXREQ o) && c.on (F.CAN_OBJ_CFG.EN o) && c.on (F.CAN_OBJ_CFG.DIR o)

/-- R476: the rank of a message in bus arbitration: the 11 leading bits, then the standard format, then the rest, then the
object number. The reference message (32) goes first. -/
def Core.txRank (c : Core) (o : Nat) : Nat :=
  if o = 32 then 0
  else
    let id := c.rd (F.CAN_OBJ_ID.ID o)
    let x := c.on (F.CAN_OBJ_CFG.XTD o)
    1 + (((if x then id / 2 ^ 18 else id % 2 ^ 11) * 2 + b2n x) * 2 ^ 18 + (if x then id % 2 ^ 18 else 0)) * 32 + o

/-- A message at its place in the order of R476. -/
def insRank (c : Core) (o : Nat) : List Nat → List Nat
  | [] => [o]
  | x :: xs => if c.txRank o < c.txRank x then o :: x :: xs else x :: insRank c o xs

/-- R476: the pending messages in the order in which they go. -/
def Core.txOrder (c : Core) : List Nat :=
  ((upTo 32).filter c.txPending ++ (if c.can.ref.isSome then [32] else [])).foldl (fun l o => insRank c o l) []

/-- The controller may send: on the bus, not bus-off, not listen-only. -/
def Core.mayTx (c : Core) : Bool := !c.on F.CAN_CTRL.INIT && c.rd F.CAN_STAT.EST != 2 && !c.standby

/-- R476, R479: the message of the next attempt: the first in order, or while ALONE the next after the one last attempted. -/
def Core.txNext (c : Core) : Option Nat :=
  if !c.mayTx then none else
    let l := c.txOrder
    match c.on F.CAN_STAT.ALONE, c.can.lastTry with
    | true, some t =>
      match l.find? (fun o => decide (c.txRank t < c.txRank o)) with
      | some o => some o
      | none => l.head?
    | _, _ => l.head?

/-- The next attempt starts, if none is running. -/
def txStart (c : Core) : Core :=
  match c.can.cur with
  | some _ => c
  | none =>
    match c.txNext with
    | none => c
    | some o => { c with can := { c.can with cur := some o, abort := false, lastTry := some o, refCur := if o = 32 then c.can.ref else none } }

/-- R169, R474: the identifier of a message: 29 bits, or bits [10:0]. -/
def canId (xtd : Bool) (id : Nat) : Nat := if xtd then id else id % 2048

/-- The frame that an attempt puts on the bus (R476, R477, R480). -/
def txFrame (o : Nat) (c : Core) : Core :=
  if o = 32 then
    match c.can.refCur with
    | some r => c.send (.can (canId (c.on F.CAN_TM_CFG.XTD) (c.rd F.CAN_TM_ID.ID)) (c.on F.CAN_TM_CFG.XTD) (c.on F.CAN_CTRL.FDEN) false r.2)
    | none => c
  else
    let fdf := c.on (F.CAN_OBJ_CFG.FDF o) && c.on F.CAN_CTRL.FDEN
    let brs := fdf && c.on (F.CAN_OBJ_CFG.BRS o) && c.on F.CAN_CTRL.BRSEN
    c.send (.can (canId (c.on (F.CAN_OBJ_CFG.XTD o)) (c.rd (F.CAN_OBJ_ID.ID o))) (c.on (F.CAN_OBJ_CFG.XTD o)) fdf brs (c.objBytes o (dlcBytes fdf (c.rd (F.CAN_OBJ_CFG.DLC o)))))

/-- R473: the delay measured in an FD frame sent with bit rate switch. -/
def tdcMeasure (o tdcv : Nat) (c : Core) : Core :=
  if c.on F.CAN_CTRL.TDCEN && decide (o < 32) && c.on (F.CAN_OBJ_CFG.FDF o) && c.on F.CAN_CTRL.FDEN && c.on (F.CAN_OBJ_CFG.BRS o) && c.on F.CAN_CTRL.BRSEN then
    c.wr F.CAN_STAT.TDCV tdcv
  else c

/-- R478: the error state by the counters; a change is an event. -/
def canState (c : Core) : Core :=
  if c.rd F.CAN_STAT.EST = 2 then c else
    let st := b2n (decide (128 ≤ c.rd F.CAN_ERRCNT.TEC) || decide (128 ≤ c.rd F.CAN_ERRCNT.REC))
    if st = c.rd F.CAN_STAT.EST then c else (c.wr F.CAN_STAT.EST st).raise 106 0 st

/-- R472: the clocks of a bit, and of the time from its start to the sample point, for the field values of `CAN_NBT` or `CAN_DBT`. -/
def bitClocks (brp seg1 seg2 : Nat) : Nat × Nat := ((brp + 1) * (seg1 + seg2 + 3), (brp + 1) * (seg1 + 2))

/-- R473: the secondary sample point, in FLD clocks after the start of a transmitted data bit. -/
def Core.secondarySample (c : Core) : Nat := min 127 (c.rd F.CAN_STAT.TDCV + c.rd F.CAN_DBT.TDCO)

/-- R477: BAL owns an object. -/
def Core.balOwns (c : Core) (o : Nat) : Bool := (o == 30 || o == 31) && c.on F.BAL_COOL_CAN.EN

/-- R477: a host write of TXREQ, TXABORT or LOCK, which is discarded and sets WERR where BAL owns the object. -/
def objHost (o : Nat) (g : Core → Core) (c : Core) : Core := if c.balOwns o then c.wrB (F.CAN_OBJ_STAT.WERR o) true else g c

/-- R476: TXREQ of an object is written 1. -/
def txReq (o : Nat) (c : Core) : Core := txStart (c.wrB (F.CAN_OBJ_CFG.TXREQ o) true)

/-- R476: TXABORT of an object is written 1. -/
def txAbort (o : Nat) (c : Core) : Core :=
  if c.can.cur = some o then { c with can := { c.can with abort := true } } else c.wrB (F.CAN_OBJ_CFG.TXREQ o) false

/-- R476, R479, R480: the running attempt is acknowledged; its SOF fell at `sec`, `ns` of TB_PLANT. -/
def txAcked (sec ns tdcv : Nat) (c : Core) : Core :=
  match c.can.cur with
  | none => c
  | some o =>
    let c1 := canState (((((tdcMeasure o tdcv (txFrame o c)).cntWrap F.CAN_CNT.TXOK).wr F.CAN_ERRCNT.NOACK 0).wrB F.CAN_STAT.ALONE false).wr
      F.CAN_ERRCNT.TEC (c.rd F.CAN_ERRCNT.TEC - 1))
    let c2 := c1.raise 105 o o
    let c3 := if o = 32 then
        let q := (c2.can.refCur.map Prod.fst).getD 0
        ((({ c2 with
          can := { c2.can with
            ref := if c2.can.ref.map Prod.fst = some q then none else c2.can.ref
            refAck := some (q, sec, ns, c2.on F.PTP_STAT.LOCK) } } : Core).wr F.CAN_TM_TS_NS.NS ns).wr F.CAN_TM_TS_S_LO.S sec).wr F.CAN_TM_TS_S_HI.S (sec / 2 ^ 32)
      else (c2.wrB (F.CAN_OBJ_CFG.TXREQ o) false).wrB (F.CAN_OBJ_STAT.TXDONE o) true
    txStart { c3 with can := { c3.can with cur := none, abort := false } }

/-- The running attempt ends unsent: an aborted object is no longer pending, and the next attempt starts. -/
def txFailed (c : Core) : Core :=
  match c.can.cur with
  | none => c
  | some o =>
    let c1 := if c.can.abort && decide (o < 32) then c.wrB (F.CAN_OBJ_CFG.TXREQ o) false else c
    txStart { c1 with can := { c1.can with cur := none, abort := false } }

/-- R479: the running attempt ends in an acknowledgement error. -/
def txNoAck (tdcv : Nat) (c : Core) : Core :=
  match c.can.cur with
  | none => c
  | some o =>
    let c1 := (tdcMeasure o tdcv (txFrame o c)).wr F.CAN_STAT.LEC 3
    let c2 := if c1.rd F.CAN_STAT.EST = 0 then canState (c1.wr F.CAN_ERRCNT.TEC (c1.rd F.CAN_ERRCNT.TEC + 8)) else c1
    let c3 := c2.cntSat F.CAN_ERRCNT.NOACK
    let c4 := if 32 ≤ c3.rd F.CAN_ERRCNT.NOACK && !c3.on F.CAN_STAT.ALONE then
        ((c3.wrB F.CAN_STAT.ALONE true).wrB F.CAN_STAT.ALONESEEN true).raise 106 0 (4 + c3.rd F.CAN_STAT.EST)
      else c3
    txFailed c4

/-- R478: a bit, stuff, form or CRC error: `lec` its kind; of the module's own attempt, or of a frame it receives; `heavy`: the
standard raises REC by 8. -/
def canBusError (lec : Nat) (own heavy : Bool) (c : Core) : Core :=
  if c.on F.CAN_CTRL.INIT || c.rd F.CAN_STAT.EST == 2 then c else
    let c1 := c.wr F.CAN_STAT.LEC lec
    if own then
      match c1.can.cur with
      | none => c1
      | some o => txFailed (canState ((txFrame o c1).wr F.CAN_ERRCNT.TEC (min 511 (c1.rd F.CAN_ERRCNT.TEC + 8))))
    else canState (c1.wr F.CAN_ERRCNT.REC (min 255 (c1.rd F.CAN_ERRCNT.REC + (if heavy then 8 else 1))))

/-- R478: the controller reaches bus-off, which takes a TEC of 256. -/
def busOff (c : Core) : Core :=
  if c.rd F.CAN_ERRCNT.TEC < 256 ∨ c.rd F.CAN_STAT.EST = 2 then c else
    let c1 := (((c.wr F.CAN_STAT.EST 2).wrB F.CAN_STAT.BOFFSEEN true).cntSat F.CAN_CNT2.BOFFCNT).raise 106 0 2
    { c1 with can := { c1.can with cur := none, abort := false, recover := c1.on F.CAN_CTRL.AUTOREC } }

/-- R478: bus-off recovery completes. -/
def busOffRecovery (c : Core) : Core :=
  if c.rd F.CAN_STAT.EST ≠ 2 ∨ !c.can.recover then c else
    let c1 := ((c.wr F.CAN_ERRCNT.TEC 0).wr F.CAN_ERRCNT.REC 0).wr F.CAN_STAT.EST 0
    txStart (({ c1 with can := { c1.can with recover := false } } : Core).raise 106 0 0)

/-- R472, R478: INIT is written 1: off the bus. -/
def canInitSet (c : Core) : Core :=
  let c1 := c.wrB F.CAN_CTRL.INIT true
  { c1 with can := { c1.can with cur := none, abort := false } }

/-- The word of `CAN_NBT`. -/
def Core.nbtWord (c : Core) : Nat := c.wordOf [F.CAN_NBT.NBRP, F.CAN_NBT.NTSEG1, F.CAN_NBT.NTSEG2, F.CAN_NBT.NSJW]

/-- The word of `CAN_DBT`. -/
def Core.dbtWord (c : Core) : Nat := c.wordOf [F.CAN_DBT.DBRP, F.CAN_DBT.DTSEG1, F.CAN_DBT.DTSEG2, F.CAN_DBT.DSJW, F.CAN_DBT.TDCO]

/-- R472: INIT is written 0: the bit timing loads and the controller joins the bus; after a bus-off, recovery starts (R478). -/
def canInitRelease (c : Core) : Core :=
  if !c.on F.CAN_CTRL.INIT then c else
    let c1 := c.wrB F.CAN_CTRL.INIT false
    txStart { c1 with can := { c1.can with nbt := c1.nbtWord, dbt := c1.dbtWord, recover := c1.can.recover || c1.rd F.CAN_STAT.EST == 2 } }

/-! ### Receiving -/

/-- R474, R475: a frame is stored in an unlocked object. -/
def objTake (o : Nat) (f : CanFrame) (c : Core) : Core :=
  let c0 := if c.on (F.CAN_OBJ_STAT.NEW o) then (c.wrB (F.CAN_OBJ_STAT.LOST o) true).cntSat F.CAN_CNT2.LOSTCNT else c
  let c1 := ((((c0.wrB (F.CAN_OBJ_STAT.NEW o) true).wr (F.CAN_OBJ_STAT.RDLC o) f.dlc).wrB (F.CAN_OBJ_STAT.RFDF o) f.fdf).wrB
    (F.CAN_OBJ_STAT.RBRS o) f.brs).wrB (F.CAN_OBJ_STAT.RESI o) f.esi
  (objStore o (f.data.take (dlcBytes f.fdf f.dlc)) (c1.wr (F.CAN_OBJ_TS.TS o) c1.tbTick)).raise 104 o o

/-- R475: a frame for an object. -/
def objOffer (o : Nat) (f : CanFrame) (c : Core) : Core :=
  if !c.on (F.CAN_OBJ_CFG.LOCK o) then objTake o f c
  else
    let c1 := if c.on (F.CAN_OBJ_STAT.SHADOW o) then (c.wrB (F.CAN_OBJ_STAT.LOST o) true).cntSat F.CAN_CNT2.LOSTCNT else c
    ({ c1 with can := { c1.can with shadow := Tab.put none c1.can.shadow o (some f) } } : Core).wrB (F.CAN_OBJ_STAT.SHADOW o) true

/-- R474: a receive object takes a frame. -/
def Core.objMatch (c : Core) (f : CanFrame) (o : Nat) : Bool :=
  c.on (F.CAN_OBJ_CFG.EN o) && !c.on (F.CAN_OBJ_CFG.DIR o) && c.on (F.CAN_OBJ_CFG.XTD o) == f.xtd &&
    Nat.land (Nat.xor f.id (canId f.xtd (c.rd (F.CAN_OBJ_ID.ID o)))) (canId f.xtd (c.rd (F.CAN_OBJ_MASK.MASK o))) == 0

/-- R474: a frame is received without error. The attempt it beat in arbitration is chosen anew. -/
def canReceive (f : CanFrame) (c : Core) : Core :=
  if c.on F.CAN_CTRL.INIT || c.rd F.CAN_STAT.EST == 2 || (f.fdf && !c.on F.CAN_CTRL.FDEN) then c else
    let r := c.rd F.CAN_ERRCNT.REC
    let c1 := canState (c.wr F.CAN_ERRCNT.REC (if 127 < r then 127 else r - 1))
    let c2 := if f.remote then c1 else
      let c3 := c1.cntWrap F.CAN_CNT.RXOK
      match (upTo 32).find? (c3.objMatch f) with
      | some o => objOffer o f c3
      | none => c3.cntSat F.CAN_CNT2.NOMATCH
    txFailed c2

/-- R475: LOCK of an object is written. -/
def objLock (o : Nat) (v : Bool) (c : Core) : Core :=
  let c1 := c.wrB (F.CAN_OBJ_CFG.LOCK o) v
  match v, Tab.get none c1.can.shadow o with
  | false, some f =>
    objTake o f (({ c1 with can := { c1.can with shadow := Tab.put none c1.can.shadow o none } } : Core).wrB (F.CAN_OBJ_STAT.SHADOW o) false)
  | _, _ => c1

/-! ### The time master and BAL's objects -/

/-- R480, R481: a reference message is made due. -/
def refDue (c : Core) : Core :=
  if !c.on F.CAN_TM_CFG.EN || c.standby then c else
    let prev := c.rd F.CAN_TM_STAT.SEQ
    let c1 := (if c.can.ref.isSome then c.cntSat F.CAN_TM_STAT.REPL else c).wr F.CAN_TM_STAT.SEQ (prev + 1)
    let alone := 4 * b2n (c.on F.CAN_STAT.ALONE)
    let body := match c.can.refAck with
      | some (q, s, n, l) =>
        if q = prev && c.can.ref.isNone then
          [1 + 2 * b2n l + alone, s % 256, s / 256 % 256, n % 256, n / 256 % 256, n / 65536 % 256, n / 16777216 % 256]
        else [alone, 0, 0, 0, 0, 0, 0]
      | none => [alone, 0, 0, 0, 0, 0, 0]
    let q := c1.rd F.CAN_TM_STAT.SEQ
    txStart { c1 with can := { c1.can with ref := some (q, q :: body) } }

/-- R477: BAL takes objects 30 and 31 when `BAL_COOL_CAN.EN` becomes 1. -/
def balObjects (c : Core) : Core :=
  if !c.on F.BAL_COOL_CAN.EN then { c with can := { c.can with bal := false } }
  else if c.can.bal then c
  else
    let x := c.rd F.BAL_COOL_CAN.XTD
    let id := canId (x == 1) (c.rd F.BAL_COOL_CAN.ID)
    let c1 := (((((((c.wr (F.CAN_OBJ_CFG.EN 31) 1).wr (F.CAN_OBJ_CFG.DIR 31) 1).wr (F.CAN_OBJ_CFG.XTD 31) x).wr (F.CAN_OBJ_CFG.FDF 31) 1).wr
      (F.CAN_OBJ_CFG.BRS 31) (c.rd F.CAN_CTRL.BRSEN)).wr (F.CAN_OBJ_CFG.DLC 31) 8).wr (F.CAN_OBJ_ID.ID 31) id).wr (F.CAN_OBJ_CFG.EN 30) 1
    let c2 := (((c1.wr (F.CAN_OBJ_CFG.DIR 30) 0).wr (F.CAN_OBJ_CFG.XTD 30) x).wr (F.CAN_OBJ_ID.ID 30) (canId (x == 1) (id + 1))).wr (F.CAN_OBJ_MASK.MASK 30) 536870911
    { c2 with can := { c2.can with bal := true } }

/-- R161, R477: the cooling message goes to object 31. -/
def coolSend (data : List Nat) (c : Core) : Core := txReq 31 (objStore 31 data (balObjects c))

/-- R476, R477: a host write to an object's register is discarded: one of BAL's objects; configuration, ID or data of a
transmit object with TXREQ; data of a receive object. -/
def Core.canRefuses (c : Core) (off : Nat) : Option Nat :=
  if off < 0x50200 ∨ 0x50e00 ≤ off then none else
    let o := (off - 0x50200) / 96
    let x := (off - 0x50200) % 96
    if c.balOwns o then some o
    else if c.on (F.CAN_OBJ_CFG.DIR o) then (if c.on (F.CAN_OBJ_CFG.TXREQ o) ∧ (x < 8 ∨ 32 ≤ x) then some o else none)
    else if 32 ≤ x then some o else none

end Sys2Proof.Machine
end

