-- ==== Sys2Proof/Machine/Saf.lean ====
section
/-! DEFINITION. The safety channels A and B and their functions SF-1 to SF-6 (R309 to R335), and the SAFM mirror (R336 to
R339). A pair of the channels' state and the resettable part is `SC`. -/

namespace Sys2Proof.Machine

/-- The safety channels beside the resettable part they reach through the gate-off lines and SAFM. -/
abbrev SC := SafSt × Core

/-! ### The active parameter set (R331) -/

/-- A word of the active set, from the copy of a channel that runs. -/
def SafSt.w (s : SafSt) (i : Nat) : Nat := Tab.get 0 (if bitAt s.faulty 0 then s.actB else s.act) i

/-- The mode of input `k`. -/
def SafSt.mode (s : SafSt) (k : Nat) : Nat := bitsAt (s.w (8 + k)) 0 2

/-- T_F of input `k` in samples of 250 µs. -/
def SafSt.tf (s : SafSt) (k : Nat) : Nat := 4 * bitsAt (s.w (8 + k)) 2 6

/-- T_D of input `k` in ms. -/
def SafSt.td (s : SafSt) (k : Nat) : Nat := bitsAt (s.w (8 + k)) 8 11

/-- The outputs that SF-1 de-energises for input `k`. -/
def SafSt.mask1 (s : SafSt) (k : Nat) : Nat := bitsAt (s.w (8 + k)) 24 6

/-- The role of output `k`: 0 unused, 1 main, 2 upstream release, 3 precharge. -/
def SafSt.role (s : SafSt) (k : Nat) : Nat := bitsAt (s.w (16 + k)) 0 2

/-- T_CF of output `k` in ms. -/
def SafSt.tcf (s : SafSt) (k : Nat) : Nat := bitsAt (s.w (16 + k)) 4 9

/-- Contactor feedback of output `k` is enabled. -/
def SafSt.cfOn (s : SafSt) (k : Nat) : Bool := bitAt (s.w (16 + k)) 13

/-- T_DEG in s. -/
def SafSt.tdeg (s : SafSt) : Nat := bitsAt (s.w 1) 0 12

/-- RSTMODE. -/
def SafSt.rstMode (s : SafSt) : Bool := bitAt (s.w 2) 0

/-- Input `k` as the channels see it. -/
def SafSt.i (s : SafSt) (k : Nat) : SafIn := Tab.get {} s.inp k

/-- Output `k`. -/
def SafSt.o (s : SafSt) (k : Nat) : SafOut := Tab.get {} s.out k

/-- Change one input. -/
def SafSt.setI (s : SafSt) (k : Nat) (f : SafIn → SafIn) : SafSt := { s with inp := Tab.upd {} s.inp k f }

/-- Change one output. -/
def SafSt.setO (s : SafSt) (k : Nat) (f : SafOut → SafOut) : SafSt := { s with out := Tab.upd {} s.out k f }

/-- A mask from a test on each of `n` bits. -/
def maskOf (n : Nat) (f : Nat → Bool) : Nat := sumN ((upTo n).map (fun k => if f k then 2 ^ k else 0))

/-- An output is energised when both of its switches are on. -/
def SafOut.on (o : SafOut) : Bool := o.p && o.m

/-- A channel runs: it is not faulty. -/
def SafSt.runs (s : SafSt) (ch : Nat) : Bool := !bitAt s.faulty ch

/-- R310, R320: the gate-safe readback of every channel that runs shows safe. -/
def SafSt.gatesSafe (s : SafSt) : Bool := (!s.runs 0 || s.gsafe) && (!s.runs 1 || s.gsafeB)

/-- R326: CF at a channel indicates open. -/
def SafSt.cfOpen (s : SafSt) (k : Nat) (lv : Bool) : Bool := lv != bitAt (s.w (16 + k)) 14

/-- CF of output `k` indicates open at every running channel. -/
def SafSt.cfo (s : SafSt) (k : Nat) : Bool :=
  (!s.runs 0 || s.cfOpen k (s.o k).cfA) && (!s.runs 1 || s.cfOpen k (s.o k).cfB)

/-- The outputs of role main or precharge, and with `up` those of role upstream. -/
def SafSt.allOuts (s : SafSt) (up : Bool) : Nat := maskOf 6 (fun k => s.role k == 1 || s.role k == 3 || (up && s.role k == 2))

/-! ### Demands (R316, R318, R322) -/

/-- R322, R323: input `k` of mode 0b01 or 0b10 is in demand. -/
def SafSt.inDemand (s : SafSt) (k : Nat) : Bool :=
  (s.mode k == 1 || s.mode k == 2) &&
    ((s.runs 0 && !(s.i k).fa) || (s.runs 1 && !(s.i k).fb) || (s.i k).disc || (s.i k).inf != 0)

/-- The limit count of SF-3 or SF-4. -/
def SafSt.nLim (s : SafSt) (word : Nat) : Nat := bitsAt (s.w word) 16 4

/-- A channel's count has reached its limit. -/
def hasRun (s : SafSt) (cnt : List Nat) (n : Nat) : Bool := (upTo 2).any (fun ch => s.runs ch && decide (n ≤ cnt.getD ch 0) && decide (0 < n))

/-- R327: a weld is latched on some output. -/
def SafSt.weld (s : SafSt) : Bool := (upTo 6).any (fun k => (s.o k).fault == 6)

/-- R100, R316: the tone calls for SF-2: it is at neither port, or since power-on it has not been at both yet. -/
def LineSt.noTone (l : LineSt) : Bool := !l.seen || (!l.toneA && !l.toneB)

/-- R316: the functions SF-1 to SF-5 in demand, bit j - 1, with the tone of the two ports. -/
def SafSt.demands (s : SafSt) (l : LineSt) : Nat :=
  if !s.conf then 0 else
    b2n ((upTo 8).any s.inDemand) + 2 * b2n l.noTone + 4 * b2n (s.out3 || hasRun s s.n3 (s.nLim 3))
      + 8 * b2n (s.out4 || hasRun s s.n4 (s.nLim 4)) + 16 * b2n s.weld

/-- R316: the outputs that the functions of a mask de-energise. -/
def SafSt.affected (s : SafSt) (dem : Nat) : Nat :=
  let m1 := (upTo 8).foldl (fun m k => if bitAt dem 0 && s.inDemand k then Nat.lor m (s.mask1 k) else m) 0
  let m2 := if bitAt dem 1 || bitAt dem 2 || bitAt dem 3 then s.allOuts false else 0
  Nat.lor (Nat.lor m1 m2) (if bitAt dem 4 then s.allOuts true else 0)

/-- R318 step 3: a channel turns off its switches of the outputs in a mask; the survivor of degraded mode drives both. -/
def dropSwitches (ch mask : Nat) (s : SafSt) : SafSt :=
  forUp 6 (fun k s => if bitAt mask k then
      s.setO k (fun o => { o with p := o.p && !(ch == 0 || s.deg), m := o.m && !(ch == 1 || s.deg) }) else s) s

/-- R318: a channel asserts its gate-off line, de-energises what it drives, and arms the restart interlock. -/
def channelAct (ch mask : Nat) (x : SC) : SC :=
  let s := { x.1 with gate := Nat.lor x.1.gate (2 ^ ch), rst := true, req := clearBits x.1.req mask, held := clearBits x.1.held mask }
  (dropSwitches ch mask s, gateLine ch true x.2)

/-- R318: the channels of a mask act on outputs. -/
def channelsAct (chs mask : Nat) (x : SC) : SC :=
  forUp 2 (fun ch x => if bitAt chs ch && x.1.runs ch then channelAct ch mask x else x) x

/-- R316, R318: the functions in demand act in the channels of a mask; a function newly in demand is reported (R318). -/
def demandAct (chs : Nat) (l : LineSt) (x : SC) : SC :=
  let d := x.1.demands l
  let new := clearBits d x.1.dem
  let y : SC := if d = 0 then x else channelsAct chs (x.1.affected d) x
  let c := forUp 5 (fun j c => if bitAt new j then c.raise 72 0 (j + 1) else c) y.2
  ({ y.1 with dem := d }, c)

/-! ### Faults, degraded mode, safe state (R313, R315, R328) -/

/-- R337: the last fault code of a channel, with its event. -/
def recordFault (ch code : Nat) (x : SC) : SC :=
  (if ch = 0 then { x.1 with diagA := code } else { x.1 with diagB := code }, x.2.raise 73 ch code)

/-- R312, R313: a mismatch between the channels waits 10 ms for a test that attributes it to one of them. -/
def mismatch (code : Nat) (s : SafSt) : SafSt := if s.mis.any (fun m => m.1 == code) then s else { s with mis := s.mis ++ [(code, 0)] }

/-- R313, R315: a two-channel fault leads to the safe state. -/
def twoFault (code : Nat) (x : SC) : SC :=
  let y := recordFault 1 code (recordFault 0 code x)
  ({ y.1 with safeDue := true }, y.2)

/-- R313: a mismatch that no test has attributed within 10 ms is a two-channel fault. -/
def misDue (x : SC) : SC :=
  let due := x.1.mis.filter (fun m => decide (10 ≤ m.2))
  due.foldl (fun x m => twoFault m.1 x) ({ x.1 with mis := x.1.mis.filter (fun m => decide (m.2 < 10)) }, x.2)

/-- R313, R315, R328: a fault attributed to a channel that runs, which answers for what mismatches wait, starts degraded mode or leads to the safe state. -/
def singleFault (ch code : Nat) (l : LineSt) (x : SC) : SC :=
  if !x.1.runs ch then x else
  let y := recordFault ch code x
  let s := { y.1 with faulty := Nat.lor y.1.faulty (2 ^ ch), mis := [] }
  if s.safe then (s, y.2)
  else if !s.conf || s.tdeg == 0 || x.1.demands l != 0 || s.deg then ({ s with safeDue := true }, y.2)
  else
    let c := { y.2 with cnv := { y.2.cnv with deg := true, degNew := true } }
    ({ s with deg := true, degCh := 1 - ch, degAge := 0 }, c.raise 74 0 (1 - ch))

/-- R315, R316, R328: the safe state: every output of every role is de-energised in the order of R318, in every channel that still runs, the
restart interlock is armed (SF-6) and SAFE latches; it ends degraded mode. -/
def safeEnter (x : SC) : SC :=
  if x.1.safe then x else
    let y := channelsAct 3 63 x
    let s := forUp 6 (fun k s => s.setO k (fun o => { o with p := false, m := false })) y.1
    let c := { y.2 with cnv := { y.2.cnv with deg := false, degNew := false } }
    ({ s with safe := true, safeDue := false, rst := true, req := 0, held := 0, deg := false }, c.raise 75 0 1)

/-- R315: the safe state is entered where it is due. -/
def safeWhenDue (x : SC) : SC := if x.1.safeDue then safeEnter x else x

/-- R318 step 2: the readback of a channel's asserted line has not shown safe within 1 ms. -/
def readbackTimeout (ch : Nat) (l : LineSt) (x : SC) : SC :=
  if bitAt x.1.gate ch then singleFault ch 11 l x else x

/-- R328: 5 s into degraded mode the survivor asserts its line. -/
def degradedGate (x : SC) : SC :=
  if x.1.deg && decide (5000 ≤ x.1.degAge) then
    ({ x.1 with gate := Nat.lor x.1.gate (2 ^ x.1.degCh) }, gateLine x.1.degCh true x.2)
  else x

/-- R328: T_DEG has passed. -/
def degradedEnd (x : SC) : SC :=
  if x.1.deg && decide (1000 * x.1.tdeg ≤ x.1.degAge) then safeEnter x else x

/-! ### Inputs (R319, R321 to R323) -/

/-- R321: one sample of one channel: the state it holds, the count of the other state, the new sample, and T_F in samples. -/
def filterStep (tf : Nat) (st : Bool) (n : Nat) (sample : Bool) : Bool × Nat :=
  if sample == st then (st, 0) else if tf ≤ n + 1 then (sample, 0) else (st, n + 1)

/-- R321: the pin shows the permit state: high for contacts, low for a reset button. -/
def permitPin (mode : Nat) (pin : Bool) : Bool := if mode = 3 then !pin else pin

/-- R321, R322: the channels sample input `k`; excluded samples count for nothing. -/
def sampleInput (k : Nat) (a b exA exB : Bool) (s : SafSt) : SafSt :=
  let m := s.mode k
  if m = 0 then s else
    s.setI k (fun i =>
      let ra := if exA then (i.fa, i.ca) else filterStep (s.tf k) i.fa i.ca (permitPin m a)
      let rb := if exB then (i.fb, i.cb) else filterStep (s.tf k) i.fb i.cb (permitPin m b)
      let both := !ra.1 && !rb.1
      let clear := i.clr == 1 && ra.1 && rb.1
      { i with
        fa := ra.1, ca := ra.2, fb := rb.1, cb := rb.2
        clr := if both then 1 else if clear then 0 else i.clr
        dt := if ra.1 == rb.1 then 0 else i.dt
        disc := i.disc && !clear
        cut := i.cut || !both
        seq := i.seq || (clear && i.inf != 0) })

/-- R319: the conditions of a reset. -/
def SafSt.resetOk (s : SafSt) (l : LineSt) : Bool :=
  s.demands l == 0 && !s.safe && (upTo 8).all (fun k => !(s.i k).disc && (s.i k).inf == 0) && (upTo 6).all (fun k => (s.o k).fault == 0)

/-- R328: the line that the survivor holds from 5 s into degraded mode. -/
def SafSt.heldLine (s : SafSt) : Nat := if s.deg && decide (5000 ≤ s.degAge) then 2 ^ s.degCh else 0

/-- R319, R328: a reset clears the restart interlock and releases both gate-off lines, but for the one that a survivor holds. -/
def safReset (l : LineSt) (x : SC) : SC :=
  if x.1.resetOk l then
    ({ x.1 with rst := false, gate := x.1.heldLine },
      forUp 2 (fun ch c => if bitAt x.1.heldLine ch then c else gateLine ch false c) x.2)
  else x

/-- R319: a reset button seen closed by both for 100 ms to 3 s at a stretch and now open at both. -/
def SafSt.buttonDone (s : SafSt) : Bool :=
  (upTo 8).any (fun k => s.mode k == 3 && (s.i k).fa && (s.i k).fb && decide (100 ≤ (s.i k).btn) && decide ((s.i k).btn ≤ 3000))

/-- The counts of released buttons start anew. -/
def clearButtons (s : SafSt) : SafSt :=
  forUp 8 (fun k s => if s.mode k = 3 ∧ (s.i k).fa ∧ (s.i k).fb then s.setI k (fun i => { i with btn := 0 }) else s) s

/-- R321: the samples of 250 µs: pins of A and B (bit high), excluded pins. -/
def inputSample (a b exA exB : Nat) (l : LineSt) (x : SC) : SC :=
  if !x.1.conf then x else
    let s := forUp 8 (fun k s => sampleInput k (bitAt a k) (bitAt b k) (bitAt exA k) (bitAt exB k) s) x.1
    let seesA := (upTo 8).any (fun k => s.inDemand k && (!(s.i k).fa || (s.i k).disc || (s.i k).inf != 0))
    let seesB := (upTo 8).any (fun k => s.inDemand k && (!(s.i k).fb || (s.i k).disc || (s.i k).inf != 0))
    let y : SC := if seesA || seesB then demandAct (b2n seesA + 2 * b2n seesB) l (s, x.2) else ({ s with dem := Nat.land s.dem (s.demands l) }, x.2)
    let done := y.1.buttonDone
    let z : SC := (clearButtons y.1, y.2)
    if done then safReset l z else z

/-- R322: the disagreement of an input has lasted T_D. -/
def discrepancy (k : Nat) (l : LineSt) (x : SC) : SC :=
  if x.1.conf && x.1.mode k != 0 && decide (x.1.td k ≤ (x.1.i k).dt) then
    demandAct 3 l (x.1.setI k (fun i => { i with disc := true, clr := 0 }), x.2)
  else x

/-- R323: what one pulse of a side shows for an input: its own-side pin stays high, the other pin goes low, the supply fails its readback. -/
def pulseShows (own other otherHigh rbOk : Bool) : List Bool := [rbOk && own, otherHigh && !other, !rbOk]

/-- R323: the pulses of a side in a row that showed each observation. -/
def pulseCounts (side : Nat) (shows : List Bool) (t : Tab Nat) : Tab Nat :=
  forUp 3 (fun k t => Tab.put 0 t (3 * side + k) (if shows.getD k false then Tab.get 0 t (3 * side + k) + 1 else 0)) t

/-- R323: the cause that two pulses in a row of one side have shown. -/
def pulseCause (side : Nat) (t : Tab Nat) : Nat :=
  let two := fun (k : Nat) => decide (2 ≤ Tab.get 0 t (3 * side + k))
  if two 2 then 3 else if two 0 then 1 else if two 1 then 2 else 0

/-- R310, R323: a test pulse of TPA (side 0) or TPB (side 1), with the pins 250 µs into it; `rb` the channels, bit by bit, that read the line
itself still high. -/
def testPulse (side a b rb : Nat) (l : LineSt) (x : SC) : SC :=
  if !x.1.conf then x else
    let step := fun (k : Nat) (s : SafSt) =>
      if s.mode k = 1 ∨ s.mode k = 3 then
        s.setI k (fun i =>
          let own := if side = 0 then bitAt a k else bitAt b k
          let other := if side = 0 then bitAt b k else bitAt a k
          let oHigh := permitPin (s.mode k) (if side = 0 then i.fb else i.fa)
          let shows := pulseShows own other oHigh (rb == 0)
          let bad := pulseCounts side shows i.bad
          let cs := pulseCause side bad
          { i with
            bad := bad, good := if shows.any (fun b => b) then 0 else i.good + 1
            inf := if i.inf == 0 then cs else i.inf
            seq := if i.inf == 0 && cs != 0 then false else i.seq })
      else s
    demandAct 3 l (forUp 8 step x.1, x.2)

/-! ### Outputs (R320, R324 to R327) -/

/-- R316, R318, R325: a switch fault latches its cause and de-energises all outputs of role main or precharge under R318; a new one is
reported (notes/assumptions/28). -/
def outputFault (k cause : Nat) (x : SC) : SC :=
  if x.1.conf then
    let new := (x.1.o k).fault == 0
    let y := channelsAct 3 (x.1.allOuts false) (x.1.setO k (fun o => { o with fault := if new then cause else o.fault, clean := 0 }), x.2)
    (y.1, y.2.when new (fun c => c.raise 72 k (16 + cause)))
  else x

/-- R325, R327: one output is de-energised alone. -/
def outputDrop (k cause : Nat) (s : SafSt) : SafSt :=
  let s1 := s.setO k (fun o => { o with fault := if o.fault = 0 then cause else o.fault, p := false, m := false, clean := 0, wrong := 0 })
  { s1 with req := clearBits s1.req (2 ^ k) }

/-- R325: an off-pulse, or the readback of a de-energised output, of a switch (0 P, 1 M). -/
def offPulse (k side : Nat) (bad : Bool) (x : SC) : SC := if bad then outputFault k (if side = 0 then 1 else 3) x else x

/-- R325: 5 ms in current limit. -/
def currentLimit (k side : Nat) (x : SC) : SC := outputFault k (if side = 0 then 2 else 4) x

/-- R325: open load. -/
def openLoad (k : Nat) (x : SC) : SC := if (x.1.o k).on then (outputDrop k 5 x.1, x.2) else x

/-- R327: a weld latches, and SF-5 acts. -/
def weldLatch (k : Nat) (l : LineSt) (x : SC) : SC :=
  demandAct 3 l (x.1.setO k (fun o => { o with fault := 6, wrong := 0, differ := 0, openMs := 0 }), x.2)

/-- R327: CF has contradicted the output, or the channels have read it differently, for T_CF. -/
def cfTimeout (k : Nat) (l : LineSt) (x : SC) : SC :=
  let o := x.1.o k
  if !x.1.conf || !x.1.cfOn k || x.1.role k == 0 then x
  else if x.1.tcf k ≤ o.differ then weldLatch k l x
  else if x.1.tcf k ≤ o.wrong then (if o.on then (outputDrop k 7 x.1, x.2) else weldLatch k l x)
  else x

/-- R320, R557: the conditions to energise output `k`, contactor feedback apart. -/
def SafSt.mayEnergise (s : SafSt) (l : LineSt) (k : Nat) : Bool :=
  s.fed && s.gatesSafe && s.conf && !s.rst && !s.safe && s.diagDone && s.role k != 0 && (s.o k).fault == 0 && !bitAt (s.affected (s.demands l)) k

/-- R320, R327: the request for one output is executed, held or refused. -/
def serveOut (l : LineSt) (k : Nat) (x : SC) : SC :=
  let s := x.1
  let want := bitAt s.req k
  let o := s.o k
  if want == o.on then ({ s with held := setBit s.held k false }, x.2)
  else if want then
    if s.conf && s.cfOn k && s.role k != 0 && !s.cfo k then
      weldLatch k l ({ s with req := setBit s.req k false, held := setBit s.held k false }, x.2)
    else if s.mayEnergise l k then
      ((({ s with held := setBit s.held k false }).setO k (fun o => { o with p := true, m := true, wrong := 0 })), x.2)
    else ({ s with held := setBit s.held k true }, x.2)
  else if s.gatesSafe then ((({ s with held := setBit s.held k false }).setO k (fun o => { o with p := false, m := false, wrong := 0, clean := 0 })), x.2)
  else ({ s with held := setBit s.held k true }, x.2)

/-- R320: the requests are served. -/
def serveOuts (l : LineSt) (x : SC) : SC := forUp 6 (serveOut l) x

/-- A SAFM write restarts the session's age (R334). -/
def safmTouch (s : SafSt) : SafSt := { s with sessAge := 0 }

/-- R320: a write of SAFM_OUTREQ. -/
def outReq (req : Nat) (l : LineSt) (x : SC) : SC :=
  let y := serveOuts l (safmTouch { x.1 with req := req }, x.2.wr F.SAFM_OUTREQ.REQ req)
  (y.1, (y.2.wr F.SAFM_OUTREQ.PEND y.1.held).raise 76 0 y.1.held)

/-! ### Check value and staging (R331 to R333) -/

/-- One bit of CRC-32, reflected polynomial. -/
def crc32Bit (c : Nat) : Nat := if c % 2 = 1 then Nat.xor (c / 2) 3988292384 else c / 2

/-- One byte of CRC-32. -/
def crcByte (c b : Nat) : Nat := times (fun _ x => crc32Bit x) 8 (Nat.xor c b)

/-- One little-endian word of CRC-32. -/
def crcWord (c w : Nat) : Nat := crcByte (crcByte (crcByte (crcByte c (w % 256)) (w / 256 % 256)) (w / 65536 % 256)) (w / 16777216 % 256)

/-- R332: the check value of a set. -/
def safCrc (t : Tab Nat) : Nat := Nat.xor ((upTo 208).foldl (fun c i => crcWord c (Tab.get 0 t i)) 4294967295) 4294967295

/-- R331: an input word is in range. -/
def inWordOk (w : Nat) : Bool :=
  let tf := bitsAt w 2 6
  let td := bitsAt w 8 11
  bitsAt w 19 5 == 0 && bitsAt w 30 2 == 0 &&
    (w % 4 == 0 || (decide (1 ≤ tf) && decide (tf ≤ 50) && decide (10 ≤ td) && decide (td ≤ 2000)))

/-- R331: an output word is in range. -/
def outWordOk (w : Nat) : Bool :=
  let t := bitsAt w 4 9
  bitsAt w 2 2 == 0 && bitsAt w 15 17 == 0 && (w % 4 == 0 || (decide (10 ≤ t) && decide (t ≤ 500)))

/-- R331: a limit word of SF-3 or SF-4 is in range. -/
def limWordOk (w : Nat) : Bool := bitsAt w 20 12 == 0 && decide (1 ≤ bitsAt w 16 4) && decide (bitsAt w 16 4 ≤ 10)

/-- R331: a word of a set is in range. -/
def safWordOk (i w : Nat) : Bool :=
  if i = 0 then w == 13631489
  else if i = 1 then decide (w ≤ 3600)
  else if i = 2 then decide (w ≤ 1)
  else if i = 3 ∨ i = 4 then limWordOk w
  else if i < 8 then true
  else if i < 16 then inWordOk w
  else if i < 22 then outWordOk w
  else if i = 22 then true
  else if i = 23 then decide (w < 4096)
  else w == 0

/-- R331: the set may be used. -/
def safSetOk (t : Tab Nat) : Bool := (upTo 24).all (fun i => safWordOk i (Tab.get 0 t i)) && t.all (fun p => decide (p.1 < 24) || p.2 == 0)

/-- R338: the result of a command. -/
def safResult (r : Nat) (x : SC) : SC := ({ x.1 with result := r }, x.2.wr F.SAFM_CMD.RESULT r)

/-- R338: `SAFM_PADDR` shows IDX, `SAFM_PDATA` the staged word there. -/
def pdataShow (x : SC) : SC :=
  (x.1, (x.2.wr F.SAFM_PADDR.IDX x.1.idx).wr F.SAFM_PDATA.DATA (Tab.get 0 x.1.stg x.1.idx))

/-- STAGE: the active set is copied into staging, in each channel. -/
def safStage (x : SC) : SC :=
  pdataShow (safResult 1 (safmTouch { x.1 with stg := x.1.act, stgB := x.1.actB, stgOk := false }, x.2.wr F.SAFM_STAT.STGOK 0))

/-- R338: a staged word, which goes to both channels, unless IDX is beyond the set. -/
def safPdata (v : Nat) (x : SC) : SC :=
  let i := x.1.idx
  if i < 208 then
    pdataShow (safmTouch { x.1 with
      stg := Tab.put 0 x.1.stg i (v % 2 ^ 32), stgB := Tab.put 0 x.1.stgB i (v % 2 ^ 32), stgOk := false, idx := i + 1 },
      x.2.wr F.SAFM_STAT.STGOK 0)
  else (safmTouch x.1, x.2)

/-- R338: IDX is written. -/
def safAddr (i : Nat) (x : SC) : SC := pdataShow (safmTouch { x.1 with idx := i % 256 }, x.2)

/-- R332, R337: the check values that the channels have computed; equal ones make the staged set usable. -/
def safCvSet (va vb : Nat) (x : SC) : SC :=
  let y : SC := (safmTouch { x.1 with cvA := va, cvB := vb, stgOk := va == vb }, x.2)
  if va = vb then safResult 1 (y.1, y.2.raise 78 0 1) else safResult 3 y

/-- R331, R332, R337: COMPUTE: each channel checks its own copy of the staged set and computes the check value over it. Equal sets have equal
values. -/
def safCompute (x : SC) : SC :=
  let s := x.1
  if safSetOk s.stg && safSetOk s.stgB then
    let va := safCrc s.stg
    safCvSet va (if s.stg = s.stgB then va else safCrc s.stgB) x
  else safResult 2 (safmTouch { s with stgOk := false }, x.2)

/-- R335: the log entries of an activation in a channel, newest first; word order within it. -/
def safDiff (act stg : Tab Nat) (path ops pwrcyc : Nat) : List SafLog :=
  ((upTo 208).filter (fun i => Tab.get 0 act i != Tab.get 0 stg i)).foldl
    (fun l i => ⟨i, path, Tab.get 0 act i, Tab.get 0 stg i, ops, pwrcyc⟩ :: l) []

/-- R333, R335: activation at the exchange that takes a confirmation, in each channel from its own copy; the channels compare their logs. -/
def safActivate (a : AonSt) (val : Option Nat) (x : SC) : SC :=
  let s := { x.1 with ask := none }
  let x1 : SC := (s, x.2)
  if !s.stgOk then safResult 6 x1
  else if s.cvA != s.cvB || (match val with | some v => v != s.cvA | none => false) then safResult 3 x1
  else if (upTo 6).any (fun k => (s.o k).on) || !s.gatesSafe then safResult 4 x1
  else
    let path := if val.isSome then 1 else 2
    let y := safResult 1 ({ s with
      conf := true, act := s.stg, actB := s.stgB, path := path, cvAct := s.cvA, cvActB := s.cvB, rst := true
      log := (safDiff s.act s.stg path a.ops a.pwrcyc ++ s.log).take 256
      logB := (safDiff s.actB s.stgB path a.ops a.pwrcyc ++ s.logB).take 256 }, x.2.raise 78 0 (2 + 256 * path))
    if y.1.log = y.1.logB then y else twoFault 4 y

/-- R333: a confirmation value is requested. -/
def safConfirm (v : Nat) (x : SC) : SC := (safmTouch { x.1 with ask := some (some v), confirm := v }, x.2.wr F.SAFM_CONFIRM.CV v)

/-- R334: activation by password. -/
def safPwdAct (x : SC) : SC :=
  if x.1.session then (safmTouch { x.1 with ask := some none }, x.2) else safResult 5 x

/-- R334: the session ends. -/
def safPwdEnd (x : SC) : SC := safResult 1 ({ x.1 with session := false }, x.2)

/-- R334: the password written, as one number of 16 bytes. -/
def SafSt.password (s : SafSt) (w3 : Nat) : Nat := s.pwd.getD 0 0 + 2 ^ 32 * s.pwd.getD 1 0 + 2 ^ 64 * s.pwd.getD 2 0 + 2 ^ 96 * w3

/-- R334: a write of SAFM_PWD3 sets the password or opens a session. -/
def safPassword (w3 : Nat) (x : SC) : SC :=
  let h := Config.hash (x.1.password w3)
  let s := safmTouch { x.1 with pwd := [0, 0, 0] }
  match s.pw with
  | none => ({ s with pw := some h }, x.2)
  | some p =>
    if s.lock then (s, x.2)
    else if h = p then ({ s with session := true, mism := 0 }, x.2)
    else ({ s with mism := s.mism + 1, lock := decide (3 ≤ s.mism + 1), lockAge := 0 }, x.2)

/-- R334: 10 min without a SAFM write. -/
def sessionTimeout (x : SC) : SC := if 600000 ≤ x.1.sessAge then ({ x.1 with session := false }, x.2) else x

/-- R334: the lockout of 10 min ends. -/
def lockoutEnd (x : SC) : SC := if x.1.lock && decide (600000 ≤ x.1.lockAge) then ({ x.1 with lock := false, mism := 0 }, x.2) else x

/-- R323, R325: CLRFLT clears input and output faults whose conditions are met. -/
def safClrFlt (x : SC) : SC :=
  let s1 := forUp 8 (fun k s => if (s.i k).inf ≠ 0 ∧ (s.i k).seq ∧ 2 ≤ (s.i k).good then
    s.setI k (fun i => { i with inf := 0, bad := [], seq := false }) else s) x.1
  let s2 := forUp 6 (fun k s => if (s.o k).fault ≠ 6 ∧ (s.o k).fault ≠ 0 ∧ 200 ≤ (s.o k).clean then
    s.setO k (fun o => { o with fault := 0 }) else s) s1
  safResult 1 (safmTouch s2, x.2)

/-- R319: RST with RSTMODE = 1. -/
def safRstCmd (l : LineSt) (x : SC) : SC :=
  if x.1.rstMode && x.1.resetOk l then safResult 1 (safReset l (safmTouch x.1, x.2)) else safResult 6 (safmTouch x.1, x.2)

/-- R327: CLRWELD. -/
def safClrWeld (x : SC) : SC :=
  let can := fun (s : SafSt) (k : Nat) => (s.o k).fault == 6 && decide (s.tcf k ≤ (s.o k).openMs)
  let any := (upTo 6).any (can x.1)
  let s := forUp 6 (fun k s => if can s k then s.setO k (fun o => { o with fault := 0 }) else s) x.1
  safResult (if any then 1 else 6) (safmTouch s, x.2)

/-! ### Diagnostics and windows (R311, R312, R316, R329) -/

/-- R329: a diagnostic of each channel's own; a failure is attributed to it. -/
def ownDiag (code : Nat) (okA okB : Bool) (l : LineSt) (x : SC) : SC :=
  let y := if okA then x else singleFault 0 code l x
  if okB then y else singleFault 1 code l y

/-- R311: the samples of a pin in a window, at 10 kHz. -/
def winN (pins : List Int) : Nat := max 1 pins.length

/-- R311, R331: the second current in mA, summed over the samples (mV) of a window. -/
def SafSt.toI (s : SafSt) (pins : List Int) : Int := toSigned 16 (s.w 5) * (sumI pins - winN pins * toSigned 16 (s.w 5 / 65536))

/-- R311, R331: the port-B voltage in mV, summed over the samples (mV) of a window. -/
def SafSt.toV (s : SafSt) (pins : List Int) : Int := ((s.w 6 % 65536 : Nat) : Int) * (sumI pins - winN pins * toSigned 16 (s.w 6 / 65536))

/-- R311: a window mean lies in the valid range of an analog pin, 0.5 V to 9.5 V. -/
def pinOk (pins : List Int) : Bool := decide (500 * (winN pins : Int) ≤ sumI pins) && decide (sumI pins ≤ 9500 * (winN pins : Int))

/-- R313: an analog pin out of range at one of the running channels only is that channel's fault. -/
def rangeFault (a b : List Int) (l : LineSt) (x : SC) : SC :=
  let badA := x.1.runs 0 && !pinOk a
  let badB := x.1.runs 1 && !pinOk b
  if badB && !badA then singleFault 1 9 l x else if badA && !badB then singleFault 0 9 l x else x

/-- A window count per channel. -/
def winCount (n : Nat) (out : Bool) : Nat := if out then n + 1 else 0

/-- R312: the means of two windows, given by sums over `na` and `nb` samples, differ by strictly more than a limit. -/
def winDiffer (lim a na b nb : Int) : Bool := decide (lim * na * nb < absI (a * nb - b * na))

/-- R290, R311, R312, R316, R520: a 1 ms window of the analog pins ends (samples in mV); the channels form the means and pass them to PROT as
references once they have had 10 ms of tick markers. -/
def windowEnd (count : Nat) (iA iB vA vB : List Int) (l : LineSt) (x : SC) : SC :=
  if !x.1.conf then x else
    let s := x.1
    let i3 : Int := 1000 * (s.w 3 % 65536 : Nat)
    let v4 : Int := 1000 * (s.w 4 % 65536 : Nat)
    let ia := s.toI iA
    let ib := s.toI iB
    let va := s.toV vA
    let vb := s.toV vB
    let both := s.runs 0 && s.runs 1
    let iDiff := both && winDiffer (1000 * ((s.w 7 % 65536 : Nat) : Int)) ia (winN iA) ib (winN iB)
    let vDiff := both && winDiffer (1000 * ((s.w 7 / 65536 : Nat) : Int)) va (winN vA) vb (winN vB)
    let mia := roundDiv ia (winN iA)
    let mib := roundDiv ib (winN iB)
    let mva := roundDiv va (winN vA)
    let mvb := roundDiv vb (winN vB)
    let s1 := { s with
      n3 := [winCount (s.n3.getD 0 0) (decide (i3 * winN iA < absI ia)), winCount (s.n3.getD 1 0) (decide (i3 * winN iB < absI ib))]
      n4 := [winCount (s.n4.getD 0 0) (decide (v4 * winN vA < va)), winCount (s.n4.getD 1 0) (decide (v4 * winN vB < vb))]
      out3 := both && !pinOk iA && !pinOk iB, out4 := both && !pinOk vA && !pinOk vB
      iBad := if iDiff then s.iBad + 1 else 0, vBad := if vDiff then s.vBad + 1 else 0, vb := [mva, mvb], i2 := [mia, mib] }
    let refs := (if s.runs 0 then [⟨0, count, mva, mia⟩] else []) ++ (if s.runs 1 then [⟨1, count, mvb, mib⟩] else [])
    let c := if x.2.tick.marks < 5000000 then x.2 else (refs.foldl (refArrive x.2.pastCutOff) x.2).moment
    let y := rangeFault vA vB l (rangeFault iA iB l (demandAct 3 l (s1, c)))
    if y.1.iBad = 10 ∨ y.1.vBad = 10 then (mismatch 8 y.1, y.2) else y

/-- R316: the tone lines show no tone at both ports, or do not show it at both yet. -/
def toneDemand (l : LineSt) (x : SC) : SC := if x.1.conf && l.noTone then demandAct 3 l x else x

/-- R337: the state of a channel. -/
def SafSt.chState (s : SafSt) (ch : Nat) : Nat :=
  if !s.runs ch then 3 else if s.safe then 1 else if !s.conf then 2 else 0

/-- The 1 ms timers of the inputs. -/
def inputMs (k : Nat) (s : SafSt) : SafSt :=
  if s.mode k = 0 then s else
    s.setI k (fun i =>
      let dt := if i.fa == i.fb then 0 else i.dt + 1
      { i with
        dt := dt, clr := if decide (s.td k ≤ dt) then 0 else i.clr
        btn := if s.mode k = 3 && !i.fa && !i.fb then (if i.cut then 1 else i.btn + 1) else i.btn
        cut := i.cut && !(s.mode k = 3 && !i.fa && !i.fb) })

/-- The 1 ms timers of the outputs. -/
def outputMs (k : Nat) (s : SafSt) : SafSt :=
  if s.role k = 0 then s.setO k (fun o => { o with clean := o.clean + 1 }) else
    let isOpen := s.cfo k
    s.setO k (fun o =>
      let differ := o.cfA != o.cfB
      { o with
        wrong := if (o.on == isOpen) && !differ then o.wrong + 1 else 0
        differ := if differ then o.differ + 1 else 0
        openMs := if isOpen then o.openMs + 1 else 0
        clean := if o.on then 0 else o.clean + 1 })

/-- The 1 ms timers of the channels. -/
def safMs (s : SafSt) : SafSt :=
  let s1 := forUp 6 outputMs (forUp 8 inputMs s)
  { s1 with
    sessAge := if s.session then s.sessAge + 1 else s.sessAge, lockAge := if s.lock then s.lockAge + 1 else s.lockAge
    degAge := if s.deg then s.degAge + 1 else s.degAge, mis := s.mis.map (fun m => (m.1, m.2 + 1)) }

/-- R339: the window of the change log. -/
def logShow (s : SafSt) (c : Core) : Core :=
  let e := s.logWin
  let c1 := ((((c.wr F.SAFM_LOGSEL.IDX s.logSel).wrB F.SAFM_LOGSEL.LVALID s.logOk).wr F.SAFM_LOG0.WORD e.word).wr F.SAFM_LOG0.PATH e.path).wr
    F.SAFM_LOG1.OLD e.old
  ((((c1.wr F.SAFM_LOG2.NEW e.new).wr F.SAFM_LOG3.OPS e.ops).wr F.SAFM_LOG4.OPSH (e.ops / 2 ^ 32)).wr F.SAFM_LOG5.PWRCYC e.pwrcyc)

/-- R336, R337: the SAFM mirror in SYS. -/
def safMirror (s : SafSt) (c : Core) : Core :=
  let degt := if s.deg then s.tdeg - s.degAge / 1000 else 0
  let c1 := ((((((((((c.wr F.SAFM_STAT.STA (s.chState 0)).wr F.SAFM_STAT.STB (s.chState 1)).wrB F.SAFM_STAT.DEG s.deg).wr F.SAFM_STAT.DEGCH
    (if s.deg then s.degCh else 0)).wrB F.SAFM_STAT.SAFE s.safe).wrB F.SAFM_STAT.RSTREQ s.rst).wr F.SAFM_STAT.CFGPATH s.path).wrB
    F.SAFM_STAT.STGOK s.stgOk).wrB F.SAFM_STAT.GSAFE s.gatesSafe).wr F.SAFM_STAT.DEGT degt).wr F.SAFM_SF.DEM (s.dem + 32 * b2n s.rst)
  let c2 := (((c1.wr F.SAFM_IN.FA (maskOf 8 (fun k => (s.i k).fa))).wr F.SAFM_IN.FB (maskOf 8 (fun k => (s.i k).fb))).wr F.SAFM_IN.DISC
    (maskOf 8 (fun k => (s.i k).disc))).wr F.SAFM_IN.INF (maskOf 8 (fun k => (s.i k).inf != 0))
  let inf := fun (f : Fld) (k : Nat) (c : Core) => c.wr f (s.i k).inf
  let c3 := inf F.SAFM_INFLT.CAUSE7 7 (inf F.SAFM_INFLT.CAUSE6 6 (inf F.SAFM_INFLT.CAUSE5 5 (inf F.SAFM_INFLT.CAUSE4 4
    (inf F.SAFM_INFLT.CAUSE3 3 (inf F.SAFM_INFLT.CAUSE2 2 (inf F.SAFM_INFLT.CAUSE1 1 (inf F.SAFM_INFLT.CAUSE0 0 c2)))))))
  let c4 := (((c3.wr F.SAFM_OUT.ON (maskOf 6 (fun k => (s.o k).on))).wr F.SAFM_OUT.PRB (if s.runs 0 then s.prb else s.prbB)).wr F.SAFM_OUT.MRB (if s.runs 0 then s.mrb else s.mrbB)).wr F.SAFM_OUT.CFO (maskOf 6 s.cfo)
  let ouf := fun (f : Fld) (k : Nat) (c : Core) => c.wr f (s.o k).fault
  let c5 := ouf F.SAFM_OUTFLT.CAUSE5 5 (ouf F.SAFM_OUTFLT.CAUSE4 4 (ouf F.SAFM_OUTFLT.CAUSE3 3 (ouf F.SAFM_OUTFLT.CAUSE2 2
    (ouf F.SAFM_OUTFLT.CAUSE1 1 (ouf F.SAFM_OUTFLT.CAUSE0 0 c4)))))
  let c6 := (((((c5.wr F.SAFM_OUTREQ.REQ s.req).wr F.SAFM_OUTREQ.PEND s.held).wr F.SAFM_CV_A.CV s.cvA).wr F.SAFM_CV_B.CV s.cvB).wr F.SAFM_CV_ACT.CV s.cvAct).wr
    F.SAFM_CMD.RESULT s.result
  let c7 := ((((c6.wr F.SAFM_DIAG.FA s.diagA).wr F.SAFM_DIAG.FB s.diagB).wrS F.SAFM_VB_A.VB (s.vb.getD 0 0)).wrS F.SAFM_VB_B.VB (s.vb.getD 1 0)).wrS F.SAFM_I2_A.I2
    (s.i2.getD 0 0)
  let c8 := ((c7.wrS F.SAFM_I2_B.I2 (s.i2.getD 1 0)).wrB F.SAFM_STAT.TONE1 s.tone1).wr F.SAFM_CONFIRM.CV s.confirm
  logShow s c8

/-- R314: two sources differ by strictly more than 2 %. -/
def clkDiffer (x y : Nat) : Bool := decide (2 * y < 100 * (max x y - min x y))

/-- R314: what channel `ch` finds: 0 no source differs from another, 1 A, 2 B or 3 the CTL marker fails alone, 4 no single one does. -/
def oscVerdict (ch : Nat) (r : SafRead) : Nat :=
  let fails := fun (x y z : Nat) => clkDiffer x y && clkDiffer x z
  let fo := fails r.own r.peer r.mark
  let fp := fails r.peer r.own r.mark
  let fm := fails r.mark r.own r.peer
  let any := clkDiffer r.own r.peer || clkDiffer r.peer r.own || clkDiffer r.own r.mark || clkDiffer r.mark r.own ||
    clkDiffer r.peer r.mark || clkDiffer r.mark r.peer
  if !any then 0
  else if fo && !fp && !fm then 1 + ch
  else if fp && !fo && !fm then 2 - ch
  else if fm && !fo && !fp then 3
  else 4

/-- R314: the oscillator check's verdict. -/
def oscCheck (v : Nat) (l : LineSt) (x : SC) : SC :=
  match v with
  | 1 => singleFault 0 5 l x
  | 2 => singleFault 1 5 l x
  | 4 => twoFault 5 x
  | _ => x

/-- R312: the counts of exchanges in a row in which items differ. -/
def misCounts (n : Nat) (differ : Nat → Bool) (t : Tab Nat) : Tab Nat :=
  forUp n (fun k t => Tab.put 0 t k (if differ k then Tab.get 0 t k + 1 else 0)) t

/-- R312: the channels compare, while both run: the commanded states of each output's switches and the readings of each switch and CF pin,
which must differ in three exchanges in a row, and the check values of their active sets. -/
def compareItems (q : SafXch) (s : SafSt) : SafSt :=
  if !(s.runs 0 && s.runs 1) then { s with cmdBad := [], rbBad := [] } else
    let cmd := misCounts 6 (fun k => (s.o k).p != (s.o k).m) s.cmdBad
    let rb := misCounts 18 (fun i => let k := i % 6
      if i < 6 then bitAt q.a.prb k != bitAt q.b.prb k else if i < 12 then bitAt q.a.mrb k != bitAt q.b.mrb k
      else bitAt q.a.cf k != bitAt q.b.cf k) s.rbBad
    let third := fun (t : Tab Nat) => t.any (fun (x : Nat × Nat) => x.2 == 3)
    let s1 : SafSt := { s with cmdBad := cmd, rbBad := rb }
    let s2 := if third cmd || third rb then mismatch 7 s1 else s1
    if s.conf && s.cvAct != s.cvActB then mismatch 4 s2 else s2

/-- R310, R312: what the channels read reaches their state. -/
def takeReads (q : SafXch) (safe : Bool) (s : SafSt) : SafSt :=
  forUp 6 (fun k s => s.setO k (fun o => { o with cfA := bitAt q.a.cf k, cfB := bitAt q.b.cf k }))
    { s with missing := 0, prb := q.a.prb, prbB := q.b.prb, mrb := q.a.mrb, mrbB := q.b.mrb, gsafe := safe, gsafeB := safe }

/-- R314: each channel that runs makes the oscillator check. -/
def oscChecks (q : SafXch) (l : LineSt) (x : SC) : SC :=
  let y := if x.1.runs 0 then oscCheck (oscVerdict 0 q.a) l x else x
  if y.1.runs 1 then oscCheck (oscVerdict 1 q.b) l y else y

/-- R312 to R314, R320, R333: the exchange of 1 ms. -/
def exchange (q : SafXch) (a : AonSt) (l : LineSt) (x : SC) : SC :=
  let x1 := oscChecks q l (safMs (takeReads q (!x.2.gatesOn) x.1), x.2)
  let x3 := misDue (compareItems q x1.1, x1.2)
  let x4 := demandAct 3 l x3
  let x5 := match x4.1.ask with | some v => safActivate a v x4 | none => x4
  let x6 := serveOuts l x5
  pdataShow (x6.1, safMirror x6.1 x6.2)

/-- R312: an exchange is missing; the third in a row is a two-channel fault. -/
def exchangeMissing (x : SC) : SC :=
  let s := safMs { x.1 with missing := x.1.missing + 1 }
  misDue (if s.missing = 3 ∧ !s.deg then twoFault 6 (s, x.2) else (s, x.2))

/-- R339: an entry of channel A's change log is copied into the window. -/
def logSelect (i : Nat) (x : SC) : SC :=
  let s := safmTouch { x.1 with logSel := i, logOk := decide (i < x.1.log.length), logWin := x.1.log.getD i {} }
  (s, logShow s x.2)

/-- R316: a single-port loss begins, with the tone line of port `port` at loss: TONE1 sets, with its event. -/
def singleLoss (was l : LineSt) (x : SC) : SC :=
  let single := fun (l : LineSt) => l.seen && l.toneA != l.toneB
  let port := b2n l.toneA
  if single l && !single was then ({ x.1 with tone1 := true }, (x.2.wr F.SAFM_STAT.TONE1 1).raise 79 port port) else x

/-- R315, R316, R334: at a power-on of the input the channels start anew with their non-volatile part. -/
def safPowerOn (s : SafSt) : SafSt :=
  { conf := s.conf, act := s.act, actB := s.actB, path := s.path, cvAct := s.cvAct, cvActB := s.cvActB, pw := s.pw, log := s.log, logB := s.logB }

/-- R83, R333, R580: the node comparator words of the active set. -/
def SafSt.nodeWords (s : SafSt) : Nat × Nat := if s.conf then (s.w 22, s.w 23) else (0, 0)

/-- A lift of an effect on the channels: they run whenever the input is there; the resettable part takes its share only
while it is not held in reset. A demand that begins meanwhile is reported afterwards (R318 step 5). -/
def onSaf (f : AonSt → LineSt → SC → SC) (s : State) : State :=
  if s.pwr.vin = .off then s else
    let r := f s.aon s.line (s.saf, s.core)
    if s.pwr.held then { s with saf := { r.1 with dem := Nat.land r.1.dem s.saf.dem } } else { s with saf := r.1, core := r.2 }

end Sys2Proof.Machine
end

