-- ==== Sys2Proof/Machine/Operands.lean ====
section
/-! DEFINITION. The one operand form of the block, a register by its offset (R33 to R49, R546 to R552): which fields stand there,
which master reaches it, what a read returns and what a write does to fields without behaviour of their own. -/

namespace Sys2Proof.Machine

/-! ### Blocks and registers by offset -/

/-- R546: the registers of the block at `off / 0x4000`. -/
def blockRegs : Nat → List RegDef
  | 0 => regsGLB1
  | 1 => regsBLC1
  | 2 => regsTICK1 ++ regsTICK2
  | 3 => regsIRQ1
  | 4 => regsHIF1
  | 5 => regsATU1
  | 6 => regsCHN1
  | 7 => regsMEAS1
  | 8 => regsBAL1
  | 9 => regsIMP1
  | 10 => regsEST1 ++ regsEST2
  | 11 => regsCNV1 ++ regsCNV2
  | 12 => regsCTE1
  | 13 => regsSDM1
  | 14 => regsPROT1
  | 15 => regsSAFM1 ++ regsSAFM2
  | 16 => regsSHF1
  | 17 => regsRED1
  | 18 => regsNET1
  | 19 => regsPTP1
  | 20 => regsCAN1
  | 21 => regsSMB1
  | 22 => regsEVR1
  | 23 => regsUPD1
  | 24 => regsTHM1
  | 25 => regsSVC1
  | _ => []

/-- The blocks that exist. -/
def blockCount : Nat := 26

/-- A register stands at an offset. DESIGN CHOICE (R37, notes/assumptions/42): none stands at an offset that is not naturally aligned. -/
def RegDef.hits (d : RegDef) (off : Nat) : Bool :=
  decide (d.base ≤ off) &&
    (let x := off - d.base
     decide (x / d.stride < d.n) && x % d.stride % d.stride2 == 0 && decide (x % d.stride / d.stride2 < d.n2))

/-- The fields of the register at an offset, none where no register stands (R35, R547). -/
def fieldsIn : List RegDef → Nat → List Fld
  | [], _ => []
  | d :: ds, off => if d.hits off then d.flds.map (fun f => { f with off := f.off + (off - d.base) }) else fieldsIn ds off

/-- The fields of the register at an offset of a normal view. -/
def regAt (off : Nat) : List Fld := fieldsIn (blockRegs (off / 16384)) off

/-- R546: the offset in the normal view of an offset in a block. -/
def normalOff (off : Nat) : Nat := off / 16384 * 16384 + off % 4096

/-- R546: the view that an offset in a block lies in. -/
def aliasOf (off : Nat) : WMode := match off / 4096 % 4 with | 0 => .normal | 1 => .set | 2 => .clear | _ => .toggle

/-- R45: the blocks whose writes are posted. -/
def postedBlock (b : Nat) : Bool := b == 6 || b == 15 || b == 20 || b == 21 || b == 25

/-- R46: the status fields of a posted block. -/
def xstat (b : Nat) : Fld × Fld :=
  if b = 6 then (F.CHN_XSTAT.BUSY, F.CHN_XSTAT.WDROP)
  else if b = 15 then (F.SAFM_XSTAT.BUSY, F.SAFM_XSTAT.WDROP)
  else if b = 20 then (F.CAN_XSTAT.BUSY, F.CAN_XSTAT.WDROP)
  else if b = 21 then (F.SMB_XSTAT.BUSY, F.SMB_XSTAT.WDROP)
  else (F.SVC_XSTAT.BUSY, F.SVC_XSTAT.WDROP)

/-! ### Masters (R19, R36, R549 to R552) -/

/-- The code of a master (R39). -/
def masterCode : Master → Nat
  | .f0 => 0 | .f1 => 1 | .f2 => 2 | .f3 => 3 | .super => 4 | .user => 5 | .svc => 6

/-- R19: a privileged master; the service port is so within a session. -/
def privileged : Master → Bool
  | .f0 => true | .super => true | .svc => true | _ => false

/-- The function number of a master with a view. -/
def viewFn : Master → Option Nat
  | .f1 => some 1 | .f2 => some 2 | .f3 => some 3 | _ => none

/-- The master of a function. -/
def fnMaster (fn : Nat) : Master := match fn with | 1 => .f1 | 2 => .f2 | 3 => .f3 | _ => .f0

/-- R549: the blocks in the slots of a function's view, by slot. -/
def slotBlocks : Nat → List Nat
  | 1 => [0, 2, 4, 7, 8, 9, 10, 11, 12, 13, 14, 15, 16, 17, 19, 22]
  | 2 => [0, 2, 4, 6, 7, 8, 9, 10, 11, 14, 15, 16, 17, 19, 22, 24]
  | 3 => [0, 2, 4, 5, 6, 7, 8, 9, 10, 18, 20, 21, 22, 23, 24, 25]
  | _ => []

/-- R550: a slot of a function is enabled. -/
def Core.slotOn (c : Core) (fn s : Nat) : Bool := bitAt (c.rd (F.BLC_FVIEW.SLOTEN (fn - 1))) s

/-- The index of a value in a list. -/
def indexOf (x : Nat) : List Nat → Option Nat
  | [] => none
  | y :: ys => if x = y then some 0 else (indexOf x ys).map (· + 1)

/-- R551: a CSR offset lies in the normal view of a block in an enabled slot of a function. -/
def Core.fnReaches (c : Core) (fn off : Nat) : Bool :=
  decide (off / 4096 % 4 = 0) &&
    (match indexOf (off / 16384) (slotBlocks fn) with | some s => c.slotOn fn s | none => false)

/-- The CSR offset that an offset of a master names: its own for those that see the whole space, through the slots of its
view for F1 to F3 (R549). -/
def csrOff (m : Master) (off : Nat) : Nat :=
  match viewFn m with
  | some fn => (slotBlocks fn).getD (off / 4096 % 16) 31 * 16384 + off % 4096
  | none => off % 524288

/-- R36: a master may reach an offset of its own. -/
def Core.reaches (c : Core) (m : Master) (off : Nat) : Bool :=
  match viewFn m with
  | some fn => c.slotOn fn (off / 4096 % 16)
  | none => match m with | .svc => c.on F.SVC_STAT.SESSION | _ => true

/-- The number of a view: alias `k` lies at `k * 0x1000`. -/
def viewIndex : WMode → Nat
  | .normal => 0 | .set => 1 | .clear => 2 | .toggle => 3

/-- R38 to R40: a write that is ignored or discarded is counted. -/
def accViol (m : Master) (kind off : Nat) (c : Core) : Core :=
  (((c.cntSat F.GLB_ACCVIOL.COUNT).wr F.GLB_ACCVIOL.MASTER (masterCode m)).wr F.GLB_ACCVIOL.KIND kind).wr F.GLB_ACCVIOL_ADDR.OFFSET off

/-! ### Reads -/

/-- R33, R36: what a master reads of a field. -/
def Core.fieldRead (c : Core) (priv : Bool) (f : Fld) : Nat :=
  match f.acc with
  | .wo => 0
  | .rwp => if priv then c.view f else 0
  | _ => c.view f

/-- The word that a list of fields reads as. -/
def Core.fieldsWord (c : Core) (priv : Bool) (fs : List Fld) : Nat := sumN (fs.map (fun f => c.fieldRead priv f * 2 ^ f.lsb))

/-- R34, R35, R513: what a read of a register returns: zero outside GLB after a failed boot; the words behind the two memory ports of the control engine (R276, R281),
the mirror, or the fields that stand there. -/
def Core.readWord (c : Core) (priv : Bool) (off : Nat) : Nat :=
  let o := normalOff off
  if c.rd F.GLB_BOOT.STAGE = 7 ∧ o / 16384 ≠ 0 then 0
  else if o = F.GLB_STAT.READY.off then c.glbStat
  else if o = F.CTE_DMDATA.DATA.off then c.dmWord (c.view F.CTE_DMADDR.ADDR)
  else if o = F.CTE_PMDATA.DATA.off then (if priv then c.pmWord (c.view F.CTE_PMADDR.ADDR) else 0)
  else c.fieldsWord priv (regAt o)

/-! ### Writes -/

/-- The bits that a word writes to a field. -/
def Fld.bitsOf (f : Fld) (v : Nat) : Nat := v / 2 ^ f.lsb % 2 ^ f.width

/-- R36, R327: a field that only a privileged master writes: one of access RW-P, and the clearing of a weld. -/
def Fld.privOnly (f : Fld) : Bool := f.acc == .rwp || f.key == F.SAFM_CMD.CLRWELD.key

/-- A write of this kind may change a field of this access type (R33, R41, R42). -/
def Fld.takes (f : Fld) (how : WMode) (priv : Bool) : Bool :=
  match f.acc with
  | .ro => false
  | .rw => true
  | .rwp => priv
  | _ => (match how with | .normal => true | _ => false) && (priv || !f.privOnly)

/-- A write that takes effect later is held; the registers that show a held change show it: for topology one made outside OFF (R231), for
PROT one made outside OFF and FAULT (R303), for a context one that waits for its rings (R421), for the parameter shadow a commit (R281). -/
def holdWrite (w : PWrite) (c : Core) : Core :=
  let c1 := { c with wait := c.wait ++ [w] }
  match w.fld.cls with
  | .cnvOff => if c.rd F.CNV_STAT.STATE = 0 then c1 else c1.wr F.CNV_TOPO.PEND 1
  | .protOff => if c.rd F.CNV_STAT.STATE = 0 ∨ c.rd F.CNV_STAT.STATE = 7 then c1 else c1.wr F.PROT_STAT.PEND 1
  | .rings => c1.wr (F.ATU_CFG.PEND ((w.fld.off - 0x14000) / 16)) 1
  | _ => if w.fld.key = F.CTE_PCOMMIT.GO.key ∧ w.how = .normal then c1.wr F.CTE_PCOMMIT.PEND 1 else c1

/-- R17: the blocks in CTL, for which the write cut-off counts. -/
def inCtl (off : Nat) : Bool := let b := off / 16384; b == 2 || b == 11 || b == 12 || b == 13 || b == 14

/-- R44: the low word of a wide value goes to the staging latch, on top of what is staged, or of what the writes made so far leave. -/
def stageLow (f : Fld) (how : WMode) (bits : Nat) (c : Core) : Core :=
  let base := match Tab.get 0 c.stg f.key with | 0 => c.view f | v + 1 => v
  { c with stg := Tab.put 0 c.stg f.key (f.after how base bits % 2 ^ f.width + 1) }

/-- A field whose write takes effect on its own: at once, or held for its instant (R17); a request of MEAS_CFG shows at once
and pends (R119). -/
def placeWrite (m : Master) (f : Fld) (how : WMode) (bits : Nat) (late : Bool) (c : Core) : Core :=
  match f.cls with
  | .imm => c.wr f (f.after how (c.rd f) bits)
  | .cfgReq => (c.wr f (f.after how (c.rd f) bits)).wr F.MEAS_CFG.PEND 1
  | _ => holdWrite ⟨f, bits, how, late && inCtl f.off, m⟩ c

/-- R44: the write of a high word commits the staged low word with it. -/
def placeHigh (m : Master) (f : Fld) (how : WMode) (bits : Nat) (late : Bool) (c : Core) : Core :=
  match (regAt (f.off - 4)).filter (fun g => g.pair == 1) with
  | g :: _ =>
    match Tab.get 0 c.stg g.key with
    | 0 => placeWrite m f how bits late c
    | v + 1 => placeWrite m f how bits late (placeWrite m g .normal v late { c with stg := Tab.put 0 c.stg g.key 0 })
  | [] => placeWrite m f how bits late c

/-- R33, R41, R44: a write reaches one field that has no behaviour of its own. A one-bit status or pulse is touched only by
a 1. -/
def writeField (m : Master) (how : WMode) (bits : Nat) (late : Bool) (f : Fld) (c : Core) : Core :=
  match f.acc with
  | .w1c => if bits = 0 then c else placeWrite m f how bits late c
  | .w1s => if bits = 0 then c else placeWrite m f how bits late c
  | .wo => c
  | .ro => c
  | _ =>
    if f.pair = 1 then stageLow f how bits c
    else if f.pair = 2 then placeHigh m f how bits late c
    else placeWrite m f how bits late c

/-- Restrictions that a register's own chapter states: the write is ignored whole, and counted (R446, R515, R527). -/
def Core.restricted (c : Core) (m : Master) (how : WMode) (o v : Nat) : Bool :=
  (decide (o / 16384 = 1) && c.on F.BLC_SEAL.SEALED) ||
  (decide (o = F.IRQ_SGI.TRIG.off) && decide (m ≠ .super)) ||
  (decide (o = F.GLB_RESET.KEY.off) && F.GLB_RESET.KEY.bitsOf v != 0xa7) ||
  (decide (o = F.RED_CFG.SOLO.off) && !c.on F.BLC_RED.SOLOPERM && F.RED_CFG.SOLO.bitsOf v == 1 &&
    F.RED_CFG.SOLO.after how (c.rd F.RED_CFG.SOLO) 1 % 2 == 1)

/-- R38: a write carries a 1 in a bit that only a privileged master writes. -/
def carriesP (fs : List Fld) (how : WMode) (v : Nat) : Bool :=
  fs.any (fun f => (f.acc == .rwp || (f.privOnly && how == .normal)) && f.bitsOf v != 0)

/-- The context register whose mode a write names (R420). -/
def atuMode (f : Fld) : Option Nat :=
  if f.off / 16384 = 5 ∧ f.off - 0x14000 < 64 ∧ f.key = (F.ATU_CFG.MODE ((f.off - 0x14000) / 16)).key then some ((f.off - 0x14000) / 16) else none

/-- The fields of a register that a write reaches, with the bits it gives each; those with behaviour of their own apart. A refused bypass is
counted (R38, R420). -/
def writeFields (m : Master) (how : WMode) (late : Bool) (v : Nat) (fs : List Fld) (c : Core) : Core :=
  fs.foldl (fun c f =>
    let bits := f.bitsOf v
    match atuMode f with
      | some k =>
        let md := f.after how (c.view f) bits % 2 ^ f.width
        if c.bypassRefused k md then accViol m 0 (f.off + 4096 * viewIndex how) (c.wr (F.ATU_CFG.ERR k) 1)
        else (writeField m how bits late f c).wr (F.ATU_CFG.ERR k) 0
      | none => writeField m how bits late f c) c

end Sys2Proof.Machine
end

