-- ==== Sys2Proof/Machine/Shf.lean ====
section
/-! DEFINITION. SHF, the sheaf: heartbeats, live peers, the chaff filter, the SOC mean, slots, dispatch (R340 to R362). -/

namespace Sys2Proof.Machine

/-! ### Bytes and frames (R341, R343, R351) -/

/-- The kinds of Ethernet frame the block sends: 1 HEARTBEAT, 2 REPORT, 3 events, 4 Delay_Req, 5 Pdelay_Req, 6 Pdelay_Resp, 7 a
forwarded frame. A sheaf frame (R341) goes out on both ports, each with its port's address as source. -/
def Core.sendShf (c : Core) (kind : Nat) (data : List Nat) : Core :=
  let head := fun p => c.ethHead p (c.rd F.SHF_MCAST_LO.ADDR + 2 ^ 32 * c.rd F.SHF_MCAST_HI.ADDR) (c.rd F.SHF_NET.VID) (c.rd F.SHF_NET.PCP)
    (c.rd F.SHF_NET.ETYPE)
  ethSend 2 kind (head 2 ++ data) (ethSend 1 kind (head 1 ++ data) c)

/-- R342: the module owns the string's traffic: it is not the standby of a pair. -/
def Core.owner (c : Core) : Bool := !c.standby

/-- The own slot state (0 none, 1 requesting, 2 holding, 3 releasing). -/
def Core.slot (c : Core) : Nat := c.rd F.SHF_STAT.SLOT

/-- The own slot kind (0 rest, 1 gleaning). -/
def Core.skind (c : Core) : Nat := c.rd F.SHF_STAT.SKIND

/-- The string's SOC is valid. -/
def Core.socOk (c : Core) : Bool := c.rd F.EST_SSOC.SOC != 65535

/-- Whole minutes left of an entry, rounded up. -/
def SlotEnt.mins (e : SlotEnt) : Nat := min 255 (ceilDiv e.left 60000)

/-- R343: the HEARTBEAT payload. -/
def Core.hbData (c : Core) : List Nat :=
  let flags := b2n (c.cnvState == 3 || c.cnvState == 4) + 2 * b2n c.socOk + 4 * c.rd F.SHF_STAT.DGOV + 8 * c.rd F.BLC_RED.PAIR
  let rep := (c.shf.rfield.map (fun p => p.1)).take 8
  let view := (c.shf.view.map (fun e => le 2 e.pid ++ [e.kind, e.mins])).take 4
  [2, 1] ++ le 2 c.pid ++ le 2 (c.rd F.SHF_ID.SHEAF) ++ le 2 c.shf.seq ++ [flags, c.slot + 4 * c.skind] ++ le 2 c.shf.wait ++
    le 2 (c.rd F.EST_SSOC.SOC) ++ [c.shf.oepoch, 0] ++ le 4 c.est.str.q ++
    (rep ++ List.replicate (8 - rep.length) 65535).flatMap (le 2) ++
    (view ++ List.replicate (4 - view.length) [255, 255, 0, 0]).flatten ++ List.replicate 12 0 ++
    le 4 (ofSigned 32 c.shf.pb) ++ le 4 c.shf.hd ++ le 4 c.shf.hc ++ le 4 ((c.shf.tgt.map (fun t => t.seq)).getD 0) ++ List.replicate 16 0

/-- R351: the REPORT payload; TB_PLANT is that of the instant at which the loss was declared. -/
def Core.reportData (c : Core) (r : RepWait) : List Nat :=
  [2, 2] ++ le 2 c.pid ++ le 2 (c.rd F.SHF_ID.SHEAF) ++ le 2 r.pid ++ [min 255 r.rank, 0] ++ le 6 r.sec ++ le 4 r.ns ++
    le 2 (Tab.get {} c.shf.agg r.pid).seq ++ [0, 0]

/-! ### Peers (R344 to R347) -/

/-- A peer. -/
def Core.peer (c : Core) (p : Nat) : Peer := Tab.get {} c.shf.agg p

/-- Change a peer. -/
def Core.setPeer (c : Core) (p : Nat) (f : Peer → Peer) : Core := { c with shf := { c.shf with agg := Tab.upd {} c.shf.agg p f } }

/-- The peers that satisfy a test, by PID. -/
def Core.peers (c : Core) (f : Peer → Bool) : List (Nat × Peer) := c.shf.agg.filter (fun x => f x.2)

/-- R356: the source that acts. -/
def Core.dsrc (c : Core) : Nat := let s := c.rd F.SHF_DCFG.SRC; if s = 3 then 0 else s

/-- R361: the entries of the slot view. -/
def viewShow (c : Core) : Core :=
  forUp 4 (fun i c => match c.shf.view[i]? with
    | some e => ((c.wr (F.SHF_SLOTVIEW.PID i) e.pid).wr (F.SHF_SLOTVIEW.KIND i) e.kind).wr (F.SHF_SLOTVIEW.REMAIN i) e.mins
    | none => ((c.wr (F.SHF_SLOTVIEW.PID i) 65535).wr (F.SHF_SLOTVIEW.KIND i) 0).wr (F.SHF_SLOTVIEW.REMAIN i) 0) c

/-- R361: the counts that STAT and NPEER show. -/
def shfShow (c : Core) : Core :=
  let n := countIf (fun p => (c.peer p).live) c.shf.ctx
  let c1 := (((c.wr F.SHF_STAT.NLIVE n).wr F.SHF_NPEER.N c.shf.agg.length).wrB F.SHF_STAT.LARGE (decide (160 < c.shf.agg.length))).wrB F.SHF_STAT.V1PEER
    (c.shf.agg.any (fun x => x.2.live && !x.2.v2))
  viewShow c1

/-- R360: the slots held at once. -/
def Core.slotMax (c : Core) : Nat := max 1 (min 4 (c.rd F.SHF_SLOTCFG.NMAX))

/-- R354: ms for which an entry stands. -/
def Core.slotTmo (c : Core) : Nat := 60000 * max 1 (c.rd F.SHF_SLOTCFG.TMO)

/-- R354: an entry is created or refreshed while the view has room. -/
def viewPut (e : SlotEnt) (l : List SlotEnt) : List SlotEnt :=
  if l.any (fun x => x.pid == e.pid) then l.map (fun x => if x.pid = e.pid then e else x)
  else if l.length < 4 then l ++ [e] else l

/-- R354: an entry seen in a peer's view during the first 500 ms, with the largest remaining time. -/
def viewAdopt (l : List SlotEnt) (v : Nat × Nat × Nat) : List SlotEnt :=
  if v.1 = 65535 then l else
    match l.find? (fun x => x.pid == v.1) with
    | some x => if x.left < 60000 * v.2.2 then viewPut { x with left := 60000 * v.2.2 } l else l
    | none => viewPut ⟨v.1, v.2.1, 60000 * v.2.2, 0⟩ l

/-- R354: what a heartbeat does to the slot view. -/
def viewHear (h : HbFrame) (c : Core) : Core :=
  let l1 := if c.shf.enMs < 500 then h.view.foldl viewAdopt c.shf.view else c.shf.view
  let l2 := if h.slot = 2 then viewPut ⟨h.pid, h.kind, c.slotTmo, h.wait⟩ l1
    else if h.slot = 3 then l1.filter (fun e => e.pid != h.pid) else l1
  { c with shf := { c.shf with view := l2 } }

/-- R349: a report or a reported field for L has been seen. -/
def reportSeen (l : Nat) (c : Core) : Core :=
  { c with shf := { c.shf with reps := c.shf.reps.map (fun r => if r.pid = l then { r with seen := true } else r) } }

/-- R349: L is listed in the reported field for 1 s. -/
def listReported (l : Nat) (c : Core) : Core :=
  { c with shf := { c.shf with rfield := (l, 1000) :: c.shf.rfield.filter (fun p => p.1 != l) } }

/-- R341: a frame of another sheaf, or one too short. -/
def Core.hbBad (c : Core) (h : HbFrame) : Bool :=
  h.sheaf != c.rd F.SHF_ID.SHEAF || decide (h.len < (if h.version = 1 then 64 else 96)) || h.version == 0

/-- R345: a peer's heartbeat updates its context. -/
def peerHear (h : HbFrame) (c : Core) : Core :=
  let o := c.peer h.pid
  let known := c.shf.agg.any (fun x => x.1 == h.pid)
  let n := if known && decide (o.age < 50) then o.cnt + 1 else 1
  let live := o.live || decide (3 ≤ n)
  let back := live && !o.live && c.shf.lost.contains h.pid
  let v2 := decide (2 ≤ h.version)
  let c1 := c.setPeer h.pid (fun _ =>
    { v2 := v2, seq := h.seq, flags := h.flags, slot := h.slot, kind := h.kind, wait := h.wait, soc := h.soc, oepoch := h.oepoch, q := h.q
      pb := if v2 then h.pb else 0, hd := if v2 then h.hd else 0, hc := if v2 then h.hc else 0, age := 0, cnt := n, live := live
      counted := o.counted && live })
  let c2 := if !c1.shf.ctx.contains h.pid && decide (c1.shf.agg.length ≤ 160) then { c1 with shf := { c1.shf with ctx := c1.shf.ctx ++ [h.pid] } } else c1
  let c3 := if back then ({ c2 with shf := { c2.shf with lost := c2.shf.lost.filter (fun p => p != h.pid) } }).raise 83 h.pid h.pid else c2
  shfShow (h.reported.foldl (fun c l => reportSeen l c) (viewHear h c3))

/-- R341, R345, R347, R354: a HEARTBEAT arrives; that of the own string's other module shows its slot (R355). -/
def heartbeat (h : HbFrame) (c : Core) : Core :=
  if !c.shfOn then c
  else if c.hbBad h then c.cntSat F.SHF_CNT2.RXERR
  else if h.pid = c.pid then
    if h.src = 0 then
      let c1 := { c with shf := { c.shf with dupAge := 0 } }
      if c.on F.SHF_STAT.DUPPID then c1 else (c1.wr F.SHF_STAT.DUPPID 1).raise 87 h.pid h.pid
    else if h.src = 2 then viewShow (viewHear h c)
    else c
  else if h.pid = 65535 ∨ (1024 ≤ c.shf.agg.length ∧ !c.shf.agg.any (fun x => x.1 == h.pid)) then c
  else (peerHear h c).pulse 81

/-- R348: the hash that ranks an observer. -/
def chaff (l m : Nat) : Nat := Nat.xor m l * 40503 % 65536

/-- R346: the place of `p` after `b` on the ring 0x0000 to 0xFFFE. -/
def ringDist (b p : Nat) : Nat := (p + 65535 - b) % 65535

/-- The PIDs of `l` sorted by their ring distance, nearest first. -/
def ringSort (dist : Nat → Nat) : List Nat → List Nat
  | [] => []
  | x :: xs =>
    let r := ringSort dist xs
    (r.filter (fun y => decide (dist y < dist x))) ++ [x] ++ r.filter (fun y => !decide (dist y < dist x))

/-- R346: the 80 nearest after and before a PID. -/
def nearest (b : Nat) (l : List Nat) : List Nat :=
  let o := l.filter (fun p => p != b)
  let up := (ringSort (ringDist b) o).take 80
  up ++ ((ringSort (fun p => ringDist p b) o).take 80).filter (fun p => !up.contains p)

/-- R345, R348: the observer set of L, this module included; a live peer counts from the epoch boundary after it became live. -/
def Core.observers (c : Core) (l : Nat) : List Nat :=
  let all := c.pid :: (c.shf.agg.filter (fun x => x.2.counted && x.1 != l)).map (fun x => x.1)
  if c.shf.agg.length ≤ 160 then all else nearest l all

/-- R348: this module's rank for L. -/
def Core.rank (c : Core) (l : Nat) : Nat := countIf (fun m => decide (chaff l m < chaff l c.pid)) (c.observers l)

/-- R349: a REPORT goes out. -/
def sendReport (r : RepWait) (c : Core) : Core :=
  listReported r.pid ((c.sendShf 2 (c.reportData r)).cntSat F.SHF_CNT.REPORTS)

/-- R345, R349, R350: a peer in a context is lost. -/
def peerLost (l : Nat) (c : Core) : Core :=
  let p := c.peer l
  if c.shfOn && c.shf.ctx.contains l && p.live && decide (50 ≤ p.age) then
    let c1 := c.setPeer l (fun p => { p with live := false, counted := false, cnt := 0 })
    let c2 := { c1 with shf := { c1.shf with lost := l :: c1.shf.lost } }
    let c3 := ((c2.cntSat F.SHF_CNT.LOSSES).wr F.SHF_STAT.LOSTSEEN 1).raise 82 l l
    let r : RepWait := ⟨l, c3.rank l, 0, false, c.ptp.sec, c.ptp.ns⟩
    shfShow (if !c3.owner then c3 else if r.rank ≤ 2 then sendReport r c3
      else { c3 with shf := { c3.shf with reps := c3.shf.reps ++ [r] } })
  else c

/-- R349, R342, R360: the wait of an observer's rank ends; a module that sends no sheaf traffic any more sends no REPORT. -/
def reportWait (l : Nat) (c : Core) : Core :=
  match c.shf.reps.find? (fun r => r.pid == l && decide (20 + 2 * r.rank ≤ r.waited)) with
  | none => c
  | some r =>
    let c1 := { c with shf := { c.shf with reps := c.shf.reps.erase r } }
    if !c.shfOn || !c.owner then c1 else if r.seen then c1.cntSat F.SHF_CNT2.SUPP else sendReport r c1

/-- R349: a REPORT arrives. -/
def reportReceived (sheaf len l : Nat) (c : Core) : Core :=
  if !c.shfOn then c
  else if sheaf ≠ c.rd F.SHF_ID.SHEAF ∨ len < 24 then c.cntSat F.SHF_CNT2.RXERR
  else listReported l (reportSeen l c)

/-- R346: the watch set. -/
def watchSet (c : Core) : Core :=
  if 160 < c.shf.agg.length then
    shfShow { c with shf := { c.shf with ctx := nearest c.pid ((c.shf.agg.filter (fun x => x.2.live)).map (fun x => x.1)) } }
  else c

/-- R344: a peer unheard for 500 ms leaves the aggregate table and its context. -/
def aggDrop (p : Nat) (c : Core) : Core :=
  if c.shf.agg.any (fun x => x.1 == p && decide (500 ≤ x.2.age)) then
    shfShow { c with shf := { c.shf with agg := Tab.del c.shf.agg p, ctx := c.shf.ctx.filter (fun x => x != p) } }
  else c

/-- R347: DUPPID clears after 1 s. -/
def dupClear (c : Core) : Core := if 1000 ≤ c.shf.dupAge then c.wr F.SHF_STAT.DUPPID 0 else c

/-! ### Slots (R353 to R355) -/

/-- The live peers that neither request nor hold (R353). -/
def Core.carriers (c : Core) : Nat := countIf (fun (x : Nat × Peer) => x.2.live && x.2.slot != 1 && x.2.slot != 2) c.shf.agg

/-- R353: the order key (kind, −wait, PID): the first comes before the second. -/
def keyBefore (k1 w1 p1 k2 w2 p2 : Nat) : Bool :=
  decide (k1 < k2) || (k1 == k2 && (decide (w2 < w1) || (w1 == w2 && decide (p1 < p2))))

/-- R353: every condition of the take. -/
def Core.mayTake (c : Core) : Bool :=
  c.slot == 1 && c.shfOn && !c.on F.SHF_STAT.DUPPID && decide (500 ≤ c.shf.enMs) && decide (3 ≤ c.shf.wait) &&
    decide (c.shf.view.length < c.slotMax) && !(c.skind == 1 && c.shf.view.any (fun e => e.kind == 1)) &&
    !c.shf.agg.any (fun x => x.2.live && x.2.slot == 1 && keyBefore x.2.kind x.2.wait x.1 c.skind c.shf.wait c.pid) &&
    decide (c.rd F.SHF_SLOTCFG.MINLIVE ≤ c.carriers)

/-- R359: dispatch governs: a target is in force, its source is not off, CNV regulates under the load line, and the module holds no
slot. -/
def Core.governs (c : Core) : Bool :=
  c.shf.tgt.isSome && c.dsrc != 0 && (c.effState == 3 || c.effState == 4) && c.rd F.CNV_STAT.REFSRC == 0 && c.slot != 2

/-- R359: DGOV shows it. -/
def governShow (c : Core) : Core := c.wrB F.SHF_STAT.DGOV c.governs

/-- R353: the slot is taken and the grant passed to EST. -/
def slotTake (c : Core) : Core :=
  if c.mayTake then governShow (slotGranted c.skind ((c.wr F.SHF_STAT.SLOT 2).raise 84 0 c.skind)) else c

/-- R353, R355: the last releasing heartbeat has gone out; a request of EST that waited begins. -/
def slotFree (c0 : Core) : Core :=
  let c := c0.wr F.SHF_STAT.SLOT 0
  if c.rd F.EST_REST_CTRL.STATE = 1 then slotAsk 0 c else if c.rd F.EST_GLN_CTRL.STATE = 1 then slotAsk 1 c else c

/-- R342, R353, R355: a heartbeat instant. -/
def heartbeatSend (c : Core) : Core :=
  if c.shfOn && c.owner then
    let c1 := slotTake (c.pulse 80)
    let c2 := c1.sendShf 1 c1.hbData
    let s := c2.shf
    let w := if c2.slot = 1 then min 65535 (s.wait + 1) else if c2.slot = 2 then s.wait else 0
    let left := if c2.slot = 3 then s.relLeft - 1 else s.relLeft
    let c3 := { c2 with shf := { s with seq := (s.seq + 1) % 65536, wait := w, relLeft := left } }
    if c2.slot = 3 ∧ left = 0 then slotFree c3 else c3
  else c

/-- R355: another holder with an earlier order key collides with the own slot: one of the same kind, or as many as NMAX. -/
def Core.collides (c : Core) : Bool :=
  let before := c.shf.view.filter (fun e => e.pid != c.pid && keyBefore e.kind e.wait e.pid c.skind c.shf.wait c.pid)
  before.any (fun e => e.kind == c.skind) || decide (c.slotMax ≤ before.length)

/-- R355: the own slot or request is revoked. -/
def revoke (c : Core) : Core :=
  if c.slot = 2 then
    let c1 := (slotRevoked c).raise 85 0 c.skind
    { (c1.wr F.SHF_STAT.SLOT 3) with shf := { c1.shf with relLeft := 5 } }
  else if c.slot = 1 then slotRevoked (c.wr F.SHF_STAT.SLOT 0)
  else if c.slot = 3 ∧ (c.rd F.EST_REST_CTRL.STATE = 1 ∨ c.rd F.EST_GLN_CTRL.STATE = 1) then slotRevoked c else c

/-- R355: a held slot is revoked by collision, or by a shortfall of 1 s. -/
def slotRevoke (c : Core) : Core :=
  if c.slot = 2 ∧ c.collides then (revoke c).wr F.SHF_STAT.COLL 1
  else if c.slot = 2 ∧ 1000 ≤ c.shf.short then revoke c else c

/-- R354: an entry whose time is over leaves the view. -/
def viewExpire (p : Nat) (c : Core) : Core :=
  shfShow { c with shf := { c.shf with view := c.shf.view.filter (fun e => !(e.pid == p && e.left == 0)) } }

/-- R355, R360: EN is written. -/
def shfEnable (v : Nat) (c : Core) : Core :=
  if v % 2 = 1 then (if c.on F.SHF_CTRL.EN then c else ({ c with shf := { c.shf with enMs := 0 } }).wr F.SHF_CTRL.EN 1)
  else (revoke c).wr F.SHF_CTRL.EN 0

/-! ### Time -/

/-- R360: PID 0xFFFF acts as EN = 0: a new PID that commits ends or starts sheaf traffic; `was` the PID before. -/
def pidCommit (was : Nat) (c : Core) : Core :=
  if c.pid = 65535 ∧ was ≠ 65535 then revoke c
  else if was = 65535 ∧ c.pid ≠ 65535 then { c with shf := { c.shf with enMs := 0 } } else c

/-- The ms timers of SHF. -/
def shfMs (c : Core) : Core :=
  let s := c.shf
  viewShow { c with shf := { s with
    enMs := if c.shfOn then s.enMs + 1 else s.enMs
    agg := s.agg.map (fun (x : Nat × Peer) => (x.1, { x.2 with age := x.2.age + 1 }))
    reps := s.reps.map (fun r => { r with waited := r.waited + 1 })
    rfield := (s.rfield.map (fun (x : Nat × Nat) => (x.1, x.2 - 1))).filter (fun x => x.2 != 0)
    view := s.view.map (fun e => { e with left := e.left - 1 })
    dupAge := s.dupAge + 1
    short := if c.slot = 2 ∧ c.carriers < c.rd F.SHF_SLOTCFG.MINLIVE then s.short + 1 else 0
    tgt := s.tgt.map (fun t => { t with left := t.left - 1 }) } }

/-- The sums of the epoch take a tick (R357, R358). -/
def shfTick (c : Core) : Core :=
  let s := c.shf
  { c with shf := { s with
    sVs := s.sVs + c.vS, sVb := s.sVb + c.vB, sIb := s.sIb + c.role 3, sPb := s.sPb + c.vB * c.role 3, n := s.n + 1 } }

/-! ### Sheaf mean and dispatch (R352, R356 to R359) -/

/-- R352: a string contributes: SOC valid, no slot held or being released. -/
def contributes (flags slot : Nat) : Bool := bitAt flags 1 && slot != 2 && slot != 3

/-- R352: the sheaf mean. -/
def sheafMean (c0 : Core) : Core :=
  let c := { c0 with shf := { c0.shf with agg := c0.shf.agg.map (fun (x : Nat × Peer) => (x.1, { x.2 with counted := x.2.live })) } }
  let own := if c.socOk && c.slot != 2 && c.slot != 3 then [(c.rd F.EST_SSOC.SOC, c.est.str.q)] else []
  let others := (c.peers (fun p => p.counted && contributes p.flags p.slot)).map (fun x => (x.2.soc, x.2.q))
  let all := own ++ others
  let q := sumN (all.map (fun p => p.2))
  let ok := others != [] && q != 0
  ((c.wrB F.SHF_STAT.SOCVALID ok).wr F.SHF_SOCMEAN.SOC (if ok then sumN (all.map (fun p => p.1 * p.2)) / q else 65535)).wr
    F.SHF_SOCMEAN.NCONTRIB all.length

/-- R356: a DISPATCH frame is newer than the sequence that governs. -/
def seqNewer (last : Option Nat) (s : Nat) : Bool :=
  match last with
  | none => true
  | some l => let d := (s + 2 ^ 32 - l) % 2 ^ 32; decide (1 ≤ d) && decide (d < 2 ^ 31)

/-- R356: a DISPATCH frame arrives. -/
def dispatchFrame (sheaf len hold seq : Nat) (p : Int) (c : Core) : Core :=
  if !c.shfOn then c
  else if sheaf ≠ c.rd F.SHF_ID.SHEAF ∨ len < 16 then c.cntSat F.SHF_CNT2.RXERR
  else if c.dsrc = 2 ∧ seqNewer c.shf.lastSeq seq then
    { c with shf := { c.shf with next := some ⟨p, seq, if hold = 0 then c.rd F.SHF_DCFG2.TMO else hold⟩ } }
  else c

/-- R357: headroom in W of a voltage in mV and a current in mA. -/
def headroom (v : Int) (i : Nat) : Nat := (v * i / 1000000).toNat

/-- A write by SHF of V_B,ref, which commits at the next tick boundary (R358), ahead of what host software has written for that boundary
(R49). -/
def writeVref (v : Int) (c : Core) : Core := { c with wait := ⟨F.CNV_LL_VREF.VREF, ofSigned 32 v, .normal, false, .super⟩ :: c.wait }

/-- R358: one module's step of V_B,ref in mV for its share (`pi` W) at the epoch means of V_B (mV) and I_B (mA). -/
def dispatchStep (c : Core) (vb ib pi : Int) : Int :=
  let vref := c.rdS F.CNV_LL_VREF.VREF
  let num := (c.rd F.CNV_LL_R.RLL : Int) * (pi * 1000000 - ib * vb) * 10 + vref * c.rdS F.BAL_SOCB.ACT * vb
  let slew : Int := 100 * c.rd F.SHF_DCFG.VSLEW
  let dv := if vb = 0 then Config.freeInt 10 c.free
    else if vb < 0 then roundDiv (-(num * c.rd F.SHF_DCFG.KD)) (-(vb * 3276800000)) else roundDiv (num * c.rd F.SHF_DCFG.KD) (vb * 3276800000)
  clampI (c.rdS F.SHF_VREF_MIN.V) (c.rdS F.SHF_VREF_MAX.V) (vref + clampI (-slew) slew dv)

/-- R358: P_avail. -/
def Core.pAvail (c : Core) (p : Int) : Int :=
  p - sumI ((c.peers (fun x => x.counted && x.slot == 2)).map (fun x => x.2.pb)) - (if c.slot = 2 then c.shf.pb else 0)

/-- R358: the headroom sum of the direction of P_avail. -/
def Core.hSum (c : Core) (up : Bool) : Nat :=
  (if up then c.shf.hd else c.shf.hc) + sumN ((c.peers (fun x => x.counted)).map (fun x => if up then x.2.hd else x.2.hc))

/-- R357: the headroom and mean power that the module publishes for the epoch that ended. -/
def publishHeadroom (c : Core) : Core :=
  let n : Int := max 1 c.shf.n
  let run := (c.cnvState == 3 || c.cnvState == 4) && c.slot != 2
  let vs := roundDiv c.shf.sVs n
  let bd := sopBound (c.rd F.EST_SOP_D.SOPD) (c.rd F.BAL_DRF.FD) (c.rd F.CNV_ILIM_D.ILIM)
  let bc := sopBound (c.rd F.EST_SOP_C.SOPC) (c.rd F.BAL_DRF.FC) (c.rd F.CNV_ILIM_C.ILIM)
  { c with shf := { c.shf with
    pb := roundDiv c.shf.sPb (n * 1000000), hd := if run then headroom vs bd else 0, hc := if run then headroom vs bc else 0 } }

/-- R356: a target takes effect. -/
def targetSet (t : DTarget) (n : Nat) (c : Core) : Core :=
  ({ c with shf := { c.shf with tgt := some t, slew := false } }).raise 86 0 n

/-- R356: at an epoch boundary a requested or received target takes effect. -/
def targetTake (c : Core) : Core :=
  let c1 := { (c.wr F.SHF_DCTRL.GO 0) with shf := { c.shf with next := none } }
  if c.dsrc = 1 ∧ c.on F.SHF_DCTRL.GO then targetSet ⟨c.rdS F.SHF_PTGT.P, 0, c.rd F.SHF_DCFG2.TMO⟩ 1 c1
  else if c.dsrc = 2 then (match c.shf.next with
    | some t => targetSet t 2 { c1 with shf := { c1.shf with lastSeq := some t.seq } }
    | none => c1)
  else c1

/-- R359: the governing target ends, as on expiry: the event, and V_B,ref slews to nominal. -/
def targetEnd (c : Core) : Core :=
  (governShow { c with shf := { c.shf with tgt := none, slew := true } }).raise 86 0 3

/-- R356, R359: another source than DISPATCH forgets the sequence that governed; off ends the target as on expiry. -/
def sourceOff (c : Core) : Core :=
  let c1 := if c.dsrc = 2 then c else { c with shf := { c.shf with lastSeq := none } }
  if c.dsrc = 0 ∧ c.shf.tgt.isSome then targetEnd c1 else c1

/-- R358, R359: dispatch at an epoch boundary. -/
def dispatchShare (c0 : Core) : Core :=
  let c2 := sourceOff (targetTake (publishHeadroom c0))
  let n : Int := max 1 c2.shf.n
  let vb := roundDiv c2.shf.sVb n
  let ib := roundDiv c2.shf.sIb n
  let c3 := match c2.shf.tgt with
    | some t =>
      let pa := c2.pAvail t.p
      let up := decide (0 ≤ pa)
      let h := c2.hSum up
      let own := if up then c2.shf.hd else c2.shf.hc
      let pi : Int := if h = 0 then 0 else roundDiv (pa * own) h
      if c2.governs then
        (writeVref (dispatchStep c2 vb ib pi) ((((c2.wr F.SHF_STAT.DGOV 1).wrB F.SHF_STAT.DSAT (decide ((h : Int) < absI pa))).wrS F.SHF_SHARE.P pi).wr
          F.SHF_HSUM.H h)).tickFree
      else c2.wr F.SHF_STAT.DGOV 0
    | none =>
      let v := c2.rdS F.CNV_LL_VREF.VREF
      let nom := c2.rdS F.SHF_VREF_NOM.V
      let c4 := c2.wr F.SHF_STAT.DGOV 0
      if c2.shf.slew then
        if v = nom then { c4 with shf := { c4.shf with slew := false } }
        else writeVref (slewTo (100 * c2.rd F.SHF_DCFG.VSLEW) v nom) c4
      else c4
  { c3 with shf := { c3.shf with sVs := 0, sVb := 0, sIb := 0, sPb := 0, n := 0 } }

/-- R356: GO of a host target. -/
def dispatchGo (c : Core) : Core := c.wr F.SHF_DCTRL.GO 1

/-- R359: the hold time of the governing target has passed. -/
def targetExpire (c : Core) : Core :=
  match c.shf.tgt with
  | some t =>
    if t.left = 0 then targetEnd (c.wr F.SHF_STAT.DTMO 1) else c
  | none => c

/-- R362: a context is copied into the window. -/
def contextSelect (i : Nat) (c : Core) : Core :=
  let ok := decide (i < c.shf.ctx.length)
  let pid := if ok then c.shf.ctx.getD i 0 else 0
  let p : Peer := if ok then c.peer pid else { soc := 0 }
  let c1 := (((c.wr F.SHF_CSEL.IDX i).wrB F.SHF_CSEL.CVALID ok).wr F.SHF_CPID.PID pid).wrB F.SHF_CPID.LIVE p.live
  ((((c1.wrB F.SHF_CPID.V2 p.v2).wr F.SHF_CPID.SLOT p.slot).wr F.SHF_CPID.AGE (min 255 p.age)).wr F.SHF_CSOC.SOC p.soc).wr F.SHF_CSOC.OEPOCH p.oepoch

end Sys2Proof.Machine
end

