-- ==== Sys2Proof/Machine/Smb.lean ====
section
/-! DEFINITION. The SMBus ports: SMB0, the controller, and SMB1, the target (R482 to R492, R496, R497). -/

namespace Sys2Proof.Machine

/-! ### SMB0 -/

/-- The transfer that `SMB_C_CMD` asks for goes on the bus (R483), or ends at once with STUCK (R484). -/
def smbStart (c : Core) : Core :=
  if c.on F.SMB_C_STAT.SDASTUCK then
    let c1 := ((c.wr F.SMB_C_STAT.RESULT 7).wrB F.SMB_C_STAT.DONE true).wrB F.SMB_C_CMD.GO false
    ({ c1 with smb := { c1.smb with want := false, again := false, run := false } } : Core).raise 108 0 7
  else
    ({ c with smb := { c.smb with run := true, want := false } } : Core).send (.smb 0 (c.rd F.SMB_C_CMD.PROT)
      ([c.rd F.SMB_C_CMD.ADDR, c.rd F.SMB_C_CMD.CODE, c.rd F.SMB_C_LEN.WCNT, c.rd F.SMB_C_CMD.PECEN, c.rd F.SMB_C_CFG.SPEED] ++
        (upTo 64).map (fun k => c.rd (F.SMB_C_DATA.DATA k))))

/-- SMB0 may start a transfer: none runs, no bus clear runs, and the module is not a standby (R485, R492). -/
def Core.smbFree (c : Core) : Bool := !c.smb.run && !c.on F.SMB_C_STAT.CLEARING && !c.standby

/-- R483: GO is written; `busFree`: the bus is free at this instant. A GO that cannot start yet is held. -/
def smbGo (busFree : Bool) (c : Core) : Core :=
  let c1 := c.wrB F.SMB_C_CMD.GO true
  if c.smb.run then { c1 with smb := { c1.smb with again := true } }
  else
    let c2 := { c1 with smb := { c1.smb with want := true, arb := 0 } }
    if c2.smbFree && (busFree || c2.on F.SMB_C_STAT.SDASTUCK) then smbStart c2 else c2

/-- R483, R484: the bus is free: a transfer that waits starts. -/
def smbBusFree (c : Core) : Core := if c.smb.want && c.smbFree then smbStart c else c

/-- R484: a transfer ends with a RESULT; a GO written meanwhile starts after it (R483). -/
def smbEnd (res : Nat) (c : Core) : Core :=
  let c1 := ((c.wr F.SMB_C_STAT.RESULT res).wrB F.SMB_C_STAT.DONE true).wrB F.SMB_C_CMD.GO c.smb.again
  let c2 := { c1 with smb := { c1.smb with run := false, want := c1.smb.again, again := false, arb := 0 } }
  if res = 0 then c2.raise 107 0 0 else (if res = 4 then c2.wrB F.SMB_C_STAT.BUSERR true else c2).raise 108 0 res

/-- Received bytes go into the buffer from byte 0 (R483). -/
def smbStore (data : List Nat) (c : Core) : Core :=
  forUp data.length (fun i c =>
    let f := F.SMB_C_DATA.DATA (i / 4)
    let w := c.rd f
    c.wr f (w - 2 ^ (8 * (i % 4)) * bitsAt w (8 * (i % 4)) 8 + 2 ^ (8 * (i % 4)) * (data.getD i 0 % 256))) c

/-- R484: the running transfer ends: `res` 0 to 6 as RESULT, 3 an arbitration loss, which restarts it up to ARBRETRY times;
`data` what it received; `count` the byte count of a block read. -/
def smbTransferEnd (res count : Nat) (data : List Nat) (c : Core) : Core :=
  if !c.smb.run then c
  else if res = 3 ∧ c.smb.arb < c.rd F.SMB_C_CFG.ARBRETRY then
    { c with smb := { c.smb with run := false, want := true, arb := c.smb.arb + 1 } }
  else
    let c1 := if res = 0 ∨ res = 6 then
        let p := c.rd F.SMB_C_CMD.PROT
        smbStore data (if p = 10 ∨ p = 11 then c.wr F.SMB_C_LEN.RCNT count else c)
      else c
    smbEnd res c1

/-- R484: a target holds SCL too long. -/
def smbTimeout (c : Core) : Core := if c.smb.run then smbEnd 5 c else c

/-- R485: a round of the bus clear starts. -/
def clearRound (c : Core) : Core :=
  (({ c with smb := { c.smb with phase := 1 } } : Core).wrB F.SMB_C_STAT.CLEARING true).send (.smb 0 16 [])

/-- R485: CLEAR is written 1 while no transfer runs, or SDA is low when it is sampled after a reset. -/
def smbClear (bySda : Bool) (c : Core) : Core :=
  if bySda then
    if c.smb.sampled then c else clearRound { c with smb := { c.smb with sampled := true, rounds := 0 } }
  else if c.smb.run ∨ c.smb.phase = 1 ∨ c.smb.phase = 2 then c
  else clearRound (({ c with smb := { c.smb with rounds := 0 } } : Core).wrB F.SMB_C_CTRL.CLEAR true)

/-- R485: a round ends; SDA reads high or low after its STOP. -/
def clearRoundEnd (high : Bool) (c : Core) : Core :=
  if c.smb.phase ≠ 1 then c
  else if high then
    let c1 := (({ c with smb := { c.smb with phase := 0, rounds := 0 } } : Core).wrB F.SMB_C_STAT.CLEARING false).wrB F.SMB_C_CTRL.CLEAR false
    smbBusFree (c1.wrB F.SMB_C_STAT.SDASTUCK false)
  else
    let n := c.smb.rounds + 1
    if c.on F.SMB_C_STAT.SDASTUCK then
      ({ c with smb := { c.smb with phase := 3 } } : Core).wrB F.SMB_C_STAT.CLEARING false
    else if 3 ≤ n then
      ((({ c with smb := { c.smb with phase := 3, rounds := n } } : Core).wrB F.SMB_C_STAT.CLEARING false).wrB F.SMB_C_STAT.SDASTUCK true).raise 108 0 8
    else { c with smb := { c.smb with phase := 2, rounds := n } }

/-- R485: the hold of 35 ms ends. -/
def clearHoldEnd (c : Core) : Core := if c.smb.phase = 2 then clearRound c else c

/-- R485: one further round every second while SDASTUCK is set. -/
def clearRetry (c : Core) : Core := if c.smb.phase = 3 then clearRound c else c

/-- R486: SMB0 reads the Alert Response Address; `ans`: the address of the target that acknowledges. -/
def smbAlert (ans : Option Nat) (c : Core) : Core :=
  if !c.on F.SMB_C_CFG.AUTOARA || !c.smbFree then c else
    let c1 := c.send (.smb 0 17 [12, c.rd F.SMB_C_CFG.PEC])
    match ans with
    | some a => (((c1.wr F.SMB_C_ALERT.ADDR a).wrB F.SMB_C_STAT.ALERTSEEN true).cntSat F.SMB_C_ALERT.COUNT).raise 111 0 a
    | none => c1.wrB F.SMB_C_STAT.ALERTNAK true

/-! ### SMB1 -/

/-- One bit of the CRC-8 of the SMBus specification (x^8 + x^2 + x + 1). -/
def crc8Bit (v : Nat) : Nat := if 128 ≤ v then Nat.xor (2 * v % 256) 7 else 2 * v

/-- The PEC of a list of bytes. -/
def pec : Nat → List Nat → Nat
  | v, [] => v
  | v, b :: bs => pec (times (fun _ x => crc8Bit x) 8 (Nat.xor v (b % 256))) bs

/-- R487, R488, R492: the port answers its address byte; `prev`: the previous bus write has not committed yet. -/
def Core.smbAnswers (c : Core) (addr : Nat) : Bool := addr == c.rd F.SMB_T_CFG.ADDR && !c.standby

/-- R488: the address byte is refused. -/
def Core.smbRefuses (c : Core) (write prev : Bool) : Bool :=
  prev || !c.on F.SMB_T_CFG.EN || (write && !c.on F.SMB_T_CFG.OVWR && c.rd F.SMB_T_NEW.NEW != 0)

/-- R489: a protocol error. -/
def smbProto (c : Core) : Core := (c.wrB F.SMB_T_STAT.PROTOERR true).raise 110 0 1

/-- R489: the bytes of a write enter word `w`. -/
def smbCommit (w : Nat) (data : List Nat) (c : Core) : Core :=
  let f := F.SMB_T_WINB.WORD (w - 32)
  let c1 := forUp data.length (fun i c =>
    let v := c.rd f
    c.wr f (v - 2 ^ (8 * i) * bitsAt v (8 * i) 8 + 2 ^ (8 * i) * (data.getD i 0 % 256))) c
  (c1.wr F.SMB_T_NEW.NEW (Nat.lor (c1.rd F.SMB_T_NEW.NEW) (2 ^ (w - 32)))).raise 109 w (c1.rd f)

/-- R487 to R489: a block write: address, command code, data bytes, the PEC byte if one comes, and how the bus ends it. -/
def smbWrite (addr code : Nat) (data : List Nat) (pecByte : Option Nat) (prev : Bool) (fin : SmbEnd) (c : Core) : Core :=
  if !c.smbAnswers addr then c
  else if c.smbRefuses true prev then c.cntSat F.SMB_T_STAT.BUSYNAK
  else if code < 32 ∨ 63 < code ∨ data = [] ∨ 4 < data.length then c
  else if fin = .start ∨ fin = .stop then smbProto c
  else if c.on F.SMB_T_CFG.PECREQ then
    match pecByte with
    | none => smbProto c
    | some p =>
      if p = pec 0 ([2 * addr, code, data.length] ++ data) then
        let c1 := smbCommit code data c
        if fin = .extra then smbProto c1 else c1
      else (c.wrB F.SMB_T_STAT.PECERR true).raise 110 0 2
  else
    let c1 := smbCommit code data c
    if fin = .extra ∨ pecByte.isSome then smbProto c1 else c1

/-- R487, R488: a block read: the word is latched at the command byte and returned. -/
def smbRead (addr code : Nat) (prev : Bool) (fin : SmbEnd) (c : Core) : Core :=
  if !c.smbAnswers addr then c
  else if c.smbRefuses false prev then c.cntSat F.SMB_T_STAT.BUSYNAK
  else if 63 < code then c
  else if fin = .start ∨ fin = .stop then smbProto c
  else
    let v := if code < 32 then c.rd (F.SMB_T_WIN.WORD code) else c.rd (F.SMB_T_WINB.WORD (code - 32))
    let b := [4, v % 256, v / 256 % 256, v / 65536 % 256, v / 16777216 % 256]
    c.send (.smb 1 1 (if c.on F.SMB_T_CFG.PECREQ then b ++ [pec 0 ([2 * addr, code, 2 * addr + 1] ++ b)] else b))

/-- R490: SMB1_SCL has stayed low for 25 ms. -/
def smb1Timeout (c : Core) : Core := (c.wrB F.SMB_T_STAT.TIMEOUT true).raise 110 0 3

/-- The number by which the trace names SMB1_ALERT_N. -/
def alertPin : Nat := 40

/-- R491: ALERT is written 1. -/
def alertSet (c : Core) : Core := (c.wrB F.SMB_T_CTRL.ALERT true).send (.pin alertPin 0)

/-- R491: ALERTCLR is written 1. -/
def alertClear (c : Core) : Core := if c.on F.SMB_T_CTRL.ALERT then (c.wrB F.SMB_T_CTRL.ALERT false).send (.pin alertPin 1) else c

/-- R491: a read from the Alert Response Address; `won`: the port has sent every bit. -/
def alertResponse (won : Bool) (c : Core) : Core :=
  if !c.on F.SMB_T_CTRL.ALERT || c.standby then c else
    let c1 := c.send (.smb 1 2 [2 * c.rd F.SMB_T_CFG.ADDR])
    if won then ((c1.wrB F.SMB_T_CTRL.ALERT false).wrB F.SMB_T_STAT.ARADONE true).send (.pin alertPin 1) else c1

end Sys2Proof.Machine
end

