-- ==== Sys2Proof/Machine/Red.lean ====
section
/-! DEFINITION. RED, the redundant pair (R363 to R379): grant, tick frames, heartbeat, roles and hand-over. -/

namespace Sys2Proof.Machine

/-- The module belongs to a pair. -/
def Core.pair (c : Core) : Bool := c.on F.RED_CFG.PAIR

/-- The module is the active one of a pair. -/
def Core.active (c : Core) : Bool := c.pair && c.rd F.RED_STAT.ROLE == 1

/-- R377: the registers that show solo acceptance and whether commands are accepted. -/
def redShow (c : Core) : Core :=
  let c1 := c.wrB F.RED_STAT.SOLOACT (c.active && !c.on F.RED_STAT.SBYVALID && c.on F.RED_CFG.SOLO)
  c1.wrB F.HIF_STAT.ACCEPT c1.accepts

/-- R367, R376: a mirror that has to take the full state has been sent nothing. -/
def toldNothing (c : Core) : Core := { c with red := { c.red with sent := [], told := {}, credit := 0, estDue := true } }

/-- SBYVALID changes, with its event; a standby that is not valid any more resynchronises (R376). -/
def sbyValid (v : Bool) (c : Core) : Core :=
  if c.on F.RED_STAT.SBYVALID = v then redShow c
  else
    let c1 := (c.wrB F.RED_STAT.SBYVALID v).when (!v) toldNothing
    let c2 := if !v && c1.rd F.RED_STAT.ROLE == 2 then ({ c1 with red := { c1.red with full := false } }).wr F.RED_STAT.ROLE 3 else c1
    redShow (c2.raise 92 0 (b2n v))

/-- R374: the partner's frames show another active check value than the own one. -/
def Core.cvDiffers (c : Core) : Bool :=
  match c.red.peerCv with
  | some v => v != c.rd F.SAFM_CV_ACT.CV
  | none => false

/-- R376: the conditions of a valid standby, as far as the module sees them: the standby has the full state and its ticks and frames are
aligned. -/
def Core.sbyMay (c : Core) : Bool :=
  c.pair && c.rd F.RED_XLVER.USED != 0 && !c.on F.RED_STAT.XLF && !c.on F.RED_STAT.CVMIS && !c.cvDiffers && !c.on F.RED_STAT.GNTFAIL &&
    !c.on F.RED_STAT.PEERDEG && decide (c.red.lagTk ≤ 8) && (!c.standby || (c.red.full && c.red.aligned && c.tick.running))

/-- R376: a standby stays valid only while the conditions hold. -/
def sbyCheck (c : Core) : Core :=
  let c1 := c.wrB F.RED_STAT.PEERDEG (if c.standby then c.cnv.deg else c.red.peerDeg)
  if c1.on F.RED_STAT.SBYVALID && !c1.sbyMay then sbyValid false c1 else redShow c1

/-- R365: OWNGNT changes; the hardware gates the gate outputs and the chain transmitters of a pair's module. -/
def grantChange (g : Bool) (l : LineSt) (c : Core) : LineSt × Core :=
  let c1 := c.wrB F.RED_STAT.GNT g
  if l.pair || c.pair then
    ({ l with sending := g }, if g then c1 else { pwmSafe c1 with red := { c1.red with claim := c1.standby || c1.red.claim } })
  else (l, c1)

/-! ### Tick frames (R366 to R368) -/

/-- R366: the bytes that the working lanes carry in a tick. -/
def Core.laneBytes (c : Core) : Nat := (c.red.lanes % 2 + c.red.lanes / 2) * c.period / 25

/-- R367: the state-region words a frame holds, by the bytes that its lanes carry in a tick. -/
def Core.deltaMax (c : Core) : Nat := min 48 ((c.laneBytes - 104) / 4)

/-- R367: the state-region words that the mirror does not have. -/
def Core.deltaWords (c : Core) : List Nat := (upTo 256).filter (fun a => Tab.get 0 c.cte.dm a != Tab.get 0 c.red.sent a)

/-- R78, R367: the node table beside its registers, as a frame carries it. -/
def Core.ringInfo (c : Core) : RingInfo :=
  ⟨c.chn.total, c.chn.split, c.chn.exp, (upTo 40).map c.cser, (upTo c.chn.total).map (fun j => (c.node j).turn)⟩

/-- R209, R221, R223: what EST carries beside its contexts, as a frame carries it. -/
def Core.estInfo (c : Core) : EstInfo :=
  ⟨((c.rd2 F.TICK_OPS_LO.OPS F.TICK_OPS_HI.OPS : Int) - c.est.restBase).toNat, c.est.thru, c.est.cycFrac, c.est.serials, c.imp.refs⟩

/-- R367: the header and the control part of the frame of this tick. -/
def Core.frameHead (c : Core) : TickFrame :=
  let pend := fun (p v : Fld) => if c.on p then some (c.rd v) else none
  { lanes := c.red.lanes, ver := c.rd F.RED_XLVER.USED, seq := c.red.seq, epoch := c.shf.oepoch, tick := c.tbTick
    fnum := c.rd F.TICK_FNUM.FNUM, epos := c.rd F.TICK_EPOS.EPOS, esn := c.lastEsn
    prof := c.prof, profReq := pend F.TICK_PROFILE.PEND F.TICK_PROFILE.REQ, tickReq := pend F.TICK_PERIOD.PEND F.TICK_PERIOD.REQ
    frameReq := pend F.TICK_FRAME.PEND F.TICK_FRAME.REQ
    cnv := c.cnvState, fcause := c.rd F.CNV_STAT.FCAUSE, refsrc := c.rd F.CNV_STAT.REFSRC, nact := c.nact
    angles := (upTo 6).map (fun k => (c.rd (F.CNV_PH_ANG.ANG k), c.on (F.CNV_PH_ANG.ACT k)))
    duties := (upTo 12).map (fun i => Tab.get 0 c.cnv.shadow i), info := some ⟨c.cnv.ramp, c.cnv.iref, c.cnv.sleep, c.est.tgt⟩
    outreq := c.rd F.SAFM_OUTREQ.REQ, cv := c.rd F.SAFM_CV_ACT.CV, shfSeq := c.shf.seq, std := some c.cte.std
    mark := c.red.ho == 5, deg := c.cnv.deg }

/-- One item of the background part of a frame (R367): its bytes, what it puts into the frame, and what the mirror has from then on. The
sizes are the model's but for the 128 bytes of a journal record (DESIGN CHOICE, notes/assumptions/73). -/
structure BgItem where
  bytes : Nat
  put : TickFrame → TickFrame
  note : Told → Told := id

/-- The entries of a table, and the default ones of keys that have left it, that differ from what the mirror has. -/
def tabNews {α : Type} [DecidableEq α] (d : Nat → α) (now old : Tab α) : List (Nat × α) :=
  now.filter (fun x => Tab.get (d x.1) old x.1 != x.2) ++
    (old.filter (fun x => Tab.get (d x.1) now x.1 = d x.1 ∧ x.2 ≠ d x.1)).map (fun x => (x.1, d x.1))

/-- The reset value of the field with a key. -/
def keyReset (k : Nat) : Nat := (((regAt (k / 32)).find? (fun f => f.key == k)).map (fun f => f.reset)).getD 0

/-- Registers of the string's blocks that are each module's own: counters, windows and their selects, the line interface. -/
def ownRegs : List Nat :=
  [F.CHN_TONE.TONEA.off, F.CHN_ERR_A.CRC.off, F.CHN_ERR_B.CRC.off, F.MEAS_OWCNT.TESTS.off, F.MEAS_WSEL.NODE.off, F.BAL_CNT.MISS.off,
    F.IMP_CNT.DONE.off, F.IMP_RSEL.POS.off, F.EST_SAVE_STAT.SEQ.off, F.EST_PSEL.POS.off, F.CNV_CNT.STALLS.off, F.CNV_CNT2.STARTS.off,
    F.CTE_SATCNT.COUNT.off, F.CTE_SWCNT.COUNT.off, F.CTE_PMADDR.ADDR.off, F.CTE_PMDATA.DATA.off, F.CTE_DMADDR.ADDR.off,
    F.CTE_DMDATA.DATA.off, F.PROT_TRIPCNT.COUNT.off, F.SHF_CNT.LOSSES.off, F.SHF_CNT2.SUPP.off, F.SHF_CSEL.IDX.off]

/-- R415, R431: what of the host interface the mirror carries: the moderation of the vectors, the contexts of the ATU and its aging. -/
def sendsHost (k off : Nat) (cfg : Bool) : Bool :=
  cfg && decide (0x14000 ≤ off) && decide (off < 0x14064) ||
    decide (0x10400 ≤ off) && decide (off < 0x10500) && (regAt off).any (fun f => f.key == k && f.lsb != 24)

/-- R367: a register that the active module sends (DESIGN CHOICE, notes/assumptions/73): the node table, what EST shows of the string, the
configuration of the blocks of the string, and what R415 and R431 name of the host interface. -/
def sends (k : Nat) : Bool :=
  let off := k / 32
  let b := off / 16384
  let cfg := (regAt off).any (fun f => f.key == k && (f.acc == .rw || f.acc == .rwp))
  sendsHost k off cfg || decide (6 ≤ b) && decide (b ≤ 16) && b != 15 && !ownRegs.contains off && !(decide (0x380e0 ≤ off) && decide (off < 0x380f8)) &&
    (cfg || (b == 6 && decide (0x18008 ≤ off)) || (b == 10 && decide (0x28060 ≤ off) && decide (off < 0x28100)))

/-- A journal record as a frame carries it: an execution under way is the sender's own. -/
def JRec.sentForm (j : JRec) : JRec := { j with run := false, busy := false, wait := 0, ack := false }

/-- Two journal records are of the same command. -/
def JRec.isRec (x j : JRec) : Bool := x.ring == j.ring && x.sidx == j.sidx && x.cid == j.cid && (x.stg == 0 || x.fin == j.fin)

/-- A journal record takes the place of the one that it updates, or comes last. -/
def putRec (j : JRec) : List JRec → List JRec
  | [] => [j]
  | x :: l => if x.isRec j then j :: l else x :: putRec j l

/-- The item of a journal record: the whole record, or the mark that updates one. -/
def recItem (bytes : Nat) (j : JRec) : BgItem :=
  ⟨bytes, fun f => { f with journal := f.journal ++ [j] }, fun t => { t with recs := putRec j t.recs }⟩

/-- The register values that the mirror does not have. -/
def Core.regNews (c : Core) : List (Nat × Nat) := tabNews keyReset (c.csr.filter (fun x => sends x.1)) c.red.told.regs

/-- R367, R397: the background part, in the order in which it goes: what the journal has new, the node table, parameters and configuration,
then the marks of executed commands, whose effects have gone with them or before them; EST contexts after an epoch, and for a partner that
is no valid standby the peers. -/
def bgItems (q : NC) : List BgItem :=
  let c := q.2
  let t := c.red.told
  let news := (q.1.jrec.map JRec.sentForm).filter (fun j => !t.recs.contains j)
  let known := fun (j : JRec) => t.recs.any (fun x => x.isRec j)
  (tabNews (fun _ => ({} : JRing)) q.1.jring t.rings).map (fun x => ⟨16, fun f => { f with rings := f.rings ++ [x] }, fun t => { t with rings := Tab.put {} t.rings x.1 x.2 }⟩) ++
  (news.filter (fun j => !known j)).map (recItem 128) ++
  (if t.ring = some c.ringInfo then [] else [⟨128, fun f => { f with ring := some c.ringInfo }, fun t => { t with ring := some c.ringInfo }⟩]) ++
  (tabNews (fun _ => (0 : Int)) (c.cte.dm.filter (fun x => decide (256 ≤ x.1) && decide (x.1 < 384))) t.params).map
    (fun x => ⟨4, fun f => { f with params := f.params ++ [x] }, fun t => { t with params := Tab.put 0 t.params x.1 x.2 }⟩) ++
  c.regNews.map (fun x => ⟨8, fun f => { f with regs := f.regs ++ [x] }, fun t => { t with regs := Tab.put (keyReset x.1) t.regs x.1 x.2 }⟩) ++
  (news.filter known).map (recItem 16) ++
  (if c.red.estDue then
    (tabNews (fun _ => ({} : Ctx)) c.est.pos t.ctx).map (fun x => ⟨64, fun f => { f with ctx := f.ctx ++ [x] }, fun t => { t with ctx := Tab.put {} t.ctx x.1 x.2 }⟩) ++
    (if t.str = some c.est.str then [] else [⟨64, fun f => { f with str := some c.est.str }, fun t => { t with str := some c.est.str }⟩]) ++
    (if t.est = some c.estInfo then [] else [⟨64, fun f => { f with est := some c.estInfo }, fun t => { t with est := some c.estInfo }⟩])
  else []) ++
  (if c.on F.RED_STAT.SBYVALID then [] else
    (tabNews (fun _ => ({} : Peer)) c.shf.agg t.peers).map (fun x => ⟨64, fun f => { f with peers := f.peers ++ [x] }, fun t => { t with peers := Tab.put {} t.peers x.1 x.2 }⟩))

/-- The items that go into `n` bytes, in their order. -/
def bgTake : Nat → List BgItem → List BgItem
  | _, [] => []
  | n, x :: l => if x.bytes ≤ n then x :: bgTake (n - x.bytes) l else []

/-- R367: what the active module's frame carries beside header and control part: CTE delta, then background in the bytes that are left, which
are saved up for an item that needs more. -/
def frameFill (f0 : TickFrame) (q : NC) : NC :=
  let c := q.2
  let ds := c.deltaWords.take c.deltaMax
  let rest := c.deltaWords.length - ds.length
  let items := bgItems q
  let room := c.red.credit + (c.laneBytes - 100 - 4 * ds.length - 4 * f0.acks.length)
  let go := bgTake room items
  let all := go.length == items.length
  let f := go.foldl (fun f (x : BgItem) => x.put f) { f0 with delta := ds.map (fun a => (a, Tab.get 0 c.cte.dm a)), lag := rest != 0 }
  let c1 := { c with red := { c.red with
    sent := ds.foldl (fun t a => Tab.put 0 t a (Tab.get 0 c.cte.dm a)) c.red.sent, lag := rest
    lagTk := if rest = 0 then 0 else c.red.lagTk + 1
    told := go.foldl (fun t (x : BgItem) => x.note t) { c.red.told with recs := c.red.told.recs.filter (fun x => q.1.jrec.any (fun j => x.isRec j)) }
    credit := if all then 0 else room - sumN (go.map BgItem.bytes), estDue := c.red.estDue && !all } }
  (q.1, (c1.wrB F.RED_STAT.CTELAG (rest != 0)).send (.xl f))

/-- R365: a module that sends its own heartbeat on neither path stops claiming. -/
def heartFails (c : Core) : Core := { c with red := { c.red with claim := false } }

/-- R367, R370: the tick frame of this tick goes out on the lanes that work; a standby's has header, control part and acknowledgements. -/
def redSend (q : NC) : NC :=
  let c := q.2
  if !c.pair then q
  else if c.red.lanes = 0 then
    (q.1, if c.red.hbSent then { c with red := { c.red with hbSent := false } } else heartFails c)
  else
    let f := { c.frameHead with acks := c.red.acks }
    let c1 : Core := { c with
      red := { c.red with seq := (c.red.seq + 1) % 65536, acks := [], hbSent := false, ho := if c.red.ho = 5 then 3 else c.red.ho } }
    if c.standby then (q.1, sbyCheck (c1.send (.xl f)))
    else
      let q1 := frameFill f (q.1, c1)
      (q1.1, sbyCheck q1.2)

/-- R370: HBO toggles at a tick boundary. -/
def hboToggle (c : Core) : Core :=
  if c.pair then ({ c with red := { c.red with hbo := !c.red.hbo, hbSent := true } }).send (.pin hboPin (b2n (!c.red.hbo))) else c

/-- R370, R371: the check of the partner's heartbeat at a commit point; a path that is present again ends the silence that was declared. -/
def redHeart (xl hb : Bool) (c : Core) : Core :=
  if !c.pair then c else
    let both := decide (3 ≤ c.red.xlSil) && decide (3 ≤ c.red.hbSil)
    let gone := !xl && !hb && both && !c.on F.RED_STAT.GNT
    { c with
      red := { c.red with
        xlSil := if xl then 0 else c.red.xlSil + 1
        hbSil := if hb then 0 else c.red.hbSil + 1
        noGnt := if gone then c.red.noGnt + 1 else 0
        xlSaid := c.red.xlSaid && !xl, hbSaid := c.red.hbSaid && !hb, bothSaid := c.red.bothSaid && !xl && !hb, gntSaid := c.red.gntSaid && gone } }

/-- Both paths have been silent in 3 consecutive ticks. -/
def Core.bothSilent (c : Core) : Bool := c.pair && decide (3 ≤ c.red.xlSil) && decide (3 ≤ c.red.hbSil)

/-- R371: one path silent in 3 consecutive ticks, the other present: once for each silence. -/
def pathFault (xl : Bool) (c : Core) : Core :=
  let f := if xl then F.RED_STAT.XLF else F.RED_STAT.HBF
  let silent := if xl then decide (3 ≤ c.red.xlSil) && c.red.hbSil == 0 else decide (3 ≤ c.red.hbSil) && c.red.xlSil == 0
  let said := if xl then c.red.xlSaid else c.red.hbSaid
  if c.pair && silent && !said then
    let c1 := { c with red := { c.red with xlSaid := c.red.xlSaid || xl, hbSaid := c.red.hbSaid || !xl } }
    sbyCheck (((c1.wr f 1).cntSat F.RED_CNT2.PATHF).raise 89 0 (b2n xl))
  else c

/-- R371: the active module finds both paths silent: the standby is lost, once for each silence. -/
def standbyLost (c : Core) : Core :=
  if c.active && c.bothSilent && !c.red.bothSaid then
    let c1 := { c with red := { c.red with bothSaid := true } }
    if c1.on F.RED_STAT.SBYVALID then sbyValid false c1 else redShow (c1.raise 92 0 0)
  else c

/-- R371: a standby finds both paths silent and holds no grant for 1 further tick. -/
def grantFailure (c : Core) : Core :=
  if c.standby && c.bothSilent && decide (1 ≤ c.red.noGnt) && !c.red.gntSaid then
    sbyCheck ((({ c with red := { c.red with gntSaid := true } }).wr F.RED_STAT.GNTFAIL 1).raise 94 0 1)
  else c

/-- R368: an XL lane fails; with one lane the whole frame goes on the other. -/
def laneFailure (lane : Nat) (c : Core) : Core :=
  if c.pair then
    ({ c with red := { c.red with lanes := c.red.lanes - (if bitAt c.red.lanes lane then 2 ^ lane else 0) } }).wr F.RED_STAT.LANEF 1
  else c

/-- R378: the version that a pair uses, by the partner's range; a common one is needed. -/
def versionAgree (lo hi : Nat) (c : Core) : Core :=
  let c1 := c.wr F.RED_XLVER.PEERMAX hi
  let v := min hi (c1.rd F.RED_XLVER.OWNMAX)
  if lo ≤ v ∧ c1.rd F.RED_XLVER.OWNMIN ≤ v then (c1.wr F.RED_XLVER.USED v).wr F.RED_STAT.VERERR 0
  else if c1.on F.RED_STAT.VERERR then c1.wr F.RED_XLVER.USED 0
  else ((c1.wr F.RED_XLVER.USED 0).wr F.RED_STAT.VERERR 1).raise 93 0 hi

/-- R376: a resynchronisation has completed, on the standby or as the active module sees it; `lo`, `hi` the partner's XL
versions, `ms` its duration. The journal is complete for the active module once the standby has acknowledged every record. -/
def resyncComplete (lo hi ms : Nat) (nv : NvSt) (c : Core) : Core :=
  if !c.pair then c else
    let c1 := versionAgree lo hi c
    let c2 : Core := { c1 with red := { c1.red with full := true } }
    let c3 := if c.standby then c2.wr F.RED_SYNC.MS ms else c2
    let kept := c.standby || nv.jrec.all (fun j => j.ack)
    if c3.sbyMay && kept && !(c.standby && c.cnv.deg) then sbyValid true (if c.standby then establish (c3.wr F.RED_STAT.ROLE 2) else c3)
    else sbyCheck c3

/-- A register that the mirror carries: node table and configuration; what is each module's own stays (R64, R223, R342, R447). -/
def mirrored (off : Nat) : Bool :=
  let b := off / 16384
  decide (2 ≤ b) && decide (b ≤ 21) && b != 3 && b != 15 && b != 17 && off != F.EST_SAVE_STAT.SEQ.off && !(decide (0x8010 ≤ off) && decide (off < 0x8040)) &&
    !(b == 16 && decide (F.SHF_STAT.SLOT.off ≤ off))

/-- R368: a mirrored register field takes its value. -/
def mirrorReg (c : Core) (kv : Nat × Nat) : Core :=
  let off := kv.1 / 32
  if mirrored off then
    match (regAt off).filter (fun f => f.key == kv.1) with
    | f :: _ => c.wr f kv.2
    | [] => c
  else c

/-- R257, R270, R368: CNV of the standby takes its state from the control part; an entry to SOFT_START, a phase that becomes active and a
change of REFSRC make the next pass one with RELOAD. -/
def mirrorCnv (f : TickFrame) (c : Core) : Core :=
  let c1 := ((c.wr F.CNV_STAT.STATE f.cnv).wr F.CNV_STAT.FCAUSE f.fcause).wr F.CNV_STAT.REFSRC f.refsrc
  let c2 := forUp 6 (fun k c => match f.angles[k]? with
    | some a => (c.wr (F.CNV_PH_ANG.ANG k) a.1).wrB (F.CNV_PH_ANG.ACT k) a.2
    | none => c) (c1.wr F.CNV_STAT.NACT f.nact)
  let soft := f.cnv == 2 && c.cnvState != 2
  let new := c2.actPhases.filter (fun k => soft || !c.on (F.CNV_PH_ANG.ACT k))
  let i := f.info.getD ⟨c.cnv.ramp, c.cnv.iref, c.cnv.sleep, c.est.tgt⟩
  { c2 with
    cnv := { c2.cnv with
      shadow := Tab.putList 0 [] 0 (f.duties.take 12), ramp := i.ramp, iref := i.iref, sleep := i.sleep, fresh := c2.cnv.fresh ++ new
      reload := c2.cnv.reload || soft || new != [] || f.refsrc != c.rd F.CNV_STAT.REFSRC }
    est := { c2.est with tgt := i.tgt } }

/-- R280, R368: the mirror has the state and parameter words of the active module's engine. -/
def mirrorCte (f : TickFrame) (c : Core) : Core :=
  let m := (f.delta ++ f.params).foldl (fun t w => if w.1 < 384 then Tab.put 0 t w.1 w.2 else t) c.cte.mirror
  { c with cte := { c.cte with mirror := m, mirStd := f.std.getD c.cte.mirStd } }

/-- A request of the active module is pending here too, with its value, or is not. -/
def mirrorPend (req pend : Fld) (v : Option Nat) (c : Core) : Core :=
  match v with
  | some p => (c.wr req p).wr pend 1
  | none => c.wr pend 0

/-- R30, R368: pending requests are carried, and the standby commits them itself at the same frame boundary; the frame of the tick before
that boundary still shows them. DESIGN CHOICE (notes/assumptions/69): one that reached the active module in the last tick of the frame comes
after the boundary here, and a profile that has then committed is taken inside the frame, without its count or event. A standby that does not know its place in the frame yet takes the profile with its layout. -/
def mirrorReq (f : TickFrame) (c : Core) : Core :=
  if c.red.aligned && c.tick.pos == 0 then c else
    let c1 := (mirrorPend F.TICK_PROFILE.REQ F.TICK_PROFILE.PEND f.profReq c).wrB F.TICK_PROFILE.GO f.profReq.isSome
    let c2 := mirrorPend F.TICK_FRAME.REQ F.TICK_FRAME.PEND f.frameReq (mirrorPend F.TICK_PERIOD.REQ F.TICK_PERIOD.PEND f.tickReq c1)
    if c.prof = f.prof then c2 else takeLayout (profTick f.prof) (profFrame f.prof) (c2.wr F.TICK_PROFILE.ACT f.prof)

/-- R64: the frames of two ticks in a row show that a frame began with the later of the two. -/
def RedSt.sawStart (r : RedSt) (f : TickFrame) : Bool :=
  match r.mir with
  | some m => f.tick == m.1 + 1 && f.fnum != m.2
  | none => false

/-- R64: the standby's time bases; the frame of tick n is taken in tick n + 1, before which a frame may have ended. Its place in the frame
follows from a change of the frame number. -/
def mirrorTime (f : TickFrame) (c : Core) : Core :=
  let start := c.red.sawStart f
  let c1 := { c.wr2 F.TICK_COUNT_LO.COUNT F.TICK_COUNT_HI.COUNT (f.tick + 1) with
    tick := { c.tick with pos := if start then 1 else c.tick.pos }
    red := { c.red with mir := some (f.tick, f.fnum), aligned := c.red.aligned || start } }
  if c.red.aligned && !start && c.tick.pos == 0 then (c1.wr F.TICK_FNUM.FNUM (f.fnum + 1)).wr F.TICK_EPOS.EPOS ((f.epos + 1) % 10)
  else (c1.wr F.TICK_FNUM.FNUM f.fnum).wr F.TICK_EPOS.EPOS f.epos

/-- R64: a standby counts its own frames once it knows where they begin. -/
def Core.framesRun (c : Core) : Bool := !c.standby || c.red.aligned

/-- R78, R368: the node table beside its registers. -/
def mirrorRingLen (f : TickFrame) (c : Core) : Core :=
  match f.ring with
  | some r =>
    { c with chn := { c.chn with
      total := min 40 r.total, split := min 40 r.split, exp := min 40 r.exp, list := Tab.putList 0 [] 0 (r.list.take 40)
      rt := (r.turns.take 40).zipIdx.foldl (fun t x => Tab.put {} t x.2 { Tab.get {} t x.2 with turn := x.1 }) c.chn.rt } }
  | none => c

/-- R223: the save that a standby makes for what the mirrored registers show: EOC, EOD, a learned capacity, a NOW. -/
def mirrorSaves (was c : Core) : Core :=
  let rise := fun (f : Fld) => c.on f && !was.on f
  ((((c.when (rise F.EST_STAT.EOC) (saveTrigger 1)).when (rise F.EST_STAT.EOD) (saveTrigger 2)).when
    (c.rd F.EST_GLN_CTRL.COUNT != was.rd F.EST_GLN_CTRL.COUNT) (saveTrigger 3)).when (rise F.EST_SAVE_PERIOD.NOW) saveNow)

/-- R189, R209, R221, R223, R368: EST of the standby takes the mirrored contexts and what goes with them. -/
def mirrorEst (f : TickFrame) (c : Core) : Core :=
  let pos := f.ctx.foldl (fun t x => Tab.put {} t x.1 x.2) c.est.pos
  let c1 := { c with est := { c.est with pos := pos, str := match f.str with | some x => x | none => c.est.str } }
  match f.est with
  | some e =>
    { c1 with
      est := { c1.est with
        restBase := (c.rd2 F.TICK_OPS_LO.OPS F.TICK_OPS_HI.OPS : Nat) - e.noRest, thru := e.thru, cycFrac := e.cycFrac
        serials := e.serials.foldl (fun t x => Tab.put 0 t x.1 x.2) [] }
      imp := { c1.imp with refs := e.refs.foldl (fun t x => Tab.put {} t x.1 x.2) c1.imp.refs } }
  | none => c1

/-- R397, R404: the journal record of a ring's creation, restart or deletion reaches the standby's journal. -/
def mirrorRing (nv : NvSt) (p : Nat × JRing) : NvSt :=
  let r := p.1 % 64
  let recs := if p.2.live then nv.jrec else
    (nv.jrec.filter (fun j => !(j.ring == r && j.stg != 0))).map (fun j => if j.ring = r then { j with gone := true } else j)
  { nv with jrec := recs }.setRing r (fun _ => p.2)

/-- R367, R368: journal records reach the standby's journal and are acknowledged; acknowledgements reach the active module. -/
def mirrorJournal (f : TickFrame) (q : NC) : NC :=
  let nv1 : NvSt := { q.1 with jrec := q.1.jrec.map (fun j => if f.acks.contains (j.ring, j.sidx) then { j with ack := true } else j) }
  if q.2.standby then
    let nv2 := f.journal.foldl (fun (nv : NvSt) j =>
      { nv with jrec := putRec { j with ack := true, run := false, busy := false } nv.jrec }) (f.rings.foldl mirrorRing nv1)
    jFree (nv2, { q.2 with red := { q.2.red with acks := q.2.red.acks ++ f.journal.map (fun j => (j.ring, j.sidx)) } })
  else (nv1, q.2)

/-- R374: the modules compare the active check values; CVMIS is the standby's. -/
def mirrorCv (f : TickFrame) (own : Nat) (c : Core) : Core :=
  ({ c with red := { c.red with peerCv := some f.cv } }).wrB F.RED_STAT.CVMIS (c.standby && own != f.cv)

/-- R374: the request that the standby's channels get: the mirrored one, nothing while the check values differ. -/
def Core.mirrorReqOut (c : Core) (f : TickFrame) : Nat := if c.on F.RED_STAT.CVMIS then 0 else f.outreq

/-- What every frame tells of the partner. -/
def framePeer (f : TickFrame) (c : Core) : Core :=
  ({ c with red := { c.red with peerEsn := f.esn, peerDeg := f.deg } }).raise 88 0 f.seq

/-- What the standby takes from a frame beside the journal and the safety request. -/
def frameMirror (f : TickFrame) (c : Core) : Core :=
  let c0 := mirrorEst f (mirrorRingLen f (mirrorTime f (mirrorReq f (mirrorCte f (mirrorCnv f c)))))
  let c1 := mirrorSaves c0 (f.regs.foldl mirrorReg c0)
  { c1 with
    shf := { c1.shf with
      seq := f.shfSeq, oepoch := f.epoch
      agg := f.peers.foldl (fun t x => if t.any (fun y => y.1 == x.1) then t else Tab.put {} t x.1 x.2) c1.shf.agg }
    red := { c1.red with ho := if f.mark then 4 else c1.red.ho, lagTk := if f.lag then c1.red.lagTk + 1 else 0 } }

/-- R368: a tick frame arrives. -/
def tickFrame (f : TickFrame) (s : State) : State :=
  if s.pwr.held || !s.core.pair then s
  else if !f.crcOk then { s with core := s.core.cntSat F.RED_CNT2.CRCERR }
  else
    let q := mirrorJournal f (s.nv, mirrorCv f s.saf.cvAct (framePeer f s.core))
    if q.2.standby then
      let c := sbyCheck ((frameMirror f q.2).wrB F.RED_STAT.CTELAG f.lag)
      let x := outReq (c.mirrorReqOut f) s.line (s.saf, c)
      { s with nv := q.1, saf := x.1, core := x.2 }
    else { s with nv := q.1, core := sbyCheck q.2 }

/-! ### Roles (R372, R373) -/

/-- The tick and cause of the last role change. -/
def roleMark (cause : Nat) (c : Core) : Core :=
  (c.wr2 F.RED_LAST_LO.TICK F.RED_LAST_HI.TICK c.tbTick).wr F.RED_LAST_HI.CAUSE cause

/-- R372, R373: the CNV state in which the new active module starts: FAULT with a cause latched in its own PROT, the mirrored
state as a valid standby, else OFF. -/
def takeCnv (valid : Bool) (c : Core) : Core :=
  if c.on F.PROT_STAT.TRIP then cnvEnter 7 1 c
  else if valid then { c with red := { c.red with ho := 1 } }
  else cnvEnter 0 0 c

/-- R181, R219, R355: what is not carried over: a gleaning cycle, the slot, for which no releasing is sent, and a burst, which leaves no
record; the impedance interval starts afresh. DESIGN CHOICE (notes/assumptions/71): it starts at the instant of the role change, not at the
frame boundary after it, and a rest slot ends without a result. -/
def takeRest (c : Core) : Core :=
  let c0 := (c.wr F.SHF_STAT.SLOT 0).wr F.EST_REST_CTRL.STATE 0
  let c1 := ((c0.wr F.EST_GLN_CTRL.STATE 0).wr F.EST_GLN_CTRL.CAUSE 0).wr F.IMP_STAT.STATE 0
  { c1 with
    shf := { c1.shf with relLeft := 0, wait := 0, short := 0 }
    est := { c1.est with tgt := none, glnCount := false, glnEnd := false }
    imp := { c1.imp with due := false, since := 0, used := false, pert := false, capFrame := false, cur := [], buf := [], asks := [], bad := [], acked := [] } }

/-- R397, R405: the new active module's rings have the indices that its journal holds. -/
def ringsIndex (q : NC) : NC := (q.1, q.1.jring.foldl (fun c p => if p.2.live then c.wr (F.HIF_RIDX.MOD p.1) p.2.mod else c) q.2)

/-- R372: a standby that was not valid resumes nothing but measurement, chain and safety: CNV is in OFF; commands of its journal that no
execution mark covers are not executed; EST, balancing and sheaf traffic stand as after a reset (DESIGN CHOICE, notes/assumptions/74). -/
def takeBare (q : NC) : NC :=
  let c := q.2
  let ops := c.rd2 F.TICK_OPS_LO.OPS F.TICK_OPS_HI.OPS
  let c1 := (((estLoad q.1 ops { c with est := {} }).wr F.BAL_CFG.MODE F.BAL_CFG.MODE.reset).wr F.SHF_CTRL.EN 0)
  ({ q.1 with jrec := q.1.jrec.filter (fun j => j.stg != 0) }, c1)

/-- R405: the vectors of a link that the module takes over are reset. -/
def vectorsReset (c : Core) : Core :=
  forUp 64 (fun v c => c.wr (F.HIF_MOD.PENDING v) 0)
    { c with hif := { c.hif with men := [], mpend := [], due := [], since := [], modPend := [], rbuf := [] } }

/-- R372, R373: the standby takes the role: sequencer (R72), owner epoch (R342), rings FROZEN (R405), vector 0 of F0 due (R406),
CNV, and what CAN and SMB0 hold pending (R492). `src` is the event source, `cause` of the role change. -/
def takeRole (src cause : Nat) (q : NC) : NC :=
  let valid := q.2.on F.RED_STAT.SBYVALID
  let c := q.2
  let c1 : Core := { c with
    shf := { c.shf with oepoch := (c.shf.oepoch + 1) % 256 }
    red := { c.red with ho := 0, full := false, claim := true, aligned := true } }
  let c2 := roleMark cause (showRoEst (takeRest (evrTakeOver c.red.peerEsn (c1.wr F.RED_STAT.ROLE 1))))
  let c3 := (takeCnv valid c2).raise src 0 cause
  let c4 := smbBusFree (txStart (vectorsReset (toldNothing (sbyValid false (c3.wr F.RED_STAT.CVMIS 0)))))
  let ops := c.rd2 F.TICK_OPS_LO.OPS F.TICK_OPS_HI.OPS
  let q1 := ringsRestore (freezeAll ops (ringsIndex (if valid then (recsIdle q.1, c4) else takeBare (recsIdle q.1, c4))))
  hifPump (q1.1, { q1.2 with hif := { q1.2.hif with mpend := [0] } })

/-- R371, R372: the standby finds the active module failed, with the grant: switch-over. -/
def switchOver (q : NC) : NC :=
  if q.2.standby && q.2.bothSilent && q.2.on F.RED_STAT.GNT then
    takeRole 90 1 (q.1, q.2.cntSat F.RED_CNT.SWITCH)
  else q

/-- R373: HANDOVER is written: the hand-over starts with a valid standby, else it is refused. -/
def handover (cause : Nat) (c : Core) : Core :=
  if c.active && c.on F.RED_STAT.SBYVALID then
    ({ c with red := { c.red with ho := if c.red.ho = 0 then 5 else c.red.ho, hoCause := cause } }).wr F.RED_CTRL.HANDOVER 1
  else c.wr F.RED_STAT.HOERR 1

/-- R373 step 2: at the boundary after the marked frame the active module gates off, stops claiming and becomes standby; events that waited
for ring 2 or Ethernet are not sent any more (R369). -/
def handoverOff (c : Core) : Core :=
  if c.red.ho = 3 then
    let c1 := takeRest (mirrorInit { pwmSafe c with ev := { c.ev with ring2 := [], eth := [] }, hif := { c.hif with rbuf := [], xf := [], desc := [] }, red := { c.red with ho := 0, claim := false, full := false, mir := none, aligned := true } })
    let c2 := ((roleMark c.red.hoCause c1).wr F.RED_CTRL.HANDOVER 0).cntSat F.RED_CNT.HANDOVERS
    (sbyValid false (txFailed (c2.wr F.RED_STAT.ROLE 3))).raise 91 0 c.red.hoCause
  else c

/-- R373 step 3: at the commit point after the marked frame the former standby takes the role. -/
def handoverTake (q : NC) : NC :=
  if q.2.red.ho = 4 && q.2.standby then takeRole 91 (if q.2.red.peerDeg then 3 else 2) (q.1, q.2.cntSat F.RED_CNT.HANDOVERS) else q

/-- R375: degraded mode of the active module with a valid standby asks for a hand-over in place of the soft stop. -/
def degradedHandover (c : Core) : Core :=
  if c.cnv.degNew && c.active && c.on F.RED_STAT.SBYVALID then
    handover 3 { c with cnv := { c.cnv with degNew := false } }
  else c

end Sys2Proof.Machine
end

