-- ==== Sys2Proof/Machine/Tick.lean ====
section
/-! DEFINITION. TICK (R17, R23 to R32, R52 to R69): tick boundaries, frame boundaries, commit points, requests, snapshots. -/

namespace Sys2Proof.Machine

/-! ### Commits at a tick boundary -/

/-- R17: a held write that commits at this tick boundary. -/
def commitsAtTick (w : PWrite) : Bool := (w.fld.cls == .tick || w.fld.cls == .own) && !w.late && !postedBlock (w.fld.off / 16384)

/-- R301: a register of cause bits of PROT as one word, which a write clears. -/
def causeWord (reg : Nat) : Fld := ⟨if reg = 0 then F.PROT_TRIP0.TIN.off else F.PROT_TRIP1.LOSS.off, 0, 32, 0, .w1c, .own, 0, false⟩

/-- R17: a master's write of a field in CTL that has a command of its own is held for the boundary. -/
def holdOwn (m : Master) (f : Fld) (how : WMode) (bits : Nat) (late : Bool) (c : Core) : Core :=
  holdWrite ⟨f, bits, how, late, m⟩ c

/-- R17: a host write that a command without an operand for it stands for: it is late if its instant, which is free (notes/assumptions/2),
lies behind the cut-off. -/
def holdNow (f : Fld) (bits : Nat) (c : Core) : Core := holdOwn .f0 f .normal bits c.pastCutOff c.moment

/-- R17: a write that the module's own command processor makes in CTL, held like a host's. -/
def holdCmd (f : Fld) (bits : Nat) (c : Core) : Core := holdOwn .super f .normal bits c.pastCutOff c.moment

/-- R16, R17: the writes of one ring command in CTL, at one instant. -/
def holdAll (ws : List (Fld × Nat)) (c : Core) : Core :=
  ws.foldl (fun d w => holdOwn .super w.1 .normal w.2 c.pastCutOff d) c.moment

/-- R17, R38, R273, R276, R301: one held write takes effect; a word that the engine discards is counted for its master. -/
def ctlApply (c : Core) (w : PWrite) : Core :=
  let shown := w.fld.off + 4096 * viewIndex w.how
  if w.fld.key = F.CTE_PMDATA.DATA.key then
    (pmWrite (w.fld.after w.how (c.pmWord (c.rd F.CTE_PMADDR.ADDR)) w.bits) c).when c.pmBarred (accViol w.mst 0 shown)
  else if w.fld.key = F.CTE_DMDATA.DATA.key then
    (dmWrite (w.fld.after w.how (c.dmWord (c.rd F.CTE_DMADDR.ADDR)) w.bits) c).when c.dmBarred (accViol w.mst 0 shown)
  else if w.fld.key = (causeWord 0).key then clearTrip0 w.bits c
  else if w.fld.key = (causeWord 1).key then clearTrip1 w.bits c
  else c.apply w

/-- R91: a tick length goes to the nodes of the ring, which hold it staged. -/
def stageTick (p : Nat) (c : Core) : Core := ({ c with chn := { c.chn with tchg := some p } }).packet 3 6 63 (leBytes 2 p)

/-- R59, R91: the new tick length that a pending request asks for, a profile switch first. -/
def Core.newTick (c : Core) : Option Nat :=
  let p := if c.on F.TICK_PROFILE.PEND then profTick (c.rd F.TICK_PROFILE.REQ)
    else if c.on F.TICK_PERIOD.PEND then c.rd F.TICK_PERIOD.REQ else c.period
  if p = c.period then none else some p

/-- The ring is enumerated and its frames run: SYNC goes out, or in a standby comes from the module that runs the chain. -/
def Core.runsChain (c : Core) : Bool := c.on F.CHN_STAT.ENUMDONE && c.chn.run.isNone

/-- R91, R96: a new tick length that is asked for goes to the nodes in the first background chain time, ahead of the frame boundary at
which it is due, once. -/
def stageDue (c : Core) : Core :=
  match c.newTick with
  | some p => if c.runsChain && c.chn.tchg != some p && c.background then stageTick p c else c
  | none => c

/-- R67: an arming boundary. -/
def snapArm (c : Core) : Core :=
  let src := c.rd F.TICK_SNAP_CTRL.SRC
  (({ c with tick := { c.tick with snapSrc := some src, snapAge := 0, snapDue := src == 0, snapAgain := false } }).wr
    F.TICK_SNAP_CTRL.VALID 0).wr F.TICK_SNAP_CTRL.GO 1

/-- R67, R49: GO commits; while one is set it counts only at the boundary of the capture. -/
def snapGo (was : Bool) (c : Core) : Core :=
  if was then
    let now := c.tick.snapSrc == some 1 || (c.tick.snapSrc == some 2 && decide (c.nf ≤ c.tick.pos + 1))
    { c with tick := { c.tick with snapAgain := c.tick.snapAgain || now } }
  else snapArm c

/-- R67: a boundary passes for a snapshot armed before it. -/
def snapTick (c : Core) : Core :=
  if c.tick.snapSrc.isSome then
    { c with tick := { c.tick with snapAge := c.tick.snapAge + 1, snapDue := c.tick.snapDue || c.tick.snapSrc == some 1 } }
  else c

/-- R17, R31, R59: the held writes of the tick commit in their order, and requests among them pend. -/
def commitTick (c : Core) : Core :=
  let ws := c.wait.filter commitsAtTick
  let has := fun (f : Fld) => ws.any (fun w => w.fld.key == f.key)
  let was := c.on F.TICK_SNAP_CTRL.GO
  let c1 := ws.foldl ctlApply { c with wait := c.wait.filter (fun w => !commitsAtTick w) }
  let c2 := c1.when (has F.TICK_PERIOD.REQ) (fun c => c.wr F.TICK_PERIOD.PEND 1)
  let c3 := c2.when (has F.TICK_FRAME.REQ) (fun c => c.wr F.TICK_FRAME.PEND 1)
  let c4 := c3.when (has F.TICK_PROFILE.GO) (fun c => c.wr F.TICK_PROFILE.PEND 1)
  c4.when (has F.TICK_SNAP_CTRL.GO) (snapGo was)

/-! ### Time bases -/

/-- R62: TB_TICK, whose phase starts again, TB_LINK (7.8125 ns, so 32 clocks in 125 of CTL) and TB_PLANT (rate ADJ in 0.1 ppb) over a
tick. -/
def timeTick (c : Core) : Core :=
  let lk := c.tick.linkFrac + c.period * 32
  let pl : Int := (c.tick.plantFrac : Int) + 2 * c.period * (10 ^ 10 + c.rdS F.PTP_RATE.ADJ)
  let c1 := c.wr2 F.TICK_COUNT_LO.COUNT F.TICK_COUNT_HI.COUNT (c.tbTick + 1)
  plantMove (pl / 10 ^ 10) { c1 with
    tick := { c1.tick with phase := 0, link := (c.tick.link + lk / 125) % 2 ^ 64, linkFrac := lk % 125, plantFrac := (pl % 10 ^ 10).toNat } }

/-! ### Tick boundary (R52, R53, R58 steps 1 and 2) -/

/-- R372, R373: what a hand-over does at a tick boundary: the former active module gates off; the new one has loaded the held duty. -/
def handoverBoundary (c : Core) : Core :=
  let c1 := handoverOff c
  if c1.red.ho = 1 then { c1 with red := { c1.red with ho := 0 } } else c1

/-- What the boundary commits: CTL writes, topology and SDM configuration, PROT configuration; a new tick length goes to the nodes. -/
def boundaryCommit (c : Core) : Core := stageDue (cnvCfgCommit (protCfgCommit (commitTick c)))

/-! ### Requests at a frame boundary (R29, R59; R58 step 3) -/

/-- CNV is in soft start or soft stop. -/
def Core.soft (c : Core) : Bool := c.cnvState == 2 || c.cnvState == 6

/-- R24: a tick and a frame length fit with a measurement configuration. -/
def Core.fits (c : Core) (m : Nat × Nat × Nat) (p nf : Nat) : Bool := layoutFits c.chn.total m.1 m.2.1 m.2.2 p nf

/-- The measurement configuration that governs. -/
def Core.measGov (c : Core) : Nat × Nat × Nat := (c.meas.mode, c.meas.n, c.meas.s)

/-- R119: the measurement configuration after this boundary, by the checks that do not depend on the layout. -/
def Core.measNext (c : Core) : Nat × Nat × Nat :=
  let r := c.measReq
  if c.on F.MEAS_CFG.PEND && measRange r.1 r.2.1 r.2.2 && !(r.1 == 1 && decide (2 ≤ r.2.1) && decide (20 < c.chn.total)) then r else c.measGov

/-- A pending request of a tick or frame length ends with a result. -/
def endRequest (pend err : Fld) (v : Nat) (c : Core) : Core := if c.on pend then (c.wr pend 0).wr err v else c

/-- Both requests of tick and frame length end with one result. -/
def endRequests (v : Nat) (c : Core) : Core :=
  endRequest F.TICK_FRAME.PEND F.TICK_FRAME.ERR v (endRequest F.TICK_PERIOD.PEND F.TICK_PERIOD.ERR v c)

/-- R29: the outcome of a pending switch to profile `p`: 1, 2 refused, 0 commits, none stays pending. -/
def Core.profileCheck (c : Core) (p : Nat) : Option Nat :=
  if !admittedFor c (profTick p) then some 1
  else if !c.fits c.measGov (profTick p) (profFrame p) then some 2
  else if c.soft then none
  else some 0

/-- The end of a pending switch. -/
def profileEnd (err : Nat) (c : Core) : Core := ((c.wr F.TICK_PROFILE.GO 0).wr F.TICK_PROFILE.PEND 0).wr F.TICK_PROFILE.ERR err

/-- R188, R181, R182, R29: what a switch does to the impedance measurement. -/
def profileImp (p : Nat) (c : Core) : Core := if 2 ≤ p then burstDrop (timpClear (burstAbandon 1 c)) else c

/-- R28, R29, R32: a switch to profile `p` commits; direct requests are dropped (R59). -/
def profileCommit (p : Nat) (c : Core) : Core :=
  let c1 := (profileEnd 0 c).cntWrap F.TICK_PROFILE_SW.COUNT
  let c2 := (c1.wr F.TICK_PROFILE_SW.FROM c.prof).wr F.TICK_PROFILE.ACT p
  let dropped := c2.on F.TICK_PERIOD.PEND || c2.on F.TICK_FRAME.PEND
  let c3 := takeLayout (profTick p) (profFrame p) (endRequests 4 c2)
  let c4 := c3.raise 4 0 ((c.rd F.TICK_FNUM.FNUM + 1) % 2 ^ 32)
  burstLeave (profileImp p (c4.when dropped (fun c => c.raise 5 0 4)))

/-- R29: a pending switch at a frame boundary. -/
def profileEvaluate (c : Core) : Core :=
  if c.on F.TICK_PROFILE.PEND then
    let p := c.rd F.TICK_PROFILE.REQ
    match c.profileCheck p with
    | none => c
    | some 0 => profileCommit p c
    | some e => (profileEnd e c).raise 4 0 e
  else c

/-- R59: the outcome of the direct requests for tick length `p` and frame length `nf`. -/
def Core.layoutCheck (c : Core) (p nf : Nat) : Option Nat :=
  if p < 5000 || 50000 < p || nf < 100 || 5000 < nf then some 3
  else if p != c.period && !admittedFor c p then some 1
  else if !c.fits c.measNext p nf then some 2
  else if p != c.period && c.soft then none
  else some 0

/-- R59: the pending requests of tick and frame length, while no profile switch is left pending. -/
def layoutEvaluate (c : Core) : Core :=
  if (c.on F.TICK_PERIOD.PEND || c.on F.TICK_FRAME.PEND) && !c.on F.TICK_PROFILE.PEND then
    let p := if c.on F.TICK_PERIOD.PEND then c.rd F.TICK_PERIOD.REQ else c.period
    let nf := if c.on F.TICK_FRAME.PEND then c.rd F.TICK_FRAME.REQ else c.nf
    match c.layoutCheck p nf with
    | none => c
    | some 0 => (takeLayout p nf (endRequests 0 c)).raise 5 0 0
    | some e => (takeLayout c.period c.nf (endRequests e c)).raise 5 0 e
  else c

/-- R57, R58: the tick boundary under way is a frame boundary too, at which a request of profile, tick or frame waits. -/
def Core.asksHere (c : Core) : Bool :=
  c.framesRun && decide (c.nf ≤ c.tick.pos + 1) && (c.on F.TICK_PROFILE.PEND || c.on F.TICK_PERIOD.PEND || c.on F.TICK_FRAME.PEND)

/-- R273, R275, R276: the control engine at a boundary. The swap is step 4 of R58: where requests are evaluated at step 3, in the frame
boundary that follows, it waits for them, and whether it takes place is known from the tick length that they give. -/
def engineBoundary (c : Core) : Core :=
  let c1 := cteHalt c
  let c2 : Core := { c1 with cte := { c1.cte with due := false } }
  if c2.asksHere then
    let p := (layoutEvaluate (profileEvaluate c2)).period
    let goes := match c2.cte.stg with | some s => s.swap == 1 && decide (s.pmin ≤ p) | none => false
    paramTick { c2 with cte := { c2.cte with due := goes } }
  else paramTick (swapNow c2)

/-- R58 step 4, R181, R273, R276, R290: the tick length has changed. -/
def tickChanged (c : Core) : Core := pwmLoad (paramChange (swapAtChange (burstAbandon 4 (xDrop c))))

/-- R273: a swap that was due at the frame boundary is decided. -/
def Core.swapMet (c : Core) : Core := { c with cte := { c.cte with due := false } }

/-- R58 steps 3 and 4. -/
def requestsEvaluate (c : Core) : Core :=
  let p := c.period
  let c1 := layoutEvaluate (profileEvaluate c)
  swapNow (c1.when (c1.period != p) tickChanged).swapMet

/-! ### Tick boundary: the work of the blocks (R52, R53, R58 steps 1 and 2) -/

/-- R223, R246, R257, R270, R381: estimation and the converter's own sequence, which the standby takes from the mirror, with its own saves and
operands. What EST passed before the boundary governs from it. -/
def ownTick (c0 : Core) : Core :=
  let c := estCross c0
  if c.standby then
    let c1 := bounds (shfTick (impTick c))
    { c1 with est := { c1.est with sinceSave := c1.est.sinceSave + c1.period }, prot := { c1.prot with tripSeen := false } }
  else cnvTick (degradedHandover (shfTick (impTick (estTick (c.role 2) c.isLost c))))

/-- The blocks after the commits of a tick boundary; the PWM loads with the phases that are active now. A trip that a frame record makes
forces the gates safe here, and CNV meets it at the next boundary (R294, R299). -/
def boundaryWork (conf : Bool) (outs : List (List Int)) (c : Core) : Core :=
  let c1 := engineBoundary (balTick (sdmTick outs c))
  let c2 := protDue (pwmLoad (ownTick (protTick conf c1)))
  latchPorts (governShow (if c2.standby then c2 else gleanTick (cnvLeft c2)))

/-- R52: a tick boundary; `conf` whether the safety channels hold an active set, `outs` the filter outputs of each input in the tick that
ended. -/
def tickBoundary (conf : Bool) (outs : List (List Int)) (c : Core) : Core :=
  if c.tick.running then
    let c1 := atPhase 0 (fun c => boundaryWork conf outs (boundaryCommit (handoverBoundary (snapTick (pwmShift (hboToggle c)))))) (timeTick c)
    { c1 with tick := { c1.tick with pos := c1.tick.pos + 1, marks := min 5000000 (c1.tick.marks + c1.period) } }
  else c

/-! ### Frame boundary (R57, R58) -/

/-- The nodes whose NPOS or NTCEN a held write changes. -/
def Core.cfgNodes (c : Core) (p : PWrite → Bool) : List Nat :=
  (upTo 40).filter (fun j => c.wait.any (fun w => p w && (w.fld.key == (F.MEAS_NCFG.NPOS j).key || w.fld.key == (F.MEAS_NCFG.NTCEN j).key)))

/-- R83, R143, R303: configuration that commits at a frame boundary; a new open-wire threshold goes to the nodes, NPOS and NTCEN at the
next frame boundary. -/
def frameCommit (c : Core) : Core :=
  let mine := fun (w : PWrite) => w.fld.cls == .frame && !w.late
  let thr := c.wait.any (fun w => mine w && w.fld.key == F.MEAS_OW.THR.key)
  let js := c.cfgNodes mine
  let c1 := (protFrameCommit (fun w => mine w && w.fld.off / 16384 == 14) c).commit mine
  let c2 := c1.when (thr && c1.on F.CHN_STAT.ENUMDONE) (fun c => c.packet 3 6 63 (leBytes 2 c.owThr))
  let c3 := cfgSend c2
  { c3 with chn := { c3.chn with cfgDue := c3.chn.cfgDue ++ js.filter (fun j => !c3.chn.cfgDue.contains j) } }

/-- R130, R132: whether the frame `f` that starts is an open-wire frame; a due test waits while a burst captures. -/
def owDecide (f : Nat) (c : Core) : Core :=
  let per := c.rd F.MEAS_OW.PERIOD
  let m := c.meas
  let due := (per != 0 && f % per == 0) || m.owConfirm || m.owRepeat || m.owDefer
  if due && c.impState == 3 then { c with meas := { m with ow := false, owDefer := true } }
  else { c with meas := { m with ow := due, owConfirm := false, owRepeat := false, owDefer := false } }

/-- R132: a test that a sampling node did not perform is repeated. -/
def owMissed (c : Core) : Core := if openWireMissed c then { c with meas := { c.meas with owRepeat := true } } else c

/-- R57: the frame number and the epoch position advance. -/
def frameAdvance (c : Core) : Core :=
  let c1 := (c.wr F.TICK_FNUM.FNUM (c.rd F.TICK_FNUM.FNUM + 1)).wr F.TICK_EPOS.EPOS ((c.rd F.TICK_EPOS.EPOS + 1) % 10)
  { c1 with tick := { c1.tick with pos := 0 } }

/-- R158, R160, R163, R201, R352, R358, R360, R367: the work of an epoch boundary; configuration that commits there commits first. DESIGN
CHOICE (notes/assumptions/77): EST and BAL work with the sheaf mean that stood before the boundary; the new one is formed after them. -/
def epochBoundary (ops : Nat) (c : Core) : Core :=
  let clk := c.est.clk
  let c1 := balObjects (deratingCommit (pidCommit c.pid (c.commit (fun w => w.fld.cls == .epoch && !w.late))))
  let c2 := if c1.standby then estWindow ops c1 else estEpoch ops c1
  let c3 := (dispatchShare (sheafMean (deratingPublish (biasUpdate (coolingUpdate clk c2))))).raise 1 0 (c.rd F.TICK_FNUM.FNUM)
  { c3 with red := { c3.red with estDue := true } }

/-- R81, R130, R177: the flags of SYNC; `tchg` whether the tick length changed at its boundary. -/
def Core.syncFlags (c : Core) (tchg : Bool) : Nat := b2n c.meas.ow + 2 * b2n tchg + 4 * b2n (c.impState == 3)

/-- R81, R89, R91: SYNC with the parameters of the new frame. A node that has been re-addressed takes part from here (R87). A tick length
that commits and that the nodes do not hold staged goes out ahead of SYNC (DESIGN CHOICE, notes/assumptions/68). -/
def syncSend (tchg : Bool) (c0 : Core) : Core :=
  if c0.runsChain then
    let c := c0.when (tchg && c0.chn.tchg != some c0.period) (stageTick c0.period)
    let c1 := (delayApply c).packet 3 0 63 (leBytes 4 (c.rd F.TICK_FNUM.FNUM) ++ leBytes 2 40 ++
      leBytes 3 (c.rd F.MEAS_PHASE.PHASE * (16 * c.period) / 65536) ++ [c.meas.n] ++ leBytes 2 c.meas.s ++ [c.syncFlags tchg])
    { c1 with chn := { c1.chn with
      synced := true, tchg := none, rt := c1.chn.rt.map (fun (x : Nat × NodeRt) => (x.1, { x.2 with joins := x.2.joins && x.2.hello })) } }
  else { c0 with chn := { c0.chn with synced := false } }

/-- What the new frame starts with: nothing read, no latches, the wire decisions as the records show them. -/
def frameReset (c : Core) : Core :=
  { c with
    chn := { c.chn with
      rt := c.chn.rt.map (fun (x : Nat × NodeRt) => (x.1, x.2.cleared))
      rodone := false, deadline := false, published := false, dlyCnt := c.chn.dlyCnt + 1 }
    meas := { c.meas with latches := [], wireAct := c.meas.wire } }

/-- R58 steps 5 and 6: the frame advances, the epoch's work, the snapshot of the boundary. -/
def frameSteps (ops : Nat) (c : Core) : Core :=
  let c1 := frameAdvance c
  let c2 := if c1.rd F.TICK_EPOS.EPOS = 0 then epochBoundary ops c1 else c1
  if c2.tick.snapSrc = some 2 ∧ 1 ≤ c2.tick.snapAge then { c2 with tick := { c2.tick with snapDue := true } } else c2

/-- R119, R120, R125, R102: the layout of the new frame beyond the tick. -/
def frameLayout (c : Core) : Core := splitApply (nposExcess (dictatedWithdrawn (measCfgEvaluate c)))

/-- R175, R177, R182: bursts at a frame boundary. -/
def frameBurst (c : Core) : Core := captureBoundary (c.rd F.TICK_FNUM.FNUM) (prerollOrigin (c.rd F.TICK_FNUM.FNUM) (burstBoundary c))

/-- R58 step 7 and what the blocks do with the new frame. -/
def frameStart (tchg : Bool) (c : Core) : Core :=
  let f := c.rd F.TICK_FNUM.FNUM
  let c1 := syncSend tchg (owDecide f (frameBurst (frameReset c)))
  let barred := c1.imp.capFrame || c1.rd F.EST_REST_CTRL.STATE == 2
  let c2 := showRoEst (bleedFrame f c1.chn.synced barred c1.meas.ow c1).showLayout
  latchPorts (c2.raise 0 0 f)

/-- R58, R298: the work of a frame boundary; the insulation of the frame that ended is judged before configuration commits. -/
def frameWork (ops : Nat) (c : Core) : Core :=
  let c1 := impCfg (requestsEvaluate (frameCommit (owMissed (missCount (isoFrame c)))))
  frameStart (c1.period != c.period) (frameSteps ops (frameLayout c1))

/-- R57: a frame boundary, after the tick boundary it falls on, at its phase 0. -/
def frameBoundary (ops : Nat) (c : Core) : Core :=
  if c.tick.running && c.framesRun && decide (c.nf ≤ c.tick.pos) then
    atPhase 0 (frameWork ops) c
  else c

/-! ### Commit point (R53, R55, R365, R367, R370) -/

/-- R372: a standby keeps the mirrored duty, and so does a new active module until it has loaded it. -/
def commitDuty (c : Core) : Core :=
  if c.standby || c.red.ho = 1 then
    let late := c.passLate
    let c1 : Core := { c with cte := { c.cte with first := false }, cnv := { c.cnv with reload := false, fresh := [] } }
    if late then (c1.cntSat F.TICK_CMISS.COUNT).raise 3 0 (c1.tbTick % 2 ^ 32) else c1
  else commitPoint c

/-- Writes that came after the cut-off count from the next boundary on (R17, R53). -/
def cutOffOver (c : Core) : Core :=
  { c with wait := c.wait.map (fun w => { w with late := false }), prot := { c.prot with refIn := c.prot.refIn.map (fun x => (x.1, false)) } }

/-- R53: the commit point of a tick; `xl`, `hb` whether the partner's frame and heartbeat have come (R370). -/
def commitInstant (xl hb : Bool) (q : NC) : NC :=
  if q.2.tick.running then
    let t := q.2.tick
    let q1 := handoverTake (q.1, redHeart xl hb { q.2 with tick := { t with phase := max t.phase (64 * q.2.period / 5), exact := true } })
    let q2 := redSend (q1.1, commitDuty q1.2)
    let c1 := cutOffOver q2.2
    (q2.1, { c1 with tick := { c1.tick with exact := false } })
  else q

/-! ### Snapshot (R66 to R69) -/

/-- R66: the values of a capture: TB_PLANT seconds and nanoseconds, TB_LINK and phase. -/
def snapValues (phase : Nat) (sec ns lk : Nat) (c : Core) : Core :=
  let c1 := ((c.wr2 F.TICK_SNAP_TK_LO.TK F.TICK_SNAP_TK_HI.TK c.tbTick).wr F.TICK_SNAP_PHASE.PHASE phase).wr F.TICK_SNAP_FNUM.FNUM
    (c.rd F.TICK_FNUM.FNUM)
  let c2 := ((c1.wr F.TICK_SNAP_PL_NS.NS ns).wr2 F.TICK_SNAP_PL_S_LO.S F.TICK_SNAP_PL_S_HI.S sec).wr2 F.TICK_SNAP_LK_LO.LK
    F.TICK_SNAP_LK_HI.LK lk
  let c3 := (c2.wr2 F.TICK_SNAP_OPS_LO.OPS F.TICK_SNAP_OPS_HI.OPS (c.rd2 F.TICK_OPS_LO.OPS F.TICK_OPS_HI.OPS)).wr
    F.TICK_SNAP_PWRCYC.PWRCYC (c.rd F.TICK_PWRCYC.PWRCYC)
  c3.wr2 F.TICK_SNAP_ESN_LO.ESN F.TICK_SNAP_ESN_HI.ESN c.lastEsn

/-- R67: the capture ends: VALID, CAPS, GO clears unless it has been written again at this boundary (R49). -/
def snapEnd (c : Core) : Core :=
  let c1 := ((c.wr F.TICK_SNAP_CTRL.VALID 1).wrB F.TICK_SNAP_CTRL.PLOCK (c.on F.PTP_STAT.LOCK)).cntWrap F.TICK_SNAP_CTRL.CAPS
  let c2 := c1.raise 2 0 (c1.rd F.TICK_SNAP_CTRL.CAPS)
  if c2.tick.snapAgain then snapArm c2
  else { (c2.wr F.TICK_SNAP_CTRL.GO 0) with tick := { c2.tick with snapSrc := none, snapDue := false } }

/-- R66: a free offset in [0, `n`) of the `site`-th kind. -/
def snapFree (site n : Nat) (c : Core) : Nat := (Config.freeInt site c.free % (n : Int)).toNat

/-- R67: the phase of the CTL clock in which a TB_PLANT second boundary falls in the running tick, in 125 ps units. -/
def Core.secondEdge (c : Core) : Option Nat :=
  let left : Int := (1000000000 - c.ptp.ns : Nat) * 10 ^ 10 - c.tick.plantFrac
  let k := (left / (2 * (10 ^ 10 + c.rdS F.PTP_RATE.ADJ))).toNat
  if c.tick.running && decide (k < c.period) then some (16 * k) else none

/-- R66, R67: the capture; for SRC 0b11 `phase` tells that of the second boundary in 125 ps units. -/
def snapCapture (phase : Nat) (c : Core) : Core :=
  let dns := snapFree 13 9 c
  let dlk := snapFree 14 2 c
  match c.tick.snapSrc with
  | none => c
  | some 3 =>
    let ph := phase / 16 * 16
    if c.secondEdge != some ph then c else
    let c1 := { c with tick := { c.tick with phase := max c.tick.phase ph } }
    snapEnd (snapValues ph ((c.ptp.sec + 1) % 2 ^ 48) dns ((c.tick.link + (c.tick.linkFrac + ph * 2) / 125 + dlk) % 2 ^ 64) c1).tickFree
  | some _ =>
    if c.tick.snapDue then
      let t := c.ptp.ns + dns
      snapEnd (snapValues 0 ((c.ptp.sec + t / 1000000000) % 2 ^ 48) (t % 1000000000) ((c.tick.link + dlk) % 2 ^ 64) c).tickFree
    else c

end Sys2Proof.Machine
end

