-- ==== Sys2Proof/Machine/Upd.lean ====
section
/-! DEFINITION. The service port SVC, field update UPD (R528 to R545) and the die temperature THM (R571 to R573). -/

namespace Sys2Proof.Machine

/-! ### The service session -/

/-- R434, R528: the one response of a request, with its status (0 done, 1 NOAUTH, 2 refused); source 117 tells of the transfer
while the firmware runs. -/
def usbAnswer (status : Nat) (data : List Nat) (c : Core) : Core :=
  (c.send (.usb status data)).when (c.rd F.GLB_BOOT.STAGE != 0 && c.rd F.GLB_BOOT.STAGE != 7) (fun c => c.raise 117 0 0)

/-- A request within a session, whatever it acts on (R528). -/
def inService (f : State → State) (s : State) : State :=
  if s.pwr.held || !s.core.on F.SVC_STAT.ATTACH then s
  else if s.core.on F.SVC_STAT.SESSION then f s else onCore (usbAnswer 1 []) s

/-- R529: a session ends. -/
def sessionEnd (c : Core) : Core :=
  if c.on F.SVC_STAT.SESSION then ((c.wrB F.SVC_STAT.SESSION false).wr F.SVC_STAT.KEY 0).raise 116 0 0 else c

/-- R529, R545: the port is attached or detached. -/
def usbAttach (b : Bool) (c : Core) : Core := let c1 := c.wrB F.SVC_STAT.ATTACH b; if b then c1 else sessionEnd c1

/-- The word of `UPD_STAT`. -/
def Core.updStat (c : Core) : Nat :=
  c.wordOf [F.UPD_STAT.STATE, F.UPD_STAT.ERR, F.UPD_STAT.TRIAL, F.UPD_STAT.TRIES, F.UPD_STAT.SFWPEND, F.UPD_STAT.RESUMED]

/-- R529: HELLO. The nonce is fresh, and the spec states no value. -/
def svcHello (c : Core) : Core :=
  if !c.on F.SVC_STAT.ATTACH then c else
    let n := Config.freeInt 12 c.free
    let c1 := ({ c with svc := { c.svc with nonce := some n } } : Core).tickFree
    usbAnswer 0 [c.rd2 F.GLB_SER_LO.SER F.GLB_SER_HI.SER, 9590, c.rd F.UPD_RUNVER.VER, c.rd F.UPD_RUNVER.SVER, c.updStat, n.toNat] c1

/-- R529: AUTH; `ok`: the signature verifies over the last nonce under key `key`. -/
def svcAuth (key : Nat) (ok : Bool) (c : Core) : Core :=
  if !c.on F.SVC_STAT.ATTACH then c
  else if c.on F.SVC_CTRL.BLOCK || !(c.on F.BLC_SEAL.SEALED || c.rd F.GLB_BOOT.STAGE == 7) || c.on F.SVC_STAT.LOCKOUT then usbAnswer 2 [] c
  else if ok && c.svc.nonce.isSome then
    usbAnswer 0 [] ((((c.wrB F.SVC_STAT.SESSION true).wr F.SVC_STAT.KEY key).wr F.SVC_STAT.FAILS 0).cntSat F.SVC_CNT.SESSIONS |>.raise 116 0 1)
  else
    let n := c.rd F.SVC_STAT.FAILS + 1
    let c1 := (c.wr F.SVC_STAT.FAILS n).cntSat F.SVC_CNT.AUTHFAIL
    usbAnswer 2 [] (if 3 ≤ n then
      (({ c1 with svc := { c1.svc with lockMs := 600000 } } : Core).wrB F.SVC_STAT.LOCKOUT true).wr F.SVC_STAT.LOCKT 600
      else c1)

/-- R529: the lockout ends. -/
def lockoutOver (c : Core) : Core :=
  if c.on F.SVC_STAT.LOCKOUT then
    ((({ c with svc := { c.svc with lockMs := 0 } } : Core).wrB F.SVC_STAT.LOCKOUT false).wr F.SVC_STAT.FAILS 0).wr F.SVC_STAT.LOCKT 0
  else c

/-- One ms of the lockout. -/
def svcMs (c : Core) : Core :=
  if c.svc.lockMs = 0 then c
  else ({ c with svc := { c.svc with lockMs := c.svc.lockMs - 1 } } : Core).wr F.SVC_STAT.LOCKT (ceilDiv (c.svc.lockMs - 1) 1000)

/-- R529, R545: F0 writes `SVC_CTRL.BLOCK`. -/
def svcBlock (b : Bool) (c : Core) : Core := let c1 := c.wrB F.SVC_CTRL.BLOCK b; if b then sessionEnd c1 else c1

/-! ### Packages -/

/-- What the registers show of the update journal (R544). -/
def updShow (q : NC) : NC :=
  let u := q.1.upd
  let c1 := ((((q.2.wr F.UPD_STAT.STATE u.state).wr F.UPD_STAT.TRIES u.tries).wr F.UPD_PROG.DONE u.done).wr F.UPD_PROG.TOTAL u.total)
  (q.1, forUp 8 (fun k c => c.wr (F.UPD_TGTHASH.HASH k) (bitsAt u.hash (32 * k) 32)) ((c1.wr F.UPD_TGTVER.VER u.ver).wr F.UPD_TGTVER.SVER u.sver))

/-- Change the journal. -/
def NvSt.setUpd (nv : NvSt) (f : UpdSt → UpdSt) : NvSt := { nv with upd := f nv.upd }

/-- A bank by its name (true B). -/
def NvSt.img (nv : NvSt) (b : Bool) : Image := if b then nv.imgB else nv.imgA

/-- A bank changes. -/
def NvSt.setImg (nv : NvSt) (b : Bool) (f : Image → Image) : NvSt := if b then { nv with imgB := f nv.imgB } else { nv with imgA := f nv.imgA }

/-- The bank that an apply writes (R533). -/
def NvSt.target (nv : NvSt) : Bool := !nv.upd.act

/-- Bytes of the package from a place, as a number, low byte first. -/
def UpdSt.field (u : UpdSt) (at' n : Nat) : Nat := (Tab.getList 0 u.pkg at' n).foldr (fun b v => b % 256 + 256 * v) 0

/-- R532: checks 1 to 6, in order; in the boot-failed state a full image under R538. -/
def headErr (rom : Bool) (nv : NvSt) (c : Core) : Nat :=
  let u := nv.upd
  let kind := u.field 2 1
  let ser := u.field 6 6
  if u.field 0 2 ≠ 1 ∨ kind ≠ (if rom then 2 else 1) then 1
  else if u.field 4 2 ≠ 9590 then 2
  else if (ser ≠ 0 ∧ ser ≠ c.rd2 F.GLB_SER_LO.SER F.GLB_SER_HI.SER) ∨ (ser = 0 ∧ c.on F.BLC_UPD.SERIAL) then 3
  else if u.field 14 2 < c.rd F.BLC_UPD.MINVER then 6
  else if u.field 12 2 < c.rd F.UPD_RUNVER.VER ∧ !c.on F.BLC_UPD.DOWNGRADE then 7
  else if rom then (if u.field 20 4 = 0 ∨ u.field 20 4 % 65536 ≠ 0 ∨ 16777216 < u.field 20 4 then 8 else 0)
  else if 1507328 < 152 + u.field 16 4 then 8
  else if u.field 24 32 ≠ (nv.img nv.upd.act).hash then 4
  else 0

/-- R532: a package is discarded with an error. -/
def pkgDiscard (err : Nat) (q : NC) : NC :=
  updShow (q.1.setUpd (fun u => { u with state := 0, pkg := [], got := 0, headOk := false }), q.2.wr F.UPD_STAT.ERR err)

/-- The length of the whole package: a delta by L, a full image by L too (R531). -/
def UpdSt.whole (u : UpdSt) : Nat := 152 + u.field 16 4

/-- R532 to R534: the package is accepted and the apply begins. -/
def pkgAccept (q : NC) : NC :=
  updShow (q.1.setUpd (fun u =>
    { u with
      state := 3, ver := u.field 12 2, sver := u.field 14 2, hash := u.field 56 32, total := ceilDiv (u.field 20 4) 65536, done := 0
      ck0 := {}, ck1 := {} }), { (q.2.wr F.UPD_STAT.ERR 0) with svc := { q.2.svc with resume := false, stop := false } })

/-- R538: a full image has arrived whole; it is verified and becomes the boot image. -/
def fullDone (sigOk hashOk : Bool) (sfw : Nat) (q : NC) : NC :=
  let nv := q.1
  let b := nv.upd.full.getD false
  if sigOk && hashOk then
    let u := nv.upd
    let nv1 := nv.setImg b (fun _ => ⟨true, u.field 12 2, u.field 14 2, u.field 56 32, sfw⟩)
    updShow (nv1.setUpd (fun u => { u with state := 0, pkg := [], got := 0, headOk := false, act := b, pend := none, tries := 0, full := none }), q.2.wr F.UPD_STAT.ERR 0)
  else
    pkgDiscard (if sigOk then 9 else 5) (nv.setImg b (fun i => { i with valid := false }), q.2)

/-- R533: a reset discards a package whose upload is interrupted. -/
def uploadLost (nv : NvSt) : NvSt :=
  if nv.upd.state = 1 then nv.setUpd (fun u => { u with state := 0, pkg := [], got := 0, headOk := false, full := none }) else nv

/-- R532, R533, R538: package bytes at an offset. `sigOk` and `hashOk` are the verdicts on the package signature and, for a full
image, on the target hash, once the last byte is there; `sfw` names the image's safety firmware. -/
def upload (off : Nat) (data : List Nat) (sigOk hashOk : Bool) (sfw : Nat) (q : NC) : NC :=
  let rom := q.2.rd F.GLB_BOOT.STAGE == 7
  if 3 ≤ q.1.upd.state then (q.1, q.2.wr F.UPD_STAT.ERR 10)
  else if off ≠ 0 ∧ q.1.upd.state ≠ 1 then q
  else
    let nv1 := q.1.setUpd (fun u =>
      let u1 := if off = 0 then { u with pkg := [], got := 0, headOk := false, full := none } else u
      { u1 with state := 1, pkg := Tab.putList 0 u1.pkg off data, got := if off ≤ u1.got then max u1.got (off + data.length) else u1.got })
    let c1 := if off = 0 then q.2.wr F.UPD_STAT.ERR 0 else q.2
    if nv1.upd.got < 88 then updShow (nv1, c1)
    else
      let e := if nv1.upd.headOk then 0 else headErr rom nv1 c1
      if e ≠ 0 then pkgDiscard e (nv1, c1)
      else
        let nv2 := nv1.setUpd (fun u => { u with headOk := true, full := if rom then some (nv1.target) else none })
        if nv2.upd.got < nv2.upd.whole then updShow (nv2, c1)
        else if rom then fullDone sigOk hashOk sfw (nv2, c1)
        else if sigOk then pkgAccept (nv2, c1) else pkgDiscard 5 (nv2, c1)

/-- R536, R537, R541: the apply ends without a target. -/
def applyFail (err : Nat) (q : NC) : NC :=
  let nv1 := q.1.setImg q.1.target (fun i => { i with valid := false })
  updShow (nv1.setUpd (fun u => { u with state := 0, pkg := [], got := 0, headOk := false }), if err = 0 then q.2 else q.2.wr F.UPD_STAT.ERR err)

/-- R535: the checkpoint after a chunk goes into the slot that does not govern. -/
def UpdSt.check (u : UpdSt) : UpdSt :=
  let n := u.done + 1
  let k : Ckpt := ⟨true, max u.ck0.seq u.ck1.seq + 1, n⟩
  if u.ck1.seq ≤ u.ck0.seq ∧ u.ck0.valid then { u with done := n, ck1 := k } else { u with done := n, ck0 := k }

/-- R534, R535, R537: a chunk of the target is written; `hashOk`: after the last one, hash and image signature verify. -/
def chunkApplied (hashOk : Bool) (sfw : Nat) (q : NC) : NC :=
  if q.1.upd.state ≠ 3 ∨ q.2.svc.resume then q else
    let nv1 := q.1.setUpd UpdSt.check
    let q1 := updShow (nv1, q.2.raise 114 0 nv1.upd.done)
    if q1.2.svc.stop then applyFail 0 q1
    else if nv1.upd.done < nv1.upd.total then q1
    else if hashOk then
      let u := nv1.upd
      let nv2 := nv1.setImg nv1.target (fun _ => ⟨true, u.ver, u.sver, u.hash, sfw⟩)
      updShow (nv2.setUpd (fun u => { u with state := 4 }), q1.2.raise 115 0 0)
    else applyFail 9 (nv1, q1.2.raise 115 0 9)

/-- The checkpoint that governs (R535). -/
def UpdSt.governs (u : UpdSt) : Option Ckpt :=
  match u.ck0.valid, u.ck1.valid with
  | true, true => some (if u.ck0.seq < u.ck1.seq then u.ck1 else u.ck0)
  | true, false => some u.ck0
  | false, true => some u.ck1
  | false, false => none

/-- R536: after READY the apply continues, or is abandoned. -/
def applyResume (sigOk : Bool) (q : NC) : NC :=
  if !q.2.svc.resume || q.1.upd.state != 3 || !q.2.on F.GLB_BOOT.READY then q else
    let c1 := { q.2 with svc := { q.2.svc with resume := false } }
    match sigOk, q.1.upd.governs with
    | true, some k => updShow (q.1.setUpd (fun u => { u with done := k.chunks }), c1.wrB F.UPD_STAT.RESUMED true)
    | _, _ => applyFail 9 (q.1, c1)

/-- R537, R539: COMMIT. -/
def updCommit (q : NC) : NC :=
  if q.1.upd.state = 4 then updShow (q.1.setUpd (fun u => { u with state := 5, pend := some (!u.act), tries := 0 }), usbAnswer 0 [] q.2)
  else (q.1, usbAnswer 2 [] (q.2.wr F.UPD_STAT.ERR 10))

/-- R536, R541: CANCEL. -/
def updCancel (q : NC) : NC :=
  if q.2.on F.UPD_STAT.TRIAL then updShow (q.1.setUpd (fun u => { u with pend := none, tries := 0, state := 0, ended := true }), usbAnswer 0 [] q.2)
  else if q.1.upd.state = 5 then updShow (q.1.setUpd (fun u => { u with state := 4, pend := none, tries := 0 }), usbAnswer 0 [] q.2)
  else if q.1.upd.state = 3 then (q.1, usbAnswer 0 [] { q.2 with svc := { q.2.svc with stop := true } })
  else (q.1, usbAnswer 2 [] q.2)

/-- A stored counter grows, in its register and in the configuration region. -/
def storedCount (f : Fld) (q : NC) : NC :=
  let c1 := q.2.cntSat f
  ({ q.1 with region := q.1.region.put f (c1.rd f) }, c1)

/-- R540: a trial image is confirmed. -/
def imageConfirm (a : AonSt) (q : NC) : NC :=
  if !q.2.on F.UPD_STAT.TRIAL || !q.2.on F.GLB_BOOT.READY || decide (a.ops < q.2.svc.readyOps + 1000 * max 1 (q.2.rd F.UPD_CFG.CONFIRMT)) || q.1.upd.pend.isNone then q
  else storedCount F.UPD_CNT.APPLIED (updShow (q.1.setUpd (fun u => { u with act := q.2.svc.run, pend := none, tries := 0, state := 0 }), q.2.wrB F.UPD_STAT.TRIAL false))

/-- R539: stage 0 selects the bank: the bank to boot, a trial, a rollback; the record is written. -/
def bankSelect (nv : NvSt) : NvSt × Bool × Bool × Bool :=
  match nv.upd.pend with
  | none => (nv, nv.upd.act, false, false)
  | some b =>
    if nv.upd.tries ≤ 2 then (nv.setUpd (fun u => { u with tries := u.tries + 1 }), b, true, false)
    else (nv.setUpd (fun u => { u with pend := none, tries := 0, state := 0 }), nv.upd.act, false, true)

/-! ### Die temperature -/

/-- R571: the level after a reading. -/
def thmNext (t : Int) (m : ThmSt) : ThmSt :=
  let up := if 1200 ≤ t then 2 else if 1100 ≤ t then max 1 m.lvl else m.lvl
  let low := (up == 2 && decide (t ≤ 1150)) || (up == 1 && decide (t ≤ 1050))
  let cool := if low then m.cool + 1 else 0
  if 10000 ≤ cool then { m with lvl := up - 1, cool := 0 } else { m with lvl := up, cool := cool }

/-- Seconds at a level. -/
def thmCount (f : Fld) (here : Bool) (ms : Nat) (c : Core) : Core × Nat :=
  if !here then (c, ms) else if ms = 999 then (c.cntSat f, 0) else (c, ms + 1)

/-- R571, R573, R578: the evaluation of one ms; the hand-over or stop that 125 °C asks for is the machine's. -/
def thmEval (t : Int) (c : Core) : Core :=
  let m := thmNext t c.thm
  let lvl := max m.lvl (min 2 (c.rd F.THM_LVL.MINLVL))
  let hot := if 1250 ≤ t then m.hot + 1 else 0
  let c1 := (c.wrS F.THM_TEMP.TEMP t).wrS F.THM_TEMP.MAX (if c.rdS F.THM_TEMP.MAX < t then t else c.rdS F.THM_TEMP.MAX)
  let c2 := if c1.rd F.THM_LVL.LVL = lvl then c1 else (c1.wr F.THM_LVL.LVL lvl).raise 120 0 lvl
  let r1 := thmCount F.THM_CNT.L1 (lvl == 1) c.thm.ms1 c2
  let r2 := thmCount F.THM_CNT.L2 (lvl == 2) c.thm.ms2 r1.1
  let c3 := { r2.1 with thm := { m with hot := hot, ms1 := r1.2, ms2 := r2.2 } }
  if hot = 3 then (c3.wrB F.THM_LVL.HOTSEEN true).raise 121 0 (ofSigned 16 t) else c3

end Sys2Proof.Machine
end

