-- ==== Sys2Proof/Machine/Boot.lean ====
section
/-! DEFINITION. Power, boot, resets and the watchdog (R511 to R522, R557, R560, R561). -/

namespace Sys2Proof.Machine

/-! ### Pieces of a start -/

/-- R63: the time bases of the always-on section as the registers show them. -/
def opsShow (a : AonSt) (c : Core) : Core :=
  (c.wr2 F.TICK_OPS_LO.OPS F.TICK_OPS_HI.OPS a.ops).wr F.TICK_PWRCYC.PWRCYC a.pwrcyc

/-- R527: the reset history as `GLB_RSTCAUSE` shows it. -/
def causeShow (p : PwrSt) (c : Core) : Core :=
  ((((c.wr F.GLB_RSTCAUSE.LAST p.restart).wrB F.GLB_RSTCAUSE.PCYCREQ p.pcycReq).wrB F.GLB_RSTCAUSE.PCYCFAIL p.pcycFail).wr
    F.GLB_RSTCAUSE.WDCNT p.wdCnt).wr F.GLB_RSTCAUSE.DEVCNT p.devCnt

/-- R519: every domain except SFA and SFB at its reset values; what stands at pins stays: trip inputs, OWNGNT, the USB port, the tone
(R101). SAFM_CV_ACT shows the value `cv` that the channels hold (R338). The trace and the count of free values used are the model's own and
go on. -/
def coreReset (a : AonSt) (p : PwrSt) (l : LineSt) (cv : Nat) (c : Core) : Core :=
  let c0 : Core := { free := c.free, out := c.out, prot := { low := if p.bankA then c.prot.low else 255, vioA := p.bankA } }
  let c1 := c0.wr F.SAFM_CV_ACT.CV cv
  let c2 := ((c1.wr F.RED_STAT.GNT (c.rd F.RED_STAT.GNT)).wr F.SVC_STAT.ATTACH (c.rd F.SVC_STAT.ATTACH)).wrB F.CHN_TONE.TONEA l.toneA
  causeShow p (opsShow a (c2.wrB F.CHN_TONE.TONEB l.toneB))

/-! ### Commands that wait (R397, R398) -/

/-- `n` parameter bytes from byte 32 + `i` of the descriptor, little-endian. -/
def JRec.arg (j : JRec) (i n : Nat) : Nat := leVal ((j.par.drop i).take n)

/-- No write of the register at `o` is held. -/
def Core.settled (c : Core) (o : Nat) : Bool := c.wait.all (fun w => w.fld.off != o)

/-- The bytes read from the buffer of the command that runs on a ring. -/
def Core.buffer (c : Core) (r : Nat) : List Nat := (c.hif.rbuf.find? (fun x => x.1 == r)).elim [] (fun x => x.2)

/-- The three words of an entry of a REG_LIST buffer. -/
def listEntry (b : List Nat) (i : Nat) : Nat × Nat × Nat := (wordAt b (3 * i), wordAt b (3 * i + 1), wordAt b (3 * i + 2))

/-- R402: the result of CTE_LOAD. -/
def Core.loadWord2 (c : Core) : Nat := c.readWord true F.CTE_STAT.ACT.off + 2 ^ 32 * c.readWord true F.CTE_STG_WCET.WCET.off

/-- R398, R402: the status and the result of a command that waits for the commit of its effect, once that stands. -/
def Core.waitOver (c : Core) (j : JRec) : Option (Nat × Nat) :=
  let reg := fun (b : Bool) (o : Nat) => if b then some (0, c.readWord true o) else none
  let ok := fun (b : Bool) => if b then some (0, 0) else none
  match j.wait with
  | 1 => reg (c.settled F.CNV_CTRL.ON.off) F.CNV_STAT.STATE.off
  | 3 => ok (c.settled F.CNV_CTRL.ON.off && c.settled F.CNV_ISET.ISET.off)
  | 4 => ok (!c.on F.SHF_DCTRL.GO)
  | 5 => ok (c.settled F.SHF_VREF_NOM.V.off)
  | 6 => reg (c.settled F.SAFM_OUTREQ.REQ.off) F.SAFM_OUTREQ.REQ.off
  | 7 =>
    if c.on F.TICK_PROFILE.GO || !c.settled F.TICK_PROFILE.GO.off then none
    else if c.rd F.TICK_PROFILE.ERR = 0 then some (0, c.readWord true F.TICK_PROFILE.GO.off) else some (6, c.rd F.TICK_PROFILE.ERR)
  | 8 => reg (!c.on F.EST_GLN_CTRL.REQ) F.EST_GLN_CTRL.REQ.off
  | 9 => reg (!c.on F.EST_REST_CTRL.REQ) F.EST_REST_CTRL.REQ.off
  | 10 => ok (!c.on F.CTE_PCOMMIT.GO && c.settled F.CTE_PCOMMIT.GO.off)
  | 11 => reg (!c.on F.EST_SAVE_PERIOD.NOW) F.EST_SAVE_STAT.SEQ.off
  | 13 => if c.settled (normalOff (j.arg 0 4)) then some (0, c.readWord (j.own == 0) (normalOff (j.arg 0 4))) else none
  | 14 => ok (c.rst (j.arg 0 1) == 0)
  | 16 =>
    if c.on F.CTE_CTRL.LOAD || !c.settled F.CTE_CTRL.LOAD.off then none
    else if c.rd F.CTE_STAT.LERR = 0 then some (0, c.loadWord2) else some (6, c.rd F.CTE_STAT.LERR)
  | 17 => if (upTo (min 256 j.result)).all (fun i => c.settled (normalOff (listEntry (c.buffer j.ring) i).1)) then some (0, j.result) else none
  | _ => none

/-- R397: the running step of a REG_LIST ends: what its entries wrote commits, and its record keeps how many of them are applied. A write to
the safety channels that is in flight is not among them. -/
def listEnd (j : JRec) (q : NC) : NC × JRec :=
  let b := q.2.buffer j.ring
  let m := min 256 j.result
  let offs := (upTo m).map (fun i => normalOff (listEntry b i).1)
  let mine := fun (w : PWrite) => offs.contains w.fld.off && w.fld.off / 16384 != 15
  let c := (q.2.wait.filter mine).foldl ctlApply { q.2 with wait := q.2.wait.filter (fun w => !mine w) }
  let n := ((upTo m).find? (fun i => !c.settled (offs.getD i 0))).getD j.result
  ((q.1.setRec j (fun x => { x with result := n }), c), { j with result := n, wait := if n = j.result then j.wait else 23 })

/-- R397, R517: before a reset and during hold-up a running execution step ends, so that what has its effect is marked executed. -/
def stepsEnd (q : NC) : NC :=
  (q.1.jrec.filter (fun j => j.run && j.wait != 0)).foldl (fun q j =>
    let x := if j.op = 19 then listEnd j q else (q, j)
    match x.1.2.waitOver x.2 with
    | some r => finish j.ring j.sidx r.1 r.2 x.1
    | none => x.1) q

/-- R397, R405, R533: at a reset all rings freeze, what was executing executes again from its record, and an interrupted upload
is discarded. -/
def journalReset (a : AonSt) (q : NC) : NC :=
  let q1 := freezeAll a.ops (uploadLost q.1, q.2)
  (recsIdle q1.1, q1.2)

/-! ### Device resets (R516 to R518) -/

/-- R517 steps 1 to 4; a watchdog reset (`dog`) runs only 2 and 3 and completes a save that has started. -/
def resetSteps (dog : Bool) (s : State) : State :=
  let c1 := if !dog && s.core.active && s.core.on F.RED_STAT.SBYVALID then handoverOff (redSend (s.nv, handover 2 s.core)).2 else s.core
  let q1 := stepsEnd (s.nv, pwmSafe c1)
  let r0 := saveComplete s.aon q1.1 q1.2
  if dog then
    let q := stepsEnd r0
    { s with nv := q.1, core := q.2 }
  else
    let r := saveComplete s.aon r0.1 (saveTrigger 4 { r0.2 with est := { r0.2.est with saving := none } })
    let q := evFlush s.aon s.pwr (stepsEnd r)
    { s with nv := q.1, core := q.2 }

/-- R517 step 5: the reset itself, with its RESTART code. -/
def resetAssert (code : Nat) (s : State) : State :=
  let q := journalReset s.aon (s.nv, s.core)
  let p := { s.pwr with restart := code, devCnt := min 65535 (s.pwr.devCnt + 1), kicked := [], warned := false }
  { s with pwr := p, nv := q.1, core := coreReset s.aon p s.line s.saf.cvAct q.2 }

/-- R517, R522: a device reset; none is performed while the input is lost, nor once a power cycle drives PCYC_N low. -/
def deviceReset (code : Nat) (dog : Bool) (s : State) : State :=
  if s.pwr.held || s.pwr.vin ≠ .on || s.pwr.pcycLow then s else resetAssert code (resetSteps dog s)

/-- R518: a power cycle: the steps, then PCYC_N low. -/
def powerCycle (dog : Bool) (s : State) : State :=
  if s.pwr.held || s.pwr.vin ≠ .on || s.pwr.pcycLow then s
  else
    let s1 := resetSteps dog s
    let q := journalReset s1.aon (s1.nv, s1.core)
    { s1 with
      pwr := { s1.pwr with pcycLow := true }
      nv := q.1
      core := q.2.send (.pin pcycPin 0) }

/-- R518: 200 ms after the falling edge the input is still there: a device reset with PCYCFAIL. -/
def pcycFallback (s : State) : State :=
  if s.pwr.pcycLow && s.pwr.vin = .on && !s.pwr.held then
    resetAssert 2 { s with pwr := { s.pwr with pcycLow := false, pcycFail := true }, core := s.core.send (.pin pcycPin 1) }
  else s

/-- R521: the watchdog expires: a watchdog reset, or a power cycle at the third within 600 s of TB_OPS. -/
def watchdogReset (s : State) : State :=
  if s.pwr.held || s.pwr.vin ≠ .on || s.pwr.pcycLow then s else
    let recent := s.aon.ops :: s.pwr.wdOps.filter (fun t => decide (s.aon.ops - t ≤ 600000))
    let s1 := { s with pwr := { s.pwr with wdOps := recent, wdCnt := min 255 (s.pwr.wdCnt + 1) } }
    if 3 ≤ recent.length then powerCycle true { s1 with pwr := { s1.pwr with wdOps := [] } } else deviceReset 4 true s1

/-- R521: a core kicks the watchdog; a round is complete when all four have. -/
def watchdogKick (core : Nat) (s : State) : State :=
  if s.pwr.held then s else
    let ks := if s.pwr.kicked.contains core then s.pwr.kicked else core :: s.pwr.kicked
    if 4 ≤ ks.length then { s with pwr := { s.pwr with kicked := [], warned := false }, core := s.core.cntWrap F.GLB_WDT.KICKS }
    else { s with pwr := { s.pwr with kicked := ks } }

/-- R521: half of TMO has passed without a kick from some core. -/
def watchdogWarning (s : State) : State :=
  if s.pwr.held || s.pwr.warned then s
  else { s with pwr := { s.pwr with warned := true }, core := (s.core.wr F.GLB_WDT.WARN 1).raise 123 0 (s.core.rd F.GLB_WDT.TMO) }

/-! ### The 24 V input (R511, R557) and the banks (R560, R561) -/

/-- The domains lose their state; what the trace holds stays. -/
def coreOff (c : Core) : Core := { free := c.free, out := c.out }

/-- R63: TB_OPS and PWRCYC go to their own cells. -/
def opsStore (a : AonSt) : AonSt := { a with storing := false, storedOps := a.ops, storedPwrcyc := a.pwrcyc }

/-- R511, R557: the input rises; the domains are held, the channels and the always-on section start. -/
def powerOn (s : State) : State :=
  if s.pwr.vin = .off then
    { s with
      pwr := { s.pwr with vin := .rising, held := true, back := false, pcycLow := false, kicked := [], warned := false, perst := false }
      aon := { s.aon with ops := s.aon.storedOps, pwrcyc := s.aon.storedPwrcyc, storing := false }
      line := {}
      saf := safPowerOn s.saf
      core := coreOff s.core }
  else s

/-- R511, R63: 10 ms later the power-on reset releases, PWRCYC increments and stage 0 begins. -/
def powerRelease (s : State) : State :=
  if s.pwr.vin = .rising then
    let a := { s.aon with pwrcyc := min (2 ^ 32 - 1) (s.aon.pwrcyc + 1) }
    let p := { s.pwr with vin := .on, held := false, pll := false, restart := 1, wdCnt := 0, devCnt := 0, wdOps := [], pcycFail := false }
    let q := journalReset a (s.nv, s.core)
    { s with aon := a, pwr := p, nv := q.1, core := coreReset a p s.line s.saf.cvAct q.2 }
  else s

/-- R557: without the input no safety output is fed. -/
def outputsOff (x : SafSt) : SafSt := { x with fed := false, out := x.out.map (fun o => (o.1, { o.2 with p := false, m := false })) }

/-- R21, R396: the descriptors already fetched go to the journal. -/
def fetchedJournal (q : NC) : NC := q.2.hif.desc.foldl (fun q d => descriptorFetch d.1 q) q

/-- R21, R63, R223, R557: input loss: its event is raised, and the writes of the hold-up start: the journal, a save, the store of TB_OPS. The
save and the store complete later, and the event is recorded after the save (R506). -/
def inputLoss (s : State) : State :=
  if s.pwr.vin = .on then
    let s1 := { s with
      pwr := { s.pwr with vin := .holdUp, back := false }, aon := { s.aon with storing := true }, saf := outputsOff s.saf }
    if s.pwr.held then s1 else
      let q := fetchedJournal (s.nv, s.core.raise 122 0 1)
      { s1 with nv := q.1, core := saveTrigger 5 q.2 }
  else if s.pwr.vin = .rising then { s with pwr := { s.pwr with vin := .off }, aon := opsStore s.aon }
  else s

/-- R557: the input returns during hold-up. -/
def vinReturn (s : State) : State :=
  if s.pwr.vin = .holdUp then { s with pwr := { s.pwr with back := true } } else s

/-- R63: what the always-on section has stored when the hold-up ends: a store that has not completed leaves the one before it. -/
def opsEnd (a : AonSt) : AonSt := if a.storing then { a with storing := false } else opsStore a

/-- R21, R223, R405, R557: the hold-up ends; the rings freeze as the pair then stands, a save that runs is cut off, every domain except the always-on section is held, and a power-on
follows if the input is back. -/
def holdUpEnd (s : State) : State :=
  if s.pwr.vin = .holdUp then
    let q := journalReset s.aon (stepsEnd (s.nv, s.core))
    { s with
      pwr := { s.pwr with vin := (if s.pwr.back then .rising else .off), held := true, back := false, pcycReq := s.pwr.pcycLow, pcycLow := false, kicked := [], warned := false, perst := false }
      aon := opsEnd s.aon
      line := {}
      saf := safPowerOn s.saf
      nv := if s.pwr.held then s.nv else saveCut q.2 q.1
      core := coreOff s.core }
  else s

/-- R561: VIO_A is lost: every trip input reads low and the gate outputs do not drive. -/
def bankALost (c : Core) : Core := pwmSafe (forUp 8 (fun n c => tripPin n false c) c)

/-- R561: VIO_B is lost: every enabled stream stops. -/
def bankBLost (c : Core) : Core := forUp 12 (fun n c => if c.on (F.SDM_CFG.EN n) then streamLoss n false c else c) c

/-- R101, R560, R561: a bank's supply becomes absent or present; without VIO_B, PERST_N reads low and holds the module in hot
reset, through which the tone losses that the line interface declares stand. -/
def bankChange (b present : Bool) (s : State) : State :=
  if b then
    let s1 := { s with pwr := { s.pwr with bankB := present } }
    if !present && s.pwr.bankB && !s.pwr.held then
      let s0 := { s1 with core := bankBLost s1.core }
      let s2 := deviceReset 3 false s0
      if s.pwr.pcycLow then s0 else { s2 with pwr := { s2.pwr with perst := true, held := true } }
    else if present && s.pwr.perst then
      { s1 with pwr := { s1.pwr with perst := false, held := false }, core := causeShow s1.pwr (opsShow s1.aon s1.core) }
    else s1
  else
    let s1 := { s with pwr := { s.pwr with bankA := present } }
    let s2 := { s1 with core := { s1.core with prot := { s1.core.prot with vioA := present } } }
    if !present && s.pwr.bankA && !s.pwr.held then { s2 with core := bankALost s2.core } else s2

/-! ### Boot stages (R512 to R515) -/

/-- R514: the CSR offsets of the words of the boot-locked record. -/
def blcOffs : List Nat :=
  [0x4010, 0x4014, 0x4018, 0x4020, 0x4024, 0x4028] ++
    (upTo 8).flatMap (fun k => (upTo 5).map (fun i => 0x4100 + 32 * k + 4 * i))

/-- The pair bit of a good record (R363, R514). -/
def NvSt.pairBit (nv : NvSt) : Bool := nv.blcOk && nv.blc.getD 4 0 % 2 == 1

/-- A word goes into the fields of a register as they stand. -/
def loadWord (c : Core) (ow : Nat × Nat) : Core := (regAt ow.1).foldl (fun c f => c.wr f (f.bitsOf ow.2)) c

/-- R514, R515: BLC is loaded from its record, or with its reset values, and sealed. -/
def blcLoad (nv : NvSt) (sver : Nat) (c : Core) : Core :=
  let c1 := c.wr F.BLC_UPD.MINVER sver
  let c2 := if nv.blcOk then (blcOffs.zip nv.blc).foldl loadWord c1 else (c1.wr F.BLC_SEAL.DEF 1).wr F.BLC_SEAL.CRCERR 1
  (c2.wr F.BLC_SEAL.SEALED 1).wr F.RED_CFG.PAIR (c2.rd F.BLC_RED.PAIR)

/-- R512: the configuration region goes into every register whose reset is its stored value. -/
def regionLoad (nv : NvSt) (c : Core) : Core :=
  nv.region.foldl (fun c kv => match (regAt (kv.1 / 32)).filter (fun f => f.key == kv.1 && f.stored) with
    | f :: _ => c.wr f kv.2
    | [] => c) c

/-- A stored counter of the region grows, before the region is loaded. -/
def regionCount (f : Fld) (nv : NvSt) : NvSt := { nv with region := nv.region.put f (min (2 ^ f.width - 1) (nv.region.get f + 1)) }

/-- R513, R539: the bank that starts: the selected one if it verifies, else the other if that does. -/
def bankStart (nv : NvSt) (want : Bool) : Option Bool :=
  if (nv.img want).valid then some want else if (nv.img (!want)).valid then some (!want) else none

/-- R512 stage 0: PLLs, bank, image. The tone starts when the main PLL has locked (R98, R100). -/
def bootStage0 (s : State) : State :=
  if s.pwr.held || s.core.svc.sel || s.core.rd F.GLB_BOOT.STAGE ≠ 0 then s else
    let l := { s.line with sending := !s.nv.pairBit || s.core.on F.RED_STAT.GNT, pair := s.nv.pairBit }
    let (nv1, want, trial, back) := bankSelect s.nv
    let gone := nv1.upd.ended
    let nv2 := if back then regionCount F.UPD_CNT.ROLLBACKS nv1 else nv1
    let nv3 := if gone then (regionCount F.UPD_CNT.ROLLBACKS nv2).setUpd (fun u => { u with ended := false }) else nv2
    let c1 := s.core.when (back || gone) (fun c => (c.wr F.GLB_BOOT.FALLBACK 1).raise 115 0 11)
    match bankStart nv3 want with
    | none =>
      { s with line := l, nv := nv3, pwr := { s.pwr with pll := true }, core := c1.wr F.GLB_BOOT.STAGE 7 }
    | some b =>
      let i := nv3.img b
      let sfw := if s.pwr.restart = 1 then i.sfw else s.pwr.sfw
      let c2 : Core := { c1 with svc := { c1.svc with sel := true, run := b } }
      let c3 := ((c2.wrB F.GLB_BOOT.BANK b).wr F.UPD_RUNVER.VER i.ver).wr F.UPD_RUNVER.SVER i.sver
      let q := updShow (nv3, (c3.wrB F.UPD_STAT.TRIAL (trial && b == want)).wrB F.UPD_STAT.SFWPEND (i.sfw != sfw))
      { s with line := l, nv := q.1, pwr := { s.pwr with pll := true, sfw := sfw }, core := q.2 }

/-- R512 stage 1: BLC, recorder scan, learned values, journal, stored values. -/
def bootStage1 (s : State) : State :=
  if s.pwr.held || !s.core.svc.sel || s.core.rd F.GLB_BOOT.STAGE ≠ 0 then s else
    let i := s.nv.img s.core.svc.run
    let c1 := blcLoad s.nv i.sver (s.core.wr F.GLB_BOOT.STAGE 1)
    let q1 := evrScan (s.nv, c1)
    let c2 := estLoad s.nv s.aon.ops (evrStart s.pwr.restart q1.2)
    let q2 := ringsRestore (q1.1, c2)
    let c3 := ocvCommit (regionLoad q2.1 q2.2)
    let c4 : Core := { c3 with
      svc := { c3.svc with resume := q2.1.upd.state == 3 }
      cte := { c3.cte with dm := q2.1.params.foldl (fun t w => Tab.put 0 t (256 + w.1 % 128) w.2) c3.cte.dm } }
    let q3 := updShow (q2.1, c4)
    { s with nv := q3.1, core := redShow q3.2 }

/-- R376: the role a module of a pair starts in: it resynchronises where it finds an active partner. -/
def startRole (peer : Bool) (c : Core) : Core :=
  if c.pair then redShow (mirrorInit { (c.wr F.RED_STAT.ROLE (if peer then 3 else 1)) with red := { c.red with claim := true } }) else redShow c

/-- R78, R512: the application releases CTL: tick 0 and frame 0 in Spelt, enumeration but in a standby, PROT and
CNV see the pins and lines as they stand, the survivor's signal of degraded mode too (R328). -/
def applicationStart (peer : Bool) (s : State) : State :=
  if s.pwr.held || s.core.rd F.GLB_BOOT.STAGE ≠ 1 then s else
    let c := s.core.wr F.GLB_BOOT.STAGE 2
    let c0 : Core := { c with cnv := { c.cnv with deg := s.saf.deg } }
    let c1 := startRole peer { c0 with tick := { c0.tick with running := true }, prot := { c0.prot with win := c0.xStart } }
    let c2 := forUp 8 (fun n c => if bitAt c.prot.low n then tripLow n c else c) c1
    let c3 := forUp 2 (fun ch c => if bitAt s.saf.gate ch then gateLine ch true c else c) c2
    { s with core := ((refSource (showBlock c3)).showLayout).when (!c3.standby) enumRequest }

/-- R512: READY, once SAFM holds its first exchange. -/
def ready (s : State) : State :=
  if s.pwr.held || s.core.rd F.GLB_BOOT.STAGE ≠ 2 || !s.core.svc.exch then s else
    let c := s.core
    { s with core := ((({ c with svc := { c.svc with readyOps := s.aon.ops } }).wr F.GLB_BOOT.STAGE 3).wr F.GLB_BOOT.READY 1).wr F.GLB_BOOT.BOOTMS c.svc.bootMs }

/-! ### FLR (R405, R431) -/

/-- R405, R406, R431: FLR of function `fn`: its rings freeze, its vectors are reset, its translations and transfers go. -/
def flr (ops fn : Nat) (q : NC) : NC :=
  let q1 := freezeFn ops fn q
  let c := atuFlr fn q1.2
  let mine := fun v => v / 16 == fn
  let c1 : Core := { c with
    hif := { c.hif with
      men := c.hif.men.filter (fun v => !mine v), mpend := c.hif.mpend.filter (fun v => !mine v), due := c.hif.due.filter (fun v => !mine v)
      since := c.hif.since.filter (fun x => !mine x.1), modPend := c.hif.modPend.filter (fun v => !mine v)
      d3 := c.hif.d3.filter (· != fn), pme := c.hif.pme.filter (· != fn), pmeSent := c.hif.pmeSent.filter (· != fn) } }
  (q1.1, (forUp 16 (fun v c => c.wr (F.HIF_MOD.PENDING (16 * fn + v)) 0) c1).raise 14 fn fn)

end Sys2Proof.Machine
end

