-- ==== Sys2Proof/Machine/Access.lean ====
section
/-! DEFINITION. What a write of a register does: the fields that act by themselves (each by the rule of its chapter), posted writes
(R45 to R48), and the write of a master (R33 to R44, R546 to R552). -/

namespace Sys2Proof.Machine

/-! ### Rings 0 and 1 (R386, R404, R412) -/

/-- R430: a stalled transfer of a ring that is deleted is abandoned; a command whose buffer it moved ends with STATE. -/
def stallDrop (r : Nat) (q : NC) : NC :=
  let xs := q.2.hif.xf.filter (fun x => x.ring == r && x.stalled)
  let q1 : NC := (q.1, { q.2 with hif := { q.2.hif with xf := q.2.hif.xf.filter (fun x => !(x.ring == r && x.stalled)) } })
  xs.foldl (fun q x => if x.kind = 2 ∨ x.kind = 3 then finish r x.idx 5 0 q else q) q1

/-- R404: a ring is deleted: FREE from FROZEN, DRAINING from the other states, with the commands that it has accepted or begun. -/
def ringDelete (r : Nat) (q : NC) : NC :=
  let st := q.2.rst r
  if st = 4 then ringFree r q
  else if st = 1 ∨ st = 2 ∨ st = 3 then
    let q1 := if st = 2 then stallDrop r q else q
    jShow ({ q1.1 with jrec := q1.1.jrec.filter (fun j => !(j.ring == r && j.stg == 0 && !j.acc && !j.run && !j.gone)) }, ringState r 5 { q1.2 with hif := { q1.2.hif with xf := q1.2.hif.xf.filter (fun x => !(x.ring == r && x.kind == 1)), desc := Tab.del q1.2.hif.desc r } })
  else q

/-- R404: no command that the ring still owes a completion. -/
def NvSt.drained (nv : NvSt) (r : Nat) : Bool :=
  nv.jrec.all (fun j => j.gone || decide (2 ≤ j.stg) || !(j.ring == r || ((nv.ring j.ring).live && (nv.ring j.ring).typ == 0 && (nv.ring j.ring).pair == r)))

/-- R404: a draining ring becomes FREE with its last accepted command. -/
def ringDrained (r : Nat) (q : NC) : NC := if q.2.rst r = 5 && q.1.drained r then ringFree r q else q

/-- R412: ring 0 or 1 from `HIF_ADM_CFG`: created from FREE, or restarted from FROZEN with all indices 0; what the journal still
holds of ring 0 counts as covered, and its completions come first. -/
def admRing (r : Nat) (x : JRing) (q : NC) : NC :=
  let st := q.2.rst r
  if st = 0 then ringCreate r x q
  else if st = 4 then
    let recs := q.1.jrec.map (fun j => if j.ring = 0 && !j.gone then
      (if r = 0 then { j with sidx := j.sidx + 65536, wb := true } else { j with ret := j.ret || j.stg == 1 }) else j)
    let v := q.1.ring r
    ringCreate r { x with vec := v.vec, ien := v.ien } ({ q.1 with jrec := recs }, q.2)
  else q

/-- R387, R412: `HIF_ADM_CFG.EN` is written; a ring that the journal has keeps its version. No ring is created after a failed boot (R513). -/
def adminEnable (on : Bool) (q : NC) : NC :=
  if on then
    if q.2.rd F.GLB_BOOT.STAGE = 7 then q else
      let c := q.2.wr F.HIF_ADM_CFG.EN 1
      let ver := if (q.1.ring 0).live then (q.1.ring 0).ver else if (q.1.ring 1).live then (q.1.ring 1).ver else c.rd F.HIF_ADM_CFG.VER
      let cq : JRing := { typ := 1, ver := ver, cls := 1, log2n := c.rd F.HIF_ADM_CFG.CQLOG2, base := 4096 * c.rd2 F.HIF_ACQ_LO.BASE F.HIF_ACQ_HI.BASE }
      let sq : JRing := { typ := 0, ver := ver, cls := 1, log2n := c.rd F.HIF_ADM_CFG.SQLOG2, pair := 1, base := 4096 * c.rd2 F.HIF_ASQ_LO.BASE F.HIF_ASQ_HI.BASE, wb := 8 * c.rd2 F.HIF_AWB_LO.ADDR F.HIF_AWB_HI.ADDR }
      admRing 0 sq (admRing 1 cq (q.1, c))
  else ringDelete 1 (ringDelete 0 (q.1, q.2.wr F.HIF_ADM_CFG.EN 0))

/-! ### Commands that one register bit gives -/

/-- R105: ENUM; a burst and a gleaning cycle end (R181, R217). -/
def enumCmd (c : Core) : Core := gleanFail 7 (burstAbandon 6 (enumRequest c))

/-- R374, R368: the request for the outputs; a standby takes it from the mirror only. -/
def outReqHost (req : Nat) (l : LineSt) (x : SC) : SC := if x.2.standby then x else outReq req l x

/-- R334: a word of the password; the last one acts. -/
def passwordWord (i v : Nat) (x : SC) : SC :=
  if i < 3 then (safmTouch { x.1 with pwd := x.1.pwd.set i (v % 2 ^ 32) }, x.2) else safPassword v x

/-! ### Fields that act by themselves -/

/-- A field that commands by being written 1 through the normal view. -/
def Fld.hit (f : Fld) (o : Nat) (how : WMode) (v : Nat) : Bool := f.off == o && how == .normal && f.bitsOf v != 0

/-- What a field of its own behaviour would hold after a write. -/
def Core.wanted (c : Core) (f : Fld) (how : WMode) (v : Nat) : Nat := f.after how (c.rd f) (f.bitsOf v) % 2 ^ f.width

/-- R17, R31, R59, R67, R258, R276, R281: fields in CTL whose command acts at a tick boundary. -/
def ctlOwn : List Fld :=
  [F.TICK_PERIOD.REQ, F.TICK_FRAME.REQ, F.TICK_PROFILE.GO, F.TICK_SNAP_CTRL.GO, F.CNV_CTRL.CLR, F.CTE_CTRL.LOAD, F.CTE_CTRL.STD, F.CTE_CTRL.HALT,
    F.CTE_PCOMMIT.GO]

/-- R273, R276, R301: the words behind a memory port of the engine and the cause bits of PROT, written whole. -/
def ctlWords (priv : Bool) (how : WMode) : List Fld :=
  (if priv then [F.CTE_PMDATA.DATA] else []) ++ [F.CTE_DMDATA.DATA] ++ (if how = .normal then [causeWord 0, causeWord 1] else [])

/-- They are held for the boundary. -/
def holdCtl (m : Master) (o : Nat) (how : WMode) (v : Nat) (late : Bool) (c : Core) : Core :=
  let c1 := ctlOwn.foldl (fun c f =>
    if f.off = o && f.takes how true && (f.acc != .w1s || f.bitsOf v != 0) then holdOwn m f how (f.bitsOf v) late c else c) c
  (ctlWords (privileged m) how).foldl (fun c f => if f.off = o then holdOwn m f how (f.bitsOf v) late c else c) c1

/-- R439, R443, R446: the registers of IRQ that act. -/
def irqOwn (o : Nat) (how : WMode) (v : Nat) (c : Core) : Core :=
  if how ≠ .normal then c
  else if 0xc200 ≤ o ∧ o < 0xc240 ∧ o % 16 = 4 then irqEoi ((o - 0xc200) / 16) (v % 128) c
  else if 0xc340 ≤ o ∧ o < 0xc350 then irqDiscard ((o - 0xc340) / 4) (v % 2 ^ 32) c
  else if o = F.IRQ_SGI.TRIG.off then irqSgi (v % 16) c
  else c

/-- MEAS, IMP and EST. -/
def cellOwn (o : Nat) (how : WMode) (v : Nat) (c : Core) : Core :=
  let hit := fun (f : Fld) => f.hit o how v
  if o = F.MEAS_WSEL.NODE.off then measWindow (c.wanted F.MEAS_WSEL.NODE how v) (c.wanted F.MEAS_WSEL.SET how v) c
  else if o = F.IMP_CTRL.GO.off then (c.when (hit F.IMP_CTRL.GO) impGo).when (hit F.IMP_CTRL.ABORT) (burstAbandon 5)
  else if o = F.IMP_RSEL.POS.off then impSelect (c.wanted F.IMP_RSEL.POS how v) c
  else if o = F.EST_SAVE_PERIOD.NOW.off then c.when (hit F.EST_SAVE_PERIOD.NOW) saveNow
  else if o = F.EST_GLN_CTRL.REQ.off then (c.when (hit F.EST_GLN_CTRL.REQ) gleanReq).when (hit F.EST_GLN_CTRL.ABORT) gleanAbort
  else if o = F.EST_REST_CTRL.REQ.off then c.when (hit F.EST_REST_CTRL.REQ) restReq
  else if o = F.EST_PSEL.POS.off then estSelect (c.wanted F.EST_PSEL.POS how v) c
  else c

/-- SHF, RED and PTP. -/
def netOwn (o : Nat) (how : WMode) (v : Nat) (c : Core) : Core :=
  let hit := fun (f : Fld) => f.hit o how v
  if o = F.SHF_CTRL.EN.off then (shfEnable (c.wanted F.SHF_CTRL.EN how v) c).when (hit F.SHF_CTRL.REVOKE) revoke
  else if o = F.SHF_DCTRL.GO.off then c.when (hit F.SHF_DCTRL.GO) dispatchGo
  else if o = F.SHF_CSEL.IDX.off then contextSelect (c.wanted F.SHF_CSEL.IDX how v) c
  else if o = F.RED_CTRL.HANDOVER.off then c.when (hit F.RED_CTRL.HANDOVER) (handover 2)
  else if o = F.PTP_CTRL.TSET.off then (c.when (hit F.PTP_CTRL.TSET) plantSet).when (hit F.PTP_CTRL.STEPGO) plantStep
  else c

/-- The fields of their own behaviour that act on the resettable part alone. -/
def ownCore (m : Master) (o : Nat) (how : WMode) (v : Nat) (late : Bool) (c : Core) : Core :=
  holdCtl m o how v late (netOwn o how v (cellOwn o how v (irqOwn o how v c)))

/-- Those that act on the memories too: the rings 0 and 1, the window of the recorder. An alias reaches EN only where its bit is 1 (R41). -/
def ownNv (priv : Bool) (o : Nat) (how : WMode) (v : Nat) (q : NC) : NC :=
  if o = F.HIF_ADM_CFG.EN.off ∧ priv ∧ (how = .normal ∨ F.HIF_ADM_CFG.EN.bitsOf v = 1) then hifPump (adminEnable (q.2.wanted F.HIF_ADM_CFG.EN how v != 0) q)
  else if o = F.EVR_WSEL.SLOT.off then evrWindow (q.2.wanted F.EVR_WSEL.SLOT how v) q.1 q.2
  else q

/-- R527: `GLB_RESET` with its key. -/
def resetWrite (how : WMode) (v : Nat) (s : State) : State :=
  if F.GLB_RESET.PCYC.after how 0 (F.GLB_RESET.PCYC.bitsOf v) = 1 then powerCycle false s
  else if F.GLB_RESET.DEVRST.after how 0 (F.GLB_RESET.DEVRST.bitsOf v) = 1 then deviceReset 2 false s
  else s

/-- The fields of their own behaviour in a register outside the posted blocks. -/
def ownWrite (m : Master) (o : Nat) (how : WMode) (v : Nat) (late : Bool) (s : State) : State :=
  if o = F.GLB_RESET.KEY.off then (if privileged m then resetWrite how v s else s)
  else onNv (fun _ nv c => ownNv (privileged m) o how v (nv, c)) (onCore (ownCore m o how v late) s)

/-! ### Posted writes (R45 to R48) -/

/-- A posted field without behaviour of its own takes effect; a wide value goes through its staging latch (R44). -/
def postPlain (w : PWrite) (c : Core) : Core :=
  if w.fld.pair = 1 then stageLow w.fld w.how w.bits c
  else if w.fld.pair = 2 then
    (match (regAt (w.fld.off - 4)).filter (fun (g : Fld) => g.pair == 1) with
    | g :: _ => match Tab.get 0 c.stg g.key with
      | 0 => c
      | v + 1 => ({ c with stg := Tab.put 0 c.stg g.key 0 }).wr g v
    | [] => c).apply w
  else c.apply w

/-- CHN, CAN, SMB and SVC: a posted field of its own behaviour takes effect. -/
def postOwn (w : PWrite) (c : Core) : Core :=
  let f := w.fld
  let v := f.after w.how (c.rd f) w.bits % 2 ^ f.width
  if f.off = F.CHN_CTRL.ENUM.off then (if f.key = F.CHN_CTRL.ENUM.key then enumCmd c else delayGo c)
  else if f.key = F.CAN_CTRL.INIT.key then (if v = 1 then canInitSet c else canInitRelease c)
  else if 0x50200 ≤ f.off ∧ f.off < 0x50e00 then
    let o := (f.off - 0x50200) / 96
    objHost o (if f.lsb = 16 then txReq o else if f.lsb = 17 then txAbort o else objLock o (v == 1)) c
  else if f.key = F.SMB_C_CMD.GO.key then smbGo false c
  else if f.key = F.SMB_C_CTRL.CLEAR.key then smbClear false c
  else if f.key = F.SMB_T_CTRL.ALERT.key then alertSet c
  else if f.key = F.SMB_T_CTRL.ALERTCLR.key then alertClear c
  else if f.key = F.SVC_CTRL.BLOCK.key then svcBlock (v == 1) c
  else c

/-- R319, R323, R327, R331 to R334: a bit of `SAFM_CMD`. -/
def safCmd (bit : Nat) (l : LineSt) (x : SC) : SC :=
  match bit with
  | 0 => safStage x
  | 1 => safCompute x
  | 2 => safClrFlt x
  | 3 => safRstCmd l x
  | 4 => safClrWeld x
  | 5 => safPwdEnd x
  | 6 => safPwdAct x
  | _ => x

/-- SAFM: a posted field takes effect at the channels. -/
def postSaf (w : PWrite) (l : LineSt) (x : SC) : SC :=
  let f := w.fld
  let v := f.after w.how (x.2.rd f) w.bits % 2 ^ f.width
  if f.key = F.SAFM_OUTREQ.REQ.key then outReqHost v l x
  else if f.key = F.SAFM_CONFIRM.CV.key then safConfirm v x
  else if f.key = F.SAFM_PDATA.DATA.key then safPdata v x
  else if f.key = F.SAFM_LOGSEL.IDX.key then logSelect v x
  else if f.key = F.SAFM_PADDR.IDX.key then safAddr v x
  else if f.key = F.SAFM_STAT.TONE1.key then
    let one := bitAt (f.after w.how (b2n x.1.tone1) w.bits) 0
    (safmTouch { x.1 with tone1 := one }, x.2.wrB F.SAFM_STAT.TONE1 one)
  else if f.off = F.SAFM_CMD.STAGE.off then safCmd f.lsb l x
  else if 0x3c040 ≤ f.off ∧ f.off < 0x3c050 then passwordWord ((f.off - 0x3c040) / 4) w.bits x
  else pdataShow (safmTouch x.1, postPlain w x.2)

/-- CHN, CAN, SMB and SVC: a posted field takes effect. -/
def postCore (c : Core) (w : PWrite) : Core := if w.fld.cls = .own then postOwn w c else postPlain w c

/-- A posted field takes effect. -/
def postField (s : State) (w : PWrite) : State :=
  if w.fld.off / 16384 = 15 then onSaf (fun _ => postSaf w) s else onCore (fun c => postCore c w) s

/-- A held write that waits for the commit of a posted block. -/
def postedIn (b : Nat) (w : PWrite) : Bool := w.fld.off / 16384 == b

/-- R434: sources 30 and 77 tell of a posted write of CHN and a staged write of SAFM; `o` the register's offset in its block. -/
def postedTold (b o : Nat) (c : Core) : Core := if b = 6 then c.raise 30 0 o else if b = 15 then c.raise 77 0 o else c

/-- R45, R402: a posted block that still has a write in flight. -/
def Core.blockBusy (c : Core) (off : Nat) : Bool := let b := off / 16384; postedBlock b && c.on (xstat b).1

/-- R45: the posted write in flight to block `b` commits, and BUSY reads 0. -/
def postedCommit (b : Nat) (s : State) : State :=
  if postedBlock b && s.core.on (xstat b).1 && !s.pwr.held then
    let ws := s.core.wait.filter (postedIn b)
    let c := { s.core with wait := s.core.wait.filter (fun w => !postedIn b w) }.wr (xstat b).1 0
    onCore (postedTold b (match ws with | w :: _ => w.fld.off % 4096 | [] => 0)) (ws.foldl postField { s with core := c })
  else s

/-- R47: a read of CHN, CAN, SMB or SVC waits for the commit of the write in flight: what it sees. -/
def Core.pastPosted (c : Core) (off : Nat) : Core :=
  let b := off / 16384
  if postedBlock b && b != 15 then (c.wait.filter (postedIn b)).foldl postCore { c with wait := c.wait.filter (fun w => !postedIn b w) } else c

/-- R37: the bytes of a word that a read with partial byte enables returns. -/
def byteMask (be : Nat) : Nat := sumN ((upTo 4).map (fun i => if bitAt be i then 255 * 256 ^ i else 0))

/-- R36, R37, R47: a read by a master, through its own offset, with byte enables. -/
def Core.busRead (c : Core) (m : Master) (off be : Nat) : Nat :=
  if c.reaches m off then Nat.land ((c.pastPosted (csrOff m off)).readWord (privileged m) (csrOff m off)) (byteMask be) else 0

/-- R389: a read of a function's doorbell page: STATE of a ring's slot; every other offset reads zero. -/
def Core.pageRead (c : Core) (off : Nat) : Nat := if off % 64 = 12 ∧ off < 4096 then c.rst (off / 64) + 65536 * c.rmod (off / 64) else 0

/-- The fields of a register that a write changes or commands. -/
def takenBy (fs : List Fld) (how : WMode) (priv : Bool) (v : Nat) : List Fld :=
  fs.filter (fun f => f.takes how priv && ((f.acc != .w1c && f.acc != .w1s) || f.bitsOf v != 0))

/-- R45: a write to a posted block goes on its way, or is dropped while another is in flight. DESIGN CHOICE (notes/assumptions/43): a
write that changes no field is posted too. -/
def postWrite (m : Master) (fs : List Fld) (how : WMode) (v b : Nat) (c : Core) : Core :=
  if c.on (xstat b).1 then c.wr (xstat b).2 1
  else { (c.wr (xstat b).1 1) with wait := c.wait ++ fs.map (fun f => ⟨f, f.bitsOf v, how, false, m⟩) }

/-- R476, R477: what a write to an object's register that is discarded still gives: the commands of a pending object's CFG. -/
def objFields (c : Core) (n : Nat) (fs : List Fld) : List Fld :=
  match c.canRefuses n with
  | none => fs
  | some o => if (n - 0x50200) % 96 = 0 && !c.balOwns o then fs.filter (fun f => decide (16 ≤ f.lsb)) else []

/-- R476, R38: a discarded write shows in WERR, and is counted once. -/
def objWerr (m : Master) (part : Bool) (n shown : Nat) (c : Core) : Core :=
  match c.canRefuses n with
  | some o => (c.wr (F.CAN_OBJ_STAT.WERR o) 1).when (!part) (accViol m 0 shown)
  | none => c

/-! ### A write by a master -/

/-- R515, R525: SEAL written 1 locks BLC. -/
def blcSealWrite (c : Core) : Core := if c.on F.BLC_SEAL.SEAL then (c.wr F.BLC_SEAL.SEAL 0).wr F.BLC_SEAL.SEALED 1 else c

/-- A write that reaches the register at `n` of the normal view, in the fields that `mask` covers. -/
def regWrite (m : Master) (n v mask : Nat) (how : WMode) (late : Bool) (s : State) : State :=
  let fs := (takenBy (regAt n) how (privileged m) v).filter (fun f => f.bitsOf mask != 0)
  let b := n / 16384
  let part := !privileged m && carriesP (regAt n) how v
  if postedBlock b && n % 4096 != 0xffc then
    onCore (fun c => (postWrite m (objFields c n fs) how v b c).when (!c.on (xstat b).1) (objWerr m part n (n + 4096 * viewIndex how))) s
  else
    let s1 := onCore (writeFields m how late v (fs.filter (fun f => f.cls != .own))) s
    let s2 := if (regAt n).any (fun f => f.cls == .own && f.bitsOf mask != 0) then ownWrite m n how v late s1 else s1
    if b = 17 then onCore redShow s2 else if b = 1 then onCore blcSealWrite s2 else s2

/-- R338: a staged word beyond the set. -/
def State.beyondSet (s : State) (n : Nat) : Bool := decide (n = F.SAFM_PDATA.DATA.off) && decide (208 ≤ s.saf.idx)

/-- R38: a write that the chapter of its register has discarded or refused once it arrives (R273, R276, R420, R476). -/
def Core.discards (c : Core) (m : Master) (how : WMode) (n v : Nat) : Bool :=
  (decide (n = F.CTE_PMDATA.DATA.off) && privileged m && c.pmBarred) || (decide (n = F.CTE_DMDATA.DATA.off) && c.dmBarred) ||
    (c.canRefuses n).isSome ||
    (regAt n).any (fun f => match atuMode f with
      | some k => f.takes how (privileged m) && c.bypassRefused k (f.after how (c.view f) (f.bitsOf v) % 2 ^ f.width)
      | none => false)

/-- R33 to R42, R549 to R552: a write by a master through its own offset `off` and a view, with byte enables `be`; `late` after
the write cut-off of the tick (R53). -/
def busWrite (m : Master) (off v be : Nat) (how : WMode) (late : Bool) (s : State) : State :=
  let n := normalOff (csrOff m off)
  let shown := n + 4096 * viewIndex how
  let barred := !s.core.reaches m off || ((viewFn m).isSome && how != .normal)
  let own := s.core.restricted m how n v || s.beyondSet n
  let part := !privileged m && carriesP (regAt n) how v
  if be ≠ 15 then onCore (accViol m (b2n (!barred && !own && !part && !s.core.discards m how n v)) shown) s
  else if barred then onCore (accViol m 0 shown) s
  else if blockCount ≤ n / 16384 then s
  else if own && !s.core.blockBusy n then onCore (accViol m 0 shown) s
  else regWrite m n v (2 ^ 32 - 1) how late (if part then onCore (accViol m 0 shown) s else s)

end Sys2Proof.Machine
end

