-- ==== Sys2Proof/Machine/Cmd.lean ====
section
/-! DEFINITION. Ring commands (R383 to R407, R423): which opcode a function may run, how a command begins, waits and ends, and the
effect of each opcode of R402. -/

namespace Sys2Proof.Machine

/-! ### Who may run what (R384, R385, R402) -/

/-- R402: the group of an opcode: 0 common, 1 control, 2 parameter, 3 register write, 4 read-out, 5 save, 6 admin. -/
def opGroup (op : Nat) : Nat :=
  if op < 16 ∨ op = 42 then 6 else if op = 16 ∨ op = 17 then 0 else if op = 18 ∨ op = 19 then 3 else if op < 42 then 1
  else if op = 43 then 2 else if op = 44 then 5 else 4

/-- R384: the groups of a function. -/
def fnGroups : Nat → List Nat
  | 0 => [0, 1, 2, 3, 4, 5] | 1 => [0, 1, 2] | 2 => [0, 4] | _ => [0, 3, 4, 5]

/-- R384, R385, R402: an opcode may run on a ring. -/
def Core.permits (c : Core) (ring owner op : Nat) : Bool :=
  let g := opGroup op
  if g = 6 then ring == 0
  else (fnGroups owner).contains g && (owner == 0 || !bitAt (c.rd (F.BLC_FVIEW.GWD (owner - 1))) g)

/-- R390: the parameter bytes carry bits only where an opcode has parameters. -/
def parOk (masks par : List Nat) : Bool := (upTo 32).all (fun i => clearBits (par.getD i 0) (masks.getD i 0) == 0)

/-! ### Beginning and end of a command -/

/-- A command of ring `j.ring` ends, and what can go on its way does. -/
def cmdEnd (j : JRec) (status result : Nat) (s : State) : State := onNv (fun _ nv c => hifPump (finish j.ring j.sidx status result (nv, c))) s

/-- A command holds its ring: what it waits for (R398). -/
def cmdWait (j : JRec) (wait : Nat) (s : State) : State :=
  { s with nv := s.nv.setRun j.ring j.sidx (fun x => { x with run := true, wait := wait }) }

/-- A command that waits, with the result so far. -/
def cmdHold (j : JRec) (wait result : Nat) (s : State) : State :=
  { s with nv := s.nv.setRun j.ring j.sidx (fun x => { x with run := true, wait := wait, result := result }) }

/-- Bytes go to the buffer of a command, which ends with them (R402). -/
def cmdBuffer (j : JRec) (data : List Nat) (status result : Nat) (s : State) : State :=
  let s1 : State := { s with nv := s.nv.setRun j.ring j.sidx (fun x => { x with run := true, wait := 0, status := status, result := result % 2 ^ 64 }) }
  if data = [] then cmdEnd j status result s1
  else onCore (pushXf { kind := 3, ring := j.ring, fn := j.own, cls := j.cls, iova := j.buf, len := data.length, data := data, write := true, idx := j.sidx, cid := j.cid }) s1

/-- R398, R519: commands execute once the application runs, in a module that is not a standby. -/
def Core.executes (c : Core) : Bool := (c.rd F.GLB_BOOT.STAGE == 2 || c.rd F.GLB_BOOT.STAGE == 3) && !c.standby

/-- R398: the command at the head of a SUBMIT ring, when it may begin: journaled, its buffer read. -/
def State.ready1 (s : State) (op r : Nat) : Option JRec :=
  match s.nv.headRec r with
  | some j =>
    if j.op == op && !j.run && s.core.executes && s.core.journaled j && (j.reads == 0 || (s.core.hif.rbuf.find? (fun x => x.1 == r)).isSome) then some j else none
  | none => none

/-- R385, R390, R400, R402: the command with opcode `op` at the head of ring `r` executes, or ends with EXPIRED, PERM or PARAM. One that a
reset has interrupted with part of its effect applied goes on. -/
def runCmd (op r : Nat) (masks : List Nat) (f : JRec → State → State) (s : State) : State :=
  if s.pwr.held then s else
    match s.ready1 op r with
    | none => s
    | some j =>
      if j.ttl ≠ 0 ∧ j.acc ∧ j.result = 0 ∧ j.ttl < s.aon.ops - j.ops then cmdEnd j 9 0 s
      else if !s.core.permits r j.own op then cmdEnd j 3 0 s
      else if j.rsv || !parOk masks j.par then cmdEnd j 4 0 s
      else f j s

/-- The bytes read from a command's buffer. -/
def State.buffer (s : State) (r : Nat) : List Nat := s.core.buffer r

/-- R17: a write of one field by the module's own command processor. -/
def fieldWrite (f : Fld) (v : Nat) (c : Core) : Core :=
  if inCtl f.off then placeWrite .super f .normal v c.pastCutOff c.moment else placeWrite .super f .normal v false c

/-! ### Register commands (R402, R551) -/

/-- R402: the word of a masked write: in RW fields the other bits stay; pulses are written where the mask covers them. -/
def Core.maskedWord (c : Core) (n value mask : Nat) (how : WMode) : Nat :=
  let old := if how = .normal then c.readWord true n else 0
  sumN ((regAt n).map (fun f =>
    let m := f.bitsOf mask
    let keep := match f.acc with | .rw => clearBits (f.bitsOf old) m | .rwp => clearBits (f.bitsOf old) m | _ => 0
    (keep + Nat.land (f.bitsOf value) m) * 2 ^ f.lsb))

/-- R551: a write of a function's ring is refused. -/
def Core.regRefuses (c : Core) (owner off mask : Nat) : Bool :=
  owner != 0 && (!c.fnReaches owner off || (regAt off).any (fun f => f.privOnly && f.bitsOf mask != 0))

/-- R17, R402: a masked write reaches its register; in CTL its instant tells at which boundary it commits. -/
def cmdRegWrite (owner off value mask : Nat) (s : State) : State :=
  let n := normalOff off
  let how := aliasOf off
  let v := s.core.maskedWord n value mask how
  if blockCount ≤ n / 16384 then s
  else if s.core.restricted (fnMaster owner) how n v || s.beyondSet n then onCore (accViol (fnMaster owner) 0 off) s
  else if inCtl n then regWrite (fnMaster owner) n v mask how s.core.pastCutOff (onCore Core.moment s)
  else regWrite (fnMaster owner) n v mask how false s

/-- An offset that the CSR space has. -/
def offsetOk (off : Nat) : Bool := decide (off < 524288) && off % 4 == 0

/-- R402: REG_WRITE issues its write; a reset is marked executed before it acts (R397). -/
def regWriteGo (j : JRec) (s : State) : State :=
  let off := j.arg 0 4
  let o := j.own
  if s.core.regRefuses o off (j.arg 8 4) then cmdEnd j 3 0 (onCore (accViol (fnMaster o) 0 off) s)
  else if s.core.blockBusy off then cmdWait j 20 s
  else if normalOff off = F.GLB_RESET.KEY.off then cmdRegWrite o off (j.arg 4 4) (j.arg 8 4) (cmdEnd j 0 0 s)
  else cmdWait j 13 (cmdRegWrite o off (j.arg 4 4) (j.arg 8 4) s)

/-- R402: REG_LIST applies its entries in order from entry `i` on, `n` more at the most, until one fails or meets a busy block. -/
def regListGo (j : JRec) (b : List Nat) : Nat → Nat → State → State
  | 0, i, s => cmdHold j 17 i s
  | n + 1, i, s =>
    let e := listEntry b i
    let o := j.own
    if b.length / 12 ≤ i then cmdHold j 17 i s
    else if !offsetOk e.1 then cmdEnd j 4 i s
    else if s.core.regRefuses o e.1 e.2.2 then cmdEnd j 3 i (onCore (accViol (fnMaster o) 0 e.1) s)
    else if s.core.blockBusy e.1 then cmdHold j 23 i s
    else regListGo j b n (i + 1) (cmdRegWrite o e.1 e.2.1 e.2.2 s)

/-! ### Ring commands (R402 to R407) -/

/-- R402: the result of RING_QUERY. -/
def ringWord (r : Nat) (nv : NvSt) (c : Core) : Nat :=
  let own := fun (j : JRec) => if (nv.ring r).typ = 1 then (nv.ring j.ring).pair == r && !j.gone else j.ring == r && !j.gone
  c.rmod r + 2 ^ 16 * c.rhost r + 2 ^ 32 * c.rst r + 2 ^ 36 * c.rd (F.HIF_RSTAT.ERR r) + 2 ^ 40 * countIf (fun j => j.stg == 1 && own j) nv.jrec

/-- R403: the ring that RING_CREATE describes. -/
def createRing (j : JRec) : JRing :=
  let r := j.arg 0 1
  { typ := j.arg 1 1, log2n := j.arg 2 1 % 16, ver := j.arg 2 1 / 16, owner := j.arg 3 1, pair := if j.arg 1 1 = 0 then j.arg 4 1 else 0, vec := j.arg 5 1, cls := if r = 2 ∨ r = 3 then 0 else j.arg 6 1, base := j.arg 8 8, wb := if j.arg 1 1 = 0 then j.arg 16 8 else 0 }

/-- R411: the module supports the version of a ring (0 is version 1, 1 version 2). -/
def Core.verOk (c : Core) (v : Nat) : Bool := decide (c.rd F.HIF_VER.DMIN ≤ v + 1) && decide (v + 1 ≤ c.rd F.HIF_VER.DMAX)

/-- R386, R387, R403: its parameters are in range, and a SUBMIT ring has a COMPLETE ring of the same owner and version. -/
def Core.createOk (c : Core) (r : Nat) (x : JRing) : Bool :=
  decide (2 ≤ r) && decide (4 ≤ x.log2n) && decide (x.log2n ≤ 12) && ((x.typ == 3) == (r == 2 || r == 3)) && (x.typ != 3 || x.owner == 0) &&
    x.base % 4096 == 0 && x.wb % 8 == 0 &&
    (x.typ != 0 || (c.rtyp x.pair == 1 && c.rst x.pair != 0 && c.rowner x.pair == x.owner && c.rd (F.HIF_RSTAT.VER x.pair) == x.ver))

/-- R402, R403, R411: RING_CREATE. -/
def cmdRingCreate (j : JRec) (s : State) : State :=
  let r := j.arg 0 1
  let x := createRing j
  if !s.core.verOk x.ver then cmdEnd j 7 0 s
  else if !s.core.createOk r x then cmdEnd j 4 0 s
  else if s.core.rst r ≠ 0 then cmdEnd j 5 0 s
  else
    let s1 := onNv (fun _ nv c => ringCreate r x (nv, c)) s
    cmdEnd j 0 (ringWord r s1.nv s1.core) s1

/-- R402, R404: RING_DELETE; it completes at FREE. -/
def cmdRingDelete (j : JRec) (s : State) : State :=
  let r := j.arg 0 1
  if r < 2 then cmdEnd j 4 0 s
  else if s.core.rst r = 0 then cmdEnd j 5 0 s
  else if s.core.rtyp r = 1 && s.nv.jring.any (fun p => p.2.live && p.2.typ == 0 && p.2.pair == r) then cmdEnd j 8 0 s
  else
    let s1 := onNv (fun _ nv c => ringDelete r (nv, c)) s
    if s1.core.rst r = 0 then cmdEnd j 0 0 s1 else cmdWait j 14 s1

/-- R402: RING_QUERY. -/
def cmdRingQuery (j : JRec) (s : State) : State := cmdEnd j 0 (ringWord (j.arg 0 1) s.nv s.core) s

/-- R402, R407, R411: RING_RESTART of a FROZEN ring. -/
def cmdRingRestart (j : JRec) (s : State) : State :=
  let r := j.arg 0 1
  if r < 2 ∨ j.arg 8 8 % 4096 ≠ 0 ∨ j.arg 16 8 % 8 ≠ 0 then cmdEnd j 4 0 s
  else if s.core.rst r ≠ 4 then cmdEnd j 5 0 s
  else if !s.core.verOk (s.nv.ring r).ver then cmdEnd j 7 0 s
  else if s.core.rtyp r = 0 ∧ s.core.rst (s.nv.ring r).pair ≠ 1 then cmdEnd j 5 0 s
  else
    let s1 := onNv (fun _ nv c => ringRestart r (j.arg 8 8) (j.arg 16 8) (nv, c)) s
    cmdEnd j 0 (ringWord r s1.nv s1.core) s1

/-- R402, R404: a HALTED ring becomes ACTIVE; entries that were not accepted are discarded. -/
def ringReset (r : Nat) (q : NC) : NC :=
  let c := q.2
  if c.rtyp r = 0 then
    let c1 : Core := { c.wr (F.HIF_RIDX.HOST r) (c.rmod r) with
      hif := { c.hif with fetch := Tab.put 0 c.hif.fetch r (c.rmod r), desc := Tab.del c.hif.desc r, xf := (c.hif.xf.filter (fun x => !(x.ring == r && x.kind == 1))).map (fun x => if x.ring = r then { x with stalled := false } else x) } }
    jShow ({ q.1 with jrec := q.1.jrec.filter (fun j => !(j.ring == r && j.stg == 0 && !j.acc && !j.run)) }, ringState r 1 (c1.wr (F.HIF_RSTAT.ERR r) 0))
  else (q.1, ringState r 1 (c.wr (F.HIF_RSTAT.ERR r) 0))

/-- R402: RING_RESET. -/
def cmdRingReset (j : JRec) (s : State) : State :=
  let r := j.arg 0 1
  if s.core.rst r ≠ 3 then cmdEnd j 5 0 s
  else
    let s1 := onNv (fun _ nv c => ringReset r (nv, c)) s
    cmdEnd j 0 (ringWord r s1.nv s1.core) s1

/-- R402, R408, R415: VECTOR_MAP. -/
def cmdVectorMap (j : JRec) (s : State) : State :=
  let r := j.arg 0 1
  if s.core.rst r = 0 then cmdEnd j 5 0 s
  else
    let v := 16 * s.core.rowner r + j.arg 1 1
    let on := j.arg 2 1
    let c := (((s.core.wr (F.HIF_RSTAT.VEC r) (j.arg 1 1)).wr (F.HIF_RSTAT.IEN r) on).wr (F.HIF_MOD.TIMER v) (j.arg 4 2)).wr (F.HIF_MOD.COUNT v) (j.arg 6 1)
    cmdEnd j 0 0 { s with nv := s.nv.setRing r (fun x => { x with vec := j.arg 1 1, ien := on == 1 }), core := c }

/-- R402: STREAM_BIND; a source has at most two rings. -/
def cmdStreamBind (j : JRec) (s : State) : State :=
  let src := j.arg 0 1
  let r := j.arg 1 1
  let b := s.core.hif.bind
  if src = 0 ∨ 2 < src then cmdEnd j 4 0 s
  else if s.core.rst r = 0 ∨ s.core.rtyp r ≠ 2 then cmdEnd j 5 0 s
  else if j.arg 2 1 = 0 then cmdEnd j 0 0 { s with core := { s.core with hif := { s.core.hif with bind := b.filter (fun x => x != (src, r)) } } }
  else if b.contains (src, r) then cmdEnd j 0 0 s
  else if 2 ≤ countIf (fun x => x.1 == src) b then cmdEnd j 5 0 s
  else cmdEnd j 0 0 { s with core := { s.core with hif := { s.core.hif with bind := b ++ [(src, r)] } } }

/-! ### ATU_INVALIDATE, IDENTIFY -/

/-- R423: ATU_INVALIDATE; it completes once no transfer holds a translation in scope. -/
def cmdAtuInvalidate (j : JRec) (s : State) : State :=
  let sc := j.arg 0 1
  if sc = 3 ∨ (sc = 2 ∧ j.arg 16 4 = 0) then cmdEnd j 4 0 s
  else
    let s1 := onCore (atuInvalidate sc (j.arg 1 1) (j.arg 8 8 / 4096) (j.arg 16 4)) s
    if s1.core.holdsIn sc (j.arg 1 1) (j.arg 8 8 / 4096) (j.arg 16 4) then cmdWait j 15 s1 else cmdEnd j 0 0 (onCore (atuInvDone (j.arg 1 1)) s1)

/-- R384, R385, R402: the opcodes that a function may run, one bit each. -/
def Core.opBits (c : Core) (fn : Nat) : List Nat :=
  (upTo 32).map (fun b => sumN ((upTo 8).map (fun i => let op := 8 * b + i
    if opKnown op && (if opGroup op = 6 then fn == 0 else c.permits 1 fn op) then 2 ^ i else 0)))

/-- R402, R553: the content of the identity page: the GLB identity group, HIF_VER, the opcode bitmap of each function. DESIGN CHOICE
(notes/assumptions/75): it stands in this order from the first byte on. -/
def Core.identity (c : Core) : List Nat :=
  (upTo 9).flatMap (fun i => leBytes 4 (c.readWord true (4 * i))) ++ leBytes 4 (c.readWord true F.HIF_VER.DMIN.off) ++ (upTo 4).flatMap c.opBits

/-- R402: IDENTIFY. What the page holds beyond its content is not stated: those bytes are free (notes/assumptions/75). -/
def cmdIdentify (j : JRec) (s : State) : State :=
  let d := s.core.identity
  if j.blen < 4096 then cmdEnd j 4 0 s
  else cmdBuffer j (d ++ (upTo (4096 - d.length)).map (fun i => (Config.freeInt 15 i).toNat % 256)) 0 0 s

/-! ### Common and register-write opcodes -/

/-- R402: NOP. -/
def cmdNop (j : JRec) (s : State) : State := cmdEnd j 0 0 s

/-- R402, R551: REG_READ. -/
def cmdRegRead (j : JRec) (s : State) : State :=
  let off := j.arg 0 4
  let o := j.own
  if !offsetOk off then cmdEnd j 4 0 s
  else if o ≠ 0 ∧ !s.core.fnReaches o off then cmdEnd j 3 0 s
  else cmdEnd j 0 ((s.core.pastPosted off).readWord (o == 0) off) s

/-- R402: REG_WRITE. -/
def cmdRegWr (j : JRec) (s : State) : State := if offsetOk (j.arg 0 4) then regWriteGo j s else cmdEnd j 4 0 s

/-- R397, R402: REG_LIST, of up to 256 entries of 12 bytes; entries applied before a reset are not applied again. -/
def cmdRegList (j : JRec) (s : State) : State :=
  if 3072 < j.blen ∨ j.blen % 12 ≠ 0 then cmdEnd j 4 0 s else regListGo j (s.buffer j.ring) 256 j.result s

/-! ### Control, parameter and save opcodes -/

/-- R402: CNV_ON. -/
def cmdCnvOn (j : JRec) (s : State) : State := cmdWait j 1 (onCore (fieldWrite F.CNV_CTRL.ON (j.arg 0 1)) s)

/-- R402: CNV_CLEAR. -/
def cmdCnvClear (j : JRec) (s : State) : State := cmdWait j 1 (onCore (holdCmd F.CNV_CTRL.CLR 1) s)

/-- R402: ISET. -/
def cmdIset (j : JRec) (s : State) : State :=
  cmdWait j 3 (onCore (fun c => fieldWrite F.CNV_CTRL.MODE (j.arg 4 1) (fieldWrite F.CNV_ISET.ISET (j.arg 0 4) c)) s)

/-- R402: DISPATCH_TARGET; it completes at the epoch boundary. -/
def cmdDispatchTarget (j : JRec) (s : State) : State := cmdWait j 4 (onCore (fun c => dispatchGo (fieldWrite F.SHF_PTGT.P (j.arg 0 4) c)) s)

/-- R402: VREF_NOM. -/
def cmdVrefNom (j : JRec) (s : State) : State := cmdWait j 5 (onCore (fieldWrite F.SHF_VREF_NOM.V (j.arg 0 4)) s)

/-- R402: OUTPUT_REQUEST, a posted write of `SAFM_OUTREQ`. -/
def cmdOutputRequest (j : JRec) (s : State) : State :=
  if s.core.blockBusy F.SAFM_OUTREQ.REQ.off then cmdWait j 22 s
  else cmdWait j 6 (onCore (postWrite (fnMaster j.own) [F.SAFM_OUTREQ.REQ] .normal (j.arg 0 1) 15) s)

/-- R402: PROFILE. -/
def cmdProfile (j : JRec) (s : State) : State :=
  cmdWait j 7 (onCore (fun c => holdCmd F.TICK_PROFILE.GO 1 (fieldWrite F.TICK_PROFILE.REQ (j.arg 0 1) c)) s)

/-- R402: GLEAN. -/
def cmdGlean (j : JRec) (s : State) : State :=
  let s1 := onCore (if j.arg 0 1 = 0 then gleanReq else gleanAbort) s
  if s1.core.on F.EST_GLN_CTRL.REQ ∧ j.arg 0 1 = 0 then cmdWait j 8 s1 else cmdEnd j 0 (s1.core.readWord true F.EST_GLN_CTRL.REQ.off) s1

/-- R402: REST. -/
def cmdRest (j : JRec) (s : State) : State :=
  let s1 := onCore restReq s
  if s1.core.on F.EST_REST_CTRL.REQ then cmdWait j 9 s1 else cmdEnd j 0 (s1.core.readWord true F.EST_REST_CTRL.REQ.off) s1

/-- R402: IMP_BURST. -/
def cmdImpBurst (j : JRec) (s : State) : State :=
  let s1 := onCore impGo s
  cmdEnd j 0 (s1.core.readWord true F.IMP_STAT.STATE.off) s1

/-- R16, R17, R402: the writes of CTE_LOAD: the program's registers, the words of the buffer from BASE on, and the start of the admission
check. -/
def Core.loadWrites (c : Core) (base len swap bind : Nat) (b : List Nat) : List (Fld × Nat) :=
  [(F.CTE_LOAD.BASE, base), (F.CTE_LOAD.LEN, len), (F.CTE_SWAP.SWAP, swap % 4), (F.CTE_SWAP.KEEP, swap / 4 % 2), (F.CTE_SWAP.BIND, bind),
    (F.CTE_PMADDR.ADDR, base)] ++ (upTo len).map (fun i => (F.CTE_PMDATA.DATA, wordAt b i)) ++
    [(F.CTE_PMADDR.ADDR, c.view F.CTE_PMADDR.ADDR), (F.CTE_CTRL.LOAD, 1)]

/-- R402: CTE_LOAD; it completes with the admission check. -/
def cmdCteLoad (j : JRec) (s : State) : State :=
  if 1024 < j.arg 2 2 ∨ j.blen < 4 * j.arg 2 2 then cmdEnd j 4 0 s
  else cmdWait j 16 (onCore (fun c => holdAll (c.loadWrites (j.arg 0 2) (j.arg 2 2) (j.arg 4 1) (j.arg 6 2) (s.buffer j.ring)) c) s)

/-- R402, R276: the writes of CTE_PARAM: the words of the buffer go to the parameter shadow from 0x100, and the commit is requested. -/
def Core.paramWrites (c : Core) (mode : Nat) (b : List Nat) : List (Fld × Nat) :=
  (F.CTE_DMADDR.ADDR, 256) :: (upTo (b.length / 4)).map (fun i => (F.CTE_DMDATA.DATA, wordAt b i % 65536)) ++
    [(F.CTE_DMADDR.ADDR, c.view F.CTE_DMADDR.ADDR), (F.CTE_PCOMMIT.MODE, mode), (F.CTE_PCOMMIT.GO, 1)]

/-- R402: CTE_PARAM. -/
def cmdCteParam (j : JRec) (s : State) : State :=
  if 512 < j.blen ∨ j.blen % 4 ≠ 0 then cmdEnd j 4 0 s
  else cmdWait j 10 (onCore (fun c => holdAll (c.paramWrites (j.arg 0 1) (s.buffer j.ring)) c) s)

/-- R402: SAVE. -/
def cmdSave (j : JRec) (s : State) : State := cmdWait j 11 (onCore saveNow s)

/-! ### Read-out opcodes -/

/-- R402: SNAPSHOT arms, unless another SNAPSHOT command is under way. -/
def cmdSnapshot (j : JRec) (s : State) : State :=
  if j.blen < 64 then cmdEnd j 4 0 s
  else if s.nv.jrec.any (fun x => x.run && x.op == 48 && x.wait == 12 && !(x.ring == j.ring && x.sidx == j.sidx)) then cmdWait j 21 s
  else cmdWait j 12 (onCore (fun c => holdCmd F.TICK_SNAP_CTRL.GO 1 (fieldWrite F.TICK_SNAP_CTRL.SRC (j.arg 0 1) c)) s)

/-- R402: the 64 bytes of a capture. -/
def Core.snapBytes (c : Core) : List Nat :=
  (upTo 14).flatMap (fun i => leBytes 4 (c.readWord true (F.TICK_SNAP_TK_LO.TK.off + 4 * i))) ++ leBytes 4 (c.readWord true F.TICK_SNAP_CTRL.SRC.off) ++ [0, 0, 0, 0]

/-- R402, R507: EVR_READ. -/
def cmdEvrRead (j : JRec) (s : State) : State :=
  if 1024 < j.arg 8 2 ∨ j.blen < 64 * j.arg 8 2 then cmdEnd j 4 0 s
  else
    let rs := evrFrom s.nv (j.arg 0 8) (j.arg 8 2)
    cmdBuffer j (rs.flatMap Rec.bytes) 0 rs.length s

/-- R147 to R149: the node window of MEAS for one position: its word of sample set 0. -/
def Core.posMeas (c : Core) (p : Nat) : List Nat := leBytes 4 (Tab.get 65535 c.meas.last.pv (c.slots.getD p 0))

/-- R228: the position window of EST, without its select register. -/
def Core.posEst (c : Core) (p : Nat) : List Nat :=
  (upTo 6).flatMap (fun i => leBytes 4 ((estSelect p c).readWord true (F.EST_PSOC.SOC.off + 4 * i)))

/-- R195: the result window of IMP, without its select register. -/
def Core.posImp (c : Core) (p : Nat) : List Nat :=
  let d := impSelect p c
  leBytes 4 (d.readWord true F.IMP_RQ.QOK.off) ++ leBytes 4 (d.readWord true F.IMP_RT.TIMP.off) ++
    (upTo 8).flatMap (fun i => leBytes 4 (d.readWord true (F.IMP_RZ.MAG i).off))

/-- R402: POS_READ; positions beyond the configured ones are not written. -/
def cmdPosRead (j : JRec) (s : State) : State :=
  let src := j.arg 0 1
  let c := s.core
  let ps := ((upTo (j.arg 4 2)).map (fun i => j.arg 2 2 + i)).filter (fun p => decide (p < c.slots.length))
  let sz := if src = 0 then 4 else if src = 1 then 24 else 40
  if 2 < src ∨ 576 < j.arg 4 2 ∨ j.blen < sz * ps.length then cmdEnd j 4 0 s
  else cmdBuffer j (ps.flatMap (fun p => if src = 0 then c.posMeas p else if src = 1 then c.posEst p else c.posImp p)) 0 ps.length s

/-! ### Commands that wait (R398) -/

/-- R402: a waiting command ends, goes on, or waits further. -/
def settle1 (j : JRec) (s : State) : State :=
  let c := s.core
  match j.wait with
  | 12 =>
    if c.on F.TICK_SNAP_CTRL.GO || !c.settled F.TICK_SNAP_CTRL.GO.off then s
    else cmdBuffer j c.snapBytes 0 (c.readWord true F.TICK_SNAP_CTRL.SRC.off) s
  | 15 => if c.holdsIn (j.arg 0 1) (j.arg 1 1) (j.arg 8 8 / 4096) (j.arg 16 4) then s else cmdEnd j 0 0 (onCore (atuInvDone (j.arg 1 1)) s)
  | 20 => regWriteGo j s
  | 21 => cmdSnapshot j s
  | 22 => cmdOutputRequest j s
  | 23 => regListGo j (s.buffer j.ring) 256 j.result s
  | _ => match c.waitOver j with
    | some r => cmdEnd j r.1 r.2 s
    | none => s

/-- R398: every command that waits is looked at. -/
def hifSettle (s : State) : State :=
  if s.pwr.held then s else (s.nv.jrec.filter (fun j => j.run && j.wait != 0)).foldl (fun s j => settle1 j s) s

end Sys2Proof.Machine
end

