-- ==== Sys2Proof/Machine/Stream.lean ====
section
/-! DEFINITION. The bytes of the two records that go to STREAM rings: the frame record (R142) and the impedance record (R192). -/

namespace Sys2Proof.Machine

/-- R142: the header of a frame record. -/
def FrameRec.header (r : FrameRec) : List Nat :=
  [1, b2n r.dict + 2 * b2n r.ow + 4 * b2n r.imp, r.nodes % 256, r.c % 256] ++ leBytes 4 r.fnum ++ leBytes 6 r.tick ++ [0, 0] ++
    leBytes 4 (r.phase % 2 ^ 24) ++ [r.n % 256, 0] ++ leBytes 2 r.s ++ leBytes 2 r.valid ++ leBytes 2 r.held ++ leBytes 2 r.lost ++
    leBytes 2 r.broken ++ leBytes 4 (ofSigned 32 r.sumMv) ++ leBytes 4 (ofSigned 32 r.isMean) ++ List.replicate 24 0

/-- R142: the entry of node `j` in set `set`. -/
def FrameRec.node (r : FrameRec) (set j : Nat) : List Nat :=
  (upTo 16).flatMap (fun ch => leBytes 4 (Tab.get 65535 r.pv (set * 640 + 16 * j + ch))) ++
    (upTo 8).flatMap (fun t => leBytes 4 (Tab.get 0 r.nt (8 * j + t)))

/-- R142: a frame record. -/
def FrameRec.bytes (r : FrameRec) : List Nat :=
  r.header ++ (upTo r.c).flatMap (fun set =>
    leBytes 4 (ofSigned 32 (r.isSet.getD set 0)) ++ [set % 256] ++ List.replicate 11 0 ++ (upTo r.nodes).flatMap (r.node set))

/-- R192: the entry of one position in an impedance record. -/
def ImpRes.bytes (r : ImpRes) (cal : Bool) : List Nat :=
  (upTo 8).flatMap (fun f => leBytes 2 (r.mag.getD f 0) ++ leBytes 2 (r.ph.getD f 0)) ++
    leBytes 2 (match r.timp with | some t => ofSigned 16 t | none => 32768) ++
    [b2n r.rvalid + 2 * b2n cal + 4 * b2n r.xfail + 8 * b2n r.calib, 0]

/-- R192: the record of the last published burst. -/
def Core.impBytes (c : Core) : List Nat :=
  let ks := c.slots
  [2, countIf (fun b => b != 0) c.imp.pubBins] ++ leBytes 2 ks.length ++ leBytes 4 c.imp.bnum ++ leBytes 4 c.imp.pubStart ++
    [c.imp.qok % 256, c.imp.pubSpace % 256, 0, 0] ++ (upTo 8).flatMap (fun f => leBytes 2 (c.imp.pubBins.getD f 0)) ++
    ks.flatMap (fun k => (Tab.get {} c.imp.res k).bytes ((Tab.get {} c.imp.refs k).z != 0))

end Sys2Proof.Machine
end

