-- ==== Sys2Proof/Machine/Steps.lean ====
section
/-! DEFINITION. Commands that reach over several blocks: the millisecond of the always-on section, enumeration, the frame
record, the burst record, the cooling message, sensor streams, the service requests on images, the die temperature. -/

namespace Sys2Proof.Machine

/-! ### The always-on section -/

/-- R63: the stores every 1,000 ms. -/
def opsStoreStep (s : State) : State := if s.pwr.vin = .off then s else { s with aon := opsStore s.aon }

/-- R62: TB_LINK and TB_PLANT over a ms before CTL runs; afterwards they advance with the tick. -/
def basesMs (c : Core) : Core :=
  if c.tick.running then c
  else plantMove 1000000 { c with tick := { c.tick with link := (c.tick.link + 128000) % 2 ^ 64 } }

/-- The millisecond timers of SYS and FLD (R345 to R359, R512, R529). -/
def msTimers (c : Core) : Core := svcMs (shfMs (basesMs { c with svc := { c.svc with bootMs := min 65535 (c.svc.bootMs + 1) } }))

/-- R63, R65: a millisecond of TB_OPS; a store at input loss completes with it, and the registers that show it are refreshed. -/
def opsRefresh (s : State) : State :=
  if s.pwr.vin = .off then s else
    let a := { s.aon with ops := s.aon.ops + 1 }
    onCoreA (fun a _ c => msTimers (opsShow a c)) { s with aon := if a.storing then opsStore a else a }

/-- R506: in hold-up the recorder waits for the learned values. -/
def recorderStep (p : PwrSt) (a : AonSt) (nv : NvSt) (c : Core) : NC :=
  if p.vin = .holdUp ∧ c.est.saving.isSome then (nv, c) else evrRecord a nv c

/-! ### The chain -/

/-- R83 step 9, R84, R125, R221: an enumeration ends; MEAS counts the positions and EST compares the serials. -/
def enumComplete (ws : Nat × Nat) (c : Core) : Core :=
  let c1 := enumFinish ws.1 ws.2 c
  if c.chn.run.isSome && c1.on F.CHN_STAT.ENUMDONE then showRoEst (nposShow (estSerialCheck c1)) else c1

/-- R103, R217, R221: what an answer of node `j` brings beside its content when the node was UNREACHABLE: EST compares a serial that it
has not compared yet, and a swap ends a gleaning cycle. -/
def heard (j : Nat) (f : Core → Core) (c : Core) : Core :=
  let c1 := f c
  if c1.on (F.CHN_NINFO.REACH j) && !c.on (F.CHN_NINFO.REACH j) then
    estLate (c1.when (c1.on (F.CHN_NINFO.SWAP j) && !c.on (F.CHN_NINFO.SWAP j)) (gleanFail 7))
  else c1

/-- R103, R217, R221: what the answers of several nodes bring beside their content. -/
def heardAll (acks : List Nat) (f : Core → Core) (c : Core) : Core :=
  let c1 := f c
  let back := acks.filter (fun j => c1.on (F.CHN_NINFO.REACH j) && !c.on (F.CHN_NINFO.REACH j))
  if back = [] then c1
  else estLate (c1.when (back.any (fun j => c1.on (F.CHN_NINFO.SWAP j) && !c.on (F.CHN_NINFO.SWAP j))) (gleanFail 7))

/-- R82, R181, R217: an enumeration starts; a burst and a gleaning cycle end with it. -/
def enumBegin (found : EnumFound) (c : Core) : Core :=
  if c.enumMay then gleanFail 7 (burstAbandon 6 (enumStart found c)) else c

/-- R84: the retry one second after a failed enumeration. -/
def enumAgain (c : Core) : Core := if c.chn.retry then gleanFail 7 (burstAbandon 6 (enumRetry c)) else c

/-- R87, R217, R221: a restarted node is re-addressed; EST compares its serial, and a swap ends a gleaning cycle. -/
def readdressed (j : Nat) (d : NodeDesc) (ws : Nat × Nat) (c : Core) : Core :=
  let c1 := readdress j d ws.1 ws.2 c
  if (c.node j).hello && !(c1.node j).hello then
    (estReaddress j c1).when (c.est.serials != [] && !c.knownSerial d.serial) (gleanFail 7)
  else c1

/-- R22, R180: a node from which the running burst has still to read samples. -/
def Core.holdsSamples (c : Core) (j : Nat) : Bool :=
  c.slots.any (fun k => k / 16 == j && !c.imp.slotOver k)

/-- R181: a node is lost to a running burst, unless all that it holds has been read. -/
def burstNodeLost (j : Nat) (c : Core) : Core := if c.holdsSamples j then burstAbandon 2 c else c

/-- R103, R181: three frames without a valid response. -/
def nodeLost (j : Nat) (c : Core) : Core :=
  if c.on (F.CHN_NINFO.REACH j) && decide (3 ≤ (c.node j).quiet) then burstNodeLost j (c.wr (F.CHN_NINFO.REACH j) 0) else c

/-- R87, R181: a HELLO; its node has lost the burst samples it held. -/
def helloTaken (port serial hop : Nat) (c : Core) : Core :=
  if decide (hop < c.chn.total) && c.on F.CHN_STAT.ENUMDONE then burstNodeLost (c.helloNode port hop) (helloReceived port serial hop c) else c

/-! ### Records -/

/-- R150: what is known of the next frame: whether it is an open-wire frame. -/
def Core.owNext (c : Core) : Bool :=
  let f := (c.rd F.TICK_FNUM.FNUM + 1) % 2 ^ 32
  let per := c.rd F.MEAS_OW.PERIOD
  ((per != 0 && f % per == 0) || c.meas.owConfirm || c.meas.owRepeat || c.meas.owDefer) && c.impState != 3 &&
    !(c.impState == 2 && c.imp.startF == f)

/-- R23, R96, R141: the frame record goes to EST, IMP, PROT and BAL, and to the STREAM rings; once in a frame, when readout has
completed or D has passed. In a standby PROT alone takes its own record (R304); the rest comes with the mirror. -/
def frameRecord (ops : Nat) (q : NC) : NC :=
  let c := readoutDeadline q.2
  if !c.tick.running || !c.framesRun || c.chn.published || !(c.chn.rodone || c.pastDeadline) then q
  else if c.standby then (q.1, protRecord (measPublish c))
  else
    let c1 := protRecord (estRecord ops (impRecord (measPublish c)))
    let c2 := bleedCompute ((c1.rd F.TICK_FNUM.FNUM + 1) % 2 ^ 32) c1.owNext c1
    streamWrite 1 c2.meas.last.bytes (q.1, c2)

/-- R186, R192: the burst that has been demodulated is published, and its record goes to the STREAM rings. -/
def burstRecord (ops : Nat) (q : NC) : NC :=
  if q.2.impState = 5 then
    let c := burstPublish ops q.2
    streamWrite 2 c.impBytes (q.1, c)
  else q

/-- R161, R169: the cooling message, with its rolling counter, which SEQ shows. -/
def coolingMessage (c : Core) : Core :=
  if c.on F.BAL_COOL_CAN.EN then
    let c1 := coolSend (c.coolingData ((c.rd F.BAL_COOL.SEQ + 1) % 256)) c
    let c2 := { c1 with bal := { c1.bal with sentDemand := c.rd F.BAL_COOL.DEMAND, sentHeat := c.on F.BAL_COOL.HEAT, msgDue := false } }
    c2.cntWrap F.BAL_COOL.SEQ
  else c

/-! ### The control engine and PROT -/

/-- R276: a read of `CTE_DMDATA`. -/
def dmRead (c : Core) : Core := c.send (.read F.CTE_DMDATA.DATA.off (c.dmWord (c.rd F.CTE_DMADDR.ADDR)))

/-- R284: a channel asserts its gate-off line. -/
def gateOffLine (ch : Nat) (s : State) : State :=
  onSaf (fun _ _ x => ({ x.1 with gate := Nat.lor x.1.gate (2 ^ ch) }, gateLine ch true x.2)) s

/-- R288, R200: a stream stops or runs again; without the primary current EST counts zero. -/
def streamChange (n : Nat) (present : Bool) (c : Core) : Core :=
  let c1 := streamLoss n present c
  if c1.isLost != c.isLost && !c1.standby then curChange c1.isLost c1 else c1

/-! ### The safety channels -/

/-- R512: the mirror holds an exchange. -/
def exchanged (c : Core) : Core := { c with svc := { c.svc with exch := true } }

/-- R329: the power-on diagnostics are complete. -/
def diagComplete (x : SC) : SC := ({ x.1 with diagDone := true }, x.2)

/-- R316: the tone lines of the ports to the channels change with the line. -/
def toneLines (s t : State) : State := onSaf (fun _ l => singleLoss s.line l) t

/-- R38, R338: a word of the staged set; a write beyond the set is discarded and counted. -/
def pdataWrite (v : Nat) (x : SC) : SC :=
  if x.1.idx < 208 then safPdata v x else (safmTouch x.1, accViol .f0 0 F.SAFM_PDATA.DATA.off x.2)

/-! ### The service port and the die temperature -/

/-- R36, R38, R530: REG_WRITE of the service port; outside a session the write is ignored and counted. -/
def svcWrite (off v : Nat) (late : Bool) (s : State) : State :=
  if s.core.on F.SVC_STAT.ATTACH && !s.core.on F.SVC_STAT.SESSION then onCore (fun c => usbAnswer 1 [] (accViol .svc 0 (off % 524288) c)) s
  else inService (fun s => onCore (usbAnswer 0 []) (busWrite .svc off v 15 (aliasOf off) late s)) s

/-- R544: the status words of UPD. -/
def Core.updWords (c : Core) : List Nat :=
  [c.updStat, c.wordOf [F.UPD_PROG.DONE, F.UPD_PROG.TOTAL], c.wordOf [F.UPD_RUNVER.VER, F.UPD_RUNVER.SVER],
    c.wordOf [F.UPD_TGTVER.VER, F.UPD_TGTVER.SVER]]

/-- R533, R538: package bytes; a full image that has verified in the boot-failed state starts by a device reset. -/
def uploadStep (off : Nat) (data : List Nat) (sigOk hashOk : Bool) (sfw : Nat) (s : State) : State :=
  let took := off = 0 ∨ s.nv.upd.state = 1
  let s1 := onNv (fun _ nv c => upload off data sigOk hashOk sfw (nv, c)) s
  let s2 := onCore (fun c => usbAnswer (if c.rd F.UPD_STAT.ERR = 0 then 0 else 2) c.updWords c) s1
  if s1.core.rd F.GLB_BOOT.STAGE = 7 ∧ took ∧ s1.nv.upd.state = 0 ∧ s1.core.rd F.UPD_STAT.ERR = 0 then deviceReset 2 false s2 else s2

/-- R223, R573: the third reading in a row at or above 125 °C: EST saves; a hand-over, or the converter stops. -/
def hotAction (c : Core) : Core :=
  let c1 := saveTrigger 4 c
  if c.active && c.on F.RED_STAT.SBYVALID then handover 2 c1 else fieldWrite F.CNV_CTRL.ON 0 c1

/-- R571, R573: the reading of one ms in 0.1 °C; 132 °C asks for a power cycle. -/
def thermalStep (t : Int) (s : State) : State :=
  let s1 := onCore (fun c => let c1 := thmEval t c; if c1.thm.hot = 3 then hotAction c1 else c1) s
  if 1320 ≤ t then powerCycle false s1 else s1

end Sys2Proof.Machine
end

