-- ==== Sys2Proof/Machine/ExecCell.lean ====
section
/-! DEFINITION. The meanings of the commands, one each. Impedance bursts and state estimation (R174 to R228). -/

namespace Sys2Proof.Machine

/-- R182: The profile interval since the last capture or abandonment elapses and a burst falls due. -/
def execBurstDue (s : State) : Answer :=
  .next (onCore burstInterval s)

/-- R182: A write of IMP_CTRL.GO requests a burst, held pending if one runs, ignored in Durum or Millet. -/
def execImpGo (s : State) : Answer :=
  .next (onCore impGo s)

/-- R181: A write of IMP_CTRL.ABORT abandons the running burst with cause HOST. -/
def execImpAbort (s : State) : Answer :=
  .next (onCore (burstAbandon 5) s)

/-- R176: Before the start frame, IMP sends every node the start frame, spacing and burst number. -/
def execBurstSetup (acks : List NodeAck) (s : State) : Answer :=
  .next (onCore (heardAll (acks.map NodeAck.node) (burstSetup acks)) s)

/-- R178: At each burst instant the nodes convert all positions into their buffers and SDM latches the current into IMP. -/
def execBurstSample (cur : Int) (missed : List Nat) (s : State) : Answer :=
  .next (onCore (burstSample cur missed) s)

/-- R179: At least 20 tk after the last burst instant, burst readout starts in background chain time. -/
def execBurstReadoutStart (s : State) : Answer :=
  .next (onCore readoutStart s)

/-- R180: A BURST packet arrives, or is requested again after a CRC failure. -/
def execBurstPacketReceived (port : Nat) (crcOk : Bool) (node : Nat) (ch : Nat) (part : BurstPart) (s : State) : Answer :=
  .next (onCore (heard node (burstPacket port crcOk node ch part.samples part.serial)) s)

/-- R186: Demodulation completes and IMP publishes results, resistances and temperatures in one step. -/
def execBurstPublish (s : State) : Answer :=
  .next (onNv (fun a nv c => burstRecord a.ops (nv, c)) s)

/-- R188: A valid T_imp reaches two profile intervals without a new burst and becomes invalid. -/
def execTimpExpire (s : State) : Answer :=
  .next (onCore timpExpire s)

/-- R195: A write to IMP_RSEL copies one position's results into the window. -/
def execImpResultSelect (pos : Nat) (s : State) : Answer :=
  .next (onCore (impSelect pos) s)

/-- R209: The no-rest time reaches 72 h; NOREST is set and an event is raised. -/
def execNorestSet (s : State) : Answer :=
  .next (onCoreA (fun a _ => noRestSet a.ops) s)

/-- R210: A write of EST_REST_CTRL.REQ asks SHF for a rest slot, or self-clears with RESULT 0b011 during gleaning. -/
def execRestReq (s : State) : Answer :=
  .next (onCore restReq s)

/-- R211: LEN seconds after the grant, EST applies the rest-slot anchor, releases the slot and sets RESULT. -/
def execRestSlotEnd (s : State) : Answer :=
  .next (hifSettle (onCore restSlotEnd s))

/-- R216: A write of EST_GLN_CTRL.REQ asks SHF for a gleaning slot, or is refused while FIRSTPEND. -/
def execGleanReq (s : State) : Answer :=
  .next (hifSettle (onCore gleanReq s))

/-- R219: A write of EST_GLN_CTRL.ABORT abandons the cycle with CAUSE 0x1 and releases the slot. -/
def execGleanAbort (s : State) : Answer :=
  .next (hifSettle (onCore gleanAbort s))

/-- R216: TREST passes in rest top or rest bottom; anchors are taken and the cycle moves on. -/
def execGleanRestEnd (s : State) : Answer :=
  .next (hifSettle (onCore gleanRestEnd s))

/-- R223: A write of EST_SAVE_PERIOD.NOW triggers a save of the learned values. -/
def execSaveNow (s : State) : Answer :=
  .next (onCore saveNow s)

/-- R223: MIN minutes since the last save pass and a save is triggered. -/
def execPeriodicSave (s : State) : Answer :=
  .next (onCore periodicSave s)

/-- R223: A save to the older MRAM copy completes with its valid mark, and a merged further trigger starts one more save. -/
def execSaveComplete (s : State) : Answer :=
  .next (hifSettle (onNv saveComplete s))

/-- R228: A write to EST_PSEL copies one position context into the window. -/
def execEstPositionSelect (pos : Nat) (s : State) : Answer :=
  .next (onCore (estSelect pos) s)

end Sys2Proof.Machine
end

