-- ==== Sys2Proof/Machine/ExecChain.lean ====
section
/-! DEFINITION. The meanings of the commands, one each. The Lanpol chain and the frame record (R80 to R147). -/

namespace Sys2Proof.Machine

/-- R82: A write of CHN_CTRL.ENUM requests an enumeration, held pending if one runs. -/
def execEnumReq (s : State) : Answer :=
  .next (hifSettle (onCore enumCmd s))

/-- R83: The module resets addresses, addresses the nodes, reads DESC, negotiates versions, measures delays and writes node configuration. -/
def execEnumeration (found : EnumFound) (s : State) : Answer :=
  .next (hifSettle (onCore (enumBegin found) s))

/-- R84: Enumeration ends with success or ENUMERR; ENUMDONE is set and the serials are compared. -/
def execEnumerationComplete (s : State) : Answer :=
  .next (onCore (enumComplete s.saf.nodeWords) s)

/-- R84: One second after a failed enumeration, enumeration is retried. -/
def execEnumRetry (s : State) : Answer :=
  .next (onCore enumAgain s)

/-- R88: A write of CHN_CTRL.DLYGO requests a re-measurement of all path delays. -/
def execDlygo (s : State) : Answer :=
  .next (onCore delayGo s)

/-- R88: DLY_PERIOD frames pass and a delay re-measurement starts in background chain time. -/
def execDelayRemeasureDue (s : State) : Answer :=
  .next (onCore delayDue s)

/-- R88: The ECHO measurement ends; new delays apply at the next SYNC and DLYCHG is set on a change above 5 ns. -/
def execDelayMeasureComplete (back : List EchoBack) (s : State) : Answer :=
  .next (onCore (heardAll (upTo back.length) (delayFinish back)) s)

/-- R90: At each sample instant a node samples all positions and NTC inputs, and SDM latches the string current. -/
def execNodeSample (cur : Int) (s : State) : Answer :=
  .next (onCore (nodeSample cur) s)

/-- R94: A RESULT packet arrives in its slot or on a retry and is stored, or discarded for a CRC mismatch. -/
def execResultReceived (port : Nat) (crcOk : Bool) (node : Nat) (set : Nat) (res : ResultSet) (pkt : PacketFrom) (s : State) : Answer :=
  .next (onCore (heard node (resultReceived port pkt.typ crcOk node set res pkt.serial)) s)

/-- R97: After both slot sweeps end, a missing result is read through the other port, then through the original port. -/
def execReadRetry (node : Nat) (port : Nat) (s : State) : Answer :=
  .next (onCore (readRetry node port) s)

/-- R23: All node results of the frame have been read. -/
def execReadoutComplete (s : State) : Answer :=
  .next (onCore readoutDone s)

/-- R96: Deadline D passes; nodes not read are NOT_SAMPLED with cause not read. -/
def execReadoutDeadline (s : State) : Answer :=
  .next (onCore readoutDeadline s)

/-- R141: MEAS publishes the frame record to EST, BAL, PROT and SHF and queues it for the STREAM rings. -/
def execFrameRecordPublish (s : State) : Answer :=
  .next (onNv (fun a nv c => frameRecord a.ops (nv, c)) s)

/-- R152: After D, BAL sends each node a WRCFG with the target frame and 16 on-times. -/
def execBleedScheduleSend (acks : List NodeAck) (s : State) : Answer :=
  .next (onCore (heardAll (acks.map NodeAck.node) (bleedSend acks)) s)

/-- R132: After D of an open-wire frame, the module reads each node's wire decisions by DIAG, marking tests not performed for repeat. -/
def execOpenWireDiagRead (node : Nat) (diag : WireDiag) (s : State) : Answer :=
  .next (onCore (heard node (openWireDiag node diag.wires diag.serial)) s)

/-- R157: A DIAG read returns node diagnostics and die temperature, moving the node's bleed duty state. -/
def execNodeDiagRead (node : Nat) (temp : Int) (fault : FaultDiag) (s : State) : Answer :=
  .next (onCore (heard node (nodeDiag node temp fault.cause fault.serial)) s)

/-- R87: A restarted node's HELLO arrives, giving its position by the hop counter. -/
def execHelloReceived (port : Nat) (hello : Hello) (s : State) : Answer :=
  .next (onCore (helloTaken port hello.serial hello.hop) s)

/-- R87: Within two frames of HELLO the module re-addresses the node, reads DESC, measures delays and compares its serial. -/
def execNodeReaddress (node : Nat) (desc : NodeDesc) (s : State) : Answer :=
  .next (onCore (readdressed node desc s.saf.nodeWords) s)

/-- R103: A node gives no valid response in 3 consecutive frames and becomes UNREACHABLE. -/
def execNodeUnreachable (node : Nat) (s : State) : Answer :=
  .next (onCore (nodeLost node) s)

/-- R99: A node comparator trip, supply fault or self-test failure makes the node send NOTONE. -/
def execNodeFault (node : Nat) (cause : Nat) (s : State) : Answer :=
  .next (onCore (nodeFault node cause) s)

/-- R102: The ring breaks between nodes; lost slots are retried through the other port. -/
def execLinkBreak (node : Nat) (s : State) : Answer :=
  .next (onCore (linkBreak node) s)

/-- R100: No valid TONE for 200 µs at a port; LOSS is set, LOSSCNT increments, the hard-wired line drives both channels and an event is raised. -/
def execToneLoss (port : Nat) (s : State) : Answer :=
  .next (toneLines s (onLine (toneLoss port) s))

/-- R100: After 10 ms of valid TONE without a gap, the tone is present again at the port. -/
def execToneRestore (port : Nat) (s : State) : Answer :=
  .next (toneLines s (onLine (toneRestore port) s))

/-- R102: A break is located, CHN_BRK is set and the split is re-planned from the next frame boundary. -/
def execBreakLocated (lastA : Nat) (firstB : Nat) (s : State) : Answer :=
  .next (onCore (breakLocated lastA firstB) s)

/-- R102: A repaired break is seen by tone and ECHO; the default split and a delay re-measurement follow. -/
def execRingClosure (s : State) : Answer :=
  .next (onCore ringClosure s)

/-- R147: A write to MEAS_WSEL copies one sample set of one node from the latest record into the window. -/
def execMeasWindowSelect (node : Nat) (set : Nat) (s : State) : Answer :=
  .next (onCore (measWindow node set) s)

/-- R161: Every 1,000 ms, or after a large demand or HEAT change, the cooling message is sent on CAN. -/
def execCoolingMessage (s : State) : Answer :=
  .next (onCore coolingMessage s)

/-- R162: No cooling unit status for TIMEOUT seconds; COOLLOST is set and an event is raised. -/
def execCoolingUnitLost (s : State) : Answer :=
  .next (onCore coolingLost s)

end Sys2Proof.Machine
end

