-- ==== Sys2Proof/Machine/ExecConv.lean ====
section
/-! DEFINITION. The meanings of the commands, one each. The string converter, the control engine and the protection fabric (R230 to R309). -/

namespace Sys2Proof.Machine

/-- R243: A write of CNV_CTRL.CLR leaves FAULT for OFF, or self-clears while a PROT trip is latched. -/
def execCnvClr (late : Bool) (s : State) : Answer :=
  .next (onCore (holdOwn .f0 F.CNV_CTRL.CLR .normal 1 late) s)

/-- R243: TON elapses in ON_DELAY and CNV enters SOFT_START when no block holds. -/
def execOnDelayExpire (s : State) : Answer :=
  .next (onCore (atBoundary onDelayExpire) s)

/-- R243: TOFF elapses in OFF_DELAY and CNV enters SOFT_STOP. -/
def execOffDelayExpire (s : State) : Answer :=
  .next (onCore (atBoundary offDelayExpire) s)

/-- R245: The stall condition lasts STALLT; CNV enters FAULT with SS_SHORT retrying or latched. -/
def execSoftStartStall (s : State) : Answer :=
  .next (onCore (atBoundary softStall) s)

/-- R243: RETRYT elapses in FAULT 0x2 and CNV retries SOFT_START when ON = 1 and no block holds. -/
def execRetryWaitExpire (s : State) : Answer :=
  .next (onCore (atBoundary retryExpire) s)

/-- R250: The string current stays at or below IDONE for 10 ticks after the ramp reaches 0 and CNV enters OFF. -/
def execSoftStopDone (s : State) : Answer :=
  .next (onCore (atBoundary stopDone) s)

/-- R250: TMAX elapses in SOFT_STOP; CNV enters OFF and sets STOPTO. -/
def execSoftStopTimeout (s : State) : Answer :=
  .next (onCore (atBoundary stopTimeout) s)

/-- R252: The shed dwell completes; the highest active phase is gated off and the new angles apply a boundary later. -/
def execPhaseShed (s : State) : Answer :=
  .next (onCore (atBoundary phaseShed) s)

/-- R256: I_tot stays below BURST_THR for the dwell in Millet; CNV enters burst sleep with the loop hold. -/
def execBurstModeEnter (s : State) : Answer :=
  .next (onCore (atBoundary burstEnter) s)

/-- R272: A write of CTE_CTRL.LOAD starts the admission check of the program in memory. -/
def execCteLoadBit (s : State) : Answer :=
  .next (onCore (holdNow F.CTE_CTRL.LOAD 1) s)

/-- R272: The admission check completes, staging the program or setting LERR. -/
def execAdmissionCheck (s : State) : Answer :=
  .next (onCore admissionCheck s)

/-- R276: A write of CTE_CTRL.STD places and admits the standard loop set at BASE. -/
def execCteStd (s : State) : Answer :=
  .next (onCore (holdNow F.CTE_CTRL.STD 1) s)

/-- R275: A write of CTE_CTRL.HALT withdraws the active program at the next tick boundary. -/
def execCteHalt (late : Bool) (s : State) : Answer :=
  .next (onCore (holdOwn .f0 F.CTE_CTRL.HALT .normal 1 late) s)

/-- R273: A write of CTE_PMDATA stores a program word and increments ADDR, unstaging a program or setting PMWERR. -/
def execPmDataWrite (v : Nat) (s : State) : Answer :=
  .next (onCore (holdNow F.CTE_PMDATA.DATA v) s)

/-- R276: A write of CTE_DMDATA stores a parameter shadow word and increments ADDR. -/
def execDmDataWrite (v : Nat) (s : State) : Answer :=
  .next (onCore (holdNow F.CTE_DMDATA.DATA v) s)

/-- R276: A read of CTE_DMDATA waits for the running pass to reach END and returns its word. -/
def execDmDataRead (s : State) : Answer :=
  .next (onCore dmRead s)

/-- R276: A write of CTE_PCOMMIT.GO requests a commit of the whole parameter shadow. -/
def execPcommitGo (late : Bool) (s : State) : Answer :=
  .next (onCore (holdOwn .f0 F.CTE_PCOMMIT.GO .normal 1 late) s)

/-- R268: The NOP instruction does nothing for one clock. -/
def execCteNop (s : State) : Answer := .next s

/-- R268: The LDA instruction loads an operand shifted by 15 into an accumulator. -/
def execCteLda (w : CteW) (s : State) : Answer :=
  .next (onCore (cteLda w) s)

/-- R268: The MPY instruction loads the product of two operands into an accumulator. -/
def execCteMpy (w : CteW) (s : State) : Answer :=
  .next (onCore (cteMpy w) s)

/-- R268: The MAC instruction adds the product of two operands to an accumulator. -/
def execCteMac (w : CteW) (s : State) : Answer :=
  .next (onCore (cteMac w) s)

/-- R268: The MSU instruction subtracts the product of two operands from an accumulator. -/
def execCteMsu (w : CteW) (s : State) : Answer :=
  .next (onCore (cteMsu w) s)

/-- R268: The ADD instruction adds an operand shifted by 15 to an accumulator. -/
def execCteAdd (w : CteW) (s : State) : Answer :=
  .next (onCore (cteAdd w) s)

/-- R268: The SUB instruction subtracts an operand shifted by 15 from an accumulator. -/
def execCteSub (w : CteW) (s : State) : Answer :=
  .next (onCore (cteSub w) s)

/-- R268: The ADDA instruction adds one accumulator to another. -/
def execCteAdda (w : CteW) (s : State) : Answer :=
  .next (onCore (cteAdda w) s)

/-- R268: The SUBA instruction subtracts one accumulator from another. -/
def execCteSuba (w : CteW) (s : State) : Answer :=
  .next (onCore (cteSuba w) s)

/-- R268: The SHL instruction shifts an accumulator left by 0 to 16. -/
def execCteShl (w : CteW) (s : State) : Answer :=
  .next (onCore (cteShl w) s)

/-- R268: The SHR instruction shifts an accumulator arithmetically right by 0 to 16, truncating. -/
def execCteShr (w : CteW) (s : State) : Answer :=
  .next (onCore (cteShr w) s)

/-- R268: The CLMP instruction clamps an accumulator between two operands. -/
def execCteClmp (w : CteW) (s : State) : Answer :=
  .next (onCore (cteClmp w) s)

/-- R268: The CMPLT instruction sets a predicate when an accumulator is strictly below an operand. -/
def execCteCmplt (w : CteW) (s : State) : Answer :=
  .next (onCore (cteCmplt w) s)

/-- R268: The CMPGE instruction sets a predicate when an accumulator is at or above an operand. -/
def execCteCmpge (w : CteW) (s : State) : Answer :=
  .next (onCore (cteCmpge w) s)

/-- R268: The TST instruction sets a predicate when an operand is not zero. -/
def execCteTst (w : CteW) (s : State) : Answer :=
  .next (onCore (cteTst w) s)

/-- R266: The STS instruction rounds and saturates an accumulator to a signed word and stores it. -/
def execCteSts (w : CteW) (s : State) : Answer :=
  .next (onCore (cteSts w) s)

/-- R266: The STU instruction rounds and saturates an accumulator to an unsigned word and stores it. -/
def execCteStu (w : CteW) (s : State) : Answer :=
  .next (onCore (cteStu w) s)

/-- R268: The MOV instruction copies one word to another address. -/
def execCteMov (w : CteW) (s : State) : Answer :=
  .next (onCore (cteMov w) s)

/-- R268: The END instruction ends the engine pass. -/
def execCteEnd (s : State) : Answer := .next s

/-- R284: A trip-mode TRIPn_N falls; all gates go safe within 4 ns and TIN latches. -/
def execTripInput (n : Nat) (high : Bool) (s : State) : Answer :=
  .next (onCore (fun c => if c.tripMode n = 2 then c else tripPin n high c) s)

/-- R285: A cycle-by-cycle input falls and forces the phases of its mask safe for the period. -/
def execCbcInput (n : Nat) (high : Bool) (s : State) : Answer :=
  .next (onCore (fun c => if c.tripMode n = 2 then tripPin n high c else c) s)

/-- R285: At a phase's carrier peak with its cycle-by-cycle input high, the forced phase is released. -/
def execCarrierPeak (k : Nat) (s : State) : Answer :=
  .next (onCore (carrierPeak k) s)

/-- R285: A phase is forced in NMAX consecutive periods and PROT latches CBCP. -/
def execCbcpTrip (k : Nat) (s : State) : Answer :=
  .next (onCore (cbcpTrip k) s)

/-- R284: A safety channel asserts its gate-off line; gates go safe and SFA or SFB latches. -/
def execGateOffLine (ch : Nat) (s : State) : Answer :=
  .next (gateOffLine ch s)

/-- R287: CNT consecutive fast filter outputs lie outside the window and WIN latches. -/
def execWindowTrip (n : Nat) (outs : List Int) (s : State) : Answer :=
  .next (onCore (fastWindow n outs) s)

/-- R288: An SDM clock or data line stops; LOSS latches and the gates go safe. -/
def execStreamLoss (n : Nat) (present : Bool) (s : State) : Answer :=
  .next (onCore (streamChange n present) s)

/-- R289: The CTL clock shows no edge for 100 ns and cause CLK latches. -/
def execClockLoss (present : Bool) (s : State) : Answer :=
  .next (onCore (clockLoss present) s)

/-- R290: Both channels' references for a window commit and PROT evaluates XV and XI, tripping after two windows. -/
def execCrossCheckEvaluate (s : State) : Answer :=
  .next (onCore crossCheck s)

/-- R293: References are missing for 10 consecutive windows; REFSTALE is set and an event is raised. -/
def execRefstale (s : State) : Answer :=
  .next (onCore refStale s)

/-- R297: The I_S tick result exceeds OCC or OCD for T ticks and PROT trips. -/
def execOvercurrentTrip (s : State) : Answer :=
  .next (onCore overcurrent s)

/-- R301: A write of 1 to a cause bit clears it if its cause is gone, otherwise sets CLRREF. -/
def execTripClear (reg : Nat) (bits : Nat) (s : State) : Answer :=
  .next (onCore (holdNow (causeWord reg) bits) s)

end Sys2Proof.Machine
end

