-- ==== Sys2Proof/Machine/ExecField.lean ====
section
/-! DEFINITION. The meanings of the commands, one each. CAN FD and the two SMBus ports (R471 to R497). -/

namespace Sys2Proof.Machine

/-- R474: A CAN frame is received without error and stored in the first matching object, or discarded. -/
def execCanFrameReceive (f : CanFrame) (s : State) : Answer :=
  .next (onCore (canReceive f) s)

/-- R476: A write of TXREQ makes a transmit object pending. -/
def execTxreq (obj : Nat) (s : State) : Answer :=
  .next (onCore (objHost obj (txReq obj)) s)

/-- R476: A write of TXABORT clears a pending message. -/
def execTxabort (obj : Nat) (s : State) : Answer :=
  .next (onCore (objHost obj (txAbort obj)) s)

/-- R476: A transmission is acknowledged; TXREQ clears, TXDONE sets and ALONE clears. -/
def execCanTxAcknowledged (sec : Nat) (ns : Nat) (tdcv : Nat) (s : State) : Answer :=
  .next (onCore (txAcked sec ns tdcv) s)

/-- R479: A transmission attempt ends unacknowledged; NOACK counts and ALONE sets at 32. -/
def execCanAckError (tdcv : Nat) (s : State) : Answer :=
  .next (onCore (txNoAck tdcv) s)

/-- R478: The controller reaches bus-off; BOFFSEEN is set and recovery starts if AUTOREC. -/
def execBusOff (s : State) : Answer :=
  .next (onCore busOff s)

/-- R478: Bus-off recovery completes after 128 occurrences of 11 recessive bits. -/
def execBusOffRecovery (s : State) : Answer :=
  .next (onCore busOffRecovery s)

/-- R472: A write of INIT from 1 to 0 loads the bit timing and joins the bus. -/
def execCanInitRelease (s : State) : Answer :=
  .next (onCore canInitRelease s)

/-- R475: A write of LOCK 0 stores a shadowed frame into its object. -/
def execCanLockWrite (obj : Nat) (v : Bool) (s : State) : Answer :=
  .next (onCore (objHost obj (objLock obj v)) s)

/-- R480: At each PER multiple of TB_PLANT a reference message is made due, replacing a still-pending one. -/
def execReferenceMessageDue (s : State) : Answer :=
  .next (onCore refDue s)

/-- R478: A bit, stuff, form or CRC error on the CAN bus updates LEC and the error counters, and can move the controller to error passive as the standard requires. -/
def execCanBusError (lec : Nat) (own : Bool) (heavy : Bool) (s : State) : Answer :=
  .next (onCore (canBusError lec own heavy) s)

/-- R483: A write of SMB_C_CMD.GO starts a controller transfer at the next bus-free instant, or holds it pending. -/
def execSmbGo (busFree : Bool) (s : State) : Answer :=
  .next (onCore (smbGo busFree) s)

/-- R483: The SMB0 bus becomes free after a foreign STOP and the bus-free time, and a pending transfer or an arbitration-lost retry starts. -/
def execSmb0BusFree (s : State) : Answer :=
  .next (onCore smbBusFree s)

/-- R484: An SMB0 transfer ends with its RESULT, or restarts after an arbitration loss. -/
def execSmb0TransferEnd (res : Nat) (count : Nat) (data : List Nat) (s : State) : Answer :=
  .next (onCore (smbTransferEnd res count data) s)

/-- R484: A target holds SCL too long and the transfer ends with TIMEOUT. -/
def execSmb0BusTimeout (s : State) : Answer :=
  .next (onCore smbTimeout s)

/-- R485: A write of SMB_C_CTRL.CLEAR, or low SDA after reset, starts a bus clear. -/
def execSmbClear (bySda : Bool) (s : State) : Answer :=
  .next (onCore (smbClear bySda) s)

/-- R485: A bus clear round ends; the clear ends or SCL is held low for 35 ms. -/
def execBusClearRoundEnd (high : Bool) (s : State) : Answer :=
  .next (onCore (clearRoundEnd high) s)

/-- R485: The 35 ms SCL hold ends and the next round starts, or SDASTUCK is set after the third. -/
def execBusClearHoldEnd (s : State) : Answer :=
  .next (onCore clearHoldEnd s)

/-- R485: While SDASTUCK is set, a further round runs every 1 s. -/
def execBusClearRetry (s : State) : Answer :=
  .next (onCore clearRetry s)

/-- R486: SMB0_ALERT_N is low and SMB0 reads the Alert Response Address, repeating every 10 ms. -/
def execSmbAlert (ans : Option Nat) (s : State) : Answer :=
  .next (onCore (smbAlert ans) s)

/-- R489: A bus block write to SMB1 commits into a window word at its last acknowledgement, or aborts. -/
def execSmb1BlockWrite (addr : Nat) (code : Nat) (data : List Nat) (pecByte : Option Nat) (prev : Bool) (fin : SmbEnd) (s : State) : Answer :=
  .next (onCore (smbWrite addr code data pecByte prev fin) s)

/-- R488: A bus block read from SMB1 returns a latched window word, or is refused. -/
def execSmb1BlockRead (addr : Nat) (code : Nat) (prev : Bool) (fin : SmbEnd) (s : State) : Answer :=
  .next (onCore (smbRead addr code prev fin) s)

/-- R490: SMB1_SCL stays low for 25 ms; the transaction is abandoned and TIMEOUT is set. -/
def execSmb1Timeout (s : State) : Answer :=
  .next (onCore smb1Timeout s)

/-- R491: A write of SMB_T_CTRL.ALERT drives SMB1_ALERT_N low. -/
def execSmbAlertSet (s : State) : Answer :=
  .next (onCore alertSet s)

/-- R491: A write of SMB_T_CTRL.ALERTCLR withdraws the alert. -/
def execSmbAlertClr (s : State) : Answer :=
  .next (onCore alertClear s)

/-- R491: A bus read of the Alert Response Address is answered with arbitration, setting ARADONE if won. -/
def execSmb1AlertResponse (won : Bool) (s : State) : Answer :=
  .next (onCore (alertResponse won) s)

end Sys2Proof.Machine
end

