-- ==== Sys2Proof/Machine/ExecHost.lean ====
section
/-! DEFINITION. The meanings of the commands, one each. The host interface: rings, doorbells, messages, translation (R383 to R431). -/

namespace Sys2Proof.Machine

/-- R389: A PROD doorbell write updates a SUBMIT ring's producer index, or is ignored and may halt the ring. -/
def execSubmitDoorbell (fn : Nat) (ring : Nat) (v : Nat) (s : State) : Answer :=
  .next (onNv (fun _ nv c => prodDoorbell fn ring v (nv, c)) s)

/-- R389: A CACK doorbell write acknowledges entries of a COMPLETE, STREAM or EVENT ring. -/
def execCompletionAckDoorbell (fn : Nat) (ring : Nat) (v : Nat) (s : State) : Answer :=
  .next (onNv (fun _ nv c => cackDoorbell fn ring v (nv, c)) s)

/-- R426: A RESUME doorbell write returns a STALLED ring to ACTIVE and its transfer walks again. -/
def execRingResume (fn : Nat) (ring : Nat) (s : State) : Answer :=
  .next (onNv (fun _ nv c => resumeDoorbell fn ring (nv, c)) s)

/-- R396: A descriptor is fetched and journaled in MRAM. -/
def execDescriptorFetch (ring : Nat) (s : State) : Answer :=
  .next (onNv (fun _ nv c => descriptorFetch ring (nv, c)) s)

/-- R396: Once acceptance conditions hold, the module writes back a consumer index covering the commands. -/
def execCommandAccept (ring : Nat) (s : State) : Answer :=
  .next (onNv (fun a nv c => commandAccept a ring (nv, c)) s)

/-- R383: A poisoned TLP or completion timeout halts the ring on a fetch, or completes the command with DATA. -/
def execTlpError (s : State) : Answer :=
  .next (onNv (fun _ nv c => tlpError (nv, c)) s)

/-- R403: The RING_CREATE command creates a ring in FREE and makes it ACTIVE. -/
def execRingCreate (ring : Nat) (s : State) : Answer :=
  .next (runCmd 1 ring [63, 3, 31, 3, 63, 15, 3, 0, 255, 255, 255, 255, 255, 255, 0, 0, 255, 255, 255, 255, 255, 255] cmdRingCreate s)

/-- R404: The RING_DELETE command moves a ring to DRAINING, or FREE when FROZEN. -/
def execRingDelete (ring : Nat) (s : State) : Answer :=
  .next (runCmd 2 ring [63] cmdRingDelete s)

/-- R404: The last accepted command of a DRAINING ring completes and the ring becomes FREE. -/
def execRingDrainComplete (ring : Nat) (s : State) : Answer :=
  .next (hifSettle (onNv (fun _ nv c => ringDrained ring (nv, c)) s))

/-- R402: The RING_QUERY command returns a ring's indices, state, error and retained completions. -/
def execRingQuery (ring : Nat) (s : State) : Answer :=
  .next (runCmd 3 ring [63] cmdRingQuery s)

/-- R407: The RING_RESTART command reactivates a FROZEN ring, writing retained completions first. -/
def execRingRestart (ring : Nat) (s : State) : Answer :=
  .next (runCmd 4 ring [63, 0, 0, 0, 0, 0, 0, 0, 255, 255, 255, 255, 255, 255, 0, 0, 255, 255, 255, 255, 255, 255] cmdRingRestart s)

/-- R402: The RING_RESET command returns a HALTED ring to ACTIVE, discarding unaccepted entries. -/
def execRingReset (ring : Nat) (s : State) : Answer :=
  .next (runCmd 5 ring [63] cmdRingReset s)

/-- R402: The VECTOR_MAP command sets a ring's vector, enable, TIMER and COUNT. -/
def execVectorMap (ring : Nat) (s : State) : Answer :=
  .next (runCmd 6 ring [63, 15, 1, 0, 255, 3, 255] cmdVectorMap s)

/-- R402: The STREAM_BIND command binds or unbinds a record source to a STREAM ring. -/
def execStreamBind (ring : Nat) (s : State) : Answer :=
  .next (runCmd 7 ring [255, 63, 1] cmdStreamBind s)

/-- R423: The ATU_INVALIDATE command removes cached translations in scope and waits for their transfers. -/
def execAtuInvalidate (ring : Nat) (s : State) : Answer :=
  .next (runCmd 8 ring [3, 3, 0, 0, 0, 0, 0, 0, 0, 240, 255, 255, 255, 255, 0, 0, 255, 255, 255, 255] cmdAtuInvalidate s)

/-- R402: The IDENTIFY command writes a 4 KiB identity page to the buffer. -/
def execIdentify (ring : Nat) (s : State) : Answer :=
  .next (runCmd 9 ring [] cmdIdentify s)

/-- R402: The NOP command completes with result 0. -/
def execNopCmd (ring : Nat) (s : State) : Answer :=
  .next (runCmd 16 ring [] cmdNop s)

/-- R551: The REG_READ command reads a CSR offset, or completes with PERM. -/
def execRegRead (ring : Nat) (s : State) : Answer :=
  .next (runCmd 17 ring [255, 255, 255, 255] cmdRegRead s)

/-- R402: The REG_WRITE command writes the masked bits of a register in one read-modify-write and returns the read-back. -/
def execRegWrite (ring : Nat) (s : State) : Answer :=
  .next (runCmd 18 ring [255, 255, 255, 255, 255, 255, 255, 255, 255, 255, 255, 255] cmdRegWr s)

/-- R402: The REG_LIST command applies up to 256 register writes in order, stopping at the first failure. -/
def execRegList (ring : Nat) (s : State) : Answer :=
  .next (runCmd 19 ring [] cmdRegList s)

/-- R402: The CNV_ON command writes CNV_CTRL.ON. -/
def execCnvOn (ring : Nat) (s : State) : Answer :=
  .next (runCmd 32 ring [1] cmdCnvOn s)

/-- R402: The CNV_CLEAR command writes CNV_CTRL.CLR and returns CNV_STAT after the tick boundary. -/
def execCnvClear (ring : Nat) (s : State) : Answer :=
  .next (runCmd 33 ring [] cmdCnvClear s)

/-- R402: The ISET command writes CNV_ISET and CNV_CTRL.MODE. -/
def execIset (ring : Nat) (s : State) : Answer :=
  .next (runCmd 34 ring [255, 255, 255, 255, 3] cmdIset s)

/-- R402: The DISPATCH_TARGET command writes SHF_PTGT and GO and completes at the epoch boundary. -/
def execDispatchTarget (ring : Nat) (s : State) : Answer :=
  .next (runCmd 35 ring [255, 255, 255, 255] cmdDispatchTarget s)

/-- R402: The VREF_NOM command writes SHF_VREF_NOM. -/
def execVrefNom (ring : Nat) (s : State) : Answer :=
  .next (runCmd 36 ring [255, 255, 255, 255] cmdVrefNom s)

/-- R402: The OUTPUT_REQUEST command writes SAFM_OUTREQ and completes when the channels execute or hold it. -/
def execOutputRequest (ring : Nat) (s : State) : Answer :=
  .next (runCmd 37 ring [63] cmdOutputRequest s)

/-- R402: The PROFILE command requests a profile switch and completes when it commits or is refused. -/
def execProfileCmd (ring : Nat) (s : State) : Answer :=
  .next (runCmd 38 ring [3] cmdProfile s)

/-- R402: The GLEAN command requests or aborts a gleaning cycle. -/
def execGleanCmd (ring : Nat) (s : State) : Answer :=
  .next (runCmd 39 ring [1] cmdGlean s)

/-- R402: The REST command requests a rest slot and completes when REQ self-clears. -/
def execRestCmd (ring : Nat) (s : State) : Answer :=
  .next (runCmd 40 ring [] cmdRest s)

/-- R402: The IMP_BURST command writes IMP_CTRL.GO. -/
def execImpBurst (ring : Nat) (s : State) : Answer :=
  .next (runCmd 41 ring [] cmdImpBurst s)

/-- R402: The CTE_LOAD command writes program words and runs the admission check. -/
def execCteLoad (ring : Nat) (s : State) : Answer :=
  .next (runCmd 42 ring [255, 3, 255, 7, 7, 0, 255, 255] cmdCteLoad s)

/-- R402: The CTE_PARAM command writes the parameter shadow and completes at its commit. -/
def execCteParam (ring : Nat) (s : State) : Answer :=
  .next (runCmd 43 ring [1] cmdCteParam s)

/-- R402: The SAVE command triggers an EST save and completes when the save completes. -/
def execSaveCmd (ring : Nat) (s : State) : Answer :=
  .next (runCmd 44 ring [] cmdSave s)

/-- R402: The SNAPSHOT command arms a snapshot and writes the captured values to the buffer. -/
def execSnapshotCmd (ring : Nat) (s : State) : Answer :=
  .next (runCmd 48 ring [3] cmdSnapshot s)

/-- R402: The EVR_READ command writes recorder records from a given ESN to the buffer. -/
def execEvrRead (ring : Nat) (s : State) : Answer :=
  .next (runCmd 49 ring [255, 255, 255, 255, 255, 255, 255, 255, 255, 255] cmdEvrRead s)

/-- R402: The POS_READ command writes per-position window formats of MEAS, EST or IMP to the buffer. -/
def execPosRead (ring : Nat) (s : State) : Answer :=
  .next (runCmd 50 ring [255, 0, 255, 255, 255, 255] cmdPosRead s)

/-- R412: A write of HIF_ADM_CFG.EN creates or restarts rings 0 and 1, or deletes them. -/
def execAdminRingEnable (w : Nat) (s : State) : Answer :=
  .next (onNv (fun _ nv c => hifPump (adminEnable (bitAt w 0) (nv, c))) s)

/-- R408: A vector's COUNT or TIMER is reached, or an URGENT completion is written, and the MSI-X message is sent or pends. -/
def execMsixMessage (vec : Nat) (timer : Bool) (s : State) : Answer :=
  .next (onCore (msixMessage vec timer) s)

/-- R409: Host software unmasks or enables an MSI-X vector, and any message pending on it is sent. -/
def execMsixVectorUnmask (vec : Nat) (masked : Bool) (s : State) : Answer :=
  .next (onCore (msixMask vec masked) s)

/-- R410: A function enters or leaves D3hot; retained entries are written and vectors re-raised on return. -/
def execDStateChange (fn : Nat) (d3 : Bool) (pme : Bool) (s : State) : Answer :=
  .next (onNv (fun _ nv c => dState fn d3 pme (nv, c)) s)

/-- R410: A completion, event or record falls due for a function in D3hot and PME is signalled. -/
def execPme (fn : Nat) (s : State) : Answer :=
  .next (onCore (pmeSend fn) s)

/-- R421: A pending ATU context or root write commits once the function's rings are FREE or FROZEN, invalidating its cache. -/
def execAtuConfigCommit (s : State) : Answer :=
  .next (onCore atuCommit s)

/-- R424: The DMA engine moves one segment of a transfer, translating at a new page and checking windows. -/
def execDmaSegment (l1 : TblRead) (l2 : TblRead) (bytes : List Nat) (s : State) : Answer :=
  .next (hifSettle (onNv (fun _ nv c => dmaSegment l1 l2 bytes (nv, c)) s))

/-- R429: Ring 3 has room again and held fault records are written in order. -/
def execFaultRecordFlush (s : State) : Answer :=
  .next (onNv (fun _ nv c => faultFlush (nv, c)) s)

end Sys2Proof.Machine
end

