-- ==== Sys2Proof/Machine/ExecIrq.lean ====
section
/-! DEFINITION. The meanings of the commands, one each. The interrupt controller (R432 to R449). -/

namespace Sys2Proof.Machine

/-- R435: An internal source asserts; it becomes PENDING, coalesces or is lost with OVR. -/
def execIrqAssert (s : State) : Answer :=
  .next (onCore irqCross s)

/-- R438: A deliverable source is committed to its core, becomes ACTIVE and starts its group's hold-off. -/
def execIrqDeliver (core : Nat) (s : State) : Answer :=
  .next (onCore (irqDeliver core) s)

/-- R439: A write to IRQ_EOIc returns the source to IDLE and restores the running level. -/
def execIrqEoi (core : Nat) (n : Nat) (s : State) : Answer :=
  .next (onCore (irqEoi core n) s)

/-- R440: A group's hold-off timer expires and its PENDING sources become deliverable. -/
def execHoldOffExpire (group : Nat) (s : State) : Answer :=
  .next (onCore (irqHoldEnd group) s)

/-- R443: A write of 1 to IRQ_PENDw discards a PENDING assertion. -/
def execIrqPendDiscard (word : Nat) (bits : Nat) (s : State) : Answer :=
  .next (onCore (irqDiscard word bits) s)

/-- R446: A supervisor-mode write to IRQ_SGI asserts software interrupt sources. -/
def execIrqSgi (bits : Nat) (s : State) : Answer :=
  .next (onCore (irqSgi bits) s)

end Sys2Proof.Machine
end

