-- ==== Sys2Proof/Machine/ExecNet.lean ====
section
/-! DEFINITION. The meanings of the commands, one each. The network switch and PTP (R450 to R470). -/

namespace Sys2Proof.Machine

/-- R452: A frame arrives at a switch port and is forwarded, terminated at port 0 or discarded. -/
def execEthernetFrameReceive (f : EthFrame) (s : State) : Answer :=
  .next (onCore (ethReceive f) s)

/-- R452: A learned address is not refreshed for AGE seconds and is removed. -/
def execAddressAgeout (addr : Nat) (s : State) : Answer :=
  .next (onCore (ageOut addr) s)

/-- R461: An external port's link goes up or down; a lost master is dropped. -/
def execEthernetLinkChange (port : Nat) (speed : Nat) (s : State) : Answer :=
  .next (onCore (linkChange port speed) s)

/-- R462: A Sync or its Follow_Up arrives and the servo updates offset, rate, lock and state. -/
def execPtpSyncReceived (port : Nat) (sender : Nat) (t1 : Int) (t2 : Int) (corr : Int) (s : State) : Answer :=
  .next (onCore (syncReceived port sender t1 t2 corr) s)

/-- R461: An Announce arrives and the best master clock algorithm is rerun. -/
def execAnnounceReceived (a : Announce) (s : State) : Answer :=
  .next (onCore (announceReceived a) s)

/-- R464: A master's Announces stop for announceReceiptTimeout; the master is dropped and holdover starts. -/
def execAnnounceTimeout (port : Nat) (sender : Nat) (s : State) : Answer :=
  .next (onCore (announceTimeout port sender) s)

/-- R457: Under E2E the ordinary clock sends a Delay_Req once per Sync interval. -/
def execDelayReqSend (t3 : Int) (s : State) : Answer :=
  .next (onCore (delayReqSend t3) s)

/-- R460: Under P2P each port sends a Pdelay_Req every second. -/
def execPdelayReqSend (port : Nat) (t1 : Int) (s : State) : Answer :=
  .next (onCore (pdelayReqSend port t1) s)

/-- R460: A Pdelay_Req arrives and the port answers with a one-step Pdelay_Resp. -/
def execPdelayReqReceived (port : Nat) (seq : Nat) (turn : Nat) (s : State) : Answer :=
  .next (onCore (pdelayReqReceived port seq turn) s)

/-- R460: A Pdelay_Resp arrives and the port's link delay is updated. -/
def execPdelayRespReceived (port : Nat) (t4 : Int) (turn : Int) (s : State) : Answer :=
  .next (onCore (pdelayRespReceived port t4 turn) s)

/-- R460: No valid Pdelay response for 3 s; LDLY shows none and Sync on the port is not used. -/
def execLinkDelayLost (port : Nat) (s : State) : Answer :=
  .next (onCore (linkDelayLost port) s)

/-- R459: A held two-step correction sum has no Follow_Up within 1 s and is discarded. -/
def execFollowUpMiss (seq : Nat) (sender : Nat) (s : State) : Answer :=
  .next (onCore (followUpMiss seq sender) s)

/-- R466: A write of PTP_CTRL.TSET loads TB_PLANT from PTP_TSET, or is refused. -/
def execTset (s : State) : Answer :=
  .next (onCore plantSet s)

/-- R466: A write of PTP_CTRL.STEPGO moves TB_PLANT by PTP_STEPV. -/
def execStepgo (s : State) : Answer :=
  .next (onCore plantStep s)

end Sys2Proof.Machine
end

