-- ==== Sys2Proof/Machine/ExecPair.lean ====
section
/-! DEFINITION. The meanings of the commands, one each. The redundant pair (R363 to R382). -/

namespace Sys2Proof.Machine

/-- R365: OWNGNT changes and the hardware gates the module's gate outputs and chain transmitters. -/
def execOwnershipGrantChange (granted : Bool) (s : State) : Answer :=
  .next (onLine (grantChange granted) s)

/-- R368: The standby applies the active module's tick frame: time bases, CNV state, journal records and deltas. -/
def execTickFrameReceived (f : Machine.TickFrame) (s : State) : Answer :=
  .next (tickFrame f s)

/-- R371: One pair path is silent for 3 ticks while the other is present, setting XLF or HBF. -/
def execPathFault (xl : Bool) (s : State) : Answer :=
  .next (onCore (pathFault xl) s)

/-- R372: Both paths silent for 3 ticks with OWNGNT held; the standby takes the role and continues from the mirror. -/
def execSwitchOver (s : State) : Answer :=
  .next (onNv (fun _ nv c => switchOver (nv, c)) s)

/-- R371: The active module sees both paths silent for 3 ticks and clears SBYVALID. -/
def execStandbyLost (s : State) : Answer :=
  .next (onCore standbyLost s)

/-- R371: The standby sees both paths silent without OWNGNT and sets GNTFAIL. -/
def execGrantFailure (s : State) : Answer :=
  .next (onCore grantFailure s)

/-- R373: A write of RED_CTRL.HANDOVER makes an orderly hand-over to a valid standby, or is refused. -/
def execHandover (s : State) : Answer :=
  .next (onCore (handover 2) s)

/-- R376: A resynchronising standby completes its full state transfer and may become valid. -/
def execResyncComplete (lo : Nat) (hi : Nat) (ms : Nat) (s : State) : Answer :=
  .next (onNv (fun _ nv c => (nv, resyncComplete lo hi ms nv c)) s)

/-- R368: One cross-link lane fails; the module sends the whole tick frame on the other lane, sets LANEF and shrinks the delta and background capacity. -/
def execXlLaneFailure (lane : Nat) (s : State) : Answer :=
  .next (onCore (laneFailure lane) s)

end Sys2Proof.Machine
end

