-- ==== Sys2Proof/Machine/ExecPower.lean ====
section
/-! DEFINITION. The meanings of the commands, one each. Power, boot, resets and the watchdog (R511 to R522, R557, R561, R405). -/

namespace Sys2Proof.Machine

/-- R511: The 24 V input rises and stays at or above 16.0 V; the power-on reset holds every domain except SFA and SFB. -/
def execPowerOn (s : State) : Answer :=
  .next (powerOn s)

/-- R511: 10 ms after the input has stayed valid, the power-on reset releases, PWRCYC increments and boot stage 0 begins. -/
def execPowerOnResetRelease (s : State) : Answer :=
  .next (powerRelease s)

/-- R557: VIN is strictly below 16.0 V for 20 µs while running; the power-loss event is raised and the hold-up writes start. -/
def execInputLoss (s : State) : Answer :=
  .next (inputLoss s)

/-- R21: The hold-up ends; journal writes not yet started are not performed and every domain except the always-on section is held. -/
def execHoldUpEnd (s : State) : Answer :=
  .next (holdUpEnd s)

/-- R557: VIN returns during hold-up; the hold-up writes complete and a power-on follows once VIN has been valid for 10 ms. -/
def execVinReturn (s : State) : Answer :=
  .next (vinReturn s)

/-- R561: VIO_A or VIO_B becomes absent or present, changing the behaviour of that bank's pins. -/
def execBankSupplyChange (bankB : Bool) (present : Bool) (s : State) : Answer :=
  .next (bankChange bankB present s)

/-- R512: The boot ROM locks the PLLs, brings up PCIe, selects the flash bank from the boot record and verifies the image signature. -/
def execBootStage0 (s : State) : Answer :=
  .next (bootStage0 s)

/-- R512: The loader loads and seals BLC, scans the recorder, loads learned estimator values, scans the journal and loads stored register values. -/
def execBootStage1 (s : State) : Answer :=
  .next (bootStage1 s)

/-- R512: Firmware loads the standard loop set, releases CTL so that tick 0 and frame 0 begin in Spelt, and starts enumeration. -/
def execApplicationStart (peer : Bool) (s : State) : Answer :=
  .next (applicationStart peer s)

/-- R512: The application sets READY once SAFM holds its first exchange, and PCIe configuration requests are answered normally. -/
def execReady (s : State) : Answer :=
  .next (ready s)

/-- R517: A GLB_RESET write with DEVRST and the key runs the pre-reset steps and resets every domain except SFA and SFB. -/
def execDeviceReset (s : State) : Answer :=
  .next (deviceReset 2 false s)

/-- R518: A GLB_RESET write with PCYC and the key, or watchdog escalation, runs the pre-reset steps and drives PCYC_N low. -/
def execPowerCycle (s : State) : Answer :=
  .next (powerCycle false s)

/-- R518: 200 ms after PCYC_N falls the input is still valid, so the module releases PCYC_N and performs a device reset with PCYCFAIL. -/
def execPcycFallback (s : State) : Answer :=
  .next (pcycFallback s)

/-- R516: A PCIe hot reset or a falling PERST_N performs a device reset with RESTART code 0x3. -/
def execHotReset (s : State) : Answer :=
  .next (deviceReset 3 false s)

/-- R521: Firmware on a core kicks the watchdog. -/
def execWatchdogKick (core : Nat) (s : State) : Answer :=
  .next (watchdogKick core s)

/-- R521: Half of TMO passes without a kick from some core; IRQ source 123 asserts and WARN is set. -/
def execWatchdogWarning (s : State) : Answer :=
  .next (watchdogWarning s)

/-- R521: TMO passes without a kick; a watchdog reset runs, or a power cycle at the third one within 600 s. -/
def execWatchdogReset (s : State) : Answer :=
  .next (watchdogReset s)

/-- R405: A function-level reset of Fk freezes Fk's rings, resets its vectors and removes its TLB entries and transfers. -/
def execFlr (fn : Nat) (s : State) : Answer :=
  .next (onNv (fun a nv c => hifPump (flr a.ops fn (nv, c))) s)

end Sys2Proof.Machine
end

