-- ==== Sys2Proof/Machine/ExecSafety.lean ====
section
/-! DEFINITION. The meanings of the commands, one each. The safety channels and their mirror (R310 to R339). -/

namespace Sys2Proof.Machine

/-- R321: Every 250 µs each channel samples its inputs and accepts filtered state changes. -/
def execSafetyInputSample (a : Nat) (b : Nat) (exA : Nat) (exB : Nat) (s : State) : Answer :=
  .next (onSaf (fun _ => inputSample a b exA exB) s)

/-- R318: The gate-safe readback does not show safe within 1 ms; the channel proceeds and records a fault. -/
def execGateReadbackTimeout (ch : Nat) (s : State) : Answer :=
  .next (onSaf (fun _ => readbackTimeout ch) s)

/-- R322: The filtered states of an input differ for T_D and a discrepancy fault latches. -/
def execDiscrepancyFault (input : Nat) (s : State) : Answer :=
  .next (onSaf (fun _ => discrepancy input) s)

/-- R323: TPA or TPB pulses low and the channels check the inputs, latching input faults. -/
def execTestPulse (side : Nat) (a : Nat) (b : Nat) (rb : Nat) (s : State) : Answer :=
  .next (onSaf (fun _ => testPulse side a b rb) s)

/-- R325: A switch of an energised output is pulsed off and read back, latching output faults. -/
def execOutputOffPulse (output : Nat) (side : Nat) (bad : Bool) (s : State) : Answer :=
  .next (onSaf (fun _ _ => offPulse output side bad) s)

/-- R325: A switch stays in current limit for 5 ms and all outputs are de-energised. -/
def execOutputCurrentLimit (output : Nat) (side : Nat) (s : State) : Answer :=
  .next (onSaf (fun _ _ => currentLimit output side) s)

/-- R325: An energised output carries under 20 mA for 100 ms and is de-energised. -/
def execOpenLoad (output : Nat) (s : State) : Answer :=
  .next (onSaf (fun _ _ => openLoad output) s)

/-- R327: CF does not reach the expected state within T_CF, latching a weld or de-energising the output. -/
def execContactorFeedbackTimeout (output : Nat) (s : State) : Answer :=
  .next (onSaf (fun _ => cfTimeout output) s)

/-- R312: Every 1 ms the channels exchange and compare their data and update the SAFM mirror. -/
def execChannelExchange (q : SafXch) (s : State) : Answer :=
  .next (hifSettle (onCore exchanged (onSaf (exchange q) s)))

/-- R312: An exchange has not arrived 1.5 ms after the previous one and counts as missing. -/
def execExchangeMissing (s : State) : Answer :=
  .next (onSaf (fun _ _ => exchangeMissing) s)

/-- R290: A 1 ms window ends; channels form IS2 and VBX means, pass references and evaluate SF-3 and SF-4. -/
def execSafetyWindowEnd (count : Nat) (iA : List Int) (iB : List Int) (vA : List Int) (vB : List Int) (s : State) : Answer :=
  .next (onSaf (fun _ => windowEnd count iA iB vA vB) s)

/-- R316: The tone-loss lines show no tone at both ports and SF-2 acts. -/
def execToneLineDemand (s : State) : Answer :=
  .next (onSaf (fun _ => toneDemand) s)

/-- R328: A fault attributed to one channel starts degraded mode or leads to the safe state. -/
def execSingleChannelFault (ch : Nat) (code : Nat) (s : State) : Answer :=
  .next (onSaf (fun _ => singleFault ch code) s)

/-- R328: 5 s into degraded mode the survivor asserts and holds its gate-off line. -/
def execDegradedGateOff (s : State) : Answer :=
  .next (onSaf (fun _ _ => degradedGate) s)

/-- R328: T_DEG expires; all outputs are de-energised and SAFE latches. -/
def execDegradedModeEnd (s : State) : Answer :=
  .next (onSaf (fun _ _ => degradedEnd) s)

/-- R315: Within 100 ms of a qualifying fault every output is de-energised and SAFE latches. -/
def execSafeStateEnter (s : State) : Answer :=
  .next (onSaf (fun _ _ => safeWhenDue) s)

/-- R329: Every 1 s each channel checks the CRC of its own active parameter set. -/
def execParamCrcCheck (okA : Bool) (okB : Bool) (s : State) : Answer :=
  .next (onSaf (fun _ => ownDiag 4 okA okB) s)

/-- R329: A slice of the processor self-test runs, completing every 10 s. -/
def execSelfTestSlice (okA : Bool) (okB : Bool) (s : State) : Answer :=
  .next (onSaf (fun _ => ownDiag 1 okA okB) s)

/-- R329: Every 60 s each channel runs its RAM test. -/
def execRamTest (okA : Bool) (okB : Bool) (s : State) : Answer :=
  .next (onSaf (fun _ => ownDiag 2 okA okB) s)

/-- R329: Every 60 s each channel checks the CRC of the safety firmware. -/
def execFirmwareCrcCheck (okA : Bool) (okB : Bool) (s : State) : Answer :=
  .next (onSaf (fun _ => ownDiag 3 okA okB) s)

/-- R329: The safety power-on diagnostics complete within 2 s and outputs may be energised. -/
def execPowerOnDiagComplete (s : State) : Answer :=
  .next (onSaf (fun _ _ => diagComplete) s)

/-- R333: A write of SAFM_CMD.STAGE copies the active set into staging and clears STGOK. -/
def execSafStage (s : State) : Answer :=
  .next (onSaf (fun _ _ => safStage) s)

/-- R331: A write of SAFM_CMD.COMPUTE checks the staged set and computes both check values. -/
def execSafCompute (s : State) : Answer :=
  .next (onSaf (fun _ _ => safCompute) s)

/-- R325: A write of SAFM_CMD.CLRFLT clears input and output faults whose conditions are met. -/
def execSafClrflt (s : State) : Answer :=
  .next (onSaf (fun _ _ => safClrFlt) s)

/-- R319: A write of SAFM_CMD.RST resets the restart interlock when RSTMODE = 1. -/
def execSafRst (s : State) : Answer :=
  .next (onSaf (fun _ => safRstCmd) s)

/-- R327: A write of SAFM_CMD.CLRWELD clears a weld once CF has indicated open for T_CF. -/
def execSafClrweld (s : State) : Answer :=
  .next (onSaf (fun _ _ => safClrWeld) s)

/-- R334: A write of SAFM_CMD.PWDEND ends the password session. -/
def execSafPwdend (s : State) : Answer :=
  .next (onSaf (fun _ _ => safPwdEnd) s)

/-- R334: A write of SAFM_CMD.PWDACT activates the staged set in a session without a tool value. -/
def execSafPwdact (s : State) : Answer :=
  .next (onSaf (fun _ _ => safPwdAct) s)

/-- R333: A write of SAFM_CONFIRM requests activation of the staged set at the next exchange. -/
def execSafmConfirmWrite (v : Nat) (s : State) : Answer :=
  .next (onSaf (fun _ _ => safConfirm v) s)

/-- R338: A write of SAFM_PDATA stages a word at IDX and increments IDX, or is discarded beyond 207. -/
def execSafmPdataWrite (v : Nat) (s : State) : Answer :=
  .next (onSaf (fun _ _ => pdataWrite v) s)

/-- R334: A write of SAFM_PWD3 sets the password or opens a session, locking out after 3 mismatches. -/
def execPasswordWrite (w3 : Nat) (s : State) : Answer :=
  .next (onSaf (fun _ _ => safPassword w3) s)

/-- R334: 10 min without a SAFM write ends the password session. -/
def execPasswordSessionTimeout (s : State) : Answer :=
  .next (onSaf (fun _ _ => sessionTimeout) s)

/-- R334: The 10 min password lockout ends. -/
def execPasswordLockoutEnd (s : State) : Answer :=
  .next (onSaf (fun _ _ => lockoutEnd) s)

/-- R320: A write of SAFM_OUTREQ asks the channels to energise or de-energise outputs, executed or held. -/
def execSafmOutreqWrite (req : Nat) (s : State) : Answer :=
  .next (hifSettle (onSaf (fun _ => outReqHost req) s))

/-- R339: A write to SAFM_LOGSEL copies one change-log entry into the window. -/
def execSafmLogSelect (idx : Nat) (s : State) : Answer :=
  .next (onSaf (fun _ _ => logSelect idx) s)

end Sys2Proof.Machine
end

