-- ==== Sys2Proof/Machine/ExecSheaf.lean ====
section
/-! DEFINITION. The meanings of the commands, one each. The sheaf and dispatch (R340 to R362). -/

namespace Sys2Proof.Machine

/-- R342: Every 10 ms the owning module sends a sheaf HEARTBEAT on both Ethernet ports. -/
def execHeartbeatSend (s : State) : Answer :=
  .next (hifSettle (onCore heartbeatSend s))

/-- R345: A peer HEARTBEAT arrives, updating its context, liveness, slot view and DUPPID, or is discarded. -/
def execHeartbeatReceived (h : HbFrame) (s : State) : Answer :=
  .next (onCore (heartbeat h) s)

/-- R345: A peer's age reaches 50 ms; it is lost, recorded once, and the chaff filter ranks this observer. -/
def execPeerLost (pid : Nat) (s : State) : Answer :=
  .next (onCore (peerLost pid) s)

/-- R349: An observer's rank wait ends and it sends a REPORT unless one has been seen. -/
def execReportWaitExpire (pid : Nat) (s : State) : Answer :=
  .next (onCore (reportWait pid) s)

/-- R349: A REPORT for a lost peer arrives and the peer is listed in the reported field for 1 s. -/
def execReportReceived (sheaf : Nat) (len : Nat) (pid : Nat) (s : State) : Answer :=
  .next (onCore (reportReceived sheaf len pid) s)

/-- R346: Every 100 ms with more than 160 peers, the watch set of 160 peers is recomputed. -/
def execWatchSetRecompute (s : State) : Answer :=
  .next (onCore watchSet s)

/-- R344: A peer unheard for 500 ms is dropped from the aggregate table. -/
def execAggregateEntryDrop (pid : Nat) (s : State) : Answer :=
  .next (onCore (aggDrop pid) s)

/-- R347: No duplicate-PID heartbeat arrives for 1 s and DUPPID clears. -/
def execDuppidClear (s : State) : Answer :=
  .next (onCore dupClear s)

/-- R354: A slot view entry's remaining time reaches 0 and the entry is removed. -/
def execSlotViewExpire (pid : Nat) (s : State) : Answer :=
  .next (onCore (viewExpire pid) s)

/-- R355: A held slot is revoked by collision, MINLIVE shortfall for 1 s, REVOKE or EN written 0. -/
def execSlotRevoke (s : State) : Answer :=
  .next (onCore slotRevoke s)

/-- R355: A write of SHF_CTRL.REVOKE ends the own slot or cancels a request. -/
def execShfRevoke (s : State) : Answer :=
  .next (onCore revoke s)

/-- R355: A write of SHF_CTRL.EN starts sheaf traffic, or with 0 stops it and revokes the slot. -/
def execShfEnWrite (en : Nat) (s : State) : Answer :=
  .next (onCore (shfEnable en) s)

/-- R356: A DISPATCH frame arrives and a newer target takes effect at the next epoch boundary. -/
def execDispatchFrameReceived (sheaf : Nat) (len : Nat) (hold : Nat) (seq : Nat) (p : Int) (s : State) : Answer :=
  .next (onCore (dispatchFrame sheaf len hold seq p) s)

/-- R356: A write of SHF_DCTRL.GO makes the host target govern from the next epoch boundary. -/
def execDispatchGo (s : State) : Answer :=
  .next (onCore dispatchGo s)

/-- R359: A target's hold time passes; DTMO is set and V_B,ref slews to nominal. -/
def execDispatchTargetExpire (s : State) : Answer :=
  .next (onCore targetExpire s)

/-- R362: A write to SHF_CSEL copies one peer context into the window. -/
def execShfContextSelect (idx : Nat) (s : State) : Answer :=
  .next (onCore (contextSelect idx) s)

end Sys2Proof.Machine
end

