-- ==== Sys2Proof/Machine/ExecTime.lean ====
section
/-! DEFINITION. The meanings of the commands, one each. Ticks, frames, time bases, events and register writes (R15 to R79, R33 to R49). -/

namespace Sys2Proof.Machine

/-- R53: The phase-0 carrier restarts; the PWM loads the committed duty, double-buffered writes commit and the TB_TICK count increments. -/
def execTickBoundary (outs : List (List Int)) (s : State) : Answer :=
  .next (hifSettle (onCore (tickBoundary s.saf.conf outs) s))

/-- R53: 64 CTL clocks after the tick boundary, the control engine begins its pass on the latched operands. -/
def execEnginePass (s : State) : Answer :=
  .next (onCore enginePass s)

/-- R53: At 0.8 of the tick the PWM shadow duty register closes and CNV takes the engine's output ports. -/
def execCommitPoint (xl : Bool) (hb : Bool) (s : State) : Answer :=
  .next (onNv (fun _ nv c => commitInstant xl hb (nv, c)) s)

/-- R58: The tick boundary that ends a frame runs the ordered frame actions: commits, FNUM advance, snapshot and SYNC. -/
def execFrameBoundary (s : State) : Answer :=
  .next (hifSettle (onCoreA (fun a _ => frameBoundary a.ops) s))

/-- R31: A write of TICK_PROFILE.GO requests a switch to REQ at the next frame boundary. -/
def execProfileGo (late : Bool) (s : State) : Answer :=
  .next (onCore (holdOwn .f0 F.TICK_PROFILE.GO .normal 1 late) s)

/-- R59: A write of TICK_PERIOD.REQ requests a new tick length at the next frame boundary. -/
def execTickPeriodRequest (req : Nat) (late : Bool) (s : State) : Answer :=
  .next (onCore (holdOwn .f0 F.TICK_PERIOD.REQ .normal req late) s)

/-- R59: A write of TICK_FRAME.REQ requests a new N_F at the next frame boundary. -/
def execTickFrameRequest (req : Nat) (late : Bool) (s : State) : Answer :=
  .next (onCore (holdOwn .f0 F.TICK_FRAME.REQ .normal req late) s)

/-- R67: A write of TICK_SNAP_CTRL.GO arms a capture with the selected trigger, clearing VALID at the arming boundary. -/
def execSnapshotArm (late : Bool) (s : State) : Answer :=
  .next (onCore (holdOwn .f0 F.TICK_SNAP_CTRL.GO .normal 1 late) s)

/-- R66: The selected trigger arrives and every time base, the frame number and the last ESN are captured at one instant. -/
def execSnapshotCapture (phase : Nat) (s : State) : Answer :=
  .next (hifSettle (onCore (snapCapture phase) s))

/-- R63: Every 1,000 ms the always-on section stores TB_OPS and PWRCYC in its own cells. -/
def execOpsStore (s : State) : Answer :=
  .next (opsStoreStep s)

/-- R65: Every 1 ms the TB_OPS and PWRCYC registers are refreshed from SFA. -/
def execOpsRefresh (s : State) : Answer :=
  .next (opsRefresh s)

/-- R71: An event enters SYS and receives the next ESN, and is handed to its delivery paths. -/
def execEventSequence (s : State) : Answer :=
  .next (onNv (fun a nv c => hifPump (nv, evSequence a s.pwr c)) s)

/-- R33: A write to a register field without behaviour of its own loads, sets or clears it by its access type, or is ignored. -/
def execRegisterWrite (m : Master) (off : Nat) (v : Nat) (be : Nat) (late : Bool) (s : State) : Answer :=
  .next (busWrite m off v be (if (viewFn m).isSome then .normal else aliasOf off) late s)

/-- R41: A write through the set alias sets each RW or RW-P bit written as 1 in one cycle. -/
def execSetAliasWrite (m : Master) (off : Nat) (v : Nat) (be : Nat) (late : Bool) (s : State) : Answer :=
  .next (busWrite m off v be .set late s)

/-- R41: A write through the clear alias clears each RW or RW-P bit written as 1 in one cycle. -/
def execClearAliasWrite (m : Master) (off : Nat) (v : Nat) (be : Nat) (late : Bool) (s : State) : Answer :=
  .next (busWrite m off v be .clear late s)

/-- R41: A write through the toggle alias inverts each RW or RW-P bit written as 1 in one cycle. -/
def execToggleAliasWrite (m : Master) (off : Nat) (v : Nat) (be : Nat) (late : Bool) (s : State) : Answer :=
  .next (busWrite m off v be .toggle late s)

/-- R45: A write into a CHN, CAN, SMB, SVC or SAFM register completes at once and sets BUSY, or is discarded with WDROP. -/
def execPostedWrite (m : Master) (how : WMode) (off : Nat) (v : Nat) (be : Nat) (s : State) : Answer :=
  .next (if postedBlock (csrOff m off / 16384) then busWrite m off v be how false s else s)

/-- R45: A posted write commits in its destination domain and BUSY returns to 0. -/
def execPostedWriteCommit (block : Nat) (s : State) : Answer :=
  .next (hifSettle (postedCommit block s))

end Sys2Proof.Machine
end

