-- ==== Sys2Proof/Machine/ExecUpd.lean ====
section
/-! DEFINITION. The meanings of the commands, one each. The recorder, the service port, field update and the die temperature (R498 to R510, R528 to R545, R571). -/

namespace Sys2Proof.Machine

/-- R499: The recorder writes a queued event as a new record, merges it, or writes an ESN_MARK. -/
def execEventRecord (s : State) : Answer :=
  .next (onNv (recorderStep s.pwr) s)

/-- R508: Within 10 ms of the first event, a frame of up to 16 enabled events is sent on both Ethernet ports. -/
def execEventFrameSend (s : State) : Answer :=
  .next (onCore evFrameSend s)

/-- R510: A write to EVR_WSEL copies one recorder slot into the window. -/
def execEvrWindowSelect (slot : Nat) (s : State) : Answer :=
  .next (onNv (fun _ => evrWindow slot) s)

/-- R529: The service port is attached or detached, ending any session on detach. -/
def execUsbAttachChange (attached : Bool) (s : State) : Answer :=
  .next (onCore (usbAttach attached) s)

/-- R529: The service HELLO request returns identity, versions, update state and a fresh nonce. -/
def execSvcHello (s : State) : Answer :=
  .next (onCore svcHello s)

/-- R529: The service AUTH request opens a session on a valid signature, or counts a failure toward lockout. -/
def execSvcAuth (key : Nat) (ok : Bool) (s : State) : Answer :=
  .next (onCore (svcAuth key ok) s)

/-- R529: The 10 min AUTH lockout ends and FAILS returns to 0. -/
def execAuthLockoutEnd (s : State) : Answer :=
  .next (onCore (fun c => if c.svc.lockMs = 0 then lockoutOver c else c) s)

/-- R529: 10 min without a request ends the service session. -/
def execServiceSessionTimeout (s : State) : Answer :=
  .next (onCore sessionEnd s)

/-- R530: The service REG_READ request performs one privileged CSR read. -/
def execSvcRegRead (off : Nat) (s : State) : Answer :=
  .next (inService (onCore (fun c => usbAnswer 0 (leBytes 4 (c.busRead .svc off 15)) c)) s)

/-- R530: The service REG_WRITE request performs one privileged CSR write. -/
def execSvcRegWrite (off : Nat) (v : Nat) (late : Bool) (s : State) : Answer :=
  .next (svcWrite off v late s)

/-- R530: The service EVR_READ request returns recorder records slot by slot. -/
def execSvcEvrRead (idx : Nat) (s : State) : Answer :=
  .next (inService (fun s => onCore (usbAnswer 0 (((evrFrom s.nv 0 (idx + 1)).drop idx).flatMap Rec.bytes)) s) s)

/-- R533: The UPLOAD request writes package bytes at an offset, running the header and signature checks. -/
def execSvcUpload (off : Nat) (data : List Nat) (sigOk : Bool) (hashOk : Bool) (sfw : Nat) (s : State) : Answer :=
  .next (inService (uploadStep off data sigOk hashOk sfw) s)

/-- R535: A 64 KiB chunk of the target is written and verified and a checkpoint is written. -/
def execChunkApplied (hashOk : Bool) (sfw : Nat) (s : State) : Answer :=
  .next (onNv (fun _ nv c => chunkApplied hashOk sfw (nv, c)) s)

/-- R536: After READY the stored package is re-verified and the apply continues after the governing checkpoint. -/
def execApplyResume (sigOk : Bool) (s : State) : Answer :=
  .next (onNv (fun _ nv c => applyResume sigOk (nv, c)) s)

/-- R537: The COMMIT request writes the boot record with PEND set and STATE becomes COMMITTED. -/
def execUpdCommit (s : State) : Answer :=
  .next (inService (onNv (fun _ nv c => updCommit (nv, c))) s)

/-- R541: The CANCEL request stops an apply or clears PEND. -/
def execUpdCancel (s : State) : Answer :=
  .next (inService (onNv (fun _ nv c => updCancel (nv, c))) s)

/-- R514: The BLC_WRITE request stores a new boot-locked record for the next reset. -/
def execBlcWrite (words : List Nat) (crcOk : Bool) (s : State) : Answer :=
  .next (inService (onNv (fun _ nv c => ({ nv with blc := words, blcOk := crcOk }, usbAnswer 0 [] c))) s)

/-- R530: The service RESET request performs a device reset through GLB_RESET. -/
def execSvcReset (s : State) : Answer :=
  .next (inService (fun s => deviceReset 2 false (onCore (usbAnswer 0 []) s)) s)

/-- R530: The service STATUS request returns the update state, progress and versions. -/
def execSvcStatus (s : State) : Answer :=
  .next (inService (onCore (fun c => usbAnswer 0 c.updWords c)) s)

/-- R530: The service END request ends the session. -/
def execSessionEnd (s : State) : Answer :=
  .next (inService (onCore (fun c => usbAnswer 0 [] (sessionEnd c))) s)

/-- R529: A write of SVC_CTRL.BLOCK ends any session and refuses AUTH. -/
def execSvcBlock (block : Bool) (s : State) : Answer :=
  .next (onCore (svcBlock block) s)

/-- R540: A trial image holds READY for CONFIRMT seconds and becomes the confirmed bank. -/
def execImageConfirm (s : State) : Answer :=
  .next (onNv (fun a nv c => imageConfirm a (nv, c)) s)

/-- R571: Every 1 ms the die temperature is read and the throttle level is set. -/
def execThermalEvaluate (temp : Int) (s : State) : Answer :=
  .next (thermalStep temp s)

end Sys2Proof.Machine
end

