-- ==== Sys2Proof/Machine/Dispatch.lean ====
section
/-! DEFINITION. The one dispatch of a command to its meaning. -/

namespace Sys2Proof.Machine

/-- The effect of a command on everything but the queue. -/
def exec (i : Instr) (s : State) : Host.Outcome State Fault Refusal :=
  match i with
  | .powerOn => Sys2Proof.Machine.execPowerOn s
  | .powerOnResetRelease => Sys2Proof.Machine.execPowerOnResetRelease s
  | .inputLoss => Sys2Proof.Machine.execInputLoss s
  | .holdUpEnd => Sys2Proof.Machine.execHoldUpEnd s
  | .vinReturn => Sys2Proof.Machine.execVinReturn s
  | .bankSupplyChange bankB present => Sys2Proof.Machine.execBankSupplyChange bankB present s
  | .bootStage0 => Sys2Proof.Machine.execBootStage0 s
  | .bootStage1 => Sys2Proof.Machine.execBootStage1 s
  | .applicationStart peer => Sys2Proof.Machine.execApplicationStart peer s
  | .ready => Sys2Proof.Machine.execReady s
  | .deviceReset => Sys2Proof.Machine.execDeviceReset s
  | .powerCycle => Sys2Proof.Machine.execPowerCycle s
  | .pcycFallback => Sys2Proof.Machine.execPcycFallback s
  | .hotReset => Sys2Proof.Machine.execHotReset s
  | .watchdogKick core => Sys2Proof.Machine.execWatchdogKick core s
  | .watchdogWarning => Sys2Proof.Machine.execWatchdogWarning s
  | .watchdogReset => Sys2Proof.Machine.execWatchdogReset s
  | .flr fn => Sys2Proof.Machine.execFlr fn s
  | .tickBoundary outs => Sys2Proof.Machine.execTickBoundary outs s
  | .enginePass => Sys2Proof.Machine.execEnginePass s
  | .cteNop => Sys2Proof.Machine.execCteNop s
  | .cteLda w => Sys2Proof.Machine.execCteLda w s
  | .cteMpy w => Sys2Proof.Machine.execCteMpy w s
  | .cteMac w => Sys2Proof.Machine.execCteMac w s
  | .cteMsu w => Sys2Proof.Machine.execCteMsu w s
  | .cteAdd w => Sys2Proof.Machine.execCteAdd w s
  | .cteSub w => Sys2Proof.Machine.execCteSub w s
  | .cteAdda w => Sys2Proof.Machine.execCteAdda w s
  | .cteSuba w => Sys2Proof.Machine.execCteSuba w s
  | .cteShl w => Sys2Proof.Machine.execCteShl w s
  | .cteShr w => Sys2Proof.Machine.execCteShr w s
  | .cteClmp w => Sys2Proof.Machine.execCteClmp w s
  | .cteCmplt w => Sys2Proof.Machine.execCteCmplt w s
  | .cteCmpge w => Sys2Proof.Machine.execCteCmpge w s
  | .cteTst w => Sys2Proof.Machine.execCteTst w s
  | .cteSts w => Sys2Proof.Machine.execCteSts w s
  | .cteStu w => Sys2Proof.Machine.execCteStu w s
  | .cteMov w => Sys2Proof.Machine.execCteMov w s
  | .cteEnd => Sys2Proof.Machine.execCteEnd s
  | .commitPoint xl hb => Sys2Proof.Machine.execCommitPoint xl hb s
  | .carrierPeak k => Sys2Proof.Machine.execCarrierPeak k s
  | .frameBoundary => Sys2Proof.Machine.execFrameBoundary s
  | .profileGo late => Sys2Proof.Machine.execProfileGo late s
  | .tickPeriodRequest req late => Sys2Proof.Machine.execTickPeriodRequest req late s
  | .tickFrameRequest req late => Sys2Proof.Machine.execTickFrameRequest req late s
  | .snapshotArm late => Sys2Proof.Machine.execSnapshotArm late s
  | .snapshotCapture phase => Sys2Proof.Machine.execSnapshotCapture phase s
  | .opsStore => Sys2Proof.Machine.execOpsStore s
  | .opsRefresh => Sys2Proof.Machine.execOpsRefresh s
  | .eventSequence => Sys2Proof.Machine.execEventSequence s
  | .registerWrite m off v be late => Sys2Proof.Machine.execRegisterWrite m off v be late s
  | .setAliasWrite m off v be late => Sys2Proof.Machine.execSetAliasWrite m off v be late s
  | .clearAliasWrite m off v be late => Sys2Proof.Machine.execClearAliasWrite m off v be late s
  | .toggleAliasWrite m off v be late => Sys2Proof.Machine.execToggleAliasWrite m off v be late s
  | .postedWrite m how off v be => Sys2Proof.Machine.execPostedWrite m how off v be s
  | .postedWriteCommit block => Sys2Proof.Machine.execPostedWriteCommit block s
  | .enumReq => Sys2Proof.Machine.execEnumReq s
  | .enumeration found => Sys2Proof.Machine.execEnumeration found s
  | .enumerationComplete => Sys2Proof.Machine.execEnumerationComplete s
  | .enumRetry => Sys2Proof.Machine.execEnumRetry s
  | .dlygo => Sys2Proof.Machine.execDlygo s
  | .delayRemeasureDue => Sys2Proof.Machine.execDelayRemeasureDue s
  | .delayMeasureComplete trips => Sys2Proof.Machine.execDelayMeasureComplete trips s
  | .nodeSample cur => Sys2Proof.Machine.execNodeSample cur s
  | .resultReceived port crcOk node set res pkt => Sys2Proof.Machine.execResultReceived port crcOk node set res pkt s
  | .readRetry node port => Sys2Proof.Machine.execReadRetry node port s
  | .readoutComplete => Sys2Proof.Machine.execReadoutComplete s
  | .readoutDeadline => Sys2Proof.Machine.execReadoutDeadline s
  | .frameRecordPublish => Sys2Proof.Machine.execFrameRecordPublish s
  | .bleedScheduleSend reached => Sys2Proof.Machine.execBleedScheduleSend reached s
  | .openWireDiagRead node diag => Sys2Proof.Machine.execOpenWireDiagRead node diag s
  | .nodeDiagRead node temp fault => Sys2Proof.Machine.execNodeDiagRead node temp fault s
  | .helloReceived port hello => Sys2Proof.Machine.execHelloReceived port hello s
  | .nodeReaddress node desc => Sys2Proof.Machine.execNodeReaddress node desc s
  | .nodeUnreachable node => Sys2Proof.Machine.execNodeUnreachable node s
  | .nodeFault node cause => Sys2Proof.Machine.execNodeFault node cause s
  | .linkBreak node => Sys2Proof.Machine.execLinkBreak node s
  | .toneLoss port => Sys2Proof.Machine.execToneLoss port s
  | .toneRestore port => Sys2Proof.Machine.execToneRestore port s
  | .breakLocated lastA firstB => Sys2Proof.Machine.execBreakLocated lastA firstB s
  | .ringClosure => Sys2Proof.Machine.execRingClosure s
  | .measWindowSelect node set => Sys2Proof.Machine.execMeasWindowSelect node set s
  | .coolingMessage => Sys2Proof.Machine.execCoolingMessage s
  | .coolingUnitLost => Sys2Proof.Machine.execCoolingUnitLost s
  | .burstDue => Sys2Proof.Machine.execBurstDue s
  | .impGo => Sys2Proof.Machine.execImpGo s
  | .impAbort => Sys2Proof.Machine.execImpAbort s
  | .burstSetup acked => Sys2Proof.Machine.execBurstSetup acked s
  | .burstSample cur missed => Sys2Proof.Machine.execBurstSample cur missed s
  | .burstReadoutStart => Sys2Proof.Machine.execBurstReadoutStart s
  | .burstPacketReceived port crcOk node ch part => Sys2Proof.Machine.execBurstPacketReceived port crcOk node ch part s
  | .burstPublish => Sys2Proof.Machine.execBurstPublish s
  | .timpExpire => Sys2Proof.Machine.execTimpExpire s
  | .impResultSelect pos => Sys2Proof.Machine.execImpResultSelect pos s
  | .norestSet => Sys2Proof.Machine.execNorestSet s
  | .restReq => Sys2Proof.Machine.execRestReq s
  | .restSlotEnd => Sys2Proof.Machine.execRestSlotEnd s
  | .gleanReq => Sys2Proof.Machine.execGleanReq s
  | .gleanAbort => Sys2Proof.Machine.execGleanAbort s
  | .gleanRestEnd => Sys2Proof.Machine.execGleanRestEnd s
  | .saveNow => Sys2Proof.Machine.execSaveNow s
  | .periodicSave => Sys2Proof.Machine.execPeriodicSave s
  | .saveComplete => Sys2Proof.Machine.execSaveComplete s
  | .estPositionSelect pos => Sys2Proof.Machine.execEstPositionSelect pos s
  | .cnvClr late => Sys2Proof.Machine.execCnvClr late s
  | .onDelayExpire => Sys2Proof.Machine.execOnDelayExpire s
  | .offDelayExpire => Sys2Proof.Machine.execOffDelayExpire s
  | .softStartStall => Sys2Proof.Machine.execSoftStartStall s
  | .retryWaitExpire => Sys2Proof.Machine.execRetryWaitExpire s
  | .softStopDone => Sys2Proof.Machine.execSoftStopDone s
  | .softStopTimeout => Sys2Proof.Machine.execSoftStopTimeout s
  | .phaseShed => Sys2Proof.Machine.execPhaseShed s
  | .burstModeEnter => Sys2Proof.Machine.execBurstModeEnter s
  | .cteLoadBit => Sys2Proof.Machine.execCteLoadBit s
  | .admissionCheck => Sys2Proof.Machine.execAdmissionCheck s
  | .cteStd => Sys2Proof.Machine.execCteStd s
  | .cteHalt late => Sys2Proof.Machine.execCteHalt late s
  | .pmDataWrite v => Sys2Proof.Machine.execPmDataWrite v s
  | .dmDataWrite v => Sys2Proof.Machine.execDmDataWrite v s
  | .dmDataRead => Sys2Proof.Machine.execDmDataRead s
  | .pcommitGo late => Sys2Proof.Machine.execPcommitGo late s
  | .tripInput n high => Sys2Proof.Machine.execTripInput n high s
  | .cbcInput n high => Sys2Proof.Machine.execCbcInput n high s
  | .cbcpTrip k => Sys2Proof.Machine.execCbcpTrip k s
  | .gateOffLine ch => Sys2Proof.Machine.execGateOffLine ch s
  | .windowTrip n outs => Sys2Proof.Machine.execWindowTrip n outs s
  | .streamLoss n present => Sys2Proof.Machine.execStreamLoss n present s
  | .clockLoss present => Sys2Proof.Machine.execClockLoss present s
  | .crossCheckEvaluate => Sys2Proof.Machine.execCrossCheckEvaluate s
  | .refstale => Sys2Proof.Machine.execRefstale s
  | .overcurrentTrip => Sys2Proof.Machine.execOvercurrentTrip s
  | .tripClear reg bits => Sys2Proof.Machine.execTripClear reg bits s
  | .safetyInputSample a b exA exB => Sys2Proof.Machine.execSafetyInputSample a b exA exB s
  | .gateReadbackTimeout ch => Sys2Proof.Machine.execGateReadbackTimeout ch s
  | .discrepancyFault input => Sys2Proof.Machine.execDiscrepancyFault input s
  | .testPulse side a b rbOk => Sys2Proof.Machine.execTestPulse side a b rbOk s
  | .outputOffPulse output side bad => Sys2Proof.Machine.execOutputOffPulse output side bad s
  | .outputCurrentLimit output side => Sys2Proof.Machine.execOutputCurrentLimit output side s
  | .openLoad output => Sys2Proof.Machine.execOpenLoad output s
  | .contactorFeedbackTimeout output => Sys2Proof.Machine.execContactorFeedbackTimeout output s
  | .channelExchange q => Sys2Proof.Machine.execChannelExchange q s
  | .exchangeMissing => Sys2Proof.Machine.execExchangeMissing s
  | .safetyWindowEnd count iA iB vA vB => Sys2Proof.Machine.execSafetyWindowEnd count iA iB vA vB s
  | .toneLineDemand => Sys2Proof.Machine.execToneLineDemand s
  | .singleChannelFault ch code => Sys2Proof.Machine.execSingleChannelFault ch code s
  | .degradedGateOff => Sys2Proof.Machine.execDegradedGateOff s
  | .degradedModeEnd => Sys2Proof.Machine.execDegradedModeEnd s
  | .safeStateEnter => Sys2Proof.Machine.execSafeStateEnter s
  | .paramCrcCheck okA okB => Sys2Proof.Machine.execParamCrcCheck okA okB s
  | .selfTestSlice okA okB => Sys2Proof.Machine.execSelfTestSlice okA okB s
  | .ramTest okA okB => Sys2Proof.Machine.execRamTest okA okB s
  | .firmwareCrcCheck okA okB => Sys2Proof.Machine.execFirmwareCrcCheck okA okB s
  | .powerOnDiagComplete => Sys2Proof.Machine.execPowerOnDiagComplete s
  | .safStage => Sys2Proof.Machine.execSafStage s
  | .safCompute => Sys2Proof.Machine.execSafCompute s
  | .safClrflt => Sys2Proof.Machine.execSafClrflt s
  | .safRst => Sys2Proof.Machine.execSafRst s
  | .safClrweld => Sys2Proof.Machine.execSafClrweld s
  | .safPwdend => Sys2Proof.Machine.execSafPwdend s
  | .safPwdact => Sys2Proof.Machine.execSafPwdact s
  | .safmConfirmWrite v => Sys2Proof.Machine.execSafmConfirmWrite v s
  | .safmPdataWrite v => Sys2Proof.Machine.execSafmPdataWrite v s
  | .passwordWrite w3 => Sys2Proof.Machine.execPasswordWrite w3 s
  | .passwordSessionTimeout => Sys2Proof.Machine.execPasswordSessionTimeout s
  | .passwordLockoutEnd => Sys2Proof.Machine.execPasswordLockoutEnd s
  | .safmOutreqWrite req => Sys2Proof.Machine.execSafmOutreqWrite req s
  | .safmLogSelect idx => Sys2Proof.Machine.execSafmLogSelect idx s
  | .heartbeatSend => Sys2Proof.Machine.execHeartbeatSend s
  | .heartbeatReceived h => Sys2Proof.Machine.execHeartbeatReceived h s
  | .peerLost pid => Sys2Proof.Machine.execPeerLost pid s
  | .reportWaitExpire pid => Sys2Proof.Machine.execReportWaitExpire pid s
  | .reportReceived sheaf len pid => Sys2Proof.Machine.execReportReceived sheaf len pid s
  | .watchSetRecompute => Sys2Proof.Machine.execWatchSetRecompute s
  | .aggregateEntryDrop pid => Sys2Proof.Machine.execAggregateEntryDrop pid s
  | .duppidClear => Sys2Proof.Machine.execDuppidClear s
  | .slotViewExpire pid => Sys2Proof.Machine.execSlotViewExpire pid s
  | .slotRevoke => Sys2Proof.Machine.execSlotRevoke s
  | .shfRevoke => Sys2Proof.Machine.execShfRevoke s
  | .shfEnWrite en => Sys2Proof.Machine.execShfEnWrite en s
  | .dispatchFrameReceived sheaf len hold seq p => Sys2Proof.Machine.execDispatchFrameReceived sheaf len hold seq p s
  | .dispatchGo => Sys2Proof.Machine.execDispatchGo s
  | .dispatchTargetExpire => Sys2Proof.Machine.execDispatchTargetExpire s
  | .shfContextSelect idx => Sys2Proof.Machine.execShfContextSelect idx s
  | .ownershipGrantChange granted => Sys2Proof.Machine.execOwnershipGrantChange granted s
  | .tickFrameReceived f => Sys2Proof.Machine.execTickFrameReceived f s
  | .pathFault xl => Sys2Proof.Machine.execPathFault xl s
  | .switchOver => Sys2Proof.Machine.execSwitchOver s
  | .standbyLost => Sys2Proof.Machine.execStandbyLost s
  | .grantFailure => Sys2Proof.Machine.execGrantFailure s
  | .handover => Sys2Proof.Machine.execHandover s
  | .resyncComplete lo hi ms => Sys2Proof.Machine.execResyncComplete lo hi ms s
  | .submitDoorbell fn ring v => Sys2Proof.Machine.execSubmitDoorbell fn ring v s
  | .completionAckDoorbell fn ring v => Sys2Proof.Machine.execCompletionAckDoorbell fn ring v s
  | .ringResume fn ring => Sys2Proof.Machine.execRingResume fn ring s
  | .descriptorFetch ring => Sys2Proof.Machine.execDescriptorFetch ring s
  | .commandAccept ring => Sys2Proof.Machine.execCommandAccept ring s
  | .tlpError => Sys2Proof.Machine.execTlpError s
  | .ringCreate ring => Sys2Proof.Machine.execRingCreate ring s
  | .ringDelete ring => Sys2Proof.Machine.execRingDelete ring s
  | .ringDrainComplete ring => Sys2Proof.Machine.execRingDrainComplete ring s
  | .ringQuery ring => Sys2Proof.Machine.execRingQuery ring s
  | .ringRestart ring => Sys2Proof.Machine.execRingRestart ring s
  | .ringReset ring => Sys2Proof.Machine.execRingReset ring s
  | .vectorMap ring => Sys2Proof.Machine.execVectorMap ring s
  | .streamBind ring => Sys2Proof.Machine.execStreamBind ring s
  | .atuInvalidate ring => Sys2Proof.Machine.execAtuInvalidate ring s
  | .identify ring => Sys2Proof.Machine.execIdentify ring s
  | .nopCmd ring => Sys2Proof.Machine.execNopCmd ring s
  | .regRead ring => Sys2Proof.Machine.execRegRead ring s
  | .regWrite ring => Sys2Proof.Machine.execRegWrite ring s
  | .regList ring => Sys2Proof.Machine.execRegList ring s
  | .cnvOn ring => Sys2Proof.Machine.execCnvOn ring s
  | .cnvClear ring => Sys2Proof.Machine.execCnvClear ring s
  | .iset ring => Sys2Proof.Machine.execIset ring s
  | .dispatchTarget ring => Sys2Proof.Machine.execDispatchTarget ring s
  | .vrefNom ring => Sys2Proof.Machine.execVrefNom ring s
  | .outputRequest ring => Sys2Proof.Machine.execOutputRequest ring s
  | .profileCmd ring => Sys2Proof.Machine.execProfileCmd ring s
  | .gleanCmd ring => Sys2Proof.Machine.execGleanCmd ring s
  | .restCmd ring => Sys2Proof.Machine.execRestCmd ring s
  | .impBurst ring => Sys2Proof.Machine.execImpBurst ring s
  | .cteLoad ring => Sys2Proof.Machine.execCteLoad ring s
  | .cteParam ring => Sys2Proof.Machine.execCteParam ring s
  | .saveCmd ring => Sys2Proof.Machine.execSaveCmd ring s
  | .snapshotCmd ring => Sys2Proof.Machine.execSnapshotCmd ring s
  | .evrRead ring => Sys2Proof.Machine.execEvrRead ring s
  | .posRead ring => Sys2Proof.Machine.execPosRead ring s
  | .adminRingEnable w => Sys2Proof.Machine.execAdminRingEnable w s
  | .msixMessage vec timer => Sys2Proof.Machine.execMsixMessage vec timer s
  | .dStateChange fn d3 pme => Sys2Proof.Machine.execDStateChange fn d3 pme s
  | .pme fn => Sys2Proof.Machine.execPme fn s
  | .atuConfigCommit => Sys2Proof.Machine.execAtuConfigCommit s
  | .dmaSegment l1 l2 bytes => Sys2Proof.Machine.execDmaSegment l1 l2 bytes s
  | .faultRecordFlush => Sys2Proof.Machine.execFaultRecordFlush s
  | .irqAssert => Sys2Proof.Machine.execIrqAssert s
  | .irqDeliver core => Sys2Proof.Machine.execIrqDeliver core s
  | .irqEoi core n => Sys2Proof.Machine.execIrqEoi core n s
  | .holdOffExpire group => Sys2Proof.Machine.execHoldOffExpire group s
  | .irqPendDiscard word bits => Sys2Proof.Machine.execIrqPendDiscard word bits s
  | .irqSgi bits => Sys2Proof.Machine.execIrqSgi bits s
  | .ethernetFrameReceive f => Sys2Proof.Machine.execEthernetFrameReceive f s
  | .addressAgeout addr => Sys2Proof.Machine.execAddressAgeout addr s
  | .ethernetLinkChange port speed => Sys2Proof.Machine.execEthernetLinkChange port speed s
  | .ptpSyncReceived port sender t1 t2 corr => Sys2Proof.Machine.execPtpSyncReceived port sender t1 t2 corr s
  | .announceReceived a => Sys2Proof.Machine.execAnnounceReceived a s
  | .announceTimeout port sender => Sys2Proof.Machine.execAnnounceTimeout port sender s
  | .delayReqSend t3 => Sys2Proof.Machine.execDelayReqSend t3 s
  | .pdelayReqSend port t1 => Sys2Proof.Machine.execPdelayReqSend port t1 s
  | .pdelayReqReceived port seq turn => Sys2Proof.Machine.execPdelayReqReceived port seq turn s
  | .pdelayRespReceived port t4 turn => Sys2Proof.Machine.execPdelayRespReceived port t4 turn s
  | .linkDelayLost port => Sys2Proof.Machine.execLinkDelayLost port s
  | .followUpMiss seq sender => Sys2Proof.Machine.execFollowUpMiss seq sender s
  | .tset => Sys2Proof.Machine.execTset s
  | .stepgo => Sys2Proof.Machine.execStepgo s
  | .canFrameReceive f => Sys2Proof.Machine.execCanFrameReceive f s
  | .txreq obj => Sys2Proof.Machine.execTxreq obj s
  | .txabort obj => Sys2Proof.Machine.execTxabort obj s
  | .canTxAcknowledged sec ns tdcv => Sys2Proof.Machine.execCanTxAcknowledged sec ns tdcv s
  | .canAckError tdcv => Sys2Proof.Machine.execCanAckError tdcv s
  | .busOff => Sys2Proof.Machine.execBusOff s
  | .busOffRecovery => Sys2Proof.Machine.execBusOffRecovery s
  | .canInitRelease => Sys2Proof.Machine.execCanInitRelease s
  | .canLockWrite obj v => Sys2Proof.Machine.execCanLockWrite obj v s
  | .referenceMessageDue => Sys2Proof.Machine.execReferenceMessageDue s
  | .smbGo busFree => Sys2Proof.Machine.execSmbGo busFree s
  | .smb0TransferEnd res count data => Sys2Proof.Machine.execSmb0TransferEnd res count data s
  | .smb0BusTimeout => Sys2Proof.Machine.execSmb0BusTimeout s
  | .smbClear bySda => Sys2Proof.Machine.execSmbClear bySda s
  | .busClearRoundEnd high => Sys2Proof.Machine.execBusClearRoundEnd high s
  | .busClearHoldEnd => Sys2Proof.Machine.execBusClearHoldEnd s
  | .busClearRetry => Sys2Proof.Machine.execBusClearRetry s
  | .smbAlert ans => Sys2Proof.Machine.execSmbAlert ans s
  | .smb1BlockWrite addr code data pecByte prev fin => Sys2Proof.Machine.execSmb1BlockWrite addr code data pecByte prev fin s
  | .smb1BlockRead addr code prev fin => Sys2Proof.Machine.execSmb1BlockRead addr code prev fin s
  | .smb1Timeout => Sys2Proof.Machine.execSmb1Timeout s
  | .smbAlertSet => Sys2Proof.Machine.execSmbAlertSet s
  | .smbAlertClr => Sys2Proof.Machine.execSmbAlertClr s
  | .smb1AlertResponse won => Sys2Proof.Machine.execSmb1AlertResponse won s
  | .eventRecord => Sys2Proof.Machine.execEventRecord s
  | .eventFrameSend => Sys2Proof.Machine.execEventFrameSend s
  | .evrWindowSelect slot => Sys2Proof.Machine.execEvrWindowSelect slot s
  | .usbAttachChange attached => Sys2Proof.Machine.execUsbAttachChange attached s
  | .svcHello => Sys2Proof.Machine.execSvcHello s
  | .svcAuth key ok => Sys2Proof.Machine.execSvcAuth key ok s
  | .authLockoutEnd => Sys2Proof.Machine.execAuthLockoutEnd s
  | .serviceSessionTimeout => Sys2Proof.Machine.execServiceSessionTimeout s
  | .svcRegRead off => Sys2Proof.Machine.execSvcRegRead off s
  | .svcRegWrite off v late => Sys2Proof.Machine.execSvcRegWrite off v late s
  | .svcEvrRead idx => Sys2Proof.Machine.execSvcEvrRead idx s
  | .svcUpload off data sigOk hashOk sfw => Sys2Proof.Machine.execSvcUpload off data sigOk hashOk sfw s
  | .chunkApplied hashOk sfw => Sys2Proof.Machine.execChunkApplied hashOk sfw s
  | .applyResume sigOk => Sys2Proof.Machine.execApplyResume sigOk s
  | .updCommit => Sys2Proof.Machine.execUpdCommit s
  | .updCancel => Sys2Proof.Machine.execUpdCancel s
  | .blcWrite words crcOk => Sys2Proof.Machine.execBlcWrite words crcOk s
  | .svcReset => Sys2Proof.Machine.execSvcReset s
  | .svcStatus => Sys2Proof.Machine.execSvcStatus s
  | .sessionEnd => Sys2Proof.Machine.execSessionEnd s
  | .svcBlock block => Sys2Proof.Machine.execSvcBlock block s
  | .imageConfirm => Sys2Proof.Machine.execImageConfirm s
  | .thermalEvaluate temp => Sys2Proof.Machine.execThermalEvaluate temp s
  | .canBusError lec own heavy => Sys2Proof.Machine.execCanBusError lec own heavy s
  | .msixVectorUnmask vec masked => Sys2Proof.Machine.execMsixVectorUnmask vec masked s
  | .xlLaneFailure lane => Sys2Proof.Machine.execXlLaneFailure lane s
  | .smb0BusFree => Sys2Proof.Machine.execSmb0BusFree s

end Sys2Proof.Machine
end

