-- ==== Sys2Proof/Safety.lean ====
section
/-! DEFINITION. What the statements about the block are made of: a command that completes, which part of the machine a command may
change, and the invariants that a run keeps. -/

namespace Sys2Proof.Machine

/-- The command `c` completes from `s` in a state of which `P` holds. -/
def Ends (c : Instr) (s : State) (P : State → Prop) : Prop := ∃ t, exec c s = .next t ∧ P t

/-- The command `c` completes from `s`: its own effect leads to a state of which `P` holds, and then the host commands that
wait are looked at (R398). -/
def EndsThen (c : Instr) (s : State) (P : State → Prop) : Prop := ∃ u, exec c s = .next (hifSettle u) ∧ P u

/-- The 24 V input is there and no power-on reset holds the domains (R511). -/
abbrev State.up (s : State) : Prop := s.pwr.vin = .on ∧ s.pwr.held = false

/-! ### Frames -/

/-- Only the resettable part and the power state differ. -/
def pwrOnly (s t : State) : Prop := t = { s with pwr := t.pwr, core := t.core }

/-- Only the resettable part of the machine differs. -/
def coreOnly (s t : State) : Prop := t = { s with core := t.core }

/-- Only the non-volatile memories and the resettable part differ. -/
def nvOnly (s t : State) : Prop := t = { s with nv := t.nv, core := t.core }

/-- Only the line interface and the resettable part differ. -/
def lineOnly (s t : State) : Prop := t = { s with line := t.line, core := t.core }

/-- Only the safety channels and the resettable part differ. -/
def safOnly (s t : State) : Prop := t = { s with saf := t.saf, core := t.core }

/-- R546: the number of the block whose registers lie around a field. -/
def Fld.block (f : Fld) : Nat := f.key / 524288

/-- Every register field outside the blocks of a list holds what it held. -/
def blocksOnly (bs : List Nat) (c d : Core) : Prop := ∀ f : Fld, f.block ∉ bs → d.rd f = c.rd f

/-- No register field differs. -/
def noRegister (c d : Core) : Prop := ∀ f : Fld, d.rd f = c.rd f

/-- No register field differs but those of a list. -/
def fieldsOnly (fs : List Fld) (c d : Core) : Prop := ∀ f : Fld, (∀ g ∈ fs, f.key ≠ g.key) → d.rd f = c.rd f

/-! ### Registers -/

/-- A field that a privileged write changes by itself, as a value of one word that governs from an instant of the class `k`. -/
def Fld.writable (k : Cls) (f : Fld) : Bool := (f.acc == .rw || f.acc == .rwp) && f.cls == k && f.pair == 0

/-- R17, R33: a register at offset `o` of the normal view whose fields are read-only or writable at one class of instant; the blocks
with rules of their own for every write are left out: BLC (R515), ATU (R420), RED (R370) and the posted ones (R45). -/
def plainReg (k : Cls) (o : Nat) : Bool :=
  !(regAt o).isEmpty && (regAt o).all (fun f => f.off == o && (f.acc == .ro || f.writable k)) && decide (((regAt o).map Fld.key).Nodup) &&
    !postedBlock (o / 16384) && decide (o / 16384 ∉ [1, 5, 17])

/-! ### Commands of the rings -/

/-- R397: the journal shows the command of record `j` as executed, with a status and a result. -/
def JRec.ended (j : JRec) (status result : Nat) (t : State) : Prop :=
  ∃ k ∈ t.nv.jrec, k.ring = j.ring ∧ k.sidx = j.sidx ∧ k.cid = j.cid ∧ k.stg = 1 ∧ k.status = status ∧ k.result = result % 2 ^ 64

/-- R398: the command of record `j` executes and waits; `w` says what for. -/
def JRec.waits (j : JRec) (w : Nat) (t : State) : Prop :=
  ∃ k ∈ t.nv.jrec, k.ring = j.ring ∧ k.sidx = j.sidx ∧ k.cid = j.cid ∧ k.stg = 0 ∧ k.run = true ∧ k.wait = w

/-- R385, R390, R398, R400, R402: the command of record `j` at the head of ring `r` may execute as opcode `op`: it is ready, not expired,
permitted, and its parameters carry bits only where `masks` has them. -/
def JRec.runs (j : JRec) (s : State) (op r : Nat) (masks : List Nat) : Prop :=
  s.ready1 op r = some j ∧ (j.ttl = 0 ∨ j.acc = false ∨ s.aon.ops - j.ops ≤ j.ttl) ∧ s.core.permits r j.own op = true ∧ j.rsv = false ∧ parOk masks j.par = true

/-! ### Invariants -/

/-- R63: the cells of the always-on section hold a TB_OPS and a PWRCYC that have been reached. -/
def State.stored (s : State) : Prop := s.aon.storedOps ≤ s.aon.ops ∧ s.aon.storedPwrcyc ≤ s.aon.pwrcyc ∧ s.aon.pwrcyc < 2 ^ 32

/-- R333: the parameter set that is active in the channels, with its path and check value. -/
def SafSt.activeSet (s : SafSt) : Bool × Tab Nat × Nat × Nat := (s.conf, s.act, s.path, s.cvAct)

/-- R311, R324: output `k` is energised: both of its switches are on. -/
def State.energised (s : State) (k : Nat) : Bool := (s.saf.o k).on

/-- The memories of the control engine are in their canonical form. -/
def Core.canonical (c : Core) : Bool := Tab.wf 0 c.cte.pm && Tab.wf 0 c.cte.dm && Tab.wf 0 c.cte.shadow

/-- The memories of the control engine, of the recorder and of field update are in their canonical form. -/
def State.canonical (s : State) : Bool := s.core.canonical && Tab.wf {} s.nv.recs && Tab.wf 0 s.nv.upd.pkg

end Sys2Proof.Machine
end

