-- ==== Sys2Proof/Certificates/Slice0/Obligations.lean ====
section
/-! DEFINITION. The statements for the provers, over every state and every operand unless a hypothesis says otherwise. `Ends c s P`
says that the command ends in a next state and what that state holds; frames are `coreOnly`, `nvOnly`, `lineOnly`, `safOnly`
and `pwrOnly` with `fieldsOnly`, `blocksOnly` and `noRegister` (Sys2Proof/Safety.lean). -/

open Sys2Proof Sys2Proof.Machine

/-- The 24 V input: power-on, release, input loss, hold-up end, return, bank supplies. -/
def Obligations.SupplyCommands : Prop :=
  ∀ s : State,
  (s.pwr.vin = .off → Ends .powerOn s fun t => t.pwr.vin = .rising ∧ t.pwr.held = true ∧ t.aon.ops = s.aon.storedOps ∧
    t.aon.pwrcyc = s.aon.storedPwrcyc ∧ t.saf.rst = true ∧ t.saf.safe = false ∧ (∀ k, t.energised k = false) ∧
    t.saf.activeSet = s.saf.activeSet ∧ t.nv = s.nv ∧ t.pending = s.pending) ∧
  (s.pwr.vin = .rising → Ends .powerOnResetRelease s fun t => t.up ∧ t.aon = { s.aon with pwrcyc := min (2 ^ 32 - 1) (s.aon.pwrcyc + 1) } ∧
    t.core.rd F.GLB_RSTCAUSE.LAST = 1 ∧ t.core.rd F.GLB_BOOT.STAGE = 0 ∧ t.saf = s.saf ∧ t.line = s.line ∧ t.pending = s.pending) ∧
  (s.up → Ends .inputLoss s fun t => t.pwr = { s.pwr with vin := .holdUp, back := false } ∧
    t.aon = { s.aon with storing := true } ∧ (∀ k, t.energised k = false) ∧
    t.saf.activeSet = s.saf.activeSet ∧ t.line = s.line ∧ t.pending = s.pending) ∧
  (s.pwr.vin = .holdUp → Ends .holdUpEnd s fun t => t.pwr.vin = (if s.pwr.back then .rising else .off) ∧ t.pwr.held = true ∧
    (s.aon.storing = true → t.aon = { s.aon with storing := false }) ∧
    (s.aon.storing = false → t.aon = { s.aon with storedOps := s.aon.ops, storedPwrcyc := s.aon.pwrcyc }) ∧ t.saf.rst = true ∧ (∀ k, t.energised k = false) ∧
    t.saf.activeSet = s.saf.activeSet ∧ t.nv.params = s.nv.params ∧ t.nv.recs = s.nv.recs ∧ t.pending = s.pending) ∧
  (s.pwr.vin = .holdUp → Ends .vinReturn s fun t => t = { s with pwr := { s.pwr with back := true } }) ∧
  ∀ b p, Ends (.bankSupplyChange b p) s fun t => t.pwr.bankA = (if b then s.pwr.bankA else p) ∧
    t.pwr.bankB = (if b then p else s.pwr.bankB) ∧ (b = false → t.core.prot.vioA = p) ∧ (b = false → p = false → t.core.gatesOn = false) ∧ t.aon = s.aon ∧ t.line = s.line ∧ t.saf = s.saf ∧ t.pending = s.pending

/-- The boot stages: bank and image, the sealed record, the application, READY. -/
def Obligations.BootCommands : Prop :=
  ∀ s : State, s.pwr.held = false →
  (s.core.svc.sel = false → s.core.rd F.GLB_BOOT.STAGE = 0 → Ends .bootStage0 s fun t => t.pwr.pll = true ∧
    ((s.nv.img false).valid = true ∨ (s.nv.img true).valid = true → t.core.svc.sel = true ∧ t.core.rd F.GLB_BOOT.STAGE = 0) ∧
    ((s.nv.img false).valid = false → (s.nv.img true).valid = false → t.core.rd F.GLB_BOOT.STAGE = 7) ∧
    t.line = { s.line with sending := !s.nv.pairBit || s.core.on F.RED_STAT.GNT, pair := s.nv.pairBit } ∧
    t.aon = s.aon ∧ t.saf = s.saf ∧ t.pending = s.pending) ∧
  (s.core.svc.sel = true → s.core.rd F.GLB_BOOT.STAGE = 0 → Ends .bootStage1 s fun t => t.core.rd F.GLB_BOOT.STAGE = 1 ∧
    t.core.rd F.BLC_SEAL.SEALED = 1 ∧ nvOnly s t) ∧
  (∀ p, s.core.rd F.GLB_BOOT.STAGE = 1 → Ends (.applicationStart p) s fun t => t.core.rd F.GLB_BOOT.STAGE = 2 ∧ t.core.tick.running = true ∧ coreOnly s t) ∧
  (s.core.rd F.GLB_BOOT.STAGE = 2 → s.core.svc.exch = true → Ends .ready s fun t => coreOnly s t ∧ t.core.rd F.GLB_BOOT.STAGE = 3 ∧
    t.core.rd F.GLB_BOOT.READY = 1 ∧ t.core.rd F.GLB_BOOT.BOOTMS = s.core.svc.bootMs % 2 ^ 16 ∧
    fieldsOnly [F.GLB_BOOT.STAGE, F.GLB_BOOT.READY, F.GLB_BOOT.BOOTMS] s.core t.core) ∧
  (s.core.svc.exch = false → Ends .ready s fun t => t = s)

/-- Device reset, hot reset, power cycle and its fallback, function-level reset. -/
def Obligations.ResetCommands : Prop :=
  ∀ s : State, s.up →
  (s.pwr.pcycLow = false → Ends .deviceReset s fun t => t.pwr.restart = 2 ∧ t.pwr.devCnt = min 65535 (s.pwr.devCnt + 1) ∧ t.core.rd F.GLB_RSTCAUSE.LAST = 2 ∧
    t.core.rd F.GLB_BOOT.STAGE = 0 ∧ t.core.tick.running = false ∧ t.core.wait = [] ∧
    t.aon = s.aon ∧ t.line = s.line ∧ t.saf = s.saf ∧ t.pending = s.pending) ∧
  (s.pwr.pcycLow = false → Ends .hotReset s fun t => t.pwr.restart = 3 ∧ t.pwr.devCnt = min 65535 (s.pwr.devCnt + 1) ∧ t.core.rd F.GLB_RSTCAUSE.LAST = 3 ∧
    t.core.rd F.GLB_BOOT.STAGE = 0 ∧ t.core.tick.running = false ∧ t.core.wait = [] ∧
    t.aon = s.aon ∧ t.line = s.line ∧ t.saf = s.saf ∧ t.pending = s.pending) ∧
  (s.pwr.pcycLow = true → ∀ i ∈ [Instr.deviceReset, .hotReset, .powerCycle, .watchdogReset], Ends i s fun t => t = s) ∧
  (s.pwr.pcycLow = false → Ends .powerCycle s fun t => t.pwr = { s.pwr with pcycLow := true } ∧ (s.core.prot.vioA = true → t.core.out.head? = some (.pin 1 0)) ∧
    t.aon = s.aon ∧ t.line = s.line ∧ t.saf = s.saf ∧ t.pending = s.pending) ∧
  (s.pwr.pcycLow = true → Ends .pcycFallback s fun t => t.pwr.pcycLow = false ∧ t.pwr.pcycFail = true ∧ t.pwr.restart = 2 ∧
    t.core.rd F.GLB_RSTCAUSE.PCYCFAIL = 1 ∧ t.core.rd F.GLB_BOOT.STAGE = 0 ∧
    t.aon = s.aon ∧ t.line = s.line ∧ t.saf = s.saf ∧ t.pending = s.pending) ∧
  ∀ fn, Ends (.flr fn) s fun t => nvOnly s t ∧ ∀ v ∈ t.core.hif.men, v / 16 ≠ fn

/-- The watchdog: kicks, warning, reset, and the power cycle at the third reset. -/
def Obligations.WatchdogCommands : Prop :=
  ∀ s : State,
  (∀ k, s.pwr.held = false → s.pwr.kicked.contains k = false → s.pwr.kicked.length ≤ 2 →
    Ends (.watchdogKick k) s fun t => t = { s with pwr := { s.pwr with kicked := k :: s.pwr.kicked } }) ∧
  (∀ k, s.pwr.held = false → s.pwr.kicked.contains k = false → s.pwr.kicked.length = 3 →
    Ends (.watchdogKick k) s fun t => pwrOnly s t ∧ t.pwr = { s.pwr with kicked := [], warned := false } ∧
      t.core.rd F.GLB_WDT.KICKS = (s.core.rd F.GLB_WDT.KICKS + 1) % 2 ^ F.GLB_WDT.KICKS.width ∧ fieldsOnly [F.GLB_WDT.KICKS] s.core t.core) ∧
  (s.pwr.held = false → s.pwr.warned = false → Ends .watchdogWarning s fun t => pwrOnly s t ∧ t.pwr = { s.pwr with warned := true } ∧
    t.core.rd F.GLB_WDT.WARN = 1 ∧ fieldsOnly [F.GLB_WDT.WARN] s.core t.core) ∧
  (s.up → s.pwr.pcycLow = false → Ends .watchdogReset s fun t => t.pwr.wdCnt = min 255 (s.pwr.wdCnt + 1) ∧
    ((s.pwr.wdOps.filter fun o => decide (s.aon.ops - o ≤ 600000)).length ≤ 1 →
      t.pwr.restart = 4 ∧ t.core.rd F.GLB_RSTCAUSE.LAST = 4 ∧ t.core.rd F.GLB_BOOT.STAGE = 0) ∧
    (2 ≤ (s.pwr.wdOps.filter fun o => decide (s.aon.ops - o ≤ 600000)).length → t.pwr.pcycLow = true) ∧
    t.aon = s.aon ∧ t.line = s.line ∧ t.saf = s.saf ∧ t.pending = s.pending)

/-- Commands of CTL registers that take effect at the next tick boundary are held until then. -/
def Obligations.HeldRequests : Prop :=
  ∀ s : State, s.pwr.held = false → ∀ late req,
  let hold := fun (f : Fld) (bits : Nat) (t : State) => t = { s with core := { s.core with wait := s.core.wait ++ [⟨f, bits, .normal, late, .f0⟩] } }
  let now := fun (f : Fld) (bits : Nat) (t : State) => t = { s with core := { s.core.moment with wait := s.core.wait ++ [⟨f, bits, .normal, s.core.pastCutOff, .f0⟩] } }
  Ends (.profileGo late) s (hold F.TICK_PROFILE.GO 1) ∧ Ends (.tickPeriodRequest req late) s (hold F.TICK_PERIOD.REQ req) ∧
  Ends (.tickFrameRequest req late) s (hold F.TICK_FRAME.REQ req) ∧ Ends (.snapshotArm late) s (hold F.TICK_SNAP_CTRL.GO 1) ∧
  Ends (.cnvClr late) s (hold F.CNV_CTRL.CLR 1) ∧ Ends (.cteHalt late) s (hold F.CTE_CTRL.HALT 1) ∧
  (Ends (.pcommitGo late) s fun t => t = { s with core := ({ s.core with wait := s.core.wait ++ [⟨F.CTE_PCOMMIT.GO, 1, .normal, late, .f0⟩] } : Core).wr F.CTE_PCOMMIT.PEND 1 }) ∧ Ends .cteLoadBit s (now F.CTE_CTRL.LOAD 1) ∧ Ends .cteStd s (now F.CTE_CTRL.STD 1) ∧
  Ends (.pmDataWrite req) s (now F.CTE_PMDATA.DATA req) ∧ Ends (.dmDataWrite req) s (now F.CTE_DMDATA.DATA req) ∧
  Ends (.tripClear 0 req) s (now (causeWord 0) req) ∧ Ends (.tripClear 1 req) s (now (causeWord 1) req)

/-- Tick boundary, engine pass, commit point, frame boundary. -/
def Obligations.TickCommands : Prop :=
  ∀ s : State, s.pwr.held = false →
  (∀ means, s.core.tick.running = true → EndsThen (.tickBoundary means) s fun u => coreOnly s u ∧ u.core.tick.pos = s.core.tick.pos + 1) ∧
  (Ends .enginePass s fun t => coreOnly s t ∧ fieldsOnly [F.CTE_STAT.ACCSAT, F.CTE_SATCNT.COUNT] s.core t.core ∧ t.core.cte.pm = s.core.cte.pm ∧
    (s.core.standby = false → ∀ a, dmWritable a = false → Tab.get 0 t.core.cte.dm a = Tab.get 0 s.core.cte.dm a) ∧
    (s.core.standby = true → ∀ a, 256 ≤ a → a < 384 → Tab.get 0 t.core.cte.dm a = Tab.get 0 s.core.cte.mirror a) ∧
    (s.core.standby = false → s.core.cte.act = none → t = s)) ∧
  (∀ xl hb, s.core.tick.running = true → Ends (.commitPoint xl hb) s fun t => nvOnly s t ∧ ∀ w ∈ t.core.wait, w.late = false) ∧
  (s.core.tick.running = true → s.core.framesRun = true → s.core.nf ≤ s.core.tick.pos → EndsThen .frameBoundary s fun u => coreOnly s u ∧ u.core.tick.pos = 0) ∧
  (s.core.tick.pos < s.core.nf → EndsThen .frameBoundary s fun u => u = s) ∧
  (s.core.framesRun = false → EndsThen .frameBoundary s fun u => u = s)

/-- Snapshot capture, the stores and the millisecond of TB_OPS, the event sequencer, a new record, its window and the event frame. -/
def Obligations.TimeCommands : Prop :=
  ∀ s : State,
  (∀ ph k, s.pwr.held = false → s.core.tick.snapSrc = some k → (if k = 3 then s.core.secondEdge = some (ph / 16 * 16) else s.core.tick.snapDue = true) → s.core.tick.snapAgain = false →
    EndsThen (.snapshotCapture ph) s fun u => coreOnly s u ∧ u.core.rd F.TICK_SNAP_CTRL.VALID = 1 ∧ u.core.rd F.TICK_SNAP_CTRL.GO = 0 ∧
      u.core.rd F.TICK_SNAP_CTRL.CAPS = (s.core.rd F.TICK_SNAP_CTRL.CAPS + 1) % 2 ^ 8 ∧ u.core.tick.snapSrc = none ∧
      u.core.rd F.TICK_SNAP_TK_LO.TK = s.core.tbTick % 2 ^ 32 ∧ u.core.rd F.TICK_SNAP_FNUM.FNUM = s.core.rd F.TICK_FNUM.FNUM % 2 ^ 32 ∧
      u.core.rd F.TICK_SNAP_ESN_LO.ESN = s.core.lastEsn % 2 ^ 32) ∧
  (∀ ph, s.core.tick.snapSrc = none → EndsThen (.snapshotCapture ph) s fun u => u = s) ∧
  (s.pwr.vin ≠ .off → Ends .opsStore s fun t => t = { s with aon := { s.aon with storing := false, storedOps := s.aon.ops, storedPwrcyc := s.aon.pwrcyc } }) ∧
  (s.pwr.vin ≠ .off → Ends .opsRefresh s fun t => t = { s with aon := t.aon, core := t.core } ∧
    (s.aon.storing = false → t.aon = { s.aon with ops := s.aon.ops + 1 }) ∧
    (s.aon.storing = true → t.aon = { s.aon with ops := s.aon.ops + 1, storing := false, storedOps := s.aon.ops + 1, storedPwrcyc := s.aon.pwrcyc }) ∧
    (s.pwr.held = true → t.core = s.core)) ∧
  (∀ e, s.core.ev.raw.head? = some e → s.pwr.held = false → s.core.ev.ready = true → Ends .eventSequence s fun t => nvOnly s t ∧
    (∃ more, t.core.ev.raw = s.core.ev.raw.tail ++ more) ∧ t.core.rd F.TICK_ESN_LO.ESN = (s.core.lastEsn + 1) % 2 ^ 32 ∧
    (s.core.ev.recq.length < 4096 → t.core.ev.recq = s.core.ev.recq ++ [⟨s.core.lastEsn + 1, e, s.aon.ops, s.aon.pwrcyc, s.pwr.vin == .holdUp⟩])) ∧
  (∀ e, s.core.ev.recq.head? = some e → s.pwr.held = false → s.pwr.vin ≠ .holdUp → s.core.ev.beyond < 32768 → s.core.ev.recent.find? (fun k => (s.nv.slot k).same e) = none →
    Ends .eventRecord s fun t => nvOnly s t ∧ t.core.ev.recq = s.core.ev.recq.tail ∧
      t.nv.slot (s.core.rd F.EVR_STAT.WPTR) = ⟨e.esn, e.ev.code, e.ev.src, e.ops, e.pwrcyc, 0, 0, b2n e.hold, 165, e.ev.prim, e.ev.stat⟩) ∧
  (∀ k, s.pwr.held = false → Ends (.evrWindowSelect k) s fun t => coreOnly s t ∧ t.core.rd F.EVR_WSEL.WVALID = b2n (s.nv.slot (k % 65536)).valid ∧
    ∀ n < 16, t.core.rd (F.EVR_W.DATA n) = if (s.nv.slot (k % 65536)).valid then wordAt (s.nv.slot (k % 65536)).bytes n % 2 ^ 32 else 0) ∧
  (s.pwr.held = false → Ends .eventFrameSend s fun t => coreOnly s t ∧ fieldsOnly [F.NET_TXOK.COUNT 0, F.NET_TXOK.COUNT 1] s.core t.core ∧
    t.core.ev.eth = if s.core.standby then s.core.ev.eth else s.core.ev.eth.drop 16)

/-- LDA, MPY, MAC, MSU, ADD, SUB, ADDA, SUBA, SHL, SHR and CLMP: the accumulator, saturated to 40 bits. -/
def Obligations.EngineArithmetic : Prop :=
  ∀ (s : State) (w : CteW), s.pwr.held = false → cteGoes w s.core.cte = true → w.a < s.core.cte.acc.length →
  let e := s.core.cte
  let a := e.a w.a
  let x := e.rd w.x
  let y := e.rd w.y
  let n : Int := ((2 ^ (w.y % 32) : Nat) : Int)
  let gives := fun (i : Instr) (v : Int) => Ends i s fun t => coreOnly s t ∧
    t.core.cte = { e with acc := e.acc.set w.a (max (-(2 ^ 39)) (min (2 ^ 39 - 1) v)) } ∧
    (-(2 ^ 39) ≤ v → v ≤ 2 ^ 39 - 1 → t.core = { s.core with cte := t.core.cte }) ∧
    (v < -(2 ^ 39) ∨ 2 ^ 39 - 1 < v → t.core.rd F.CTE_STAT.ACCSAT = 1 ∧ fieldsOnly [F.CTE_STAT.ACCSAT] s.core t.core)
  gives (.cteLda w) (x * 32768) ∧ gives (.cteMpy w) (x * y) ∧ gives (.cteMac w) (a + x * y) ∧ gives (.cteMsu w) (a - x * y) ∧
  gives (.cteAdd w) (a + x * 32768) ∧ gives (.cteSub w) (a - x * 32768) ∧ gives (.cteAdda w) (a + e.a w.b) ∧ gives (.cteSuba w) (a - e.a w.b) ∧
  gives (.cteShl w) (a * n) ∧ gives (.cteShr w) (a / n) ∧ gives (.cteClmp w) (min (max a (x * 32768)) (y * 32768))

/-- CMPLT, CMPGE, TST, STS, STU, MOV, NOP and END: predicates and stores. -/
def Obligations.EngineStores : Prop :=
  ∀ (s : State) (w : CteW), s.pwr.held = false → cteGoes w s.core.cte = true →
  let e := s.core.cte
  let a := e.a w.a
  let r := (a + 16384) / 32768
  let pred := fun (i : Instr) (b : Bool) => Ends i s fun t =>
    t = (if w.b = 0 then s else { s with core := { s.core with cte := { e with pred := e.pred.set w.b b } } })
  let puts := fun (v : Int) (t : State) => coreOnly s t ∧ t.core.cte.acc = e.acc ∧ t.core.cte.pred = e.pred ∧ t.core.cte.pm = e.pm ∧
    (∀ k, Tab.get 0 t.core.cte.dm k = if k = w.x ∧ dmWritable w.x = true then v else Tab.get 0 e.dm k) ∧
    (∀ k, Tab.get 0 t.core.cte.out k = if k = w.x ∧ 592 ≤ w.x ∧ w.x < 624 then v else Tab.get 0 e.out k)
  let stores := fun (i : Instr) (lo : Int) => Ends i s fun t => puts (max lo (min 32767 r)) t ∧
    (lo ≤ r → r ≤ 32767 → noRegister s.core t.core) ∧
    (r < lo ∨ 32767 < r → t.core.rd F.CTE_SATCNT.COUNT = min (2 ^ F.CTE_SATCNT.COUNT.width - 1) (s.core.rd F.CTE_SATCNT.COUNT + 1) ∧
      fieldsOnly [F.CTE_SATCNT.COUNT] s.core t.core)
  pred (.cteCmplt w) (decide (a < e.rd w.x * 32768)) ∧ pred (.cteCmpge w) (decide (e.rd w.x * 32768 ≤ a)) ∧ pred (.cteTst w) (decide (e.rd w.x ≠ 0)) ∧
  stores (.cteSts w) (-32768) ∧ stores (.cteStu w) 0 ∧ (Ends (.cteMov w) s fun t => puts (e.rd w.y) t ∧ noRegister s.core t.core) ∧
  (Ends .cteNop s fun t => t = s) ∧ Ends .cteEnd s fun t => t = s

/-- An engine instruction whose predicate is false changes nothing; P0 always reads 1. -/
def Obligations.EnginePredicate : Prop :=
  (∀ (s : State) (w : CteW), cteGoes w s.core.cte = false → ∀ i ∈ [Instr.cteLda w, .cteMpy w, .cteMac w, .cteMsu w, .cteAdd w, .cteSub w,
    .cteAdda w, .cteSuba w, .cteShl w, .cteShr w, .cteClmp w, .cteCmplt w, .cteCmpge w, .cteTst w, .cteSts w, .cteStu w, .cteMov w],
    Ends i s fun t => t = s) ∧
  ∀ (e : CteSt) (w : CteW), w.pr = 0 → cteGoes w e = !w.neg

/-- The timed transitions of CNV: guard, next state, fault cause, and nothing outside CNV. -/
def Obligations.ConverterExpiries : Prop :=
  ∀ s : State, s.pwr.held = false →
  let c := s.core
  let moves := fun (i : Instr) (guard : Prop) (P : Core → Prop) =>
    (guard → Ends i s fun t => coreOnly s t ∧ blocksOnly [F.CNV_STAT.STATE.block] c t.core ∧ P t.core) ∧ (¬ guard → Ends i s fun t => t = s)
  let enters := fun (st fc : Nat) (d : Core) => d.cnvState = st ∧ d.rd F.CNV_STAT.FCAUSE = fc
  let stalled := c.cnvState = 2 ∧ max 1 (c.rd F.CNV_SS_STALLT.STALLT) * 500000 ≤ c.cnv.stall
  let again := c.rd F.CNV_STAT.RETRY < c.rd F.CNV_SS_RETRIES.RETRIES
  moves .onDelayExpire (c.cnvState = 1 ∧ c.rd F.CNV_ONOFF.TON * 500000 ≤ c.cnv.age ∧ c.block = 0) (enters 2 0) ∧
  moves .offDelayExpire (c.cnvState = 5 ∧ c.rd F.CNV_ONOFF.TOFF * 500000 ≤ c.cnv.age) (enters 6 0) ∧
  moves .softStartStall stalled (fun d => (again → enters 7 2 d) ∧ (¬ again → enters 7 3 d)) ∧
  moves .retryWaitExpire (c.cnvState = 7 ∧ c.rd F.CNV_STAT.FCAUSE = 2 ∧ c.rd F.CNV_SS_RETRYT.RETRYT * 500000 ≤ c.cnv.age ∧ c.on F.CNV_CTRL.ON = true ∧ c.block = 0) (enters 2 0) ∧
  moves .softStopDone (c.cnvState = 6 ∧ 10 ≤ c.cnv.done) (fun d => enters 0 0 d ∧ d.rd F.CNV_STAT.NACT = 0) ∧
  moves .softStopTimeout (c.cnvState = 6 ∧ c.stopLimit ≤ c.cnv.age) (fun d => enters 0 0 d ∧ d.rd F.CNV_STAT.NACT = 0 ∧ d.rd F.CNV_STAT.STOPTO = 1) ∧
  moves .phaseShed (c.cnvState = 3 ∧ c.on F.CNV_CTRL.SHEDEN = true ∧ max 1 (c.rd F.CNV_SHED_DWELL.DWELL) ≤ c.cnv.dwell ∧ c.cnv.step = false ∧ c.minPh < c.actPhases.length)
    (fun d => d.cnvState = 3 ∧ d.rd F.CNV_STAT.NACT = c.actPhases.length - 1) ∧
  moves .burstModeEnter (c.cnvState = 3 ∧ c.rd F.CNV_STAT.REFSRC = 0 ∧ c.prof = 3 ∧ c.on F.CNV_CTRL.BUREN = true ∧ max 1 (c.rd F.CNV_SHED_DWELL.DWELL) ≤ c.cnv.bdwell)
    (fun d => enters 4 0 d ∧ d.cnv.sleep = true ∧ d.cnv.legs = [])

/-- Program and parameter memory ports, LOAD, STD and the admission check. -/
def Obligations.EngineMemory : Prop :=
  ∀ (s : State) (v : Nat), s.pwr.held = false →
  let c := s.core
  let e := c.cte
  let joins := fun (f : Fld) (bits : Nat) (t : State) => t = { s with core := { c.moment with wait := c.wait ++ [⟨f, bits, .normal, c.pastCutOff, .f0⟩] } }
  let lands := fun (f : Fld) (bits : Nat) => commitTick { c with wait := [⟨f, bits, .normal, false, .f0⟩] }
  let counted := fun (d : Core) => d.rd F.GLB_ACCVIOL.COUNT = min 65535 (c.rd F.GLB_ACCVIOL.COUNT + 1) ∧ d.rd F.GLB_ACCVIOL.MASTER = 0 ∧ d.rd F.GLB_ACCVIOL.KIND = 0
  let viol := F.GLB_ACCVIOL.COUNT.block
  let pm := lands F.CTE_PMDATA.DATA v
  let dm := lands F.CTE_DMDATA.DATA v
  let a := c.rd F.CTE_PMADDR.ADDR
  let d := c.rd F.CTE_DMADDR.ADDR
  let within := fun (p : Option Prog) => ∃ q, p = some q ∧ q.base ≤ a ∧ a < q.base + q.len
  let r := admitOf false c
  let len := c.rd F.CTE_LOAD.LEN
  let base := c.rd F.CTE_LOAD.BASE
  (Ends .cteLoadBit s (joins F.CTE_CTRL.LOAD 1) ∧ fieldsOnly [F.CTE_CTRL.LOAD] c (lands F.CTE_CTRL.LOAD 1) ∧ (lands F.CTE_CTRL.LOAD 1).rd F.CTE_CTRL.LOAD = 1 ∧
    (lands F.CTE_CTRL.LOAD 1).cte = e) ∧
  (Ends .cteStd s (joins F.CTE_CTRL.STD 1) ∧ fieldsOnly [F.CTE_CTRL.STD] c (lands F.CTE_CTRL.STD 1) ∧ (lands F.CTE_CTRL.STD 1).rd F.CTE_CTRL.STD = 1 ∧
    (lands F.CTE_CTRL.STD 1).cte = e) ∧
  (Ends (.pmDataWrite v) s (joins F.CTE_PMDATA.DATA v) ∧ pm.rd F.CTE_PMADDR.ADDR = (a + 1) % 1024 ∧ blocksOnly [F.CTE_STAT.STG.block, viol] c pm ∧
    (within e.act → pm.rd F.CTE_STAT.PMWERR = 1 ∧ pm.cte = e ∧ counted pm) ∧
    (¬ within e.act → blocksOnly [F.CTE_STAT.STG.block] c pm ∧ pm.pmWord a = v % 2 ^ 32 ∧ (∀ b, b ≠ a → pm.pmWord b = c.pmWord b) ∧ pm.cte.dm = e.dm ∧
      pm.cte.act = e.act ∧ (within e.stg → pm.cte.stg = none ∧ pm.rd F.CTE_STAT.STG = 0) ∧ (¬ within e.stg → pm.cte.stg = e.stg))) ∧
  (Ends (.dmDataWrite v) s (joins F.CTE_DMDATA.DATA v) ∧ dm.rd F.CTE_DMADDR.ADDR = (d + 1) % 512 ∧ blocksOnly [F.CTE_STAT.STG.block, viol] c dm ∧
    (256 ≤ d → d < 384 → fieldsOnly [F.CTE_DMADDR.ADDR] c dm ∧ dm.cte.dm = e.dm ∧ ∀ b, Tab.get 0 dm.cte.shadow b = if b = d then toSigned 16 v else Tab.get 0 e.shadow b) ∧
    (d < 256 ∨ 384 ≤ d → dm.cte.shadow = e.shadow ∧ (e.act ≠ none → dm.cte = e ∧ counted dm) ∧
      (e.act = none → fieldsOnly [F.CTE_DMADDR.ADDR] c dm ∧ ∀ b, Tab.get 0 dm.cte.dm b = if b = d then toSigned 16 v else Tab.get 0 e.dm b))) ∧
  (Ends .dmDataRead s fun t => t = { s with core := { c with out := .read F.CTE_DMDATA.DATA.off (c.dmWord d) :: c.out } }) ∧
  (c.on F.CTE_CTRL.STD = false → c.on F.CTE_CTRL.LOAD = true → Ends .admissionCheck s fun t => coreOnly s t ∧
    blocksOnly [F.CTE_STAT.STG.block] c t.core ∧ t.core.rd F.CTE_CTRL.LOAD = 0 ∧ t.core.rd F.CTE_STAT.LERR = r.1 % 8 ∧ (r.1 ≠ 0 → t.core.cte = e) ∧
    (r.1 = 0 → t.core.rd F.CTE_STAT.STG = 1 ∧ t.core.cte = { e with stg := some ⟨base, len, r.2.2, (5 * (r.2.2 + 64) + 3) / 4, c.swapCond,
      c.on F.CTE_SWAP.KEEP, c.rd F.CTE_SWAP.BIND, false⟩ })) ∧
  (len = 0 ∨ 1024 < base + len → r.1 = 1) ∧
  (c.on F.CTE_CTRL.STD = false → c.on F.CTE_CTRL.LOAD = false → Ends .admissionCheck s fun t => t = s)

/-- Every trip latches its cause; the first one shows its code; the trip inputs by mode. -/
def Obligations.ProtectionTrips : Prop :=
  ∀ (s : State) (n k ch : Nat) (outs : List Int), s.up → n < 12 → k < 6 → ch < 2 →
  let c := s.core
  let latches := fun (f : Fld) (bit code : Nat) (t : State) => bitAt (t.core.rd f) bit = true ∧ t.core.rd F.PROT_STAT.TRIP ≠ 0 ∧
    (c.rd F.PROT_STAT.TRIP = 0 → t.core.rd F.PROT_FIRST.CODE = code)
  let stays := fun (t : State) => coreOnly s t ∧ blocksOnly [F.PROT_STAT.TRIP.block] c t.core
  let clear := fun (f : Fld) (bit : Nat) => bitAt (c.rd f) bit = false
  (n < 8 → c.tripMode n = 1 → clear F.PROT_TRIP0.TIN n → Ends (.tripInput n false) s fun t => stays t ∧ latches F.PROT_TRIP0.TIN n (n + 1) t) ∧
  (n < 8 → c.tripMode n = 0 → Ends (.tripInput n false) s fun t => coreOnly s t ∧ noRegister c t.core ∧ bitAt t.core.prot.low n = true) ∧
  (c.prot.vioA = false → ∀ i ∈ [Instr.tripInput n true, .cbcInput n true], Ends i s fun t => t = s) ∧
  (c.prot.vioA = true → c.tripMode n ≠ 2 → Ends (.tripInput n true) s fun t => coreOnly s t ∧ noRegister c t.core ∧ bitAt t.core.prot.low n = false) ∧
  (c.tripMode n = 2 → Ends (.tripInput n false) s fun t => t = s) ∧
  (c.tripMode n = 2 → Ends (.cbcInput n false) s fun t => coreOnly s t ∧ fieldsOnly [F.PROT_STAT.CBCACT] c t.core ∧
    t.core.prot.forced = Nat.lor c.prot.forced (c.rd (F.PROT_TRIP.PHMASK n)) ∧ t.core.rd F.PROT_STAT.CBCACT = t.core.prot.forced % 64) ∧
  (c.tripMode n ≠ 2 → Ends (.cbcInput n false) s fun t => t = s) ∧
  (Ends (.carrierPeak k) s fun t => coreOnly s t ∧ fieldsOnly [F.PROT_STAT.CBCACT, F.PROT_CBCCNT.COUNT k] c t.core ∧
    (bitAt c.prot.period k = true → t.core.rd (F.PROT_CBCCNT.COUNT k) = min 65535 (c.rd (F.PROT_CBCCNT.COUNT k) + 1)) ∧
    bitAt t.core.prot.forced k = c.cbcHolds k) ∧
  (max 1 (c.rd F.PROT_ICBC.NMAX) ≤ Tab.get 0 c.prot.rowF k → clear F.PROT_TRIP1.CBCP 0 → Ends (.cbcpTrip k) s fun t => stays t ∧ latches F.PROT_TRIP1.CBCP 0 57 t) ∧
  (Tab.get 0 c.prot.rowF k < max 1 (c.rd F.PROT_ICBC.NMAX) → Ends (.cbcpTrip k) s fun t => t = s) ∧
  (clear (if ch = 0 then F.PROT_TRIP1.SFA else F.PROT_TRIP1.SFB) 0 → Ends (.gateOffLine ch) s fun t => safOnly s t ∧
    t.saf = { s.saf with gate := Nat.lor s.saf.gate (2 ^ ch) } ∧ latches (if ch = 0 then F.PROT_TRIP1.SFA else F.PROT_TRIP1.SFB) 0 (58 + ch) t) ∧
  (c.on (F.SDM_CFG.EN n) = true → outs ≠ [] → fastCnt (c.rd F.PROT_FAST.CNT) ≤ Tab.get 0 c.prot.wCnt n + outs.length →
    (∀ x ∈ outs, c.rdS (F.PROT_WIN.HI n) < x ∨ x < c.rdS (F.PROT_WIN.LO n)) → clear F.PROT_TRIP0.WIN n →
    Ends (.windowTrip n outs) s fun t => stays t ∧ latches F.PROT_TRIP0.WIN n (16 + n) t) ∧
  (c.on (F.SDM_CFG.EN n) = false → Ends (.windowTrip n outs) s fun t => t = s) ∧
  (c.on (F.SDM_CFG.EN n) = true → clear F.PROT_TRIP1.LOSS n → Ends (.streamLoss n false) s fun t => coreOnly s t ∧
    bitAt (t.core.rd F.SDM_STAT.LOSS) n = true ∧ latches F.PROT_TRIP1.LOSS n (32 + n) t) ∧
  (clear F.PROT_TRIP1.CLK 0 → Ends (.clockLoss false) s fun t => stays t ∧ latches F.PROT_TRIP1.CLK 0 60 t) ∧
  (max 1 (c.rd F.PROT_IST.T) ≤ c.prot.occCnt → clear F.PROT_TRIP1.OCC 0 → Ends .overcurrentTrip s fun t => stays t ∧ latches F.PROT_TRIP1.OCC 0 54 t) ∧
  (c.prot.occCnt < max 1 (c.rd F.PROT_IST.T) → c.prot.ocdCnt < max 1 (c.rd F.PROT_IST.T) → Ends .overcurrentTrip s fun t => t = s)

/-- Cross-check windows, missing references and the clearing of trips. -/
def Obligations.ProtectionChecks : Prop :=
  ∀ (s : State) (bits : Nat), s.pwr.held = false →
  let c := s.core
  let d0 := commitTick { c with wait := [⟨causeWord 0, bits, .normal, false, .f0⟩] }
  let d1 := commitTick { c with wait := [⟨causeWord 1, bits, .normal, false, .f0⟩] }
  let found := c.prot.ended.find? (fun w => (c.xRef 0 w.count).isSome && (c.xRef 1 w.count).isSome)
  let stays := fun (t : State) => coreOnly s t ∧ blocksOnly [F.PROT_STAT.TRIP.block] c t.core
  (∀ w ra rb, found = some w → c.xRef 0 w.count = some ra → c.xRef 1 w.count = some rb → Ends .crossCheckEvaluate s fun t =>
    let out := c.xvOver w ra || c.xvOver w rb
    stays t ∧ t.core.prot.xvCnt = (if out then c.prot.xvCnt + 1 else 0) ∧ t.core.rd F.PROT_STAT.REFSTALE = 0 ∧ t.core.prot.miss = 0 ∧
    (out = true → 1 ≤ c.prot.xvCnt → bitAt (c.rd F.PROT_TRIP1.XV) 0 = false →
      bitAt (t.core.rd F.PROT_TRIP1.XV) 0 = true ∧ t.core.rd F.PROT_STAT.TRIP ≠ 0)) ∧
  (found = none → Ends .crossCheckEvaluate s fun t => t = s) ∧
  (10 ≤ c.prot.miss → c.rd F.PROT_STAT.REFSTALE = 0 → Ends .refstale s fun t => coreOnly s t ∧ fieldsOnly [F.PROT_STAT.REFSTALE] c t.core ∧
    t.core.rd F.PROT_STAT.REFSTALE = 1) ∧
  (c.prot.miss < 10 → Ends .refstale s fun t => t = s) ∧
  (∀ reg ∈ [0, 1], Ends (.tripClear reg bits) s fun t => t = { s with core := { c.moment with wait := c.wait ++ [⟨causeWord reg, bits, .normal, c.pastCutOff, .f0⟩] } }) ∧
  (blocksOnly [F.PROT_STAT.TRIP.block] c d0 ∧
    (∀ n, n < 8 → bitAt (d0.rd F.PROT_TRIP0.TIN) n = (bitAt (c.rd F.PROT_TRIP0.TIN) n && (!bitAt bits n || bitAt c.prot.low n))) ∧
    (∀ n, n < 8 → bitAt (c.rd F.PROT_TRIP0.TIN) n = true → bitAt bits n = true → bitAt c.prot.low n = true → d0.rd F.PROT_STAT.CLRREF = 1)) ∧
  (blocksOnly [F.PROT_STAT.TRIP.block] c d1 ∧
    bitAt (d1.rd F.PROT_TRIP1.CLK) 0 = (bitAt (c.rd F.PROT_TRIP1.CLK) 0 && (!bitAt bits 24 || c.prot.clkLost)))

/-- A register write: normal view and aliases, held fields, read-only fields, what is ignored and counted. -/
def Obligations.RegisterWrites : Prop :=
  ∀ (s : State) (m : Master) (v : Nat) (late : Bool), s.pwr.held = false → m ∈ [Master.f0, .super, .user] →
  let c := s.core
  let old := c.rd F.GLB_SCRATCH.DATA
  let w := v % 2 ^ 32
  let viol := [F.GLB_ACCVIOL.COUNT, F.GLB_ACCVIOL.MASTER, F.GLB_ACCVIOL.KIND, F.GLB_ACCVIOL_ADDR.OFFSET]
  let loads := fun (x : Nat) (t : State) => coreOnly s t ∧ fieldsOnly [F.GLB_SCRATCH.DATA] c t.core ∧ t.core.wait = c.wait ∧
    t.core.rd F.GLB_SCRATCH.DATA = x % 2 ^ 32
  let refused := fun (who kind off : Nat) (t : State) => coreOnly s t ∧ fieldsOnly viol c t.core ∧ t.core.wait = c.wait ∧
    t.core.rd F.GLB_ACCVIOL.COUNT = min 65535 (c.rd F.GLB_ACCVIOL.COUNT + 1) ∧ t.core.rd F.GLB_ACCVIOL.MASTER = who ∧
    t.core.rd F.GLB_ACCVIOL.KIND = kind ∧ t.core.rd F.GLB_ACCVIOL_ADDR.OFFSET = off
  let gives := fun (o : Nat) (op : Nat → Nat → Nat) (t : State) => coreOnly s t ∧ fieldsOnly ((regAt o).filter (fun f => f.writable .imm)) c t.core ∧
    t.core.wait = c.wait ∧ ∀ f ∈ regAt o, f.writable .imm = true → t.core.rd f = op (c.rd f) (bitsAt v f.lsb f.width) % 2 ^ f.width
  let holds := fun (k : Cls) (o : Nat) (how : WMode) (t : State) => t = { s with core := { c with
    wait := c.wait ++ ((regAt o).filter (fun f => f.writable k)).map (fun f => ⟨f, bitsAt v f.lsb f.width, how, late && inCtl o, m⟩) } }
  Ends (.registerWrite m 0x20 v 15 late) s (loads w) ∧
  Ends (.setAliasWrite m 0x1020 v 15 late) s (loads (Nat.lor old w)) ∧
  Ends (.clearAliasWrite m 0x2020 v 15 late) s (loads (clearBits old w)) ∧
  Ends (.toggleAliasWrite m 0x3020 v 15 late) s (loads (Nat.xor old w)) ∧
  (Ends (.registerWrite m 0x2c03c v 15 late) s fun t => t = { s with core := { c with wait := c.wait ++ [⟨F.CNV_ISET.ISET, w, .normal, late, m⟩] } }) ∧
  (Ends (.registerWrite m 0x0 v 15 late) s fun t => t = s) ∧
  (∀ be, be ≠ 15 → Ends (.registerWrite m 0x20 v be late) s (refused (masterCode m) 1 0x20)) ∧
  (c.slotOn 1 0 = false → Ends (.registerWrite .f1 0x20 v 15 late) s (refused 1 0 0x20)) ∧
  (bitsAt v 0 3 ≠ 0 → Ends (.registerWrite .user 0x30008 v 15 late) s (refused 5 0 0x30008)) ∧
  (privileged m = true → ∀ o,
    (plainReg .imm o = true →
      Ends (.registerWrite m o v 15 late) s (gives o fun _ x => x) ∧ Ends (.setAliasWrite m (o + 0x1000) v 15 late) s (gives o Nat.lor) ∧
      Ends (.clearAliasWrite m (o + 0x2000) v 15 late) s (gives o clearBits) ∧ Ends (.toggleAliasWrite m (o + 0x3000) v 15 late) s (gives o Nat.xor)) ∧
    (∀ k ∈ [Cls.tick, .frame, .epoch], plainReg k o = true →
      Ends (.registerWrite m o v 15 late) s (holds k o .normal) ∧ Ends (.setAliasWrite m (o + 0x1000) v 15 late) s (holds k o .set) ∧
      Ends (.clearAliasWrite m (o + 0x2000) v 15 late) s (holds k o .clear) ∧ Ends (.toggleAliasWrite m (o + 0x3000) v 15 late) s (holds k o .toggle)))

/-- A posted write goes on its way with BUSY, is dropped with WDROP behind another, and commits. -/
def Obligations.PostedWrites : Prop :=
  ∀ (s : State) (v : Nat), s.pwr.held = false →
  let c := s.core
  let post := Instr.postedWrite .f0 .normal 0x18004 v 15
  (c.rd F.CHN_XSTAT.BUSY = 0 → Ends post s fun t => coreOnly s t ∧ fieldsOnly [F.CHN_XSTAT.BUSY] c t.core ∧ t.core.rd F.CHN_XSTAT.BUSY = 1 ∧
    t.core.wait = c.wait ++ [⟨F.CHN_CFG.NNODE_EXP, bitsAt v 0 6, .normal, false, .f0⟩, ⟨F.CHN_CFG.DLY_PERIOD, bitsAt v 16 16, .normal, false, .f0⟩]) ∧
  (c.rd F.CHN_XSTAT.BUSY ≠ 0 → Ends post s fun t => coreOnly s t ∧ fieldsOnly [F.CHN_XSTAT.WDROP] c t.core ∧ t.core.rd F.CHN_XSTAT.WDROP = 1 ∧
    t.core.wait = c.wait) ∧
  (∀ bits, c.rd F.CHN_XSTAT.BUSY ≠ 0 → c.wait.filter (fun w => w.fld.off / 16384 == 6) = [⟨F.CHN_CFG.DLY_PERIOD, bits, .normal, false, .f0⟩] →
    EndsThen (.postedWriteCommit 6) s fun u => coreOnly s u ∧ fieldsOnly [F.CHN_XSTAT.BUSY, F.CHN_CFG.DLY_PERIOD] c u.core ∧
      u.core.rd F.CHN_XSTAT.BUSY = 0 ∧ u.core.rd F.CHN_CFG.DLY_PERIOD = bits % 65536 ∧ u.core.wait = c.wait.filter (fun w => !(w.fld.off / 16384 == 6))) ∧
  (∀ b, c.rd (xstat b).1 = 0 → EndsThen (.postedWriteCommit b) s fun u => u = s) ∧
  Ends (.postedWrite .f0 .normal 0x20 v 15) s fun t => t = s

/-- Enumeration: request, run, result, retry; a restarted node. -/
def Obligations.ChainEnumeration : Prop :=
  ∀ (s : State) (found : EnumFound) (hop serial : Nat) (d : NodeDesc), s.pwr.held = false →
  let c := s.core
  (EndsThen .enumReq s fun u => coreOnly s u ∧ (c.chn.run = none → u.core.rd F.CHN_CTRL.ENUM = 1 ∧ u.core.chn = c.chn) ∧
    (c.chn.run ≠ none → u.core.rd F.CHN_CTRL.ENUM = c.rd F.CHN_CTRL.ENUM ∧ u.core.chn = { c.chn with again := true }) ∧
    (c.impState = 2 ∨ c.impState = 3 ∨ c.impState = 4 → u.core.rd F.IMP_STAT.ABCAUSE = 6)) ∧
  (c.on F.CHN_CTRL.ENUM = true → c.chn.run = none → c.tick.running = true → EndsThen (.enumeration found) s fun u => coreOnly s u ∧
    blocksOnly [F.IMP_STAT.STATE.block, F.EST_STAT.EOD.block, F.SHF_STAT.SLOT.block] c u.core ∧ u.core.chn.run = some found ∧ u.core.chn.synced = false ∧
    u.core.chn.total = c.chn.total ∧ u.core.expected = min 40 (c.rd F.CHN_CFG.NNODE_EXP) ∧ (∀ j, (u.core.node j).got = false) ∧
    (c.impState = 2 ∨ c.impState = 3 ∨ c.impState = 4 → u.core.rd F.IMP_STAT.ABCAUSE = 6)) ∧
  (c.on F.CHN_CTRL.ENUM = false ∨ c.chn.run ≠ none ∨ c.tick.running = false → EndsThen (.enumeration found) s fun u => u = s) ∧
  (c.chn.run = some found → Ends .enumerationComplete s fun t => coreOnly s t ∧
    t.core.rd F.CHN_STAT.NNODE = (found.fromA.length + found.fromB.length) % 64 ∧ t.core.rd F.CHN_STAT.CLOSED = b2n found.closed ∧
    t.core.rd F.CHN_STAT.ENUMERR = enumErr found c.expected ∧ t.core.rd F.CHN_STAT.ENUMCNT = (c.rd F.CHN_STAT.ENUMCNT + 1) % 256 ∧
    t.core.rd F.CHN_CTRL.ENUM = b2n c.chn.again ∧ t.core.chn.run = none ∧
    (enumErr found c.expected = 0 → t.core.rd F.CHN_STAT.ENUMDONE = 1 ∧ t.core.chn.total = (ringOf found c.expected).length) ∧
    (enumErr found c.expected ≠ 0 → t.core.rd F.CHN_STAT.ENUMDONE = 0 ∧ t.core.chn.retry = true ∧ t.core.chn.total = c.chn.total)) ∧
  (c.chn.run = none → Ends .enumerationComplete s fun t => t = s) ∧
  (c.chn.retry = true → c.chn.run = none → Ends .enumRetry s fun t => coreOnly s t ∧ t.core.rd F.CHN_CTRL.ENUM = 1 ∧ t.core.chn = { c.chn with retry := false } ∧
    (c.impState = 2 ∨ c.impState = 3 ∨ c.impState = 4 → t.core.rd F.IMP_STAT.ABCAUSE = 6)) ∧
  (c.chn.retry = false → Ends .enumRetry s fun t => t = s) ∧
  (hop < c.chn.total → c.on F.CHN_STAT.ENUMDONE = true → c.on F.CHN_STAT.RINGREV = false → Ends (.helloReceived 0 ⟨hop, serial⟩) s fun t => coreOnly s t ∧
    (t.core.node hop).hello = true ∧ (t.core.node hop).joins = true ∧ (t.core.node hop).got = false ∧ (∀ i, i ≠ hop → t.core.node i = c.node i) ∧ blocksOnly [F.IMP_STAT.STATE.block] c t.core) ∧
  (c.chn.total ≤ hop → Ends (.helloReceived 0 ⟨hop, serial⟩) s fun t => t = s) ∧
  (hop < 40 → (c.node hop).hello = true → c.background = true → d.bad < 3 → Ends (.nodeReaddress hop d) s fun t => coreOnly s t ∧ (t.core.node hop).hello = false ∧
    t.core.rd (F.CHN_NSER_LO.SER hop) = d.serial % 2 ^ 32 ∧ t.core.rd (F.CHN_NINFO.REACH hop) = 1 ∧ t.core.rd (F.CHN_NINFO.VER hop) = c.version d.vmax % 4 ∧
    t.core.rd (F.CHN_NDLY.DA hop) = pathDelay d.ra d.turn % 65536 ∧ t.core.rd (F.CHN_NDLY.DB hop) = pathDelay d.rb d.turn % 65536) ∧
  ((c.node hop).hello = false ∨ c.background = false → Ends (.nodeReaddress hop d) s fun t => t = s)

/-- Delay measurement, samples, results, retries, the end of a readout. -/
def Obligations.ChainReadout : Prop :=
  ∀ (s : State) (trips : List EchoBack) (cur : Int) (port typ j set serial : Nat) (r : ResultSet), s.pwr.held = false → port < 2 →
  let c := s.core
  let k := c.chn
  let ds := (upTo (min trips.length k.total)).map (fun i => (pathDelay (trips.getD i {}).ra (c.node i).turn, pathDelay (trips.getD i {}).rb (c.node i).turn))
  let back := fun (i : Nat) => i < k.total ∧ ((trips.getD i {}).ra ≠ 0 ∨ (trips.getD i {}).rb ≠ 0)
  let want := if (c.node j).asked = 0 then 1 - c.homePort j else c.homePort j
  let stored := typ = 1 ∧ j < k.total ∧ c.reading = true ∧ (c.node j).joins = false ∧ set < c.setsM
  let asks := c.reading = true ∧ c.sweepsOver = true ∧ j < k.total ∧ (c.node j).got = false ∧ (c.node j).asked < 2 ∧ port = want
  let done := k.synced = true ∧ k.rodone = false ∧ ∀ i < k.total, (c.node i).got = true
  let samples := k.synced = true ∧ c.meas.latches.length < c.meas.n ∧ c.tick.pos = 40 + c.meas.latches.length * c.meas.s
  let far := fun (i : Nat) => (c.rd (F.CHN_NDLY.DA i) ≠ 0 ∨ c.rd (F.CHN_NDLY.DB i) ≠ 0) ∧ (20 < absI (((ds.getD i (0, 0)).1 : Int) - c.rd (F.CHN_NDLY.DA i)) ∨ 20 < absI (((ds.getD i (0, 0)).2 : Int) - c.rd (F.CHN_NDLY.DB i)))
  (Ends .dlygo s fun t => coreOnly s t ∧ fieldsOnly [F.CHN_CTRL.DLYGO] c t.core ∧ t.core.rd F.CHN_CTRL.DLYGO = 1 ∧ t.core.chn = { k with dlyRun := true, dlyCnt := 0 }) ∧
  (0 < c.rd F.CHN_CFG.DLY_PERIOD → c.rd F.CHN_CFG.DLY_PERIOD ≤ k.dlyCnt → Ends .delayRemeasureDue s fun t => coreOnly s t ∧ noRegister c t.core ∧
    t.core.chn = { k with dlyRun := true, dlyCnt := 0 }) ∧
  (c.rd F.CHN_CFG.DLY_PERIOD = 0 ∨ k.dlyCnt < c.rd F.CHN_CFG.DLY_PERIOD → Ends .delayRemeasureDue s fun t => t = s) ∧
  (k.dlyRun = true → c.behindBurst = true → trips.length ≤ 40 → Ends (.delayMeasureComplete trips) s fun t => coreOnly s t ∧
    ((∀ i < trips.length, back i → c.rd (F.CHN_NINFO.REACH i) ≠ 0) → fieldsOnly [F.CHN_CTRL.DLYGO, F.CHN_STAT.DLYCHG] c t.core) ∧
    (∀ i < trips.length, back i → (t.core.node i).response = true ∧ t.core.rd (F.CHN_NINFO.REACH i) ≠ 0) ∧
    t.core.rd F.CHN_CTRL.DLYGO = 0 ∧ t.core.chn.dlyRun = false ∧ t.core.chn.dlyNew = ds ∧
    (∀ i, i < ds.length → far i → t.core.rd F.CHN_STAT.DLYCHG = 1) ∧
    ((∀ i, i < ds.length → ¬ far i) → t.core.rd F.CHN_STAT.DLYCHG = c.rd F.CHN_STAT.DLYCHG)) ∧
  (k.dlyRun = false ∨ c.behindBurst = false → Ends (.delayMeasureComplete trips) s fun t => t = s) ∧
  (samples → Ends (.nodeSample cur) s fun t => coreOnly s t ∧ noRegister c t.core ∧ t.core.chn = k ∧
    t.core.meas = { c.meas with latches := c.meas.latches ++ [c.latched cur] } ∧ (c.primaryRuns = true → c.latched cur = cur)) ∧
  (¬ samples → Ends (.nodeSample cur) s fun t => t = s) ∧
  (Ends (.resultReceived port false j set r ⟨typ, serial⟩) s fun t => coreOnly s t ∧ fieldsOnly [crcCnt port] c t.core ∧
    t.core.rd (crcCnt port) = min 65535 (c.rd (crcCnt port) + 1) ∧ t.core.chn = k) ∧
  (j < 40 → stored → Ends (.resultReceived port true j set r ⟨typ, serial⟩) s fun t => coreOnly s t ∧
    (t.core.node j).result = true ∧ (t.core.node j).response = true ∧ Tab.get ⟨[], [], 0⟩ (t.core.node j).sets set = r ∧
    (∀ i, i ≠ j → t.core.node i = c.node i) ∧ t.core.rd (F.CHN_NINFO.MISS j) = 0 ∧ t.core.rd (F.CHN_NINFO.REACH j) ≠ 0) ∧
  (¬ stored → Ends (.resultReceived port true j set r ⟨typ, serial⟩) s fun t => t = s) ∧
  (asks → Ends (.readRetry j port) s fun t => coreOnly s t ∧ fieldsOnly [retryCnt port] c t.core ∧
    t.core.rd (retryCnt port) = min 65535 (c.rd (retryCnt port) + 1) ∧ t.core.node j = { c.node j with asked := (c.node j).asked + 1 } ∧
    ∀ i, i ≠ j → t.core.node i = c.node i) ∧
  (¬ asks → Ends (.readRetry j port) s fun t => t = s) ∧
  (done → Ends .readoutComplete s fun t => coreOnly s t ∧ noRegister c t.core ∧ t.core.chn = { k with rodone := true }) ∧
  (¬ done → Ends .readoutComplete s fun t => t = s) ∧
  (k.deadline = false → c.pastDeadline = true → Ends .readoutDeadline s fun t => coreOnly s t ∧ noRegister c t.core ∧ t.core.chn.deadline = true ∧
    ∀ i, t.core.node i = if i < k.total ∧ k.synced = true ∧ (c.node i).got = false then { c.node i with notRead := true } else c.node i) ∧
  (k.deadline = true ∨ c.pastDeadline = false → Ends .readoutDeadline s fun t => t = s)

/-- Unreachable nodes, faults, breaks, closure, and the tone of the two ports. -/
def Obligations.ChainFaults : Prop :=
  ∀ (s : State) (j cause a b p : Nat), s.pwr.held = false → j < 40 → p < 2 →
  let c := s.core
  (c.rd (F.CHN_NINFO.REACH j) ≠ 0 → 3 ≤ (c.node j).quiet → Ends (.nodeUnreachable j) s fun t => coreOnly s t ∧ t.core.rd (F.CHN_NINFO.REACH j) = 0 ∧
    t.core.chn = c.chn) ∧
  (c.rd (F.CHN_NINFO.REACH j) = 0 ∨ (c.node j).quiet < 3 → Ends (.nodeUnreachable j) s fun t => t = s) ∧
  (Ends (.nodeFault j cause) s fun t => coreOnly s t ∧ noRegister c t.core ∧ t.core.node j = { c.node j with fault := cause } ∧
    ∀ i, i ≠ j → t.core.node i = c.node i) ∧
  (Ends (.linkBreak j) s fun t => coreOnly s t ∧ fieldsOnly [F.CHN_STAT.CLOSED] c t.core ∧ t.core.rd F.CHN_STAT.CLOSED = 0 ∧
    t.core.chn = { c.chn with cut := some j }) ∧
  (Ends (.breakLocated a b) s fun t => coreOnly s t ∧ fieldsOnly [F.CHN_BRK.LASTA, F.CHN_BRK.FIRSTB, F.CHN_BRK.BROKEN] c t.core ∧
    t.core.rd F.CHN_BRK.LASTA = a % 64 ∧ t.core.rd F.CHN_BRK.FIRSTB = b % 64 ∧ t.core.rd F.CHN_BRK.BROKEN = 1 ∧ t.core.chn = { c.chn with plan := some (a, b), closure := false }) ∧
  (Ends .ringClosure s fun t => coreOnly s t ∧ fieldsOnly [F.CHN_STAT.CLOSED, F.CHN_BRK.BROKEN] c t.core ∧ t.core.rd F.CHN_STAT.CLOSED = 1 ∧
    t.core.rd F.CHN_BRK.BROKEN = 0 ∧ t.core.chn = { c.chn with cut := none, plan := none, closure := true }) ∧
  (s.line.tone p = true → Ends (.toneLoss p) s fun t => t = { s with line := s.line.setTone p false, saf := t.saf, core := t.core } ∧
    t.saf = { s.saf with tone1 := t.saf.tone1 } ∧ t.line.tone (1 - p) = s.line.tone (1 - p) ∧
    fieldsOnly [toneFld p, lossFld p, F.CHN_TONE.LOSSCNT, F.SAFM_STAT.TONE1] c t.core ∧ t.core.rd (toneFld p) = 0 ∧ t.core.rd (lossFld p) = 1 ∧
    t.core.rd F.CHN_TONE.LOSSCNT = min 65535 (c.rd F.CHN_TONE.LOSSCNT + 1) ∧
    (s.pwr.vin ≠ .off → t.saf.tone1 = (s.saf.tone1 || s.line.seen && s.line.tone (1 - p)) ∧
      (s.line.seen = true → s.line.tone (1 - p) = true → t.core.rd F.SAFM_STAT.TONE1 = 1))) ∧
  (s.line.tone p = false → Ends (.toneLoss p) s fun t => t = s) ∧
  (Ends (.toneRestore p) s fun t => t = { s with line := t.line, saf := t.saf, core := t.core } ∧ t.saf = { s.saf with tone1 := t.saf.tone1 } ∧
    t.line.tone p = true ∧ t.line.tone (1 - p) = s.line.tone (1 - p) ∧ fieldsOnly [toneFld p, F.SAFM_STAT.TONE1] c t.core ∧ t.core.rd (toneFld p) = 1 ∧
    (s.pwr.vin ≠ .off → t.saf.tone1 = (s.saf.tone1 || s.line.seen && !s.line.tone p && !s.line.tone (1 - p))))

/-- Frame record, bleed schedule, node diagnostics, measurement window, cooling messages. -/
def Obligations.FrameRecordCommands : Prop :=
  ∀ (s : State) (j set wires fault serial : Nat) (temp : Int) (acks : List NodeAck), s.pwr.held = false → j < 40 → set < 8 →
  let c := s.core
  let duty := dutyNext (c.rd F.BAL_NODE.THALF) (c.rd F.BAL_NODE.TSTOP) (c.rd F.BAL_NODE.TRESUME) (c.node j).duty temp
  let late := if c.on (F.CHN_NINFO.REACH j) = true then [] else [F.CHN_STAT.NNODE.block, F.EST_STAT.EOD.block, F.SHF_STAT.SLOT.block]
  let ok := decide (j < c.meas.last.nodes ∧ set < c.meas.last.c)
  (c.tick.running = true → c.standby = false → c.chn.published = false → c.chn.rodone = true ∨ c.pastDeadline = true → Ends .frameRecordPublish s fun t => nvOnly s t ∧ t.core.chn.published = true ∧
    t.core.meas.last.fnum = c.rd F.TICK_FNUM.FNUM ∧ t.core.meas.last.nodes = c.chn.total) ∧
  (c.tick.running = false ∨ c.standby = true ∨ c.chn.published = true ∨ c.chn.rodone = false ∧ c.pastDeadline = false → Ends .frameRecordPublish s fun t => t = s) ∧
  (c.bal.schedMade = true → c.pastDeadline = true → c.owPending = false → (∀ a ∈ acks, a.node < 40) → Ends (.bleedScheduleSend acks) s fun t => coreOnly s t ∧
    ((∀ a ∈ acks, a.node < c.chn.total → c.rd (F.CHN_NINFO.REACH a.node) ≠ 0) → noRegister c t.core) ∧ t.core.bal.schedMade = false ∧
    ∀ a ∈ acks, a.node < c.chn.total → (t.core.node a.node).response = true ∧ t.core.rd (F.CHN_NINFO.REACH a.node) ≠ 0 ∧ Tab.get (0, []) t.core.bal.hold a.node = (c.bal.schedFor, (upTo 16).map (fun ch => Tab.get 0 c.bal.sched (slotKey a.node ch)))) ∧
  (c.bal.schedMade = false ∨ c.pastDeadline = false ∨ c.owPending = true → Ends (.bleedScheduleSend acks) s fun t => t = s) ∧
  (c.meas.ow = true → (c.node j).got = true → (c.node j).owRead = false → c.pastDeadline = true → Ends (.openWireDiagRead j ⟨wires, serial⟩) s fun t => coreOnly s t ∧
    blocksOnly (F.MEAS_STAT.OWSEEN.block :: late) c t.core ∧ (t.core.node j).response = true ∧ ((c.node j).owDone = true → (t.core.node j).owRead = true) ∧
    ((c.node j).owDone = false → t.core.meas = { c.meas with owRepeat := true } ∧ blocksOnly late c t.core)) ∧
  (c.meas.ow = false ∨ c.pastDeadline = false → Ends (.openWireDiagRead j ⟨wires, serial⟩) s fun t => t = s) ∧
  (c.diagMay = true → Ends (.nodeDiagRead j temp ⟨fault, serial⟩) s fun t => coreOnly s t ∧ (t.core.node j).duty = duty ∧ (t.core.node j).response = true ∧
    (c.on (F.CHN_NINFO.REACH j) = true → fieldsOnly [F.CHN_NINFO.FAULT j, F.BAL_STAT.NODEHOT] c t.core) ∧ blocksOnly (F.BAL_STAT.NODEHOT.block :: F.CHN_STAT.NNODE.block :: late) c t.core ∧
    t.core.rd (F.CHN_NINFO.FAULT j) = b2n (fault != 0) ∧
    (duty = 2 → (c.node j).duty ≠ 2 → t.core.rd F.BAL_STAT.NODEHOT = 1)) ∧
  (c.diagMay = false → Ends (.nodeDiagRead j temp ⟨fault, serial⟩) s fun t => t = s) ∧
  (Ends (.measWindowSelect j set) s fun t => coreOnly s t ∧ blocksOnly [F.MEAS_WSEL.NODE.block] c t.core ∧ t.core.rd F.MEAS_WSEL.NODE = j ∧
    t.core.rd F.MEAS_WSEL.SET = set ∧ t.core.rd F.MEAS_WSEL.WVALID = b2n ok ∧ t.core.meas = c.meas) ∧
  (c.rd F.BAL_COOL_CAN.EN ≠ 0 → Ends .coolingMessage s fun t => coreOnly s t ∧ t.core.rd F.BAL_COOL.SEQ = (c.rd F.BAL_COOL.SEQ + 1) % 256 ∧
    t.core.bal = { c.bal with sentDemand := c.rd F.BAL_COOL.DEMAND, sentHeat := c.on F.BAL_COOL.HEAT, msgDue := false }) ∧
  (c.rd F.BAL_COOL_CAN.EN = 0 → Ends .coolingMessage s fun t => t = s) ∧
  (c.rd F.BAL_COOL_CFG2.TIMEOUT ≠ 0 → Ends .coolingUnitLost s fun t => coreOnly s t ∧ fieldsOnly [F.BAL_STAT.COOLLOST] c t.core ∧
    t.core.rd F.BAL_STAT.COOLLOST = 1) ∧
  (c.rd F.BAL_COOL_CFG2.TIMEOUT = 0 → Ends .coolingUnitLost s fun t => t = s)

/-- An impedance burst: due, requested, set up, sampled, read out, abandoned. -/
def Obligations.BurstLife : Prop :=
  ∀ (s : State) (acks : List NodeAck) (missed : List Nat) (cur : Int), s.pwr.held = false →
  let c := s.core
  let st := c.impState
  let runs := 0 < profImp c.prof ∧ c.standby = false
  let timed := c.on F.IMP_CTRL.EN = true ∧ runs ∧ profImp c.prof ≤ c.imp.since ∧ c.imp.used = false
  let imp := [F.IMP_STAT.STATE.block]
  let inTick := c.tbTick = c.imp.t0 + c.imp.cur.length * c.imp.own.space
  (timed → Ends .burstDue s fun t => coreOnly s t ∧ blocksOnly imp c t.core ∧
    (c.imp.due = true → noRegister c t.core ∧ t.core.imp = { c.imp with used := true }) ∧
    (c.imp.due = false → t.core.imp = { c.imp with due := true, used := true, defRaised := false } ∧ (st = 0 → t.core.rd F.IMP_STAT.STATE = 1))) ∧
  (¬ timed → Ends .burstDue s fun t => t = s) ∧
  (¬ runs → Ends .impGo s fun t => coreOnly s t ∧ fieldsOnly [F.IMP_CTRL.GO] c t.core ∧ t.core.rd F.IMP_CTRL.GO = 0 ∧ t.core.imp = c.imp) ∧
  (runs → Ends .impGo s fun t => coreOnly s t ∧ blocksOnly imp c t.core ∧ t.core.rd F.IMP_CTRL.GO = 1 ∧
    (st = 0 → t.core.imp.due = true ∧ t.core.rd F.IMP_STAT.STATE = 1) ∧ (st ≠ 0 → t.core.imp = c.imp ∧ t.core.rd F.IMP_STAT.GOPEND = 1)) ∧
  (st = 2 ∨ st = 3 ∨ st = 4 → Ends .impAbort s fun t => coreOnly s t ∧ fieldsOnly [F.IMP_STAT.STATE, F.IMP_STAT.ABCAUSE, F.IMP_CNT.ABORTED] c t.core ∧
    t.core.rd F.IMP_STAT.STATE = b2n c.imp.due ∧ t.core.rd F.IMP_STAT.ABCAUSE = 5 ∧
    t.core.rd F.IMP_CNT.ABORTED = min 65535 (c.rd F.IMP_CNT.ABORTED + 1) ∧ t.core.imp.pert = false ∧ t.core.imp.cur = [] ∧ t.core.imp.buf = []) ∧
  (st ≠ 2 → st ≠ 3 → st ≠ 4 → Ends .impAbort s fun t => t = s) ∧
  (st = 2 → (∀ a ∈ acks, a.node < 40) → Ends (.burstSetup acks) s fun t => coreOnly s t ∧ t.core.imp = { c.imp with acked := acks.map NodeAck.node } ∧
    ((∀ a ∈ acks, a.node < c.chn.total → c.rd (F.CHN_NINFO.REACH a.node) ≠ 0) → noRegister c t.core) ∧
    ∀ a ∈ acks, a.node < c.chn.total → (t.core.node a.node).response = true ∧ t.core.rd (F.CHN_NINFO.REACH a.node) ≠ 0) ∧
  (st ≠ 2 → Ends (.burstSetup acks) s fun t => t = s) ∧
  (st = 3 → inTick → c.imp.cur ≠ [] ∨ missed = [] → c.imp.cur.length < 2047 → Ends (.burstSample cur missed) s fun t => coreOnly s t ∧ noRegister c t.core ∧
    t.core.imp = { c.imp with cur := c.latched cur :: c.imp.cur } ∧ (c.primaryRuns = true → c.latched cur = cur)) ∧
  (st = 3 → inTick → c.imp.cur.length = 2047 → Ends (.burstSample cur missed) s fun t => coreOnly s t ∧ fieldsOnly [F.IMP_STAT.STATE] c t.core ∧
    t.core.rd F.IMP_STAT.STATE = 4 ∧ t.core.imp = { c.imp with cur := c.latched cur :: c.imp.cur, pert := false, since := 0, used := false }) ∧
  (st = 3 → inTick → c.imp.cur = [] → missed ≠ [] → Ends (.burstSample cur missed) s fun t => coreOnly s t ∧ t.core.rd F.IMP_STAT.ABCAUSE = 2 ∧ t.core.imp.cur = []) ∧
  (st ≠ 3 ∨ ¬ inTick → Ends (.burstSample cur missed) s fun t => t = s) ∧
  (st = 4 → 20 * c.period ≤ c.imp.since → c.behindBleed = true → Ends .burstReadoutStart s fun t => coreOnly s t ∧ noRegister c t.core ∧
    t.core.imp = c.imp ∧ (c.on F.RED_CFG.PAIR = false → t.core.chn.seq % 8 = (c.chn.seq + c.chn.total) % 8)) ∧
  (st ≠ 4 ∨ c.imp.since < 20 * c.period ∨ c.behindBleed = false → Ends .burstReadoutStart s fun t => t = s)

/-- Burst packets, publication, the end of a temperature, the result window. -/
def Obligations.BurstResults : Prop :=
  ∀ (s : State) (port node ch serial pos : Nat) (xs : List Nat), s.pwr.held = false → port < 2 →
  let c := s.core
  let st := c.impState
  let k := slotKey node ch
  let asked := Tab.get 0 c.imp.asks k
  let via := if asked = 0 then 1 - c.homePort node else c.homePort node
  let ours := st = 4 ∧ 20 * c.period ≤ c.imp.since ∧ c.behindBleed = true ∧ node < c.chn.total
  let taken := 3 * xs.length ≤ c.maxPayload node + 2
  let spent := fun (d : Core) => ∀ i ∈ d.slots, (Tab.get [] d.imp.buf i).length = 2048 ∨ Tab.get 0 d.imp.asks i = 3
  (Ends (.burstPacketReceived port false node ch ⟨xs, serial⟩) s fun t => coreOnly s t ∧ t.core.rd (crcCnt port) = min 65535 (c.rd (crcCnt port) + 1) ∧
    t.core.imp.buf = c.imp.buf ∧ t.core.chn.rt = c.chn.rt ∧
    (¬ ours → fieldsOnly [crcCnt port] c t.core ∧ t.core.imp = c.imp) ∧
    (ours → asked < 2 → fieldsOnly [crcCnt port, retryCnt via] c t.core ∧ t.core.rd (retryCnt via) = min 65535 (c.rd (retryCnt via) + 1) ∧
      t.core.imp = { c.imp with asks := Tab.put 0 c.imp.asks k (asked + 1) }) ∧
    (ours → 2 ≤ asked → fieldsOnly [crcCnt port, F.IMP_STAT.STATE] c t.core ∧ Tab.get 0 t.core.imp.asks k = 3 ∧ (t.core.impState = 5 ↔ spent t.core))) ∧
  (ours → node < 40 → taken → Ends (.burstPacketReceived port true node ch ⟨xs, serial⟩) s fun t => coreOnly s t ∧
    Tab.get [] t.core.imp.buf k = (Tab.get [] c.imp.buf k ++ xs).take 2048 ∧ (asked ≠ 3 → Tab.get 0 t.core.imp.asks k = 0) ∧
    (∀ i, i ≠ k → Tab.get [] t.core.imp.buf i = Tab.get [] c.imp.buf i ∧ Tab.get 0 t.core.imp.asks i = Tab.get 0 c.imp.asks i) ∧
    (t.core.impState = 5 ↔ spent t.core) ∧ (t.core.node node).response = true ∧ t.core.rd (F.CHN_NINFO.REACH node) ≠ 0 ∧
    (∀ i, i ≠ node → t.core.node i = c.node i) ∧
    (c.rd (F.CHN_NINFO.REACH node) ≠ 0 → fieldsOnly [F.IMP_STAT.STATE] c t.core)) ∧
  (¬ ours ∨ ¬ taken → Ends (.burstPacketReceived port true node ch ⟨xs, serial⟩) s fun t => t = s) ∧
  (st = 5 → (∀ b ∈ c.hif.bind, b.2 < 64) → Ends .burstPublish s fun t => nvOnly s t ∧ t.core.rd F.IMP_BNUM.BNUM = c.imp.bnum % 2 ^ 32 ∧
    t.core.rd F.IMP_CNT.DONE = min 65535 (c.rd F.IMP_CNT.DONE + 1) ∧ (c.rd F.IMP_STAT.GOPEND = 0 → t.core.impState = b2n c.imp.due) ∧
    (c.rd F.IMP_STAT.GOPEND ≠ 0 → t.core.impState = 1 ∧ t.core.imp.due = true) ∧ t.core.imp.pubStart = c.imp.startF ∧ t.core.imp.pubBins = c.imp.own.bins ∧
    t.core.imp.pubSpace = c.imp.own.space ∧ t.core.imp.tvAge = 0 ∧ 43 ∈ t.core.irq.cross) ∧
  (st ≠ 5 → Ends .burstPublish s fun t => t = s) ∧
  (2 * profImp c.prof ≤ c.imp.tvAge → Ends .timpExpire s fun t => coreOnly s t ∧ noRegister c t.core ∧ ∀ k, (Tab.get {} t.core.imp.res k).timp = none) ∧
  (c.imp.tvAge < 2 * profImp c.prof → Ends .timpExpire s fun t => t = s) ∧
  (Ends (.impResultSelect pos) s fun t => coreOnly s t ∧ blocksOnly [F.IMP_STAT.STATE.block] c t.core ∧ t.core.rd F.IMP_RSEL.POS = pos % 1024 ∧
    t.core.imp = c.imp ∧ (c.slots.length ≤ pos → t.core.rd F.IMP_RT.RVALID = 0 ∧ t.core.rd F.IMP_RQ.QOK = 0) ∧
    (pos < c.slots.length → t.core.rd F.IMP_RT.RVALID = b2n (Tab.get {} c.imp.res (c.slots.getD pos 0)).rvalid ∧ t.core.rd F.IMP_RQ.QOK = c.imp.qok % 256))

/-- Rest slots, gleaning cycles and NOREST. -/
def Obligations.EstimationRequests : Prop :=
  ∀ s : State, s.pwr.held = false →
  let c := s.core
  let gl := c.rd F.EST_GLN_CTRL.STATE
  let rs := c.rd F.EST_REST_CTRL.STATE
  let frame := fun (t : State) => coreOnly s t ∧ blocksOnly [F.EST_STAT.EOD.block, F.SHF_STAT.SLOT.block] c t.core
  let asks := fun (kind : Nat) (t : State) => c.rd F.SHF_STAT.SLOT ≠ 3 → t.core.rd F.SHF_STAT.SLOT = 1 ∧ t.core.rd F.SHF_STAT.SKIND = kind
  let takes := fun (k : Nat) => (c.acc k).slotOk = true ∧ 0 < (c.acc k).midN ∧ 0 < (c.acc k).endN ∧ (c.ctx k).firstpend = false
  let anchored := c.est.slotCur = false ∧ c.est.ocv ≠ none ∧ ∃ k ∈ c.slots, takes k
  let free := c.on F.EST_REST_CTRL.REQ = false ∧ c.on F.EST_GLN_CTRL.REQ = false
  (gl ≠ 0 → Ends .restReq s fun t => frame t ∧ t.core.rd F.EST_REST_CTRL.RESULT = 3 ∧ t.core.rd F.EST_REST_CTRL.REQ = 0) ∧
  (gl = 0 → rs ≠ 0 → Ends .restReq s fun t => frame t ∧ t.core.rd F.EST_REST_CTRL.REQ = 1 ∧ t.core.rd F.EST_REST_CTRL.STATE = rs) ∧
  (gl = 0 → rs = 0 → Ends .restReq s fun t => frame t ∧ t.core.rd F.EST_REST_CTRL.STATE = 1 ∧ asks 0 t) ∧
  (c.on F.EST_STAT.FIRSTPEND = true → gl = 0 → EndsThen .gleanReq s fun u => frame u ∧ u.core.rd F.EST_GLN_CTRL.CAUSE = 10 ∧ u.core.rd F.EST_GLN_CTRL.REQ = 0) ∧
  (gl ≠ 0 ∨ c.on F.EST_STAT.FIRSTPEND = false ∧ rs ≠ 0 → EndsThen .gleanReq s fun u => frame u ∧ u.core.rd F.EST_GLN_CTRL.REQ = 1 ∧ u.core.rd F.EST_GLN_CTRL.STATE = gl) ∧
  (c.on F.EST_STAT.FIRSTPEND = false → gl = 0 → rs = 0 → EndsThen .gleanReq s fun u => frame u ∧ u.core.rd F.EST_GLN_CTRL.STATE = 1 ∧ asks 1 u) ∧
  (gl ≠ 0 → free → EndsThen .gleanAbort s fun u => frame u ∧ u.core.rd F.EST_GLN_CTRL.STATE = 0 ∧ u.core.rd F.EST_GLN_CTRL.CAUSE = 1 ∧ u.core.est.tgt = none ∧
    (c.rd F.SHF_STAT.SLOT = 2 → u.core.rd F.SHF_STAT.SLOT = 3) ∧ (c.rd F.SHF_STAT.SLOT = 1 → u.core.rd F.SHF_STAT.SLOT = 0)) ∧
  (gl = 0 → EndsThen .gleanAbort s fun u => u = s) ∧
  (rs = 2 → c.restLen ≤ c.est.slotClk → EndsThen .restSlotEnd s fun u => frame u ∧
    (anchored → u.core.rd F.EST_REST_CTRL.RESULT = 1 ∧ u.core.rd F.EST_REST_CTRL.COUNT = min 65535 (c.rd F.EST_REST_CTRL.COUNT + 1) ∧
      ∀ k ∈ c.slots, takes k → (u.core.acc k).pend ≠ none) ∧
    (¬ anchored → u.core.rd F.EST_REST_CTRL.RESULT = (if c.est.slotCur = true then 2 else 0) ∧ u.core.rd F.EST_REST_CTRL.COUNT = c.rd F.EST_REST_CTRL.COUNT ∧
      u.core.est.acc = c.est.acc) ∧ u.core.est.pos = c.est.pos ∧
    u.core.est.tgt = none ∧ (free → u.core.rd F.EST_REST_CTRL.STATE = 0 ∧ (c.rd F.SHF_STAT.SLOT = 2 → u.core.rd F.SHF_STAT.SLOT = 3))) ∧
  (rs ≠ 2 ∨ c.est.slotClk < c.restLen → EndsThen .restSlotEnd s fun u => u = s) ∧
  (gl = 3 ∨ gl = 5 → c.trest ≤ c.est.glnClk → EndsThen .gleanRestEnd s fun u => coreOnly s u ∧ noRegister c u.core ∧ u.core.est = { c.est with glnEnd := true } ∧
    let d := gleanNext u.core
    d.est.glnEnd = false ∧ blocksOnly [F.EST_STAT.EOD.block] c d ∧
    (gl = 3 → d.rd F.EST_GLN_CTRL.STATE = 4 ∧ d.est.tgt = some (-(1000 * (c.rd F.EST_GLN_CFG.IDIS : Int))) ∧ d.est.str.ovr = 0 ∧
      (∀ k, (d.ctx k).ovr = 0) ∧ d.est.glnClk = 0) ∧
    (gl = 5 → d.rd F.EST_GLN_CTRL.STATE = 6 ∧ d.est.tgt = some (1000 * c.rd F.EST_GLN_CFG.ICHG) ∧ d.rd F.EST_STAT.LEARNED = 1 ∧
      d.rd F.EST_GLN_CTRL.COUNT = min 65535 (c.rd F.EST_GLN_CTRL.COUNT + 1))) ∧
  (c.est.glnClk < c.trest ∨ gl ≠ 3 ∧ gl ≠ 5 → EndsThen .gleanRestEnd s fun u => u = s) ∧
  (259200 ≤ (s.aon.ops - c.est.restBase) / 1000 → c.rd F.EST_STAT.NOREST = 0 → Ends .norestSet s fun t => coreOnly s t ∧
    fieldsOnly [F.EST_NORESTT.T, F.EST_STAT.NOREST] c t.core ∧ t.core.rd F.EST_STAT.NOREST = 1) ∧
  ((s.aon.ops - c.est.restBase) / 1000 < 259200 ∨ c.rd F.EST_STAT.NOREST ≠ 0 → Ends .norestSet s fun t => t = s)

/-- Saves of the learned values and the position window. -/
def Obligations.EstimationSaves : Prop :=
  ∀ (s : State) (pos : Nat), s.pwr.held = false →
  let c := s.core
  let idle := c.est.estab = true ∧ c.est.saving = none
  let starts := fun (cause : Nat) (t : State) => (idle → t.core.est.saving = some cause) ∧
    (¬ idle → t.core.est.saving = c.est.saving ∧ t.core.est.again = some cause)
  let due := 0 < c.rd F.EST_SAVE_PERIOD.MIN ∧ c.rd F.EST_SAVE_PERIOD.MIN * 60 * 500000000 ≤ c.est.sinceSave
  let seq := max (if s.nv.est0.good then s.nv.est0.seq else 0) (if s.nv.est1.good then s.nv.est1.seq else 0) + 1
  (Ends .saveNow s fun t => coreOnly s t ∧ fieldsOnly [F.EST_SAVE_PERIOD.NOW] c t.core ∧ t.core.rd F.EST_SAVE_PERIOD.NOW = 1 ∧ starts 6 t ∧
    (t.core.est.nowAgain = true ↔ c.est.nowAgain = true ∨ ¬ idle)) ∧
  (due → Ends .periodicSave s fun t => coreOnly s t ∧ noRegister c t.core ∧ starts 0 t ∧ t.core.est.sinceSave = 0) ∧
  (¬ due → Ends .periodicSave s fun t => t = s) ∧
  (∀ cause, c.est.saving = some cause → EndsThen .saveComplete s fun u => nvOnly s u ∧
    u.nv = (if newerIs0 s.nv then { s.nv with est1 := c.learnedCopy seq } else { s.nv with est0 := c.learnedCopy seq }) ∧
    fieldsOnly [F.EST_SAVE_STAT.SEQ, F.EST_SAVE_STAT.CAUSE, F.EST_SAVE_PERIOD.NOW] c u.core ∧ u.core.rd F.EST_SAVE_STAT.SEQ = seq % 65536 ∧
    u.core.rd F.EST_SAVE_STAT.CAUSE = cause % 8 ∧ u.core.rd F.EST_SAVE_PERIOD.NOW = b2n c.est.nowAgain ∧ u.core.est.sinceSave = 0 ∧ u.core.est.saving = c.est.again ∧ u.core.est.again = none) ∧
  (c.est.saving = none → EndsThen .saveComplete s fun u => u = s) ∧
  (Ends (.estPositionSelect pos) s fun t => coreOnly s t ∧ blocksOnly [F.EST_STAT.EOD.block] c t.core ∧ t.core.rd F.EST_PSEL.POS = pos % 1024 ∧
    t.core.est = c.est ∧ t.core.rd F.EST_PSEL.WVALID = b2n (c.est.seen && decide (pos < c.slots.length)) ∧
    (c.est.seen = true → pos < c.slots.length → t.core.rd F.EST_PCAP.CAP = (Tab.get {} c.est.shown (c.slots.getD pos 0)).q % 2 ^ 32 ∧
      t.core.rd F.EST_PR.R = (Tab.get (0, 0, false) c.est.shownR (c.slots.getD pos 0)).1 % 2 ^ 32 ∧
      t.core.rd F.EST_PFLAG.LOST = b2n (Tab.get (0, 0, false) c.est.shownR (c.slots.getD pos 0)).2.2))

/-- Faults of the safety channels, degraded mode, the safe state, output faults. -/
def Obligations.SafetyFaults : Prop :=
  ∀ (s : State) (ch code k side : Nat), s.up → ch < 2 → k < 6 → side < 2 →
  let x := s.saf
  let o := x.o k
  let diag := fun (y : SafSt) => if ch = 0 then y.diagA else y.diagB
  let degrades := x.conf = true ∧ ({ x with faulty := Nat.lor x.faulty (2 ^ ch) } : SafSt).tdeg ≠ 0 ∧ x.demands s.line = 0 ∧ x.deg = false ∧ x.safe = false
  let faulted := fun (cd : Nat) (t : State) => safOnly s t ∧ noRegister s.core t.core ∧ t.saf.runs ch = false ∧ diag t.saf = cd ∧
    (degrades → t.saf.deg = true ∧ t.saf.degCh = 1 - ch ∧ t.saf.degAge = 0 ∧ t.core.cnv.degNew = true) ∧
    (¬ degrades → x.safe = false → t.saf.safeDue = true)
  let safeNow := fun (t : State) => safOnly s t ∧ t.saf.safe = true ∧ t.saf.gate = Nat.lor (Nat.lor x.gate (b2n (x.runs 0))) (2 * b2n (x.runs 1)) ∧ t.saf.rst = true ∧ t.saf.deg = false ∧ t.saf.safeDue = false ∧
    t.core.cnv.deg = false ∧ ∀ j, j < 6 → (t.saf.o j).on = false
  let dropped := fun (cause : Nat) (t : State) => t = { s with saf := t.saf } ∧ (t.saf.o k).on = false ∧ (o.fault = 0 → (t.saf.o k).fault = cause) ∧
    ∀ j, j ≠ k → t.saf.o j = x.o j
  let latched := fun (cause : Nat) (t : State) => safOnly s t ∧ (o.fault = 0 → (t.saf.o k).fault = cause) ∧
    (x.runs 0 = true → ∀ j, j < 6 → x.role j = 1 ∨ x.role j = 3 → (t.saf.o j).on = false) ∧
    (o.fault = 0 → ∃ e ∈ t.core.ev.raw, e.code = srcCode 72 ∧ e.src = k ∧ e.prim = 16 + cause)
  (x.runs ch = true → Ends (.singleChannelFault ch code) s (faulted code)) ∧
  (x.runs ch = false → Ends (.singleChannelFault ch code) s fun t => t = s) ∧
  (bitAt x.gate ch = true → x.runs ch = true → Ends (.gateReadbackTimeout ch) s (faulted 11)) ∧
  (bitAt x.gate ch = false → Ends (.gateReadbackTimeout ch) s fun t => t = s) ∧
  (∀ p ∈ [(Instr.paramCrcCheck (ch != 0) (ch != 1), 4), (.selfTestSlice (ch != 0) (ch != 1), 1), (.ramTest (ch != 0) (ch != 1), 2),
    (.firmwareCrcCheck (ch != 0) (ch != 1), 3)], x.runs ch = true → Ends p.1 s (faulted p.2)) ∧
  (∀ i ∈ [Instr.paramCrcCheck true true, .selfTestSlice true true, .ramTest true true, .firmwareCrcCheck true true], Ends i s fun t => t = s) ∧
  (x.deg = true → 5000 ≤ x.degAge → Ends .degradedGateOff s fun t => safOnly s t ∧ t.saf = { x with gate := Nat.lor x.gate (2 ^ x.degCh) }) ∧
  (x.deg = false ∨ x.degAge < 5000 → Ends .degradedGateOff s fun t => t = s) ∧
  (x.deg = true → 1000 * x.tdeg ≤ x.degAge → x.safe = false → Ends .degradedModeEnd s safeNow) ∧
  (x.deg = false ∨ x.degAge < 1000 * x.tdeg → Ends .degradedModeEnd s fun t => t = s) ∧
  (x.safeDue = true → x.safe = false → Ends .safeStateEnter s safeNow) ∧
  (x.safeDue = false → Ends .safeStateEnter s fun t => t = s) ∧
  (Ends .exchangeMissing s fun t => safOnly s t ∧ noRegister s.core t.core ∧ t.saf.missing = x.missing + 1 ∧
    (x.missing = 2 → x.deg = false → (∀ m ∈ x.mis, m.2 < 9) → t.saf.safeDue = true ∧ t.saf.diagA = 6 ∧ t.saf.diagB = 6)) ∧
  (x.conf = true → Ends (.outputCurrentLimit k side) s (latched (if side = 0 then 2 else 4))) ∧
  (x.conf = false → Ends (.outputCurrentLimit k side) s fun t => t = s) ∧
  (x.conf = true → Ends (.outputOffPulse k side true) s (latched (if side = 0 then 1 else 3))) ∧
  (Ends (.outputOffPulse k side false) s fun t => t = s) ∧
  (o.on = true → Ends (.openLoad k) s (dropped 5)) ∧ (o.on = false → Ends (.openLoad k) s fun t => t = s) ∧
  (x.conf = true → x.cfOn k = true → x.role k ≠ 0 → o.differ < x.tcf k → x.tcf k ≤ o.wrong → o.on = true → Ends (.contactorFeedbackTimeout k) s (dropped 7)) ∧
  (x.conf = true → x.cfOn k = true → x.role k ≠ 0 → x.tcf k ≤ o.differ → Ends (.contactorFeedbackTimeout k) s fun t => safOnly s t ∧ (t.saf.o k).fault = 6) ∧
  (x.conf = false → Ends (.contactorFeedbackTimeout k) s fun t => t = s)

/-- Input samples, discrepancies, test pulses, tone, windows, exchanges, power-on diagnostics. -/
def Obligations.SafetyInputs : Prop :=
  ∀ (s : State) (a b exA exB k count rb : Nat) (iA iB vA vB : List Int) (q : SafXch), s.up → k < 8 →
  let x := s.saf
  let i := x.i k
  let high := rb = 0 ∧ bitAt a k = true
  let crossed := i.fb = true ∧ bitAt b k = false
  let run := fun (n : Nat) => Tab.get 0 i.bad n
  let mean := fun (f : List Int → Int) (w : List Int) => roundDiv (f w) (winN w)
  let refs : List XRef := (if x.runs 0 then [⟨0, count, mean x.toV vA, mean x.toI iA⟩] else []) ++ (if x.runs 1 then [⟨1, count, mean x.toV vB, mean x.toI iB⟩] else [])
  let timely := ∀ w ∈ s.core.prot.ended, w.count = count → 16 * w.age + s.core.instant ≤ 16 * 500000
  (x.conf = false → ∀ c ∈ [Instr.safetyInputSample a b exA exB, .discrepancyFault k, .testPulse 0 a b rb, .toneLineDemand,
    .safetyWindowEnd count iA iB vA vB], Ends c s fun t => t = s) ∧
  (x.conf = true → Ends (.safetyInputSample a b exA exB) s fun t => safOnly s t ∧ (x.mode k = 0 → t.saf.i k = i) ∧
    (x.mode k = 1 → bitAt exA k = false → (t.saf.i k).fa = (filterStep (x.tf k) i.fa i.ca (bitAt a k)).1) ∧
    (x.mode k = 1 → bitAt exB k = false → (t.saf.i k).fb = (filterStep (x.tf k) i.fb i.cb (bitAt b k)).1) ∧
    (x.mode k = 1 → bitAt exA k = true → (t.saf.i k).fa = i.fa)) ∧
  (x.conf = true → x.mode k ≠ 0 → x.td k ≤ i.dt → Ends (.discrepancyFault k) s fun t => safOnly s t ∧ (t.saf.i k).disc = true ∧
    (x.mode k ≠ 3 → bitAt t.saf.dem 0 = true) ∧ ∀ j, j ≠ k → t.saf.i j = x.i j) ∧
  (i.dt < x.td k → Ends (.discrepancyFault k) s fun t => t = s) ∧
  (x.conf = true → Ends (.testPulse 0 a b rb) s fun t => safOnly s t ∧ (x.mode k = 0 ∨ x.mode k = 2 → t.saf.i k = i) ∧
    (x.mode k = 1 → let n := fun (j : Nat) => Tab.get 0 (t.saf.i k).bad j
      n 0 = (if high then run 0 + 1 else 0) ∧ n 1 = (if crossed then run 1 + 1 else 0) ∧ n 2 = (if rb ≠ 0 then run 2 + 1 else 0) ∧
      (∀ j, 3 ≤ j → n j = run j) ∧ (t.saf.i k).good = (if high ∨ crossed ∨ rb ≠ 0 then 0 else i.good + 1) ∧
      (i.inf = 0 → (t.saf.i k).inf = if 2 ≤ n 2 then 3 else if 2 ≤ n 0 then 1 else if 2 ≤ n 1 then 2 else 0) ∧ (i.inf ≠ 0 → (t.saf.i k).inf = i.inf))) ∧
  (x.conf = true → s.line.seen = false ∨ s.line.toneA = false ∧ s.line.toneB = false → Ends .toneLineDemand s fun t => safOnly s t ∧ bitAt t.saf.dem 1 = true ∧ t.saf.rst = (x.rst || x.runs 0 || x.runs 1) ∧
    (x.runs 0 = true → bitAt t.saf.gate 0 = true ∧ ∀ j, j < 6 → x.role j = 1 ∨ x.role j = 3 → (t.saf.o j).p = false) ∧
    (x.runs 1 = true → bitAt t.saf.gate 1 = true ∧ ∀ j, j < 6 → x.role j = 1 ∨ x.role j = 3 → (t.saf.o j).m = false)) ∧
  (s.line.seen = true → s.line.toneA = true ∨ s.line.toneB = true → Ends .toneLineDemand s fun t => t = s) ∧
  (x.conf = true → Ends (.safetyWindowEnd count iA iB vA vB) s fun t => safOnly s t ∧ t.saf.vb = [mean x.toV vA, mean x.toV vB] ∧ t.saf.i2 = [mean x.toI iA, mean x.toI iB] ∧ t.core.prot.refs = s.core.prot.refs ∧
    (s.core.tick.marks < 5000000 → t.core.prot.refIn = s.core.prot.refIn) ∧
    (5000000 ≤ s.core.tick.marks → timely → t.core.prot.refIn = s.core.prot.refIn ++ refs.map (fun r => (r, s.core.pastCutOff)))) ∧
  (EndsThen (.channelExchange q) s fun u => safOnly s u ∧ u.saf.missing = 0 ∧ u.saf.prb = q.a.prb ∧ u.saf.prbB = q.b.prb ∧ u.saf.mrb = q.a.mrb ∧ u.saf.mrbB = q.b.mrb ∧
    u.saf.gsafe = (!s.core.gatesOn) ∧ u.saf.gsafeB = (!s.core.gatesOn) ∧ (∀ j, j < 6 → (u.saf.o j).cfA = bitAt q.a.cf j ∧ (u.saf.o j).cfB = bitAt q.b.cf j) ∧ u.core.svc.exch = true ∧
    u.core.rd F.SAFM_STAT.SAFE = b2n u.saf.safe ∧ u.core.rd F.SAFM_STAT.RSTREQ = b2n u.saf.rst ∧ u.core.rd F.SAFM_STAT.GSAFE = b2n u.saf.gatesSafe ∧
    u.core.rd F.SAFM_CV_ACT.CV = u.saf.cvAct % 2 ^ 32 ∧ u.core.rd F.SAFM_OUT.ON = maskOf 6 (fun j => (u.saf.o j).on) % 64) ∧
  Ends .powerOnDiagComplete s fun t => t = { s with saf := { x with diagDone := true } }

/-- The commands of SAFM_CMD and the staging of a parameter set. -/
def Obligations.SafmCommands : Prop :=
  ∀ (s : State) (v : Nat), s.up →
  let x := s.saf
  let c := s.core
  let idx := x.idx
  let both := safSetOk x.stg = true ∧ safSetOk x.stgB = true
  let frame := fun (t : State) => safOnly s t ∧ t.saf.activeSet = x.activeSet ∧ blocksOnly [F.SAFM_STAT.SAFE.block, F.PROT_STAT.TRIP.block] c t.core ∧
    ∀ k, (t.saf.o k).on = (x.o k).on
  let gives := fun (r : Nat) (t : State) => frame t ∧ t.core.rd F.SAFM_CMD.RESULT = r ∧ t.saf.result = r
  (Ends .safStage s fun t => gives 1 t ∧ t.saf = { x with stg := x.act, stgB := x.actB, stgOk := false, sessAge := 0, result := 1 } ∧ t.core.rd F.SAFM_STAT.STGOK = 0) ∧
  (both → safCrc x.stg = safCrc x.stgB → Ends .safCompute s fun t => gives 1 t ∧
    t.saf = { x with cvA := safCrc x.stg, cvB := safCrc x.stgB, stgOk := true, sessAge := 0, result := 1 }) ∧
  (both → safCrc x.stg ≠ safCrc x.stgB → Ends .safCompute s fun t => gives 3 t ∧
    t.saf = { x with cvA := safCrc x.stg, cvB := safCrc x.stgB, stgOk := false, sessAge := 0, result := 3 }) ∧
  (¬ both → Ends .safCompute s fun t => gives 2 t ∧ t.saf = { x with stgOk := false, sessAge := 0, result := 2 }) ∧
  (idx < 208 → Ends (.safmPdataWrite v) s fun t => frame t ∧ t.saf.idx = idx + 1 ∧ t.core.rd F.SAFM_PADDR.IDX = idx + 1 ∧ t.saf.stgOk = false ∧
    ∀ i, Tab.get 0 t.saf.stg i = (if i = idx then v % 2 ^ 32 else Tab.get 0 x.stg i) ∧ Tab.get 0 t.saf.stgB i = if i = idx then v % 2 ^ 32 else Tab.get 0 x.stgB i) ∧
  (208 ≤ idx → Ends (.safmPdataWrite v) s fun t => safOnly s t ∧ t.saf = { x with sessAge := 0 } ∧
    fieldsOnly [F.GLB_ACCVIOL.COUNT, F.GLB_ACCVIOL.MASTER, F.GLB_ACCVIOL.KIND, F.GLB_ACCVIOL_ADDR.OFFSET] c t.core ∧
    t.core.rd F.GLB_ACCVIOL.COUNT = min 65535 (c.rd F.GLB_ACCVIOL.COUNT + 1) ∧ t.core.rd F.GLB_ACCVIOL_ADDR.OFFSET = F.SAFM_PDATA.DATA.off) ∧
  (Ends (.safmConfirmWrite v) s fun t => frame t ∧ t.saf = { x with ask := some (some v), confirm := v, sessAge := 0 } ∧ t.core.rd F.SAFM_CONFIRM.CV = v % 2 ^ 32) ∧
  (x.session = true → Ends .safPwdact s fun t => t = { s with saf := { x with ask := some none, sessAge := 0 } }) ∧
  (x.session = false → Ends .safPwdact s fun t => gives 5 t ∧ t.saf = { x with result := 5 }) ∧
  (Ends .safPwdend s fun t => gives 1 t ∧ t.saf = { x with session := false, result := 1 }) ∧
  (Ends .safClrflt s fun t => gives 1 t ∧
    (∀ k, k < 8 → (t.saf.i k).inf = if (x.i k).seq = true ∧ 2 ≤ (x.i k).good then 0 else (x.i k).inf) ∧
    ∀ k, k < 6 → (t.saf.o k).fault = if (x.o k).fault ≠ 6 ∧ 200 ≤ (x.o k).clean then 0 else (x.o k).fault) ∧
  (Ends .safClrweld s fun t => frame t ∧ (∀ k, k < 6 → (t.saf.o k).fault = if (x.o k).fault = 6 ∧ x.tcf k ≤ (x.o k).openMs then 0 else (x.o k).fault) ∧
    (t.saf.result = 1 ↔ ∃ k, k < 6 ∧ (x.o k).fault = 6 ∧ x.tcf k ≤ (x.o k).openMs)) ∧
  (x.rstMode = true → x.resetOk s.line = true → Ends .safRst s fun t => gives 1 t ∧ t.saf = { x with rst := false, gate := x.heldLine, sessAge := 0, result := 1 }) ∧
  (x.rstMode = false ∨ x.resetOk s.line = false → Ends .safRst s fun t => gives 6 t ∧ t.saf = { x with sessAge := 0, result := 6 })

/-- Password, session, lockout, requests for outputs, the change log. -/
def Obligations.SafmAccess : Prop :=
  ∀ (s : State) (w3 req idx : Nat), s.up →
  let x := s.saf
  let c := s.core
  let h := Config.hash (x.password w3)
  let sets := fun (y : SafSt) (t : State) => t = { s with saf := y }
  (x.pw = none → Ends (.passwordWrite w3) s (sets { x with pw := some h, pwd := [0, 0, 0], sessAge := 0 })) ∧
  (∀ p, x.pw = some p → x.lock = true → Ends (.passwordWrite w3) s (sets { x with pwd := [0, 0, 0], sessAge := 0 })) ∧
  (∀ p, x.pw = some p → x.lock = false → h = p → Ends (.passwordWrite w3) s (sets { x with session := true, mism := 0, pwd := [0, 0, 0], sessAge := 0 })) ∧
  (∀ p, x.pw = some p → x.lock = false → h ≠ p → Ends (.passwordWrite w3) s
    (sets { x with mism := x.mism + 1, lock := decide (3 ≤ x.mism + 1), lockAge := 0, pwd := [0, 0, 0], sessAge := 0 })) ∧
  (600000 ≤ x.sessAge → Ends .passwordSessionTimeout s (sets { x with session := false })) ∧
  (x.sessAge < 600000 → Ends .passwordSessionTimeout s fun t => t = s) ∧
  (x.lock = true → 600000 ≤ x.lockAge → Ends .passwordLockoutEnd s (sets { x with lock := false, mism := 0 })) ∧
  (x.lock = false ∨ x.lockAge < 600000 → Ends .passwordLockoutEnd s fun t => t = s) ∧
  (c.standby = false → EndsThen (.safmOutreqWrite req) s fun u => safOnly s u ∧ u.core.rd F.SAFM_OUTREQ.REQ = req % 64 ∧
    u.core.rd F.SAFM_OUTREQ.PEND = u.saf.held % 64 ∧ u.saf.activeSet = x.activeSet) ∧
  (c.standby = true → EndsThen (.safmOutreqWrite req) s fun u => u = s) ∧
  (Ends (.safmLogSelect idx) s fun t => safOnly s t ∧ t.saf = { x with logSel := idx, logOk := decide (idx < x.log.length), logWin := x.log.getD idx {}, sessAge := 0 } ∧ blocksOnly [F.SAFM_STAT.SAFE.block] c t.core ∧
    t.core.rd F.SAFM_LOGSEL.IDX = idx % 256 ∧ t.core.rd F.SAFM_LOGSEL.LVALID = b2n (decide (idx < x.log.length)) ∧
    t.core.rd F.SAFM_LOG2.NEW = (x.log.getD idx {}).new % 2 ^ 32)

/-- Heartbeats of peers, lost peers, reports, the watch set and the context window. -/
def Obligations.SheafPeers : Prop :=
  ∀ (s : State) (h : HbFrame) (sheaf len l : Nat), s.pwr.held = false →
  let c := s.core
  let shf := F.SHF_STAT.SLOT.block
  let old := c.peer h.pid
  let known := c.shf.agg.any (fun x => x.1 == h.pid)
  let n := if known = true ∧ old.age < 50 then old.cnt + 1 else 1
  let frame := fun (t : State) => coreOnly s t ∧ blocksOnly [shf] c t.core
  let counts := fun (f : Fld) (t : State) => frame t ∧ fieldsOnly [f] c t.core ∧ t.core.rd f = min (2 ^ f.width - 1) (c.rd f + 1)
  let due := c.shf.ctx.contains l = true ∧ (c.peer l).live = true ∧ 50 ≤ (c.peer l).age
  let seen := fun (t : State) => ∀ r ∈ t.core.shf.reps, r.pid = l → r.seen = true
  (c.shfOn = false → ∀ i ∈ [Instr.heartbeatReceived h, .reportReceived sheaf len l, .peerLost l], Ends i s fun t => t = s) ∧
  (c.shfOn = true → c.hbBad h = true → Ends (.heartbeatReceived h) s (counts F.SHF_CNT2.RXERR)) ∧
  (c.shfOn = true → c.hbBad h = false → h.pid = c.pid → h.src = 0 → Ends (.heartbeatReceived h) s fun t => frame t ∧
    fieldsOnly [F.SHF_STAT.DUPPID] c t.core ∧ t.core.on F.SHF_STAT.DUPPID = true ∧ t.core.shf.dupAge = 0 ∧
    t.core.irq.cross = c.irq.cross ++ (if c.on F.SHF_STAT.DUPPID = true then [] else [87])) ∧
  (c.shfOn = true → c.hbBad h = false → h.pid = c.pid → h.src ≠ 0 → h.src ≠ 2 → Ends (.heartbeatReceived h) s fun t => t = s) ∧
  (c.shfOn = true → c.hbBad h = false → h.pid = c.pid → h.src = 2 → Ends (.heartbeatReceived h) s fun t => frame t ∧
    t.core.shf = { c.shf with view := t.core.shf.view } ∧ (∀ e ∈ t.core.shf.view, e.pid = h.pid ∨ e ∈ c.shf.view ∨ ∃ v ∈ h.view, v.1 = e.pid) ∧
    ∀ i, i < 4 → t.core.rd (F.SHF_SLOTVIEW.PID i) = ((t.core.shf.view[i]?).map (fun e => e.pid % 65536)).getD 65535) ∧
  (c.shfOn = true → c.hbBad h = false → h.pid ≠ c.pid → h.pid = 65535 ∨ 1024 ≤ c.shf.agg.length ∧ known = false →
    Ends (.heartbeatReceived h) s fun t => t = s) ∧
  (c.shfOn = true → c.hbBad h = false → h.pid ≠ c.pid → h.pid ≠ 65535 → c.shf.agg.length < 1024 ∨ known = true →
    Ends (.heartbeatReceived h) s fun t => frame t ∧ (t.core.peer h.pid).age = 0 ∧ (t.core.peer h.pid).cnt = n ∧
      (t.core.peer h.pid).live = (old.live || decide (3 ≤ n)) ∧ (t.core.peer h.pid).seq = h.seq ∧ (t.core.peer h.pid).flags = h.flags ∧
      (t.core.peer h.pid).slot = h.slot ∧ (t.core.peer h.pid).kind = h.kind ∧ (t.core.peer h.pid).wait = h.wait ∧ (t.core.peer h.pid).soc = h.soc ∧
      (t.core.peer h.pid).q = h.q ∧ (2 ≤ h.version → (t.core.peer h.pid).pb = h.pb ∧ (t.core.peer h.pid).hd = h.hd ∧ (t.core.peer h.pid).hc = h.hc) ∧
      (∀ p, p ≠ h.pid → t.core.peer p = c.peer p) ∧ 81 ∈ t.core.irq.cross ∧ t.core.rd F.SHF_NPEER.N = t.core.shf.agg.length % 2048 ∧
      ∀ p ∈ h.reported, ∀ r ∈ t.core.shf.reps, r.pid = p → r.seen = true) ∧
  (c.shfOn = true → due → Ends (.peerLost l) s fun t => coreOnly s t ∧ blocksOnly [shf, (F.NET_TXOK.COUNT 0).block] c t.core ∧
    (t.core.peer l).live = false ∧ (t.core.peer l).cnt = 0 ∧ l ∈ t.core.shf.lost ∧ t.core.rd F.SHF_STAT.LOSTSEEN = 1 ∧ 82 ∈ t.core.irq.cross ∧
    t.core.rd F.SHF_CNT.LOSSES = min 65535 (c.rd F.SHF_CNT.LOSSES + 1) ∧
    (c.owner = true → t.core.rank l ≤ 2 → (l, 1000) ∈ t.core.shf.rfield ∧ t.core.rd F.SHF_CNT.REPORTS = min 65535 (c.rd F.SHF_CNT.REPORTS + 1)) ∧
    (c.owner = true → 2 < t.core.rank l → ⟨l, t.core.rank l, 0, false, c.ptp.sec, c.ptp.ns⟩ ∈ t.core.shf.reps ∧ t.core.rd F.SHF_CNT.REPORTS = c.rd F.SHF_CNT.REPORTS)) ∧
  (¬ due → Ends (.peerLost l) s fun t => t = s) ∧
  (∀ r, c.shf.reps.find? (fun r => r.pid == l && decide (20 + 2 * r.rank ≤ r.waited)) = some r → Ends (.reportWaitExpire l) s fun t => coreOnly s t ∧
    t.core.shf.reps = c.shf.reps.erase r ∧ (c.shfOn = false ∨ c.owner = false → noRegister c t.core ∧ t.core.out = c.out) ∧
    (c.shfOn = true → c.owner = true → r.seen = true → counts F.SHF_CNT2.SUPP t) ∧
    (c.shfOn = true → c.owner = true → r.seen = false → blocksOnly [shf, (F.NET_TXOK.COUNT 0).block] c t.core ∧ (l, 1000) ∈ t.core.shf.rfield ∧
      t.core.rd F.SHF_CNT.REPORTS = min 65535 (c.rd F.SHF_CNT.REPORTS + 1))) ∧
  ((∀ r ∈ c.shf.reps, r.pid = l → r.waited < 20 + 2 * r.rank) → Ends (.reportWaitExpire l) s fun t => t = s) ∧
  (c.shfOn = true → sheaf ≠ c.rd F.SHF_ID.SHEAF ∨ len < 24 → Ends (.reportReceived sheaf len l) s (counts F.SHF_CNT2.RXERR)) ∧
  (c.shfOn = true → sheaf = c.rd F.SHF_ID.SHEAF → 24 ≤ len → Ends (.reportReceived sheaf len l) s fun t => coreOnly s t ∧ noRegister c t.core ∧
    (l, 1000) ∈ t.core.shf.rfield ∧ seen t) ∧
  (c.shf.agg.length ≤ 160 → Ends .watchSetRecompute s fun t => t = s) ∧
  (160 < c.shf.agg.length → Ends .watchSetRecompute s fun t => frame t ∧
    t.core.shf = { c.shf with ctx := nearest c.pid ((c.shf.agg.filter (fun x => x.2.live)).map (fun x => x.1)) }) ∧
  ((∃ x ∈ c.shf.agg, x.1 = l ∧ 500 ≤ x.2.age) → Ends (.aggregateEntryDrop l) s fun t => frame t ∧
    t.core.shf = { c.shf with agg := Tab.del c.shf.agg l, ctx := c.shf.ctx.filter (fun x => x != l) }) ∧
  ((∀ x ∈ c.shf.agg, x.1 = l → x.2.age < 500) → Ends (.aggregateEntryDrop l) s fun t => t = s) ∧
  (1000 ≤ c.shf.dupAge → Ends .duppidClear s fun t => coreOnly s t ∧ fieldsOnly [F.SHF_STAT.DUPPID] c t.core ∧ t.core.rd F.SHF_STAT.DUPPID = 0) ∧
  (c.shf.dupAge < 1000 → Ends .duppidClear s fun t => t = s) ∧
  (Ends (.slotViewExpire l) s fun t => frame t ∧ t.core.shf = { c.shf with view := c.shf.view.filter (fun e => !(e.pid == l && e.left == 0)) } ∧
    ∀ i, i < 4 → t.core.rd (F.SHF_SLOTVIEW.PID i) = ((t.core.shf.view[i]?).map (fun e => e.pid % 65536)).getD 65535) ∧
  (Ends (.shfContextSelect l) s fun t => frame t ∧ t.core.shf = c.shf ∧ t.core.rd F.SHF_CSEL.IDX = l % 256 ∧
    t.core.rd F.SHF_CSEL.CVALID = b2n (decide (l < c.shf.ctx.length)) ∧
    (l < c.shf.ctx.length → t.core.rd F.SHF_CPID.PID = c.shf.ctx.getD l 0 % 65536 ∧ t.core.rd F.SHF_CPID.LIVE = b2n (c.peer (c.shf.ctx.getD l 0)).live ∧
      t.core.rd F.SHF_CSOC.SOC = (c.peer (c.shf.ctx.getD l 0)).soc % 65536))

/-- Heartbeat instants, slots and dispatch commands. -/
def Obligations.SheafSlots : Prop :=
  ∀ (s : State) (sheaf len hold seq : Nat) (p : Int), s.pwr.held = false →
  let c := s.core
  let sends := c.shfOn = true ∧ c.owner = true
  let freed := fun (t : State) => coreOnly s t ∧ t.core.rd F.SHF_STAT.SLOT = 3 ∧ t.core.shf.relLeft = 5 ∧ 85 ∈ t.core.irq.cross
  let goes := fun (u : State) => coreOnly s u ∧ u.core.shf.seq = (c.shf.seq + 1) % 65536 ∧ 80 ∈ u.core.irq.cross
  let calm := c.rd F.EST_REST_CTRL.STATE ≠ 1 ∧ c.rd F.EST_GLN_CTRL.STATE ≠ 1 ∧ c.on F.EST_REST_CTRL.REQ = false ∧ c.on F.EST_GLN_CTRL.REQ = false
  let newer := c.shf.lastSeq = none ∨ ∃ l, c.shf.lastSeq = some l ∧ 1 ≤ (seq + 2 ^ 32 - l) % 2 ^ 32 ∧ (seq + 2 ^ 32 - l) % 2 ^ 32 < 2 ^ 31
  (¬ sends → EndsThen .heartbeatSend s fun u => u = s) ∧
  (sends → c.slot = 0 → EndsThen .heartbeatSend s fun u => goes u ∧ u.core.shf.wait = 0 ∧ u.core.slot = 0 ∧
    blocksOnly [(F.NET_TXOK.COUNT 0).block] c u.core) ∧
  (sends → c.slot = 1 → c.mayTake = false → EndsThen .heartbeatSend s fun u => goes u ∧ u.core.shf.wait = min 65535 (c.shf.wait + 1) ∧ u.core.slot = 1) ∧
  (sends → c.mayTake = true → c.skind = 0 → EndsThen .heartbeatSend s fun u => goes u ∧ u.core.slot = 2 ∧ u.core.shf.wait = c.shf.wait ∧
    u.core.rd F.EST_REST_CTRL.STATE = 2 ∧ u.core.est.tgt = some 0 ∧ 84 ∈ u.core.irq.cross) ∧
  (sends → c.slot = 3 → 1 < c.shf.relLeft → EndsThen .heartbeatSend s fun u => goes u ∧ u.core.slot = 3 ∧ u.core.shf.relLeft = c.shf.relLeft - 1) ∧
  (sends → c.slot = 3 → c.shf.relLeft ≤ 1 → calm → EndsThen .heartbeatSend s fun u => goes u ∧ u.core.slot = 0 ∧ u.core.shf.relLeft = 0) ∧
  (c.slot = 2 → c.collides = true → Ends .slotRevoke s fun t => freed t ∧ t.core.rd F.SHF_STAT.COLL = 1) ∧
  (c.slot = 2 → c.collides = false → 1000 ≤ c.shf.short → Ends .slotRevoke s freed) ∧
  (c.slot ≠ 2 ∨ c.collides = false ∧ c.shf.short < 1000 → Ends .slotRevoke s fun t => t = s) ∧
  (c.slot = 2 → Ends .shfRevoke s freed) ∧
  (c.slot = 1 → c.on F.EST_REST_CTRL.REQ = false → c.on F.EST_GLN_CTRL.REQ = false → Ends .shfRevoke s fun t => coreOnly s t ∧ t.core.slot = 0) ∧
  (c.slot = 0 → Ends .shfRevoke s fun t => t = s) ∧
  (c.on F.SHF_CTRL.EN = true → Ends (.shfEnWrite 1) s fun t => t = s) ∧
  (c.on F.SHF_CTRL.EN = false → Ends (.shfEnWrite 1) s fun t => coreOnly s t ∧ fieldsOnly [F.SHF_CTRL.EN] c t.core ∧ t.core.rd F.SHF_CTRL.EN = 1 ∧
    t.core.shf = { c.shf with enMs := 0 }) ∧
  (Ends (.shfEnWrite 0) s fun t => coreOnly s t ∧ t.core.rd F.SHF_CTRL.EN = 0 ∧ (c.slot = 2 → freed t)) ∧
  (c.shfOn = false → Ends (.dispatchFrameReceived sheaf len hold seq p) s fun t => t = s) ∧
  (c.shfOn = true → sheaf ≠ c.rd F.SHF_ID.SHEAF ∨ len < 16 → Ends (.dispatchFrameReceived sheaf len hold seq p) s fun t => coreOnly s t ∧
    fieldsOnly [F.SHF_CNT2.RXERR] c t.core ∧ t.core.rd F.SHF_CNT2.RXERR = min 65535 (c.rd F.SHF_CNT2.RXERR + 1)) ∧
  (c.shfOn = true → sheaf = c.rd F.SHF_ID.SHEAF → 16 ≤ len → c.rd F.SHF_DCFG.SRC = 2 → newer →
    Ends (.dispatchFrameReceived sheaf len hold seq p) s fun t => coreOnly s t ∧ noRegister c t.core ∧
      t.core.shf = { c.shf with next := some ⟨p, seq, if hold = 0 then c.rd F.SHF_DCFG2.TMO else hold⟩ }) ∧
  (c.shfOn = true → sheaf = c.rd F.SHF_ID.SHEAF → 16 ≤ len → c.rd F.SHF_DCFG.SRC ≠ 2 ∨ ¬ newer →
    Ends (.dispatchFrameReceived sheaf len hold seq p) s fun t => t = s) ∧
  (Ends .dispatchGo s fun t => coreOnly s t ∧ fieldsOnly [F.SHF_DCTRL.GO] c t.core ∧ t.core.rd F.SHF_DCTRL.GO = 1) ∧
  (∀ g, c.shf.tgt = some g → g.left = 0 → Ends .dispatchTargetExpire s fun t => coreOnly s t ∧ fieldsOnly [F.SHF_STAT.DTMO, F.SHF_STAT.DGOV] c t.core ∧
    t.core.rd F.SHF_STAT.DTMO = 1 ∧ t.core.rd F.SHF_STAT.DGOV = 0 ∧ t.core.shf = { c.shf with tgt := none, slew := true } ∧ 86 ∈ t.core.irq.cross) ∧
  ((∀ g, c.shf.tgt = some g → g.left ≠ 0) → Ends .dispatchTargetExpire s fun t => t = s)

/-- The redundant pair: grant, tick frames, path faults, switch-over, hand-over, resynchronisation. -/
def Obligations.PairCommands : Prop :=
  ∀ (s : State) (f : TickFrame) (g xl : Bool) (lo hi ms lane : Nat), s.pwr.held = false → (∀ p ∈ s.nv.jring, p.1 < 64) →
  let c := s.core
  let red := F.RED_STAT.ROLE.block
  let hif := F.HIF_STAT.ACCEPT.block
  let flag := if xl = true then F.RED_STAT.XLF else F.RED_STAT.HBF
  let silent := if xl = true then 3 ≤ c.red.xlSil ∧ c.red.hbSil = 0 else 3 ≤ c.red.hbSil ∧ c.red.xlSil = 0
  let said := if xl = true then c.red.xlSaid else c.red.hbSaid
  let agrees := c.on F.RED_STAT.XLF = false ∧ c.on F.RED_STAT.CVMIS = false ∧ c.cvDiffers = false ∧ c.on F.RED_STAT.GNTFAIL = false ∧
    c.on F.RED_STAT.PEERDEG = false ∧ c.red.lagTk ≤ 8
  let v := min hi (c.rd F.RED_XLVER.OWNMAX)
  let fits := lo ≤ v ∧ c.rd F.RED_XLVER.OWNMIN ≤ v ∧ 0 < v ∧ hi < 256
  let frame := fun (t : State) => coreOnly s t ∧ blocksOnly [red, hif] c t.core
  let ofPair := s.line.pair = true ∨ c.pair = true
  (Ends (.ownershipGrantChange g) s fun t => lineOnly s t ∧ fieldsOnly [F.RED_STAT.GNT] c t.core ∧ t.core.rd F.RED_STAT.GNT = b2n g ∧
    (ofPair → t.line = { s.line with sending := g } ∧ (g = false → t.core.cnv.legs = [] ∧ t.core.gatesOn = false)) ∧ (¬ ofPair → t.line = s.line)) ∧
  (c.pair = false → c.standby = false → ∀ i ∈ [Instr.tickFrameReceived f, .pathFault xl, .switchOver, .standbyLost, .grantFailure, .resyncComplete lo hi ms, .xlLaneFailure lane],
    Ends i s fun t => t = s) ∧
  (c.pair = true → f.crcOk = false → Ends (.tickFrameReceived f) s fun t => coreOnly s t ∧ fieldsOnly [F.RED_CNT2.CRCERR] c t.core ∧
    t.core.rd F.RED_CNT2.CRCERR = min 65535 (c.rd F.RED_CNT2.CRCERR + 1)) ∧
  (c.pair = true → f.crcOk = true → c.standby = false → Ends (.tickFrameReceived f) s fun t => nvOnly s t ∧ blocksOnly [red, hif] c t.core ∧
    t.core.red.peerEsn = f.esn ∧ t.core.red.peerDeg = f.deg ∧ t.core.red.peerCv = some f.cv ∧ 88 ∈ t.core.irq.cross) ∧
  (c.pair = true → f.crcOk = true → c.standby = true → Ends (.tickFrameReceived f) s fun t => t.aon = s.aon ∧ t.pwr = s.pwr ∧ t.line = s.line ∧ t.pending = s.pending ∧
    t.core.tbTick = (f.tick + 1) % 2 ^ 48 ∧ t.core.shf.oepoch = f.epoch ∧ t.core.shf.seq = f.shfSeq ∧
    t.core.rd F.RED_STAT.CVMIS = b2n (s.saf.cvAct != f.cv) ∧ t.core.red.peerEsn = f.esn ∧ 88 ∈ t.core.irq.cross) ∧
  (c.pair = true → silent → said = false → Ends (.pathFault xl) s fun t => frame t ∧ t.core.rd flag = 1 ∧
    (if xl = true then t.core.red.xlSaid else t.core.red.hbSaid) = true ∧
    t.core.rd F.RED_CNT2.PATHF = min 65535 (c.rd F.RED_CNT2.PATHF + 1) ∧ 89 ∈ t.core.irq.cross) ∧
  (c.pair = false ∨ ¬ silent ∨ said = true → Ends (.pathFault xl) s fun t => t = s) ∧
  (c.standby = true → c.bothSilent = true → c.on F.RED_STAT.GNT = true → Ends .switchOver s fun t => nvOnly s t ∧ t.core.rd F.RED_STAT.ROLE = 1 ∧
    t.core.rd F.RED_LAST_HI.CAUSE = 1 ∧ t.core.rd F.RED_CNT.SWITCH = min 65535 (c.rd F.RED_CNT.SWITCH + 1) ∧ t.core.rd F.RED_STAT.SBYVALID = 0 ∧
    t.core.shf.oepoch = (c.shf.oepoch + 1) % 256 ∧ t.core.red.claim = true ∧ 0 ∈ t.core.hif.mpend) ∧
  (c.standby = false ∨ c.bothSilent = false ∨ c.on F.RED_STAT.GNT = false → Ends .switchOver s fun t => t = s) ∧
  (c.active = true → c.bothSilent = true → c.red.bothSaid = false → Ends .standbyLost s fun t => frame t ∧ t.core.rd F.RED_STAT.SBYVALID = 0 ∧ t.core.red.bothSaid = true ∧
    92 ∈ t.core.irq.cross) ∧
  (c.active = false ∨ c.bothSilent = false ∨ c.red.bothSaid = true → Ends .standbyLost s fun t => t = s) ∧
  (c.standby = true → c.bothSilent = true → 1 ≤ c.red.noGnt → c.red.gntSaid = false → Ends .grantFailure s fun t => frame t ∧
    t.core.rd F.RED_STAT.GNTFAIL = 1 ∧ t.core.rd F.RED_STAT.SBYVALID = 0 ∧ t.core.red.gntSaid = true ∧ 94 ∈ t.core.irq.cross) ∧
  (c.standby = false ∨ c.bothSilent = false ∨ c.red.noGnt = 0 ∨ c.red.gntSaid = true → Ends .grantFailure s fun t => t = s) ∧
  (c.active = true → c.on F.RED_STAT.SBYVALID = true → Ends .handover s fun t => coreOnly s t ∧ fieldsOnly [F.RED_CTRL.HANDOVER] c t.core ∧
    t.core.rd F.RED_CTRL.HANDOVER = 1 ∧ t.core.red = { c.red with ho := if c.red.ho = 0 then 5 else c.red.ho, hoCause := 2 }) ∧
  (c.active = false ∨ c.on F.RED_STAT.SBYVALID = false → Ends .handover s fun t => coreOnly s t ∧ fieldsOnly [F.RED_STAT.HOERR] c t.core ∧
    t.core.rd F.RED_STAT.HOERR = 1) ∧
  (c.pair = true → Ends (.resyncComplete lo hi ms) s fun t => frame t ∧ (c.standby = false → t.core.red.full = true) ∧ t.core.rd F.RED_XLVER.PEERMAX = hi % 256 ∧
    (fits → t.core.rd F.RED_XLVER.USED = v ∧ t.core.rd F.RED_STAT.VERERR = 0 ∧
      (c.standby = true → c.cnv.deg = false → agrees → c.red.aligned = true → c.tick.running = true →
        t.core.rd F.RED_STAT.ROLE = 2 ∧ t.core.red.full = true ∧ t.core.on F.RED_STAT.SBYVALID = true) ∧
      (c.standby = false → agrees → (∀ j ∈ s.nv.jrec, j.ack = true) → t.core.on F.RED_STAT.SBYVALID = true)) ∧
    (hi < lo → t.core.rd F.RED_XLVER.USED = 0 ∧ t.core.on F.RED_STAT.VERERR = true ∧ t.core.on F.RED_STAT.SBYVALID = false)) ∧
  (c.pair = true → Ends (.xlLaneFailure lane) s fun t => coreOnly s t ∧ fieldsOnly [F.RED_STAT.LANEF] c t.core ∧ t.core.rd F.RED_STAT.LANEF = 1 ∧
    t.core.red = { c.red with lanes := c.red.lanes - if bitAt c.red.lanes lane = true then 2 ^ lane else 0 })

/-- Doorbells, fetch, acceptance and failed reads of the rings. -/
def Obligations.RingDoorbells : Prop :=
  ∀ (s : State) (fn r v : Nat), s.pwr.held = false → r < 64 →
  let c := s.core
  let hif := F.HIF_STAT.ACCEPT.block
  let atu := F.ATU_STAT.NHELD.block
  let bad := c.rowner r ≠ fn ∨ c.rst r = 0 ∨ c.rst r = 4
  let counted := fun (t : State) => coreOnly s t ∧ t.core.rd F.HIF_DBERR.COUNT = min 65535 (c.rd F.HIF_DBERR.COUNT + 1) ∧
    t.core.rd F.HIF_DBERR.RING = r ∧ t.core.rd F.HIF_DBERR.FUNC = fn % 4
  let only := fun (t : State) => counted t ∧ fieldsOnly [F.HIF_DBERR.COUNT, F.HIF_DBERR.RING, F.HIF_DBERR.FUNC] c t.core
  let halted := fun (t : State) => counted t ∧ t.core.rst r = 3 ∧ t.core.rd (F.HIF_RSTAT.ERR r) = 1 ∧ 11 ∈ t.core.irq.cross ∧ blocksOnly [hif, atu] c t.core
  let frame := fun (t : State) => nvOnly s t ∧ t.nv = { s.nv with jrec := t.nv.jrec, jring := t.nv.jring } ∧ blocksOnly [hif, atu] c t.core
  let p := (s.nv.ring r).pair
  (bad → Ends (.submitDoorbell fn r v) s only) ∧ (bad → Ends (.completionAckDoorbell fn r v) s only) ∧
  (¬ bad → c.rtyp r ≠ 0 → Ends (.submitDoorbell fn r v) s fun t => t = s) ∧
  (¬ bad → c.rtyp r = 0 → Ends (.completionAckDoorbell fn r v) s fun t => t = s) ∧
  (¬ bad → c.rtyp r = 0 → c.rsize r < dist16 v (c.rmod r) → c.rst r = 1 → Ends (.submitDoorbell fn r v) s halted) ∧
  (¬ bad → c.rtyp r = 0 → c.rsize r < dist16 v (c.rmod r) → c.rst r ≠ 1 → Ends (.submitDoorbell fn r v) s only) ∧
  (¬ bad → c.rtyp r = 0 → dist16 v (c.rmod r) ≤ c.rsize r → Ends (.submitDoorbell fn r v) s fun t => frame t ∧ t.core.rhost r = v % 65536 ∧ 8 ∈ t.core.irq.cross) ∧
  (¬ bad → c.rtyp r ≠ 0 → c.rsize r < dist16 (c.rmod r) v → c.rst r = 1 → Ends (.completionAckDoorbell fn r v) s halted) ∧
  (¬ bad → c.rtyp r ≠ 0 → c.rsize r < dist16 (c.rmod r) v → c.rst r ≠ 1 → Ends (.completionAckDoorbell fn r v) s only) ∧
  (¬ bad → c.rtyp r ≠ 0 → dist16 (c.rmod r) v ≤ c.rsize r → Ends (.completionAckDoorbell fn r v) s fun t => frame t ∧ t.core.rhost r = v % 65536) ∧
  (c.rowner r ≠ fn → Ends (.ringResume fn r) s only) ∧
  (c.rowner r = fn → c.rst r ≠ 2 → Ends (.ringResume fn r) s fun t => t = s) ∧
  (c.rowner r = fn → c.rst r = 2 → Ends (.ringResume fn r) s fun t => frame t ∧ t.core.rst r = 1 ∧ ∀ x ∈ t.core.hif.xf, x.ring = r → x.stalled = false) ∧
  ((∀ x ∈ c.hif.desc, x.1 ≠ r) → Ends (.descriptorFetch r) s fun t => t = s) ∧
  (∀ d, c.hif.desc.find? (fun x => x.1 == r) = some d → 8192 ≤ s.nv.jrec.length → Ends (.descriptorFetch r) s fun t => frame t ∧ t.nv = s.nv ∧
    t.core.rd F.HIF_STAT.JFULL = 1 ∧ (c.on F.HIF_STAT.JFULL = false → 10 ∈ t.core.irq.cross)) ∧
  (∀ d, c.hif.desc.find? (fun x => x.1 == r) = some d → s.nv.jrec.length < 8192 → Ends (.descriptorFetch r) s fun t => frame t ∧
    Tab.get 0 t.core.hif.fetch r = (Tab.get 0 c.hif.fetch r + 1) % 65536 ∧
    ∃ j ∈ t.nv.jrec, j.ring = r ∧ j.sidx = Tab.get 0 c.hif.fetch r ∧ j.cid = leVal (d.2.take 8) ∧ j.op = d.2.getD 8 0 ∧ j.own = (s.nv.ring r).owner ∧ j.gone = false) ∧
  (c.rst r = 0 ∨ c.rst r = 4 ∨ c.rtyp r ≠ 0 → Ends (.commandAccept r) s fun t => t = s) ∧
  (∀ j, s.nv.jrec.find? (fun j => j.ring == r && !j.acc && !j.gone) = some j → c.rst r ≠ 0 → c.rst r ≠ 4 → c.rtyp r = 0 → c.journaled j = true → c.accepts = true →
    (s.nv.ring r).live = true → (s.nv.ring r).typ = 0 → c.rtyp p = 1 → c.rst p ≠ 0 →
    (reserved p (s.nv, c) < c.rsize p → Ends (.commandAccept r) s fun t => frame t ∧ ∃ k ∈ t.nv.jrec, k.ring = r ∧ k.sidx = j.sidx ∧ k.acc = true ∧ k.ops = s.aon.ops) ∧
    (c.rsize p ≤ reserved p (s.nv, c) → Ends (.commandAccept r) s fun t => coreOnly s t ∧ fieldsOnly [F.HIF_STAT.CQFULL] c t.core ∧ t.core.rd F.HIF_STAT.CQFULL = 1)) ∧
  (c.xfPick = none → Ends .tlpError s fun t => t = s) ∧
  (∀ x, c.xfPick = some x → x.write = true → Ends .tlpError s fun t => t = s) ∧
  (∀ x, c.xfPick = some x → x.write = false → x.kind = 1 → x.ring = r → c.rst r = 1 → Ends .tlpError s fun t => coreOnly s t ∧ blocksOnly [hif, atu] c t.core ∧
    t.core.rst r = 3 ∧ t.core.rd (F.HIF_RSTAT.ERR r) = 2 ∧ 15 ∈ t.core.irq.cross) ∧
  (∀ x, c.xfPick = some x → x.write = false → x.kind ≠ 1 → Ends .tlpError s fun t => frame t ∧ 15 ∈ t.core.irq.cross)

/-- Every ring command: not ready, expired, not permitted, a bad parameter. -/
def Obligations.CommandRefusals : Prop :=
  ∀ (s : State) (r : Nat) (j : JRec), s.pwr.held = false → (∀ k ∈ s.nv.jrec, k.gone = false) →
  let frame := fun (t : State) => nvOnly s t ∧ t.nv = { s.nv with jrec := t.nv.jrec } ∧ blocksOnly [F.HIF_STAT.ACCEPT.block, F.ATU_STAT.NHELD.block] s.core t.core
  let late := j.ttl ≠ 0 ∧ j.acc = true ∧ j.result = 0 ∧ j.ttl < s.aon.ops - j.ops
  ∀ p ∈ ([(.ringCreate r, 1, [63, 3, 31, 3, 63, 15, 3, 0, 255, 255, 255, 255, 255, 255, 0, 0, 255, 255, 255, 255, 255, 255]),
    (.ringDelete r, 2, [63]),
    (.ringQuery r, 3, [63]),
    (.ringRestart r, 4, [63, 0, 0, 0, 0, 0, 0, 0, 255, 255, 255, 255, 255, 255, 0, 0, 255, 255, 255, 255, 255, 255]),
    (.ringReset r, 5, [63]),
    (.vectorMap r, 6, [63, 15, 1, 0, 255, 3, 255]),
    (.streamBind r, 7, [255, 63, 1]),
    (.atuInvalidate r, 8, [3, 3, 0, 0, 0, 0, 0, 0, 0, 240, 255, 255, 255, 255, 0, 0, 255, 255, 255, 255]),
    (.identify r, 9, []),
    (.nopCmd r, 16, []),
    (.regRead r, 17, [255, 255, 255, 255]),
    (.regWrite r, 18, [255, 255, 255, 255, 255, 255, 255, 255, 255, 255, 255, 255]),
    (.regList r, 19, []),
    (.cnvOn r, 32, [1]),
    (.cnvClear r, 33, []),
    (.iset r, 34, [255, 255, 255, 255, 3]),
    (.dispatchTarget r, 35, [255, 255, 255, 255]),
    (.vrefNom r, 36, [255, 255, 255, 255]),
    (.outputRequest r, 37, [63]),
    (.profileCmd r, 38, [3]),
    (.gleanCmd r, 39, [1]),
    (.restCmd r, 40, []),
    (.impBurst r, 41, []),
    (.cteLoad r, 42, [255, 3, 255, 7, 7, 0, 255, 255]),
    (.cteParam r, 43, [1]),
    (.saveCmd r, 44, []),
    (.snapshotCmd r, 48, [3]),
    (.evrRead r, 49, [255, 255, 255, 255, 255, 255, 255, 255, 255, 255]),
    (.posRead r, 50, [255, 0, 255, 255, 255, 255])] : List (Instr × Nat × List Nat)),
    (s.ready1 p.2.1 r = none → Ends p.1 s fun t => t = s) ∧
    (s.ready1 p.2.1 r = some j → late → Ends p.1 s fun t => frame t ∧ j.ended 9 0 t) ∧
    (s.ready1 p.2.1 r = some j → ¬ late → s.core.permits r j.own p.2.1 = false → Ends p.1 s fun t => frame t ∧ j.ended 3 0 t) ∧
    (s.ready1 p.2.1 r = some j → ¬ late → s.core.permits r j.own p.2.1 = true → j.rsv = true ∨ parOk p.2.2 j.par = false →
      Ends p.1 s fun t => frame t ∧ j.ended 4 0 t)

/-- The commands that create, delete, query, restart and reset rings, map vectors and bind streams. -/
def Obligations.RingCommands : Prop :=
  ∀ (s : State) (r : Nat) (j : JRec), s.pwr.held = false → (∀ k ∈ s.nv.jrec, k.gone = false) →
  let c := s.core
  let q := j.arg 0 1
  let x := createRing j
  let v := 16 * c.rowner q + j.arg 1 1
  let ver := c.verOk (s.nv.ring q).ver
  let frame := fun (t : State) => nvOnly s t ∧ t.nv = { s.nv with jrec := t.nv.jrec, jring := t.nv.jring } ∧
    blocksOnly [F.HIF_STAT.ACCEPT.block, F.ATU_STAT.NHELD.block] c t.core
  let ends := fun (st : Nat) (t : State) => frame t ∧ j.ended st 0 t
  let done := fun (t : State) => frame t ∧ ∃ res, j.ended 0 res t
  (j.runs s 1 r [63, 3, 31, 3, 63, 15, 3, 0, 255, 255, 255, 255, 255, 255, 0, 0, 255, 255, 255, 255, 255, 255] →
    (c.verOk x.ver = false → Ends (.ringCreate r) s (ends 7)) ∧
    (c.verOk x.ver = true → c.createOk q x = false → Ends (.ringCreate r) s (ends 4)) ∧
    (c.verOk x.ver = true → c.createOk q x = true → c.rst q ≠ 0 → Ends (.ringCreate r) s (ends 5)) ∧
    (c.verOk x.ver = true → c.createOk q x = true → c.rst q = 0 → Ends (.ringCreate r) s fun t => done t ∧ t.core.rst q = 1 ∧ t.core.rmod q = 0 ∧ t.core.rhost q = 0 ∧
      t.core.rtyp q = x.typ % 4 ∧ t.core.rowner q = x.owner % 4 ∧ t.nv.ring q = { x with live := true, mod := 0 })) ∧
  (j.runs s 2 r [63] →
    (q < 2 → Ends (.ringDelete r) s (ends 4)) ∧ (2 ≤ q → c.rst q = 0 → Ends (.ringDelete r) s (ends 5)) ∧
    (2 ≤ q → c.rst q ≠ 0 → c.rtyp q = 1 → (∃ p ∈ s.nv.jring, p.2.live = true ∧ p.2.typ = 0 ∧ p.2.pair = q) → Ends (.ringDelete r) s (ends 8)) ∧
    (2 ≤ q → c.rst q = 4 → c.rtyp q ≠ 1 → Ends (.ringDelete r) s fun t => ends 0 t ∧ t.core.rst q = 0 ∧ (t.nv.ring q).live = false) ∧
    (2 ≤ q → c.rst q = 1 → c.rtyp q ≠ 1 → Ends (.ringDelete r) s fun t => frame t ∧ j.waits 14 t ∧ t.core.rst q = 5)) ∧
  (j.runs s 3 r [63] → Ends (.ringQuery r) s fun t => frame t ∧ j.ended 0 (ringWord q s.nv c) t) ∧
  (j.runs s 4 r [63, 0, 0, 0, 0, 0, 0, 0, 255, 255, 255, 255, 255, 255, 0, 0, 255, 255, 255, 255, 255, 255] →
    (q < 2 ∨ j.arg 8 8 % 4096 ≠ 0 ∨ j.arg 16 8 % 8 ≠ 0 → Ends (.ringRestart r) s (ends 4)) ∧
    (2 ≤ q → j.arg 8 8 % 4096 = 0 → j.arg 16 8 % 8 = 0 → c.rst q ≠ 4 → Ends (.ringRestart r) s (ends 5)) ∧
    (2 ≤ q → j.arg 8 8 % 4096 = 0 → j.arg 16 8 % 8 = 0 → c.rst q = 4 → ver = false → Ends (.ringRestart r) s (ends 7)) ∧
    (2 ≤ q → j.arg 8 8 % 4096 = 0 → j.arg 16 8 % 8 = 0 → c.rst q = 4 → ver = true → c.rtyp q ≠ 0 → (s.nv.ring q).typ ≠ 0 → Ends (.ringRestart r) s fun t => done t ∧
      t.core.rst q = 1 ∧ t.core.rmod q = 0 ∧ t.core.rhost q = 0 ∧ (t.nv.ring q).base = j.arg 8 8) ∧
    (2 ≤ q → j.arg 8 8 % 4096 = 0 → j.arg 16 8 % 8 = 0 → c.rst q = 4 → ver = true → c.rtyp q = 0 → c.rst (s.nv.ring q).pair = 1 → (s.nv.ring q).typ = 0 →
      Ends (.ringRestart r) s fun t => done t ∧ t.core.rst q = 1 ∧ t.core.rmod q = c.rmod q ∧ t.core.rhost q = c.rmod q % 65536 ∧ (t.nv.ring q).wb = j.arg 16 8)) ∧
  (j.runs s 5 r [63] →
    (c.rst q ≠ 3 → Ends (.ringReset r) s (ends 5)) ∧
    (c.rst q = 3 → q ≠ r → Ends (.ringReset r) s fun t => done t ∧ t.core.rst q = 1 ∧ t.core.rd (F.HIF_RSTAT.ERR q) = 0)) ∧
  (j.runs s 6 r [63, 15, 1, 0, 255, 3, 255] → c.rowner q < 4 →
    (c.rst q = 0 → Ends (.vectorMap r) s (ends 5)) ∧
    (c.rst q ≠ 0 → Ends (.vectorMap r) s fun t => ends 0 t ∧ t.core.rd (F.HIF_RSTAT.VEC q) = j.arg 1 1 ∧ t.core.rd (F.HIF_RSTAT.IEN q) = j.arg 2 1 ∧
      t.core.rd (F.HIF_MOD.TIMER v) = j.arg 4 2 ∧ t.core.rd (F.HIF_MOD.COUNT v) = j.arg 6 1)) ∧
  (j.runs s 7 r [255, 63, 1] →
    (q = 0 ∨ 2 < q → Ends (.streamBind r) s (ends 4)) ∧
    (q = 1 ∨ q = 2 → c.rst (j.arg 1 1) = 0 ∨ c.rtyp (j.arg 1 1) ≠ 2 → Ends (.streamBind r) s (ends 5)) ∧
    (q = 1 ∨ q = 2 → c.rst (j.arg 1 1) ≠ 0 → c.rtyp (j.arg 1 1) = 2 → j.arg 2 1 = 0 → Ends (.streamBind r) s fun t => ends 0 t ∧
      t.core.hif.bind = c.hif.bind.filter (fun b => b != (q, j.arg 1 1))) ∧
    (q = 1 ∨ q = 2 → c.rst (j.arg 1 1) ≠ 0 → c.rtyp (j.arg 1 1) = 2 → j.arg 2 1 = 1 → (q, j.arg 1 1) ∉ c.hif.bind → countIf (fun b => b.1 == q) c.hif.bind < 2 →
      Ends (.streamBind r) s fun t => ends 0 t ∧ t.core.hif.bind = c.hif.bind ++ [(q, j.arg 1 1)])) ∧
  (j.runs s 8 r [3, 3, 0, 0, 0, 0, 0, 0, 0, 240, 255, 255, 255, 255, 0, 0, 255, 255, 255, 255] →
    (q = 3 ∨ q = 2 ∧ j.arg 16 4 = 0 → Ends (.atuInvalidate r) s (ends 4)) ∧
    (q = 0 → c.holdsIn 0 (j.arg 1 1) (j.arg 8 8 / 4096) (j.arg 16 4) = false → Ends (.atuInvalidate r) s fun t => ends 0 t ∧ t.core.hif.tlb = [] ∧ t.core.hif.l1c = [] ∧
      t.core.rd F.ATU_INVCNT.COUNT = min 65535 (c.rd F.ATU_INVCNT.COUNT + 1)) ∧
    (q = 0 → c.holdsIn 0 (j.arg 1 1) (j.arg 8 8 / 4096) (j.arg 16 4) = true → Ends (.atuInvalidate r) s fun t => frame t ∧ j.waits 15 t ∧ t.core.hif.tlb = []))

/-- NOP, register read, gleaning, rest, burst and program load. -/
def Obligations.ModuleCommands : Prop :=
  ∀ (s : State) (r : Nat) (j : JRec), s.pwr.held = false → (∀ k ∈ s.nv.jrec, k.gone = false) →
  let c := s.core
  let off := j.arg 0 4
  let gl := c.rd F.EST_GLN_CTRL.STATE
  let rs := c.rd F.EST_REST_CTRL.STATE
  let hif := F.HIF_STAT.ACCEPT.block
  let atu := F.ATU_STAT.NHELD.block
  let load : List (Fld × Nat) := [(F.CTE_LOAD.BASE, j.arg 0 2), (F.CTE_LOAD.LEN, j.arg 2 2), (F.CTE_SWAP.SWAP, j.arg 4 1 % 4), (F.CTE_SWAP.KEEP, j.arg 4 1 / 4 % 2),
    (F.CTE_SWAP.BIND, j.arg 6 2), (F.CTE_PMADDR.ADDR, j.arg 0 2)] ++ (upTo (j.arg 2 2)).map (fun i => (F.CTE_PMDATA.DATA, wordAt (s.buffer j.ring) i)) ++
    [(F.CTE_PMADDR.ADDR, c.view F.CTE_PMADDR.ADDR), (F.CTE_CTRL.LOAD, 1)]
  let frame := fun (bs : List Nat) (t : State) => nvOnly s t ∧ t.nv = { s.nv with jrec := t.nv.jrec } ∧ blocksOnly (hif :: atu :: bs) c t.core
  let ends := fun (st res : Nat) (t : State) => frame [] t ∧ j.ended st res t
  (j.runs s 16 r [] → Ends (.nopCmd r) s (ends 0 0)) ∧
  (j.runs s 17 r [255, 255, 255, 255] →
    (offsetOk off = false → Ends (.regRead r) s (ends 4 0)) ∧
    (offsetOk off = true → j.own ≠ 0 → c.fnReaches j.own off = false → Ends (.regRead r) s (ends 3 0)) ∧
    (offsetOk off = true → j.own = 0 ∨ c.fnReaches j.own off = true → Ends (.regRead r) s (ends 0 ((c.pastPosted off).readWord (j.own == 0) off)))) ∧
  (j.runs s 39 r [1] →
    (j.arg 0 1 = 1 → c.on F.EST_REST_CTRL.REQ = false → c.on F.EST_GLN_CTRL.REQ = false → gl ≠ 0 → Ends (.gleanCmd r) s fun t => frame [F.EST_STAT.EOD.block, F.SHF_STAT.SLOT.block] t ∧
      (∃ res, j.ended 0 res t) ∧ t.core.rd F.EST_GLN_CTRL.STATE = 0 ∧ t.core.rd F.EST_GLN_CTRL.CAUSE = 1) ∧
    (j.arg 0 1 = 0 → gl = 0 → rs = 0 → c.on F.EST_STAT.FIRSTPEND = false → Ends (.gleanCmd r) s fun t => frame [F.EST_STAT.EOD.block, F.SHF_STAT.SLOT.block] t ∧
      (∃ res, j.ended 0 res t) ∧ t.core.rd F.EST_GLN_CTRL.STATE = 1) ∧
    (j.arg 0 1 = 0 → gl ≠ 0 → Ends (.gleanCmd r) s fun t => frame [F.EST_STAT.EOD.block, F.SHF_STAT.SLOT.block] t ∧ j.waits 8 t ∧ t.core.rd F.EST_GLN_CTRL.REQ = 1)) ∧
  (j.runs s 40 r [] →
    (gl ≠ 0 → Ends (.restCmd r) s fun t => frame [F.EST_STAT.EOD.block, F.SHF_STAT.SLOT.block] t ∧ (∃ res, j.ended 0 res t) ∧ t.core.rd F.EST_REST_CTRL.RESULT = 3) ∧
    (gl = 0 → rs = 0 → Ends (.restCmd r) s fun t => frame [F.EST_STAT.EOD.block, F.SHF_STAT.SLOT.block] t ∧ (∃ res, j.ended 0 res t) ∧ t.core.rd F.EST_REST_CTRL.STATE = 1) ∧
    (gl = 0 → rs ≠ 0 → Ends (.restCmd r) s fun t => frame [F.EST_STAT.EOD.block, F.SHF_STAT.SLOT.block] t ∧ j.waits 9 t ∧ t.core.rd F.EST_REST_CTRL.REQ = 1)) ∧
  (j.runs s 41 r [] → Ends (.impBurst r) s fun t => nvOnly s t ∧ t.core.imp = (impGo c).imp ∧ t.core.rd F.IMP_STAT.STATE = (impGo c).rd F.IMP_STAT.STATE ∧
    j.ended 0 ((impGo c).readWord true F.IMP_STAT.STATE.off) t) ∧
  (j.runs s 42 r [255, 3, 255, 7, 7, 0, 255, 255] →
    (1024 < j.arg 2 2 ∨ j.blen < 4 * j.arg 2 2 → Ends (.cteLoad r) s (ends 4 0)) ∧
    (j.arg 2 2 ≤ 1024 → 4 * j.arg 2 2 ≤ j.blen → Ends (.cteLoad r) s fun t => nvOnly s t ∧ noRegister c t.core ∧ t.core.cte = c.cte ∧ j.waits 16 t ∧
      t.core.wait = c.wait ++ load.map (fun p => ⟨p.1, p.2, .normal, c.pastCutOff, .super⟩)))

/-- Ring commands that hold a write and wait, or send bytes to their buffer. -/
def Obligations.HeldCommands : Prop :=
  ∀ (s : State) (r : Nat) (j : JRec), s.pwr.held = false → (∀ k ∈ s.nv.jrec, k.gone = false) →
  let c := s.core
  let hif := F.HIF_STAT.ACCEPT.block
  let atu := F.ATU_STAT.NHELD.block
  let b := s.buffer j.ring
  let frame := fun (bs : List Nat) (t : State) => nvOnly s t ∧ t.nv = { s.nv with jrec := t.nv.jrec } ∧ blocksOnly (hif :: atu :: bs) c t.core
  let ends := fun (st : Nat) (t : State) => frame [] t ∧ j.ended st 0 t
  let one := c.pastCutOff
  let two := c.moment.pastCutOff
  let holds := fun (w : Nat) (ws : List (Fld × Nat × Bool)) (t : State) => nvOnly s t ∧ noRegister c t.core ∧ j.waits w t ∧
    t.core.wait = c.wait ++ ws.map (fun p => ⟨p.1, p.2.1, .normal, p.2.2, .super⟩)
  let words := (upTo (b.length / 4)).map (fun i => (F.CTE_DMDATA.DATA, wordAt b i % 65536))
  let param := (F.CTE_DMADDR.ADDR, 256) :: words ++ [(F.CTE_DMADDR.ADDR, c.view F.CTE_DMADDR.ADDR), (F.CTE_PCOMMIT.MODE, j.arg 0 1), (F.CTE_PCOMMIT.GO, 1)]
  let moves := fun (n : Nat) (t : State) => frame [] t ∧ j.waits 0 t ∧ ∃ x ∈ t.core.hif.xf, x.ring = j.ring ∧ x.kind = 3 ∧ x.iova = j.buf ∧ x.len = n ∧ x.write = true
  (j.runs s 32 r [1] → Ends (.cnvOn r) s (holds 1 [(F.CNV_CTRL.ON, j.arg 0 1, one)])) ∧
  (j.runs s 33 r [] → Ends (.cnvClear r) s (holds 1 [(F.CNV_CTRL.CLR, 1, one)])) ∧
  (j.runs s 34 r [255, 255, 255, 255, 3] → Ends (.iset r) s (holds 3 [(F.CNV_ISET.ISET, j.arg 0 4, one), (F.CNV_CTRL.MODE, j.arg 4 1, two)])) ∧
  (j.runs s 36 r [255, 255, 255, 255] → Ends (.vrefNom r) s (holds 5 [(F.SHF_VREF_NOM.V, j.arg 0 4, false)])) ∧
  (j.runs s 38 r [3] → Ends (.profileCmd r) s (holds 7 [(F.TICK_PROFILE.REQ, j.arg 0 1, one), (F.TICK_PROFILE.GO, 1, two)])) ∧
  (j.runs s 35 r [255, 255, 255, 255] → Ends (.dispatchTarget r) s fun t => nvOnly s t ∧ fieldsOnly [F.SHF_DCTRL.GO] c t.core ∧ t.core.rd F.SHF_DCTRL.GO = 1 ∧ j.waits 4 t ∧
    t.core.wait = c.wait ++ [⟨F.SHF_PTGT.P, j.arg 0 4, .normal, false, .super⟩]) ∧
  (j.runs s 37 r [63] → c.blockBusy F.SAFM_OUTREQ.REQ.off = false → Ends (.outputRequest r) s fun t => nvOnly s t ∧ fieldsOnly [(xstat 15).1] c t.core ∧ j.waits 6 t ∧
    t.core.rd (xstat 15).1 = 1 ∧ t.core.wait = c.wait ++ [⟨F.SAFM_OUTREQ.REQ, bitsAt (j.arg 0 1) 0 6, .normal, false, fnMaster j.own⟩]) ∧
  (j.runs s 37 r [63] → c.blockBusy F.SAFM_OUTREQ.REQ.off = true → Ends (.outputRequest r) s (holds 22 [])) ∧
  (j.runs s 43 r [1] →
    (512 < j.blen ∨ j.blen % 4 ≠ 0 → Ends (.cteParam r) s (ends 4)) ∧
    (j.blen ≤ 512 → j.blen % 4 = 0 → Ends (.cteParam r) s fun t => nvOnly s t ∧ fieldsOnly [F.CTE_PCOMMIT.PEND] c t.core ∧ t.core.rd F.CTE_PCOMMIT.PEND = 1 ∧
      t.core.cte = c.cte ∧ j.waits 10 t ∧ t.core.wait = c.wait ++ param.map (fun p => ⟨p.1, p.2, .normal, one, .super⟩))) ∧
  (j.runs s 44 r [] → Ends (.saveCmd r) s fun t => nvOnly s t ∧ fieldsOnly [F.EST_SAVE_PERIOD.NOW] c t.core ∧ t.core.rd F.EST_SAVE_PERIOD.NOW = 1 ∧ j.waits 11 t ∧
    (c.est.estab = true → c.est.saving = none → t.core.est.saving = some 6)) ∧
  (j.runs s 48 r [3] →
    (j.blen < 64 → Ends (.snapshotCmd r) s (ends 4)) ∧
    (64 ≤ j.blen → (∀ k ∈ s.nv.jrec, k.run = false) → Ends (.snapshotCmd r) s (holds 12 [(F.TICK_SNAP_CTRL.SRC, j.arg 0 1, one), (F.TICK_SNAP_CTRL.GO, 1, two)]))) ∧
  (j.runs s 18 r [255, 255, 255, 255, 255, 255, 255, 255, 255, 255, 255, 255] →
    (offsetOk (j.arg 0 4) = false → Ends (.regWrite r) s (ends 4)) ∧
    (offsetOk (j.arg 0 4) = true → c.regRefuses j.own (j.arg 0 4) (j.arg 8 4) = true → Ends (.regWrite r) s fun t => j.ended 3 0 t ∧
      t.core.rd F.GLB_ACCVIOL.COUNT = min 65535 (c.rd F.GLB_ACCVIOL.COUNT + 1)) ∧
    (offsetOk (j.arg 0 4) = true → c.regRefuses j.own (j.arg 0 4) (j.arg 8 4) = false → c.blockBusy (j.arg 0 4) = true → Ends (.regWrite r) s (holds 20 [])) ∧
    (offsetOk (j.arg 0 4) = true → c.regRefuses j.own (j.arg 0 4) (j.arg 8 4) = false → c.blockBusy (j.arg 0 4) = false → normalOff (j.arg 0 4) = 0x20 → aliasOf (j.arg 0 4) = .normal →
      c.rd F.GLB_BOOT.STAGE = 3 → c.wait = [] → c.rd F.GLB_SCRATCH.DATA < 2 ^ 32 → Ends (.regWrite r) s fun t => nvOnly s t ∧ fieldsOnly [F.GLB_SCRATCH.DATA] c t.core ∧ j.waits 13 t ∧
        t.core.rd F.GLB_SCRATCH.DATA = clearBits (c.rd F.GLB_SCRATCH.DATA) (j.arg 8 4) + Nat.land (j.arg 4 4) (j.arg 8 4))) ∧
  (j.runs s 19 r [] →
    (3072 < j.blen ∨ j.blen % 12 ≠ 0 → Ends (.regList r) s (ends 4)) ∧
    (j.blen ≤ 3072 → j.blen % 12 = 0 → b.length < 12 → Ends (.regList r) s (holds 17 [])) ∧
    (j.blen ≤ 3072 → j.blen % 12 = 0 → 12 ≤ b.length → offsetOk (wordAt b 0) = false → Ends (.regList r) s (ends 4)) ∧
    (j.blen ≤ 3072 → j.blen % 12 = 0 → 12 ≤ b.length → b.length < 24 → offsetOk (wordAt b 0) = true → c.regRefuses j.own (wordAt b 0) (wordAt b 2) = false →
      c.blockBusy (wordAt b 0) = false → normalOff (wordAt b 0) ≠ F.GLB_RESET.KEY.off → Ends (.regList r) s fun t =>
        t.core = (cmdRegWrite j.own (wordAt b 0) (wordAt b 1) (wordAt b 2) s).core)) ∧
  (j.runs s 9 r [] → (j.blen < 4096 → Ends (.identify r) s (ends 4)) ∧ (4096 ≤ j.blen → Ends (.identify r) s (moves 4096))) ∧
  (j.runs s 49 r [255, 255, 255, 255, 255, 255, 255, 255, 255, 255] →
    (1024 < j.arg 8 2 ∨ j.blen < 64 * j.arg 8 2 → Ends (.evrRead r) s (ends 4)) ∧
    (j.arg 8 2 ≤ 1024 → 64 * j.arg 8 2 ≤ j.blen → evrFrom s.nv (j.arg 0 8) (j.arg 8 2) = [] → Ends (.evrRead r) s (ends 0)) ∧
    (j.arg 8 2 ≤ 1024 → 64 * j.arg 8 2 ≤ j.blen → (evrFrom s.nv (j.arg 0 8) (j.arg 8 2)).flatMap Rec.bytes ≠ [] →
      Ends (.evrRead r) s (moves ((evrFrom s.nv (j.arg 0 8) (j.arg 8 2)).flatMap Rec.bytes).length))) ∧
  (j.runs s 50 r [255, 0, 255, 255, 255, 255] →
    (2 < j.arg 0 1 ∨ 576 < j.arg 4 2 → Ends (.posRead r) s (ends 4)) ∧
    (j.arg 0 1 ≤ 2 → j.arg 4 2 ≤ 576 → c.slots.length ≤ j.arg 2 2 → Ends (.posRead r) s (ends 0)) ∧
    (j.arg 0 1 = 0 → j.arg 4 2 = 1 → j.arg 2 2 < c.slots.length → 4 ≤ j.blen → Ends (.posRead r) s (moves 4)))

/-- Rings 0 and 1, draining, messages, power states, ATU commits, DMA segments, held fault records. -/
def Obligations.HostCommands : Prop :=
  ∀ (s : State) (v fn k m : Nat) (timer : Bool) (l1 l2 : TblRead) (bytes : List Nat), s.pwr.held = false → v < 64 → k < 4 →
  let c := s.core
  let hif := F.HIF_STAT.ACCEPT.block
  let atu := F.ATU_STAT.NHELD.block
  let frame := fun (t : State) => nvOnly s t ∧ t.nv = { s.nv with jrec := t.nv.jrec, jring := t.nv.jring } ∧ blocksOnly [hif, atu] c t.core
  let due := c.inD3 (v / 16) = false ∧ (c.hif.due.contains v = true ∨ timer = true ∧ Tab.get 0 c.hif.since v ≠ 0)
  let pend := PWrite.mk (F.ATU_CFG.MODE k) m .normal false .f0
  (c.rd F.GLB_BOOT.STAGE ≠ 7 → Ends (.adminRingEnable 1) s fun t => frame t ∧ t.core.rd F.HIF_ADM_CFG.EN = 1 ∧
    ∀ r, r < 2 → c.rst r = 0 ∨ c.rst r = 4 → t.core.rst r = 1 ∧ t.core.rmod r = 0 ∧ t.core.rhost r = 0 ∧ t.core.rtyp r = r ∧ (t.nv.ring r).live = true) ∧
  (c.rd F.GLB_BOOT.STAGE = 7 → Ends (.adminRingEnable 1) s fun t => frame t ∧ t.nv.jring = s.nv.jring ∧ ∀ r, r < 2 → t.core.rst r = c.rst r) ∧
  (Ends (.adminRingEnable 0) s fun t => frame t ∧ t.core.rd F.HIF_ADM_CFG.EN = 0 ∧ ∀ r, r < 2 →
    (c.rst r = 4 → t.core.rst r = 0 ∧ (t.nv.ring r).live = false) ∧ (c.rst r = 1 ∨ c.rst r = 3 → t.core.rst r = 5) ∧ (c.rst r = 0 → t.core.rst r = 0)) ∧
  (c.rst v = 5 → s.nv.drained v = true → EndsThen (.ringDrainComplete v) s fun u => frame u ∧ u.core.rst v = 0 ∧ (u.nv.ring v).live = false ∧ 11 ∈ u.core.irq.cross) ∧
  (c.rst v ≠ 5 ∨ s.nv.drained v = false → EndsThen (.ringDrainComplete v) s fun u => u = s) ∧
  (due → Ends (.msixMessage v timer) s fun t => coreOnly s t ∧ fieldsOnly [F.HIF_MOD.PENDING v] c t.core ∧ t.core.rd (F.HIF_MOD.PENDING v) = 0 ∧
    Tab.get 0 t.core.hif.since v = 0 ∧ v ∉ t.core.hif.due ∧
    (c.hif.men.contains v = true → t.core.out = .msix (v / 16) (v % 16) :: c.out) ∧ (c.hif.men.contains v = false → t.core.out = c.out ∧ v ∈ t.core.hif.mpend)) ∧
  (¬ due → Ends (.msixMessage v timer) s fun t => t = s) ∧
  (Ends (.msixVectorUnmask v true) s fun t => coreOnly s t ∧ noRegister c t.core ∧ v ∉ t.core.hif.men ∧ t.core.out = c.out) ∧
  (Ends (.msixVectorUnmask v false) s fun t => coreOnly s t ∧ noRegister c t.core ∧ v ∈ t.core.hif.men ∧
    (c.hif.mpend.contains v = true → c.inD3 (v / 16) = false → t.core.out = .msix (v / 16) (v % 16) :: c.out ∧ v ∉ t.core.hif.mpend) ∧
    (c.hif.mpend.contains v = false ∨ c.inD3 (v / 16) = true → t.core.out = c.out ∧ t.core.hif.mpend = c.hif.mpend)) ∧
  (c.inD3 fn = true → c.hif.pme.contains fn = true → c.hif.pmeSent.contains fn = false → Ends (.pme fn) s fun t => coreOnly s t ∧ noRegister c t.core ∧
    t.core.out = .pme fn :: c.out ∧ t.core.hif = { c.hif with pmeSent := fn :: c.hif.pmeSent }) ∧
  (c.inD3 fn = false ∨ c.hif.pme.contains fn = false ∨ c.hif.pmeSent.contains fn = true → Ends (.pme fn) s fun t => t = s) ∧
  (c.inD3 fn = false → Ends (.dStateChange fn true timer) s fun t => coreOnly s t ∧ noRegister c t.core ∧ t.core.inD3 fn = true ∧ 13 ∈ t.core.irq.cross ∧
    (t.core.hif.pme.contains fn = timer)) ∧
  (c.inD3 fn = true → Ends (.dStateChange fn false timer) s fun t => frame t ∧ t.core.inD3 fn = false ∧ fn ∉ t.core.hif.pmeSent ∧ 13 ∈ t.core.irq.cross) ∧
  ((∀ w ∈ c.wait, w.fld.cls ≠ .rings) → Ends .atuConfigCommit s fun t => t = s) ∧
  (c.wait = [pend] → (∀ r, r < 64 → c.rowner r ≠ k ∨ c.rst r = 0 ∨ c.rst r = 4) → Ends .atuConfigCommit s fun t => coreOnly s t ∧
    fieldsOnly [F.ATU_CFG.MODE k, F.ATU_CFG.PEND k] c t.core ∧ t.core.rd (F.ATU_CFG.MODE k) = m % 4 ∧ t.core.rd (F.ATU_CFG.PEND k) = 0 ∧ t.core.wait = [] ∧
    (∀ e ∈ t.core.hif.tlb, e.fn ≠ k) ∧ 19 ∈ t.core.irq.cross) ∧
  (c.wait = [pend] → (∃ r, r < 64 ∧ c.rowner r = k ∧ c.rst r ≠ 0 ∧ c.rst r ≠ 4) → Ends .atuConfigCommit s fun t => coreOnly s t ∧
    fieldsOnly [F.ATU_CFG.PEND k] c t.core ∧ t.core.rd (F.ATU_CFG.PEND k) = 1 ∧ t.core.wait = c.wait) ∧
  (c.xfPick = none → EndsThen (.dmaSegment l1 l2 bytes) s fun u => u = s) ∧
  (∀ x, c.xfPick = some x → x.page = none → x.write = true → c.rd (F.ATU_CFG.MODE x.fn) = 2 → c.inWindow x.fn (x.iova + x.pos) (x.segEnd - x.pos) = true →
    EndsThen (.dmaSegment l1 l2 bytes) s fun u => nvOnly s u ∧ ∃ l, u.core.out = l ++ .mem x.fn (x.iova + x.pos) ((x.data.drop x.pos).take (x.segEnd - x.pos)) :: c.out) ∧
  (∀ x, c.xfPick = some x → x.page = none → c.rd (F.ATU_CFG.MODE x.fn) = 0 → x.ring = v → c.rst v = 1 → EndsThen (.dmaSegment l1 l2 bytes) s fun u => frame u ∧
    u.core.rst v = 2 ∧ u.core.rd F.ATU_FCNT.FAULTS = min 65535 (c.rd F.ATU_FCNT.FAULTS + 1) ∧ u.core.rd F.ATU_LASTF_RING.CAUSE = 1 ∧
    u.core.rd F.ATU_LASTF_RING.RING = v ∧ u.core.rd F.ATU_LASTF_IOVA_LO.IOVA = (x.iova + x.pos) % 2 ^ 32 ∧ 16 ∈ u.core.irq.cross) ∧
  (c.hif.fheld = [] → Ends .faultRecordFlush s fun t => frame t ∧ t.core.hif.fheld = []) ∧
  (∀ f rest, c.hif.fheld = f :: rest → c.rtyp 3 = 3 → c.takes 3 = true → c.hasXf 3 9 = false → c.hasRoom 3 = true → Ends .faultRecordFlush s fun t => frame t ∧
    t.core.hif.fheld = rest ∧ t.core.hasXf 3 9 = true ∧ t.core.rd F.ATU_STAT.NHELD = rest.length % 16)

/-- Interrupts: assertion, delivery, end, hold-off, discard, software interrupts. -/
def Obligations.InterruptCommands : Prop :=
  ∀ (s : State) (n k g w bits : Nat) (rest : List Nat), s.pwr.held = false → n < 128 → k < 4 → g < 16 → w < 4 →
  let c := s.core
  let st := c.irqState n
  let frame := fun (t : State) => coreOnly s t ∧ blocksOnly [F.IRQ_STAT.NPEND.block] c t.core
  let idle := fun (t : State) => frame t ∧ t.core.irqState n = 0 ∧ (∀ m, m < 128 → m ≠ n → t.core.irqState m = c.irqState m)
  (c.irq.cross = [] → Ends .irqAssert s fun t => t = s) ∧
  (c.irq.cross = n :: rest → irqReserved n = true → Ends .irqAssert s fun t => t = { s with core := { c with irq := { c.irq with cross := rest } } }) ∧
  (c.irq.cross = n :: rest → irqReserved n = false → st = 0 → Ends .irqAssert s fun t => frame t ∧ t.core.irq = { c.irq with cross := rest } ∧ t.core.irqState n = 1 ∧
    bitAt (t.core.rd (F.IRQ_PEND.PEND (n / 32))) (n % 32) = true ∧ ∀ m, m < 128 → m ≠ n → t.core.irqState m = c.irqState m) ∧
  (c.irq.cross = n :: rest → irqReserved n = false → st = 1 → Ends .irqAssert s fun t => coreOnly s t ∧ fieldsOnly [F.IRQ_HOLD.COAL (n / 8)] c t.core ∧
    t.core.irq = { c.irq with cross := rest } ∧ t.core.rd (F.IRQ_HOLD.COAL (n / 8)) = min 255 (c.rd (F.IRQ_HOLD.COAL (n / 8)) + 1)) ∧
  (c.irq.cross = n :: rest → irqReserved n = false → 2 ≤ st → Ends .irqAssert s fun t => coreOnly s t ∧ fieldsOnly [F.IRQ_SRC.OVR n, F.IRQ_STAT.OVRSEEN] c t.core ∧
    t.core.irq = { c.irq with cross := rest } ∧ t.core.rd (F.IRQ_SRC.OVR n) = min 255 (c.rd (F.IRQ_SRC.OVR n) + 1) ∧ t.core.rd F.IRQ_STAT.OVRSEEN = 1) ∧
  ((∀ m, m < 128 → c.deliverable k m = false) → Ends (.irqDeliver k) s fun t => t = s) ∧
  (c.deliverable k n = true → (∀ m, m < 128 → m ≠ n → c.deliverable k m = true → c.irqRank m < c.irqRank n) → Ends (.irqDeliver k) s fun t => frame t ∧
    t.core.irqState n = 2 ∧ t.core.rd (F.IRQ_LAST.SRC k) = n ∧ t.core.on (F.IRQ_HOLD.RUN (n / 8)) = c.on (F.IRQ_HOLD.HOLD (n / 8)) ∧
    (c.on (F.IRQ_SRC.FAST n) = true → t.core.fastOn k = some n ∧ t.core.nest k = c.nest k ∧ t.core.rd (F.IRQ_CPU.FACT k) = 1) ∧
    (c.on (F.IRQ_SRC.FAST n) = false → t.core.nest k = (c.rd (F.IRQ_SRC.PRIO n), n) :: c.nest k ∧ t.core.rd (F.IRQ_CPU.RLVL k) = c.rd (F.IRQ_SRC.PRIO n) % 16)) ∧
  (c.fastOn k = some n → Ends (.irqEoi k n) s fun t => idle t ∧ t.core.fastOn k = none ∧ t.core.nest k = c.nest k ∧ t.core.rd (F.IRQ_CPU.FACT k) = 0) ∧
  (c.fastOn k ≠ some n → (∃ x ∈ c.nest k, x.2 = n) → Ends (.irqEoi k n) s fun t => idle t ∧ t.core.nest k = (c.nest k).filter (fun x => x.2 != n) ∧
    t.core.rd (F.IRQ_CPU.RLVL k) = (match (c.nest k).filter (fun x => x.2 != n) with | [] => 0 | x :: _ => x.1 % 16)) ∧
  (c.fastOn k ≠ some n → (∀ x ∈ c.nest k, x.2 ≠ n) → Ends (.irqEoi k n) s fun t => coreOnly s t ∧ fieldsOnly [F.IRQ_CPU.EOIERR k] c t.core ∧
    t.core.rd (F.IRQ_CPU.EOIERR k) = min 255 (c.rd (F.IRQ_CPU.EOIERR k) + 1)) ∧
  (Ends (.holdOffExpire g) s fun t => coreOnly s t ∧ fieldsOnly [F.IRQ_HOLD.RUN g] c t.core ∧ t.core.rd (F.IRQ_HOLD.RUN g) = 0) ∧
  (Ends (.irqPendDiscard w bits) s fun t => frame t ∧ t.core.irq = c.irq ∧ ∀ m, m < 128 → t.core.irqState m =
    if m / 32 = w ∧ bitAt bits (m % 32) = true ∧ c.irqState m = 1 then 0 else c.irqState m) ∧
  (Ends (.irqSgi bits) s fun t => coreOnly s t ∧ noRegister c t.core ∧
    t.core.irq.cross = c.irq.cross ++ ((upTo 4).filter (fun i => bitAt bits i)).map (fun i => 124 + i))

/-- The Ethernet switch: frames, learned addresses, links; masters and their timeout. -/
def Obligations.NetworkCommands : Prop :=
  ∀ (s : State) (f : EthFrame) (a : Announce) (addr p speed sender : Nat), s.pwr.held = false →
  let c := s.core
  let net := (F.NET_TXOK.COUNT 0).block
  let ptp := F.PTP_STAT.PSTATE.block
  let frame := fun (t : State) => coreOnly s t ∧ blocksOnly [net, ptp] c t.core
  let i := f.port - 1
  let other := 3 - f.port
  let atPort := (f.port = 1 ∨ f.port = 2) ∧ portUp f.port c = true
  let fine := f.good = true ∧ f.len ≤ 1522
  let mac := fun (lo hi : Fld) => c.rd lo + 2 ^ 32 * c.rd hi
  let own := f.dst = mac F.NET_MAC1_LO.MAC F.NET_MAC1_HI.MAC ∨ f.dst = mac F.NET_MAC2_LO.MAC F.NET_MAC2_HI.MAC
  let tracks := fun (t : State) => t.core.bestMaster.map (fun a => (a.port, a.sender)) = t.core.ptp.master
  (¬ atPort → Ends (.ethernetFrameReceive f) s fun t => t = s) ∧
  (atPort → ¬ fine → Ends (.ethernetFrameReceive f) s fun t => coreOnly s t ∧ fieldsOnly [F.NET_ERR.RXERR i] c t.core ∧
    t.core.rd (F.NET_ERR.RXERR i) = min 65535 (c.rd (F.NET_ERR.RXERR i) + 1)) ∧
  (atPort → fine → Ends (.ethernetFrameReceive f) s fun t => frame t ∧ t.core.rd (F.NET_RXOK.COUNT i) = (c.rd (F.NET_RXOK.COUNT i) + 1) % 2 ^ 32 ∧
    96 ∈ t.core.irq.cross ∧ (bitAt f.src 40 = true → t.core.ptp.macs = c.ptp.macs) ∧
    (bitAt f.src 40 = false → c.ptp.macs.length < 256 ∨ (c.macPort f.src).isSome = true → t.core.macPort f.src = some f.port)) ∧
  (atPort → fine → f.dst / 16 = 0x0180C200000 → f.msg = none → Ends (.ethernetFrameReceive f) s fun t => t.core.out = c.out) ∧
  (atPort → fine → f.dst / 16 ≠ 0x0180C200000 → bitAt f.dst 40 = false → own → c.terminated f.etype = false → Ends (.ethernetFrameReceive f) s fun t => frame t ∧
    t.core.out = c.out ∧ t.core.rd (F.NET_NOTERM.COUNT i) = min 65535 (c.rd (F.NET_NOTERM.COUNT i) + 1)) ∧
  (atPort → fine → f.dst / 16 ≠ 0x0180C200000 → bitAt f.dst 40 = false → ¬ own → f.src ≠ f.dst → c.macPort f.dst = none → c.on F.PTP_CFG.TCEN = false →
    Ends (.ethernetFrameReceive f) s fun t => frame t ∧
      (portUp other c = false → t.core.out = c.out) ∧
      (portUp other c = true → f.full = true → t.core.out = c.out ∧ t.core.rd (F.NET_ERR.DROP (other - 1)) = min 65535 (c.rd (F.NET_ERR.DROP (other - 1)) + 1)) ∧
      (portUp other c = true → f.full = false → t.core.rd (F.NET_TXOK.COUNT (other - 1)) = (c.rd (F.NET_TXOK.COUNT (other - 1)) + 1) % 2 ^ 32 ∧
        ∃ q, t.core.out = .eth other f.etype [f.dst, f.src, q, f.len, ofSigned 64 f.corr] :: c.out)) ∧
  (c.rd F.NET_AGE.AGE = 0 → Ends (.addressAgeout addr) s fun t => t = s) ∧
  (c.rd F.NET_AGE.AGE ≠ 0 → Ends (.addressAgeout addr) s fun t => coreOnly s t ∧ noRegister c t.core ∧ t.core.macPort addr = none ∧
    ∀ b, b ≠ addr → t.core.macPort b = c.macPort b) ∧
  (p = 0 ∨ 2 < p → Ends (.ethernetLinkChange p speed) s fun t => t = s) ∧
  (p = 1 ∨ p = 2 → speed < 4 → Ends (.ethernetLinkChange p speed) s fun t => frame t ∧ t.core.rd (F.NET_PORT.LINK (p - 1)) = b2n (speed != 0) ∧
    t.core.rd (F.NET_PORT.SPEED (p - 1)) = speed ∧ t.core.rd (F.NET_PORT.LCHG (p - 1)) = 1 ∧ 98 ∈ t.core.irq.cross ∧
    (speed ≠ 0 → t.core.ptp = c.ptp) ∧ (speed = 0 → tracks t ∧ ∀ g ∈ t.core.ptp.foreign, g.ann.port ≠ p)) ∧
  (a.port = 0 ∨ 2 < a.port ∨ portUp a.port c = false ∨ a.domain ≠ c.rd F.PTP_CFG.DOMAIN → Ends (.announceReceived a) s fun t => t = s) ∧
  (a.port = 1 ∨ a.port = 2 → portUp a.port c = true → a.domain = c.rd F.PTP_CFG.DOMAIN → Ends (.announceReceived a) s fun t => frame t ∧ tracks t ∧
    ∃ g ∈ t.core.ptp.foreign, g.ann = a) ∧
  (Ends (.announceTimeout p sender) s fun t => frame t ∧ tracks t ∧ (∀ g ∈ t.core.ptp.foreign, ¬ (g.ann.port = p ∧ g.ann.sender = sender)) ∧
    (c.ptp.master = some (p, sender) → t.core.on F.PTP_STAT.LOCK = false ∧ t.core.rd F.PTP_STAT.HOLD = 1 ∧
      t.core.rd F.PTP_HOLDRATE.RATE = ofSigned 32 c.holdRate % 2 ^ 32 ∧ t.core.rd F.PTP_RATE.ADJ = ofSigned 32 c.holdRate % 2 ^ 32 ∧ 101 ∈ t.core.irq.cross))

/-- The PTP clock: servo updates, delay measurements, link delays, setting TB_PLANT. -/
def Obligations.PtpCommands : Prop :=
  ∀ (s : State) (p sender seq turn : Nat) (t1 t2 corr w : Int), s.pwr.held = false →
  let c := s.core
  let ptp := F.PTP_STAT.PSTATE.block
  let frame := fun (t : State) => coreOnly s t ∧ blocksOnly [ptp] c t.core
  let plant := fun (d : Core) => (d.ptp.sec : Int) * 1000000000 + d.ptp.ns
  let span : Int := 2 ^ 48 * 1000000000
  let moved := fun (d : Int) (t : State) => plant t.core = (plant c + d) % span ∧ t.core.rd F.PTP_TIME_NS.NS = t.core.ptp.ns ∧ t.core.ptp.ns < 1000000000
  let sync := Instr.ptpSyncReceived p sender t1 t2 corr
  let o := t2 - t1 - corr - c.rdS F.PTP_MPD.MPD
  let steps := c.rd F.PTP_STAT.PSTATE = 2 ∧ ((1000 * c.rd F.PTP_THR.STEP : Nat) : Int) ≤ |o|
  let integ := clampI (-(65536 * adjMax)) (65536 * adjMax) (c.ptp.integ - 10 * (c.rd F.PTP_SERVO.KI : Int) * o)
  let st := c.rd F.PTP_STAT.PSTATE
  let sends := fun (k : Nat) (data : List Nat) (t : State) => coreOnly s t ∧ fieldsOnly [F.NET_TXOK.COUNT (k - 1)] c t.core ∧
    t.core.rd (F.NET_TXOK.COUNT (k - 1)) = (c.rd (F.NET_TXOK.COUNT (k - 1)) + 1) % 2 ^ 32 ∧ t.core.out = .eth k 35063 data :: c.out
  (c.ptp.master ≠ some (p, sender) → Ends sync s fun t => t = s) ∧
  (c.ptp.master = some (p, sender) → c.on F.PTP_CTRL.SERVO = false → Ends sync s fun t => t = { s with core := { c with ptp := { c.ptp with syncD := t2 - t1 - corr } } }) ∧
  (c.ptp.master = some (p, sender) → c.p2p = true → c.linkDelay p = none → Ends sync s fun t => t = { s with core := { c with ptp := { c.ptp with syncD := t2 - t1 - corr } } }) ∧
  (c.ptp.master = some (p, sender) → c.on F.PTP_CTRL.SERVO = true → c.p2p = false → steps → Ends sync s fun t => frame t ∧ moved (-o) t ∧
    t.core.rd F.PTP_STAT.STEPPED = 1 ∧ t.core.rd F.PTP_STAT.PSTATE = 2 ∧ t.core.rd F.PTP_STAT.HOLD = 0) ∧
  (c.ptp.master = some (p, sender) → c.on F.PTP_CTRL.SERVO = true → c.p2p = false → ¬ steps → Ends sync s fun t => frame t ∧ t.core.rd F.PTP_STAT.PSTATE = 3 ∧
    t.core.rd F.PTP_STAT.HOLD = 0 ∧ t.core.rd F.PTP_OFFSET.O = ofSigned 32 (satS 32 o) ∧ t.core.ptp.integ = integ ∧
    t.core.rdS F.PTP_RATE.ADJ = clampI (-adjMax) adjMax (roundDiv (integ - 10 * (c.rd F.PTP_SERVO.KP : Int) * o) 65536)) ∧
  (c.ptp.master = none ∨ c.p2p = true → Ends (.delayReqSend w) s fun t => t = s) ∧
  (p = 1 ∨ p = 2 → c.ptp.master = some (p, sender) → c.p2p = false → portUp p c = true → Ends (.delayReqSend w) s fun t => sends p (c.ptpHead p 1) t ∧
    t.core.ptp = { c.ptp with reqT3 := some w }) ∧
  (c.p2p = false ∨ portUp p c = false → ∀ i ∈ [Instr.pdelayReqSend p w, .pdelayReqReceived p seq turn], Ends i s fun t => t = s) ∧
  (p = 1 ∨ p = 2 → c.p2p = true → portUp p c = true →
    (Ends (.pdelayReqSend p w) s fun t => sends p (c.ptpHead p 2) t ∧ Tab.get none t.core.ptp.reqT1 p = some w) ∧
    (Ends (.pdelayReqReceived p seq turn) s fun t => sends p (c.ptpHead p 3 ++ [seq, 65536 * turn]) t ∧ t.core.ptp = c.ptp) ∧
    (∀ x, Tab.get none c.ptp.reqT1 p = some x → Tab.get [] c.ptp.resp p = [] → Ends (.pdelayRespReceived p w t1) s fun t => coreOnly s t ∧
      fieldsOnly [F.PTP_PORT_LDLY.LDLY (p - 1)] c t.core ∧ t.core.rd (F.PTP_PORT_LDLY.LDLY (p - 1)) = (clampI 0 4294967294 (truncDiv (w - x - t1) 2)).toNat ∧
      Tab.get none t.core.ptp.reqT1 p = none)) ∧
  (Tab.get none c.ptp.reqT1 p = none → Ends (.pdelayRespReceived p w t1) s fun t => t = s) ∧
  (p = 1 ∨ p = 2 → Ends (.linkDelayLost p) s fun t => coreOnly s t ∧ fieldsOnly [F.PTP_PORT_LDLY.LDLY (p - 1)] c t.core ∧
    t.core.rd (F.PTP_PORT_LDLY.LDLY (p - 1)) = 4294967295) ∧
  (p = 0 ∨ 2 < p → Ends (.linkDelayLost p) s fun t => t = s) ∧
  ((∃ x ∈ c.ptp.sums, x.1 = seq ∧ x.2.1 = sender) → Ends (.followUpMiss seq sender) s fun t => coreOnly s t ∧ fieldsOnly [F.PTP_CNT.FUMISS] c t.core ∧
    t.core.rd F.PTP_CNT.FUMISS = min 65535 (c.rd F.PTP_CNT.FUMISS + 1) ∧ ∀ x ∈ t.core.ptp.sums, ¬ (x.1 = seq ∧ x.2.1 = sender)) ∧
  ((∀ x ∈ c.ptp.sums, ¬ (x.1 = seq ∧ x.2.1 = sender)) → Ends (.followUpMiss seq sender) s fun t => t = s) ∧
  ((st = 2 ∨ st = 3) ∧ c.on F.PTP_CTRL.SERVO = true → Ends .tset s fun t => coreOnly s t ∧ fieldsOnly [F.PTP_STAT.TSETERR] c t.core ∧ t.core.rd F.PTP_STAT.TSETERR = 1) ∧
  (¬ ((st = 2 ∨ st = 3) ∧ c.on F.PTP_CTRL.SERVO = true) → Ends .tset s fun t => frame t ∧
    plant t.core = (((c.rd2 F.PTP_TSET_S_LO.S F.PTP_TSET_S_HI.S : Nat) : Int) * 1000000000 + c.rd F.PTP_TSET_NS.NS) % span) ∧
  (Ends .stepgo s fun t => frame t ∧ moved (c.rdS F.PTP_STEPV.NS) t)

/-- CAN FD: reception and locking, transmission by priority, error states, bus-off, the reference message. -/
def Obligations.CanCommands : Prop :=
  ∀ (s : State) (f : CanFrame) (obj sec ns tdcv lec : Nat) (own heavy v : Bool), s.pwr.held = false → obj < 32 →
  let c := s.core
  let can := F.CAN_CTRL.INIT.block
  let frame := fun (t : State) => coreOnly s t ∧ blocksOnly [can] c t.core
  let off := c.on F.CAN_CTRL.INIT = true ∨ c.rd F.CAN_STAT.EST = 2
  let deaf := off ∨ (f.fdf = true ∧ c.on F.CAN_CTRL.FDEN = false)
  let first := fun (o : Nat) => o < 32 ∧ c.objMatch f o = true ∧ ∀ k < o, c.objMatch f k = false
  let byteAt := fun (d : Core) (o i : Nat) => bitsAt (d.rd (F.CAN_OBJ_D.DATA o (i / 4))) (8 * (i % 4)) 8
  let taken := fun (o : Nat) (g : CanFrame) (t : State) => t.core.rd (F.CAN_OBJ_STAT.NEW o) = 1 ∧ t.core.rd (F.CAN_OBJ_STAT.RDLC o) = g.dlc % 16 ∧
    t.core.rd (F.CAN_OBJ_TS.TS o) = c.tbTick % 2 ^ 32 ∧ (c.on (F.CAN_OBJ_STAT.NEW o) = true → t.core.rd (F.CAN_OBJ_STAT.LOST o) = 1) ∧
    (∀ i < min g.data.length (dlcBytes g.fdf g.dlc), byteAt t.core o i = g.data.getD i 0 % 256) ∧ 104 ∈ t.core.irq.cross
  let fdf := fun (o : Nat) => c.on (F.CAN_OBJ_CFG.FDF o) && c.on F.CAN_CTRL.FDEN
  let brs := fun (o : Nat) => fdf o && c.on (F.CAN_OBJ_CFG.BRS o) && c.on F.CAN_CTRL.BRSEN
  let leaves := fun (o : Nat) (t : State) =>
    t.core.out = .can (c.rd (F.CAN_OBJ_ID.ID o)) (c.on (F.CAN_OBJ_CFG.XTD o)) (fdf o) (brs o) (c.objBytes o (dlcBytes (fdf o) (c.rd (F.CAN_OBJ_CFG.DLC o)))) :: c.out
  let acked := Instr.canTxAcknowledged sec ns tdcv
  (deaf → Ends (.canFrameReceive f) s fun t => t = s) ∧
  (¬ deaf → f.remote = false → ∀ o, first o → Ends (.canFrameReceive f) s fun t => frame t ∧
    t.core.rd F.CAN_CNT.RXOK = (c.rd F.CAN_CNT.RXOK + 1) % 65536 ∧
    (c.on (F.CAN_OBJ_CFG.LOCK o) = false → taken o f t) ∧
    (c.on (F.CAN_OBJ_CFG.LOCK o) = true → t.core.rd (F.CAN_OBJ_STAT.SHADOW o) = 1 ∧ Tab.get none t.core.can.shadow o = some f ∧
      (∀ i < 64, byteAt t.core o i = byteAt c o i) ∧ (c.on (F.CAN_OBJ_STAT.SHADOW o) = true → t.core.rd (F.CAN_OBJ_STAT.LOST o) = 1))) ∧
  (¬ deaf → f.remote = false → (∀ o < 32, c.objMatch f o = false) → Ends (.canFrameReceive f) s fun t => frame t ∧
    t.core.rd F.CAN_CNT2.NOMATCH = min 255 (c.rd F.CAN_CNT2.NOMATCH + 1)) ∧
  (¬ deaf → f.remote = true → Ends (.canFrameReceive f) s fun t => frame t ∧ t.core.rd F.CAN_CNT.RXOK = c.rd F.CAN_CNT.RXOK) ∧
  (Ends (.txreq obj) s fun t => coreOnly s t ∧ fieldsOnly [F.CAN_OBJ_CFG.TXREQ obj] c t.core ∧ t.core.rd (F.CAN_OBJ_CFG.TXREQ obj) = 1 ∧
    (c.can.cur ≠ none → t.core.can = c.can) ∧
    (c.can.cur = none → c.mayTx = true → c.on F.CAN_STAT.ALONE = false → t.core.txPending obj = true → ∃ o, t.core.can.cur = some o ∧
      (t.core.txPending o = true ∨ o = 32) ∧ ∀ k < 32, t.core.txPending k = true → t.core.txRank o ≤ t.core.txRank k)) ∧
  (c.can.cur = some obj → Ends (.txabort obj) s fun t => t = { s with core := { c with can := { c.can with abort := true } } }) ∧
  (c.can.cur ≠ some obj → Ends (.txabort obj) s fun t => coreOnly s t ∧ fieldsOnly [F.CAN_OBJ_CFG.TXREQ obj] c t.core ∧
    t.core.rd (F.CAN_OBJ_CFG.TXREQ obj) = 0 ∧ t.core.can = c.can) ∧
  (c.can.cur = none → ∀ i ∈ [acked, .canAckError tdcv], Ends i s fun t => t = s) ∧
  (c.can.cur = some obj → Ends acked s fun t => frame t ∧ leaves obj t ∧ t.core.rd F.CAN_CNT.TXOK = (c.rd F.CAN_CNT.TXOK + 1) % 65536 ∧
    t.core.rd F.CAN_ERRCNT.NOACK = 0 ∧ t.core.rd F.CAN_STAT.ALONE = 0 ∧ t.core.rd F.CAN_ERRCNT.TEC = (c.rd F.CAN_ERRCNT.TEC - 1) % 512 ∧
    t.core.rd (F.CAN_OBJ_CFG.TXREQ obj) = 0 ∧ t.core.rd (F.CAN_OBJ_STAT.TXDONE obj) = 1 ∧ 105 ∈ t.core.irq.cross ∧
    (c.on F.CAN_CTRL.TDCEN = true → brs obj = true → t.core.rd F.CAN_STAT.TDCV = tdcv % 128)) ∧
  (∀ q d, c.can.cur = some 32 → c.can.refCur = some (q, d) → Ends acked s fun t => frame t ∧
    t.core.out = .can (c.rd F.CAN_TM_ID.ID) (c.on F.CAN_TM_CFG.XTD) (c.on F.CAN_CTRL.FDEN) false d :: c.out ∧
    t.core.rd F.CAN_TM_TS_NS.NS = ns % 2 ^ 30 ∧ t.core.rd F.CAN_TM_TS_S_LO.S = sec % 2 ^ 32 ∧ t.core.can.refAck = some (q, sec, ns, c.on F.PTP_STAT.LOCK)) ∧
  (c.can.cur = some obj → Ends (.canAckError tdcv) s fun t => frame t ∧ leaves obj t ∧ t.core.rd F.CAN_STAT.LEC = 3 ∧
    t.core.rd F.CAN_ERRCNT.NOACK = min 255 (c.rd F.CAN_ERRCNT.NOACK + 1) ∧
    (c.rd F.CAN_STAT.EST = 0 → t.core.rd F.CAN_ERRCNT.TEC = (c.rd F.CAN_ERRCNT.TEC + 8) % 512) ∧
    (c.rd F.CAN_STAT.EST ≠ 0 → t.core.rd F.CAN_ERRCNT.TEC = c.rd F.CAN_ERRCNT.TEC) ∧
    (31 ≤ c.rd F.CAN_ERRCNT.NOACK → c.on F.CAN_STAT.ALONE = false → t.core.rd F.CAN_STAT.ALONE = 1 ∧ t.core.rd F.CAN_STAT.ALONESEEN = 1 ∧ 106 ∈ t.core.irq.cross) ∧
    (c.can.abort = false → t.core.rd (F.CAN_OBJ_CFG.TXREQ obj) = c.rd (F.CAN_OBJ_CFG.TXREQ obj)) ∧
    (c.can.abort = true → t.core.rd (F.CAN_OBJ_CFG.TXREQ obj) = 0)) ∧
  (c.rd F.CAN_ERRCNT.TEC < 256 ∨ c.rd F.CAN_STAT.EST = 2 → Ends .busOff s fun t => t = s) ∧
  (256 ≤ c.rd F.CAN_ERRCNT.TEC → c.rd F.CAN_STAT.EST ≠ 2 → Ends .busOff s fun t => coreOnly s t ∧
    fieldsOnly [F.CAN_STAT.EST, F.CAN_STAT.BOFFSEEN, F.CAN_CNT2.BOFFCNT] c t.core ∧ t.core.rd F.CAN_STAT.EST = 2 ∧ t.core.rd F.CAN_STAT.BOFFSEEN = 1 ∧
    t.core.rd F.CAN_CNT2.BOFFCNT = min 255 (c.rd F.CAN_CNT2.BOFFCNT + 1) ∧ t.core.can.cur = none ∧ t.core.can.recover = c.on F.CAN_CTRL.AUTOREC ∧ 106 ∈ t.core.irq.cross) ∧
  (c.rd F.CAN_STAT.EST ≠ 2 ∨ c.can.recover = false → Ends .busOffRecovery s fun t => t = s) ∧
  (c.rd F.CAN_STAT.EST = 2 → c.can.recover = true → Ends .busOffRecovery s fun t => coreOnly s t ∧
    fieldsOnly [F.CAN_STAT.EST, F.CAN_ERRCNT.TEC, F.CAN_ERRCNT.REC] c t.core ∧ t.core.rd F.CAN_STAT.EST = 0 ∧ t.core.rd F.CAN_ERRCNT.TEC = 0 ∧
    t.core.rd F.CAN_ERRCNT.REC = 0 ∧ t.core.can.recover = false) ∧
  (c.on F.CAN_CTRL.INIT = false → Ends .canInitRelease s fun t => t = s) ∧
  (c.on F.CAN_CTRL.INIT = true → Ends .canInitRelease s fun t => coreOnly s t ∧ fieldsOnly [F.CAN_CTRL.INIT] c t.core ∧ t.core.rd F.CAN_CTRL.INIT = 0 ∧
    t.core.can.nbt = c.nbtWord ∧ t.core.can.dbt = c.dbtWord ∧ (c.rd F.CAN_STAT.EST = 2 → t.core.can.recover = true)) ∧
  (v = true ∨ Tab.get none c.can.shadow obj = none → Ends (.canLockWrite obj v) s fun t => coreOnly s t ∧ fieldsOnly [F.CAN_OBJ_CFG.LOCK obj] c t.core ∧
    t.core.rd (F.CAN_OBJ_CFG.LOCK obj) = b2n v ∧ t.core.can = c.can) ∧
  (Tab.get none c.can.shadow obj = some f → Ends (.canLockWrite obj false) s fun t => frame t ∧ t.core.rd (F.CAN_OBJ_CFG.LOCK obj) = 0 ∧
    t.core.rd (F.CAN_OBJ_STAT.SHADOW obj) = 0 ∧ Tab.get none t.core.can.shadow obj = none ∧ taken obj f t) ∧
  (c.on F.CAN_TM_CFG.EN = false ∨ c.standby = true → Ends .referenceMessageDue s fun t => t = s) ∧
  (c.on F.CAN_TM_CFG.EN = true → c.standby = false → Ends .referenceMessageDue s fun t => coreOnly s t ∧ fieldsOnly [F.CAN_TM_STAT.SEQ, F.CAN_TM_STAT.REPL] c t.core ∧
    t.core.rd F.CAN_TM_STAT.SEQ = (c.rd F.CAN_TM_STAT.SEQ + 1) % 256 ∧
    (c.can.ref.isSome = true → t.core.rd F.CAN_TM_STAT.REPL = min 65535 (c.rd F.CAN_TM_STAT.REPL + 1)) ∧
    ∃ d, d.length = 7 ∧ t.core.can.ref = some (t.core.rd F.CAN_TM_STAT.SEQ, t.core.rd F.CAN_TM_STAT.SEQ :: d)) ∧
  (off → Ends (.canBusError lec own heavy) s fun t => t = s) ∧
  (¬ off → c.can.cur = none → Ends (.canBusError lec true heavy) s fun t => coreOnly s t ∧ fieldsOnly [F.CAN_STAT.LEC] c t.core ∧ t.core.rd F.CAN_STAT.LEC = lec % 8) ∧
  (¬ off → c.can.cur = some obj → Ends (.canBusError lec true heavy) s fun t => frame t ∧ leaves obj t ∧ t.core.rd F.CAN_STAT.LEC = lec % 8 ∧
    t.core.rd F.CAN_ERRCNT.TEC = min 511 (c.rd F.CAN_ERRCNT.TEC + 8)) ∧
  (¬ off → Ends (.canBusError lec false heavy) s fun t => coreOnly s t ∧ fieldsOnly [F.CAN_STAT.LEC, F.CAN_STAT.EST, F.CAN_ERRCNT.REC] c t.core ∧
    t.core.rd F.CAN_STAT.LEC = lec % 8 ∧ t.core.rd F.CAN_ERRCNT.REC = min 255 (c.rd F.CAN_ERRCNT.REC + (if heavy then 8 else 1)))

/-- SMB0: transfers, results, arbitration retries, bus clear, the Alert Response Address. -/
def Obligations.SmbController : Prop :=
  ∀ (s : State) (busFree high : Bool) (res count a : Nat) (data : List Nat), s.pwr.held = false → res < 8 → data.length ≤ 256 →
  let c := s.core
  let smb := F.SMB_C_CFG.SPEED.block
  let only := fun (l : List Fld) (t : State) => coreOnly s t ∧ fieldsOnly l c t.core
  let stuck := c.on F.SMB_C_STAT.SDASTUCK
  let goes := Out.smb 0 (c.rd F.SMB_C_CMD.PROT) ([c.rd F.SMB_C_CMD.ADDR, c.rd F.SMB_C_CMD.CODE, c.rd F.SMB_C_LEN.WCNT, c.rd F.SMB_C_CMD.PECEN,
    c.rd F.SMB_C_CFG.SPEED] ++ (upTo 64).map (fun k => c.rd (F.SMB_C_DATA.DATA k)))
  let refused := fun (t : State) => only [F.SMB_C_STAT.RESULT, F.SMB_C_STAT.DONE, F.SMB_C_CMD.GO] t ∧ t.core.rd F.SMB_C_STAT.RESULT = 7 ∧
    t.core.rd F.SMB_C_STAT.DONE = 1 ∧ t.core.rd F.SMB_C_CMD.GO = 0 ∧ t.core.smb.run = false ∧ t.core.out = c.out ∧ 108 ∈ t.core.irq.cross
  let started := fun (t : State) => t.core.smb = { c.smb with run := true, want := false } ∧ t.core.out = goes :: c.out
  let ended := fun (r : Nat) (t : State) => coreOnly s t ∧ blocksOnly [smb] c t.core ∧ t.core.rd F.SMB_C_STAT.RESULT = r ∧ t.core.rd F.SMB_C_STAT.DONE = 1 ∧
    t.core.rd F.SMB_C_CMD.GO = b2n c.smb.again ∧ t.core.smb = { c.smb with run := false, want := c.smb.again, again := false, arb := 0 } ∧
    (if r = 0 then 107 else 108) ∈ t.core.irq.cross
  let retries := res = 3 ∧ c.smb.arb < c.rd F.SMB_C_CFG.ARBRETRY
  let keeps := res = 0 ∨ res = 6
  let byteAt := fun (d : Core) (i : Nat) => bitsAt (d.rd (F.SMB_C_DATA.DATA (i / 4))) (8 * (i % 4)) 8
  let round := fun (t : State) => t.core.rd F.SMB_C_STAT.CLEARING = 1 ∧ t.core.smb.phase = 1 ∧ t.core.out = .smb 0 16 [] :: c.out
  (c.smb.run = true → Ends (.smbGo busFree) s fun t => only [F.SMB_C_CMD.GO] t ∧ t.core.rd F.SMB_C_CMD.GO = 1 ∧ t.core.smb = { c.smb with again := true } ∧ t.core.out = c.out) ∧
  (c.smbFree = true → busFree = true → stuck = false → Ends (.smbGo busFree) s fun t => only [F.SMB_C_CMD.GO] t ∧ t.core.rd F.SMB_C_CMD.GO = 1 ∧
    t.core.smb = { c.smb with run := true, want := false, arb := 0 } ∧ t.core.out = goes :: c.out) ∧
  (c.smbFree = true → stuck = true → Ends (.smbGo busFree) s refused) ∧
  (c.smb.run = false → (c.smbFree = false ∨ (busFree = false ∧ stuck = false)) → Ends (.smbGo busFree) s fun t => only [F.SMB_C_CMD.GO] t ∧ t.core.rd F.SMB_C_CMD.GO = 1 ∧
    t.core.smb = { c.smb with want := true, arb := 0 } ∧ t.core.out = c.out) ∧
  (c.smb.want = false ∨ c.smbFree = false → Ends .smb0BusFree s fun t => t = s) ∧
  (c.smb.want = true → c.smbFree = true → stuck = true → Ends .smb0BusFree s refused) ∧
  (c.smb.want = true → c.smbFree = true → stuck = false → Ends .smb0BusFree s fun t => coreOnly s t ∧ noRegister c t.core ∧ started t) ∧
  (c.smb.run = false → ∀ i ∈ [Instr.smb0TransferEnd res count data, .smb0BusTimeout], Ends i s fun t => t = s) ∧
  (c.smb.run = true → retries → Ends (.smb0TransferEnd res count data) s fun t => t = { s with core := { c with smb := { c.smb with run := false, want := true, arb := c.smb.arb + 1 } } }) ∧
  (c.smb.run = true → ¬ retries → Ends (.smb0TransferEnd res count data) s fun t => ended res t ∧ (res = 4 → t.core.rd F.SMB_C_STAT.BUSERR = 1) ∧
    (keeps → ∀ i < data.length, byteAt t.core i = data.getD i 0 % 256) ∧ (¬ keeps → ∀ i < 256, byteAt t.core i = byteAt c i) ∧
    (keeps → c.rd F.SMB_C_CMD.PROT = 10 ∨ c.rd F.SMB_C_CMD.PROT = 11 → t.core.rd F.SMB_C_LEN.RCNT = count % 256)) ∧
  (c.smb.run = true → Ends .smb0BusTimeout s fun t => ended 5 t ∧ fieldsOnly [F.SMB_C_STAT.RESULT, F.SMB_C_STAT.DONE, F.SMB_C_CMD.GO] c t.core) ∧
  (c.smb.sampled = true → Ends (.smbClear true) s fun t => t = s) ∧
  (c.smb.sampled = false → Ends (.smbClear true) s fun t => only [F.SMB_C_STAT.CLEARING] t ∧ round t ∧ t.core.smb.rounds = 0 ∧ t.core.smb.sampled = true) ∧
  (c.smb.run = true ∨ c.smb.phase = 1 ∨ c.smb.phase = 2 → Ends (.smbClear false) s fun t => t = s) ∧
  (c.smb.run = false → c.smb.phase ≠ 1 → c.smb.phase ≠ 2 → Ends (.smbClear false) s fun t => only [F.SMB_C_STAT.CLEARING, F.SMB_C_CTRL.CLEAR] t ∧ round t ∧
    t.core.rd F.SMB_C_CTRL.CLEAR = 1 ∧ t.core.smb.rounds = 0) ∧
  (c.smb.phase ≠ 1 → Ends (.busClearRoundEnd high) s fun t => t = s) ∧
  (c.smb.phase = 1 → Ends (.busClearRoundEnd true) s fun t => only [F.SMB_C_STAT.CLEARING, F.SMB_C_CTRL.CLEAR, F.SMB_C_STAT.SDASTUCK] t ∧
    t.core.rd F.SMB_C_STAT.CLEARING = 0 ∧ t.core.rd F.SMB_C_CTRL.CLEAR = 0 ∧ t.core.rd F.SMB_C_STAT.SDASTUCK = 0 ∧ t.core.smb.phase = 0 ∧
    (c.smb.want = true → c.smb.run = false → c.standby = false → t.core.smb.run = true ∧ t.core.out = goes :: c.out)) ∧
  (c.smb.phase = 1 → stuck = true → Ends (.busClearRoundEnd false) s fun t => only [F.SMB_C_STAT.CLEARING] t ∧ t.core.rd F.SMB_C_STAT.CLEARING = 0 ∧ t.core.smb.phase = 3) ∧
  (c.smb.phase = 1 → stuck = false → 2 ≤ c.smb.rounds → Ends (.busClearRoundEnd false) s fun t => only [F.SMB_C_STAT.CLEARING, F.SMB_C_STAT.SDASTUCK] t ∧
    t.core.rd F.SMB_C_STAT.CLEARING = 0 ∧ t.core.rd F.SMB_C_STAT.SDASTUCK = 1 ∧ t.core.smb.phase = 3 ∧ 108 ∈ t.core.irq.cross) ∧
  (c.smb.phase = 1 → stuck = false → c.smb.rounds < 2 → Ends (.busClearRoundEnd false) s fun t => t = { s with core := { c with smb := { c.smb with phase := 2, rounds := c.smb.rounds + 1 } } }) ∧
  (c.smb.phase ≠ 2 → Ends .busClearHoldEnd s fun t => t = s) ∧
  (c.smb.phase = 2 → Ends .busClearHoldEnd s fun t => only [F.SMB_C_STAT.CLEARING] t ∧ round t) ∧
  (c.smb.phase ≠ 3 → Ends .busClearRetry s fun t => t = s) ∧
  (c.smb.phase = 3 → Ends .busClearRetry s fun t => only [F.SMB_C_STAT.CLEARING] t ∧ round t) ∧
  (c.on F.SMB_C_CFG.AUTOARA = false ∨ c.smbFree = false → ∀ x ∈ [none, some a], Ends (.smbAlert x) s fun t => t = s) ∧
  (c.on F.SMB_C_CFG.AUTOARA = true → c.smbFree = true →
    (Ends (.smbAlert (some a)) s fun t => only [F.SMB_C_ALERT.ADDR, F.SMB_C_STAT.ALERTSEEN, F.SMB_C_ALERT.COUNT] t ∧ t.core.rd F.SMB_C_ALERT.ADDR = a % 128 ∧
      t.core.rd F.SMB_C_STAT.ALERTSEEN = 1 ∧ t.core.rd F.SMB_C_ALERT.COUNT = min 65535 (c.rd F.SMB_C_ALERT.COUNT + 1) ∧ 111 ∈ t.core.irq.cross) ∧
    (Ends (.smbAlert none) s fun t => only [F.SMB_C_STAT.ALERTNAK] t ∧ t.core.rd F.SMB_C_STAT.ALERTNAK = 1))

/-- SMB1: block writes commit into one word, block reads return it, refusals, time-out, alert. -/
def Obligations.SmbTarget : Prop :=
  ∀ (s : State) (addr code : Nat) (data : List Nat) (pecByte : Option Nat) (prev won : Bool) (fin : SmbEnd), s.pwr.held = false →
  let c := s.core
  let only := fun (l : List Fld) (t : State) => coreOnly s t ∧ fieldsOnly l c t.core
  let write := Instr.smb1BlockWrite addr code data pecByte prev fin
  let read := Instr.smb1BlockRead addr code prev fin
  let mine := addr = c.rd F.SMB_T_CFG.ADDR ∧ c.standby = false
  let full := c.on F.SMB_T_CFG.OVWR = false ∧ c.rd F.SMB_T_NEW.NEW ≠ 0
  let busy := prev = true ∨ c.on F.SMB_T_CFG.EN = false
  let fits := 32 ≤ code ∧ code ≤ 63 ∧ 1 ≤ data.length ∧ data.length ≤ 4
  let cut := fin = .start ∨ fin = .stop
  let asks := c.on F.SMB_T_CFG.PECREQ
  let good := pecByte = some (pec 0 ([2 * addr, code, data.length] ++ data))
  let nak := fun (t : State) => only [F.SMB_T_STAT.BUSYNAK] t ∧ t.core.rd F.SMB_T_STAT.BUSYNAK = min 65535 (c.rd F.SMB_T_STAT.BUSYNAK + 1)
  let proto := fun (t : State) => only [F.SMB_T_STAT.PROTOERR] t ∧ t.core.rd F.SMB_T_STAT.PROTOERR = 1 ∧ 110 ∈ t.core.irq.cross
  let word := F.SMB_T_WINB.WORD (code - 32)
  let stored := fun (t : State) => (∀ i < 4, bitsAt (t.core.rd word) (8 * i) 8 = if i < data.length then data.getD i 0 % 256 else bitsAt (c.rd word) (8 * i) 8) ∧
    bitAt (t.core.rd F.SMB_T_NEW.NEW) (code - 32) = true ∧ 109 ∈ t.core.irq.cross
  let value := if code < 32 then c.rd (F.SMB_T_WIN.WORD code) else c.rd (F.SMB_T_WINB.WORD (code - 32))
  let bytes := [4, value % 256, value / 256 % 256, value / 65536 % 256, value / 16777216 % 256]
  (¬ mine → ∀ i ∈ [write, read], Ends i s fun t => t = s) ∧
  (mine → busy ∨ full → Ends write s nak) ∧
  (mine → busy → Ends read s nak) ∧
  (mine → ¬ busy → ¬ full → ¬ fits → Ends write s fun t => t = s) ∧
  (mine → ¬ busy → ¬ full → fits → cut ∨ (asks = true ∧ pecByte = none) → Ends write s proto) ∧
  (mine → ¬ busy → ¬ full → fits → fin = .normal → (asks = true ∧ good) ∨ (asks = false ∧ pecByte = none) → Ends write s fun t =>
    only [word, F.SMB_T_NEW.NEW] t ∧ stored t) ∧
  (mine → ¬ busy → ¬ full → fits → ¬ cut → (asks = true ∧ good ∧ fin = .extra) ∨ (asks = false ∧ (fin = .extra ∨ pecByte ≠ none)) → Ends write s fun t =>
    only [word, F.SMB_T_NEW.NEW, F.SMB_T_STAT.PROTOERR] t ∧ stored t ∧ t.core.rd F.SMB_T_STAT.PROTOERR = 1 ∧ 110 ∈ t.core.irq.cross) ∧
  (mine → ¬ busy → ¬ full → fits → ¬ cut → asks = true → pecByte ≠ none → ¬ good → Ends write s fun t => only [F.SMB_T_STAT.PECERR] t ∧
    t.core.rd F.SMB_T_STAT.PECERR = 1 ∧ 110 ∈ t.core.irq.cross) ∧
  (mine → ¬ busy → 63 < code → Ends read s fun t => t = s) ∧
  (mine → ¬ busy → code ≤ 63 → cut → Ends read s proto) ∧
  (mine → ¬ busy → code ≤ 63 → ¬ cut → Ends read s fun t => coreOnly s t ∧ noRegister c t.core ∧
    t.core.out = .smb 1 1 (if asks then bytes ++ [pec 0 ([2 * addr, code, 2 * addr + 1] ++ bytes)] else bytes) :: c.out) ∧
  (Ends .smb1Timeout s fun t => only [F.SMB_T_STAT.TIMEOUT] t ∧ t.core.rd F.SMB_T_STAT.TIMEOUT = 1 ∧ 110 ∈ t.core.irq.cross) ∧
  (Ends .smbAlertSet s fun t => only [F.SMB_T_CTRL.ALERT] t ∧ t.core.rd F.SMB_T_CTRL.ALERT = 1 ∧ t.core.out = .pin alertPin 0 :: c.out) ∧
  (c.on F.SMB_T_CTRL.ALERT = false → Ends .smbAlertClr s fun t => t = s) ∧
  (c.on F.SMB_T_CTRL.ALERT = true → Ends .smbAlertClr s fun t => only [F.SMB_T_CTRL.ALERT] t ∧ t.core.rd F.SMB_T_CTRL.ALERT = 0 ∧ t.core.out = .pin alertPin 1 :: c.out) ∧
  (c.on F.SMB_T_CTRL.ALERT = false ∨ c.standby = true → Ends (.smb1AlertResponse won) s fun t => t = s) ∧
  (c.on F.SMB_T_CTRL.ALERT = true → c.standby = false →
    (Ends (.smb1AlertResponse false) s fun t => coreOnly s t ∧ noRegister c t.core ∧ t.core.out = .smb 1 2 [2 * c.rd F.SMB_T_CFG.ADDR] :: c.out) ∧
    (Ends (.smb1AlertResponse true) s fun t => only [F.SMB_T_CTRL.ALERT, F.SMB_T_STAT.ARADONE] t ∧ t.core.rd F.SMB_T_CTRL.ALERT = 0 ∧
      t.core.rd F.SMB_T_STAT.ARADONE = 1 ∧ t.core.out = .pin alertPin 1 :: .smb 1 2 [2 * c.rd F.SMB_T_CFG.ADDR] :: c.out))

/-- The recorder: a new record, a merge, an ESN_MARK; the event frame; the window. -/
def Obligations.RecorderCommands : Prop :=
  ∀ (s : State) (e : SeqEv) (rest : List SeqEv) (i slot : Nat), s.pwr.held = false →
  let c := s.core
  let evr := F.EVR_STAT.WPTR.block
  let w := c.rd F.EVR_STAT.WPTR
  let waits := s.pwr.vin = .holdUp ∧ c.est.saving.isSome = true
  let near := c.ev.beyond < 32768 ∧ ¬ waits
  let repeats := c.ev.recent.find? (fun k => (s.nv.slot k).same e)
  let frame := fun (t : State) => nvOnly s t ∧ blocksOnly [evr] c t.core ∧ t.nv = { s.nv with recs := t.nv.recs }
  let written := fun (r : Rec) (t : State) => t.nv.slot w = r ∧ t.core.rd F.EVR_STAT.WPTR = (w + 1) % 65536 ∧
    t.core.rd F.EVR_CNT.RECORDS = (c.rd F.EVR_CNT.RECORDS + 1) % 2 ^ 32 ∧ (w = 65535 → t.core.rd F.EVR_STAT.WRAP = 1 ∧ 113 ∈ t.core.irq.cross)
  let data := fun p => c.ethHead p (c.rd F.EVR_MCAST_LO.ADDR + 2 ^ 32 * c.rd F.EVR_MCAST_HI.ADDR) 0 0 (c.rd F.EVR_NET.ETYPE) ++
    (c.ev.eth.take 16).flatMap (fun x => x.bytes 0)
  let sent := fun p => if portUp p c then [Out.eth p 3 (data p)] else []
  (near → c.ev.recq = [] → Ends .eventRecord s fun t => t = s) ∧
  (waits → Ends .eventRecord s fun t => t = s) ∧
  (32768 ≤ c.ev.beyond → ¬ waits → Ends .eventRecord s fun t => frame t ∧ written ⟨c.lastEsn, 4096, 0, s.aon.ops, s.aon.pwrcyc, 0, 0, 4, 165, 0, []⟩ t ∧
    (∀ k, k ≠ w → t.nv.slot k = s.nv.slot k) ∧ t.core.ev.recq = c.ev.recq) ∧
  (near → c.ev.recq = e :: rest → repeats = none → Ends .eventRecord s fun t => frame t ∧
    written ⟨e.esn, e.ev.code, e.ev.src, e.ops, e.pwrcyc, 0, 0, b2n e.hold, 165, e.ev.prim, e.ev.stat⟩ t ∧ (∀ k, k ≠ w → t.nv.slot k = s.nv.slot k) ∧
    t.core.ev.recq = rest ∧ t.core.rd F.EVR_NEWEST_LO.ESN = e.esn % 2 ^ 32 ∧ 112 ∈ t.core.irq.cross) ∧
  (near → c.ev.recq = e :: rest → repeats = some i → (s.nv.slot i).rep ≠ 65535 → e.esn - (s.nv.slot i).esn < 2 ^ 32 → Ends .eventRecord s fun t => frame t ∧
    t.nv.slot i = { s.nv.slot i with rep := (s.nv.slot i).rep + 1, ldelta := e.esn - (s.nv.slot i).esn } ∧ (∀ k, k ≠ i → t.nv.slot k = s.nv.slot k) ∧
    t.core.ev.recq = rest ∧ t.core.rd F.EVR_STAT.WPTR = w ∧ t.core.rd F.EVR_MCNT.MERGES = (c.rd F.EVR_MCNT.MERGES + 1) % 2 ^ 32) ∧
  (near → c.ev.recq = e :: rest → repeats = some i → (s.nv.slot i).rep = 65535 ∨ 2 ^ 32 ≤ e.esn - (s.nv.slot i).esn → Ends .eventRecord s fun t => frame t ∧
    written ⟨e.esn, e.ev.code, e.ev.src, e.ops, e.pwrcyc, 0, 0, b2n e.hold, 165, e.ev.prim, e.ev.stat⟩ t ∧
    (i ≠ w → t.nv.slot i = { s.nv.slot i with flags := Nat.lor (s.nv.slot i).flags 2 }) ∧ (∀ k, k ≠ w → k ≠ i → t.nv.slot k = s.nv.slot k) ∧
    t.core.ev.recq = rest ∧ 112 ∈ t.core.irq.cross) ∧
  (c.ev.eth = [] ∨ c.standby = true → Ends .eventFrameSend s fun t => t = s) ∧
  (c.ev.eth ≠ [] → c.standby = false → Ends .eventFrameSend s fun t => coreOnly s t ∧ fieldsOnly [F.NET_TXOK.COUNT 0, F.NET_TXOK.COUNT 1] c t.core ∧
    t.core.ev = { c.ev with eth := c.ev.eth.drop 16 } ∧ t.core.out = sent 2 ++ sent 1 ++ c.out ∧ ∀ p, (data p).length = 14 + 64 * min 16 c.ev.eth.length) ∧
  (Ends (.evrWindowSelect slot) s fun t => coreOnly s t ∧ blocksOnly [evr] c t.core ∧ t.core.rd F.EVR_WSEL.SLOT = slot % 65536 ∧
    t.core.rd F.EVR_WSEL.WVALID = b2n (s.nv.slot (slot % 65536)).valid ∧
    ∀ k < 16, t.core.rd (F.EVR_W.DATA k) = if (s.nv.slot (slot % 65536)).valid then wordAt (s.nv.slot (slot % 65536)).bytes k % 2 ^ 32 else 0)

/-- The service port: attachment, HELLO, AUTH and its lockout, requests within a session. -/
def Obligations.ServiceCommands : Prop :=
  ∀ (s : State) (off v idx key : Nat) (late ok b : Bool) (data words : List Nat), s.pwr.held = false →
  let c := s.core
  let requests := [Instr.svcRegRead off, .svcEvrRead idx, .svcUpload off data ok ok v, .updCommit, .updCancel, .blcWrite words ok,
    .svcReset, .svcStatus, .sessionEnd]
  let here := c.on F.SVC_STAT.ATTACH = true
  let inside := here ∧ c.on F.SVC_STAT.SESSION = true
  let only := fun (l : List Fld) (t : State) => coreOnly s t ∧ fieldsOnly l c t.core
  let tells := fun (status : Nat) (d : List Nat) (t : State) => t.core.out = .usb status d :: c.out ∧
    (c.rd F.GLB_BOOT.STAGE = 3 → 117 ∈ t.core.irq.cross)
  let closed := fun (t : State) => t.core.rd F.SVC_STAT.SESSION = 0 ∧ t.core.rd F.SVC_STAT.KEY = 0 ∧ 116 ∈ t.core.irq.cross
  let barred := c.on F.SVC_CTRL.BLOCK = true ∨ (c.on F.BLC_SEAL.SEALED = false ∧ c.rd F.GLB_BOOT.STAGE ≠ 7) ∨ c.on F.SVC_STAT.LOCKOUT = true
  let good := ok = true ∧ c.svc.nonce ≠ none
  (¬ here → ∀ i ∈ .svcHello :: .svcAuth key ok :: .svcRegWrite off v late :: requests, Ends i s fun t => t = s) ∧
  (here → c.on F.SVC_STAT.SESSION = false → ∀ i ∈ requests, Ends i s fun t => only [] t ∧ tells 1 [] t) ∧
  (here → c.on F.SVC_STAT.SESSION = false → Ends (.svcRegWrite off v late) s fun t =>
    only [F.GLB_ACCVIOL.COUNT, F.GLB_ACCVIOL.MASTER, F.GLB_ACCVIOL.KIND, F.GLB_ACCVIOL_ADDR.OFFSET] t ∧ tells 1 [] t ∧
    t.core.rd F.GLB_ACCVIOL.COUNT = min 65535 (c.rd F.GLB_ACCVIOL.COUNT + 1) ∧ t.core.rd F.GLB_ACCVIOL_ADDR.OFFSET = off % 524288) ∧
  (Ends (.usbAttachChange true) s fun t => only [F.SVC_STAT.ATTACH] t ∧ t.core.rd F.SVC_STAT.ATTACH = 1) ∧
  (c.on F.SVC_STAT.SESSION = true → Ends (.usbAttachChange false) s fun t => only [F.SVC_STAT.ATTACH, F.SVC_STAT.SESSION, F.SVC_STAT.KEY] t ∧
    t.core.rd F.SVC_STAT.ATTACH = 0 ∧ closed t) ∧
  (here → Ends .svcHello s fun t => only [] t ∧ ∃ x : Int, t.core.svc.nonce = some x ∧
    tells 0 [c.rd2 F.GLB_SER_LO.SER F.GLB_SER_HI.SER, 9590, c.rd F.UPD_RUNVER.VER, c.rd F.UPD_RUNVER.SVER, c.updStat, x.toNat] t) ∧
  (here → barred → Ends (.svcAuth key ok) s fun t => only [] t ∧ tells 2 [] t) ∧
  (here → ¬ barred → good → Ends (.svcAuth key ok) s fun t => only [F.SVC_STAT.SESSION, F.SVC_STAT.KEY, F.SVC_STAT.FAILS, F.SVC_CNT.SESSIONS] t ∧ tells 0 [] t ∧
    t.core.rd F.SVC_STAT.SESSION = 1 ∧ t.core.rd F.SVC_STAT.KEY = key % 4 ∧ t.core.rd F.SVC_STAT.FAILS = 0 ∧ 116 ∈ t.core.irq.cross) ∧
  (here → ¬ barred → ¬ good → Ends (.svcAuth key ok) s fun t => only [F.SVC_STAT.FAILS, F.SVC_CNT.AUTHFAIL, F.SVC_STAT.LOCKOUT, F.SVC_STAT.LOCKT] t ∧ tells 2 [] t ∧
    t.core.rd F.SVC_STAT.FAILS = (c.rd F.SVC_STAT.FAILS + 1) % 4 ∧ t.core.rd F.SVC_CNT.AUTHFAIL = min 65535 (c.rd F.SVC_CNT.AUTHFAIL + 1) ∧
    (c.rd F.SVC_STAT.FAILS < 2 → t.core.rd F.SVC_STAT.LOCKOUT = c.rd F.SVC_STAT.LOCKOUT) ∧
    (2 ≤ c.rd F.SVC_STAT.FAILS → t.core.rd F.SVC_STAT.LOCKOUT = 1 ∧ t.core.rd F.SVC_STAT.LOCKT = 600)) ∧
  (c.svc.lockMs ≠ 0 ∨ c.on F.SVC_STAT.LOCKOUT = false → Ends .authLockoutEnd s fun t => t = s) ∧
  (c.svc.lockMs = 0 → c.on F.SVC_STAT.LOCKOUT = true → Ends .authLockoutEnd s fun t => only [F.SVC_STAT.LOCKOUT, F.SVC_STAT.FAILS, F.SVC_STAT.LOCKT] t ∧
    t.core.rd F.SVC_STAT.LOCKOUT = 0 ∧ t.core.rd F.SVC_STAT.FAILS = 0 ∧ t.core.rd F.SVC_STAT.LOCKT = 0) ∧
  (c.on F.SVC_STAT.SESSION = false → Ends .serviceSessionTimeout s fun t => t = s) ∧
  (c.on F.SVC_STAT.SESSION = true → Ends .serviceSessionTimeout s fun t => only [F.SVC_STAT.SESSION, F.SVC_STAT.KEY] t ∧ closed t) ∧
  (Ends (.svcBlock b) s fun t => only (if b then [F.SVC_CTRL.BLOCK, F.SVC_STAT.SESSION, F.SVC_STAT.KEY] else [F.SVC_CTRL.BLOCK]) t ∧
    t.core.rd F.SVC_CTRL.BLOCK = b2n b ∧ (b = true → c.on F.SVC_STAT.SESSION = true → closed t)) ∧
  (inside →
    (Ends (.svcRegRead off) s fun t => only [] t ∧ tells 0 (leBytes 4 (c.busRead .svc off 15)) t) ∧
    (Ends (.svcRegWrite 0x20 v late) s fun t => only [F.GLB_SCRATCH.DATA] t ∧ t.core.rd F.GLB_SCRATCH.DATA = v % 2 ^ 32 ∧ tells 0 [] t) ∧
    (Ends (.svcEvrRead idx) s fun t => only [] t ∧ tells 0 (((evrFrom s.nv 0 (idx + 1)).drop idx).flatMap Rec.bytes) t) ∧
    (Ends .svcStatus s fun t => only [] t ∧ tells 0 c.updWords t) ∧
    (Ends .sessionEnd s fun t => only [F.SVC_STAT.SESSION, F.SVC_STAT.KEY] t ∧ tells 0 [] t ∧ closed t) ∧
    (Ends (.blcWrite words ok) s fun t => nvOnly s t ∧ t.nv = { s.nv with blc := words, blcOk := ok } ∧ noRegister c t.core ∧ tells 0 [] t) ∧
    (s.pwr.vin = .on → s.pwr.pcycLow = false → Ends .svcReset s fun t => t.pwr.restart = 2 ∧ t.core.rd F.GLB_BOOT.STAGE = 0 ∧ t.core.rd F.GLB_RSTCAUSE.LAST = 2 ∧ t.core.wait = [] ∧
      t.saf = s.saf ∧ t.aon = s.aon ∧ .usb 0 [] ∈ t.core.out) ∧
    (s.pwr.vin ≠ .on ∨ s.pwr.pcycLow = true → Ends .svcReset s fun t => only [] t ∧ tells 0 [] t))

/-- Field update: upload and its checks, chunks and checkpoints, resume, COMMIT, CANCEL, confirmation. -/
def Obligations.UpdateCommands : Prop :=
  ∀ (s : State) (off sfw : Nat) (data : List Nat) (sigOk hashOk : Bool) (k : Ckpt), s.pwr.held = false →
  let c := s.core
  let u := s.nv.upd
  let upd := F.UPD_STAT.STATE.block
  let inside := c.on F.SVC_STAT.ATTACH = true ∧ c.on F.SVC_STAT.SESSION = true
  let frame := fun (t : State) => nvOnly s t ∧ blocksOnly [upd] c t.core
  let banks := fun (t : State) => t.nv = { s.nv with upd := t.nv.upd }
  let shows := fun (st : Nat) (t : State) => t.nv.upd.state = st ∧ t.core.rd F.UPD_STAT.STATE = st
  let load := Instr.svcUpload off data sigOk hashOk sfw
  let got := if off = 0 then 0 else u.got
  let opens := inside ∧ c.rd F.GLB_BOOT.STAGE ≠ 7 ∧ u.state < 3 ∧ (off = 0 ∨ u.state = 1)
  let word := fun (i : Nat) => data.getD i 0 % 256 + 256 * (data.getD (i + 1) 0 % 256)
  let tells := fun (status : Nat) (t : State) => ∃ d, t.core.out = .usb status d :: c.out
  let gone := fun (err : Nat) (t : State) => frame t ∧ shows 0 t ∧ t.nv.upd.pkg = [] ∧ t.core.rd F.UPD_STAT.ERR = err
  let fails := fun (t : State) => frame t ∧ shows 0 t ∧ (t.nv.img s.nv.target).valid = false ∧ t.nv.img (!s.nv.target) = s.nv.img (!s.nv.target)
  let applying := u.state = 3 ∧ c.svc.resume = false
  let chunk := Instr.chunkApplied hashOk sfw
  let resumes := c.svc.resume = true ∧ u.state = 3 ∧ c.on F.GLB_BOOT.READY = true
  let due := c.on F.UPD_STAT.TRIAL = true ∧ c.on F.GLB_BOOT.READY = true ∧ c.svc.readyOps + 1000 * max 1 (c.rd F.UPD_CFG.CONFIRMT) ≤ s.aon.ops ∧ u.pend ≠ none
  (inside → 3 ≤ u.state → Ends load s fun t => coreOnly s t ∧ fieldsOnly [F.UPD_STAT.ERR] c t.core ∧ t.core.rd F.UPD_STAT.ERR = 10 ∧ tells 2 t) ∧
  (opens → (if off ≤ got then max got (off + data.length) else got) < 88 → Ends load s fun t => frame t ∧ banks t ∧ shows 1 t ∧
    ∀ i < data.length, Tab.get 0 t.nv.upd.pkg (off + i) = data.getD i 0) ∧
  (opens → off = 0 → 88 ≤ data.length → word 0 ≠ 1 → Ends load s fun t => gone 1 t ∧ banks t ∧ tells 2 t) ∧
  (opens → off = 0 → 88 ≤ data.length → word 0 = 1 → data.getD 2 0 % 256 = 1 → word 4 ≠ 9590 → Ends load s fun t => gone 2 t ∧ banks t ∧ tells 2 t) ∧
  (opens → u.state = 1 → u.headOk = true → 88 ≤ off → off ≤ u.got → u.whole ≤ off + data.length →
    (sigOk = false → Ends load s fun t => gone 5 t ∧ banks t ∧ tells 2 t) ∧
    (sigOk = true → Ends load s fun t => frame t ∧ banks t ∧ shows 3 t ∧ t.core.rd F.UPD_STAT.ERR = 0 ∧ t.core.rd F.UPD_PROG.DONE = 0 ∧
      t.nv.upd.ver = u.field 12 2 ∧ t.nv.upd.hash = u.field 56 32 ∧ t.nv.upd.total = ceilDiv (u.field 20 4) 65536 ∧ tells 0 t)) ∧
  (¬ applying → Ends chunk s fun t => t = s) ∧
  (applying → c.svc.stop = true → Ends chunk s fails) ∧
  (applying → c.svc.stop = false → u.done + 1 < u.total → Ends chunk s fun t => frame t ∧ banks t ∧ shows 3 t ∧ t.nv.upd.done = u.done + 1 ∧
    t.core.rd F.UPD_PROG.DONE = (u.done + 1) % 65536 ∧ t.nv.upd.governs.map Ckpt.chunks = some (u.done + 1) ∧ 114 ∈ t.core.irq.cross) ∧
  (applying → c.svc.stop = false → u.total ≤ u.done + 1 → hashOk = true → Ends chunk s fun t => frame t ∧ shows 4 t ∧
    t.nv.img s.nv.target = ⟨true, u.ver, u.sver, u.hash, sfw⟩ ∧ t.nv.img (!s.nv.target) = s.nv.img (!s.nv.target) ∧ 115 ∈ t.core.irq.cross) ∧
  (applying → c.svc.stop = false → u.total ≤ u.done + 1 → hashOk = false → Ends chunk s fun t => fails t ∧ t.core.rd F.UPD_STAT.ERR = 9 ∧ 115 ∈ t.core.irq.cross) ∧
  (¬ resumes → Ends (.applyResume sigOk) s fun t => t = s) ∧
  (resumes → sigOk = true → u.governs = some k → Ends (.applyResume sigOk) s fun t => frame t ∧ banks t ∧ shows 3 t ∧ t.nv.upd.done = k.chunks ∧
    t.core.rd F.UPD_STAT.RESUMED = 1 ∧ t.core.svc.resume = false) ∧
  (resumes → sigOk = false ∨ u.governs = none → Ends (.applyResume sigOk) s fun t => fails t ∧ t.core.rd F.UPD_STAT.ERR = 9) ∧
  (inside → u.state = 4 → Ends .updCommit s fun t => frame t ∧ banks t ∧ shows 5 t ∧ t.nv.upd.pend = some (!u.act) ∧ t.nv.upd.tries = 0 ∧ tells 0 t) ∧
  (inside → u.state ≠ 4 → Ends .updCommit s fun t => coreOnly s t ∧ fieldsOnly [F.UPD_STAT.ERR] c t.core ∧ t.core.rd F.UPD_STAT.ERR = 10 ∧ tells 2 t) ∧
  (inside → c.on F.UPD_STAT.TRIAL = true → Ends .updCancel s fun t => frame t ∧ banks t ∧ shows 0 t ∧ t.nv.upd.pend = none ∧ tells 0 t) ∧
  (inside → c.on F.UPD_STAT.TRIAL = false → u.state = 5 → Ends .updCancel s fun t => frame t ∧ banks t ∧ shows 4 t ∧ t.nv.upd.pend = none ∧ tells 0 t) ∧
  (inside → c.on F.UPD_STAT.TRIAL = false → u.state = 3 → Ends .updCancel s fun t => coreOnly s t ∧ noRegister c t.core ∧ t.core.svc.stop = true ∧ tells 0 t) ∧
  (inside → c.on F.UPD_STAT.TRIAL = false → u.state ∉ [3, 5] → Ends .updCancel s fun t => coreOnly s t ∧ noRegister c t.core ∧ t.core.svc = c.svc ∧ tells 2 t) ∧
  (¬ due → Ends .imageConfirm s fun t => t = s) ∧
  (due → Ends .imageConfirm s fun t => frame t ∧ shows 0 t ∧ t.nv.upd.act = c.svc.run ∧ t.nv.upd.pend = none ∧ t.core.rd F.UPD_STAT.TRIAL = 0 ∧
    t.core.rd F.UPD_CNT.APPLIED = min 65535 (c.rd F.UPD_CNT.APPLIED + 1) ∧ t.nv.region.get F.UPD_CNT.APPLIED = t.core.rd F.UPD_CNT.APPLIED ∧
    t.nv.imgA = s.nv.imgA ∧ t.nv.imgB = s.nv.imgB)

/-- The die temperature: TEMP and MAX, the throttle level, 125 °C and 132 °C. -/
def Obligations.ThermalEvaluate : Prop :=
  ∀ (s : State) (t : Int), s.pwr.held = false → s.core.thm.lvl ≤ 2 →
  let c := s.core
  let m := c.thm
  let thm := F.THM_TEMP.TEMP.block
  let eval := Instr.thermalEvaluate t
  let third := m.hot = 2 ∧ 1250 ≤ t
  let low := min 2 (c.rd F.THM_LVL.MINLVL)
  let level := fun (lvl cool : Nat) (u : State) => u.core.thm.lvl = lvl ∧ u.core.thm.cool = cool ∧ u.core.rd F.THM_LVL.LVL = max lvl low ∧
    (c.rd F.THM_LVL.LVL ≠ max lvl low → 120 ∈ u.core.irq.cross)
  let reads := fun (u : State) => coreOnly s u ∧ blocksOnly [thm] c u.core ∧ u.core.rd F.THM_TEMP.TEMP = ofSigned 16 t ∧
    (-32768 ≤ t → c.rd F.THM_TEMP.MAX < 65536 → u.core.rdS F.THM_TEMP.MAX = max t (c.rdS F.THM_TEMP.MAX)) ∧ u.core.thm.hot = if 1250 ≤ t then m.hot + 1 else 0
  (t < 1320 → ¬ third → Ends eval s fun u => reads u ∧
    (1200 ≤ t → level 2 0 u) ∧
    (1100 ≤ t → t < 1200 → m.lvl ≤ 1 → level 1 0 u) ∧
    (1150 < t → t < 1200 → m.lvl = 2 → level 2 0 u) ∧
    (t ≤ 1150 → m.lvl = 2 → m.cool + 1 < 10000 → level 2 (m.cool + 1) u) ∧
    (t ≤ 1150 → m.lvl = 2 → 10000 ≤ m.cool + 1 → level 1 0 u) ∧
    (1050 < t → t < 1100 → m.lvl = 1 → level 1 0 u) ∧
    (t ≤ 1050 → m.lvl = 1 → m.cool + 1 < 10000 → level 1 (m.cool + 1) u) ∧
    (t ≤ 1050 → m.lvl = 1 → 10000 ≤ m.cool + 1 → level 0 0 u) ∧
    (t < 1100 → m.lvl = 0 → level 0 0 u)) ∧
  (t < 1320 → third → c.active = false ∨ c.on F.RED_STAT.SBYVALID = false → Ends eval s fun u => coreOnly s u ∧ blocksOnly [thm] c u.core ∧
    u.core.rd F.THM_LVL.HOTSEEN = 1 ∧ 121 ∈ u.core.irq.cross ∧ ⟨F.CNV_CTRL.ON, 0, .normal, false, .super⟩ ∈ u.core.wait ∧
    (c.est.estab = true → c.est.saving = none → u.core.est.saving = some 4)) ∧
  (t < 1320 → third → c.active = true → c.on F.RED_STAT.SBYVALID = true → Ends eval s fun u => coreOnly s u ∧ u.core.rd F.THM_LVL.HOTSEEN = 1 ∧
    121 ∈ u.core.irq.cross ∧ u.core.rd F.RED_CTRL.HANDOVER = 1 ∧ u.core.red.hoCause = 2 ∧ u.core.wait = c.wait ∧
    (c.est.estab = true → c.est.saving = none → u.core.est.saving = some 4)) ∧
  (1320 ≤ t → s.pwr.vin = .on → s.pwr.pcycLow = false → Ends eval s fun u => u.pwr = { s.pwr with pcycLow := true } ∧ (s.core.prot.vioA = true → u.core.out.head? = some (.pin 1 0)) ∧
    u.saf = s.saf ∧ u.aon = s.aon)

/-- A step runs the command at the front of the queue on the machine with the rest of the queue. The queue is the model's own (assumption 1). -/
def Obligations.StepRunsCommand : Prop :=
  ∀ (c : Instr) (s : State) (rest : List Instr), s.pending = c :: rest → step s = exec c { s with pending := rest }

/-- On an empty queue the block idles: what happens at a tick, a millisecond or an expiry is itself a command. This is the model's choice (assumption 1). -/
def Obligations.IdleStep : Prop :=
  ∀ s : State, s.pending = [] → step s = .next s

/-- The machine right after a power-on reset: register fields at their reset values, Spelt, no ring, no tick, no output energised, the restart interlock armed; the invariants of a run hold. Where the spec gives no reset value, the value is the model's choice (assumptions 7 to 9). -/
def Obligations.ResetState : Prop :=
  let s := State.reset
  let c := s.core
  s.pending = [] ∧ s.up ∧ s.stored ∧ s.canonical = true ∧ c.wait = [] ∧ c.tick.running = false ∧ c.rd F.TICK_PROFILE.ACT = 0 ∧
  c.rd F.GLB_BOOT.STAGE = 0 ∧ c.rd F.GLB_RSTCAUSE.LAST = 1 ∧ c.rd F.TICK_PWRCYC.PWRCYC = s.aon.pwrcyc ∧
  (∀ f : Fld, f.key ≠ F.GLB_RSTCAUSE.LAST.key → f.key ≠ F.TICK_PWRCYC.PWRCYC.key → c.rd f = f.reset) ∧
  (∀ r < 64, c.rst r = 0) ∧ (∀ k, s.energised k = false) ∧ s.saf.conf = false ∧ s.saf.rst = true ∧ s.saf.safe = false

/-- Every command ends in a next state, leaves the queue alone, and only power and clock commands move the time bases. -/
def Obligations.EveryCommandKeepsQueue : Prop :=
  ∀ (c : Instr) (s : State), ∃ t, exec c s = .next t ∧ t.pending = s.pending ∧
  (c ∉ [Instr.powerOn, .powerOnResetRelease, .inputLoss, .holdUpEnd, .opsStore, .opsRefresh] → t.aon = s.aon ∧ t.pwr.vin = s.pwr.vin)

/-- Every step keeps the stored time bases at or below the running ones, and TB_OPS falls only to its last store at a power-on. -/
def Obligations.TimeBasesNeverDecrease : Prop :=
  ∀ s t : State, step s = .next t → s.stored →
  t.stored ∧ (t.aon.ops < s.aon.ops → (∃ rest, s.pending = .powerOn :: rest) ∧ t.aon.ops = s.aon.storedOps)

/-- The active parameter set changes only at a channel exchange that takes a confirmation whose conditions hold. -/
def Obligations.ActiveSetChanges : Prop :=
  ∀ s t : State, step s = .next t → t.saf.activeSet ≠ s.saf.activeSet →
  (∃ q rest, s.pending = .channelExchange q :: rest) ∧ s.saf.stgOk = true ∧ s.saf.cvA = s.saf.cvB ∧ s.core.gatesOn = false ∧
  (∃ val, s.saf.ask = some val ∧ (∀ v, val = some v → v = s.saf.cvA) ∧ t.saf.path = if val.isSome then 1 else 2) ∧
  t.saf.conf = true ∧ t.saf.act = s.saf.stg ∧ t.saf.cvAct = s.saf.cvA ∧
  ∃ u, t = hifSettle u ∧ u.saf.rst = true ∧ ∀ k < 6, u.energised k = false

/-- An output is newly energised only with an active set, safe gates, finished power-on diagnostics and no safe state. -/
def Obligations.OutputsEnergise : Prop :=
  ∀ s t : State, step s = .next t → ∀ k, s.energised k = false → t.energised k = true →
  t.saf.conf = true ∧ t.saf.gatesSafe = true ∧ t.saf.diagDone = true ∧ s.saf.safe = false

/-- A device reset or hot reset returns every register to its reset value and leaves the channels alone. -/
def Obligations.DeviceResetRegisters : Prop :=
  ∀ s : State, s.up → s.pwr.pcycLow = false → ∀ c ∈ [Instr.deviceReset, .hotReset],
  let kept := [F.GLB_RSTCAUSE.LAST, F.GLB_RSTCAUSE.PCYCREQ, F.GLB_RSTCAUSE.PCYCFAIL, F.GLB_RSTCAUSE.WDCNT, F.GLB_RSTCAUSE.DEVCNT, F.TICK_OPS_LO.OPS, F.TICK_OPS_HI.OPS,
    F.TICK_PWRCYC.PWRCYC, F.RED_STAT.GNT, F.SVC_STAT.ATTACH, F.CHN_TONE.TONEA, F.CHN_TONE.TONEB, F.SAFM_CV_ACT.CV]
  Ends c s fun t => (∀ f : Fld, (∀ g ∈ kept, f.key ≠ g.key) → t.core.rd f = f.reset) ∧ t.core.rd F.TICK_PROFILE.ACT = 0 ∧ t.core.wait = [] ∧
    t.core.rd F.SAFM_CV_ACT.CV = s.saf.cvAct % 2 ^ 32 ∧
    t.core.rd F.TICK_OPS_LO.OPS = s.aon.ops % 2 ^ 32 ∧ t.saf = s.saf ∧ t.line = s.line ∧ t.aon = s.aon ∧
    t.nv.imgA = s.nv.imgA ∧ t.nv.imgB = s.nv.imgB ∧ t.nv.blc = s.nv.blc

/-- A write to a sealed boot-locked register is ignored and counted, through the normal view and every alias. -/
def Obligations.SealedRecord : Prop :=
  ∀ (s : State) (m : Master) (o v : Nat) (late : Bool), s.pwr.held = false → m ∈ [Master.f0, .super, .user] → 0x4000 ≤ o → o < 0x5000 →
  let c := s.core
  let counted := fun (off : Nat) (t : State) => coreOnly s t ∧
    fieldsOnly [F.GLB_ACCVIOL.COUNT, F.GLB_ACCVIOL.MASTER, F.GLB_ACCVIOL.KIND, F.GLB_ACCVIOL_ADDR.OFFSET] c t.core ∧ t.core.wait = c.wait ∧
    t.core.rd F.GLB_ACCVIOL.COUNT = min 65535 (c.rd F.GLB_ACCVIOL.COUNT + 1) ∧ t.core.rd F.GLB_ACCVIOL.MASTER = masterCode m ∧
    t.core.rd F.GLB_ACCVIOL.KIND = 0 ∧ t.core.rd F.GLB_ACCVIOL_ADDR.OFFSET = off
  c.on F.BLC_SEAL.SEALED = true →
    Ends (.registerWrite m o v 15 late) s (counted o) ∧ Ends (.setAliasWrite m (o + 0x1000) v 15 late) s (counted (o + 0x1000)) ∧
    Ends (.clearAliasWrite m (o + 0x2000) v 15 late) s (counted (o + 0x2000)) ∧ Ends (.toggleAliasWrite m (o + 0x3000) v 15 late) s (counted (o + 0x3000))

/-- The commands of the control engine, the recorder and field update keep their memories in canonical form. -/
def Obligations.MemoriesStayCanonical : Prop :=
  ∀ (s : State) (v off sfw : Nat) (data : List Nat) (a b : Bool), s.canonical = true →
  ∀ i ∈ [Instr.pmDataWrite v, .dmDataWrite v, .dmDataRead, .cteLoadBit, .cteStd, .admissionCheck, .enginePass, .eventRecord, .evrWindowSelect v,
    .svcUpload off data a b sfw, .chunkApplied a sfw, .applyResume a, .updCommit, .updCancel, .imageConfirm],
  Ends i s fun t => t.canonical = true ∧ (commitTick t.core).canonical = true

/-- Writing ones to IRQ_PENDw discards pending assertions, counts no overrun, and leaves IDLE and ACTIVE sources alone. -/
def Obligations.PendingDiscard : Prop :=
  ∀ (s : State) (m : Master) (w v : Nat) (late : Bool), s.pwr.held = false → m ∈ [Master.f0, .super, .user] → w < 4 →
  let c := s.core
  Ends (.registerWrite m (0xc340 + 4 * w) v 15 late) s fun t => coreOnly s t ∧ t.core.irq = c.irq ∧ t.core.wait = c.wait ∧
    fieldsOnly (F.IRQ_PEND.PEND w :: F.IRQ_STAT.NPEND :: F.IRQ_STAT.NACT :: (upTo 32).map (fun n => F.IRQ_SRC.STATE (32 * w + n))) c t.core ∧
    ∀ n < 32, (bitAt v n = true → c.irqState (32 * w + n) = 1 → t.core.irqState (32 * w + n) = 0) ∧
      (bitAt v n = false ∨ c.irqState (32 * w + n) ≠ 1 → t.core.irqState (32 * w + n) = c.irqState (32 * w + n))

/-- CANCEL in COMMITTED returns to APPLIED; in TRIAL it clears PEND, and the next device reset boots ACT and counts ROLLBACKS. -/
def Obligations.CancelUpdate : Prop :=
  ∀ s : State, s.up → s.core.on F.SVC_STAT.ATTACH = true → s.core.on F.SVC_STAT.SESSION = true →
  (s.core.on F.UPD_STAT.TRIAL = false → s.nv.upd.state = 5 → Ends .updCancel s fun t => t.nv.upd.pend = none ∧ t.nv.upd.state = 4 ∧ t.core.rd F.UPD_STAT.STATE = 4) ∧
  (s.core.on F.UPD_STAT.TRIAL = true → (s.nv.img s.nv.upd.act).valid = true → Ends .updCancel s fun t => t.nv.upd.pend = none ∧
    (s.pwr.pcycLow = false → Ends .deviceReset t fun u => Ends .bootStage0 u fun v => v.core.svc.sel = true ∧ v.core.rd F.GLB_BOOT.BANK = b2n s.nv.upd.act ∧
      v.core.rd F.UPD_STAT.TRIAL = 0 ∧ v.nv.region.get F.UPD_CNT.ROLLBACKS = min 65535 (s.nv.region.get F.UPD_CNT.ROLLBACKS + 1)))

/-- A write of IRQ_EOIc ends the handler of its source, or counts EOIERR; PRIO, TGT and FAST do not touch a running handler. -/
def Obligations.EndOfInterrupt : Prop :=
  ∀ (s : State) (k n v : Nat) (late : Bool), s.pwr.held = false → k < 4 → n < 128 →
  let c := s.core
  let eoi := Instr.registerWrite .super (0xc204 + 16 * k) n 15 late
  let level := fun (l : List (Nat × Nat)) => match l with | [] => 0 | x :: _ => x.1 % 16
  let outer := (c.nest k).filter (fun x => x.2 != n)
  (c.fastOn k = some n → Ends eoi s fun t => t.core.irqState n = 0 ∧ t.core.fastOn k = none ∧ t.core.nest k = c.nest k ∧
    t.core.rd (F.IRQ_CPU.RLVL k) = level (c.nest k)) ∧
  (c.fastOn k ≠ some n → (∃ x ∈ c.nest k, x.2 = n) → Ends eoi s fun t => t.core.irqState n = 0 ∧ t.core.nest k = outer ∧
    t.core.rd (F.IRQ_CPU.RLVL k) = level outer ∧ t.core.fastOn k = c.fastOn k) ∧
  (c.fastOn k ≠ some n → (∀ x ∈ c.nest k, x.2 ≠ n) → Ends eoi s fun t => coreOnly s t ∧ fieldsOnly [F.IRQ_CPU.EOIERR k] c t.core ∧ t.core.irq = c.irq ∧
    t.core.wait = c.wait ∧ t.core.rd (F.IRQ_CPU.EOIERR k) = min 255 (c.rd (F.IRQ_CPU.EOIERR k) + 1)) ∧
  (Ends (.registerWrite .super (0xc000 + 4 * n) v 15 late) s fun t => coreOnly s t ∧ t.core.irq = c.irq ∧
    fieldsOnly [F.IRQ_SRC.PRIO n, F.IRQ_SRC.TGT n, F.IRQ_SRC.FAST n, F.IRQ_SRC.EN n, F.IRQ_SRC.URG n, F.IRQ_SRC.OVR n] c t.core ∧
    t.core.rd (F.IRQ_SRC.PRIO n) = v % 16 ∧ t.core.rd (F.IRQ_SRC.TGT n) = v / 16 % 4 ∧ t.core.rd (F.IRQ_SRC.FAST n) = v / 64 % 2)
end

