-- ==== Sys2Proof/Laws/Tab.lean ====
section
/-! SUPPORT. Laws of the sparse tables and of the register store: a read after a write, and the canonical form. -/

namespace Sys2Proof.Machine

section
variable {α : Type}

theorem Tab.get_del_same (d : α) (t : Tab α) (k : Nat) : Tab.get d (Tab.del t k) k = d := by
  induction t with
  | nil => rfl
  | cons p t ih =>
    obtain ⟨k', v⟩ := p
    by_cases h : k' = k <;> simp [Tab.del, Tab.get, h, ih]

theorem Tab.get_del_ne (d : α) (t : Tab α) {k j : Nat} (h : j ≠ k) : Tab.get d (Tab.del t k) j = Tab.get d t j := by
  induction t with
  | nil => rfl
  | cons p t ih =>
    obtain ⟨k', v⟩ := p
    by_cases hk : k' = k
    · have : ¬ k' = j := fun e => h (by omega)
      have hkj : ¬ k = j := fun e => h e.symm
      simp [Tab.del, Tab.get, hk, hkj, ih]
    · simp only [Tab.del, hk, if_false, Tab.get, ih]

theorem Tab.get_ins_same (d : α) (t : Tab α) (k : Nat) (v : α) : Tab.get d (Tab.ins (Tab.del t k) k v) k = v := by
  induction t with
  | nil => simp [Tab.del, Tab.ins, Tab.get]
  | cons p t ih =>
    obtain ⟨k', w⟩ := p
    by_cases hk : k' = k
    · simpa [Tab.del, hk] using ih
    · by_cases hl : k < k' <;> simp [Tab.del, Tab.ins, Tab.get, hk, hl, ih]

theorem Tab.get_ins_ne (d : α) (t : Tab α) {k j : Nat} (v : α) (h : j ≠ k) : Tab.get d (Tab.ins t k v) j = Tab.get d t j := by
  have hkj : ¬ k = j := fun e => h e.symm
  induction t with
  | nil => simp [Tab.ins, Tab.get, hkj]
  | cons p t ih =>
    obtain ⟨k', w⟩ := p
    by_cases hl : k < k'
    · simp [Tab.ins, Tab.get, hl, hkj]
    · simp only [Tab.ins, hl, if_false, Tab.get, ih]

/-! ### The canonical form -/

theorem Tab.above_mono {a b : Nat} (t : Tab α) (h : a ≤ b) (hb : Tab.above b t = true) : Tab.above a t = true := by
  cases t with
  | nil => rfl
  | cons p t =>
    obtain ⟨k, v⟩ := p
    simp only [Tab.above, Bool.and_eq_true, decide_eq_true_eq] at hb ⊢
    exact ⟨by omega, hb.2⟩

theorem Tab.above_del {b k : Nat} (t : Tab α) (hb : Tab.above b t = true) : Tab.above b (Tab.del t k) = true := by
  induction t generalizing b with
  | nil => rfl
  | cons p t ih =>
    obtain ⟨k', v⟩ := p
    simp only [Tab.above, Bool.and_eq_true, decide_eq_true_eq] at hb
    by_cases hk : k' = k
    · simpa [Tab.del, hk] using ih (Tab.above_mono t (by omega) (hk ▸ hb.2))
    · simp [Tab.del, hk, Tab.above, hb.1, ih hb.2]

theorem Tab.rising_of_above {b : Nat} (t : Tab α) (h : Tab.above b t = true) : Tab.rising t = true := by
  cases t with
  | nil => rfl
  | cons p t =>
    obtain ⟨k, v⟩ := p
    simp only [Tab.above, Bool.and_eq_true] at h
    exact h.2

theorem Tab.rising_del {k : Nat} (t : Tab α) (h : Tab.rising t = true) : Tab.rising (Tab.del t k) = true := by
  cases t with
  | nil => rfl
  | cons p t =>
    obtain ⟨k', v⟩ := p
    simp only [Tab.rising] at h
    by_cases hk : k' = k
    · simpa [Tab.del, hk] using Tab.rising_of_above _ (Tab.above_del (k := k) t h)
    · simpa [Tab.del, hk, Tab.rising] using Tab.above_del (k := k) t h

theorem Tab.get_above {b k : Nat} (d : α) (t : Tab α) (h : Tab.above b t = true) (hk : k ≤ b) : Tab.get d t k = d := by
  induction t generalizing b with
  | nil => rfl
  | cons p t ih =>
    obtain ⟨k', v⟩ := p
    simp only [Tab.above, Bool.and_eq_true, decide_eq_true_eq] at h
    have : ¬ k' = k := by omega
    simpa [Tab.get, this] using ih h.2 (by omega)

theorem Tab.above_ins {b k : Nat} (v : α) (t : Tab α) (hb : Tab.above b t = true) (hk : b < k)
    (hn : ∀ p ∈ t, p.1 ≠ k) : Tab.above b (Tab.ins t k v) = true := by
  induction t generalizing b with
  | nil => simp [Tab.ins, Tab.above, hk]
  | cons p t ih =>
    obtain ⟨k', w⟩ := p
    simp only [Tab.above, Bool.and_eq_true, decide_eq_true_eq] at hb
    have hne : k' ≠ k := hn (k', w) (by simp)
    by_cases hl : k < k'
    · simp [Tab.ins, Tab.above, hl, hk, hb.2]
    · have : k' < k := by omega
      simp [Tab.ins, Tab.above, hl, hb.1, ih hb.2 this (fun q hq => hn q (by simp [hq]))]

theorem Tab.del_ne (t : Tab α) (k : Nat) : ∀ p ∈ Tab.del t k, p.1 ≠ k := by
  induction t with
  | nil => simp [Tab.del]
  | cons p t ih =>
    obtain ⟨k', w⟩ := p
    by_cases hk : k' = k
    · simpa [Tab.del, hk] using ih
    · intro q hq
      simp only [Tab.del, hk, if_false, List.mem_cons] at hq
      rcases hq with rfl | hq
      · exact hk
      · exact ih q hq

theorem Tab.rising_ins {k : Nat} (v : α) (t : Tab α) (h : Tab.rising t = true) (hn : ∀ p ∈ t, p.1 ≠ k) :
    Tab.rising (Tab.ins t k v) = true := by
  cases t with
  | nil => rfl
  | cons p t =>
    obtain ⟨k', w⟩ := p
    simp only [Tab.rising] at h
    have hne : k' ≠ k := hn (k', w) (by simp)
    by_cases hl : k < k'
    · simp [Tab.ins, Tab.rising, Tab.above, hl, h]
    · have : k' < k := by omega
      simpa [Tab.ins, Tab.rising, hl] using Tab.above_ins v t h this (fun q hq => hn q (by simp [hq]))

variable [DecidableEq α]

/-- A read after a write of the same key gives the value written. -/
@[simp] theorem Tab.get_put_same (d : α) (t : Tab α) (k : Nat) (v : α) : Tab.get d (Tab.put d t k v) k = v := by
  unfold Tab.put
  split
  · next h => rw [Tab.get_del_same, h]
  · exact Tab.get_ins_same d t k v

/-- A write leaves every other key alone. -/
theorem Tab.get_put_ne (d : α) (t : Tab α) {k j : Nat} (v : α) (h : j ≠ k) : Tab.get d (Tab.put d t k v) j = Tab.get d t j := by
  unfold Tab.put
  split
  · exact Tab.get_del_ne d t h
  · rw [Tab.get_ins_ne d _ v h, Tab.get_del_ne d t h]

/-- A read after a write, in one equation. -/
theorem Tab.get_put (d : α) (t : Tab α) (k j : Nat) (v : α) :
    Tab.get d (Tab.put d t k v) j = if j = k then v else Tab.get d t j := by
  by_cases h : j = k
  · subst h; simp
  · simp [h, Tab.get_put_ne d t v h]

theorem Tab.lean_del (d : α) {k : Nat} (t : Tab α) (h : Tab.lean d t = true) : Tab.lean d (Tab.del t k) = true := by
  induction t with
  | nil => rfl
  | cons p t ih =>
    obtain ⟨k', w⟩ := p
    simp only [Tab.lean, Bool.and_eq_true, decide_eq_true_eq] at h
    by_cases hk : k' = k <;> simp [Tab.del, Tab.lean, hk, h.1, ih h.2]

theorem Tab.lean_ins (d : α) {k : Nat} (v : α) (t : Tab α) (hv : v ≠ d) (h : Tab.lean d t = true) :
    Tab.lean d (Tab.ins t k v) = true := by
  induction t with
  | nil => simp [Tab.ins, Tab.lean, hv]
  | cons p t ih =>
    obtain ⟨k', w⟩ := p
    simp only [Tab.lean, Bool.and_eq_true, decide_eq_true_eq] at h
    by_cases hl : k < k' <;> simp [Tab.ins, Tab.lean, hl, hv, h.1, h.2, ih h.2]

/-- Every write keeps the canonical form. -/
theorem Tab.wf_put (d : α) (t : Tab α) (k : Nat) (v : α) (h : Tab.wf d t = true) : Tab.wf d (Tab.put d t k v) = true := by
  simp only [Tab.wf, Bool.and_eq_true] at *
  unfold Tab.put
  split
  · exact ⟨Tab.rising_del t h.1, Tab.lean_del d t h.2⟩
  · next hv => exact ⟨Tab.rising_ins v _ (Tab.rising_del t h.1) (Tab.del_ne t k), Tab.lean_ins d v _ hv (Tab.lean_del d t h.2)⟩

theorem Tab.wf_upd (d : α) (t : Tab α) (k : Nat) (f : α → α) (h : Tab.wf d t = true) : Tab.wf d (Tab.upd d t k f) = true :=
  Tab.wf_put d t k _ h

theorem Tab.wf_del (d : α) (t : Tab α) (k : Nat) (h : Tab.wf d t = true) : Tab.wf d (Tab.del t k) = true := by
  simp only [Tab.wf, Bool.and_eq_true] at *
  exact ⟨Tab.rising_del t h.1, Tab.lean_del d t h.2⟩

theorem Tab.wf_putList (d : α) (vs : List α) : ∀ (t : Tab α) (k : Nat), Tab.wf d t = true → Tab.wf d (Tab.putList d t k vs) = true := by
  induction vs with
  | nil => intro t k h; exact h
  | cons v vs ih => intro t k h; exact ih _ _ (Tab.wf_put d t k v h)

theorem Tab.wf_nil (d : α) : Tab.wf d ([] : Tab α) = true := rfl

end

/-! ### The register store -/

/-- A field reads back what was written, cut to its width. -/
@[simp] theorem Csr.get_put_same (c : Csr) (f : Fld) (v : Nat) : (c.put f v).get f = v % 2 ^ f.width := by
  simp [Csr.get, Csr.put]

/-- A write of one field leaves a field at another place alone. -/
theorem Csr.get_put_ne (c : Csr) {f g : Fld} (v : Nat) (h : g.key ≠ f.key) : (c.put f v).get g = c.get g := by
  have : Tab.get g.reset (Tab.put f.reset c f.key (v % 2 ^ f.width)) g.key = Tab.get g.reset c g.key := by
    unfold Tab.put
    split
    · exact Tab.get_del_ne _ _ h
    · rw [Tab.get_ins_ne _ _ _ h, Tab.get_del_ne _ _ h]
  exact this

end Sys2Proof.Machine
end

