-- ==== Sys2Proof/Laws/State.lean ====
section
/-! SUPPORT. What each named update of the state leaves alone and what it sets: register fields, held writes, outputs, events,
and the lifts of an effect on one part to the machine. -/

namespace Sys2Proof.Machine

/-! ### Register fields -/

/-- A field reads back what was written, cut to its width. -/
@[simp] theorem Core.rd_wr_same (c : Core) (f : Fld) (v : Nat) : (c.wr f v).rd f = v % 2 ^ f.width := Csr.get_put_same c.csr f v

/-- A write of one field leaves a field at another place alone. -/
theorem Core.rd_wr_ne (c : Core) {f g : Fld} (v : Nat) (h : g.key ≠ f.key) : (c.wr f v).rd g = c.rd g := Csr.get_put_ne c.csr v h

theorem Core.wrS_eq (c : Core) (f : Fld) (v : Int) : c.wrS f v = c.wr f (ofSigned f.width v) := rfl
theorem Core.wrB_eq (c : Core) (f : Fld) (b : Bool) : c.wrB f b = c.wr f (b2n b) := rfl
theorem Core.cntSat_eq (c : Core) (f : Fld) (n : Nat) : c.cntSat f n = c.wr f (min (2 ^ f.width - 1) (c.rd f + n)) := rfl
theorem Core.cntWrap_eq (c : Core) (f : Fld) (n : Nat) : c.cntWrap f n = c.wr f (c.rd f + n) := rfl
theorem Core.wr2_eq (c : Core) (lo hi : Fld) (v : Nat) : c.wr2 lo hi v = (c.wr lo v).wr hi (v / 2 ^ lo.width) := rfl

/-- A one-bit field that is written 1 is on. -/
theorem Core.on_eq (c : Core) (f : Fld) : c.on f = (c.rd f != 0) := rfl

@[simp] theorem Core.wr_wait (c : Core) (f : Fld) (v : Nat) : (c.wr f v).wait = c.wait := rfl
@[simp] theorem Core.wr_stg (c : Core) (f : Fld) (v : Nat) : (c.wr f v).stg = c.stg := rfl
@[simp] theorem Core.wr_free (c : Core) (f : Fld) (v : Nat) : (c.wr f v).free = c.free := rfl
@[simp] theorem Core.wr_out (c : Core) (f : Fld) (v : Nat) : (c.wr f v).out = c.out := rfl
@[simp] theorem Core.wr_tick (c : Core) (f : Fld) (v : Nat) : (c.wr f v).tick = c.tick := rfl
@[simp] theorem Core.wr_irq (c : Core) (f : Fld) (v : Nat) : (c.wr f v).irq = c.irq := rfl
@[simp] theorem Core.wr_ev (c : Core) (f : Fld) (v : Nat) : (c.wr f v).ev = c.ev := rfl
@[simp] theorem Core.wr_chn (c : Core) (f : Fld) (v : Nat) : (c.wr f v).chn = c.chn := rfl
@[simp] theorem Core.wr_meas (c : Core) (f : Fld) (v : Nat) : (c.wr f v).meas = c.meas := rfl
@[simp] theorem Core.wr_bal (c : Core) (f : Fld) (v : Nat) : (c.wr f v).bal = c.bal := rfl
@[simp] theorem Core.wr_imp (c : Core) (f : Fld) (v : Nat) : (c.wr f v).imp = c.imp := rfl
@[simp] theorem Core.wr_est (c : Core) (f : Fld) (v : Nat) : (c.wr f v).est = c.est := rfl
@[simp] theorem Core.wr_shf (c : Core) (f : Fld) (v : Nat) : (c.wr f v).shf = c.shf := rfl
@[simp] theorem Core.wr_sdm (c : Core) (f : Fld) (v : Nat) : (c.wr f v).sdm = c.sdm := rfl
@[simp] theorem Core.wr_cnv (c : Core) (f : Fld) (v : Nat) : (c.wr f v).cnv = c.cnv := rfl
@[simp] theorem Core.wr_cte (c : Core) (f : Fld) (v : Nat) : (c.wr f v).cte = c.cte := rfl
@[simp] theorem Core.wr_prot (c : Core) (f : Fld) (v : Nat) : (c.wr f v).prot = c.prot := rfl
@[simp] theorem Core.wr_ptp (c : Core) (f : Fld) (v : Nat) : (c.wr f v).ptp = c.ptp := rfl
@[simp] theorem Core.wr_hif (c : Core) (f : Fld) (v : Nat) : (c.wr f v).hif = c.hif := rfl
@[simp] theorem Core.wr_red (c : Core) (f : Fld) (v : Nat) : (c.wr f v).red = c.red := rfl
@[simp] theorem Core.wr_can (c : Core) (f : Fld) (v : Nat) : (c.wr f v).can = c.can := rfl
@[simp] theorem Core.wr_smb (c : Core) (f : Fld) (v : Nat) : (c.wr f v).smb = c.smb := rfl
@[simp] theorem Core.wr_svc (c : Core) (f : Fld) (v : Nat) : (c.wr f v).svc = c.svc := rfl
@[simp] theorem Core.wr_thm (c : Core) (f : Fld) (v : Nat) : (c.wr f v).thm = c.thm := rfl

/-! ### Events and outputs -/

@[simp] theorem Core.raise_csr (c : Core) (n src prim : Nat) : (c.raise n src prim).csr = c.csr := rfl
@[simp] theorem Core.raise_wait (c : Core) (n src prim : Nat) : (c.raise n src prim).wait = c.wait := rfl
@[simp] theorem Core.raise_stg (c : Core) (n src prim : Nat) : (c.raise n src prim).stg = c.stg := rfl
@[simp] theorem Core.raise_out (c : Core) (n src prim : Nat) : (c.raise n src prim).out = c.out := rfl
@[simp] theorem Core.raise_tick (c : Core) (n src prim : Nat) : (c.raise n src prim).tick = { c.tick with phase := c.instant } := rfl
@[simp] theorem Core.raise_chn (c : Core) (n src prim : Nat) : (c.raise n src prim).chn = c.chn := rfl
@[simp] theorem Core.raise_meas (c : Core) (n src prim : Nat) : (c.raise n src prim).meas = c.meas := rfl
@[simp] theorem Core.raise_bal (c : Core) (n src prim : Nat) : (c.raise n src prim).bal = c.bal := rfl
@[simp] theorem Core.raise_imp (c : Core) (n src prim : Nat) : (c.raise n src prim).imp = c.imp := rfl
@[simp] theorem Core.raise_est (c : Core) (n src prim : Nat) : (c.raise n src prim).est = c.est := rfl
@[simp] theorem Core.raise_shf (c : Core) (n src prim : Nat) : (c.raise n src prim).shf = c.shf := rfl
@[simp] theorem Core.raise_sdm (c : Core) (n src prim : Nat) : (c.raise n src prim).sdm = c.sdm := rfl
@[simp] theorem Core.raise_cnv (c : Core) (n src prim : Nat) : (c.raise n src prim).cnv = c.cnv := rfl
@[simp] theorem Core.raise_cte (c : Core) (n src prim : Nat) : (c.raise n src prim).cte = c.cte := rfl
@[simp] theorem Core.raise_prot (c : Core) (n src prim : Nat) : (c.raise n src prim).prot = c.prot := rfl
@[simp] theorem Core.raise_ptp (c : Core) (n src prim : Nat) : (c.raise n src prim).ptp = c.ptp := rfl
@[simp] theorem Core.raise_hif (c : Core) (n src prim : Nat) : (c.raise n src prim).hif = c.hif := rfl
@[simp] theorem Core.raise_red (c : Core) (n src prim : Nat) : (c.raise n src prim).red = c.red := rfl
@[simp] theorem Core.raise_can (c : Core) (n src prim : Nat) : (c.raise n src prim).can = c.can := rfl
@[simp] theorem Core.raise_smb (c : Core) (n src prim : Nat) : (c.raise n src prim).smb = c.smb := rfl
@[simp] theorem Core.raise_svc (c : Core) (n src prim : Nat) : (c.raise n src prim).svc = c.svc := rfl
@[simp] theorem Core.raise_thm (c : Core) (n src prim : Nat) : (c.raise n src prim).thm = c.thm := rfl
@[simp] theorem Core.rd_raise (c : Core) (n src prim : Nat) (f : Fld) : (c.raise n src prim).rd f = c.rd f := rfl
/-- An event that is raised goes to the end of those that wait for the sequencer, with its SOURCE and primary value. -/
theorem Core.raise_raw (c : Core) (n src prim : Nat) : ∃ st p, (c.raise n src prim).ev.raw = c.ev.raw ++ [⟨srcCode n, src, prim, st, ⟨c.tbTick, p⟩⟩] :=
  ⟨_, _, rfl⟩
@[simp] theorem Core.pulse_csr (c : Core) (n : Nat) : (c.pulse n).csr = c.csr := rfl
@[simp] theorem Core.pulse_wait (c : Core) (n : Nat) : (c.pulse n).wait = c.wait := rfl
@[simp] theorem Core.pulse_stg (c : Core) (n : Nat) : (c.pulse n).stg = c.stg := rfl
@[simp] theorem Core.pulse_free (c : Core) (n : Nat) : (c.pulse n).free = c.free := rfl
@[simp] theorem Core.pulse_out (c : Core) (n : Nat) : (c.pulse n).out = c.out := rfl
@[simp] theorem Core.pulse_tick (c : Core) (n : Nat) : (c.pulse n).tick = c.tick := rfl
@[simp] theorem Core.pulse_ev (c : Core) (n : Nat) : (c.pulse n).ev = c.ev := rfl
@[simp] theorem Core.pulse_chn (c : Core) (n : Nat) : (c.pulse n).chn = c.chn := rfl
@[simp] theorem Core.pulse_meas (c : Core) (n : Nat) : (c.pulse n).meas = c.meas := rfl
@[simp] theorem Core.pulse_bal (c : Core) (n : Nat) : (c.pulse n).bal = c.bal := rfl
@[simp] theorem Core.pulse_imp (c : Core) (n : Nat) : (c.pulse n).imp = c.imp := rfl
@[simp] theorem Core.pulse_est (c : Core) (n : Nat) : (c.pulse n).est = c.est := rfl
@[simp] theorem Core.pulse_shf (c : Core) (n : Nat) : (c.pulse n).shf = c.shf := rfl
@[simp] theorem Core.pulse_sdm (c : Core) (n : Nat) : (c.pulse n).sdm = c.sdm := rfl
@[simp] theorem Core.pulse_cnv (c : Core) (n : Nat) : (c.pulse n).cnv = c.cnv := rfl
@[simp] theorem Core.pulse_cte (c : Core) (n : Nat) : (c.pulse n).cte = c.cte := rfl
@[simp] theorem Core.pulse_prot (c : Core) (n : Nat) : (c.pulse n).prot = c.prot := rfl
@[simp] theorem Core.pulse_ptp (c : Core) (n : Nat) : (c.pulse n).ptp = c.ptp := rfl
@[simp] theorem Core.pulse_hif (c : Core) (n : Nat) : (c.pulse n).hif = c.hif := rfl
@[simp] theorem Core.pulse_red (c : Core) (n : Nat) : (c.pulse n).red = c.red := rfl
@[simp] theorem Core.pulse_can (c : Core) (n : Nat) : (c.pulse n).can = c.can := rfl
@[simp] theorem Core.pulse_smb (c : Core) (n : Nat) : (c.pulse n).smb = c.smb := rfl
@[simp] theorem Core.pulse_svc (c : Core) (n : Nat) : (c.pulse n).svc = c.svc := rfl
@[simp] theorem Core.pulse_thm (c : Core) (n : Nat) : (c.pulse n).thm = c.thm := rfl
@[simp] theorem Core.send_csr (c : Core) (o : Out) : (c.send o).csr = c.csr := by unfold Core.send; split <;> rfl
@[simp] theorem Core.send_wait (c : Core) (o : Out) : (c.send o).wait = c.wait := by unfold Core.send; split <;> rfl
@[simp] theorem Core.send_stg (c : Core) (o : Out) : (c.send o).stg = c.stg := by unfold Core.send; split <;> rfl
@[simp] theorem Core.send_free (c : Core) (o : Out) : (c.send o).free = c.free := by unfold Core.send; split <;> rfl
@[simp] theorem Core.send_tick (c : Core) (o : Out) : (c.send o).tick = c.tick := by unfold Core.send; split <;> rfl
@[simp] theorem Core.send_irq (c : Core) (o : Out) : (c.send o).irq = c.irq := by unfold Core.send; split <;> rfl
@[simp] theorem Core.send_ev (c : Core) (o : Out) : (c.send o).ev = c.ev := by unfold Core.send; split <;> rfl
@[simp] theorem Core.send_chn (c : Core) (o : Out) : (c.send o).chn = c.chn := by unfold Core.send; split <;> rfl
@[simp] theorem Core.send_meas (c : Core) (o : Out) : (c.send o).meas = c.meas := by unfold Core.send; split <;> rfl
@[simp] theorem Core.send_bal (c : Core) (o : Out) : (c.send o).bal = c.bal := by unfold Core.send; split <;> rfl
@[simp] theorem Core.send_imp (c : Core) (o : Out) : (c.send o).imp = c.imp := by unfold Core.send; split <;> rfl
@[simp] theorem Core.send_est (c : Core) (o : Out) : (c.send o).est = c.est := by unfold Core.send; split <;> rfl
@[simp] theorem Core.send_shf (c : Core) (o : Out) : (c.send o).shf = c.shf := by unfold Core.send; split <;> rfl
@[simp] theorem Core.send_sdm (c : Core) (o : Out) : (c.send o).sdm = c.sdm := by unfold Core.send; split <;> rfl
@[simp] theorem Core.send_cnv (c : Core) (o : Out) : (c.send o).cnv = c.cnv := by unfold Core.send; split <;> rfl
@[simp] theorem Core.send_cte (c : Core) (o : Out) : (c.send o).cte = c.cte := by unfold Core.send; split <;> rfl
@[simp] theorem Core.send_prot (c : Core) (o : Out) : (c.send o).prot = c.prot := by unfold Core.send; split <;> rfl
@[simp] theorem Core.send_ptp (c : Core) (o : Out) : (c.send o).ptp = c.ptp := by unfold Core.send; split <;> rfl
@[simp] theorem Core.send_hif (c : Core) (o : Out) : (c.send o).hif = c.hif := by unfold Core.send; split <;> rfl
@[simp] theorem Core.send_red (c : Core) (o : Out) : (c.send o).red = c.red := by unfold Core.send; split <;> rfl
@[simp] theorem Core.send_can (c : Core) (o : Out) : (c.send o).can = c.can := by unfold Core.send; split <;> rfl
@[simp] theorem Core.send_smb (c : Core) (o : Out) : (c.send o).smb = c.smb := by unfold Core.send; split <;> rfl
@[simp] theorem Core.send_svc (c : Core) (o : Out) : (c.send o).svc = c.svc := by unfold Core.send; split <;> rfl
@[simp] theorem Core.send_thm (c : Core) (o : Out) : (c.send o).thm = c.thm := by unfold Core.send; split <;> rfl
@[simp] theorem Core.rd_send (c : Core) (o : Out) (f : Fld) : (c.send o).rd f = c.rd f := by unfold Core.send; split <;> rfl
/-- What is not muted goes out. -/
theorem Core.send_out (c : Core) (o : Out) (h : c.muted o = false) : (c.send o).out = o :: c.out := by simp [Core.send, h]
@[simp] theorem Core.when_true (c : Core) (f : Core → Core) : c.when true f = f c := rfl
@[simp] theorem Core.when_false (c : Core) (f : Core → Core) : c.when false f = c := rfl
@[simp] theorem Core.rd_tickFree (c : Core) (f : Fld) : c.tickFree.rd f = c.rd f := rfl

/-! ### Register fields seen through an update of another part -/

@[simp] theorem Core.rd_with_wait (c : Core) x (f : Fld) : ({ c with wait := x } : Core).rd f = c.rd f := rfl
@[simp] theorem Core.rd_with_stg (c : Core) x (f : Fld) : ({ c with stg := x } : Core).rd f = c.rd f := rfl
@[simp] theorem Core.rd_with_free (c : Core) x (f : Fld) : ({ c with free := x } : Core).rd f = c.rd f := rfl
@[simp] theorem Core.rd_with_out (c : Core) x (f : Fld) : ({ c with out := x } : Core).rd f = c.rd f := rfl
@[simp] theorem Core.rd_with_tick (c : Core) x (f : Fld) : ({ c with tick := x } : Core).rd f = c.rd f := rfl
@[simp] theorem Core.rd_with_irq (c : Core) x (f : Fld) : ({ c with irq := x } : Core).rd f = c.rd f := rfl
@[simp] theorem Core.rd_with_ev (c : Core) x (f : Fld) : ({ c with ev := x } : Core).rd f = c.rd f := rfl
@[simp] theorem Core.rd_with_chn (c : Core) x (f : Fld) : ({ c with chn := x } : Core).rd f = c.rd f := rfl
@[simp] theorem Core.rd_with_meas (c : Core) x (f : Fld) : ({ c with meas := x } : Core).rd f = c.rd f := rfl
@[simp] theorem Core.rd_with_bal (c : Core) x (f : Fld) : ({ c with bal := x } : Core).rd f = c.rd f := rfl
@[simp] theorem Core.rd_with_imp (c : Core) x (f : Fld) : ({ c with imp := x } : Core).rd f = c.rd f := rfl
@[simp] theorem Core.rd_with_est (c : Core) x (f : Fld) : ({ c with est := x } : Core).rd f = c.rd f := rfl
@[simp] theorem Core.rd_with_shf (c : Core) x (f : Fld) : ({ c with shf := x } : Core).rd f = c.rd f := rfl
@[simp] theorem Core.rd_with_sdm (c : Core) x (f : Fld) : ({ c with sdm := x } : Core).rd f = c.rd f := rfl
@[simp] theorem Core.rd_with_cnv (c : Core) x (f : Fld) : ({ c with cnv := x } : Core).rd f = c.rd f := rfl
@[simp] theorem Core.rd_with_cte (c : Core) x (f : Fld) : ({ c with cte := x } : Core).rd f = c.rd f := rfl
@[simp] theorem Core.rd_with_prot (c : Core) x (f : Fld) : ({ c with prot := x } : Core).rd f = c.rd f := rfl
@[simp] theorem Core.rd_with_ptp (c : Core) x (f : Fld) : ({ c with ptp := x } : Core).rd f = c.rd f := rfl
@[simp] theorem Core.rd_with_hif (c : Core) x (f : Fld) : ({ c with hif := x } : Core).rd f = c.rd f := rfl
@[simp] theorem Core.rd_with_red (c : Core) x (f : Fld) : ({ c with red := x } : Core).rd f = c.rd f := rfl
@[simp] theorem Core.rd_with_can (c : Core) x (f : Fld) : ({ c with can := x } : Core).rd f = c.rd f := rfl
@[simp] theorem Core.rd_with_smb (c : Core) x (f : Fld) : ({ c with smb := x } : Core).rd f = c.rd f := rfl
@[simp] theorem Core.rd_with_svc (c : Core) x (f : Fld) : ({ c with svc := x } : Core).rd f = c.rd f := rfl
@[simp] theorem Core.rd_with_thm (c : Core) x (f : Fld) : ({ c with thm := x } : Core).rd f = c.rd f := rfl

/-! ### Lifts -/

/-- A lifted effect while the domains are not held in power-on reset. -/
theorem onCore_run {s : State} (f : Core → Core) (h : s.pwr.held = false) : onCore f s = { s with core := f s.core } := by simp [onCore, h]
/-- A lifted effect while they are. -/
theorem onCore_held {s : State} (f : Core → Core) (h : s.pwr.held = true) : onCore f s = s := by simp [onCore, h]
@[simp] theorem onCore_aon (f : Core → Core) (s : State) : (onCore f s).aon = s.aon := by unfold onCore; split <;> rfl
@[simp] theorem onCore_pwr (f : Core → Core) (s : State) : (onCore f s).pwr = s.pwr := by unfold onCore; split <;> rfl
@[simp] theorem onCore_line (f : Core → Core) (s : State) : (onCore f s).line = s.line := by unfold onCore; split <;> rfl
@[simp] theorem onCore_saf (f : Core → Core) (s : State) : (onCore f s).saf = s.saf := by unfold onCore; split <;> rfl
@[simp] theorem onCore_nv (f : Core → Core) (s : State) : (onCore f s).nv = s.nv := by unfold onCore; split <;> rfl
@[simp] theorem onCore_pending (f : Core → Core) (s : State) : (onCore f s).pending = s.pending := by unfold onCore; split <;> rfl
/-- A lifted effect while the domains are not held in power-on reset. -/
theorem onCoreA_run {s : State} (f : AonSt → PwrSt → Core → Core) (h : s.pwr.held = false) : onCoreA f s = { s with core := f s.aon s.pwr s.core } := by simp [onCoreA, h]
/-- A lifted effect while they are. -/
theorem onCoreA_held {s : State} (f : AonSt → PwrSt → Core → Core) (h : s.pwr.held = true) : onCoreA f s = s := by simp [onCoreA, h]
@[simp] theorem onCoreA_aon (f : AonSt → PwrSt → Core → Core) (s : State) : (onCoreA f s).aon = s.aon := by unfold onCoreA; split <;> rfl
@[simp] theorem onCoreA_pwr (f : AonSt → PwrSt → Core → Core) (s : State) : (onCoreA f s).pwr = s.pwr := by unfold onCoreA; split <;> rfl
@[simp] theorem onCoreA_line (f : AonSt → PwrSt → Core → Core) (s : State) : (onCoreA f s).line = s.line := by unfold onCoreA; split <;> rfl
@[simp] theorem onCoreA_saf (f : AonSt → PwrSt → Core → Core) (s : State) : (onCoreA f s).saf = s.saf := by unfold onCoreA; split <;> rfl
@[simp] theorem onCoreA_nv (f : AonSt → PwrSt → Core → Core) (s : State) : (onCoreA f s).nv = s.nv := by unfold onCoreA; split <;> rfl
@[simp] theorem onCoreA_pending (f : AonSt → PwrSt → Core → Core) (s : State) : (onCoreA f s).pending = s.pending := by unfold onCoreA; split <;> rfl
/-- A lifted effect while the domains are not held in power-on reset. -/
theorem onNv_run {s : State} (f : AonSt → NvSt → Core → NvSt × Core) (h : s.pwr.held = false) : onNv f s = { s with nv := (f s.aon s.nv s.core).1, core := (f s.aon s.nv s.core).2 } := by simp [onNv, h]
/-- A lifted effect while they are. -/
theorem onNv_held {s : State} (f : AonSt → NvSt → Core → NvSt × Core) (h : s.pwr.held = true) : onNv f s = s := by simp [onNv, h]
@[simp] theorem onNv_aon (f : AonSt → NvSt → Core → NvSt × Core) (s : State) : (onNv f s).aon = s.aon := by unfold onNv; split <;> rfl
@[simp] theorem onNv_pwr (f : AonSt → NvSt → Core → NvSt × Core) (s : State) : (onNv f s).pwr = s.pwr := by unfold onNv; split <;> rfl
@[simp] theorem onNv_line (f : AonSt → NvSt → Core → NvSt × Core) (s : State) : (onNv f s).line = s.line := by unfold onNv; split <;> rfl
@[simp] theorem onNv_saf (f : AonSt → NvSt → Core → NvSt × Core) (s : State) : (onNv f s).saf = s.saf := by unfold onNv; split <;> rfl
@[simp] theorem onNv_pending (f : AonSt → NvSt → Core → NvSt × Core) (s : State) : (onNv f s).pending = s.pending := by unfold onNv; split <;> rfl
/-- A lifted effect while the domains are not held in power-on reset. -/
theorem onLine_run {s : State} (f : LineSt → Core → LineSt × Core) (h : s.pwr.held = false) : onLine f s = { s with line := (f s.line s.core).1, core := (f s.line s.core).2 } := by simp [onLine, h]
/-- A lifted effect while they are, but for a hot reset that a bank holds (R101). -/
theorem onLine_held {s : State} (f : LineSt → Core → LineSt × Core) (h : s.pwr.held = true) (hp : s.pwr.perst = false) : onLine f s = s := by
  simp [onLine, h, hp]
@[simp] theorem onLine_aon (f : LineSt → Core → LineSt × Core) (s : State) : (onLine f s).aon = s.aon := by unfold onLine; split <;> rfl
@[simp] theorem onLine_pwr (f : LineSt → Core → LineSt × Core) (s : State) : (onLine f s).pwr = s.pwr := by unfold onLine; split <;> rfl
@[simp] theorem onLine_saf (f : LineSt → Core → LineSt × Core) (s : State) : (onLine f s).saf = s.saf := by unfold onLine; split <;> rfl
@[simp] theorem onLine_nv (f : LineSt → Core → LineSt × Core) (s : State) : (onLine f s).nv = s.nv := by unfold onLine; split <;> rfl
@[simp] theorem onLine_pending (f : LineSt → Core → LineSt × Core) (s : State) : (onLine f s).pending = s.pending := by unfold onLine; split <;> rfl
/-- An effect on the channels while the input is there and the domains are not held. -/
theorem onSaf_run {s : State} (f : AonSt → LineSt → SC → SC) (hv : s.pwr.vin ≠ .off) (h : s.pwr.held = false) :
    onSaf f s = { s with saf := (f s.aon s.line (s.saf, s.core)).1, core := (f s.aon s.line (s.saf, s.core)).2 } := by
  simp [onSaf, h, hv]
@[simp] theorem onSaf_aon (f : AonSt → LineSt → SC → SC) (s : State) : (onSaf f s).aon = s.aon := by
  unfold onSaf; split <;> [rfl; (dsimp only; split <;> rfl)]
@[simp] theorem onSaf_pwr (f : AonSt → LineSt → SC → SC) (s : State) : (onSaf f s).pwr = s.pwr := by
  unfold onSaf; split <;> [rfl; (dsimp only; split <;> rfl)]
@[simp] theorem onSaf_line (f : AonSt → LineSt → SC → SC) (s : State) : (onSaf f s).line = s.line := by
  unfold onSaf; split <;> [rfl; (dsimp only; split <;> rfl)]
@[simp] theorem onSaf_nv (f : AonSt → LineSt → SC → SC) (s : State) : (onSaf f s).nv = s.nv := by
  unfold onSaf; split <;> [rfl; (dsimp only; split <;> rfl)]
@[simp] theorem onSaf_pending (f : AonSt → LineSt → SC → SC) (s : State) : (onSaf f s).pending = s.pending := by
  unfold onSaf; split <;> [rfl; (dsimp only; split <;> rfl)]
/-- What holds of the channels after an effect holds after its lift, if it does not speak of the demands reported. -/
theorem onSaf_saf (f : AonSt → LineSt → SC → SC) (s : State) (P : SafSt → Prop) (h0 : P s.saf) (h1 : P (f s.aon s.line (s.saf, s.core)).1)
    (h2 : ∀ (x : SafSt) (m : Nat), P x → P { x with dem := m }) : P (onSaf f s).saf := by
  unfold onSaf
  split
  · exact h0
  · dsimp only; split
    · exact h2 _ _ h1
    · exact h1

end Sys2Proof.Machine
end

