-- ==== Sys2Proof/Laws/Channels.lean ====
section
/-! SUPPORT. What every effect on the safety channels leaves alone: the active parameter set, the gate-safe readback, a latched
safe state; and when an output may become energised (R315, R320, R333). -/

namespace Sys2Proof.Machine

/-- What `Tame` speaks of, in one value. -/
def SafSt.parts (s : SafSt) : (Bool × Tab Nat × Nat × Nat) × (Bool × Bool × Nat) × Bool × Bool × Tab SafOut :=
  (s.activeSet, (s.gsafe, s.gsafeB, s.faulty), s.diagDone, s.safe, s.out)

/-- From `s` to `t` the active set, its path and its check value and the end of the power-on diagnostics stay, gates shown safe by every
channel that runs stay so, a latched safe state stays latched, and an output is energised only with a set active, the gates safe, the
diagnostics done and no safe state. -/
structure SafSt.Tame (s t : SafSt) : Prop where
  set : t.activeSet = s.activeSet
  diag : t.diagDone = s.diagDone
  gates : s.gatesSafe = true → t.gatesSafe = true
  safe : t.safe = false → s.safe = false
  rise : ∀ k, (t.o k).on = true → (s.o k).on = true ∨ (t.conf = true ∧ t.gatesSafe = true ∧ t.diagDone = true ∧ s.safe = false)

theorem SafSt.Tame.conf {s t : SafSt} (h : s.Tame t) : t.conf = s.conf := congrArg Prod.fst h.set

theorem SafSt.Tame.rfl' (s : SafSt) : s.Tame s := ⟨rfl, rfl, id, id, fun _ h => .inl h⟩

theorem SafSt.Tame.trans {s t u : SafSt} (h : s.Tame t) (g : t.Tame u) : s.Tame u where
  set := g.set.trans h.set
  diag := g.diag.trans h.diag
  gates := fun x => g.gates (h.gates x)
  safe := fun x => h.safe (g.safe x)
  rise := fun k x => by
    rcases g.rise k x with y | ⟨y1, y2, y3, y4⟩
    · rcases h.rise k y with z | ⟨z1, z2, z3, z4⟩
      · exact .inl z
      · exact .inr ⟨g.conf.trans z1, g.gates z2, g.diag.trans z3, z4⟩
    · exact .inr ⟨y1, y2, y3, h.safe y4⟩

/-- A state that differs in fields that `Tame` does not speak of. -/
theorem SafSt.Tame.of_eq {s t : SafSt} (h : t.parts = s.parts) : s.Tame t := by
  obtain ⟨h1, h2, h3, h4, h5⟩ : _ ∧ _ ∧ _ ∧ _ ∧ _ := by simpa only [SafSt.parts, Prod.mk.injEq] using h
  obtain ⟨g1, g2, g3⟩ := h2
  refine ⟨h1, h3, fun x => ?_, fun x => h4 ▸ x, fun k x => .inl (by simpa [SafSt.o, h5] using x)⟩
  simpa only [SafSt.gatesSafe, SafSt.runs, g1, g2, g3] using x

/-- The same with more channels that do not run. -/
theorem SafSt.Tame.fewer {s t : SafSt} (h : ({ t with faulty := s.faulty } : SafSt).parts = s.parts) (g : ∀ ch, s.runs ch = false → t.runs ch = false) :
    s.Tame t := by
  have k := SafSt.Tame.of_eq h
  refine ⟨k.set, k.diag, fun x => ?_, k.safe, fun j x => .inl ?_⟩
  · have y := k.gates x
    simp only [SafSt.gatesSafe, Bool.and_eq_true, Bool.or_eq_true, Bool.not_eq_true'] at x y ⊢
    refine ⟨?_, ?_⟩
    · rcases x.1 with z | z
      · exact .inl (g 0 z)
      · exact .inr (by rw [← z]; exact congrArg (fun p => p.2.1.1) h)
    · rcases x.2 with z | z
      · exact .inl (g 1 z)
      · exact .inr (by rw [← z]; exact congrArg (fun p => p.2.1.2.1) h)
  · have e : t.out = s.out := congrArg (fun p => p.2.2.2.2) h
    simpa [SafSt.o, e] using x

theorem bitAt_lor (a b i : Nat) (h : bitAt a i = true) : bitAt (Nat.lor a b) i = true := by
  have e : ∀ n, bitAt n i = n.testBit i := fun n => by
    simp [bitAt, Nat.testBit, Nat.shiftRight_eq_div_pow, Nat.one_and_eq_mod_two]
  rw [e] at h ⊢
  exact (Nat.testBit_or a b i).trans (by simp [h])

theorem SafSt.o_setO (s : SafSt) (k j : Nat) (f : SafOut → SafOut) : (s.setO k f).o j = if j = k then f (s.o k) else s.o j :=
  Tab.get_put _ _ _ _ _

/-- A change of one output that energises nothing. -/
theorem SafSt.Tame.setO (s : SafSt) (k : Nat) (f : SafOut → SafOut) (h : (f (s.o k)).on = true → (s.o k).on = true) : s.Tame (s.setO k f) :=
  ⟨rfl, rfl, id, id, fun j x => by
    rw [SafSt.o_setO] at x
    by_cases e : j = k
    · subst e; simp only [if_true] at x; exact .inl (h x)
    · simp only [e, if_false] at x; exact .inl x⟩

theorem SafSt.Tame.setI (s : SafSt) (k : Nat) (f : SafIn → SafIn) : s.Tame (s.setI k f) := .of_eq rfl

/-- A fold of tame effects is tame. -/
theorem SafSt.Tame.foldl {α : Type} (f : SafSt → α → SafSt) (hf : ∀ (s : SafSt) (a : α), s.Tame (f s a)) : ∀ (l : List α) (s : SafSt), s.Tame (l.foldl f s)
  | [], s => .rfl' s
  | a :: l, s => (hf s a).trans (SafSt.Tame.foldl f hf l (f s a))

theorem SafSt.Tame.forUp (n : Nat) (f : Nat → SafSt → SafSt) (hf : ∀ (k : Nat) (s : SafSt), s.Tame (f k s)) (s : SafSt) : s.Tame (forUp n f s) :=
  SafSt.Tame.foldl _ (fun s a => hf a s) _ s

/-- A fold of tame effects on the channels and the resettable part is tame. -/
theorem tame_foldl {α : Type} (f : SC → α → SC) (hf : ∀ (x : SC) (a : α), x.1.Tame (f x a).1) : ∀ (l : List α) (x : SC), x.1.Tame (l.foldl f x).1
  | [], x => .rfl' x.1
  | a :: l, x => (hf x a).trans (tame_foldl f hf l (f x a))

theorem tame_forUp (n : Nat) (f : Nat → SC → SC) (hf : ∀ (k : Nat) (x : SC), x.1.Tame (f k x).1) (x : SC) : x.1.Tame (forUp n f x).1 :=
  tame_foldl _ (fun x a => hf a x) _ x

/-! ### Demands and faults -/

theorem tame_dropSwitches (ch mask : Nat) (s : SafSt) : s.Tame (dropSwitches ch mask s) :=
  .forUp _ _ (fun k s => by
    split
    · refine .setO s k _ (fun h => ?_)
      simp only [SafOut.on, Bool.and_eq_true] at h ⊢
      exact ⟨h.1.1, h.2.1⟩
    · exact .rfl' s) s

theorem tame_channelAct (ch mask : Nat) (x : SC) : x.1.Tame (channelAct ch mask x).1 := by
  unfold channelAct
  refine SafSt.Tame.trans ?_ (tame_dropSwitches ch mask _)
  exact .of_eq rfl

theorem tame_channelsAct (chs mask : Nat) (x : SC) : x.1.Tame (channelsAct chs mask x).1 :=
  tame_forUp _ _ (fun k x => by split; exact tame_channelAct k mask x; exact .rfl' _) x

theorem tame_demandAct (chs : Nat) (l : LineSt) (x : SC) : x.1.Tame (demandAct chs l x).1 := by
  unfold demandAct
  refine .trans (t := (if x.1.demands l = 0 then x else channelsAct chs (x.1.affected (x.1.demands l)) x).1) ?_
    (.of_eq rfl)
  split
  · exact .rfl' _
  · exact tame_channelsAct _ _ x

theorem tame_recordFault (ch code : Nat) (x : SC) : x.1.Tame (recordFault ch code x).1 := by
  unfold recordFault; dsimp only; split <;> exact .of_eq rfl

theorem tame_twoFault (code : Nat) (x : SC) : x.1.Tame (twoFault code x).1 :=
  .trans (.trans (tame_recordFault 0 code x) (tame_recordFault 1 code _)) (.of_eq rfl)

theorem tame_mismatch (code : Nat) (s : SafSt) : s.Tame (mismatch code s) := by
  unfold mismatch; split; exact .rfl' s; exact .of_eq rfl

theorem tame_misDue (x : SC) : x.1.Tame (misDue x).1 := by
  unfold misDue
  generalize x.1.mis.filter (fun m => decide (m.2 < 10)) = ms
  have h : x.1.Tame { x.1 with mis := ms } := .of_eq rfl
  exact h.trans (tame_foldl (fun (x : SC) (m : Nat × Nat) => twoFault m.1 x) (fun x m => tame_twoFault m.1 x) _ ({ x.1 with mis := ms }, x.2))

theorem tame_singleFault (ch code : Nat) (l : LineSt) (x : SC) : x.1.Tame (singleFault ch code l x).1 := by
  unfold singleFault
  have h := tame_recordFault ch code x
  have g : ∀ c, (recordFault ch code x).1.runs c = false → (!bitAt (Nat.lor (recordFault ch code x).1.faulty (2 ^ ch)) c) = false := fun c y => by
    simp only [SafSt.runs, Bool.not_eq_false'] at y ⊢
    exact bitAt_lor _ _ _ y
  split
  · exact .rfl' _
  · dsimp only
    split
    · exact h.trans (.fewer rfl g)
    · split <;> exact h.trans (.fewer rfl g)

theorem tame_safeEnter (x : SC) : x.1.Tame (safeEnter x).1 := by
  unfold safeEnter
  split
  · exact .rfl' _
  · have h1 := tame_channelsAct 3 63 x
    have h2 : (channelsAct 3 63 x).1.Tame
        (Machine.forUp 6 (fun k s => s.setO k (fun o => { o with p := false, m := false })) (channelsAct 3 63 x).1) :=
      .forUp _ _ (fun k s => .setO s k _ (fun h => by simp [SafOut.on] at h)) _
    have h := h1.trans h2
    dsimp only
    generalize Machine.forUp 6 _ (channelsAct 3 63 x).1 = u at h ⊢
    exact ⟨h.set, h.diag, h.gates, (fun y => nomatch y), fun k hk => h.rise k hk⟩

theorem tame_safeWhenDue (x : SC) : x.1.Tame (safeWhenDue x).1 := by
  unfold safeWhenDue; split; exact tame_safeEnter x; exact .rfl' _

theorem tame_readbackTimeout (ch : Nat) (l : LineSt) (x : SC) : x.1.Tame (readbackTimeout ch l x).1 := by
  unfold readbackTimeout; split; exact tame_singleFault ch 11 l x; exact .rfl' _

theorem tame_degradedGate (x : SC) : x.1.Tame (degradedGate x).1 := by
  unfold degradedGate; split; exact .of_eq rfl; exact .rfl' _

theorem tame_degradedEnd (x : SC) : x.1.Tame (degradedEnd x).1 := by
  unfold degradedEnd; split; exact tame_safeEnter x; exact .rfl' _

/-! ### Inputs -/

theorem tame_sampleInput (k : Nat) (a b exA exB : Bool) (s : SafSt) : s.Tame (sampleInput k a b exA exB s) := by
  unfold sampleInput; dsimp only; split; exact .rfl' _; exact .setI s k _

theorem tame_clearButtons (s : SafSt) : s.Tame (clearButtons s) :=
  .forUp _ _ (fun k s => by split; exact .setI s k _; exact .rfl' _) s

theorem tame_safReset (l : LineSt) (x : SC) : x.1.Tame (safReset l x).1 := by
  unfold safReset; split; exact .of_eq rfl; exact .rfl' _

theorem tame_inputSample (a b exA exB : Nat) (l : LineSt) (x : SC) : x.1.Tame (inputSample a b exA exB l x).1 := by
  unfold inputSample
  split
  · exact .rfl' _
  · have h : x.1.Tame (Machine.forUp 8 (fun k s => sampleInput k (bitAt a k) (bitAt b k) (bitAt exA k) (bitAt exB k) s) x.1) :=
      .forUp _ _ (fun k s => tame_sampleInput _ _ _ _ _ s) _
    dsimp only
    generalize Machine.forUp 8 (fun k s => sampleInput k (bitAt a k) (bitAt b k) (bitAt exA k) (bitAt exB k) s) x.1 = u at h ⊢
    generalize hb : ((upTo 8).any fun k => u.inDemand k && (!(u.i k).fa || (u.i k).disc || (u.i k).inf != 0)) = sa
    generalize hb' : ((upTo 8).any fun k => u.inDemand k && (!(u.i k).fb || (u.i k).disc || (u.i k).inf != 0)) = sb
    generalize hy : (if (sa || sb) = true then demandAct (b2n sa + 2 * b2n sb) l (u, x.2) else
      (({ u with dem := Nat.land u.dem (u.demands l) }, x.2) : SC)) = y
    have h2 : u.Tame y.1 := by
      subst hy
      split
      · exact tame_demandAct _ l (u, x.2)
      · exact .of_eq rfl
    split
    · exact (h.trans h2).trans ((tame_clearButtons y.1).trans (tame_safReset l (clearButtons y.1, y.2)))
    · exact (h.trans h2).trans (tame_clearButtons y.1)

theorem tame_discrepancy (k : Nat) (l : LineSt) (x : SC) : x.1.Tame (discrepancy k l x).1 := by
  unfold discrepancy; split
  · exact .trans (.setI x.1 k _) (tame_demandAct 3 l (_, x.2))
  · exact .rfl' _

theorem tame_testPulse (side a b rb : Nat) (l : LineSt) (x : SC) : x.1.Tame (testPulse side a b rb l x).1 := by
  unfold testPulse
  split
  · exact .rfl' _
  · refine .trans ?_ (tame_demandAct 3 l (_, x.2))
    exact .forUp _ _ (fun k s => by split; exact .setI s k _; exact .rfl' _) _

/-! ### Outputs -/

theorem tame_outputFault (k cause : Nat) (x : SC) : x.1.Tame (outputFault k cause x).1 := by
  unfold outputFault
  split
  · exact .trans (.setO x.1 k _ id) (tame_channelsAct 3 _ (_, x.2))
  · exact .rfl' _

theorem tame_outputDrop (k cause : Nat) (s : SafSt) : s.Tame (outputDrop k cause s) := by
  unfold outputDrop
  have h : s.Tame (s.setO k (fun o => { o with fault := if o.fault = 0 then cause else o.fault, p := false, m := false, clean := 0, wrong := 0 })) :=
    .setO s k _ (fun h => by simp [SafOut.on] at h)
  dsimp only
  generalize s.setO k _ = u at h ⊢
  exact h.trans (.of_eq rfl)

theorem tame_offPulse (k side : Nat) (bad : Bool) (x : SC) : x.1.Tame (offPulse k side bad x).1 := by
  unfold offPulse; split; exact tame_outputFault k _ x; exact .rfl' _

theorem tame_currentLimit (k side : Nat) (x : SC) : x.1.Tame (currentLimit k side x).1 := tame_outputFault k _ x

theorem tame_openLoad (k : Nat) (x : SC) : x.1.Tame (openLoad k x).1 := by
  unfold openLoad; split; exact tame_outputDrop k 5 x.1; exact .rfl' _

theorem tame_weldLatch (k : Nat) (l : LineSt) (x : SC) : x.1.Tame (weldLatch k l x).1 :=
  .trans (.setO x.1 k _ id) (tame_demandAct 3 l (_, x.2))

theorem tame_cfTimeout (k : Nat) (l : LineSt) (x : SC) : x.1.Tame (cfTimeout k l x).1 := by
  unfold cfTimeout
  dsimp only
  split
  · exact .rfl' _
  · split
    · exact tame_weldLatch k l x
    · split
      · split
        · exact tame_outputDrop k 7 x.1
        · exact tame_weldLatch k l x
      · exact .rfl' _

/-- R320: an output is energised only under `mayEnergise`. -/
theorem tame_serveOut (l : LineSt) (k : Nat) (x : SC) : x.1.Tame (serveOut l k x).1 := by
  unfold serveOut
  dsimp only
  split
  · exact .of_eq rfl
  · split
    · split
      · refine SafSt.Tame.trans ?_ (tame_weldLatch k l _)
        exact .of_eq rfl
      · split
        · next h =>
          simp only [SafSt.mayEnergise, Bool.and_eq_true, Bool.not_eq_true'] at h
          refine ⟨rfl, rfl, id, id, fun j hj => ?_⟩
          exact .inr ⟨h.1.1.1.1.1.1.2, h.1.1.1.1.1.1.1.2, h.1.1.1.2, h.1.1.1.1.2⟩
        · exact .of_eq rfl
    · split
      · refine .trans (t := { x.1 with held := setBit x.1.held k false }) (.of_eq rfl) (.setO _ k _ (fun h => by simp [SafOut.on] at h))
      · exact .of_eq rfl

theorem tame_serveOuts (l : LineSt) (x : SC) : x.1.Tame (serveOuts l x).1 := tame_forUp _ _ (fun k x => tame_serveOut l k x) x

theorem tame_outReq (req : Nat) (l : LineSt) (x : SC) : x.1.Tame (outReq req l x).1 := by
  unfold outReq
  refine SafSt.Tame.trans ?_ (tame_serveOuts l _)
  exact .of_eq rfl

theorem tame_outReqHost (req : Nat) (l : LineSt) (x : SC) : x.1.Tame (outReqHost req l x).1 := by
  unfold outReqHost; split; exact .rfl' _; exact tame_outReq req l x

/-! ### Commissioning -/

theorem tame_touch (s : SafSt) : s.Tame (safmTouch s) := .of_eq rfl
theorem tame_result (r : Nat) (x : SC) : x.1.Tame (safResult r x).1 := .of_eq rfl

theorem tame_safStage (x : SC) : x.1.Tame (safStage x).1 := .of_eq rfl
theorem tame_safCvSet (va vb : Nat) (x : SC) : x.1.Tame (safCvSet va vb x).1 := by
  unfold safCvSet; split <;> exact .of_eq rfl
theorem tame_safCompute (x : SC) : x.1.Tame (safCompute x).1 := by
  unfold safCompute
  dsimp only
  split
  · exact tame_safCvSet _ _ x
  · exact .of_eq rfl
theorem tame_safAddr (i : Nat) (x : SC) : x.1.Tame (safAddr i x).1 := .of_eq rfl
theorem tame_safPdata (v : Nat) (x : SC) : x.1.Tame (safPdata v x).1 := by
  unfold safPdata; dsimp only; split <;> exact .of_eq rfl
theorem tame_safConfirm (v : Nat) (x : SC) : x.1.Tame (safConfirm v x).1 := .of_eq rfl
theorem tame_safPwdAct (x : SC) : x.1.Tame (safPwdAct x).1 := by
  unfold safPwdAct; split <;> exact .of_eq rfl
theorem tame_safPwdEnd (x : SC) : x.1.Tame (safPwdEnd x).1 := .of_eq rfl
theorem tame_safPassword (w3 : Nat) (x : SC) : x.1.Tame (safPassword w3 x).1 := by
  unfold safPassword
  dsimp only
  split
  · exact .of_eq rfl
  · split
    · exact .of_eq rfl
    · split <;> exact .of_eq rfl
theorem tame_sessionTimeout (x : SC) : x.1.Tame (sessionTimeout x).1 := by
  unfold sessionTimeout; split <;> exact .of_eq rfl
theorem tame_lockoutEnd (x : SC) : x.1.Tame (lockoutEnd x).1 := by
  unfold lockoutEnd; split <;> exact .of_eq rfl
theorem tame_logSelect (i : Nat) (x : SC) : x.1.Tame (logSelect i x).1 := by
  unfold logSelect; exact .of_eq rfl

theorem tame_safClrFlt (x : SC) : x.1.Tame (safClrFlt x).1 := by
  unfold safClrFlt
  dsimp only
  refine SafSt.Tame.trans ?_ ((tame_touch _).trans (tame_result 1 (_, x.2)))
  refine SafSt.Tame.trans ?_ (.forUp _ _ (fun k s => ?_) _)
  · exact .forUp _ _ (fun k s => by split; exact .setI s k _; exact .rfl' _) _
  · split
    · exact .setO s k _ id
    · exact .rfl' _

theorem tame_safRstCmd (l : LineSt) (x : SC) : x.1.Tame (safRstCmd l x).1 := by
  unfold safRstCmd
  split
  · exact (tame_touch x.1).trans ((tame_safReset l (safmTouch x.1, x.2)).trans (tame_result 1 _))
  · exact (tame_touch x.1).trans (tame_result 6 (safmTouch x.1, x.2))

theorem tame_safClrWeld (x : SC) : x.1.Tame (safClrWeld x).1 := by
  unfold safClrWeld
  dsimp only
  refine SafSt.Tame.trans ?_ ((tame_touch _).trans (tame_result _ (_, x.2)))
  exact .forUp _ _ (fun k s => by split; exact .setO s k _ id; exact .rfl' _) _

theorem tame_ownDiag (code : Nat) (a b : Bool) (l : LineSt) (x : SC) : x.1.Tame (ownDiag code a b l x).1 := by
  unfold ownDiag
  dsimp only
  cases a <;> cases b <;> simp only [if_true, if_false, Bool.false_eq_true]
  · exact (tame_singleFault 0 code l x).trans (tame_singleFault 1 code l _)
  · exact tame_singleFault 0 code l x
  · exact tame_singleFault 1 code l x
  · exact .rfl' _

theorem tame_rangeFault (a b : List Int) (l : LineSt) (x : SC) : x.1.Tame (rangeFault a b l x).1 := by
  unfold rangeFault
  dsimp only
  split
  · exact tame_singleFault 1 9 l x
  · split
    · exact tame_singleFault 0 9 l x
    · exact .rfl' _

theorem tame_windowEnd (n : Nat) (iA iB vA vB : List Int) (l : LineSt) (x : SC) : x.1.Tame (windowEnd n iA iB vA vB l x).1 := by
  unfold windowEnd
  split
  · exact .rfl' _
  · dsimp only
    generalize hs : ({ x.1 with n3 := _, n4 := _, out3 := _, out4 := _, iBad := _, vBad := _, vb := _, i2 := _ } : SafSt) = u
    have h0 : x.1.Tame u := by subst hs; exact .of_eq rfl
    generalize hc : (if x.2.tick.marks < 5000000 then _ else _ : Core) = c
    have h1 : u.Tame (rangeFault vA vB l (rangeFault iA iB l (demandAct 3 l (u, c)))).1 :=
      ((tame_demandAct 3 l (u, c)).trans (tame_rangeFault iA iB l _)).trans (tame_rangeFault vA vB l _)
    have h := h0.trans h1
    generalize rangeFault vA vB l _ = y at h ⊢
    split
    · exact h.trans (tame_mismatch 8 y.1)
    · exact h

theorem tame_toneDemand (l : LineSt) (x : SC) : x.1.Tame (toneDemand l x).1 := by
  unfold toneDemand; split; exact tame_demandAct 3 l x; exact .rfl' _

theorem tame_safMs (s : SafSt) : s.Tame (safMs s) := by
  unfold safMs
  dsimp only
  have h : s.Tame (Machine.forUp 6 outputMs (Machine.forUp 8 inputMs s)) := by
    refine SafSt.Tame.trans (.forUp _ _ (fun k s => ?_) _) (.forUp _ _ (fun k s => ?_) _)
    · unfold inputMs; split; exact .rfl' _; exact .setI s k _
    · unfold outputMs; split <;> exact .setO s k _ id
  generalize Machine.forUp 6 outputMs (Machine.forUp 8 inputMs s) = u at h ⊢
  exact h.trans (.of_eq rfl)

theorem tame_exchangeMissing (x : SC) : x.1.Tame (exchangeMissing x).1 := by
  unfold exchangeMissing
  dsimp only
  have g : x.1.Tame { x.1 with missing := x.1.missing + 1 } := .of_eq rfl
  have h := g.trans (tame_safMs _)
  split
  · exact (h.trans (tame_twoFault 6 (_, x.2))).trans (tame_misDue _)
  · exact h.trans (tame_misDue (_, x.2))

/-! ### Posted writes of SAFM -/

theorem tame_passwordWord (i v : Nat) (x : SC) : x.1.Tame (passwordWord i v x).1 := by
  unfold passwordWord
  split
  · exact .of_eq rfl
  · exact tame_safPassword v x

theorem tame_safCmd (bit : Nat) (l : LineSt) (x : SC) : x.1.Tame (safCmd bit l x).1 := by
  unfold safCmd
  split
  · exact tame_safStage x
  · exact tame_safCompute x
  · exact tame_safClrFlt x
  · exact tame_safRstCmd l x
  · exact tame_safClrWeld x
  · exact tame_safPwdEnd x
  · exact tame_safPwdAct x
  · exact .rfl' _

theorem tame_postSaf (w : PWrite) (l : LineSt) (x : SC) : x.1.Tame (postSaf w l x).1 := by
  unfold postSaf
  dsimp only
  split
  · exact tame_outReqHost _ l x
  · split
    · exact tame_safConfirm _ x
    · split
      · exact tame_safPdata _ x
      · split
        · exact tame_logSelect _ x
        · split
          · exact tame_safAddr _ x
          · split
            · exact .of_eq rfl
            · split
              · exact tame_safCmd _ l x
              · split
                · exact tame_passwordWord _ _ x
                · exact .of_eq rfl

end Sys2Proof.Machine
end

