-- ==== Sys2Proof/Laws/Calm.lean ====
section
/-! SUPPORT. What every command but a few leaves alone: the always-on section, the 24 V input, the queue, and of the safety
channels what `SafSt.Tame` says. -/

namespace Sys2Proof.Machine

/-- From `s` to `t` the always-on section, the state of the input and the queue stay, and the channels change tamely. -/
structure State.Calm (s t : State) : Prop where
  aon : t.aon = s.aon
  vin : t.pwr.vin = s.pwr.vin
  pending : t.pending = s.pending
  saf : s.saf.Tame t.saf

theorem State.Calm.rfl' (s : State) : s.Calm s := ⟨rfl, rfl, rfl, .rfl' _⟩

theorem State.Calm.trans {s t u : State} (h : s.Calm t) (g : t.Calm u) : s.Calm u :=
  ⟨g.aon.trans h.aon, g.vin.trans h.vin, g.pending.trans h.pending, h.saf.trans g.saf⟩

/-- A change that reaches none of these parts. -/
theorem State.Calm.of_eq {s t : State} (h1 : t.aon = s.aon) (h2 : t.pwr.vin = s.pwr.vin) (h3 : t.pending = s.pending) (h4 : t.saf = s.saf) :
    s.Calm t := ⟨h1, h2, h3, h4 ▸ .rfl' _⟩

theorem calm_ite (b : Prop) [Decidable b] {s t u : State} (h : b → s.Calm t) (g : ¬ b → s.Calm u) : s.Calm (if b then t else u) := by
  split
  · next x => exact h x
  · next x => exact g x

theorem calm_foldl {α : Type} (f : State → α → State) (hf : ∀ (s : State) (a : α), s.Calm (f s a)) : ∀ (l : List α) (s : State), s.Calm (l.foldl f s)
  | [], s => .rfl' s
  | a :: l, s => (hf s a).trans (calm_foldl f hf l (f s a))

/-! ### Lifts -/

theorem calm_onCore (f : Core → Core) (s : State) : s.Calm (onCore f s) := by
  unfold onCore; split <;> exact .of_eq rfl rfl rfl rfl
theorem calm_onCoreA (f : AonSt → PwrSt → Core → Core) (s : State) : s.Calm (onCoreA f s) := by
  unfold onCoreA; split <;> exact .of_eq rfl rfl rfl rfl
theorem calm_onNv (f : AonSt → NvSt → Core → NvSt × Core) (s : State) : s.Calm (onNv f s) := by
  unfold onNv; split <;> exact .of_eq rfl rfl rfl rfl
theorem calm_onLine (f : LineSt → Core → LineSt × Core) (s : State) : s.Calm (onLine f s) := by
  unfold onLine; split <;> exact .of_eq rfl rfl rfl rfl
theorem calm_onSaf (f : AonSt → LineSt → SC → SC) (hf : ∀ (a : AonSt) (l : LineSt) (x : SC), x.1.Tame (f a l x).1) (s : State) : s.Calm (onSaf f s) where
  aon := onSaf_aon f s
  vin := by rw [onSaf_pwr]
  pending := onSaf_pending f s
  saf := onSaf_saf f s _ (.rfl' _) (hf s.aon s.line (s.saf, s.core)) (fun _ _ h => h.trans (.of_eq rfl))

theorem calm_toneLines (s t : State) : t.Calm (toneLines s t) :=
  calm_onSaf _ (fun _ l x => by unfold singleLoss; dsimp only; split <;> exact .of_eq rfl) t

/-! ### Resets -/

theorem calm_resetSteps (dog : Bool) (s : State) : s.Calm (resetSteps dog s) := by
  unfold resetSteps; dsimp only; split <;> exact .of_eq rfl rfl rfl rfl
theorem calm_resetAssert (code : Nat) (s : State) : s.Calm (resetAssert code s) := .of_eq rfl rfl rfl rfl
theorem calm_deviceReset (code : Nat) (dog : Bool) (s : State) : s.Calm (deviceReset code dog s) := by
  unfold deviceReset; split
  · exact .rfl' s
  · exact (calm_resetSteps dog s).trans (calm_resetAssert code _)
theorem calm_powerCycle (dog : Bool) (s : State) : s.Calm (powerCycle dog s) := by
  unfold powerCycle; split
  · exact .rfl' s
  · have h := calm_resetSteps dog s
    dsimp only
    generalize resetSteps dog s = u at h ⊢
    exact h.trans (.of_eq rfl rfl rfl rfl)
theorem calm_pcycFallback (s : State) : s.Calm (pcycFallback s) := by
  unfold pcycFallback; split <;> exact .of_eq rfl rfl rfl rfl
theorem calm_watchdogReset (s : State) : s.Calm (watchdogReset s) := by
  unfold watchdogReset; split
  · exact .rfl' s
  · dsimp only
    have h : s.Calm { s with pwr := { s.pwr with wdOps := s.aon.ops :: s.pwr.wdOps.filter (fun t => decide (s.aon.ops - t ≤ 600000)), wdCnt := min 255 (s.pwr.wdCnt + 1) } } :=
      .of_eq rfl rfl rfl rfl
    split
    · refine h.trans (State.Calm.trans ?_ (calm_powerCycle true _))
      exact .of_eq rfl rfl rfl rfl
    · exact h.trans (calm_deviceReset 4 true _)
theorem calm_watchdogKick (k : Nat) (s : State) : s.Calm (watchdogKick k s) := by
  unfold watchdogKick; split
  · exact .rfl' s
  · dsimp only
    generalize (if s.pwr.kicked.contains k = true then s.pwr.kicked else k :: s.pwr.kicked) = ks
    split <;> exact .of_eq rfl rfl rfl rfl
theorem calm_watchdogWarning (s : State) : s.Calm (watchdogWarning s) := by
  unfold watchdogWarning; split <;> exact .of_eq rfl rfl rfl rfl
theorem calm_vinReturn (s : State) : s.Calm (vinReturn s) := by
  unfold vinReturn; split <;> exact .of_eq rfl rfl rfl rfl
theorem calm_bankChange (b p : Bool) (s : State) : s.Calm (bankChange b p s) := by
  unfold bankChange
  split
  · dsimp only
    split
    · have g0 : s.Calm { { s with pwr := { s.pwr with bankB := p } } with core := bankBLost s.core } := .of_eq rfl rfl rfl rfl
      have g := g0.trans (calm_deviceReset 3 false _)
      split
      · exact g0
      · generalize deviceReset 3 false _ = u at g ⊢
        exact g.trans (.of_eq rfl rfl rfl rfl)
    · split <;> exact .of_eq rfl rfl rfl rfl
  · dsimp only; split <;> exact .of_eq rfl rfl rfl rfl
theorem calm_bootStage0 (s : State) : s.Calm (bootStage0 s) := by
  unfold bootStage0; split
  · exact .rfl' s
  · dsimp only; split <;> exact .of_eq rfl rfl rfl rfl
theorem calm_bootStage1 (s : State) : s.Calm (bootStage1 s) := by
  unfold bootStage1; split <;> exact .of_eq rfl rfl rfl rfl
theorem calm_applicationStart (p : Bool) (s : State) : s.Calm (applicationStart p s) := by
  unfold applicationStart; split <;> exact .of_eq rfl rfl rfl rfl
theorem calm_ready (s : State) : s.Calm (ready s) := by
  unfold ready; split <;> exact .of_eq rfl rfl rfl rfl

/-! ### Register writes -/

theorem calm_resetWrite (how : WMode) (v : Nat) (s : State) : s.Calm (resetWrite how v s) := by
  unfold resetWrite; split
  · exact calm_powerCycle false s
  · split
    · exact calm_deviceReset 2 false s
    · exact .rfl' s
theorem calm_ownWrite (p : Master) (o : Nat) (how : WMode) (v : Nat) (late : Bool) (s : State) : s.Calm (ownWrite p o how v late s) := by
  unfold ownWrite; split
  · split
    · exact calm_resetWrite how v s
    · exact .rfl' s
  · exact (calm_onCore _ s).trans (calm_onNv _ _)
theorem calm_regWrite (p : Master) (n v mask : Nat) (how : WMode) (late : Bool) (s : State) : s.Calm (regWrite p n v mask how late s) := by
  unfold regWrite
  dsimp only
  split
  · exact calm_onCore _ s
  · generalize hs : onCore _ s = u
    have h : s.Calm u := by subst hs; exact calm_onCore _ s
    generalize hb : ((regAt n).any fun f => f.cls == .own && f.bitsOf mask != 0) = b
    generalize hw : (if b = true then ownWrite p n how v late u else u) = w
    have g : u.Calm w := by
      subst hw; split
      · exact calm_ownWrite p n how v late u
      · exact .rfl' u
    have hw := h.trans g
    split
    · exact hw.trans (calm_onCore _ w)
    · split
      · exact hw.trans (calm_onCore _ w)
      · exact hw
theorem calm_busWrite (m : Master) (off v be : Nat) (how : WMode) (late : Bool) (s : State) : s.Calm (busWrite m off v be how late s) := by
  unfold busWrite
  dsimp only
  split
  · exact calm_onCore _ s
  · split
    · exact calm_onCore _ s
    · split
      · exact .rfl' s
      · split
        · exact calm_onCore _ s
        · split
          · exact (calm_onCore _ s).trans (calm_regWrite _ _ _ _ _ _ _)
          · exact calm_regWrite _ _ _ _ _ _ s
theorem calm_postField (s : State) (w : PWrite) : s.Calm (postField s w) := by
  unfold postField; split
  · exact calm_onSaf _ (fun _ l x => tame_postSaf w l x) s
  · exact calm_onCore _ s
theorem calm_postedCommit (b : Nat) (s : State) : s.Calm (postedCommit b s) := by
  unfold postedCommit; split
  · dsimp only
    refine State.Calm.trans ?_ (calm_onCore _ _)
    refine State.Calm.trans ?_ (calm_foldl _ calm_postField _ _)
    exact .of_eq rfl rfl rfl rfl
  · exact .rfl' s

/-! ### Ring commands -/

theorem calm_cmdEnd (j : JRec) (st r : Nat) (s : State) : s.Calm (cmdEnd j st r s) := calm_onNv _ s
theorem calm_cmdWait (j : JRec) (w : Nat) (s : State) : s.Calm (cmdWait j w s) := .of_eq rfl rfl rfl rfl
theorem calm_cmdBuffer (j : JRec) (d : List Nat) (st r : Nat) (s : State) : s.Calm (cmdBuffer j d st r s) := by
  unfold cmdBuffer
  dsimp only
  split
  · refine State.Calm.trans ?_ (calm_cmdEnd j st r _); exact .of_eq rfl rfl rfl rfl
  · refine State.Calm.trans ?_ (calm_onCore _ _); exact .of_eq rfl rfl rfl rfl
theorem calm_cmdRegWrite (o off v m : Nat) (s : State) : s.Calm (cmdRegWrite o off v m s) := by
  unfold cmdRegWrite
  dsimp only
  split
  · exact .rfl' s
  · split
    · exact calm_onCore _ s
    · split
      · exact (calm_onCore _ s).trans (calm_regWrite _ _ _ _ _ _ _)
      · exact calm_regWrite _ _ _ _ _ _ s
theorem calm_regWriteGo (j : JRec) (s : State) : s.Calm (regWriteGo j s) := by
  unfold regWriteGo
  dsimp only
  split
  · exact (calm_onCore _ s).trans (calm_cmdEnd _ _ _ _)
  · split
    · exact calm_cmdWait j 20 s
    · split
      · exact (calm_cmdEnd j 0 0 s).trans (calm_cmdRegWrite _ _ _ _ _)
      · exact (calm_cmdRegWrite _ _ _ _ s).trans (calm_cmdWait j 13 _)
theorem calm_cmdHold (j : JRec) (w i : Nat) (s : State) : s.Calm (cmdHold j w i s) := .of_eq rfl rfl rfl rfl
theorem calm_regListGo (j : JRec) (b : List Nat) (n i : Nat) (s : State) : s.Calm (regListGo j b n i s) := by
  induction n generalizing i s with
  | zero => exact calm_cmdHold j 17 i s
  | succ n ih =>
    unfold regListGo
    dsimp only
    split
    · exact calm_cmdHold j 17 i s
    · split
      · exact calm_cmdEnd j 4 i s
      · split
        · exact (calm_onCore _ s).trans (calm_cmdEnd j 3 i _)
        · split
          · exact calm_cmdHold j 23 i s
          · exact (calm_cmdRegWrite _ _ _ _ s).trans (ih (i + 1) _)

/-- A command of a ring that is calm from every state. -/
theorem calm_runCmd (op r : Nat) (masks : List Nat) (f : JRec → State → State) (hf : ∀ (j : JRec) (s : State), s.Calm (f j s)) (s : State) :
    s.Calm (runCmd op r masks f s) := by
  unfold runCmd
  split
  · exact .rfl' s
  · split
    · exact .rfl' s
    · split
      · exact calm_cmdEnd _ _ _ s
      · split
        · exact calm_cmdEnd _ _ _ s
        · split
          · exact calm_cmdEnd _ _ _ s
          · exact hf _ s

theorem calm_cmdRingCreate (j : JRec) (s : State) : s.Calm (cmdRingCreate j s) := by
  unfold cmdRingCreate; dsimp only
  split
  · exact calm_cmdEnd _ _ _ s
  · split
    · exact calm_cmdEnd _ _ _ s
    · split
      · exact calm_cmdEnd _ _ _ s
      · exact (calm_onNv _ s).trans (calm_cmdEnd _ _ _ _)
theorem calm_cmdRingDelete (j : JRec) (s : State) : s.Calm (cmdRingDelete j s) := by
  unfold cmdRingDelete; dsimp only
  split
  · exact calm_cmdEnd _ _ _ s
  · split
    · exact calm_cmdEnd _ _ _ s
    · split
      · exact calm_cmdEnd _ _ _ s
      · split
        · exact (calm_onNv _ s).trans (calm_cmdEnd _ _ _ _)
        · exact (calm_onNv _ s).trans (calm_cmdWait _ _ _)
theorem calm_cmdRingRestart (j : JRec) (s : State) : s.Calm (cmdRingRestart j s) := by
  unfold cmdRingRestart; dsimp only
  split
  · exact calm_cmdEnd _ _ _ s
  · split
    · exact calm_cmdEnd _ _ _ s
    · split
      · exact calm_cmdEnd _ _ _ s
      · split
        · exact calm_cmdEnd _ _ _ s
        · exact (calm_onNv _ s).trans (calm_cmdEnd _ _ _ _)
theorem calm_cmdRingReset (j : JRec) (s : State) : s.Calm (cmdRingReset j s) := by
  unfold cmdRingReset; dsimp only
  split
  · exact calm_cmdEnd _ _ _ s
  · exact (calm_onNv _ s).trans (calm_cmdEnd _ _ _ _)
theorem calm_cmdVectorMap (j : JRec) (s : State) : s.Calm (cmdVectorMap j s) := by
  unfold cmdVectorMap; dsimp only
  split
  · exact calm_cmdEnd _ _ _ s
  · refine State.Calm.trans ?_ (calm_cmdEnd _ _ _ _); exact .of_eq rfl rfl rfl rfl
theorem calm_cmdStreamBind (j : JRec) (s : State) : s.Calm (cmdStreamBind j s) := by
  unfold cmdStreamBind; dsimp only
  split
  · exact calm_cmdEnd _ _ _ s
  · split
    · exact calm_cmdEnd _ _ _ s
    · split
      · refine State.Calm.trans ?_ (calm_cmdEnd _ _ _ _); exact .of_eq rfl rfl rfl rfl
      · split
        · exact calm_cmdEnd _ _ _ s
        · split
          · exact calm_cmdEnd _ _ _ s
          · refine State.Calm.trans ?_ (calm_cmdEnd _ _ _ _); exact .of_eq rfl rfl rfl rfl
theorem calm_cmdAtuInvalidate (j : JRec) (s : State) : s.Calm (cmdAtuInvalidate j s) := by
  unfold cmdAtuInvalidate; dsimp only
  split
  · exact calm_cmdEnd _ _ _ s
  · split
    · exact (calm_onCore _ s).trans (calm_cmdWait _ _ _)
    · exact (calm_onCore _ s).trans ((calm_onCore _ _).trans (calm_cmdEnd _ _ _ _))
theorem calm_cmdIdentify (j : JRec) (s : State) : s.Calm (cmdIdentify j s) := by
  unfold cmdIdentify; split
  · exact calm_cmdEnd _ _ _ s
  · exact calm_cmdBuffer _ _ _ _ s
theorem calm_cmdRegRead (j : JRec) (s : State) : s.Calm (cmdRegRead j s) := by
  unfold cmdRegRead; dsimp only
  split
  · exact calm_cmdEnd _ _ _ s
  · split <;> exact calm_cmdEnd _ _ _ s
theorem calm_cmdRegWr (j : JRec) (s : State) : s.Calm (cmdRegWr j s) := by
  unfold cmdRegWr; split
  · exact calm_regWriteGo j s
  · exact calm_cmdEnd _ _ _ s
theorem calm_cmdRegList (j : JRec) (s : State) : s.Calm (cmdRegList j s) := by
  unfold cmdRegList; split
  · exact calm_cmdEnd _ _ _ s
  · exact calm_regListGo _ _ _ _ s
/-- A command that acts on the resettable part and then waits. -/
theorem calm_coreWait (j : JRec) (w : Nat) (f : Core → Core) (s : State) : s.Calm (cmdWait j w (onCore f s)) := (calm_onCore f s).trans (calm_cmdWait j w _)
theorem calm_cmdOutputRequest (j : JRec) (s : State) : s.Calm (cmdOutputRequest j s) := by
  unfold cmdOutputRequest; split
  · exact calm_cmdWait _ _ s
  · exact calm_coreWait _ _ _ s
theorem calm_cmdGlean (j : JRec) (s : State) : s.Calm (cmdGlean j s) := by
  unfold cmdGlean; dsimp only
  generalize hs : onCore _ s = u
  have h : s.Calm u := by subst hs; exact calm_onCore _ s
  exact calm_ite _ (fun _ => h.trans (calm_cmdWait _ _ _)) (fun _ => h.trans (calm_cmdEnd _ _ _ _))
theorem calm_cmdRest (j : JRec) (s : State) : s.Calm (cmdRest j s) := by
  unfold cmdRest; dsimp only
  split
  · exact (calm_onCore _ s).trans (calm_cmdWait _ _ _)
  · exact (calm_onCore _ s).trans (calm_cmdEnd _ _ _ _)
theorem calm_cmdImpBurst (j : JRec) (s : State) : s.Calm (cmdImpBurst j s) := (calm_onCore _ s).trans (calm_cmdEnd _ _ _ _)
theorem calm_cmdCteLoad (j : JRec) (s : State) : s.Calm (cmdCteLoad j s) := by
  unfold cmdCteLoad; split
  · exact calm_cmdEnd _ _ _ s
  · exact calm_coreWait _ _ _ s
theorem calm_cmdCteParam (j : JRec) (s : State) : s.Calm (cmdCteParam j s) := by
  unfold cmdCteParam; split
  · exact calm_cmdEnd _ _ _ s
  · exact calm_coreWait _ _ _ s
theorem calm_cmdSnapshot (j : JRec) (s : State) : s.Calm (cmdSnapshot j s) := by
  unfold cmdSnapshot; split
  · exact calm_cmdEnd _ _ _ s
  · split
    · exact calm_cmdWait _ _ s
    · exact calm_coreWait _ _ _ s
theorem calm_cmdEvrRead (j : JRec) (s : State) : s.Calm (cmdEvrRead j s) := by
  unfold cmdEvrRead; dsimp only; split
  · exact calm_cmdEnd _ _ _ s
  · exact calm_cmdBuffer _ _ _ _ s
theorem calm_cmdPosRead (j : JRec) (s : State) : s.Calm (cmdPosRead j s) := by
  unfold cmdPosRead; dsimp only
  exact calm_ite _ (fun _ => calm_cmdEnd _ _ _ s) (fun _ => calm_cmdBuffer _ _ _ _ s)

theorem calm_settle1 (j : JRec) (s : State) : s.Calm (settle1 j s) := by
  unfold settle1
  dsimp only
  split
  · exact calm_ite _ (fun _ => .rfl' s) (fun _ => calm_cmdBuffer _ _ _ _ s)
  · exact calm_ite _ (fun _ => .rfl' s) (fun _ => (calm_onCore _ s).trans (calm_cmdEnd _ _ _ _))
  · exact calm_regWriteGo j s
  · exact calm_cmdSnapshot j s
  · exact calm_cmdOutputRequest j s
  · exact calm_regListGo _ _ _ _ s
  · split
    · exact calm_cmdEnd _ _ _ s
    · exact .rfl' s

theorem calm_hifSettle (s : State) : s.Calm (hifSettle s) := by
  unfold hifSettle; split
  · exact .rfl' s
  · exact calm_foldl _ (fun s j => calm_settle1 j s) _ s
theorem calm_settled {s t : State} (h : s.Calm t) : s.Calm (hifSettle t) := h.trans (calm_hifSettle t)

/-! ### The rest -/

theorem calm_inService (f : State → State) (hf : ∀ (s : State), s.Calm (f s)) (s : State) : s.Calm (inService f s) := by
  unfold inService
  exact calm_ite _ (fun _ => .rfl' s) (fun _ => calm_ite _ (fun _ => hf s) (fun _ => calm_onCore _ s))
theorem calm_svcWrite (off v : Nat) (late : Bool) (s : State) : s.Calm (svcWrite off v late s) := by
  unfold svcWrite
  exact calm_ite _ (fun _ => calm_onCore _ s) (fun _ => calm_inService _ (fun s => (calm_busWrite _ _ _ _ _ _ s).trans (calm_onCore _ _)) s)
theorem tame_pdataWrite (v : Nat) (x : SC) : x.1.Tame (pdataWrite v x).1 := by
  unfold pdataWrite; split
  · exact tame_safPdata v x
  · exact tame_touch x.1
theorem calm_tickFrame (f : TickFrame) (s : State) : s.Calm (tickFrame f s) := by
  unfold tickFrame
  refine calm_ite _ (fun _ => .rfl' s) (fun _ => calm_ite _ (fun _ => .of_eq rfl rfl rfl rfl) (fun _ => ?_))
  refine calm_ite _ (fun _ => ?_) (fun _ => .of_eq rfl rfl rfl rfl)
  exact ⟨rfl, rfl, rfl, tame_outReq _ s.line (s.saf, _)⟩
theorem calm_uploadStep (o : Nat) (d : List Nat) (a b : Bool) (w : Nat) (s : State) : s.Calm (uploadStep o d a b w s) := by
  unfold uploadStep
  dsimp only
  have h := (calm_onNv (fun _ nv c => upload o d a b w (nv, c)) s).trans (calm_onCore (fun c => usbAnswer (if c.rd F.UPD_STAT.ERR = 0 then 0 else 2) c.updWords c) _)
  exact calm_ite _ (fun _ => h.trans (calm_deviceReset 2 false _)) (fun _ => h)
theorem calm_thermalStep (t : Int) (s : State) : s.Calm (thermalStep t s) := by
  unfold thermalStep
  dsimp only
  exact calm_ite _ (fun _ => (calm_onCore _ s).trans (calm_powerCycle false _)) (fun _ => calm_onCore _ s)
theorem calm_gateOffLine (ch : Nat) (s : State) : s.Calm (gateOffLine ch s) :=
  calm_onSaf (fun _ _ x => ({ x.1 with gate := Nat.lor x.1.gate (2 ^ ch) }, gateLine ch true x.2))
    (fun _ _ _ => .of_eq rfl) s

/-! ### The commands -/

/-- The commands that advance, store or load the time bases of the always-on section, or change the state of the 24 V input. -/
def Instr.powers : Instr → Bool
  | .powerOn | .powerOnResetRelease | .inputLoss | .holdUpEnd | .opsStore | .opsRefresh => true
  | _ => false

/-- The commands that change what the channels hold as active, or end their power-on diagnostics. -/
def Instr.exchanges : Instr → Bool
  | .channelExchange _ | .powerOnDiagComplete => true
  | _ => false

/-- Every other command is calm. -/
theorem calm_exec (c : Instr) (hp : Instr.powers c = false) (he : Instr.exchanges c = false) (s : State) :
    ∃ t, exec c s = .next t ∧ s.Calm t := by
  cases c with
  | vinReturn => exact ⟨_, rfl, calm_vinReturn s⟩
  | bankSupplyChange _ _ => exact ⟨_, rfl, calm_bankChange _ _ s⟩
  | bootStage0 => exact ⟨_, rfl, calm_bootStage0 s⟩
  | bootStage1 => exact ⟨_, rfl, calm_bootStage1 s⟩
  | applicationStart _ => exact ⟨_, rfl, calm_applicationStart _ s⟩
  | ready => exact ⟨_, rfl, calm_ready s⟩
  | deviceReset => exact ⟨_, rfl, calm_deviceReset _ _ s⟩
  | powerCycle => exact ⟨_, rfl, calm_powerCycle _ s⟩
  | pcycFallback => exact ⟨_, rfl, calm_pcycFallback s⟩
  | hotReset => exact ⟨_, rfl, calm_deviceReset _ _ s⟩
  | watchdogKick _ => exact ⟨_, rfl, calm_watchdogKick _ s⟩
  | watchdogWarning => exact ⟨_, rfl, calm_watchdogWarning s⟩
  | watchdogReset => exact ⟨_, rfl, calm_watchdogReset s⟩
  | flr _ => exact ⟨_, rfl, calm_onNv _ s⟩
  | tickBoundary _ => exact ⟨_, rfl, calm_settled (calm_onCore _ s)⟩
  | enginePass => exact ⟨_, rfl, calm_onCore _ s⟩
  | cteNop => exact ⟨_, rfl, .rfl' s⟩
  | cteLda _ => exact ⟨_, rfl, calm_onCore _ s⟩
  | cteMpy _ => exact ⟨_, rfl, calm_onCore _ s⟩
  | cteMac _ => exact ⟨_, rfl, calm_onCore _ s⟩
  | cteMsu _ => exact ⟨_, rfl, calm_onCore _ s⟩
  | cteAdd _ => exact ⟨_, rfl, calm_onCore _ s⟩
  | cteSub _ => exact ⟨_, rfl, calm_onCore _ s⟩
  | cteAdda _ => exact ⟨_, rfl, calm_onCore _ s⟩
  | cteSuba _ => exact ⟨_, rfl, calm_onCore _ s⟩
  | cteShl _ => exact ⟨_, rfl, calm_onCore _ s⟩
  | cteShr _ => exact ⟨_, rfl, calm_onCore _ s⟩
  | cteClmp _ => exact ⟨_, rfl, calm_onCore _ s⟩
  | cteCmplt _ => exact ⟨_, rfl, calm_onCore _ s⟩
  | cteCmpge _ => exact ⟨_, rfl, calm_onCore _ s⟩
  | cteTst _ => exact ⟨_, rfl, calm_onCore _ s⟩
  | cteSts _ => exact ⟨_, rfl, calm_onCore _ s⟩
  | cteStu _ => exact ⟨_, rfl, calm_onCore _ s⟩
  | cteMov _ => exact ⟨_, rfl, calm_onCore _ s⟩
  | cteEnd => exact ⟨_, rfl, .rfl' s⟩
  | commitPoint _ _ => exact ⟨_, rfl, calm_onNv _ s⟩
  | carrierPeak _ => exact ⟨_, rfl, calm_onCore _ s⟩
  | frameBoundary => exact ⟨_, rfl, calm_settled (calm_onCoreA _ s)⟩
  | profileGo _ => exact ⟨_, rfl, calm_onCore _ s⟩
  | tickPeriodRequest _ _ => exact ⟨_, rfl, calm_onCore _ s⟩
  | tickFrameRequest _ _ => exact ⟨_, rfl, calm_onCore _ s⟩
  | snapshotArm _ => exact ⟨_, rfl, calm_onCore _ s⟩
  | snapshotCapture _ => exact ⟨_, rfl, calm_settled (calm_onCore _ s)⟩
  | eventSequence => exact ⟨_, rfl, calm_onNv _ s⟩
  | registerWrite _ _ _ _ _ => exact ⟨_, rfl, calm_busWrite _ _ _ _ _ _ s⟩
  | setAliasWrite _ _ _ _ _ => exact ⟨_, rfl, calm_busWrite _ _ _ _ _ _ s⟩
  | clearAliasWrite _ _ _ _ _ => exact ⟨_, rfl, calm_busWrite _ _ _ _ _ _ s⟩
  | toggleAliasWrite _ _ _ _ _ => exact ⟨_, rfl, calm_busWrite _ _ _ _ _ _ s⟩
  | postedWrite _ _ _ _ _ => exact ⟨_, rfl, calm_ite _ (fun _ => calm_busWrite _ _ _ _ _ _ s) (fun _ => .rfl' s)⟩
  | postedWriteCommit _ => exact ⟨_, rfl, calm_settled (calm_postedCommit _ s)⟩
  | enumReq => exact ⟨_, rfl, calm_settled (calm_onCore _ s)⟩
  | enumeration _ => exact ⟨_, rfl, calm_settled (calm_onCore _ s)⟩
  | enumerationComplete => exact ⟨_, rfl, calm_onCore _ s⟩
  | enumRetry => exact ⟨_, rfl, calm_onCore _ s⟩
  | dlygo => exact ⟨_, rfl, calm_onCore _ s⟩
  | delayRemeasureDue => exact ⟨_, rfl, calm_onCore _ s⟩
  | delayMeasureComplete _ => exact ⟨_, rfl, calm_onCore _ s⟩
  | nodeSample _ => exact ⟨_, rfl, calm_onCore _ s⟩
  | resultReceived _ _ _ _ _ _ => exact ⟨_, rfl, calm_onCore _ s⟩
  | readRetry _ _ => exact ⟨_, rfl, calm_onCore _ s⟩
  | readoutComplete => exact ⟨_, rfl, calm_onCore _ s⟩
  | readoutDeadline => exact ⟨_, rfl, calm_onCore _ s⟩
  | frameRecordPublish => exact ⟨_, rfl, calm_onNv _ s⟩
  | bleedScheduleSend _ => exact ⟨_, rfl, calm_onCore _ s⟩
  | openWireDiagRead _ _ => exact ⟨_, rfl, calm_onCore _ s⟩
  | nodeDiagRead _ _ _ => exact ⟨_, rfl, calm_onCore _ s⟩
  | helloReceived _ _ => exact ⟨_, rfl, calm_onCore _ s⟩
  | nodeReaddress _ _ => exact ⟨_, rfl, calm_onCore _ s⟩
  | nodeUnreachable _ => exact ⟨_, rfl, calm_onCore _ s⟩
  | nodeFault _ _ => exact ⟨_, rfl, calm_onCore _ s⟩
  | linkBreak _ => exact ⟨_, rfl, calm_onCore _ s⟩
  | toneLoss _ => exact ⟨_, rfl, (calm_onLine _ s).trans (calm_toneLines s _)⟩
  | toneRestore _ => exact ⟨_, rfl, (calm_onLine _ s).trans (calm_toneLines s _)⟩
  | breakLocated _ _ => exact ⟨_, rfl, calm_onCore _ s⟩
  | ringClosure => exact ⟨_, rfl, calm_onCore _ s⟩
  | measWindowSelect _ _ => exact ⟨_, rfl, calm_onCore _ s⟩
  | coolingMessage => exact ⟨_, rfl, calm_onCore _ s⟩
  | coolingUnitLost => exact ⟨_, rfl, calm_onCore _ s⟩
  | burstDue => exact ⟨_, rfl, calm_onCore _ s⟩
  | impGo => exact ⟨_, rfl, calm_onCore _ s⟩
  | impAbort => exact ⟨_, rfl, calm_onCore _ s⟩
  | burstSetup _ => exact ⟨_, rfl, calm_onCore _ s⟩
  | burstSample _ _ => exact ⟨_, rfl, calm_onCore _ s⟩
  | burstReadoutStart => exact ⟨_, rfl, calm_onCore _ s⟩
  | burstPacketReceived _ _ _ _ _ => exact ⟨_, rfl, calm_onCore _ s⟩
  | burstPublish => exact ⟨_, rfl, calm_onNv _ s⟩
  | timpExpire => exact ⟨_, rfl, calm_onCore _ s⟩
  | impResultSelect _ => exact ⟨_, rfl, calm_onCore _ s⟩
  | norestSet => exact ⟨_, rfl, calm_onCoreA _ s⟩
  | restReq => exact ⟨_, rfl, calm_onCore _ s⟩
  | restSlotEnd => exact ⟨_, rfl, calm_settled (calm_onCore _ s)⟩
  | gleanReq => exact ⟨_, rfl, calm_settled (calm_onCore _ s)⟩
  | gleanAbort => exact ⟨_, rfl, calm_settled (calm_onCore _ s)⟩
  | gleanRestEnd => exact ⟨_, rfl, calm_settled (calm_onCore _ s)⟩
  | saveNow => exact ⟨_, rfl, calm_onCore _ s⟩
  | periodicSave => exact ⟨_, rfl, calm_onCore _ s⟩
  | saveComplete => exact ⟨_, rfl, calm_settled (calm_onNv _ s)⟩
  | estPositionSelect _ => exact ⟨_, rfl, calm_onCore _ s⟩
  | cnvClr _ => exact ⟨_, rfl, calm_onCore _ s⟩
  | onDelayExpire => exact ⟨_, rfl, calm_onCore _ s⟩
  | offDelayExpire => exact ⟨_, rfl, calm_onCore _ s⟩
  | softStartStall => exact ⟨_, rfl, calm_onCore _ s⟩
  | retryWaitExpire => exact ⟨_, rfl, calm_onCore _ s⟩
  | softStopDone => exact ⟨_, rfl, calm_onCore _ s⟩
  | softStopTimeout => exact ⟨_, rfl, calm_onCore _ s⟩
  | phaseShed => exact ⟨_, rfl, calm_onCore _ s⟩
  | burstModeEnter => exact ⟨_, rfl, calm_onCore _ s⟩
  | cteLoadBit => exact ⟨_, rfl, calm_onCore _ s⟩
  | admissionCheck => exact ⟨_, rfl, calm_onCore _ s⟩
  | cteStd => exact ⟨_, rfl, calm_onCore _ s⟩
  | cteHalt _ => exact ⟨_, rfl, calm_onCore _ s⟩
  | pmDataWrite _ => exact ⟨_, rfl, calm_onCore _ s⟩
  | dmDataWrite _ => exact ⟨_, rfl, calm_onCore _ s⟩
  | dmDataRead => exact ⟨_, rfl, calm_onCore _ s⟩
  | pcommitGo _ => exact ⟨_, rfl, calm_onCore _ s⟩
  | tripInput _ _ => exact ⟨_, rfl, calm_onCore _ s⟩
  | cbcInput _ _ => exact ⟨_, rfl, calm_onCore _ s⟩
  | cbcpTrip _ => exact ⟨_, rfl, calm_onCore _ s⟩
  | gateOffLine _ => exact ⟨_, rfl, calm_gateOffLine _ s⟩
  | windowTrip _ _ => exact ⟨_, rfl, calm_onCore _ s⟩
  | streamLoss _ _ => exact ⟨_, rfl, calm_onCore _ s⟩
  | clockLoss _ => exact ⟨_, rfl, calm_onCore _ s⟩
  | crossCheckEvaluate => exact ⟨_, rfl, calm_onCore _ s⟩
  | refstale => exact ⟨_, rfl, calm_onCore _ s⟩
  | overcurrentTrip => exact ⟨_, rfl, calm_onCore _ s⟩
  | tripClear _ _ => exact ⟨_, rfl, calm_onCore _ s⟩
  | safetyInputSample _ _ _ _ => exact ⟨_, rfl, calm_onSaf _ (fun _ l x => tame_inputSample _ _ _ _ l x) s⟩
  | gateReadbackTimeout _ => exact ⟨_, rfl, calm_onSaf _ (fun _ l x => tame_readbackTimeout _ l x) s⟩
  | discrepancyFault _ => exact ⟨_, rfl, calm_onSaf _ (fun _ l x => tame_discrepancy _ l x) s⟩
  | testPulse _ _ _ _ => exact ⟨_, rfl, calm_onSaf _ (fun _ l x => tame_testPulse _ _ _ _ l x) s⟩
  | outputOffPulse _ _ _ => exact ⟨_, rfl, calm_onSaf _ (fun _ l x => tame_offPulse _ _ _ x) s⟩
  | outputCurrentLimit _ _ => exact ⟨_, rfl, calm_onSaf _ (fun _ l x => tame_currentLimit _ _ x) s⟩
  | openLoad _ => exact ⟨_, rfl, calm_onSaf _ (fun _ l x => tame_openLoad _ x) s⟩
  | contactorFeedbackTimeout _ => exact ⟨_, rfl, calm_onSaf _ (fun _ l x => tame_cfTimeout _ l x) s⟩
  | exchangeMissing => exact ⟨_, rfl, calm_onSaf _ (fun _ l x => tame_exchangeMissing x) s⟩
  | safetyWindowEnd _ _ _ _ _ => exact ⟨_, rfl, calm_onSaf _ (fun _ l x => tame_windowEnd _ _ _ _ _ l x) s⟩
  | toneLineDemand => exact ⟨_, rfl, calm_onSaf _ (fun _ l x => tame_toneDemand l x) s⟩
  | singleChannelFault _ _ => exact ⟨_, rfl, calm_onSaf _ (fun _ l x => tame_singleFault _ _ l x) s⟩
  | degradedGateOff => exact ⟨_, rfl, calm_onSaf _ (fun _ l x => tame_degradedGate x) s⟩
  | degradedModeEnd => exact ⟨_, rfl, calm_onSaf _ (fun _ l x => tame_degradedEnd x) s⟩
  | safeStateEnter => exact ⟨_, rfl, calm_onSaf _ (fun _ l x => tame_safeWhenDue x) s⟩
  | paramCrcCheck _ _ => exact ⟨_, rfl, calm_onSaf _ (fun _ l x => tame_ownDiag _ _ _ l x) s⟩
  | selfTestSlice _ _ => exact ⟨_, rfl, calm_onSaf _ (fun _ l x => tame_ownDiag _ _ _ l x) s⟩
  | ramTest _ _ => exact ⟨_, rfl, calm_onSaf _ (fun _ l x => tame_ownDiag _ _ _ l x) s⟩
  | firmwareCrcCheck _ _ => exact ⟨_, rfl, calm_onSaf _ (fun _ l x => tame_ownDiag _ _ _ l x) s⟩
  | safStage => exact ⟨_, rfl, calm_onSaf _ (fun _ l x => tame_safStage x) s⟩
  | safCompute => exact ⟨_, rfl, calm_onSaf _ (fun _ l x => tame_safCompute x) s⟩
  | safClrflt => exact ⟨_, rfl, calm_onSaf _ (fun _ l x => tame_safClrFlt x) s⟩
  | safRst => exact ⟨_, rfl, calm_onSaf _ (fun _ l x => tame_safRstCmd l x) s⟩
  | safClrweld => exact ⟨_, rfl, calm_onSaf _ (fun _ l x => tame_safClrWeld x) s⟩
  | safPwdend => exact ⟨_, rfl, calm_onSaf _ (fun _ l x => tame_safPwdEnd x) s⟩
  | safPwdact => exact ⟨_, rfl, calm_onSaf _ (fun _ l x => tame_safPwdAct x) s⟩
  | safmConfirmWrite _ => exact ⟨_, rfl, calm_onSaf _ (fun _ l x => tame_safConfirm _ x) s⟩
  | safmPdataWrite _ => exact ⟨_, rfl, calm_onSaf _ (fun _ l x => tame_pdataWrite _ x) s⟩
  | passwordWrite _ => exact ⟨_, rfl, calm_onSaf _ (fun _ l x => tame_safPassword _ x) s⟩
  | passwordSessionTimeout => exact ⟨_, rfl, calm_onSaf _ (fun _ l x => tame_sessionTimeout x) s⟩
  | passwordLockoutEnd => exact ⟨_, rfl, calm_onSaf _ (fun _ l x => tame_lockoutEnd x) s⟩
  | safmOutreqWrite _ => exact ⟨_, rfl, calm_settled (calm_onSaf _ (fun _ l x => tame_outReqHost _ l x) s)⟩
  | safmLogSelect _ => exact ⟨_, rfl, calm_onSaf _ (fun _ l x => tame_logSelect _ x) s⟩
  | heartbeatSend => exact ⟨_, rfl, calm_settled (calm_onCore _ s)⟩
  | heartbeatReceived _ => exact ⟨_, rfl, calm_onCore _ s⟩
  | peerLost _ => exact ⟨_, rfl, calm_onCore _ s⟩
  | reportWaitExpire _ => exact ⟨_, rfl, calm_onCore _ s⟩
  | reportReceived _ _ _ => exact ⟨_, rfl, calm_onCore _ s⟩
  | watchSetRecompute => exact ⟨_, rfl, calm_onCore _ s⟩
  | aggregateEntryDrop _ => exact ⟨_, rfl, calm_onCore _ s⟩
  | duppidClear => exact ⟨_, rfl, calm_onCore _ s⟩
  | slotViewExpire _ => exact ⟨_, rfl, calm_onCore _ s⟩
  | slotRevoke => exact ⟨_, rfl, calm_onCore _ s⟩
  | shfRevoke => exact ⟨_, rfl, calm_onCore _ s⟩
  | shfEnWrite _ => exact ⟨_, rfl, calm_onCore _ s⟩
  | dispatchFrameReceived _ _ _ _ _ => exact ⟨_, rfl, calm_onCore _ s⟩
  | dispatchGo => exact ⟨_, rfl, calm_onCore _ s⟩
  | dispatchTargetExpire => exact ⟨_, rfl, calm_onCore _ s⟩
  | shfContextSelect _ => exact ⟨_, rfl, calm_onCore _ s⟩
  | ownershipGrantChange _ => exact ⟨_, rfl, calm_onLine _ s⟩
  | tickFrameReceived _ => exact ⟨_, rfl, calm_tickFrame _ s⟩
  | pathFault _ => exact ⟨_, rfl, calm_onCore _ s⟩
  | switchOver => exact ⟨_, rfl, calm_onNv _ s⟩
  | standbyLost => exact ⟨_, rfl, calm_onCore _ s⟩
  | grantFailure => exact ⟨_, rfl, calm_onCore _ s⟩
  | handover => exact ⟨_, rfl, calm_onCore _ s⟩
  | resyncComplete _ _ _ => exact ⟨_, rfl, calm_onNv _ s⟩
  | submitDoorbell _ _ _ => exact ⟨_, rfl, calm_onNv _ s⟩
  | completionAckDoorbell _ _ _ => exact ⟨_, rfl, calm_onNv _ s⟩
  | ringResume _ _ => exact ⟨_, rfl, calm_onNv _ s⟩
  | descriptorFetch _ => exact ⟨_, rfl, calm_onNv _ s⟩
  | commandAccept _ => exact ⟨_, rfl, calm_onNv _ s⟩
  | tlpError => exact ⟨_, rfl, calm_onNv _ s⟩
  | ringCreate _ => exact ⟨_, rfl, calm_runCmd _ _ _ _ (calm_cmdRingCreate) s⟩
  | ringDelete _ => exact ⟨_, rfl, calm_runCmd _ _ _ _ (calm_cmdRingDelete) s⟩
  | ringDrainComplete _ => exact ⟨_, rfl, calm_settled (calm_onNv _ s)⟩
  | ringQuery _ => exact ⟨_, rfl, calm_runCmd _ _ _ _ (fun j s => calm_cmdEnd j 0 _ s) s⟩
  | ringRestart _ => exact ⟨_, rfl, calm_runCmd _ _ _ _ (calm_cmdRingRestart) s⟩
  | ringReset _ => exact ⟨_, rfl, calm_runCmd _ _ _ _ (calm_cmdRingReset) s⟩
  | vectorMap _ => exact ⟨_, rfl, calm_runCmd _ _ _ _ (calm_cmdVectorMap) s⟩
  | streamBind _ => exact ⟨_, rfl, calm_runCmd _ _ _ _ (calm_cmdStreamBind) s⟩
  | atuInvalidate _ => exact ⟨_, rfl, calm_runCmd _ _ _ _ (calm_cmdAtuInvalidate) s⟩
  | identify _ => exact ⟨_, rfl, calm_runCmd _ _ _ _ (calm_cmdIdentify) s⟩
  | nopCmd _ => exact ⟨_, rfl, calm_runCmd _ _ _ _ (fun j s => calm_cmdEnd j 0 0 s) s⟩
  | regRead _ => exact ⟨_, rfl, calm_runCmd _ _ _ _ (calm_cmdRegRead) s⟩
  | regWrite _ => exact ⟨_, rfl, calm_runCmd _ _ _ _ (calm_cmdRegWr) s⟩
  | regList _ => exact ⟨_, rfl, calm_runCmd _ _ _ _ (calm_cmdRegList) s⟩
  | cnvOn _ => exact ⟨_, rfl, calm_runCmd _ _ _ _ (fun j s => calm_coreWait j _ _ s) s⟩
  | cnvClear _ => exact ⟨_, rfl, calm_runCmd _ _ _ _ (fun j s => calm_coreWait j _ _ s) s⟩
  | iset _ => exact ⟨_, rfl, calm_runCmd _ _ _ _ (fun j s => calm_coreWait j _ _ s) s⟩
  | dispatchTarget _ => exact ⟨_, rfl, calm_runCmd _ _ _ _ (fun j s => calm_coreWait j _ _ s) s⟩
  | vrefNom _ => exact ⟨_, rfl, calm_runCmd _ _ _ _ (fun j s => calm_coreWait j _ _ s) s⟩
  | outputRequest _ => exact ⟨_, rfl, calm_runCmd _ _ _ _ (calm_cmdOutputRequest) s⟩
  | profileCmd _ => exact ⟨_, rfl, calm_runCmd _ _ _ _ (fun j s => calm_coreWait j _ _ s) s⟩
  | gleanCmd _ => exact ⟨_, rfl, calm_runCmd _ _ _ _ (calm_cmdGlean) s⟩
  | restCmd _ => exact ⟨_, rfl, calm_runCmd _ _ _ _ (calm_cmdRest) s⟩
  | impBurst _ => exact ⟨_, rfl, calm_runCmd _ _ _ _ (calm_cmdImpBurst) s⟩
  | cteLoad _ => exact ⟨_, rfl, calm_runCmd _ _ _ _ (calm_cmdCteLoad) s⟩
  | cteParam _ => exact ⟨_, rfl, calm_runCmd _ _ _ _ (calm_cmdCteParam) s⟩
  | saveCmd _ => exact ⟨_, rfl, calm_runCmd _ _ _ _ (fun j s => calm_coreWait j _ _ s) s⟩
  | snapshotCmd _ => exact ⟨_, rfl, calm_runCmd _ _ _ _ (calm_cmdSnapshot) s⟩
  | evrRead _ => exact ⟨_, rfl, calm_runCmd _ _ _ _ (calm_cmdEvrRead) s⟩
  | posRead _ => exact ⟨_, rfl, calm_runCmd _ _ _ _ (calm_cmdPosRead) s⟩
  | adminRingEnable _ => exact ⟨_, rfl, calm_onNv _ s⟩
  | msixMessage _ _ => exact ⟨_, rfl, calm_onCore _ s⟩
  | dStateChange _ _ _ => exact ⟨_, rfl, calm_onNv _ s⟩
  | pme _ => exact ⟨_, rfl, calm_onCore _ s⟩
  | atuConfigCommit => exact ⟨_, rfl, calm_onCore _ s⟩
  | dmaSegment _ _ _ => exact ⟨_, rfl, calm_settled (calm_onNv _ s)⟩
  | faultRecordFlush => exact ⟨_, rfl, calm_onNv _ s⟩
  | irqAssert => exact ⟨_, rfl, calm_onCore _ s⟩
  | irqDeliver _ => exact ⟨_, rfl, calm_onCore _ s⟩
  | irqEoi _ _ => exact ⟨_, rfl, calm_onCore _ s⟩
  | holdOffExpire _ => exact ⟨_, rfl, calm_onCore _ s⟩
  | irqPendDiscard _ _ => exact ⟨_, rfl, calm_onCore _ s⟩
  | irqSgi _ => exact ⟨_, rfl, calm_onCore _ s⟩
  | ethernetFrameReceive _ => exact ⟨_, rfl, calm_onCore _ s⟩
  | addressAgeout _ => exact ⟨_, rfl, calm_onCore _ s⟩
  | ethernetLinkChange _ _ => exact ⟨_, rfl, calm_onCore _ s⟩
  | ptpSyncReceived _ _ _ _ _ => exact ⟨_, rfl, calm_onCore _ s⟩
  | announceReceived _ => exact ⟨_, rfl, calm_onCore _ s⟩
  | announceTimeout _ _ => exact ⟨_, rfl, calm_onCore _ s⟩
  | delayReqSend _ => exact ⟨_, rfl, calm_onCore _ s⟩
  | pdelayReqSend _ _ => exact ⟨_, rfl, calm_onCore _ s⟩
  | pdelayReqReceived _ _ _ => exact ⟨_, rfl, calm_onCore _ s⟩
  | pdelayRespReceived _ _ _ => exact ⟨_, rfl, calm_onCore _ s⟩
  | linkDelayLost _ => exact ⟨_, rfl, calm_onCore _ s⟩
  | followUpMiss _ _ => exact ⟨_, rfl, calm_onCore _ s⟩
  | tset => exact ⟨_, rfl, calm_onCore _ s⟩
  | stepgo => exact ⟨_, rfl, calm_onCore _ s⟩
  | canFrameReceive _ => exact ⟨_, rfl, calm_onCore _ s⟩
  | txreq _ => exact ⟨_, rfl, calm_onCore _ s⟩
  | txabort _ => exact ⟨_, rfl, calm_onCore _ s⟩
  | canTxAcknowledged _ _ _ => exact ⟨_, rfl, calm_onCore _ s⟩
  | canAckError _ => exact ⟨_, rfl, calm_onCore _ s⟩
  | busOff => exact ⟨_, rfl, calm_onCore _ s⟩
  | busOffRecovery => exact ⟨_, rfl, calm_onCore _ s⟩
  | canInitRelease => exact ⟨_, rfl, calm_onCore _ s⟩
  | canLockWrite _ _ => exact ⟨_, rfl, calm_onCore _ s⟩
  | referenceMessageDue => exact ⟨_, rfl, calm_onCore _ s⟩
  | smbGo _ => exact ⟨_, rfl, calm_onCore _ s⟩
  | smb0TransferEnd _ _ _ => exact ⟨_, rfl, calm_onCore _ s⟩
  | smb0BusTimeout => exact ⟨_, rfl, calm_onCore _ s⟩
  | smbClear _ => exact ⟨_, rfl, calm_onCore _ s⟩
  | busClearRoundEnd _ => exact ⟨_, rfl, calm_onCore _ s⟩
  | busClearHoldEnd => exact ⟨_, rfl, calm_onCore _ s⟩
  | busClearRetry => exact ⟨_, rfl, calm_onCore _ s⟩
  | smbAlert _ => exact ⟨_, rfl, calm_onCore _ s⟩
  | smb1BlockWrite _ _ _ _ _ _ => exact ⟨_, rfl, calm_onCore _ s⟩
  | smb1BlockRead _ _ _ _ => exact ⟨_, rfl, calm_onCore _ s⟩
  | smb1Timeout => exact ⟨_, rfl, calm_onCore _ s⟩
  | smbAlertSet => exact ⟨_, rfl, calm_onCore _ s⟩
  | smbAlertClr => exact ⟨_, rfl, calm_onCore _ s⟩
  | smb1AlertResponse _ => exact ⟨_, rfl, calm_onCore _ s⟩
  | eventRecord => exact ⟨_, rfl, calm_onNv _ s⟩
  | eventFrameSend => exact ⟨_, rfl, calm_onCore _ s⟩
  | evrWindowSelect _ => exact ⟨_, rfl, calm_onNv _ s⟩
  | usbAttachChange _ => exact ⟨_, rfl, calm_onCore _ s⟩
  | svcHello => exact ⟨_, rfl, calm_onCore _ s⟩
  | svcAuth _ _ => exact ⟨_, rfl, calm_onCore _ s⟩
  | authLockoutEnd => exact ⟨_, rfl, calm_onCore _ s⟩
  | serviceSessionTimeout => exact ⟨_, rfl, calm_onCore _ s⟩
  | svcRegRead _ => exact ⟨_, rfl, calm_inService _ (fun s => calm_onCore _ s) s⟩
  | svcRegWrite _ _ _ => exact ⟨_, rfl, calm_svcWrite _ _ _ s⟩
  | svcEvrRead _ => exact ⟨_, rfl, calm_inService _ (fun s => calm_onCore _ s) s⟩
  | svcUpload _ _ _ _ _ => exact ⟨_, rfl, calm_inService _ (fun s => calm_uploadStep _ _ _ _ _ s) s⟩
  | chunkApplied _ _ => exact ⟨_, rfl, calm_onNv _ s⟩
  | applyResume _ => exact ⟨_, rfl, calm_onNv _ s⟩
  | updCommit => exact ⟨_, rfl, calm_inService _ (fun s => calm_onNv _ s) s⟩
  | updCancel => exact ⟨_, rfl, calm_inService _ (fun s => calm_onNv _ s) s⟩
  | blcWrite _ _ => exact ⟨_, rfl, calm_inService _ (fun s => calm_onNv _ s) s⟩
  | svcReset => exact ⟨_, rfl, calm_inService _ (fun s => (calm_onCore _ s).trans (calm_deviceReset _ _ _)) s⟩
  | svcStatus => exact ⟨_, rfl, calm_inService _ (fun s => calm_onCore _ s) s⟩
  | sessionEnd => exact ⟨_, rfl, calm_inService _ (fun s => calm_onCore _ s) s⟩
  | svcBlock _ => exact ⟨_, rfl, calm_onCore _ s⟩
  | imageConfirm => exact ⟨_, rfl, calm_onNv _ s⟩
  | thermalEvaluate _ => exact ⟨_, rfl, calm_thermalStep _ s⟩
  | canBusError _ _ _ => exact ⟨_, rfl, calm_onCore _ s⟩
  | msixVectorUnmask _ _ => exact ⟨_, rfl, calm_onCore _ s⟩
  | xlLaneFailure _ => exact ⟨_, rfl, calm_onCore _ s⟩
  | smb0BusFree => exact ⟨_, rfl, calm_onCore _ s⟩
  | powerOn | powerOnResetRelease | inputLoss | holdUpEnd | opsStore | opsRefresh => simp [Instr.powers] at hp
  | channelExchange _ | powerOnDiagComplete => simp [Instr.exchanges] at he

end Sys2Proof.Machine
end

