-- ==== Sys2Proof/Laws/Frame.lean ====
section
/-! SUPPORT. Frames of the shared operations: the blocks and the fields that an effect made of register writes, events and
outputs may touch. A proof that an effect stays in its block peels the writes off one by one with these lemmas. -/

namespace Sys2Proof.Machine

theorem blocksOnly_refl (bs : List Nat) (c : Core) : blocksOnly bs c c := fun _ _ => rfl

theorem blocksOnly_trans {bs : List Nat} {c d e : Core} (h1 : blocksOnly bs c d) (h2 : blocksOnly bs d e) : blocksOnly bs c e :=
  fun f hf => (h2 f hf).trans (h1 f hf)

/-- The register store alone decides a frame. -/
theorem blocksOnly_of_csr {bs : List Nat} {c d e : Core} (h : blocksOnly bs c d) (he : e.csr = d.csr) : blocksOnly bs c e := by
  intro f hf
  have := h f hf
  unfold Core.rd at *
  rw [he, this]

theorem blocksOnly_csr {bs : List Nat} {c d : Core} (he : d.csr = c.csr) : blocksOnly bs c d := blocksOnly_of_csr (blocksOnly_refl bs c) he

/-- Two fields of different blocks lie at different places. -/
theorem key_ne_of_block {f g : Fld} (h : f.block ≠ g.block) : f.key ≠ g.key := fun e => h (by unfold Fld.block; rw [e])

theorem blocksOnly_wr {bs : List Nat} {c d : Core} {g : Fld} {v : Nat} (h : blocksOnly bs c d) (hg : g.block ∈ bs) : blocksOnly bs c (d.wr g v) := by
  intro f hf
  rw [Core.rd_wr_ne (f := g) (g := f) d v (key_ne_of_block (fun e => hf (e ▸ hg)))]
  exact h f hf

theorem blocksOnly_wrS {bs : List Nat} {c d : Core} {g : Fld} {v : Int} (h : blocksOnly bs c d) (hg : g.block ∈ bs) : blocksOnly bs c (d.wrS g v) := blocksOnly_wr h hg

theorem blocksOnly_wrB {bs : List Nat} {c d : Core} {g : Fld} {v : Bool} (h : blocksOnly bs c d) (hg : g.block ∈ bs) : blocksOnly bs c (d.wrB g v) := blocksOnly_wr h hg

theorem blocksOnly_wr2 {bs : List Nat} {c d : Core} {g k : Fld} {v : Nat} (h : blocksOnly bs c d) (hg : g.block ∈ bs) (hk : k.block ∈ bs) :
    blocksOnly bs c (d.wr2 g k v) := blocksOnly_wr (blocksOnly_wr h hg) hk

theorem blocksOnly_cntSat {bs : List Nat} {c d : Core} {g : Fld} {n : Nat} (h : blocksOnly bs c d) (hg : g.block ∈ bs) : blocksOnly bs c (d.cntSat g n) := blocksOnly_wr h hg

theorem blocksOnly_cntWrap {bs : List Nat} {c d : Core} {g : Fld} {n : Nat} (h : blocksOnly bs c d) (hg : g.block ∈ bs) : blocksOnly bs c (d.cntWrap g n) := blocksOnly_wr h hg

theorem blocksOnly_raise {bs : List Nat} {c d : Core} {n src prim : Nat} (h : blocksOnly bs c d) : blocksOnly bs c (d.raise n src prim) := blocksOnly_of_csr h rfl

theorem blocksOnly_pulse {bs : List Nat} {c d : Core} {n : Nat} (h : blocksOnly bs c d) : blocksOnly bs c (d.pulse n) := blocksOnly_of_csr h rfl

theorem blocksOnly_send {bs : List Nat} {c d : Core} {o : Out} (h : blocksOnly bs c d) : blocksOnly bs c (d.send o) := blocksOnly_of_csr h (by simp)

theorem blocksOnly_ite {bs : List Nat} {c d e : Core} {p : Prop} [Decidable p] (h1 : blocksOnly bs c d) (h2 : blocksOnly bs c e) :
    blocksOnly bs c (if p then d else e) := by split <;> assumption

theorem blocksOnly_when {bs : List Nat} {c d : Core} {b : Bool} {f : Core → Core} (h : blocksOnly bs c d) (hf : blocksOnly bs d (f d)) :
    blocksOnly bs c (d.when b f) := by cases b; exacts [h, blocksOnly_trans h hf]

theorem blocksOnly_foldl {bs : List Nat} {α : Type} {f : Core → α → Core} (l : List α) (hf : ∀ d, ∀ a ∈ l, blocksOnly bs d (f d a)) (c : Core) :
    blocksOnly bs c (l.foldl f c) := by
  induction l generalizing c with
  | nil => exact blocksOnly_refl bs c
  | cons a l ih =>
    exact blocksOnly_trans (hf c a (by simp)) (ih (fun d b hb => hf d b (by simp [hb])) (f c a))

theorem blocksOnly_forUp {bs : List Nat} {n : Nat} {f : Nat → Core → Core} (hf : ∀ k < n, ∀ d, blocksOnly bs d (f k d)) (c : Core) :
    blocksOnly bs c (forUp n f c) := blocksOnly_foldl _ (fun d k hk => hf k (by simpa using hk) d) c

theorem fieldsOnly_refl (fs : List Fld) (c : Core) : fieldsOnly fs c c := fun _ _ => rfl

theorem fieldsOnly_wr {fs : List Fld} {c d : Core} {g : Fld} {v : Nat} (h : fieldsOnly fs c d) (hg : g ∈ fs) : fieldsOnly fs c (d.wr g v) := by
  intro f hf
  rw [Core.rd_wr_ne d v (hf g hg)]
  exact h f hf

theorem fieldsOnly_of_csr {fs : List Fld} {c d e : Core} (h : fieldsOnly fs c d) (he : e.csr = d.csr) : fieldsOnly fs c e := by
  intro f hf
  have := h f hf
  unfold Core.rd at *
  rw [he, this]

end Sys2Proof.Machine
end

