-- ==== Sys2Proof/WellFormed.lean ====
section
/-! DEFINITION. Which commands are well formed: every operand inside the range its place in the spec gives it. -/

namespace Sys2Proof

/-- R267: the fields of an instruction word: two bits of predicate and accumulator numbers, ten-bit addresses. -/
def CteW.fits (w : CteW) : Bool := decide (w.pr < 4) && decide (w.a < 4) && decide (w.b < 4) && decide (w.x < 1024) && decide (w.y < 1024)

/-- A list of bytes. -/
def allBytes (l : List Nat) : Bool := l.all (fun b => decide (b < 256))

/-- A node number and a serial number. -/
def NodeAck.fits (a : NodeAck) : Bool := decide (a.node < 40) && decide (a.serial < 281474976710656)

/-- R81, R85: the widths of what a node answers, and the echo turnaround of a version. -/
def NodeDesc.fits (d : NodeDesc) : Bool :=
  decide (d.serial < 2 ^ 48) && decide (d.gen < 256) && decide (d.vmax < 256) && decide (d.fw < 65536) && (d.turn == 1600 || d.turn == 800) && decide (d.ra < 2 ^ 24) && decide (d.rb < 2 ^ 24) && decide (d.bad < 4)

/-- R121: sixteen cell codes and eight NTC codes of 16 bits, eight flags. -/
def ResultSet.fits (r : ResultSet) : Bool :=
  decide (r.codes.length ≤ 16) && decide (r.ntc.length ≤ 8) && r.codes.all (fun x => decide (x < 65536)) && r.ntc.all (fun x => decide (x < 65536)) &&
    decide (r.flags < 256)

/-- R78: at most 40 nodes answer. -/
def EnumFound.fits (e : EnumFound) : Bool :=
  decide (e.fromA.length + e.fromB.length ≤ 40) && e.fromA.all NodeDesc.fits && e.fromB.all NodeDesc.fits

/-- R343: the widths of a heartbeat's fields. -/
def HbFrame.fits (h : HbFrame) : Bool :=
  decide (h.src < 3) && decide (h.len < 2048) && decide (h.version < 256) && decide (h.pid < 65536) && decide (h.sheaf < 65536) &&
    decide (h.seq < 2 ^ 32) && decide (h.flags < 256) && decide (h.slot < 4) && decide (h.soc < 65536) && decide (h.oepoch < 2 ^ 32)

/-- R452: a port, a length, 48-bit addresses, a 16-bit EtherType. -/
def EthFrame.fits (f : EthFrame) : Bool :=
  decide (f.port < 3) && decide (f.len < 2048) && decide (f.dst < 2 ^ 48) && decide (f.src < 2 ^ 48) && decide (f.etype < 65536) && decide (f.typ < 256) && decide (f.seq < 65536)

/-- R461: the widths of an Announce message's fields. -/
def Announce.fits (a : Announce) : Bool :=
  decide (a.port < 3) && decide (a.domain < 256) && decide (a.prio1 < 256) && decide (a.cls < 256) && decide (a.acc < 256) && decide (a.var < 65536) &&
    decide (a.prio2 < 256) && decide (a.steps < 65536)

/-- R474: an identifier of 11 or 29 bits, a data length code, at most 64 bytes. -/
def CanFrame.fits (f : CanFrame) : Bool :=
  decide (f.id < (if f.xtd then 2 ^ 29 else 2 ^ 11)) && decide (f.dlc < 16) && decide (f.data.length ≤ 64) && allBytes f.data

/-- R238: the filter outputs of twelve inputs in one tick, at OSR 8 one in 200 clocks, each from -1 to 1 scaled by 2^32. -/
def outsFit (outs : List (List Int)) : Bool :=
  decide (outs.length ≤ 12) && outs.all (fun l => decide (l.length ≤ 251) && l.all (fun x => decide (-2 ^ 32 ≤ x) && decide (x ≤ 2 ^ 32)))

/-- The operands of a command lie in their ranges. -/
def Instr.wellFormed : Instr → Bool
  | .powerOn => true
  | .powerOnResetRelease => true
  | .inputLoss => true
  | .holdUpEnd => true
  | .vinReturn => true
  | .bankSupplyChange _ _ => true
  | .bootStage0 => true
  | .bootStage1 => true
  | .applicationStart _ => true
  | .ready => true
  | .deviceReset => true
  | .powerCycle => true
  | .pcycFallback => true
  | .hotReset => true
  | .watchdogKick core => decide (core < 4)
  | .watchdogWarning => true
  | .watchdogReset => true
  | .flr fn => decide (fn < 4)
  | .tickBoundary outs => outsFit outs
  | .enginePass => true
  | .cteNop => true
  | .cteLda w => w.fits
  | .cteMpy w => w.fits
  | .cteMac w => w.fits
  | .cteMsu w => w.fits
  | .cteAdd w => w.fits
  | .cteSub w => w.fits
  | .cteAdda w => w.fits
  | .cteSuba w => w.fits
  | .cteShl w => w.fits
  | .cteShr w => w.fits
  | .cteClmp w => w.fits
  | .cteCmplt w => w.fits
  | .cteCmpge w => w.fits
  | .cteTst w => w.fits
  | .cteSts w => w.fits
  | .cteStu w => w.fits
  | .cteMov w => w.fits
  | .cteEnd => true
  | .commitPoint _ _ => true
  | .carrierPeak k => decide (k < 6)
  | .frameBoundary => true
  | .profileGo _ => true
  | .tickPeriodRequest req _ => decide (req < 65536)
  | .tickFrameRequest req _ => decide (req < 65536)
  | .snapshotArm _ => true
  | .snapshotCapture phase => decide (phase < 1048576)
  | .opsStore => true
  | .opsRefresh => true
  | .eventSequence => true
  | .registerWrite _ off v be _ => decide (off < 524288) && decide (v < 4294967296) && decide (be < 16)
  | .setAliasWrite _ off v be _ => decide (off < 524288) && decide (v < 4294967296) && decide (be < 16)
  | .clearAliasWrite _ off v be _ => decide (off < 524288) && decide (v < 4294967296) && decide (be < 16)
  | .toggleAliasWrite _ off v be _ => decide (off < 524288) && decide (v < 4294967296) && decide (be < 16)
  | .postedWrite _ _ off v be => decide (off < 524288) && decide (v < 4294967296) && decide (be < 16)
  | .postedWriteCommit block => decide (block < 32)
  | .enumReq => true
  | .enumeration found => found.fits
  | .enumerationComplete => true
  | .enumRetry => true
  | .dlygo => true
  | .delayRemeasureDue => true
  | .delayMeasureComplete trips => trips.all (fun x => decide (x.ra < 2 ^ 24) && decide (x.rb < 2 ^ 24) && decide (x.serial < 281474976710656))
  | .nodeSample _ => true
  | .resultReceived port _ node set res pkt => decide (port < 2) && decide (pkt.typ < 16) && decide (node < 40) && decide (set < 8) && res.fits && decide (pkt.serial < 281474976710656)
  | .readRetry node port => decide (node < 40) && decide (port < 2)
  | .readoutComplete => true
  | .readoutDeadline => true
  | .frameRecordPublish => true
  | .bleedScheduleSend reached => decide (reached.length < 41) && reached.all NodeAck.fits
  | .openWireDiagRead node diag => decide (node < 40) && decide (diag.wires < 131072) && decide (diag.serial < 281474976710656)
  | .nodeDiagRead node _ fault => decide (node < 40) && decide (fault.cause < 6) && decide (fault.serial < 281474976710656)
  | .helloReceived port hello => decide (port < 2) && decide (hello.hop < 40) && decide (hello.serial < 281474976710656)
  | .nodeReaddress node desc => decide (node < 40) && desc.fits
  | .nodeUnreachable node => decide (node < 40)
  | .nodeFault node cause => decide (node < 40) && decide (cause < 6)
  | .linkBreak node => decide (node < 40)
  | .toneLoss port => decide (port < 2)
  | .toneRestore port => decide (port < 2)
  | .breakLocated lastA firstB => decide (lastA < 64) && decide (firstB < 64)
  | .ringClosure => true
  | .measWindowSelect node set => decide (node < 64) && decide (set < 8)
  | .coolingMessage => true
  | .coolingUnitLost => true
  | .burstDue => true
  | .impGo => true
  | .impAbort => true
  | .burstSetup acked => decide (acked.length < 41) && acked.all NodeAck.fits
  | .burstSample _ missed => decide (missed.length < 41)
  | .burstReadoutStart => true
  | .burstPacketReceived port _ node ch part => decide (port < 2) && decide (node < 40) && decide (ch < 16) && decide (part.samples.length < 87) && part.samples.all (fun x => decide (x < 16777216)) && decide (part.serial < 281474976710656)
  | .burstPublish => true
  | .timpExpire => true
  | .impResultSelect pos => decide (pos < 1024)
  | .norestSet => true
  | .restReq => true
  | .restSlotEnd => true
  | .gleanReq => true
  | .gleanAbort => true
  | .gleanRestEnd => true
  | .saveNow => true
  | .periodicSave => true
  | .saveComplete => true
  | .estPositionSelect pos => decide (pos < 1024)
  | .cnvClr _ => true
  | .onDelayExpire => true
  | .offDelayExpire => true
  | .softStartStall => true
  | .retryWaitExpire => true
  | .softStopDone => true
  | .softStopTimeout => true
  | .phaseShed => true
  | .burstModeEnter => true
  | .cteLoadBit => true
  | .admissionCheck => true
  | .cteStd => true
  | .cteHalt _ => true
  | .pmDataWrite v => decide (v < 4294967296)
  | .dmDataWrite v => decide (v < 65536)
  | .dmDataRead => true
  | .pcommitGo _ => true
  | .tripInput n _ => decide (n < 8)
  | .cbcInput n _ => decide (n < 8)
  | .cbcpTrip k => decide (k < 6)
  | .gateOffLine ch => decide (ch < 2)
  | .windowTrip n _ => decide (n < 12)
  | .streamLoss n _ => decide (n < 12)
  | .clockLoss _ => true
  | .crossCheckEvaluate => true
  | .refstale => true
  | .overcurrentTrip => true
  | .tripClear reg bits => decide (reg < 2) && decide (bits < 4294967296)
  | .safetyInputSample a b exA exB => decide (a < 256) && decide (b < 256) && decide (exA < 256) && decide (exB < 256)
  | .gateReadbackTimeout ch => decide (ch < 2)
  | .discrepancyFault input => decide (input < 8)
  | .testPulse side a b rb => decide (side < 2) && decide (a < 256) && decide (b < 256) && decide (rb < 4)
  | .outputOffPulse output side _ => decide (output < 6) && decide (side < 2)
  | .outputCurrentLimit output side => decide (output < 6) && decide (side < 2)
  | .openLoad output => decide (output < 6)
  | .contactorFeedbackTimeout output => decide (output < 6)
  | .channelExchange q => [q.a, q.b].all (fun r => decide (r.cf < 64) && decide (r.prb < 64) && decide (r.mrb < 64))
  | .exchangeMissing => true
  | .safetyWindowEnd count iA iB vA vB => decide (count < 4294967296) && [iA, iB, vA, vB].all (fun w => decide (8 ≤ w.length) && decide (w.length ≤ 12))
  | .toneLineDemand => true
  | .singleChannelFault ch code => decide (ch < 2) && decide (code < 16)
  | .degradedGateOff => true
  | .degradedModeEnd => true
  | .safeStateEnter => true
  | .paramCrcCheck _ _ => true
  | .selfTestSlice _ _ => true
  | .ramTest _ _ => true
  | .firmwareCrcCheck _ _ => true
  | .powerOnDiagComplete => true
  | .safStage => true
  | .safCompute => true
  | .safClrflt => true
  | .safRst => true
  | .safClrweld => true
  | .safPwdend => true
  | .safPwdact => true
  | .safmConfirmWrite v => decide (v < 4294967296)
  | .safmPdataWrite v => decide (v < 4294967296)
  | .passwordWrite w3 => decide (w3 < 4294967296)
  | .passwordSessionTimeout => true
  | .passwordLockoutEnd => true
  | .safmOutreqWrite req => decide (req < 64)
  | .safmLogSelect idx => decide (idx < 256)
  | .heartbeatSend => true
  | .heartbeatReceived h => h.fits
  | .peerLost pid => decide (pid < 65536)
  | .reportWaitExpire pid => decide (pid < 65536)
  | .reportReceived sheaf len pid => decide (sheaf < 65536) && decide (len < 2048) && decide (pid < 65536)
  | .watchSetRecompute => true
  | .aggregateEntryDrop pid => decide (pid < 65536)
  | .duppidClear => true
  | .slotViewExpire pid => decide (pid < 65536)
  | .slotRevoke => true
  | .shfRevoke => true
  | .shfEnWrite en => decide (en < 2)
  | .dispatchFrameReceived sheaf len hold seq _ => decide (sheaf < 65536) && decide (len < 2048) && decide (hold < 65536) && decide (seq < 4294967296)
  | .dispatchGo => true
  | .dispatchTargetExpire => true
  | .shfContextSelect idx => decide (idx < 65536)
  | .ownershipGrantChange _ => true
  | .tickFrameReceived _ => true
  | .pathFault _ => true
  | .switchOver => true
  | .standbyLost => true
  | .grantFailure => true
  | .handover => true
  | .resyncComplete lo hi ms => decide (lo < 256) && decide (hi < 256) && decide (ms < 65536)
  | .submitDoorbell fn ring v => decide (fn < 4) && decide (ring < 64) && decide (v < 4294967296)
  | .completionAckDoorbell fn ring v => decide (fn < 4) && decide (ring < 64) && decide (v < 4294967296)
  | .ringResume fn ring => decide (fn < 4) && decide (ring < 64)
  | .descriptorFetch ring => decide (ring < 64)
  | .commandAccept ring => decide (ring < 64)
  | .tlpError => true
  | .ringCreate ring => decide (ring < 64)
  | .ringDelete ring => decide (ring < 64)
  | .ringDrainComplete ring => decide (ring < 64)
  | .ringQuery ring => decide (ring < 64)
  | .ringRestart ring => decide (ring < 64)
  | .ringReset ring => decide (ring < 64)
  | .vectorMap ring => decide (ring < 64)
  | .streamBind ring => decide (ring < 64)
  | .atuInvalidate ring => decide (ring < 64)
  | .identify ring => decide (ring < 64)
  | .nopCmd ring => decide (ring < 64)
  | .regRead ring => decide (ring < 64)
  | .regWrite ring => decide (ring < 64)
  | .regList ring => decide (ring < 64)
  | .cnvOn ring => decide (ring < 64)
  | .cnvClear ring => decide (ring < 64)
  | .iset ring => decide (ring < 64)
  | .dispatchTarget ring => decide (ring < 64)
  | .vrefNom ring => decide (ring < 64)
  | .outputRequest ring => decide (ring < 64)
  | .profileCmd ring => decide (ring < 64)
  | .gleanCmd ring => decide (ring < 64)
  | .restCmd ring => decide (ring < 64)
  | .impBurst ring => decide (ring < 64)
  | .cteLoad ring => decide (ring < 64)
  | .cteParam ring => decide (ring < 64)
  | .saveCmd ring => decide (ring < 64)
  | .snapshotCmd ring => decide (ring < 64)
  | .evrRead ring => decide (ring < 64)
  | .posRead ring => decide (ring < 64)
  | .adminRingEnable w => decide (w < 4294967296)
  | .msixMessage vec _ => decide (vec < 64)
  | .dStateChange fn _ _ => decide (fn < 4)
  | .pme fn => decide (fn < 4)
  | .atuConfigCommit => true
  | .dmaSegment _ _ _ => true
  | .faultRecordFlush => true
  | .irqAssert => true
  | .irqDeliver core => decide (core < 4)
  | .irqEoi core n => decide (core < 4) && decide (n < 128)
  | .holdOffExpire group => decide (group < 8)
  | .irqPendDiscard word bits => decide (word < 4) && decide (bits < 4294967296)
  | .irqSgi bits => decide (bits < 16)
  | .ethernetFrameReceive f => f.fits
  | .addressAgeout addr => decide (addr < 281474976710656)
  | .ethernetLinkChange port speed => decide (port < 3) && decide (speed < 4)
  | .ptpSyncReceived port _ _ _ _ => decide (port < 3)
  | .announceReceived a => a.fits
  | .announceTimeout port _ => decide (port < 3)
  | .delayReqSend _ => true
  | .pdelayReqSend port _ => decide (port < 3)
  | .pdelayReqReceived port seq _ => decide (port < 3) && decide (seq < 65536)
  | .pdelayRespReceived port _ _ => decide (port < 3)
  | .linkDelayLost port => decide (port < 3)
  | .followUpMiss seq _ => decide (seq < 65536)
  | .tset => true
  | .stepgo => true
  | .canFrameReceive f => f.fits
  | .txreq obj => decide (obj < 32)
  | .txabort obj => decide (obj < 32)
  | .canTxAcknowledged _ ns tdcv => decide (ns < 1000000000) && decide (tdcv < 128)
  | .canAckError tdcv => decide (tdcv < 128)
  | .busOff => true
  | .busOffRecovery => true
  | .canInitRelease => true
  | .canLockWrite obj _ => decide (obj < 32)
  | .referenceMessageDue => true
  | .smbGo _ => true
  | .smb0TransferEnd res count data => decide (res < 8) && decide (count < 256) && decide (data.length < 256)
  | .smb0BusTimeout => true
  | .smbClear _ => true
  | .busClearRoundEnd _ => true
  | .busClearHoldEnd => true
  | .busClearRetry => true
  | .smbAlert _ => true
  | .smb1BlockWrite addr code data _ _ _ => decide (addr < 128) && decide (code < 256) && decide (data.length < 256)
  | .smb1BlockRead addr code _ _ => decide (addr < 128) && decide (code < 256)
  | .smb1Timeout => true
  | .smbAlertSet => true
  | .smbAlertClr => true
  | .smb1AlertResponse _ => true
  | .eventRecord => true
  | .eventFrameSend => true
  | .evrWindowSelect slot => decide (slot < 65536)
  | .usbAttachChange _ => true
  | .svcHello => true
  | .svcAuth key _ => decide (key < 4)
  | .authLockoutEnd => true
  | .serviceSessionTimeout => true
  | .svcRegRead off => decide (off < 524288)
  | .svcRegWrite off v _ => decide (off < 524288) && decide (v < 4294967296)
  | .svcEvrRead _ => true
  | .svcUpload _ _ _ _ _ => true
  | .chunkApplied _ _ => true
  | .applyResume _ => true
  | .updCommit => true
  | .updCancel => true
  | .blcWrite words _ => decide (words.length < 47)
  | .svcReset => true
  | .svcStatus => true
  | .sessionEnd => true
  | .svcBlock _ => true
  | .imageConfirm => true
  | .thermalEvaluate _ => true
  | .canBusError lec _ _ => decide (lec < 8)
  | .msixVectorUnmask vec _ => decide (vec < 64)
  | .xlLaneFailure lane => decide (lane < 2)
  | .smb0BusFree => true

end Sys2Proof
end

