-- ==== Sys2Proof/Tests/Slice0.lean ====
section
/-! SUPPORT. Tests: ill-formed commands that the check refuses; single steps with results taken from the spec; and for every
statement a state and operands that meet its hypotheses. -/

namespace Sys2Proof.Tests

open Sys2Proof Sys2Proof.Machine

/-- The reset state with the input in some state. -/
def stVin (v : Vin) : State := { State.reset with pwr := { State.reset.pwr with vin := v } }

/-- The reset state with its resettable part changed. -/
def stCore (f : Core → Core) : State := { State.reset with core := f State.reset.core }

/-- The reset state with its non-volatile memories changed. -/
def stNv (f : NvSt → NvSt) : State := { State.reset with nv := f State.reset.nv }

/-- The reset state with some register fields written and its resettable part changed. -/
def stFld (l : List (Fld × Nat)) (f : Core → Core := id) : State := stCore (fun c => f (l.foldl (fun d p => d.wr p.1 p.2) c))

/-- The reset state with other safety channels. -/
def stSaf (x : SafSt) : State := { State.reset with saf := x }

/-- The reset state with the application running and one command journaled, in a machine changed by `f`. -/
def stCmd (j : JRec) (l : List (Fld × Nat) := []) (f : Core → Core := id) : State :=
  { stFld ((F.GLB_BOOT.STAGE, 3) :: l) f with nv := { State.reset.nv with jrec := [j] } }

/-! ### The check of well-formedness refuses an operand outside its range, and takes zeros -/

set_option maxRecDepth 8000 in
theorem test_ill_formed_1 : ([
    .watchdogKick 4, .flr 4, .tickBoundary (List.replicate 13 []),
    .tickBoundary [List.replicate 252 0], .tickBoundary [[2 ^ 32 + 1]], .tickBoundary [[-2 ^ 32 - 1]],
    .cteLda ⟨false, 4, 0, 0, 0, 0⟩, .cteLda ⟨false, 0, 4, 0, 0, 0⟩, .cteLda ⟨false, 0, 0, 4, 0, 0⟩,
    .cteLda ⟨false, 0, 0, 0, 1024, 0⟩, .cteLda ⟨false, 0, 0, 0, 0, 1024⟩, .cteMpy ⟨false, 4, 0, 0, 0, 0⟩,
    .cteMac ⟨false, 4, 0, 0, 0, 0⟩, .cteMsu ⟨false, 4, 0, 0, 0, 0⟩, .cteAdd ⟨false, 4, 0, 0, 0, 0⟩,
    .cteSub ⟨false, 4, 0, 0, 0, 0⟩, .cteAdda ⟨false, 4, 0, 0, 0, 0⟩, .cteSuba ⟨false, 4, 0, 0, 0, 0⟩,
    .cteShl ⟨false, 4, 0, 0, 0, 0⟩, .cteShr ⟨false, 4, 0, 0, 0, 0⟩, .cteClmp ⟨false, 4, 0, 0, 0, 0⟩,
    .cteCmplt ⟨false, 4, 0, 0, 0, 0⟩, .cteCmpge ⟨false, 4, 0, 0, 0, 0⟩, .cteTst ⟨false, 4, 0, 0, 0, 0⟩] : List Instr).all (fun i => !i.wellFormed) = true := by decide

set_option maxRecDepth 8000 in
theorem test_ill_formed_2 : ([
    .cteSts ⟨false, 4, 0, 0, 0, 0⟩, .cteStu ⟨false, 4, 0, 0, 0, 0⟩, .cteMov ⟨false, 4, 0, 0, 0, 0⟩,
    .carrierPeak 6, .tickPeriodRequest 65536 false, .tickFrameRequest 65536 false,
    .snapshotCapture 1048576, .registerWrite .f0 524288 0 0 false, .registerWrite .f0 0 4294967296 0 false,
    .registerWrite .f0 0 0 16 false, .setAliasWrite .f0 524288 0 0 false, .setAliasWrite .f0 0 4294967296 0 false,
    .setAliasWrite .f0 0 0 16 false, .clearAliasWrite .f0 524288 0 0 false, .clearAliasWrite .f0 0 4294967296 0 false,
    .clearAliasWrite .f0 0 0 16 false, .toggleAliasWrite .f0 524288 0 0 false, .toggleAliasWrite .f0 0 4294967296 0 false,
    .toggleAliasWrite .f0 0 0 16 false, .postedWrite .f0 .normal 524288 0 0, .postedWrite .f0 .normal 0 4294967296 0,
    .postedWrite .f0 .normal 0 0 16, .postedWriteCommit 32, .enumeration { fromA := List.replicate 41 ⟨0, 0, 0, 800, 0, 0, 0, false, false, 0⟩ }] : List Instr).all (fun i => !i.wellFormed) = true := by decide

set_option maxRecDepth 8000 in
theorem test_ill_formed_3 : ([
    .enumeration { fromA := [⟨0, 256, 0, 800, 0, 0, 0, false, false, 0⟩] }, .enumeration { fromB := [⟨0, 256, 0, 800, 0, 0, 0, false, false, 0⟩] }, .delayMeasureComplete [{ ra := 2 ^ 24 }],
    .delayMeasureComplete [{ rb := 2 ^ 24 }], .delayMeasureComplete [{ serial := 2 ^ 48 }], .resultReceived 2 false 0 0 ⟨[], [], 0⟩ ⟨0, 0⟩,
    .resultReceived 0 false 0 0 ⟨[], [], 0⟩ ⟨16, 0⟩, .resultReceived 0 false 40 0 ⟨[], [], 0⟩ ⟨0, 0⟩, .resultReceived 0 false 0 8 ⟨[], [], 0⟩ ⟨0, 0⟩,
    .resultReceived 0 false 0 0 ⟨List.replicate 17 0, [], 0⟩ ⟨0, 0⟩, .resultReceived 0 false 0 0 ⟨[], List.replicate 9 0, 0⟩ ⟨0, 0⟩, .resultReceived 0 false 0 0 ⟨[65536], [], 0⟩ ⟨0, 0⟩,
    .resultReceived 0 false 0 0 ⟨[], [65536], 0⟩ ⟨0, 0⟩, .resultReceived 0 false 0 0 ⟨[], [], 256⟩ ⟨0, 0⟩, .resultReceived 0 false 0 0 ⟨[], [], 0⟩ ⟨0, 2 ^ 48⟩,
    .readRetry 40 0, .readRetry 0 2, .bleedScheduleSend (List.replicate 41 ⟨0, 0⟩),
    .bleedScheduleSend [⟨40, 0⟩], .openWireDiagRead 40 ⟨0, 0⟩, .openWireDiagRead 0 ⟨131072, 0⟩,
    .openWireDiagRead 0 ⟨0, 2 ^ 48⟩, .nodeDiagRead 40 0 ⟨0, 0⟩, .nodeDiagRead 0 0 ⟨6, 0⟩] : List Instr).all (fun i => !i.wellFormed) = true := by decide

set_option maxRecDepth 8000 in
theorem test_ill_formed_4 : ([
    .nodeDiagRead 0 0 ⟨0, 2 ^ 48⟩, .helloReceived 2 ⟨0, 0⟩, .helloReceived 0 ⟨40, 0⟩,
    .helloReceived 0 ⟨0, 2 ^ 48⟩, .nodeReaddress 40 ⟨0, 0, 0, 800, 0, 0, 0, false, false, 0⟩, .nodeReaddress 0 ⟨2 ^ 48, 0, 0, 800, 0, 0, 0, false, false, 0⟩,
    .nodeReaddress 0 ⟨0, 256, 0, 800, 0, 0, 0, false, false, 0⟩, .nodeReaddress 0 ⟨0, 0, 256, 800, 0, 0, 0, false, false, 0⟩, .nodeReaddress 0 ⟨0, 0, 0, 0, 0, 0, 0, false, false, 0⟩,
    .nodeReaddress 0 ⟨0, 0, 0, 800, 65536, 0, 0, false, false, 0⟩, .nodeReaddress 0 ⟨0, 0, 0, 800, 0, 2 ^ 24, 0, false, false, 0⟩, .nodeReaddress 0 ⟨0, 0, 0, 800, 0, 0, 2 ^ 24, false, false, 0⟩,
    .nodeReaddress 0 ⟨0, 0, 0, 800, 0, 0, 0, false, false, 4⟩, .nodeUnreachable 40, .nodeFault 40 0,
    .nodeFault 0 6, .linkBreak 40, .toneLoss 2,
    .toneRestore 2, .breakLocated 64 0, .breakLocated 0 64,
    .measWindowSelect 64 0, .measWindowSelect 0 8, .burstSetup (List.replicate 41 ⟨0, 0⟩)] : List Instr).all (fun i => !i.wellFormed) = true := by decide

set_option maxRecDepth 8000 in
theorem test_ill_formed_5 : ([
    .burstSetup [⟨0, 2 ^ 48⟩], .burstSample 0 (List.replicate 41 0), .burstPacketReceived 2 false 0 0 ⟨[], 0⟩,
    .burstPacketReceived 0 false 40 0 ⟨[], 0⟩, .burstPacketReceived 0 false 0 16 ⟨[], 0⟩, .burstPacketReceived 0 false 0 0 ⟨List.replicate 87 0, 0⟩,
    .burstPacketReceived 0 false 0 0 ⟨[16777216], 0⟩, .burstPacketReceived 0 false 0 0 ⟨[], 2 ^ 48⟩, .impResultSelect 1024,
    .estPositionSelect 1024, .pmDataWrite 4294967296, .dmDataWrite 65536,
    .tripInput 8 false, .cbcInput 8 false, .cbcpTrip 6,
    .gateOffLine 2, .windowTrip 12 [], .streamLoss 12 false,
    .tripClear 2 0, .tripClear 0 4294967296, .safetyInputSample 256 0 0 0,
    .safetyInputSample 0 256 0 0, .safetyInputSample 0 0 256 0, .safetyInputSample 0 0 0 256] : List Instr).all (fun i => !i.wellFormed) = true := by decide

set_option maxRecDepth 8000 in
theorem test_ill_formed_6 : ([
    .gateReadbackTimeout 2, .discrepancyFault 8, .testPulse 2 0 0 0,
    .testPulse 0 256 0 0, .testPulse 0 0 256 0, .testPulse 0 0 0 4,
    .outputOffPulse 6 0 false, .outputOffPulse 0 2 false, .outputCurrentLimit 6 0,
    .outputCurrentLimit 0 2, .openLoad 6, .contactorFeedbackTimeout 6,
    .channelExchange { a := { cf := 64 } }, .channelExchange { b := { prb := 64 } }, .channelExchange { a := { mrb := 64 } },
    .safetyWindowEnd 4294967296 (List.replicate 8 0) (List.replicate 8 0) (List.replicate 8 0) (List.replicate 8 0), .safetyWindowEnd 0 (List.replicate 8 0) (List.replicate 8 0) (List.replicate 8 0) (List.replicate 7 0), .safetyWindowEnd 0 (List.replicate 8 0) (List.replicate 8 0) (List.replicate 13 0) (List.replicate 8 0),
    .singleChannelFault 2 0, .singleChannelFault 0 16, .safmConfirmWrite 4294967296,
    .safmPdataWrite 4294967296, .passwordWrite 4294967296, .safmOutreqWrite 64] : List Instr).all (fun i => !i.wellFormed) = true := by decide

set_option maxRecDepth 8000 in
theorem test_ill_formed_7 : ([
    .safmLogSelect 256, .heartbeatReceived { src := 3 }, .heartbeatReceived { len := 2048 },
    .heartbeatReceived { version := 256 }, .heartbeatReceived { pid := 65536 }, .heartbeatReceived { sheaf := 65536 },
    .heartbeatReceived { seq := 2 ^ 32 }, .heartbeatReceived { flags := 256 }, .heartbeatReceived { slot := 4 },
    .heartbeatReceived { soc := 65536 }, .heartbeatReceived { oepoch := 2 ^ 32 }, .peerLost 65536,
    .reportWaitExpire 65536, .reportReceived 65536 0 0, .reportReceived 0 2048 0,
    .reportReceived 0 0 65536, .aggregateEntryDrop 65536, .slotViewExpire 65536,
    .shfEnWrite 2, .dispatchFrameReceived 65536 0 0 0 0, .dispatchFrameReceived 0 2048 0 0 0,
    .dispatchFrameReceived 0 0 65536 0 0, .dispatchFrameReceived 0 0 0 4294967296 0, .shfContextSelect 65536] : List Instr).all (fun i => !i.wellFormed) = true := by decide

set_option maxRecDepth 8000 in
theorem test_ill_formed_8 : ([
    .resyncComplete 256 0 0, .resyncComplete 0 256 0, .resyncComplete 0 0 65536,
    .submitDoorbell 4 0 0, .submitDoorbell 0 64 0, .submitDoorbell 0 0 4294967296,
    .completionAckDoorbell 4 0 0, .completionAckDoorbell 0 64 0, .completionAckDoorbell 0 0 4294967296,
    .ringResume 4 0, .ringResume 0 64, .descriptorFetch 64,
    .commandAccept 64, .ringCreate 64, .ringDelete 64,
    .ringDrainComplete 64, .ringQuery 64, .ringRestart 64,
    .ringReset 64, .vectorMap 64, .streamBind 64,
    .atuInvalidate 64, .identify 64, .nopCmd 64] : List Instr).all (fun i => !i.wellFormed) = true := by decide

set_option maxRecDepth 8000 in
theorem test_ill_formed_9 : ([
    .regRead 64, .regWrite 64, .regList 64,
    .cnvOn 64, .cnvClear 64, .iset 64,
    .dispatchTarget 64, .vrefNom 64, .outputRequest 64,
    .profileCmd 64, .gleanCmd 64, .restCmd 64,
    .impBurst 64, .cteLoad 64, .cteParam 64,
    .saveCmd 64, .snapshotCmd 64, .evrRead 64,
    .posRead 64, .adminRingEnable 4294967296, .msixMessage 64 false,
    .dStateChange 4 false false, .pme 4, .irqDeliver 4] : List Instr).all (fun i => !i.wellFormed) = true := by decide

set_option maxRecDepth 8000 in
theorem test_ill_formed_10 : ([
    .irqEoi 4 0, .irqEoi 0 128, .holdOffExpire 8,
    .irqPendDiscard 4 0, .irqPendDiscard 0 4294967296, .irqSgi 16,
    .ethernetFrameReceive { port := 3 }, .ethernetFrameReceive { len := 2048 }, .ethernetFrameReceive { dst := 2 ^ 48 },
    .ethernetFrameReceive { src := 2 ^ 48 }, .ethernetFrameReceive { etype := 65536 }, .ethernetFrameReceive { seq := 65536 },
    .ethernetFrameReceive { typ := 256 }, .addressAgeout 281474976710656, .ethernetLinkChange 3 0,
    .ethernetLinkChange 0 4, .ptpSyncReceived 3 0 0 0 0, .announceReceived ⟨3, 0, 0, 0, 0, 0, 0, 0, 0, 0⟩,
    .announceReceived ⟨0, 256, 0, 0, 0, 0, 0, 0, 0, 0⟩, .announceReceived ⟨0, 0, 0, 256, 0, 0, 0, 0, 0, 0⟩, .announceReceived ⟨0, 0, 0, 0, 256, 0, 0, 0, 0, 0⟩,
    .announceReceived ⟨0, 0, 0, 0, 0, 256, 0, 0, 0, 0⟩, .announceReceived ⟨0, 0, 0, 0, 0, 0, 65536, 0, 0, 0⟩, .announceReceived ⟨0, 0, 0, 0, 0, 0, 0, 256, 0, 0⟩] : List Instr).all (fun i => !i.wellFormed) = true := by decide

set_option maxRecDepth 8000 in
theorem test_ill_formed_11 : ([
    .announceReceived ⟨0, 0, 0, 0, 0, 0, 0, 0, 0, 65536⟩, .announceTimeout 3 0, .pdelayReqSend 3 0,
    .pdelayReqReceived 3 0 0, .pdelayReqReceived 0 65536 0, .pdelayRespReceived 3 0 0,
    .linkDelayLost 3, .followUpMiss 65536 0, .canFrameReceive ⟨2048, false, false, false, false, false, 0, []⟩,
    .canFrameReceive ⟨2 ^ 29, true, false, false, false, false, 0, []⟩, .canFrameReceive ⟨0, false, false, false, false, false, 16, []⟩, .canFrameReceive ⟨0, false, false, false, false, false, 0, List.replicate 65 0⟩,
    .canFrameReceive ⟨0, false, false, false, false, false, 0, [256]⟩, .txreq 32, .txabort 32,
    .canTxAcknowledged 0 1000000000 0, .canTxAcknowledged 0 0 128, .canAckError 128,
    .canLockWrite 32 false, .smb0TransferEnd 8 0 [], .smb0TransferEnd 0 256 [],
    .smb0TransferEnd 0 0 (List.replicate 256 0), .smb1BlockWrite 128 0 [] none false .normal, .smb1BlockWrite 0 256 [] none false .normal] : List Instr).all (fun i => !i.wellFormed) = true := by decide

set_option maxRecDepth 8000 in
theorem test_ill_formed_12 : ([
    .smb1BlockWrite 0 0 (List.replicate 256 0) none false .normal, .smb1BlockRead 128 0 false .normal, .smb1BlockRead 0 256 false .normal,
    .evrWindowSelect 65536, .svcAuth 4 false, .svcRegRead 524288,
    .svcRegWrite 524288 0 false, .svcRegWrite 0 4294967296 false, .blcWrite (List.replicate 47 0) false,
    .canBusError 8 false false, .msixVectorUnmask 64 false, .xlLaneFailure 2] : List Instr).all (fun i => !i.wellFormed) = true := by decide

theorem test_well_formed_1 : ([
    .watchdogKick 0, .flr 0, .tickBoundary [], .cteLda ⟨false, 0, 0, 0, 0, 0⟩,
    .cteMpy ⟨false, 0, 0, 0, 0, 0⟩, .cteMac ⟨false, 0, 0, 0, 0, 0⟩, .cteMsu ⟨false, 0, 0, 0, 0, 0⟩, .cteAdd ⟨false, 0, 0, 0, 0, 0⟩,
    .cteSub ⟨false, 0, 0, 0, 0, 0⟩, .cteAdda ⟨false, 0, 0, 0, 0, 0⟩, .cteSuba ⟨false, 0, 0, 0, 0, 0⟩, .cteShl ⟨false, 0, 0, 0, 0, 0⟩,
    .cteShr ⟨false, 0, 0, 0, 0, 0⟩, .cteClmp ⟨false, 0, 0, 0, 0, 0⟩, .cteCmplt ⟨false, 0, 0, 0, 0, 0⟩, .cteCmpge ⟨false, 0, 0, 0, 0, 0⟩,
    .cteTst ⟨false, 0, 0, 0, 0, 0⟩, .cteSts ⟨false, 0, 0, 0, 0, 0⟩, .cteStu ⟨false, 0, 0, 0, 0, 0⟩, .cteMov ⟨false, 0, 0, 0, 0, 0⟩,
    .carrierPeak 0, .tickPeriodRequest 0 false, .tickFrameRequest 0 false, .snapshotCapture 0,
    .registerWrite .f0 0 0 0 false, .setAliasWrite .f0 0 0 0 false, .clearAliasWrite .f0 0 0 0 false, .toggleAliasWrite .f0 0 0 0 false,
    .postedWrite .f0 .normal 0 0 0, .postedWriteCommit 0, .enumeration {}, .delayMeasureComplete [],
    .resultReceived 0 false 0 0 ⟨[], [], 0⟩ ⟨0, 0⟩, .readRetry 0 0, .bleedScheduleSend [], .openWireDiagRead 0 ⟨0, 0⟩,
    .nodeDiagRead 0 0 ⟨0, 0⟩, .helloReceived 0 ⟨0, 0⟩, .nodeReaddress 0 ⟨0, 0, 0, 800, 0, 0, 0, false, false, 0⟩, .nodeUnreachable 0] : List Instr).all Instr.wellFormed = true := by decide

theorem test_well_formed_2 : ([
    .nodeFault 0 0, .linkBreak 0, .toneLoss 0, .toneRestore 0,
    .breakLocated 0 0, .measWindowSelect 0 0, .burstSetup [], .burstSample 0 [],
    .burstPacketReceived 0 false 0 0 ⟨[], 0⟩, .impResultSelect 0, .estPositionSelect 0, .pmDataWrite 0,
    .dmDataWrite 0, .tripInput 0 false, .cbcInput 0 false, .cbcpTrip 0,
    .gateOffLine 0, .windowTrip 0 [], .streamLoss 0 false, .tripClear 0 0,
    .safetyInputSample 0 0 0 0, .gateReadbackTimeout 0, .discrepancyFault 0, .testPulse 0 0 0 0,
    .outputOffPulse 0 0 false, .outputCurrentLimit 0 0, .openLoad 0, .contactorFeedbackTimeout 0,
    .channelExchange {}, .safetyWindowEnd 0 (List.replicate 8 0) (List.replicate 8 0) (List.replicate 8 0) (List.replicate 8 0), .singleChannelFault 0 0, .safmConfirmWrite 0,
    .safmPdataWrite 0, .passwordWrite 0, .safmOutreqWrite 0, .safmLogSelect 0,
    .heartbeatReceived {}, .peerLost 0, .reportWaitExpire 0, .reportReceived 0 0 0] : List Instr).all Instr.wellFormed = true := by decide

theorem test_well_formed_3 : ([
    .aggregateEntryDrop 0, .slotViewExpire 0, .shfEnWrite 0, .dispatchFrameReceived 0 0 0 0 0,
    .shfContextSelect 0, .resyncComplete 0 0 0, .submitDoorbell 0 0 0, .completionAckDoorbell 0 0 0,
    .ringResume 0 0, .descriptorFetch 0, .commandAccept 0, .ringCreate 0,
    .ringDelete 0, .ringDrainComplete 0, .ringQuery 0, .ringRestart 0,
    .ringReset 0, .vectorMap 0, .streamBind 0, .atuInvalidate 0,
    .identify 0, .nopCmd 0, .regRead 0, .regWrite 0,
    .regList 0, .cnvOn 0, .cnvClear 0, .iset 0,
    .dispatchTarget 0, .vrefNom 0, .outputRequest 0, .profileCmd 0,
    .gleanCmd 0, .restCmd 0, .impBurst 0, .cteLoad 0,
    .cteParam 0, .saveCmd 0, .snapshotCmd 0, .evrRead 0] : List Instr).all Instr.wellFormed = true := by decide

theorem test_well_formed_4 : ([
    .posRead 0, .adminRingEnable 0, .msixMessage 0 false, .dStateChange 0 false false,
    .pme 0, .irqDeliver 0, .irqEoi 0 0, .holdOffExpire 0,
    .irqPendDiscard 0 0, .irqSgi 0, .ethernetFrameReceive {}, .addressAgeout 0,
    .ethernetLinkChange 0 0, .ptpSyncReceived 0 0 0 0 0, .announceReceived ⟨0, 0, 0, 0, 0, 0, 0, 0, 0, 0⟩, .announceTimeout 0 0,
    .pdelayReqSend 0 0, .pdelayReqReceived 0 0 0, .pdelayRespReceived 0 0 0, .linkDelayLost 0,
    .followUpMiss 0 0, .canFrameReceive ⟨0, false, false, false, false, false, 0, []⟩, .txreq 0, .txabort 0,
    .canTxAcknowledged 0 0 0, .canAckError 0, .canLockWrite 0 false, .smb0TransferEnd 0 0 [],
    .smb1BlockWrite 0 0 [] none false .normal, .smb1BlockRead 0 0 false .normal, .evrWindowSelect 0, .svcAuth 0 false,
    .svcRegRead 0, .svcRegWrite 0 0 false, .blcWrite [] false, .canBusError 0 false false,
    .msixVectorUnmask 0 false, .xlLaneFailure 0] : List Instr).all Instr.wellFormed = true := by decide

/-! ### Single steps and worked examples of the spec -/

/-- What a command leaves of a state. -/
def after (c : Instr) (s : State) (p : State → Bool) : Bool := match step (s.push c) with | .next t => p t | _ => false

/-- R63, R511: from the power-off state, power-on and the release of the power-on reset lead to `State.reset`. -/
theorem test_power_on_reaches_reset :
    after .powerOn { State.reset with pwr := { State.reset.pwr with vin := .off, held := true }, aon := ⟨0, 0, false, 0, 0⟩ }
      (fun s => after .powerOnResetRelease s (fun t => decide (t.aon = ⟨0, 1, false, 0, 0⟩ ∧ t.pwr.vin = .on ∧ t.pwr.held = false ∧ t.core = State.reset.core))) = true := by
  decide

/-- R41: a toggle inverts the bits written as 1. -/
theorem test_toggle_alias : after (.toggleAliasWrite .f0 0x3020 0xF0 15 false) (stFld [(F.GLB_SCRATCH.DATA, 0xFF)])
    (fun t => t.core.rd F.GLB_SCRATCH.DATA == 0x0F) = true := by decide

/-- R37, R38: a partial write is discarded and counted. -/
theorem test_partial_write_discarded : after (.registerWrite .f0 0x20 5 1 false) .reset
    (fun t => t.core.rd F.GLB_SCRATCH.DATA == 0 && t.core.rd F.GLB_ACCVIOL.COUNT == 1 && t.core.rd F.GLB_ACCVIOL.KIND == 1 &&
      t.core.rd F.GLB_ACCVIOL_ADDR.OFFSET == 0x20) = true := by decide

/-- The example after R554: BAL_CFG.MODE bit 0 is cleared by writing 1 to the clear alias at 0x0002_2000, at the next frame boundary. -/
theorem test_clear_alias_held : after (.clearAliasWrite .f0 0x22000 1 15 false) (stFld [(F.BAL_CFG.MODE, 1)])
    (fun t => t.core.rd F.BAL_CFG.MODE == 1 && t.core.wait.contains ⟨F.BAL_CFG.MODE, 1, .clear, false, .f0⟩) = true := by decide

/-- R315, R320: without a confirmed set no output follows a request. -/
theorem test_no_set_no_output : after (.safmOutreqWrite 63) .reset (fun t => (upTo 6).all (fun k => !t.energised k)) = true := by decide

/-- The table of the example after R351: the hashes of the eleven observers of L = 0x0107. -/
theorem test_observer_hashes : [0x10A, 0x102, 0x105, 0x108, 0x10B, 0x103, 0x106, 0x109, 0x101, 0x10C, 0x104].map (chaff 0x107) =
    [2251, 5907, 15470, 17721, 27284, 30940, 40503, 42754, 46410, 52317, 55973] := by decide

/-- The dispatch example after R359: 300 kW at 1,480 V and 213.5 A with +0.150 % bias moves 1,500 V to 1,500,293 mV. -/
theorem test_dispatch_step : dispatchStep ([(F.CNV_LL_VREF.VREF, 1500000), (F.BAL_SOCB.ACT, 150), (F.SHF_VREF_MAX.V, 2000000)].foldl
    (fun c p => c.wr p.1 p.2) State.reset.core) 1480000 213500 300000 = 1500293 := by decide

/-- The bleed example after R157: in frame 12,001 channels 5, 7 and 12 of 5, 6, 7 and 12, in 12,002 channels 6 and 12; 400 ticks. -/
theorem test_bleed_parity : bleedSel [5, 6, 7, 12] 12001 = [5, 7, 12] ∧ bleedSel [5, 6, 7, 12] 12002 = [6, 12] ∧ onTime 80 500 41 = 400 ∧ onTime 80 500 61 = 400 := by
  decide

/-- The derating example after R164: F_C is 19,660 at 49.0 °C, F_D is 0x8000. -/
theorem test_derating_factors : drFactor ⟨0, 100, 450, 550⟩ 490 275 = 19660 ∧ drFactor ⟨-200, -100, 500, 600⟩ 490 275 = 32768 := by decide

set_option maxRecDepth 20000 in
/-- The program section of the example after R282, with its operands in data memory: REF0, IPH0, PINT0, E0 and the duty at 0 to 4, KI_PH and KP_PH at 0x100. -/
theorem test_engine_example :
    let c := stFld [] (fun c => { c with cte := { c.cte with dm := [(0, 18842), (1, 18514), (2, 13107), (256, 655), (257, 8192), (258, 32767)] } })
    let w := fun (a x y : Nat) => (⟨false, 0, a, 0, x, y⟩ : CteW)
    let d := cteStu (w 1 4 0) (cteClmp (w 1 5 258) (cteMac (w 1 3 257) (cteSts (w 1 2 0) (cteMac (w 1 3 256) (cteLda (w 1 2 0)
      (cteSts (w 0 3 0) (cteSub (w 0 1 0) (cteLda (w 0 0 0) c.core))))))))
    d.cte.rd 3 = 328 ∧ d.cte.rd 2 = 13114 ∧ d.cte.rd 4 = 13196 := by decide

/-- R268: an instruction whose predicate is false has no effect. -/
theorem test_engine_predicate : after (.cteLda ⟨true, 0, 1, 0, 0, 0⟩) (stFld [] (fun c => { c with cte := { c.cte with dm := [(0, 7)] } }))
    (fun t => t.core.cte.a 1 == 0) = true := by decide

set_option maxRecDepth 20000 in
/-- R488, R489: the PEC is the CRC-8 of the SMBus specification, whose check value over the digits 1 to 9 is 0xF4. -/
theorem test_pec : pec 0 [49, 50, 51, 52, 53, 54, 55, 56, 57] = 0xF4 := by decide

/-- R473's example: 192 and 24 clocks, sampled at 79.2 % and 75 %, and a secondary sample point of 35 clocks with TDCV = 17. -/
theorem test_can_timing : bitClocks F.CAN_NBT.NBRP.reset F.CAN_NBT.NTSEG1.reset F.CAN_NBT.NTSEG2.reset = (192, 152) ∧
    bitClocks F.CAN_DBT.DBRP.reset F.CAN_DBT.DTSEG1.reset F.CAN_DBT.DTSEG2.reset = (24, 18) ∧
    (stFld [(F.CAN_STAT.TDCV, 17)]).core.secondarySample = 35 := by decide

/-- R443: a PENDING assertion is discarded, an ACTIVE one stays. -/
theorem test_pend_discard : after (.registerWrite .f0 0xc340 3 15 false) (stFld [(F.IRQ_SRC.STATE 0, 1), (F.IRQ_SRC.STATE 1, 2)])
    (fun t => t.core.irqState 0 == 0 && t.core.irqState 1 == 2) = true := by decide

/-- R554: F2 reads EST at 0x7000 of its view, slot 7; the block EST lies at CSR offset 0x0002_8000. -/
theorem test_view_slot : csrOff .f2 0x706C = 0x2806C := by decide

/-! ### Witnesses of the hypotheses -/

theorem witness_SupplyCommands : (∃ s : State, s.pwr.vin = .off) ∧ (∃ s : State, s.pwr.vin = .rising) ∧ (∃ s : State, s.up) ∧ (∃ s : State, s.pwr.vin = .holdUp ∧ s.aon.storing = true) ∧
  ∃ s : State, s.pwr.vin = .holdUp ∧ s.aon.storing = false :=
  ⟨⟨stVin .off, rfl⟩, ⟨stVin .rising, rfl⟩, ⟨State.reset, rfl, rfl⟩, ⟨{ stVin .holdUp with aon := { State.reset.aon with storing := true } }, by decide⟩,
  ⟨stVin .holdUp, by decide⟩⟩

theorem witness_BootCommands : (∃ s : State, s.pwr.held = false ∧ s.core.svc.sel = false ∧ s.core.rd F.GLB_BOOT.STAGE = 0 ∧ (s.nv.img false).valid = true) ∧
  (∃ s : State, s.pwr.held = false ∧ s.core.svc.sel = false ∧ s.core.rd F.GLB_BOOT.STAGE = 0 ∧ (s.nv.img false).valid = false ∧ (s.nv.img true).valid = false) ∧
  (∃ s : State, s.pwr.held = false ∧ s.core.svc.sel = true ∧ s.core.rd F.GLB_BOOT.STAGE = 0) ∧
  (∃ s : State, s.pwr.held = false ∧ s.core.rd F.GLB_BOOT.STAGE = 1) ∧
  (∃ s : State, s.pwr.held = false ∧ s.core.rd F.GLB_BOOT.STAGE = 2 ∧ s.core.svc.exch = true) ∧ ∃ s : State, s.pwr.held = false ∧ s.core.svc.exch = false :=
  ⟨⟨.reset, by decide⟩, ⟨stNv (fun n => { n with imgA := { n.imgA with valid := false }, imgB := { n.imgB with valid := false } }), by decide⟩,
  ⟨stCore (fun c => { c with svc := { c.svc with sel := true } }), by decide⟩, ⟨stCore (fun c => c.wr F.GLB_BOOT.STAGE 1), by decide⟩,
  ⟨stCore (fun c => { c.wr F.GLB_BOOT.STAGE 2 with svc := { c.svc with exch := true } }), by decide⟩, ⟨.reset, by decide⟩⟩

theorem witness_ResetCommands : (∃ s : State, s.up ∧ s.pwr.pcycLow = false) ∧ ∃ s : State, s.up ∧ s.pwr.pcycLow = true :=
  ⟨⟨.reset, ⟨rfl, rfl⟩, rfl⟩, ⟨{ State.reset with pwr := { State.reset.pwr with pcycLow := true } }, ⟨rfl, rfl⟩, rfl⟩⟩

theorem witness_WatchdogCommands : (∃ s : State, s.up ∧ s.pwr.pcycLow = false ∧ s.pwr.kicked.contains 3 = false ∧ s.pwr.kicked.length ≤ 2 ∧ s.pwr.warned = false ∧
    (s.pwr.wdOps.filter fun o => decide (s.aon.ops - o ≤ 600000)).length ≤ 1) ∧
  (∃ s : State, s.up ∧ s.pwr.kicked.contains 3 = false ∧ s.pwr.kicked.length = 3) ∧
  ∃ s : State, s.up ∧ s.pwr.pcycLow = false ∧ 2 ≤ (s.pwr.wdOps.filter fun o => decide (s.aon.ops - o ≤ 600000)).length :=
  ⟨⟨.reset, ⟨rfl, rfl⟩, by decide⟩, ⟨{ State.reset with pwr := { State.reset.pwr with kicked := [2, 1, 0] } }, ⟨rfl, rfl⟩, by decide⟩,
  ⟨{ State.reset with pwr := { State.reset.pwr with wdOps := [0, 0] } }, ⟨rfl, rfl⟩, by decide⟩⟩

theorem witness_HeldRequests : ∃ s : State, s.pwr.held = false :=
  ⟨.reset, rfl⟩

theorem witness_TickCommands : (∃ s : State, s.pwr.held = false ∧ s.core.tick.running = true ∧ s.core.cte.act ≠ none) ∧
  (∃ s : State, s.pwr.held = false ∧ s.core.tick.running = true ∧ s.core.framesRun = true ∧ s.core.nf ≤ s.core.tick.pos) ∧
  (∃ s : State, s.pwr.held = false ∧ s.core.tick.pos < s.core.nf) ∧ ∃ s : State, s.pwr.held = false ∧ s.core.framesRun = false :=
  ⟨⟨stCore (fun c => { c with tick := { c.tick with running := true }, cte := { c.cte with act := some ⟨0, 1, 1, 82, 1, false, 0, false⟩ } }), by decide⟩,
  ⟨stCore (fun c => { c with tick := { c.tick with running := true, pos := 5000 } }), by decide⟩, ⟨.reset, by decide⟩,
  ⟨stFld [(F.RED_STAT.ROLE, 2)], by decide⟩⟩

theorem witness_TimeCommands : (∃ s : State, s.pwr.held = false ∧ s.core.tick.snapSrc = some 3 ∧ s.core.tick.snapAgain = false ∧ s.core.secondEdge = some (0 / 16 * 16)) ∧
  (∃ s : State, s.pwr.held = false ∧ s.core.tick.snapSrc = some 1 ∧ s.core.tick.snapAgain = false ∧ s.core.tick.snapDue = true) ∧ (∃ s : State, s.core.tick.snapSrc = none) ∧
  (∃ s : State, s.pwr.vin ≠ .off ∧ s.pwr.held = true ∧ s.aon.storing = false) ∧ (∃ s : State, s.pwr.vin ≠ .off ∧ s.aon.storing = true) ∧
  ∃ s : State, ∃ e, s.core.ev.raw.head? = some e ∧ s.pwr.held = false ∧ s.core.ev.ready = true ∧ s.core.ev.recq.length < 4096 ∧ s.core.ev.recq.head? = some {} ∧
    s.pwr.vin ≠ .holdUp ∧ s.core.ev.beyond < 32768 ∧ s.core.ev.recent.find? (fun k => (s.nv.slot k).same {}) = none :=
  ⟨⟨stCore (fun c => { c with tick := { c.tick with snapSrc := some 3, running := true }, ptp := { c.ptp with ns := 1000000000 } }), by decide⟩,
  ⟨stCore (fun c => { c with tick := { c.tick with snapSrc := some 1, snapDue := true } }), by decide⟩, ⟨.reset, rfl⟩,
  ⟨{ State.reset with pwr := { State.reset.pwr with held := true } }, by decide, rfl, rfl⟩, ⟨{ stVin .holdUp with aon := { State.reset.aon with storing := true } }, by decide, rfl⟩,
  ⟨stCore (fun c => { c with ev := { c.ev with ready := true, raw := [⟨4097, 0, 1, [], ⟨0, 0⟩⟩], recq := [{}] } }), _, rfl, rfl, rfl, by decide, rfl, by decide, by decide, rfl⟩⟩

theorem witness_EngineArithmetic : ∃ (s : State) (w : CteW), s.pwr.held = false ∧ cteGoes w s.core.cte = true ∧ w.a < s.core.cte.acc.length :=
  ⟨.reset, ⟨false, 0, 1, 2, 0, 0⟩, by decide⟩

theorem witness_EngineStores : ∃ (s : State) (w : CteW), s.pwr.held = false ∧ cteGoes w s.core.cte = true :=
  ⟨.reset, ⟨false, 0, 1, 2, 0, 0⟩, by decide⟩

theorem witness_EnginePredicate : ∃ (s : State) (w : CteW), cteGoes w s.core.cte = false ∧ w.pr = 0 :=
  ⟨.reset, ⟨true, 0, 1, 2, 0, 0⟩, by decide⟩

theorem witness_ConverterExpiries : (∃ s : State, s.pwr.held = false ∧ s.core.cnvState = 1 ∧ s.core.rd F.CNV_ONOFF.TON * 500000 ≤ s.core.cnv.age ∧ s.core.block = 0) ∧
  (∃ s : State, s.pwr.held = false ∧ s.core.cnvState = 5 ∧ s.core.rd F.CNV_ONOFF.TOFF * 500000 ≤ s.core.cnv.age) ∧
  (∃ s : State, s.pwr.held = false ∧ s.core.cnvState = 2 ∧ max 1 (s.core.rd F.CNV_SS_STALLT.STALLT) * 500000 ≤ s.core.cnv.stall ∧
    s.core.rd F.CNV_STAT.RETRY < s.core.rd F.CNV_SS_RETRIES.RETRIES) ∧
  (∃ s : State, s.pwr.held = false ∧ s.core.cnvState = 2 ∧ max 1 (s.core.rd F.CNV_SS_STALLT.STALLT) * 500000 ≤ s.core.cnv.stall ∧
    ¬ s.core.rd F.CNV_STAT.RETRY < s.core.rd F.CNV_SS_RETRIES.RETRIES) ∧
  (∃ s : State, s.pwr.held = false ∧ s.core.cnvState = 7 ∧ s.core.rd F.CNV_STAT.FCAUSE = 2 ∧ s.core.rd F.CNV_SS_RETRYT.RETRYT * 500000 ≤ s.core.cnv.age ∧
    s.core.on F.CNV_CTRL.ON = true ∧ s.core.block = 0) ∧
  (∃ s : State, s.pwr.held = false ∧ s.core.cnvState = 6 ∧ 10 ≤ s.core.cnv.done ∧ s.core.stopLimit ≤ s.core.cnv.age) ∧
  (∃ s : State, s.pwr.held = false ∧ s.core.cnvState = 3 ∧ s.core.on F.CNV_CTRL.SHEDEN = true ∧ max 1 (s.core.rd F.CNV_SHED_DWELL.DWELL) ≤ s.core.cnv.dwell ∧ s.core.cnv.step = false ∧
    s.core.minPh < s.core.actPhases.length) ∧
  ∃ s : State, s.pwr.held = false ∧ s.core.cnvState = 3 ∧ s.core.rd F.CNV_STAT.REFSRC = 0 ∧ s.core.prof = 3 ∧ s.core.on F.CNV_CTRL.BUREN = true ∧
    max 1 (s.core.rd F.CNV_SHED_DWELL.DWELL) ≤ s.core.cnv.bdwell :=
  ⟨⟨stFld [(F.CNV_TOPO.TOPO, 1), (F.CNV_TOPO.NPH, 1), (F.SDM_STAT.ROLEOK, 1), (F.CNV_STAT.STATE, 1)] (fun c => { c with
      cte := { c.cte with act := some ⟨0, 1, 1, 82, 1, false, 0, false⟩ }, cnv := { c.cnv with age := 50000000 } }), by decide⟩,
  ⟨stFld [(F.CNV_STAT.STATE, 5)], by decide⟩,
  ⟨stFld [(F.CNV_STAT.STATE, 2)] (fun c => { c with cnv := { c.cnv with stall := 500000 * 65536 } }), by decide⟩,
  ⟨stFld [(F.CNV_STAT.STATE, 2), (F.CNV_STAT.RETRY, 15)] (fun c => { c with cnv := { c.cnv with stall := 500000 * 65536 } }), by decide⟩,
  ⟨stFld [(F.CNV_TOPO.TOPO, 1), (F.CNV_TOPO.NPH, 1), (F.SDM_STAT.ROLEOK, 1), (F.CNV_STAT.STATE, 7), (F.CNV_STAT.FCAUSE, 2), (F.CNV_CTRL.ON, 1)] (fun c => { c with
      cte := { c.cte with act := some ⟨0, 1, 1, 82, 1, false, 0, false⟩ }, cnv := { c.cnv with age := 500000 * 65536 } }), by decide⟩,
  ⟨stFld [(F.CNV_STAT.STATE, 6)] (fun c => { c with cnv := { c.cnv with done := 10, age := 500000 * 65536 } }), by decide⟩,
  ⟨stFld [(F.CNV_STAT.STATE, 3), (F.CNV_CTRL.SHEDEN, 1), (F.CNV_TOPO.NPH, 2), (F.CNV_PH_ANG.ACT 0, 1), (F.CNV_PH_ANG.ACT 1, 1)] (fun c => { c with cnv := { c.cnv with dwell := 65536 } }), by decide⟩,
  ⟨stFld [(F.CNV_STAT.STATE, 3), (F.TICK_PROFILE.ACT, 3), (F.CNV_CTRL.BUREN, 1)] (fun c => { c with cnv := { c.cnv with bdwell := 65536 } }), by decide⟩⟩

theorem witness_EngineMemory : (∃ s : State, s.pwr.held = false ∧ s.core.on F.CTE_CTRL.STD = false ∧ s.core.on F.CTE_CTRL.LOAD = true ∧ s.core.rd F.CTE_LOAD.LEN = 0) ∧
  (∃ s : State, s.pwr.held = false ∧ s.core.on F.CTE_CTRL.LOAD = true ∧ (admitOf false s.core).1 = 0) ∧
  ∃ s : State, s.pwr.held = false ∧ s.core.on F.CTE_CTRL.STD = false ∧ s.core.on F.CTE_CTRL.LOAD = false :=
  ⟨⟨stFld [(F.CTE_CTRL.LOAD, 1)], by decide⟩,
  ⟨stFld [(F.CTE_CTRL.LOAD, 1), (F.CTE_LOAD.BASE, 1000), (F.CTE_LOAD.LEN, 1), (F.CTE_SWAP.SWAP, 1)] (fun c => { c with cte := { c.cte with pm := [(1000, 31 * 2 ^ 27 + 1)] } }), by decide⟩,
  ⟨.reset, by decide⟩⟩

theorem witness_ProtectionTrips : (∃ (s : State) (n k ch : Nat), s.up ∧ n < 8 ∧ k < 6 ∧ ch < 2 ∧ s.core.tripMode n = 1 ∧ bitAt (s.core.rd F.PROT_TRIP0.TIN) n = false ∧
    max 1 (s.core.rd F.PROT_ICBC.NMAX) ≤ Tab.get 0 s.core.prot.rowF k ∧ bitAt (s.core.rd F.PROT_TRIP1.CBCP) 0 = false ∧
    max 1 (s.core.rd F.PROT_IST.T) ≤ s.core.prot.occCnt ∧ bitAt (s.core.rd F.PROT_TRIP1.OCC) 0 = false) ∧
  (∃ (s : State) (n : Nat), s.up ∧ n < 8 ∧ s.core.tripMode n = 2) ∧ (∃ (s : State) (n : Nat), s.up ∧ n < 8 ∧ s.core.prot.vioA = true ∧ s.core.tripMode n = 0) ∧ (∃ (s : State) (n : Nat), s.up ∧ n < 8 ∧ s.core.prot.vioA = false) ∧
  (∃ (s : State) (n : Nat) (outs : List Int), s.up ∧ n < 12 ∧ s.core.on (F.SDM_CFG.EN n) = true ∧ outs ≠ [] ∧
    fastCnt (s.core.rd F.PROT_FAST.CNT) ≤ Tab.get 0 s.core.prot.wCnt n + outs.length ∧
    (∀ x ∈ outs, s.core.rdS (F.PROT_WIN.HI n) < x ∨ x < s.core.rdS (F.PROT_WIN.LO n)) ∧ bitAt (s.core.rd F.PROT_TRIP0.WIN) n = false) :=
  ⟨⟨stFld [(F.PROT_TRIP.MODE 7, 1)] (fun c => { c with prot := { c.prot with rowF := [(5, 16)], occCnt := 100 } }), 7, 5, 1, by decide⟩,
  ⟨stFld [(F.PROT_TRIP.MODE 7, 2)], 7, by decide⟩, ⟨stFld [(F.PROT_TRIP.MODE 7, 0)], 7, by decide⟩,
  ⟨stFld [] (fun c => { c with prot := { c.prot with vioA := false } }), 7, by decide⟩,
  ⟨stFld [(F.SDM_CFG.EN 11, 1), (F.PROT_WIN.HI 11, 100)], 11, [101, 101], by decide⟩⟩

theorem witness_ProtectionChecks : (∃ (s : State) (w : XWin) (ra rb : XRef), s.pwr.held = false ∧ s.core.prot.ended.find? (fun w => (s.core.xRef 0 w.count).isSome && (s.core.xRef 1 w.count).isSome) = some w ∧
    s.core.xRef 0 w.count = some ra ∧ s.core.xRef 1 w.count = some rb ∧ (s.core.xvOver w ra || s.core.xvOver w rb) = true ∧ 1 ≤ s.core.prot.xvCnt) ∧
  (∃ s : State, s.pwr.held = false ∧ 10 ≤ s.core.prot.miss ∧ s.core.rd F.PROT_STAT.REFSTALE = 0) ∧
  ∃ s : State, s.pwr.held = false ∧ s.core.prot.ended.find? (fun w => (s.core.xRef 0 w.count).isSome && (s.core.xRef 1 w.count).isSome) = none ∧ s.core.prot.miss < 10 :=
  ⟨⟨stCore (fun c => { c with prot := { c.prot with ended := [⟨0, 50, 0, 0, 0, false, 0⟩], refs := [⟨0, 0, 100000, 0⟩, ⟨1, 0, 100000, 0⟩], xvCnt := 1 } }),
    ⟨0, 50, 0, 0, 0, false, 0⟩, ⟨0, 0, 100000, 0⟩, ⟨1, 0, 100000, 0⟩, by decide⟩,
  ⟨stCore (fun c => { c with prot := { c.prot with miss := 10 } }), by decide⟩, ⟨.reset, by decide⟩⟩

theorem witness_RegisterWrites : ∃ (s : State) (m : Master) (v be : Nat), s.pwr.held = false ∧ m ∈ [Master.f0, .super, .user] ∧ be ≠ 15 ∧ s.core.slotOn 1 0 = false ∧ bitsAt v 0 3 ≠ 0 ∧ privileged m = true ∧ plainReg .imm 0x20 = true ∧ plainReg .tick 0x30008 = true ∧
  plainReg .frame 0x1c100 = true ∧ (∃ o, plainReg .epoch o = true) :=
  ⟨stFld [(F.BLC_FVIEW.SLOTEN 0, 0)], .f0, 4, 3, by decide, by decide, by decide, by decide, by decide, rfl, by decide, by decide, by decide, ⟨131104, by decide⟩⟩

theorem witness_PostedWrites : (∃ s : State, s.pwr.held = false ∧ s.core.rd F.CHN_XSTAT.BUSY = 0) ∧ ∃ (s : State) (bits : Nat), s.pwr.held = false ∧ s.core.rd F.CHN_XSTAT.BUSY ≠ 0 ∧
  s.core.wait.filter (fun w => w.fld.off / 16384 == 6) = [⟨F.CHN_CFG.DLY_PERIOD, bits, .normal, false, .f0⟩] :=
  ⟨⟨.reset, by decide⟩, ⟨stFld [(F.CHN_XSTAT.BUSY, 1)] (fun c => { c with wait := [⟨F.CHN_CFG.DLY_PERIOD, 65535, .normal, false, .f0⟩] }), 65535, by decide⟩⟩

theorem witness_ChainEnumeration : (∃ (s : State) (found : EnumFound), s.pwr.held = false ∧ s.core.on F.CHN_CTRL.ENUM = true ∧ s.core.chn.run = none ∧ s.core.tick.running = true ∧ enumErr found s.core.expected = 0) ∧
  (∃ (s : State) (found : EnumFound), s.pwr.held = false ∧ s.core.chn.run = some found ∧ enumErr found s.core.expected = 0) ∧
  (∃ (s : State) (found : EnumFound), s.pwr.held = false ∧ s.core.chn.run = some found ∧ enumErr found s.core.expected ≠ 0) ∧
  (∃ s : State, s.pwr.held = false ∧ s.core.chn.retry = true ∧ s.core.chn.run = none) ∧
  ∃ (s : State) (hop : Nat), s.pwr.held = false ∧ hop < 40 ∧ hop < s.core.chn.total ∧ s.core.on F.CHN_STAT.ENUMDONE = true ∧
    s.core.on F.CHN_STAT.RINGREV = false ∧ (s.core.node hop).hello = true ∧ s.core.background = true :=
  ⟨⟨stFld [(F.CHN_CTRL.ENUM, 1)] (fun c => { c with tick := { c.tick with running := true } }), ⟨true, [⟨1, 1, 2, 800, 0, 0, 0, false, false, 0⟩], [], false, false⟩, by decide⟩,
  ⟨stCore (fun c => { c with chn := { c.chn with run := some ⟨true, [⟨1, 1, 2, 800, 0, 0, 0, false, false, 0⟩], [], false, false⟩ } }),
    ⟨true, [⟨1, 1, 2, 800, 0, 0, 0, false, false, 0⟩], [], false, false⟩, by decide⟩,
  ⟨stCore (fun c => { c with chn := { c.chn with run := some ⟨false, [], [], false, false⟩ } }), ⟨false, [], [], false, false⟩, by decide⟩,
  ⟨stCore (fun c => { c with chn := { c.chn with retry := true } }), by decide⟩,
  ⟨stFld [(F.CHN_STAT.ENUMDONE, 1)] (fun c => { c with chn := { c.chn with total := 40, rt := [(39, { hello := true })] } }), 39, by decide⟩⟩

theorem witness_ChainReadout : (∃ (s : State) (trips : List EchoBack), s.pwr.held = false ∧ s.core.chn.dlyRun = true ∧ s.core.behindBurst = true ∧ trips = [⟨104000, 0, 7⟩] ∧ s.core.rd (F.CHN_NINFO.REACH 0) = 0 ∧ 0 < s.core.chn.total ∧
    s.core.rd (F.CHN_NDLY.DA 0) = 1 ∧ 0 < s.core.rd F.CHN_CFG.DLY_PERIOD ∧ s.core.rd F.CHN_CFG.DLY_PERIOD ≤ s.core.chn.dlyCnt) ∧
  (∃ s : State, s.pwr.held = false ∧ s.core.chn.synced = true ∧ s.core.meas.latches.length < s.core.meas.n ∧ s.core.tick.pos = 40 + s.core.meas.latches.length * s.core.meas.s ∧
    s.core.primaryRuns = true) ∧
  (∃ (s : State) (typ j set port : Nat), s.pwr.held = false ∧ typ = 1 ∧ j < 40 ∧ j < s.core.chn.total ∧ s.core.reading = true ∧ (s.core.node j).joins = false ∧ set < s.core.setsM ∧
    s.core.sweepsOver = true ∧ (s.core.node j).got = false ∧ (s.core.node j).asked = 0 ∧ port < 2 ∧ port = 1 - s.core.homePort j) ∧
  (∃ s : State, s.pwr.held = false ∧ s.core.chn.synced = true ∧ s.core.chn.rodone = false ∧ ∀ i < s.core.chn.total, (s.core.node i).got = true) ∧
  (∃ s : State, s.pwr.held = false ∧ s.core.chn.deadline = false ∧ s.core.pastDeadline = true ∧ s.core.chn.synced = true ∧ (s.core.node 0).got = false ∧ 0 < s.core.chn.total) ∧
  ∃ s : State, s.pwr.held = false ∧ s.core.chn.dlyRun = false ∧ s.core.chn.deadline = true ∧ s.core.chn.dlyCnt < s.core.rd F.CHN_CFG.DLY_PERIOD :=
  ⟨⟨stFld [(F.CHN_NDLY.DA 0, 1)] (fun c => { c with chn := { c.chn with dlyRun := true, dlyCnt := 6000, total := 1 } }), [⟨104000, 0, 7⟩], by decide⟩,
  ⟨stFld [(F.SDM_CFG.EN 0, 1), (F.SDM_CFG.ROLE 0, 2)] (fun c => { c with chn := { c.chn with synced := true }, tick := { c.tick with pos := 40 } }), by decide⟩,
  ⟨stCore (fun c => { c with chn := { c.chn with synced := true, total := 40, split := 20 }, tick := { c.tick with pos := 100 } }), 1, 39, 0, 0, by decide⟩,
  ⟨stCore (fun c => { c with chn := { c.chn with synced := true, total := 1, rt := [(0, { got := true })] } }), by decide⟩,
  ⟨stCore (fun c => { c with chn := { c.chn with synced := true, total := 40 }, tick := { c.tick with pos := 490 } }), by decide⟩,
  ⟨stCore (fun c => { c with chn := { c.chn with deadline := true } }), by decide⟩⟩

theorem witness_ChainFaults : (∃ (s : State) (j p : Nat), s.pwr.held = false ∧ j < 40 ∧ p < 2 ∧ s.core.rd (F.CHN_NINFO.REACH j) ≠ 0 ∧ 3 ≤ (s.core.node j).quiet ∧ s.line.tone p = true ∧
    s.line.tone (1 - p) = true ∧ s.line.seen = true ∧ s.pwr.vin ≠ .off) ∧
  ∃ (s : State) (j p : Nat), s.pwr.held = false ∧ j < 40 ∧ p < 2 ∧ (s.core.node j).quiet < 3 ∧ s.line.tone p = false :=
  ⟨⟨{ stFld [(F.CHN_NINFO.REACH 39, 1)] (fun c => { c with chn := { c.chn with rt := [(39, { quiet := 3 })] } }) with line := (State.reset.line.setTone 0 true).setTone 1 true }, 39, 1, by decide⟩,
  ⟨{ State.reset with line := State.reset.line.setTone 0 false }, 0, 0, by decide⟩⟩

theorem witness_FrameRecordCommands : (∃ (s : State) (j set : Nat), s.pwr.held = false ∧ j < 40 ∧ set < 8 ∧ s.core.tick.running = true ∧ s.core.standby = false ∧ s.core.chn.published = false ∧ s.core.pastDeadline = true ∧
    s.core.meas.ow = true ∧ (s.core.node j).got = true ∧ (s.core.node j).owRead = false ∧ s.core.rd F.BAL_COOL_CAN.EN ≠ 0 ∧
    s.core.rd F.BAL_COOL_CFG2.TIMEOUT ≠ 0) ∧
  (∃ s : State, s.pwr.held = false ∧ s.core.diagMay = true ∧ s.core.chn.total = 40) ∧
  (∃ s : State, s.pwr.held = false ∧ s.core.bal.schedMade = true ∧ s.core.pastDeadline = true ∧ s.core.owPending = false ∧ s.core.chn.total = 40) ∧
  ∃ s : State, s.pwr.held = false ∧ s.core.tick.running = false ∧ s.core.diagMay = false ∧ s.core.bal.schedMade = false ∧ s.core.meas.ow = false ∧ s.core.rd F.BAL_COOL_CAN.EN = 0 :=
  ⟨⟨stFld [(F.BAL_COOL_CAN.EN, 1)] (fun c => { c with
    tick := { c.tick with running := true, pos := 490 }, bal := { c.bal with schedMade := true }, meas := { c.meas with ow := true },
    chn := { c.chn with total := 40, rt := [(39, { got := true })] } }), 39, 7, by decide⟩,
  ⟨stCore (fun c => { c with chn := { c.chn with total := 40 } }), by decide⟩,
  ⟨stCore (fun c => { c with chn := { c.chn with total := 40 }, tick := { c.tick with pos := 490 }, bal := { c.bal with schedMade := true } }), by decide⟩,
  ⟨stCore (fun c => { c with chn := { c.chn with synced := true }, tick := { c.tick with pos := 100 } }), by decide⟩⟩

theorem witness_BurstLife : (∃ s : State, s.pwr.held = false ∧ s.core.on F.IMP_CTRL.EN = true ∧ 0 < profImp s.core.prof ∧ profImp s.core.prof ≤ s.core.imp.since ∧ s.core.imp.used = false ∧ s.core.imp.due = false ∧
    s.core.standby = false ∧ s.core.impState = 0) ∧
  (∃ s : State, s.pwr.held = false ∧ profImp s.core.prof = 0 ∧ s.core.impState = 2) ∧
  (∃ s : State, s.pwr.held = false ∧ s.core.impState = 3 ∧ s.core.imp.cur.length = 2047 ∧ s.core.tbTick = s.core.imp.t0 + 2047 * s.core.imp.own.space) ∧
  (∃ s : State, s.pwr.held = false ∧ s.core.impState = 3 ∧ s.core.imp.cur = [] ∧ s.core.tbTick = s.core.imp.t0 + 0 * s.core.imp.own.space ∧ s.core.primaryRuns = true) ∧
  ∃ s : State, s.pwr.held = false ∧ s.core.impState = 4 ∧ 20 * s.core.period ≤ s.core.imp.since ∧ s.core.behindBleed = true :=
  ⟨⟨stCore (fun c => { c with imp := { c.imp with since := 150000000000 } }), by decide⟩,
  ⟨stFld [(F.TICK_PROFILE.ACT, 2), (F.IMP_STAT.STATE, 2)], by decide⟩,
  ⟨stFld [(F.IMP_STAT.STATE, 3)] (fun c => { c with imp := { c.imp with cur := List.replicate 2047 0, t0 := 0, own := ⟨0, 1, []⟩ } }), rfl, rfl, List.length_replicate, by decide⟩,
  ⟨stFld [(F.IMP_STAT.STATE, 3), (F.SDM_CFG.EN 0, 1), (F.SDM_CFG.ROLE 0, 2)], by decide⟩,
  ⟨stFld [(F.IMP_STAT.STATE, 4)] (fun c => { c with imp := { c.imp with since := 10 ^ 9 } }), by decide⟩⟩

theorem witness_BurstResults : (∃ (s : State) (port node : Nat) (xs : List Nat), s.pwr.held = false ∧ port < 2 ∧ s.core.impState = 4 ∧ 20 * s.core.period ≤ s.core.imp.since ∧ s.core.behindBleed = true ∧ node < 40 ∧ node < s.core.chn.total ∧ 3 * xs.length ≤ s.core.maxPayload node + 2 ∧
    s.core.rd (F.CHN_NINFO.REACH node) ≠ 0 ∧ Tab.get 0 s.core.imp.asks (slotKey node 0) = 2) ∧ (∃ s : State, s.pwr.held = false ∧ s.core.impState = 5 ∧ (∀ b ∈ s.core.hif.bind, b.2 < 64) ∧
    2 * profImp s.core.prof ≤ s.core.imp.tvAge ∧ s.core.rd F.IMP_STAT.GOPEND ≠ 0) ∧
  ∃ (s : State) (pos : Nat), s.pwr.held = false ∧ s.core.impState = 0 ∧ s.core.imp.tvAge < 2 * profImp s.core.prof ∧ pos < s.core.slots.length :=
  ⟨⟨stFld [(F.IMP_STAT.STATE, 4), (F.CHN_NINFO.REACH 39, 1)] (fun c => { c with chn := { c.chn with total := 40 }, imp := { c.imp with since := 10 ^ 9, asks := [(624, 2)] } }), 1, 39, List.replicate 43 0, by decide⟩, ⟨stFld [(F.IMP_STAT.STATE, 5), (F.IMP_STAT.GOPEND, 1)] (fun c => { c with imp := { c.imp with tvAge := 300000000000 } }), by decide⟩,
  ⟨stCore (fun c => { c with chn := { c.chn with total := 1 } }), 15, by decide⟩⟩

theorem witness_EstimationRequests : (∃ s : State, s.pwr.held = false ∧ s.core.rd F.EST_REST_CTRL.STATE = 2 ∧ s.core.restLen ≤ s.core.est.slotClk ∧ s.core.est.slotCur = false ∧ s.core.est.ocv ≠ none ∧
    ∃ k ∈ s.core.slots, (s.core.acc k).slotOk = true ∧ 0 < (s.core.acc k).midN ∧ 0 < (s.core.acc k).endN ∧ (s.core.ctx k).firstpend = false) ∧
  (∃ s : State, s.pwr.held = false ∧ s.core.rd F.EST_GLN_CTRL.STATE = 3 ∧ s.core.rd F.EST_REST_CTRL.STATE = 2 ∧ s.core.restLen ≤ s.core.est.slotClk ∧
    s.core.trest ≤ s.core.est.glnClk ∧ s.core.on F.EST_REST_CTRL.REQ = false ∧ s.core.on F.EST_GLN_CTRL.REQ = false) ∧
  (∃ s : State, s.pwr.held = false ∧ s.core.on F.EST_STAT.FIRSTPEND = false ∧ s.core.rd F.EST_GLN_CTRL.STATE = 0 ∧ s.core.rd F.EST_REST_CTRL.STATE = 0 ∧ s.core.rd F.SHF_STAT.SLOT ≠ 3 ∧
    s.core.est.glnClk < s.core.trest) ∧
  (∃ s : State, s.pwr.held = false ∧ 259200 ≤ (s.aon.ops - s.core.est.restBase) / 1000 ∧ s.core.rd F.EST_STAT.NOREST = 0) ∧
  (∃ s : State, s.pwr.held = false ∧ s.core.on F.EST_STAT.FIRSTPEND = true ∧ s.core.rd F.EST_GLN_CTRL.STATE = 0 ∧ s.core.rd F.EST_REST_CTRL.STATE ≠ 0) ∧
  ∃ s : State, s.pwr.held = false ∧ s.core.rd F.EST_GLN_CTRL.STATE = 5 ∧ s.core.trest ≤ s.core.est.glnClk :=
  ⟨⟨stFld [(F.EST_REST_CTRL.STATE, 2)] (fun c => { c with chn := { c.chn with total := 1 }, est := { c.est with slotClk := 10 ^ 12, ocv := some (List.replicate 63 33000), acc := [(5, { slotOk := true, midN := 1, endN := 1 })], pos := [(5, { firstpend := false })] } }), by decide⟩,
  ⟨stFld [(F.EST_GLN_CTRL.STATE, 3), (F.EST_REST_CTRL.STATE, 2)] (fun c => { c with est := { c.est with slotClk := 10 ^ 12, glnClk := 10 ^ 13 } }), by decide⟩,
  ⟨stFld [(F.EST_STAT.FIRSTPEND, 0)], by decide⟩, ⟨{ State.reset with aon := { State.reset.aon with ops := 259200000 } }, by decide⟩,
  ⟨stFld [(F.EST_REST_CTRL.STATE, 1)], by decide⟩,
  ⟨stFld [(F.EST_GLN_CTRL.STATE, 5)] (fun c => { c with est := { c.est with glnClk := 10 ^ 13 } }), by decide⟩⟩

theorem witness_EstimationSaves : (∃ s : State, s.pwr.held = false ∧ s.core.est.estab = true ∧ s.core.est.saving = none ∧ 0 < s.core.rd F.EST_SAVE_PERIOD.MIN ∧
    s.core.rd F.EST_SAVE_PERIOD.MIN * 60 * 500000000 ≤ s.core.est.sinceSave) ∧ ∃ s : State, s.pwr.held = false ∧ s.core.est.saving = some 6 ∧ newerIs0 s.nv = true :=
  ⟨⟨stCore (fun c => { c with est := { c.est with estab := true, sinceSave := 450000000000 } }), by decide⟩,
  ⟨{ stCore (fun c => { c with est := { c.est with saving := some 6 } }) with nv := { State.reset.nv with est0 := { State.reset.nv.est0 with valid := true, crcOk := true }, est1 := { State.reset.nv.est1 with valid := false } } }, by decide⟩⟩

theorem witness_SafetyFaults : (∃ s : State, s.up ∧ s.saf.runs 1 = true ∧ bitAt s.saf.gate 1 = true ∧ s.saf.conf = true ∧ ({ s.saf with faulty := Nat.lor s.saf.faulty 2 } : SafSt).tdeg ≠ 0 ∧ s.saf.demands s.line = 0 ∧ s.saf.deg = false ∧ s.saf.safe = false) ∧
  (∃ s : State, s.up ∧ s.saf.deg = true ∧ 5000 ≤ s.saf.degAge ∧ 1000 * s.saf.tdeg ≤ s.saf.degAge ∧ s.saf.safe = false ∧ s.saf.safeDue = true ∧ s.saf.runs 0 = false) ∧
  (∃ s : State, s.up ∧ s.saf.conf = true ∧ s.saf.cfOn 5 = true ∧ s.saf.role 5 ≠ 0 ∧ (s.saf.o 5).differ < s.saf.tcf 5 ∧ s.saf.tcf 5 ≤ (s.saf.o 5).wrong ∧
    (s.saf.o 5).on = true ∧ (s.saf.o 5).fault = 0 ∧ s.saf.runs 0 = true) ∧
  (∃ s : State, s.up ∧ s.saf.conf = true ∧ s.saf.cfOn 5 = true ∧ s.saf.role 5 ≠ 0 ∧ s.saf.tcf 5 ≤ (s.saf.o 5).differ) ∧
  ∃ s : State, s.up ∧ s.saf.missing = 2 ∧ s.saf.deg = false ∧ s.saf.mis = [] ∧ s.saf.conf = false ∧ s.saf.safeDue = false :=
  ⟨⟨{ stSaf { conf := true, act := [(1, 10)], gate := 2 } with line := (State.reset.line.setTone 0 true).setTone 1 true }, by decide⟩, ⟨stSaf { deg := true, degAge := 5000, safeDue := true, faulty := 1 }, by decide⟩,
  ⟨stSaf { conf := true, act := [(21, 1 + 16 * 10 + 8192)], out := [(5, { p := true, m := true, wrong := 10 })] }, by decide⟩,
  ⟨stSaf { conf := true, act := [(21, 1 + 16 * 10 + 8192)], out := [(5, { differ := 10 })] }, by decide⟩,
  ⟨stSaf { missing := 2 }, by decide⟩⟩

theorem witness_SafetyInputs : (∃ s : State, s.up ∧ s.saf.conf = true ∧ s.saf.mode 7 = 1 ∧ s.saf.td 7 ≤ (s.saf.i 7).dt ∧ s.line.toneA = false ∧ s.line.toneB = false ∧ 5000000 ≤ s.core.tick.marks) ∧
  ∃ s : State, s.up ∧ s.saf.conf = false ∧ s.line.seen = true ∧ s.line.toneA = true ∧ s.core.tick.marks < 5000000 :=
  ⟨⟨{ stSaf { conf := true, act := [(15, 1 + 4 + 256 * 10)], inp := [(7, { dt := 10 })] } with
      line := (State.reset.line.setTone 0 false).setTone 1 false, core := { State.reset.core with tick := { State.reset.core.tick with marks := 5000000 } } }, by decide⟩,
  ⟨{ State.reset with line := (State.reset.line.setTone 0 true).setTone 1 true }, by decide⟩⟩

theorem witness_SafmCommands : (∃ s : State, s.up ∧ safSetOk s.saf.stg = true ∧ s.saf.stgB = s.saf.stg ∧ s.saf.idx < 208 ∧ s.saf.session = true ∧ s.saf.rstMode = true ∧ s.saf.resetOk s.line = true) ∧
  ∃ s : State, s.up ∧ safSetOk s.saf.stg = false ∧ 208 ≤ s.saf.idx ∧ s.saf.session = false ∧ s.saf.rstMode = false :=
  ⟨⟨stSaf { act := [(2, 1)], session := true, stg := [(0, 13631489), (3, 65536), (4, 65536)], stgB := [(0, 13631489), (3, 65536), (4, 65536)], idx := 207 }, by decide⟩,
  ⟨stSaf { idx := 208 }, by decide⟩⟩

theorem witness_SafmAccess : (∃ s : State, s.up ∧ s.saf.pw = none ∧ s.saf.sessAge < 600000 ∧ s.core.standby = false) ∧
  (∃ (s : State) (w3 p : Nat), s.up ∧ s.saf.pw = some p ∧ s.saf.lock = false ∧ Config.hash (s.saf.password w3) = p ∧ 600000 ≤ s.saf.sessAge ∧ s.core.standby = true) ∧
  (∃ (s : State) (w3 p : Nat), s.up ∧ s.saf.pw = some p ∧ s.saf.lock = false ∧ Config.hash (s.saf.password w3) ≠ p) ∧
  ∃ s : State, s.up ∧ s.saf.pw = some 0 ∧ s.saf.lock = true ∧ 600000 ≤ s.saf.lockAge :=
  ⟨⟨stSaf {}, by decide⟩,
  ⟨{ stSaf { pw := some (Config.hash (State.reset.saf.password 0)), sessAge := 600000 } with core := (stFld [(F.RED_STAT.ROLE, 2)]).core }, 0, _, by decide, rfl, rfl, rfl, by decide, by decide⟩,
  ⟨stSaf { pw := some (Config.hash (State.reset.saf.password 0) + 1) }, 0, _, by decide, rfl, rfl, Nat.ne_of_lt (Nat.lt_succ_self _)⟩,
  ⟨stSaf { pw := some 0, lock := true, lockAge := 600000 }, by decide⟩⟩

theorem witness_SheafPeers : (∃ (s : State) (h : HbFrame), s.pwr.held = false ∧ s.core.shfOn = true ∧ s.core.hbBad h = false ∧ h.pid = s.core.pid ∧ h.src = 0) ∧
  (∃ (s : State) (h : HbFrame), s.pwr.held = false ∧ s.core.shfOn = true ∧ s.core.hbBad h = false ∧ h.pid ≠ s.core.pid ∧ h.pid ≠ 65535 ∧ s.core.shf.agg.length < 1024) ∧
  (∃ (s : State) (h : HbFrame), s.pwr.held = false ∧ s.core.shfOn = true ∧ s.core.hbBad h = false ∧ h.pid = s.core.pid ∧ h.src = 1) ∧
  (∃ (s : State) (h : HbFrame), s.pwr.held = false ∧ s.core.shfOn = true ∧ s.core.hbBad h = false ∧ h.pid = s.core.pid ∧ h.src = 2) ∧
  (∃ (s : State) (h : HbFrame), s.pwr.held = false ∧ s.core.shfOn = true ∧ s.core.hbBad h = false ∧ h.pid ≠ s.core.pid ∧ h.pid = 65535) ∧
  (∃ (s : State) (h : HbFrame), s.pwr.held = false ∧ s.core.shfOn = true ∧ s.core.hbBad h = true) ∧
  (∃ s : State, s.pwr.held = false ∧ s.core.shfOn = true ∧ s.core.shf.ctx.contains 7 = true ∧ (s.core.peer 7).live = true ∧ 50 ≤ (s.core.peer 7).age ∧ s.core.owner = true) ∧
  (∃ s : State, s.pwr.held = false ∧ s.core.shfOn = true ∧ s.core.owner = true ∧ (∃ r, s.core.shf.reps.find? (fun r => r.pid == 7 && decide (20 + 2 * r.rank ≤ r.waited)) = some r ∧ r.seen = false)) ∧
  (∃ s : State, s.pwr.held = false ∧ (∃ x ∈ s.core.shf.agg, x.1 = 7 ∧ 500 ≤ x.2.age) ∧ 1000 ≤ s.core.shf.dupAge ∧ 0 < s.core.shf.ctx.length) ∧
  (∃ s : State, s.pwr.held = false ∧ 160 < s.core.shf.agg.length) ∧
  ∃ s : State, s.pwr.held = false ∧ s.core.shfOn = false ∧ s.core.shf.dupAge < 1000 :=
  ⟨⟨stFld [(F.SHF_CTRL.EN, 1), (F.SHF_ID.PID, 3)], { pid := 3 }, by decide⟩, ⟨stFld [(F.SHF_CTRL.EN, 1), (F.SHF_ID.PID, 3)], { pid := 7 }, by decide⟩,
  ⟨stFld [(F.SHF_CTRL.EN, 1), (F.SHF_ID.PID, 3)], { pid := 3, src := 1 }, by decide⟩, ⟨stFld [(F.SHF_CTRL.EN, 1), (F.SHF_ID.PID, 3)], { pid := 3, src := 2 }, by decide⟩, ⟨stFld [(F.SHF_CTRL.EN, 1), (F.SHF_ID.PID, 3)], { pid := 65535 }, by decide⟩,
  ⟨stFld [(F.SHF_CTRL.EN, 1), (F.SHF_ID.PID, 3)], { pid := 7, len := 95 }, by decide⟩,
  ⟨stFld [(F.SHF_CTRL.EN, 1), (F.SHF_ID.PID, 3)] (fun c => { c with shf := { c.shf with ctx := [7], agg := [(7, { live := true, age := 50 })] } }), by decide⟩,
  ⟨stFld [(F.SHF_CTRL.EN, 1), (F.SHF_ID.PID, 3)] (fun c => { c with shf := { c.shf with reps := [⟨7, 3, 26, false, 0, 0⟩] } }), by decide, by decide, by decide, ⟨7, 3, 26, false, 0, 0⟩, by decide⟩,
  ⟨stFld [] (fun c => { c with shf := { c.shf with ctx := [7], dupAge := 1000, agg := [(7, { age := 500 })] } }), by decide, ⟨_, List.mem_singleton.mpr rfl, by decide⟩, by decide, by decide⟩,
  ⟨stFld [] (fun c => { c with shf := { c.shf with agg := List.replicate 161 (7, {}) } }), by decide, by simp [stFld, stCore]⟩, ⟨stFld [], by decide⟩⟩

theorem witness_SheafSlots : (∃ s : State, s.pwr.held = false ∧ s.core.shfOn = true ∧ s.core.owner = true ∧ s.core.slot = 0 ∧ s.core.rd F.SHF_DCFG.SRC = 2 ∧ s.core.shf.lastSeq = none) ∧
  (∃ s : State, s.pwr.held = false ∧ s.core.shfOn = true ∧ s.core.owner = true ∧ s.core.mayTake = true ∧ s.core.skind = 0) ∧
  (∃ s : State, s.pwr.held = false ∧ s.core.shfOn = true ∧ s.core.owner = true ∧ s.core.slot = 1 ∧ s.core.mayTake = false ∧ s.core.on F.EST_REST_CTRL.REQ = false ∧ s.core.on F.EST_GLN_CTRL.REQ = false) ∧
  (∃ s : State, s.pwr.held = false ∧ s.core.shfOn = true ∧ s.core.owner = true ∧ s.core.slot = 3 ∧ 1 < s.core.shf.relLeft) ∧
  (∃ s : State, s.pwr.held = false ∧ s.core.shfOn = true ∧ s.core.owner = true ∧ s.core.slot = 3 ∧ s.core.shf.relLeft ≤ 1 ∧ s.core.rd F.EST_REST_CTRL.STATE ≠ 1 ∧
    s.core.rd F.EST_GLN_CTRL.STATE ≠ 1 ∧ s.core.on F.EST_REST_CTRL.REQ = false ∧ s.core.on F.EST_GLN_CTRL.REQ = false) ∧
  (∃ s : State, s.pwr.held = false ∧ s.core.slot = 2 ∧ s.core.collides = true) ∧
  (∃ s : State, s.pwr.held = false ∧ s.core.slot = 2 ∧ s.core.collides = false ∧ 1000 ≤ s.core.shf.short) ∧
  (∃ (s : State) (g : DTarget), s.pwr.held = false ∧ s.core.shf.tgt = some g ∧ g.left = 0) ∧
  ∃ s : State, s.pwr.held = false ∧ s.core.shfOn = false ∧ s.core.on F.SHF_CTRL.EN = false :=
  ⟨⟨stFld [(F.SHF_CTRL.EN, 1), (F.SHF_ID.PID, 3), (F.SHF_DCFG.SRC, 2), (F.RED_STAT.ROLE, 0)], by decide⟩,
  ⟨stFld [(F.SHF_CTRL.EN, 1), (F.SHF_ID.PID, 3), (F.SHF_STAT.SLOT, 1), (F.SHF_SLOTCFG.MINLIVE, 0)] (fun c => { c with shf := { c.shf with enMs := 500, wait := 3 } }), by decide⟩,
  ⟨stFld [(F.SHF_CTRL.EN, 1), (F.SHF_ID.PID, 3), (F.SHF_STAT.SLOT, 1)], by decide⟩,
  ⟨stFld [(F.SHF_CTRL.EN, 1), (F.SHF_ID.PID, 3), (F.SHF_STAT.SLOT, 3)] (fun c => { c with shf := { c.shf with relLeft := 5 } }), by decide⟩,
  ⟨stFld [(F.SHF_CTRL.EN, 1), (F.SHF_ID.PID, 3), (F.SHF_STAT.SLOT, 3)] (fun c => { c with shf := { c.shf with relLeft := 1 } }), by decide⟩,
  ⟨stFld [(F.SHF_ID.PID, 3), (F.SHF_STAT.SLOT, 2)] (fun c => { c with shf := { c.shf with view := [⟨1, 0, 600000, 9⟩] } }), by decide⟩,
  ⟨stFld [(F.SHF_ID.PID, 3), (F.SHF_STAT.SLOT, 2)] (fun c => { c with shf := { c.shf with short := 1000 } }), by decide⟩,
  ⟨stFld [] (fun c => { c with shf := { c.shf with tgt := some ⟨5, 1, 0⟩ } }), ⟨5, 1, 0⟩, by decide⟩, ⟨stFld [], by decide⟩⟩

theorem witness_PairCommands : (∃ s : State, s.pwr.held = false ∧ (∀ p ∈ s.nv.jring, p.1 < 64) ∧ s.core.pair = true ∧ s.core.standby = true ∧ s.core.bothSilent = true ∧
    s.core.on F.RED_STAT.GNT = true ∧ 1 ≤ s.core.red.noGnt ∧ s.core.red.gntSaid = false) ∧
  (∃ s : State, s.pwr.held = false ∧ (∀ p ∈ s.nv.jring, p.1 < 64) ∧ s.core.active = true ∧ s.core.bothSilent = true ∧ s.core.red.bothSaid = false ∧ s.core.on F.RED_STAT.SBYVALID = true) ∧
  (∃ s : State, s.pwr.held = false ∧ (∀ p ∈ s.nv.jring, p.1 < 64) ∧ s.core.pair = true ∧ 3 ≤ s.core.red.xlSil ∧ s.core.red.hbSil = 0 ∧ s.core.red.xlSaid = false ∧ s.core.on F.RED_STAT.XLF = false ∧ s.core.cvDiffers = false ∧ s.core.red.aligned = true ∧ s.core.tick.running = true ∧
    s.core.standby = true ∧ s.core.cnv.deg = false ∧ s.core.on F.RED_STAT.CVMIS = false ∧ s.core.on F.RED_STAT.GNTFAIL = false ∧
    s.core.on F.RED_STAT.PEERDEG = false ∧ s.core.red.lagTk ≤ 8 ∧ 1 ≤ min 2 (s.core.rd F.RED_XLVER.OWNMAX) ∧ s.core.rd F.RED_XLVER.OWNMIN ≤ min 2 (s.core.rd F.RED_XLVER.OWNMAX)) ∧
  ∃ s : State, s.pwr.held = false ∧ (∀ p ∈ s.nv.jring, p.1 < 64) ∧ s.core.pair = false ∧ s.core.standby = false :=
  ⟨⟨stFld [(F.RED_CFG.PAIR, 1), (F.RED_STAT.ROLE, 2), (F.RED_STAT.GNT, 1)] (fun c => { c with red := { c.red with xlSil := 3, hbSil := 3, noGnt := 1 } }), by decide⟩,
  ⟨stFld [(F.RED_CFG.PAIR, 1), (F.RED_STAT.ROLE, 1), (F.RED_STAT.SBYVALID, 1)] (fun c => { c with red := { c.red with xlSil := 3, hbSil := 3 } }), by decide⟩,
  ⟨stFld [(F.RED_CFG.PAIR, 1), (F.RED_STAT.ROLE, 3)] (fun c => { c with tick := { c.tick with running := true }, red := { c.red with xlSil := 3, aligned := true } }), by decide⟩, ⟨stFld [], by decide⟩⟩

theorem witness_RingDoorbells : (∃ (s : State) (fn : Nat), s.pwr.held = false ∧ s.core.rowner 5 ≠ fn ∧ s.core.rst 5 = 1 ∧ s.core.rtyp 5 = 0 ∧ s.core.rsize 5 < dist16 65535 (s.core.rmod 5)) ∧
  (∃ s : State, s.pwr.held = false ∧ s.core.rowner 63 = 1 ∧ s.core.rst 63 = 1 ∧ s.core.rtyp 63 = 1 ∧ s.core.rsize 63 < dist16 (s.core.rmod 63) 2) ∧
  (∃ (s : State) (d : Nat × List Nat), s.pwr.held = false ∧ s.core.rowner 63 = 0 ∧ s.core.rst 63 = 2 ∧ s.core.hif.desc.find? (fun x => x.1 == 63) = some d ∧ s.nv.jrec.length < 8192) ∧
  (∃ (s : State) (j : JRec), s.pwr.held = false ∧ s.nv.jrec.find? (fun j => j.ring == 5 && !j.acc && !j.gone) = some j ∧ s.core.rst 5 = 1 ∧ s.core.rtyp 5 = 0 ∧
    s.core.journaled j = true ∧ s.core.accepts = true ∧ s.core.rtyp (s.nv.ring 5).pair = 1 ∧ s.core.rst (s.nv.ring 5).pair ≠ 0 ∧ reserved (s.nv.ring 5).pair (s.nv, s.core) < s.core.rsize (s.nv.ring 5).pair) ∧
  (∃ (s : State) (j : JRec), s.pwr.held = false ∧ s.nv.jrec.find? (fun j => j.ring == 5 && !j.acc && !j.gone) = some j ∧ s.core.rst 5 = 1 ∧ s.core.rtyp 5 = 0 ∧
    s.core.journaled j = true ∧ s.core.accepts = true ∧ s.core.rtyp (s.nv.ring 5).pair = 1 ∧ s.core.rst (s.nv.ring 5).pair ≠ 0 ∧ s.core.rsize (s.nv.ring 5).pair ≤ reserved (s.nv.ring 5).pair (s.nv, s.core)) ∧
  ∃ (s : State) (x : Xfer), s.pwr.held = false ∧ s.core.xfPick = some x ∧ x.write = false ∧ x.kind = 1 ∧ x.ring = 63 ∧ s.core.rst 63 = 1 :=
  ⟨⟨stFld [(F.HIF_RSTAT.STATE 5, 1), (F.HIF_RSTAT.LOG2N 5, 4)], 1, by decide⟩,
  ⟨stFld [(F.HIF_RSTAT.STATE 63, 1), (F.HIF_RSTAT.OWNER 63, 1), (F.HIF_RSTAT.TYPE 63, 1)], by decide⟩,
  ⟨stFld [(F.HIF_RSTAT.STATE 63, 2)] (fun c => { c with hif := { c.hif with desc := [(63, [1])] } }), (63, [1]), by decide⟩,
  ⟨{ stFld [(F.HIF_RSTAT.STATE 5, 1), (F.HIF_RSTAT.TYPE 6, 1), (F.HIF_RSTAT.STATE 6, 1), (F.HIF_RSTAT.LOG2N 6, 4)] with
      nv := { State.reset.nv with jring := [(5, { pair := 6, live := true })], jrec := [{ ring := 5 }] } }, { ring := 5 }, by decide⟩,
  ⟨{ stFld [(F.HIF_RSTAT.STATE 5, 1), (F.HIF_RSTAT.TYPE 6, 1), (F.HIF_RSTAT.STATE 6, 1), (F.HIF_RIDX.MOD 6, 1)] with
      nv := { State.reset.nv with jring := [(5, { pair := 6, live := true })], jrec := [{ ring := 5 }] } }, { ring := 5 }, by decide⟩,
  ⟨stFld [(F.HIF_RSTAT.STATE 63, 1)] (fun c => { c with hif := { c.hif with xf := [{ kind := 1, ring := 63 }] } }), { kind := 1, ring := 63 }, by decide⟩⟩

theorem witness_CommandRefusals : (∃ (s : State) (j : JRec), s.pwr.held = false ∧ (∀ k ∈ s.nv.jrec, k.gone = false) ∧ s.ready1 16 5 = some j ∧ j.ttl ≠ 0 ∧ j.acc = true ∧ j.result = 0 ∧ j.ttl < s.aon.ops - j.ops) ∧
  (∃ (s : State) (j : JRec), s.pwr.held = false ∧ (∀ k ∈ s.nv.jrec, k.gone = false) ∧ s.ready1 1 5 = some j ∧ j.ttl = 0 ∧ s.core.permits 5 j.own 1 = false) ∧
  (∃ (s : State) (j : JRec), s.pwr.held = false ∧ (∀ k ∈ s.nv.jrec, k.gone = false) ∧ s.ready1 32 5 = some j ∧ j.ttl = 0 ∧ s.core.permits 5 j.own 32 = true ∧ parOk [1] j.par = false) ∧
  ∃ s : State, s.pwr.held = false ∧ (∀ k ∈ s.nv.jrec, k.gone = false) ∧ s.ready1 1 0 = none :=
  ⟨⟨{ stCmd { ring := 5, op := 16, ttl := 1, acc := true } with aon := { State.reset.aon with ops := 2 } }, { ring := 5, op := 16, ttl := 1, acc := true }, by decide⟩,
  ⟨stCmd { ring := 5, op := 1 }, { ring := 5, op := 1 }, by decide⟩, ⟨stCmd { ring := 5, op := 32, par := [2] }, { ring := 5, op := 32, par := [2] }, by decide⟩, ⟨State.reset, by decide⟩⟩

theorem witness_RingCommands : ∀ p ∈ ([(1, [63, 3, 31, 3, 63, 15, 3, 0, 255, 255, 255, 255, 255, 255, 0, 0, 255, 255, 255, 255, 255, 255]), (2, [63]), (3, [63]), (4, [63, 0, 0, 0, 0, 0, 0, 0, 255, 255, 255, 255, 255, 255, 0, 0, 255, 255, 255, 255, 255, 255]), (5, [63]), (6, [63, 15, 1, 0, 255, 3, 255]), (7, [255, 63, 1]), (8, [3, 3, 0, 0, 0, 0, 0, 0, 0, 240, 255, 255, 255, 255, 0, 0, 255, 255, 255, 255])] : List (Nat × List Nat)),
    ∃ (s : State) (j : JRec), s.pwr.held = false ∧ (∀ k ∈ s.nv.jrec, k.gone = false) ∧ j.runs s p.1 0 p.2 ∧ s.core.rowner (j.arg 0 1) < 4 :=
  fun p hp => ⟨stCmd { op := p.1 }, { op := p.1 }, by
    simp only [List.mem_cons, List.not_mem_nil, or_false] at hp
    rcases hp with rfl | rfl | rfl | rfl | rfl | rfl | rfl | rfl <;> (unfold JRec.runs; decide)⟩

theorem witness_ModuleCommands : (∀ p ∈ ([(16, []), (17, [255, 255, 255, 255]), (39, [1]), (40, []), (41, [])] : List (Nat × List Nat)),
    ∃ (s : State) (j : JRec), s.pwr.held = false ∧ (∀ k ∈ s.nv.jrec, k.gone = false) ∧ j.runs s p.1 5 p.2 ∧ s.core.rd F.EST_GLN_CTRL.STATE = 0 ∧
      s.core.rd F.EST_REST_CTRL.STATE = 0 ∧ j.own = 0 ∧ offsetOk (j.arg 0 4) = true ∧ j.arg 0 1 = 0) ∧
  (∃ (s : State) (j : JRec), s.pwr.held = false ∧ (∀ k ∈ s.nv.jrec, k.gone = false) ∧ j.runs s 42 0 [255, 3, 255, 7, 7, 0, 255, 255] ∧ j.arg 2 2 ≤ 1024 ∧ 4 * j.arg 2 2 ≤ j.blen) ∧
  ∃ (s : State) (j : JRec), s.pwr.held = false ∧ (∀ k ∈ s.nv.jrec, k.gone = false) ∧ j.runs s 39 5 [1] ∧ j.arg 0 1 = 1 ∧ s.core.rd F.EST_GLN_CTRL.STATE ≠ 0 ∧
    s.core.on F.EST_REST_CTRL.REQ = false ∧ s.core.on F.EST_GLN_CTRL.REQ = false :=
  ⟨fun p hp => ⟨stCmd { op := p.1, ring := 5 }, { op := p.1, ring := 5 }, by
    simp only [List.mem_cons, List.not_mem_nil, or_false] at hp
    rcases hp with rfl | rfl | rfl | rfl | rfl <;> (unfold JRec.runs; decide)⟩,
  ⟨stCmd { op := 42 } [] (fun c => { c with hif := { c.hif with rbuf := [(0, [])] } }), { op := 42 }, by unfold JRec.runs; decide⟩,
  ⟨stCmd { op := 39, ring := 5, par := [1] } [(F.EST_GLN_CTRL.STATE, 3)], { op := 39, ring := 5, par := [1] }, by unfold JRec.runs; decide⟩⟩

theorem witness_HeldCommands : (∀ p ∈ ([(32, [1]), (33, []), (34, [255, 255, 255, 255, 3]), (36, [255, 255, 255, 255]), (38, [3]), (35, [255, 255, 255, 255]), (37, [63]), (44, []), (48, [3]), (49, [255, 255, 255, 255, 255, 255, 255, 255, 255, 255]), (50, [255, 0, 255, 255, 255, 255])] : List (Nat × List Nat)),
    ∃ (s : State) (j : JRec), s.pwr.held = false ∧ (∀ k ∈ s.nv.jrec, k.gone = false ∧ k.run = false) ∧ j.runs s p.1 5 p.2 ∧ 4096 ≤ j.blen ∧ s.core.blockBusy F.SAFM_OUTREQ.REQ.off = false ∧
      s.core.rd F.GLB_BOOT.STAGE = 3 ∧ s.core.wait = []) ∧
  (∃ (s : State) (j : JRec), s.pwr.held = false ∧ (∀ k ∈ s.nv.jrec, k.gone = false) ∧ j.runs s 43 5 [1] ∧ j.blen ≤ 512 ∧ j.blen % 4 = 0 ∧ 0 < (s.buffer 5).length / 4) ∧
  (∃ (s : State) (j : JRec), s.pwr.held = false ∧ (∀ k ∈ s.nv.jrec, k.gone = false) ∧ j.runs s 18 5 [255, 255, 255, 255, 255, 255, 255, 255, 255, 255, 255, 255] ∧ offsetOk (j.arg 0 4) = true ∧
    s.core.regRefuses j.own (j.arg 0 4) (j.arg 8 4) = false ∧ s.core.blockBusy (j.arg 0 4) = false ∧ normalOff (j.arg 0 4) = 0x20 ∧ aliasOf (j.arg 0 4) = .normal ∧ s.core.wait = []) ∧
  (∃ (s : State) (j : JRec), s.pwr.held = false ∧ (∀ k ∈ s.nv.jrec, k.gone = false) ∧ j.runs s 19 5 [] ∧ j.blen ≤ 3072 ∧ j.blen % 12 = 0 ∧ (s.buffer 5).length = 12 ∧
    offsetOk (wordAt (s.buffer 5) 0) = true ∧ s.core.regRefuses j.own (wordAt (s.buffer 5) 0) (wordAt (s.buffer 5) 2) = false ∧ s.core.blockBusy (wordAt (s.buffer 5) 0) = false ∧
    normalOff (wordAt (s.buffer 5) 0) ≠ F.GLB_RESET.KEY.off) ∧
  ∃ (s : State) (j : JRec), s.pwr.held = false ∧ (∀ k ∈ s.nv.jrec, k.gone = false) ∧ j.runs s 9 0 [] ∧ 4096 ≤ j.blen :=
  ⟨fun p hp => ⟨stCmd { op := p.1, ring := 5, blen := 4096 }, { op := p.1, ring := 5, blen := 4096 }, by
    simp only [List.mem_cons, List.not_mem_nil, or_false] at hp
    rcases hp with rfl | rfl | rfl | rfl | rfl | rfl | rfl | rfl | rfl | rfl | rfl <;> (unfold JRec.runs; decide)⟩,
  ⟨stCmd { op := 43, ring := 5, blen := 4 } [] (fun c => { c with hif := { c.hif with rbuf := [(5, [1, 0, 0, 0])] } }), { op := 43, ring := 5, blen := 4 }, by unfold JRec.runs; decide⟩,
  ⟨stCmd { op := 18, ring := 5, par := [32] }, { op := 18, ring := 5, par := [32] }, by unfold JRec.runs; decide⟩,
  ⟨stCmd { op := 19, ring := 5, blen := 12 } [] (fun c => { c with hif := { c.hif with rbuf := [(5, [32, 0, 0, 0, 0, 0, 0, 0, 0, 0, 0, 0])] } }), { op := 19, ring := 5, blen := 12 }, by unfold JRec.runs; decide⟩,
  ⟨stCmd { op := 9, blen := 4096 }, { op := 9, blen := 4096 }, by unfold JRec.runs; decide⟩⟩

theorem witness_HostCommands : (∃ s : State, s.pwr.held = false ∧ s.core.rd F.GLB_BOOT.STAGE ≠ 7 ∧ s.core.rst 0 = 0 ∧ s.core.rst 1 = 4 ∧ s.core.rst 63 = 5 ∧ s.nv.drained 63 = true ∧
    s.core.inD3 3 = false ∧ s.core.hif.due.contains 63 = true ∧ s.core.hif.men.contains 63 = true) ∧
  (∃ s : State, s.pwr.held = false ∧ s.core.rd F.GLB_BOOT.STAGE = 7 ∧ s.core.inD3 2 = true ∧ s.core.hif.pme.contains 2 = true ∧ s.core.hif.pmeSent.contains 2 = false) ∧
  (∃ s : State, s.pwr.held = false ∧ s.core.wait = [⟨F.ATU_CFG.MODE 3, 1, .normal, false, .f0⟩] ∧ ∀ r, r < 64 → s.core.rowner r ≠ 3 ∨ s.core.rst r = 0 ∨ s.core.rst r = 4) ∧
  (∃ s : State, s.pwr.held = false ∧ s.core.wait = [⟨F.ATU_CFG.MODE 0, 1, .normal, false, .f0⟩] ∧ ∃ r, r < 64 ∧ s.core.rowner r = 0 ∧ s.core.rst r ≠ 0 ∧ s.core.rst r ≠ 4) ∧
  (∃ (s : State) (x : Xfer), s.pwr.held = false ∧ s.core.xfPick = some x ∧ x.page = none ∧ x.write = true ∧ s.core.rd (F.ATU_CFG.MODE x.fn) = 2 ∧
    s.core.inWindow x.fn (x.iova + x.pos) (x.segEnd - x.pos) = true) ∧
  (∃ (s : State) (x : Xfer), s.pwr.held = false ∧ s.core.xfPick = some x ∧ x.page = none ∧ s.core.rd (F.ATU_CFG.MODE x.fn) = 0 ∧ x.ring = 63 ∧ s.core.rst 63 = 1) ∧
  ∃ (s : State) (f : FaultRec) (rest : List FaultRec), s.pwr.held = false ∧ s.core.hif.fheld = f :: rest ∧ s.core.rtyp 3 = 3 ∧ s.core.takes 3 = true ∧ s.core.hasXf 3 9 = false ∧ s.core.hasRoom 3 = true :=
  ⟨⟨stFld [(F.HIF_RSTAT.STATE 1, 4), (F.HIF_RSTAT.STATE 63, 5)] (fun c => { c with hif := { c.hif with due := [63], men := [63] } }), by decide⟩,
  ⟨stFld [(F.GLB_BOOT.STAGE, 7)] (fun c => { c with hif := { c.hif with d3 := [2], pme := [2] } }), by decide⟩,
  ⟨stFld [] (fun c => { c with wait := [⟨F.ATU_CFG.MODE 3, 1, .normal, false, .f0⟩] }), by decide, by decide, by decide⟩,
  ⟨stFld [(F.HIF_RSTAT.STATE 1, 1)] (fun c => { c with wait := [⟨F.ATU_CFG.MODE 0, 1, .normal, false, .f0⟩] }), by decide, by decide, 1, by decide⟩,
  ⟨stFld [(F.HIF_RSTAT.STATE 1, 1), (F.ATU_CFG.MODE 0, 2), (F.BLC_WIN_CTRL.EN 0, 1), (F.BLC_WIN_CTRL.FMASK 0, 1), (F.BLC_WIN_LIM_LO.LIM 0, 1)]
      (fun c => { c with hif := { c.hif with xf := [{ kind := 4, ring := 1, len := 32, write := true }] } }), { kind := 4, ring := 1, len := 32, write := true }, by decide⟩,
  ⟨stFld [(F.HIF_RSTAT.STATE 63, 1)] (fun c => { c with hif := { c.hif with xf := [{ kind := 4, ring := 63, len := 32, write := true }] } }), { kind := 4, ring := 63, len := 32, write := true }, by decide⟩,
  ⟨stFld [(F.HIF_RSTAT.STATE 3, 1), (F.HIF_RSTAT.TYPE 3, 3), (F.HIF_RSTAT.LOG2N 3, 4)] (fun c => { c with hif := { c.hif with fheld := [{}] } }), {}, [], by decide⟩⟩

theorem witness_InterruptCommands : (∃ (s : State) (rest : List Nat), s.pwr.held = false ∧ s.core.irq.cross = 127 :: rest ∧ irqReserved 127 = false ∧ s.core.irqState 127 = 0) ∧
  (∃ (s : State) (rest : List Nat), s.pwr.held = false ∧ s.core.irq.cross = 8 :: rest ∧ irqReserved 8 = false ∧ s.core.irqState 8 = 1) ∧
  (∃ (s : State) (rest : List Nat), s.pwr.held = false ∧ s.core.irq.cross = 8 :: rest ∧ irqReserved 8 = false ∧ 2 ≤ s.core.irqState 8 ∧ s.core.fastOn 3 = some 8) ∧
  (∃ s : State, s.pwr.held = false ∧ s.core.deliverable 3 127 = true ∧ (∀ m, m < 128 → m ≠ 127 → s.core.deliverable 3 m = true → s.core.irqRank m < s.core.irqRank 127) ∧
    s.core.on (F.IRQ_SRC.FAST 127) = false ∧ s.core.fastOn 3 ≠ some 8 ∧ (∃ x ∈ s.core.nest 3, x.2 = 8)) ∧
  ∃ (s : State) (rest : List Nat), s.pwr.held = false ∧ s.core.irq.cross = 6 :: rest ∧ irqReserved 6 = true ∧ s.core.fastOn 0 ≠ some 8 ∧ ∀ x ∈ s.core.nest 0, x.2 ≠ 8 :=
  ⟨⟨stFld [] (fun c => { c with irq := { c.irq with cross := [127] } }), [], by decide⟩,
  ⟨stFld [(F.IRQ_SRC.STATE 8, 1)] (fun c => { c with irq := { c.irq with cross := [8] } }), [], by decide⟩,
  ⟨stFld [(F.IRQ_SRC.STATE 8, 2)] (fun c => { c with irq := { c.irq with cross := [8], fast := [(3, some 8)] } }), [], by decide⟩,
  ⟨stFld [(F.IRQ_SRC.STATE 127, 1), (F.IRQ_SRC.TGT 127, 3), (F.IRQ_SRC.EN 127, 1), (F.IRQ_SRC.PRIO 127, 9), (F.IRQ_CPU.THR 3, 2), (F.IRQ_CPU.RLVL 3, 3)]
      (fun c => { c with irq := { c.irq with stack := [(3, [(3, 8)])] } }), by decide⟩,
  ⟨stFld [] (fun c => { c with irq := { c.irq with cross := [6] } }), [], by decide⟩⟩

theorem witness_NetworkCommands : (∃ (s : State) (f : EthFrame) (a : Announce), s.pwr.held = false ∧ f.port = 2 ∧ portUp 2 s.core = true ∧ f.good = true ∧ f.len ≤ 1522 ∧ f.dst / 16 ≠ 0x0180C200000 ∧
    bitAt f.dst 40 = false ∧ f.dst ≠ s.core.rd F.NET_MAC1_LO.MAC + 2 ^ 32 * s.core.rd F.NET_MAC1_HI.MAC ∧
    f.dst ≠ s.core.rd F.NET_MAC2_LO.MAC + 2 ^ 32 * s.core.rd F.NET_MAC2_HI.MAC ∧ f.src ≠ f.dst ∧ s.core.macPort f.dst = none ∧ s.core.on F.PTP_CFG.TCEN = false ∧
    portUp 1 s.core = true ∧ f.full = false ∧ s.core.rd F.NET_AGE.AGE ≠ 0 ∧ a.port = 1 ∧ a.domain = s.core.rd F.PTP_CFG.DOMAIN) ∧
  (∃ (s : State) (f : EthFrame), s.pwr.held = false ∧ f.port = 1 ∧ portUp 1 s.core = true ∧ f.len = 1523 ∧ s.core.ptp.master = some (1, 9) ∧ s.core.rd F.NET_AGE.AGE = 0) ∧
  (∃ (s : State) (f : EthFrame), s.pwr.held = false ∧ f.port = 1 ∧ portUp 1 s.core = true ∧ f.good = true ∧ f.len ≤ 1522 ∧ f.dst / 16 = 0x0180C200000 ∧ f.msg = none) ∧
  ∃ (s : State) (f : EthFrame), s.pwr.held = false ∧ f.port = 1 ∧ portUp 1 s.core = true ∧ f.good = true ∧ f.len ≤ 1522 ∧ f.dst / 16 ≠ 0x0180C200000 ∧ bitAt f.dst 40 = false ∧
    f.dst = s.core.rd F.NET_MAC1_LO.MAC + 2 ^ 32 * s.core.rd F.NET_MAC1_HI.MAC ∧ s.core.terminated f.etype = false :=
  ⟨⟨stFld [(F.NET_PORT.LINK 0, 1), (F.NET_PORT.LINK 1, 1), (F.PTP_CFG.TCEN, 0)], { port := 2, dst := 5, src := 6 }, ⟨1, 0, 9, 1, 1, 1, 1, 1, 1, 1⟩, by decide⟩,
  ⟨stFld [(F.NET_PORT.LINK 0, 1), (F.NET_AGE.AGE, 0)] (fun c => { c with ptp := { c.ptp with master := some (1, 9) } }), { port := 1, len := 1523 }, by decide⟩,
  ⟨stFld [(F.NET_PORT.LINK 0, 1)], { port := 1, dst := 0x0180C200000E }, by decide⟩,
  ⟨stFld [(F.NET_PORT.LINK 0, 1)], { port := 1, dst := 0 }, by decide⟩⟩

theorem witness_PtpCommands : (∃ s : State, s.pwr.held = false ∧ s.core.ptp.master = some (1, 9) ∧ s.core.on F.PTP_CTRL.SERVO = true ∧ s.core.p2p = false ∧ s.core.rd F.PTP_STAT.PSTATE = 2 ∧
    s.core.rdS F.PTP_MPD.MPD = 0 ∧ 1000 * s.core.rd F.PTP_THR.STEP ≤ 100000 ∧ portUp 1 s.core = true) ∧
  (∃ s : State, s.pwr.held = false ∧ s.core.ptp.master = some (2, 9) ∧ s.core.on F.PTP_CTRL.SERVO = true ∧ s.core.p2p = false ∧ s.core.rd F.PTP_STAT.PSTATE = 3) ∧
  (∃ s : State, s.pwr.held = false ∧ s.core.ptp.master = some (2, 9) ∧ s.core.on F.PTP_CTRL.SERVO = false ∧ s.core.rd F.PTP_STAT.PSTATE = 2) ∧
  (∃ (s : State) (x : Int), s.pwr.held = false ∧ s.core.p2p = true ∧ portUp 2 s.core = true ∧ Tab.get none s.core.ptp.reqT1 2 = some x ∧ Tab.get [] s.core.ptp.resp 2 = [] ∧
    ∃ y ∈ s.core.ptp.sums, y.1 = 5 ∧ y.2.1 = 6) ∧
  ∃ s : State, s.pwr.held = false ∧ s.core.ptp.master = none ∧ s.core.linkDelay 1 = none ∧ Tab.get none s.core.ptp.reqT1 1 = none :=
  ⟨⟨stFld [(F.PTP_STAT.PSTATE, 2), (F.NET_PORT.LINK 0, 1)] (fun c => { c with ptp := { c.ptp with master := some (1, 9) } }), by decide⟩,
  ⟨stFld [(F.PTP_STAT.PSTATE, 3)] (fun c => { c with ptp := { c.ptp with master := some (2, 9) } }), by decide⟩,
  ⟨stFld [(F.PTP_STAT.PSTATE, 2), (F.PTP_CTRL.SERVO, 0)] (fun c => { c with ptp := { c.ptp with master := some (2, 9) } }), by decide⟩,
  ⟨stFld [(F.PTP_CFG.PROF, 1), (F.NET_PORT.LINK 1, 1)] (fun c => { c with ptp := { c.ptp with reqT1 := [(2, some 0)], sums := [(5, 6, 0)] } }), 0, by decide, by decide, by decide, rfl, rfl, (5, 6, 0), by decide⟩,
  ⟨stFld [], by decide⟩⟩

theorem witness_CanCommands : (∃ (s : State) (f : CanFrame), s.pwr.held = false ∧ s.core.on F.CAN_CTRL.INIT = false ∧ s.core.rd F.CAN_STAT.EST = 0 ∧ f.fdf = false ∧ f.remote = false ∧
    s.core.objMatch f 0 = true ∧ s.core.on (F.CAN_OBJ_CFG.LOCK 0) = false ∧ s.core.can.cur = some 5 ∧ s.core.can.abort = false ∧ 31 ≤ s.core.rd F.CAN_ERRCNT.NOACK ∧
    s.core.on F.CAN_STAT.ALONE = false) ∧
  (∃ (s : State) (f : CanFrame), s.pwr.held = false ∧ s.core.on F.CAN_CTRL.INIT = false ∧ s.core.rd F.CAN_STAT.EST = 0 ∧ f.fdf = false ∧ f.remote = false ∧
    s.core.objMatch f 0 = false ∧ s.core.objMatch f 1 = true ∧ s.core.on (F.CAN_OBJ_CFG.LOCK 1) = true ∧ Tab.get none s.core.can.shadow 1 = some f ∧ s.core.can.cur = none) ∧
  (∃ (s : State) (f : CanFrame), s.pwr.held = false ∧ s.core.on F.CAN_CTRL.INIT = false ∧ s.core.rd F.CAN_STAT.EST = 0 ∧ f.fdf = false ∧ f.remote = false ∧
    (∀ o < 32, s.core.objMatch f o = false) ∧ s.core.can.cur = some 32 ∧ s.core.can.refCur = some (3, [3])) ∧
  (∃ s : State, s.pwr.held = false ∧ s.core.can.cur = none ∧ s.core.mayTx = true ∧ s.core.on F.CAN_STAT.ALONE = false ∧ s.core.txPending 7 = true ∧
    s.core.on F.CAN_TM_CFG.EN = true ∧ s.core.standby = false ∧ 256 ≤ s.core.rd F.CAN_ERRCNT.TEC ∧ s.core.rd F.CAN_STAT.EST ≠ 2) ∧
  ∃ s : State, s.pwr.held = false ∧ s.core.rd F.CAN_STAT.EST = 2 ∧ s.core.can.recover = true ∧ s.core.on F.CAN_CTRL.INIT = true :=
  ⟨⟨stFld [(F.CAN_CTRL.INIT, 0), (F.CAN_OBJ_CFG.EN 0, 1), (F.CAN_ERRCNT.NOACK, 31)] (fun c => { c with can := { c.can with cur := some 5 } }),
    ⟨0, false, false, false, false, false, 1, [7]⟩, by decide⟩,
  ⟨stFld [(F.CAN_CTRL.INIT, 0), (F.CAN_OBJ_CFG.EN 1, 1), (F.CAN_OBJ_CFG.LOCK 1, 1)] (fun c => { c with can := { c.can with shadow := [(1, some ⟨0, false, false, false, false, false, 1, [7]⟩)] } }),
    ⟨0, false, false, false, false, false, 1, [7]⟩, by decide⟩,
  ⟨stFld [(F.CAN_CTRL.INIT, 0)] (fun c => { c with can := { c.can with cur := some 32, refCur := some (3, [3]) } }), ⟨0, false, false, false, false, false, 1, [7]⟩,
    by decide, by decide, by decide, by decide, by decide, by decide, by decide, by decide⟩,
  ⟨stFld [(F.CAN_CTRL.INIT, 0), (F.CAN_OBJ_CFG.EN 7, 1), (F.CAN_OBJ_CFG.DIR 7, 1), (F.CAN_OBJ_CFG.TXREQ 7, 1), (F.CAN_TM_CFG.EN, 1), (F.CAN_ERRCNT.TEC, 256)], by decide⟩,
  ⟨stFld [(F.CAN_STAT.EST, 2)] (fun c => { c with can := { c.can with recover := true } }), by decide⟩⟩

theorem witness_SmbController : (∃ s : State, s.pwr.held = false ∧ s.core.smb.run = true ∧ s.core.smb.arb < s.core.rd F.SMB_C_CFG.ARBRETRY ∧ s.core.rd F.SMB_C_CMD.PROT = 10 ∧ s.core.smb.sampled = true) ∧
  (∃ s : State, s.pwr.held = false ∧ s.core.smbFree = true ∧ s.core.on F.SMB_C_STAT.SDASTUCK = false ∧ s.core.smb.want = true ∧ s.core.on F.SMB_C_CFG.AUTOARA = true ∧
    s.core.smb.sampled = false ∧ s.core.smb.phase = 0) ∧
  (∃ s : State, s.pwr.held = false ∧ s.core.smbFree = true ∧ s.core.on F.SMB_C_STAT.SDASTUCK = true ∧ s.core.smb.want = true ∧ s.core.smb.phase = 3) ∧
  (∃ s : State, s.pwr.held = false ∧ s.core.smb.run = false ∧ s.core.smbFree = false ∧ s.core.smb.phase = 1 ∧ s.core.on F.SMB_C_STAT.SDASTUCK = false ∧
    2 ≤ s.core.smb.rounds ∧ s.core.smb.want = true ∧ s.core.standby = false) ∧
  (∃ s : State, s.pwr.held = false ∧ s.core.smb.phase = 1 ∧ s.core.on F.SMB_C_STAT.SDASTUCK = true) ∧
  (∃ s : State, s.pwr.held = false ∧ s.core.smb.phase = 1 ∧ s.core.on F.SMB_C_STAT.SDASTUCK = false ∧ s.core.smb.rounds < 2) ∧
  ∃ s : State, s.pwr.held = false ∧ s.core.smb.phase = 2 ∧ s.core.on F.SMB_C_CFG.AUTOARA = false ∧ s.core.smb.want = false :=
  ⟨⟨stFld [(F.SMB_C_CMD.PROT, 10)] (fun c => { c with smb := { c.smb with run := true, sampled := true } }), by decide⟩,
  ⟨stFld [] (fun c => { c with smb := { c.smb with want := true } }), by decide⟩,
  ⟨stFld [(F.SMB_C_STAT.SDASTUCK, 1)] (fun c => { c with smb := { c.smb with want := true, phase := 3 } }), by decide⟩,
  ⟨stFld [(F.SMB_C_STAT.CLEARING, 1)] (fun c => { c with smb := { c.smb with want := true, phase := 1, rounds := 2 } }), by decide⟩,
  ⟨stFld [(F.SMB_C_STAT.SDASTUCK, 1)] (fun c => { c with smb := { c.smb with phase := 1 } }), by decide⟩,
  ⟨stFld [] (fun c => { c with smb := { c.smb with phase := 1 } }), by decide⟩,
  ⟨stFld [(F.SMB_C_CFG.AUTOARA, 0)] (fun c => { c with smb := { c.smb with phase := 2 } }), by decide⟩⟩

theorem witness_SmbTarget : (∃ s : State, s.pwr.held = false ∧ s.core.rd F.SMB_T_CFG.ADDR = 5 ∧ s.core.standby = false ∧ s.core.on F.SMB_T_CFG.EN = true ∧ s.core.on F.SMB_T_CFG.OVWR = true ∧
    s.core.on F.SMB_T_CFG.PECREQ = true ∧ s.core.on F.SMB_T_CTRL.ALERT = true) ∧
  (∃ s : State, s.pwr.held = false ∧ s.core.rd F.SMB_T_CFG.ADDR = 5 ∧ s.core.standby = false ∧ s.core.on F.SMB_T_CFG.EN = true ∧ s.core.rd F.SMB_T_NEW.NEW = 0 ∧
    s.core.on F.SMB_T_CFG.PECREQ = false ∧ s.core.on F.SMB_T_CTRL.ALERT = false) ∧
  ∃ s : State, s.pwr.held = false ∧ s.core.rd F.SMB_T_CFG.ADDR = 5 ∧ s.core.standby = false ∧ s.core.on F.SMB_T_CFG.EN = true ∧ s.core.on F.SMB_T_CFG.OVWR = false ∧
    s.core.rd F.SMB_T_NEW.NEW ≠ 0 :=
  ⟨⟨stFld [(F.SMB_T_CFG.ADDR, 5), (F.SMB_T_CFG.EN, 1), (F.SMB_T_CFG.PECREQ, 1), (F.SMB_T_CTRL.ALERT, 1)], by decide⟩,
  ⟨stFld [(F.SMB_T_CFG.ADDR, 5), (F.SMB_T_CFG.EN, 1)], by decide⟩,
  ⟨stFld [(F.SMB_T_CFG.ADDR, 5), (F.SMB_T_CFG.EN, 1), (F.SMB_T_CFG.OVWR, 0), (F.SMB_T_NEW.NEW, 1)], by decide⟩⟩

theorem witness_RecorderCommands : (∃ s : State, s.pwr.held = false ∧ s.core.ev.beyond < 32768 ∧ s.core.est.saving = none ∧ s.core.ev.recq = [] ∧ s.core.ev.eth = []) ∧
  (∃ s : State, s.pwr.held = false ∧ s.pwr.vin = .holdUp ∧ s.core.est.saving.isSome = true ∧ s.core.ev.recq ≠ []) ∧
  (∃ s : State, s.pwr.held = false ∧ 32768 ≤ s.core.ev.beyond ∧ s.core.ev.eth ≠ [] ∧ s.core.rd F.EVR_STAT.WPTR = 65535) ∧
  (∃ (s : State) (e : SeqEv), s.pwr.held = false ∧ s.core.ev.beyond < 32768 ∧ s.core.ev.recq = [e] ∧ s.core.ev.recent.find? (fun k => (s.nv.slot k).same e) = none) ∧
  (∃ (s : State) (e : SeqEv), s.pwr.held = false ∧ s.core.ev.beyond < 32768 ∧ s.core.ev.recq = [e] ∧ s.core.ev.recent.find? (fun k => (s.nv.slot k).same e) = some 4 ∧
    (s.nv.slot 4).rep ≠ 65535 ∧ e.esn - (s.nv.slot 4).esn < 2 ^ 32) ∧
  ∃ (s : State) (e : SeqEv), s.pwr.held = false ∧ s.core.ev.beyond < 32768 ∧ s.core.ev.recq = [e] ∧ s.core.ev.recent.find? (fun k => (s.nv.slot k).same e) = some 4 ∧
    (s.nv.slot 4).rep = 65535 ∧ 4 ≠ s.core.rd F.EVR_STAT.WPTR :=
  ⟨⟨.reset, by decide⟩, ⟨{ stFld [] (fun c => { c with ev := { c.ev with recq := [{}] }, est := { c.est with saving := some 5 } }) with pwr := { State.reset.pwr with vin := .holdUp } }, by decide⟩,
  ⟨stFld [(F.EVR_STAT.WPTR, 65535)] (fun c => { c with ev := { c.ev with beyond := 32768, eth := [{}] } }), by decide⟩,
  ⟨stFld [] (fun c => { c with ev := { c.ev with recq := [{}] } }), {}, by decide⟩,
  ⟨{ stFld [] (fun c => { c with ev := { c.ev with recq := [{}], recent := [4] } }) with nv := { State.reset.nv with recs := [(4, { mark := 165 })] } }, {}, by decide⟩,
  ⟨{ stFld [] (fun c => { c with ev := { c.ev with recq := [{}], recent := [4] } }) with nv := { State.reset.nv with recs := [(4, { mark := 165, rep := 65535 })] } }, {}, by decide⟩⟩

theorem witness_ServiceCommands : (∃ s : State, s.pwr.held = false ∧ s.core.on F.SVC_STAT.ATTACH = false ∧ s.core.on F.SVC_STAT.SESSION = false ∧ s.core.svc.lockMs = 0 ∧ s.core.on F.SVC_STAT.LOCKOUT = true) ∧
  (∃ s : State, s.pwr.held = false ∧ s.core.on F.SVC_STAT.ATTACH = true ∧ s.core.on F.SVC_STAT.SESSION = true ∧ s.pwr.vin = .on ∧ s.pwr.pcycLow = false ∧ s.core.on F.SVC_STAT.LOCKOUT = false) ∧
  (∃ s : State, s.pwr.held = false ∧ s.core.on F.SVC_STAT.ATTACH = true ∧ s.core.on F.SVC_STAT.SESSION = true ∧ s.pwr.vin ≠ .on) ∧
  (∃ s : State, s.pwr.held = false ∧ s.core.on F.SVC_STAT.ATTACH = true ∧ s.core.on F.SVC_STAT.SESSION = false ∧ s.core.on F.SVC_CTRL.BLOCK = true) ∧
  (∃ s : State, s.pwr.held = false ∧ s.core.on F.SVC_STAT.ATTACH = true ∧ s.core.on F.SVC_CTRL.BLOCK = false ∧ s.core.on F.BLC_SEAL.SEALED = true ∧
    s.core.on F.SVC_STAT.LOCKOUT = false ∧ s.core.svc.nonce ≠ none) ∧
  ∃ s : State, s.pwr.held = false ∧ s.core.on F.SVC_STAT.ATTACH = true ∧ s.core.on F.SVC_CTRL.BLOCK = false ∧ s.core.rd F.GLB_BOOT.STAGE = 7 ∧
    s.core.on F.SVC_STAT.LOCKOUT = false ∧ s.core.svc.nonce = none ∧ 2 ≤ s.core.rd F.SVC_STAT.FAILS :=
  ⟨⟨stFld [(F.SVC_STAT.LOCKOUT, 1)], by decide⟩, ⟨{ stFld [(F.SVC_STAT.ATTACH, 1), (F.SVC_STAT.SESSION, 1)] with pwr := { State.reset.pwr with vin := .on } }, by decide⟩,
  ⟨{ stFld [(F.SVC_STAT.ATTACH, 1), (F.SVC_STAT.SESSION, 1)] with pwr := { State.reset.pwr with vin := .holdUp } }, by decide⟩,
  ⟨stFld [(F.SVC_STAT.ATTACH, 1), (F.SVC_CTRL.BLOCK, 1)], by decide⟩,
  ⟨stFld [(F.SVC_STAT.ATTACH, 1), (F.BLC_SEAL.SEALED, 1)] (fun c => { c with svc := { c.svc with nonce := some 1 } }), by decide⟩,
  ⟨stFld [(F.SVC_STAT.ATTACH, 1), (F.GLB_BOOT.STAGE, 7), (F.SVC_STAT.FAILS, 2)], by decide⟩⟩

theorem witness_UpdateCommands : (∃ s : State, s.pwr.held = false ∧ s.core.on F.SVC_STAT.ATTACH = true ∧ s.core.on F.SVC_STAT.SESSION = true ∧ s.nv.upd.state = 3 ∧ s.core.svc.resume = false ∧
    s.core.svc.stop = true) ∧
  (∃ s : State, s.pwr.held = false ∧ s.core.on F.SVC_STAT.ATTACH = true ∧ s.core.on F.SVC_STAT.SESSION = true ∧ s.nv.upd.state = 3 ∧ s.core.svc.resume = false ∧
    s.core.svc.stop = false ∧ s.nv.upd.done + 1 < s.nv.upd.total ∧ s.core.on F.UPD_STAT.TRIAL = false) ∧
  (∃ s : State, s.pwr.held = false ∧ s.nv.upd.state = 3 ∧ s.core.svc.resume = false ∧ s.core.svc.stop = false ∧ s.nv.upd.total ≤ s.nv.upd.done + 1) ∧
  (∃ (s : State) (data : List Nat), s.pwr.held = false ∧ s.core.on F.SVC_STAT.ATTACH = true ∧ s.core.on F.SVC_STAT.SESSION = true ∧ s.core.rd F.GLB_BOOT.STAGE ≠ 7 ∧
    s.nv.upd.state = 0 ∧ 88 ≤ data.length ∧ data.getD 0 0 % 256 + 256 * (data.getD 1 0 % 256) = 1 ∧ data.getD 2 0 % 256 = 1 ∧
    data.getD 4 0 % 256 + 256 * (data.getD 5 0 % 256) ≠ 9590 ∧ s.core.on F.UPD_STAT.TRIAL = false) ∧
  (∃ s : State, s.pwr.held = false ∧ s.core.on F.SVC_STAT.ATTACH = true ∧ s.core.on F.SVC_STAT.SESSION = true ∧ s.core.rd F.GLB_BOOT.STAGE ≠ 7 ∧ s.nv.upd.state = 1 ∧
    s.nv.upd.headOk = true ∧ 88 ≤ s.nv.upd.got ∧ s.nv.upd.whole ≤ s.nv.upd.got + 1) ∧
  (∃ (s : State) (k : Ckpt), s.pwr.held = false ∧ s.core.svc.resume = true ∧ s.nv.upd.state = 3 ∧ s.core.on F.GLB_BOOT.READY = true ∧ s.nv.upd.governs = some k) ∧
  (∃ s : State, s.pwr.held = false ∧ s.core.svc.resume = true ∧ s.nv.upd.state = 3 ∧ s.core.on F.GLB_BOOT.READY = true ∧ s.nv.upd.governs = none) ∧
  (∃ s : State, s.pwr.held = false ∧ s.core.on F.SVC_STAT.ATTACH = true ∧ s.core.on F.SVC_STAT.SESSION = true ∧ s.nv.upd.state = 4 ∧ s.core.on F.UPD_STAT.TRIAL = true ∧
    s.core.on F.GLB_BOOT.READY = true ∧ s.core.svc.readyOps + 1000 * max 1 (s.core.rd F.UPD_CFG.CONFIRMT) ≤ s.aon.ops ∧ s.nv.upd.pend ≠ none) ∧
  ∃ s : State, s.pwr.held = false ∧ s.core.on F.SVC_STAT.ATTACH = true ∧ s.core.on F.SVC_STAT.SESSION = true ∧ s.nv.upd.state = 5 ∧ s.core.on F.UPD_STAT.TRIAL = false :=
  ⟨⟨{ stFld [(F.SVC_STAT.ATTACH, 1), (F.SVC_STAT.SESSION, 1)] (fun c => { c with svc := { c.svc with stop := true } }) with nv := State.reset.nv.setUpd (fun u => { u with state := 3 }) }, by decide⟩,
  ⟨{ stFld [(F.SVC_STAT.ATTACH, 1), (F.SVC_STAT.SESSION, 1)] with nv := State.reset.nv.setUpd (fun u => { u with state := 3, total := 9 }) }, by decide⟩,
  ⟨stNv (fun n => n.setUpd (fun u => { u with state := 3 })), by decide⟩,
  ⟨stFld [(F.SVC_STAT.ATTACH, 1), (F.SVC_STAT.SESSION, 1)], [1, 0, 1] ++ List.replicate 85 0, by decide⟩,
  ⟨{ stFld [(F.SVC_STAT.ATTACH, 1), (F.SVC_STAT.SESSION, 1)] with nv := State.reset.nv.setUpd (fun u => { u with state := 1, headOk := true, got := 151 }) }, by decide⟩,
  ⟨{ stFld [(F.GLB_BOOT.READY, 1)] (fun c => { c with svc := { c.svc with resume := true } }) with nv := State.reset.nv.setUpd (fun u => { u with state := 3, ck0 := ⟨true, 1, 1⟩ }) }, ⟨true, 1, 1⟩, by decide⟩,
  ⟨{ stFld [(F.GLB_BOOT.READY, 1)] (fun c => { c with svc := { c.svc with resume := true } }) with nv := State.reset.nv.setUpd (fun u => { u with state := 3 }) }, by decide⟩,
  ⟨{ stFld [(F.SVC_STAT.ATTACH, 1), (F.SVC_STAT.SESSION, 1), (F.UPD_STAT.TRIAL, 1), (F.GLB_BOOT.READY, 1)] with nv := State.reset.nv.setUpd (fun u => { u with state := 4, pend := some true }), aon := { State.reset.aon with ops := 70000 } }, by decide⟩,
  ⟨{ stFld [(F.SVC_STAT.ATTACH, 1), (F.SVC_STAT.SESSION, 1)] with nv := State.reset.nv.setUpd (fun u => { u with state := 5 }) }, by decide⟩⟩

theorem witness_ThermalEvaluate : (∃ s : State, s.pwr.held = false ∧ s.core.thm.lvl ≤ 2 ∧ s.core.thm.hot = 0 ∧ s.core.thm.lvl = 0 ∧ s.pwr.vin = .on ∧ s.pwr.pcycLow = false) ∧
  (∃ s : State, s.pwr.held = false ∧ s.core.thm.lvl = 1 ∧ 10000 ≤ s.core.thm.cool + 1) ∧ (∃ s : State, s.pwr.held = false ∧ s.core.thm.lvl = 2 ∧ s.core.thm.cool + 1 < 10000) ∧
  (∃ s : State, s.pwr.held = false ∧ s.core.thm.lvl ≤ 2 ∧ s.core.thm.hot = 2 ∧ s.core.active = false ∧ s.core.est.estab = true ∧ s.core.est.saving = none) ∧
  ∃ s : State, s.pwr.held = false ∧ s.core.thm.lvl ≤ 2 ∧ s.core.thm.hot = 2 ∧ s.core.active = true ∧ s.core.on F.RED_STAT.SBYVALID = true :=
  ⟨⟨stVin .on, by decide⟩, ⟨stFld [] (fun c => { c with thm := { c.thm with lvl := 1, cool := 9999 } }), by decide⟩,
  ⟨stFld [] (fun c => { c with thm := { c.thm with lvl := 2 } }), by decide⟩,
  ⟨stFld [] (fun c => { c with thm := { c.thm with hot := 2 }, est := { c.est with estab := true } }), by decide⟩,
  ⟨stFld [(F.RED_CFG.PAIR, 1), (F.RED_STAT.ROLE, 1), (F.RED_STAT.SBYVALID, 1)] (fun c => { c with thm := { c.thm with hot := 2 } }), by decide⟩⟩

theorem witness_StepRunsCommand : ∃ (c : Instr) (s : State) (rest : List Instr), s.pending = c :: rest :=
  ⟨.tset, State.reset.push .tset, [], rfl⟩

theorem witness_IdleStep : ∃ s : State, s.pending = [] :=
  ⟨.reset, rfl⟩

theorem witness_EveryCommandKeepsQueue : ∃ c : Instr, c ∉ [Instr.powerOn, .powerOnResetRelease, .inputLoss, .holdUpEnd, .opsStore, .opsRefresh] :=
  ⟨.tset, by decide⟩

theorem witness_TimeBasesNeverDecrease : ∃ s t : State, step s = .next t ∧ s.stored ∧ t.aon.ops < s.aon.ops :=
  ⟨{ stVin .off with pending := [.powerOn], aon := ⟨9, 1, false, 8, 1⟩ }, _, rfl, by unfold State.stored; decide, by decide⟩

set_option maxRecDepth 20000 in
theorem witness_ActiveSetChanges : ∃ s t : State, step s = .next t ∧ t.saf.activeSet ≠ s.saf.activeSet :=
  ⟨{ stSaf { State.reset.saf with ask := some none, stgOk := true } with pending := [.channelExchange {}] }, _, rfl, fun h => Bool.noConfusion (congrArg Prod.fst h)⟩

theorem witness_OutputsEnergise : ∃ s t : State, step s = .next t ∧ s.energised 0 = false ∧ t.energised 0 = true :=
  ⟨{ stSaf { State.reset.saf with conf := true, act := [(16, 1)], gsafe := true, gsafeB := true, rst := false, diagDone := true } with pending := [.safmOutreqWrite 1], line := { toneA := true, toneB := true, seen := true } }, _, rfl, by decide⟩

theorem witness_DeviceResetRegisters : ∃ s : State, s.up ∧ s.pwr.pcycLow = false :=
  ⟨.reset, ⟨rfl, rfl⟩, rfl⟩

theorem witness_SealedRecord : ∃ (s : State) (m : Master) (o : Nat), s.pwr.held = false ∧ m ∈ [Master.f0, .super, .user] ∧ 0x4000 ≤ o ∧ o = 0x4fff ∧ s.core.on F.BLC_SEAL.SEALED = true :=
  ⟨stFld [(F.BLC_SEAL.SEALED, 1)], .super, 0x4fff, by decide⟩

theorem witness_MemoriesStayCanonical : ∃ s : State, s.canonical = true ∧ s.core.cte.pm ≠ [] ∧ s.nv.upd.pkg ≠ [] :=
  ⟨{ stFld [] (fun c => { c with cte := { c.cte with pm := [(0, 1), (1023, 2)] } }) with nv := State.reset.nv.setUpd (fun u => { u with pkg := [(3, 4)] }) }, by decide⟩

theorem witness_PendingDiscard : ∃ (s : State) (v : Nat), s.pwr.held = false ∧ bitAt v 31 = true ∧ s.core.irqState (32 * 3 + 31) = 1 ∧ bitAt v 0 = true ∧ s.core.irqState 96 = 2 :=
  ⟨stFld [(F.IRQ_SRC.STATE 127, 1), (F.IRQ_SRC.STATE 96, 2)], 2 ^ 31 + 1, by decide⟩

theorem witness_CancelUpdate : (∃ s : State, s.up ∧ s.core.on F.SVC_STAT.ATTACH = true ∧ s.core.on F.SVC_STAT.SESSION = true ∧ s.core.on F.UPD_STAT.TRIAL = false ∧ s.nv.upd.state = 5) ∧
  ∃ s : State, s.up ∧ s.core.on F.SVC_STAT.ATTACH = true ∧ s.core.on F.SVC_STAT.SESSION = true ∧ s.core.on F.UPD_STAT.TRIAL = true ∧ (s.nv.img s.nv.upd.act).valid = true ∧ s.pwr.pcycLow = false :=
  ⟨⟨{ stFld [(F.SVC_STAT.ATTACH, 1), (F.SVC_STAT.SESSION, 1)] with nv := State.reset.nv.setUpd (fun u => { u with state := 5 }) }, by decide⟩,
  ⟨stFld [(F.SVC_STAT.ATTACH, 1), (F.SVC_STAT.SESSION, 1), (F.UPD_STAT.TRIAL, 1)], by decide⟩⟩

theorem witness_EndOfInterrupt : (∃ s : State, s.pwr.held = false ∧ s.core.fastOn 3 = some 127) ∧
  (∃ s : State, s.pwr.held = false ∧ s.core.fastOn 3 ≠ some 127 ∧ ∃ x ∈ s.core.nest 3, x.2 = 127) ∧
  ∃ s : State, s.pwr.held = false ∧ s.core.fastOn 0 ≠ some 0 ∧ ∀ x ∈ s.core.nest 0, x.2 ≠ 0 :=
  ⟨⟨stFld [] (fun c => { c with irq := { c.irq with fast := [(3, some 127)] } }), by decide⟩,
  ⟨stFld [] (fun c => { c with irq := { c.irq with stack := [(3, [(5, 127), (2, 9)])] } }), by decide, by decide, (5, 127), by decide⟩, ⟨.reset, by decide⟩⟩

end Sys2Proof.Tests
end

section
/-! PROOF. O36: a register list that goes on from a journal record (R397), as after a switch-over (R367, R372). -/

namespace Sys2Proof.Machine

/-- R385, R390, R400, R402: a command that may execute takes its effect. -/
theorem runCmd_of_runs {s : State} {op r : Nat} {masks : List Nat} {j : JRec} (f : JRec → State → State) (hs : s.pwr.held = false)
    (h : j.runs s op r masks) : runCmd op r masks f s = f j s := by
  obtain ⟨hready, httl, hperm, hrsv, hpar⟩ := h
  have hlive : ¬ (j.ttl ≠ 0 ∧ j.acc ∧ j.result = 0 ∧ j.ttl < s.aon.ops - j.ops) := by
    rintro ⟨h0, hacc, -, hlt⟩
    rcases httl with h | h | h
    · exact h0 h
    · simp [h] at hacc
    · omega
  simp [runCmd, hs, hready, hlive, hperm, hrsv, hpar]

/-- A list with no entry left waits for the commit of those applied. -/
theorem regListGo_of_applied {j : JRec} {b : List Nat} {n i : Nat} {s : State} (h : b.length / 12 ≤ i) :
    regListGo j b n i s = cmdHold j 17 i s := by
  cases n with
  | zero => rfl
  | succ n => simp [regListGo, h]

/-- R397: REG_LIST writes no entry again when its record shows that all of them are applied. -/
theorem exec_regList_of_applied {s : State} {r : Nat} {j : JRec} (hs : s.pwr.held = false) (hr : j.runs s 19 r []) (hmax : j.blen ≤ 3072)
    (hlen : j.blen % 12 = 0) (happ : (s.buffer j.ring).length / 12 ≤ j.result) : exec (.regList r) s = .next (cmdHold j 17 j.result s) := by
  have hform : ¬ (3072 < j.blen ∨ j.blen % 12 ≠ 0) := by omega
  calc exec (.regList r) s = .next (runCmd 19 r [] cmdRegList s) := rfl
    _ = .next (cmdRegList j s) := by rw [runCmd_of_runs _ hs hr]
    _ = .next (cmdHold j 17 j.result s) := by rw [cmdRegList, if_neg hform, regListGo_of_applied happ]

/-- The record of a REG_LIST of one entry that a new active module has when the other one applied the entry and then failed: a tick frame carries
the count of applied entries, and not that the command was running (`JRec.sentForm`). -/
def appliedList : JRec := { op := 19, ring := 5, blen := 12, result := 1 }

/-- The application runs; `appliedList` is at the head of ring 5, and its buffer is read: it writes 1 to `GLB_SCRATCH`. -/
def appliedListState : State :=
  { State.reset with
    nv := { State.reset.nv with jrec := [appliedList] }
    core := { State.reset.core.wr F.GLB_BOOT.STAGE 3 with
      hif := { State.reset.core.hif with rbuf := [(5, [32, 0, 0, 0, 1, 0, 0, 0, 255, 255, 255, 255])] } } }

theorem appliedList_runs : appliedList.runs appliedListState 19 5 [] := by
  unfold JRec.runs
  decide

/-- Refutes O36: its clause for a REG_LIST of one entry asks for the write of the entry whatever the record says. A record with
result 1 is that of a list whose entry is applied already, before a switch-over; the list goes on behind the entry and writes nothing again
(R397, R402): `GLB_SCRATCH` stays 0, where the clause makes it 1. -/
theorem not_heldCommands : ¬ Obligations.HeldCommands := by
  unfold Obligations.HeldCommands
  intro h
  obtain ⟨-, -, -, -, -, -, -, -, -, -, -, -, hlist, -⟩ := h appliedListState 5 appliedList rfl (by decide)
  obtain ⟨-, -, -, hentry⟩ := hlist appliedList_runs
  obtain ⟨t, hexec, hcore⟩ := hentry (by decide) (by decide) (by decide) (by decide) (by decide) (by decide) (by decide) (by decide)
  rw [exec_regList_of_applied rfl appliedList_runs (by decide) (by decide) (by decide)] at hexec
  obtain rfl := Host.Outcome.next.inj hexec
  have hread := congrArg (fun c : Core => c.rd F.GLB_SCRATCH.DATA) hcore
  revert hread
  decide

end Sys2Proof.Machine
end

section
/-! PROOF. O5, O48, O49, O50: held writes (R17), the step of the queue, and the state after a power-on reset (R511, R519). -/

namespace Sys2Proof.Machine

/-! ### Held writes -/

/-- R231, R281, R303, R421: a write of this field that is held shows in no register before it commits. -/
def Fld.heldUnseen (f : Fld) : Bool := decide (f.cls ∉ [Cls.cnvOff, .protOff, .rings]) && decide (f.key ≠ F.CTE_PCOMMIT.GO.key)

theorem holdWrite_of_heldUnseen {w : PWrite} {c : Core} (h : w.fld.heldUnseen = true) :
    holdWrite w c = { c with wait := c.wait ++ [w] } := by
  simp only [Fld.heldUnseen, Bool.and_eq_true, decide_eq_true_eq, List.mem_cons, List.not_mem_nil, or_false, not_or] at h
  obtain ⟨⟨hcnv, hprot, hrings⟩, hkey⟩ := h
  unfold holdWrite
  split
  · next hc => exact absurd hc hcnv
  · next hc => exact absurd hc hprot
  · next hc => exact absurd hc hrings
  · simp [hkey]

/-- R281: a commit of the parameter shadow that is held shows PEND. -/
theorem holdWrite_pcommitGo {m : Master} {bits : Nat} {late : Bool} {c : Core} :
    holdWrite ⟨F.CTE_PCOMMIT.GO, bits, .normal, late, m⟩ c =
      ({ c with wait := c.wait ++ [⟨F.CTE_PCOMMIT.GO, bits, .normal, late, m⟩] } : Core).wr F.CTE_PCOMMIT.PEND 1 := by
  simp [holdWrite, F.CTE_PCOMMIT.GO]

/-- A command that is an effect on the resettable part alone, while no power-on reset holds it. -/
theorem ends_onCore {i : Instr} {s : State} {P : State → Prop} (f : Core → Core) (hs : s.pwr.held = false)
    (he : exec i s = .next (onCore f s)) (h : P { s with core := f s.core }) : Ends i s P :=
  ⟨_, he.trans (congrArg _ (onCore_run f hs)), h⟩

/-- R17: a command that writes a field for F0, with the mark that the command carries. -/
theorem ends_holdOwn {i : Instr} {s : State} {f : Fld} {bits : Nat} {late : Bool} (hs : s.pwr.held = false) (hf : f.heldUnseen = true)
    (he : exec i s = .next (onCore (holdOwn .f0 f .normal bits late) s)) :
    Ends i s fun t => t = { s with core := { s.core with wait := s.core.wait ++ [⟨f, bits, .normal, late, .f0⟩] } } :=
  ends_onCore _ hs he (congrArg (fun c => ({ s with core := c } : State)) (holdWrite_of_heldUnseen hf))

/-- R17: a command that writes a field for F0 at an instant that is free within the rest of the tick. -/
theorem ends_holdNow {i : Instr} {s : State} {f : Fld} {bits : Nat} (hs : s.pwr.held = false) (hf : f.heldUnseen = true)
    (he : exec i s = .next (onCore (holdNow f bits) s)) :
    Ends i s fun t => t = { s with core := { s.core.moment with wait := s.core.wait ++ [⟨f, bits, .normal, s.core.pastCutOff, .f0⟩] } } :=
  ends_onCore _ hs he (congrArg (fun c => ({ s with core := c } : State)) (holdWrite_of_heldUnseen (c := s.core.moment) hf))

/-- Settles O5: each of these writes is a held one (R17); only the GO of `CTE_PCOMMIT` shows in a register, its PEND (R281). -/
theorem heldRequests : Obligations.HeldRequests := by
  unfold Obligations.HeldRequests
  intro s hs late req
  refine ⟨?profileGo, ?tickPeriod, ?tickFrame, ?snapshotArm, ?cnvClr, ?cteHalt, ?pcommitGo, ?cteLoadBit, ?cteStd, ?pmData, ?dmData, ?trip0, ?trip1⟩
  case pcommitGo =>
    exact ends_onCore (holdOwn .f0 F.CTE_PCOMMIT.GO .normal 1 late) hs rfl (congrArg (fun c => ({ s with core := c } : State)) holdWrite_pcommitGo)
  case profileGo | tickPeriod | tickFrame | snapshotArm | cnvClr | cteHalt => exact ends_holdOwn hs (by decide) rfl
  case cteLoadBit | cteStd | pmData | dmData | trip0 | trip1 => exact ends_holdNow hs (by decide) rfl

/-! ### Steps -/

/-- Settles O48: `step` looks at the front of the queue alone. -/
theorem stepRunsCommand : Obligations.StepRunsCommand := by
  unfold Obligations.StepRunsCommand
  intro c s rest h
  simp [step, h]

/-- Settles O49: the other case of `step`, where the queue has no front. -/
theorem idleStep : Obligations.IdleStep := by
  unfold Obligations.IdleStep
  intro s h
  simp [step, h]

/-! ### The state after a power-on reset -/

/-- R519: at reset a field holds its reset value, but for the cause of the reset and the count of power cycles. -/
theorem reset_rd {f : Fld} (hlast : f.key ≠ F.GLB_RSTCAUSE.LAST.key) (hcyc : f.key ≠ F.TICK_PWRCYC.PWRCYC.key) :
    State.reset.core.rd f = f.reset :=
  calc State.reset.core.rd f
      = Tab.get f.reset [(F.GLB_RSTCAUSE.LAST.key, 1), (F.TICK_PWRCYC.PWRCYC.key, 1)] f.key := rfl
    _ = f.reset := by simp [Tab.get, hlast.symm, hcyc.symm]

theorem reset_stored : State.reset.stored := by
  unfold State.stored
  decide

/-- R404: every ring is FREE. -/
theorem reset_rst (r : Nat) : State.reset.core.rst r = 0 := by
  refine reset_rd (f := F.HIF_RSTAT.STATE r) ?_ ?_ <;>
    simp only [Fld.key, F.HIF_RSTAT.STATE, F.GLB_RSTCAUSE.LAST, F.TICK_PWRCYC.PWRCYC] <;> omega

/-- Settles O50: at reset the register store lists the cause of the reset and the power cycle alone, and all else has its default. -/
theorem resetState : Obligations.ResetState := by
  unfold Obligations.ResetState
  exact ⟨rfl, ⟨rfl, rfl⟩, reset_stored, by decide, rfl, rfl, by decide, by decide, by decide, by decide, fun _ => reset_rd,
    fun r _ => reset_rst r, fun _ => rfl, rfl, rfl, rfl⟩

end Sys2Proof.Machine
end

section
/-! PROOF. O21: a node that answers the setup of a burst for the first time since the enumeration (R103, R197, R221). -/

namespace Sys2Proof.Machine

/-- The acknowledgement of node 0, of serial number 7. -/
def lateNode : NodeAck := ⟨0, 7⟩

/-- A burst in pre-roll. Node 0 was not reached at the enumeration; the place holds what was learned of a node of serial number 9, with an
impedance reference of position 0. -/
def lateNodeState : State :=
  { State.reset with
    core := { State.reset.core.wr F.IMP_STAT.STATE 2 with
      chn := { State.reset.core.chn with total := 1 }
      est := { State.reset.core.est with serials := [(0, 9)], unchk := [0] }
      imp := { State.reset.core.imp with refs := [(0, ⟨100, 0, 0⟩)] } } }

/-- R197, R221: EST compares the serial of the node that answers, and its place keeps nothing of the node before it. -/
theorem lateNodeState_refs_after_setup :
    (heardAll [lateNode.node] (burstSetup [lateNode]) lateNodeState.core).imp.refs = [] := by decide

/-- Refutes O21: its clause for the setup leaves everything of IMP but the acknowledgements as it was. The node of `lateNodeState`
acknowledges for the first time, with another serial number than the record has, so that its positions start with nothing learned (R221): the impedance
reference of position 0 (R189), which IMP holds, goes. -/
theorem not_burstLife : ¬ Obligations.BurstLife := by
  unfold Obligations.BurstLife
  intro h
  obtain ⟨-, -, -, -, -, -, hsetup, -⟩ := h lateNodeState [lateNode] [] 0 rfl
  obtain ⟨t, hexec, -, himp, -⟩ := hsetup (by decide) (by decide)
  obtain rfl := Host.Outcome.next.inj hexec
  have hrefs := congrArg ImpSt.refs himp
  exact absurd (lateNodeState_refs_after_setup.symm.trans hrefs) (by decide)

end Sys2Proof.Machine
end

section
/-! PROOF. What the rings may change when they go on (R390 to R398): records of the journal and registers of HIF and ATU; a command that is
executed stays so. -/

namespace Sys2Proof.Machine

/-- A frame with more blocks is wider. -/
theorem blocksOnly_mono {bs cs : List Nat} {c d : Core} (h : blocksOnly bs c d) (hs : ∀ b ∈ bs, b ∈ cs) : blocksOnly cs c d :=
  fun f hf => h f (fun hb => hf (hs _ hb))

/-! ### What the rings may change -/

/-- The blocks whose registers the rings and the transfers they ask for show: HIF and ATU. -/
def ringBlocks : List Nat := [F.HIF_STAT.ACCEPT.block, F.ATU_STAT.NHELD.block]

/-- The resettable part without what the rings may change: registers, the counter of free values, outputs, the phase of the tick, interrupts,
events, and HIF. -/
def Core.besideRings (c : Core) : Core := { c with csr := [], free := 0, out := [], tick := {}, irq := {}, ev := {}, hif := {} }

/-- From `c` to `d` only what the rings may change differs, and of the registers only those of HIF and ATU. -/
structure Core.RingsOnly (c d : Core) : Prop where
  beside : d.besideRings = c.besideRings
  regs : blocksOnly ringBlocks c d

theorem Core.RingsOnly.refl (c : Core) : c.RingsOnly c := ⟨rfl, blocksOnly_refl _ _⟩

theorem Core.RingsOnly.trans {c d e : Core} (h : c.RingsOnly d) (g : d.RingsOnly e) : c.RingsOnly e :=
  ⟨g.beside.trans h.beside, blocksOnly_trans h.regs g.regs⟩

/-- A change outside the registers. -/
theorem Core.RingsOnly.of_csr {c d : Core} (h : d.besideRings = c.besideRings) (hc : d.csr = c.csr) : c.RingsOnly d := ⟨h, blocksOnly_csr hc⟩

theorem ringsOnly_wr (c : Core) (v : Nat) {f : Fld} (hf : f.block ∈ ringBlocks) : c.RingsOnly (c.wr f v) :=
  ⟨rfl, blocksOnly_wr (blocksOnly_refl _ _) hf⟩

theorem ringsOnly_raise (c : Core) (n src prim : Nat) : c.RingsOnly (c.raise n src prim) := .of_csr rfl rfl

theorem ringsOnly_send (c : Core) (o : Out) : c.RingsOnly (c.send o) := by
  unfold Core.send
  split
  · exact .refl c
  · exact .of_csr rfl rfl

theorem ringsOnly_pushXf (x : Xfer) (c : Core) : c.RingsOnly (pushXf x c) := .of_csr rfl rfl

theorem ringsOnly_pmeSend (fn : Nat) (c : Core) : c.RingsOnly (pmeSend fn c) := by
  unfold pmeSend
  split
  · refine .trans ?_ (ringsOnly_send _ _)
    exact .of_csr rfl rfl
  · exact .refl c

theorem ringsOnly_foldl {α : Type} {f : Core → α → Core} (hf : ∀ (c : Core) (a : α), c.RingsOnly (f c a)) (l : List α) (c : Core) : c.RingsOnly (l.foldl f c) := by
  induction l generalizing c with
  | nil => exact .refl c
  | cons a l ih => exact (hf c a).trans (ih (f c a))

theorem ringsOnly_vectorsAgain (fn : Nat) (q : NC) : q.2.RingsOnly (vectorsAgain fn q) :=
  ringsOnly_foldl (fun c p => by dsimp only; split; exacts [.of_csr rfl rfl, .refl c]) _ _

/-! ### The journal through the rings -/

/-- R397: the journal shows a command that no deleted ring had as executed. -/
def NvSt.executed (nv : NvSt) (ring sidx cid status result : Nat) : Prop :=
  ∃ k ∈ nv.jrec, k.gone = false ∧ k.ring = ring ∧ k.sidx = sidx ∧ k.cid = cid ∧ k.stg = 1 ∧ k.status = status ∧ k.result = result

/-- From `q` to `r` only journal records and what the rings may change differ; a command that is executed stays so. -/
structure RingsRun (q r : NC) : Prop where
  nv : r.1 = { q.1 with jrec := r.1.jrec }
  core : q.2.RingsOnly r.2
  executed : ∀ {ring sidx cid status result}, q.1.executed ring sidx cid status result → r.1.executed ring sidx cid status result

theorem RingsRun.refl (q : NC) : RingsRun q q := ⟨rfl, .refl _, id⟩

theorem RingsRun.trans {q r t : NC} (h : RingsRun q r) (g : RingsRun r t) : RingsRun q t :=
  ⟨g.nv.trans (by rw [h.nv]), h.core.trans g.core, g.executed ∘ h.executed⟩

/-- A change of the resettable part alone. -/
theorem RingsRun.of_core {nv : NvSt} {c d : Core} (h : c.RingsOnly d) : RingsRun (nv, c) (nv, d) := ⟨rfl, h, id⟩

theorem ringsRun_foldl {α : Type} {f : NC → α → NC} (hf : ∀ q a, RingsRun q (f q a)) (l : List α) (q : NC) : RingsRun q (l.foldl f q) := by
  induction l generalizing q with
  | nil => exact .refl q
  | cons a l ih => exact (hf q a).trans (ih (f q a))

theorem ringsRun_times {f : Nat → NC → NC} (hf : ∀ k q, RingsRun q (f k q)) (n : Nat) (q : NC) : RingsRun q (times f n q) := by
  induction n generalizing q with
  | zero => exact .refl q
  | succ n ih => exact (hf n q).trans (ih (f n q))

theorem mem_updFirst_of_not {p : JRec → Bool} {f : JRec → JRec} {k : JRec} (hp : p k = false) {l : List JRec} (hk : k ∈ l) : k ∈ updFirst p f l := by
  induction l with
  | nil => exact hk
  | cons j l ih =>
    rcases List.mem_cons.mp hk with rfl | hk
    · simp [updFirst, hp]
    · cases hj : p j <;> simp [updFirst, hj, hk, ih hk]

theorem mem_updFirst {p : JRec → Bool} {f : JRec → JRec} {k : JRec} {l : List JRec} (hk : k ∈ l) : k ∈ updFirst p f l ∨ f k ∈ updFirst p f l := by
  induction l with
  | nil => exact .inl hk
  | cons j l ih =>
    rcases List.mem_cons.mp hk with rfl | hk
    · cases hp : p k <;> simp [updFirst, hp]
    · cases hj : p j
      · rcases ih hk with h | h <;> simp [updFirst, hj, h]
      · simp [updFirst, hj, hk]

/-- The record that a change meets is the first that its test finds. -/
theorem mem_updFirst_of_find {p : JRec → Bool} {f : JRec → JRec} {j : JRec} {l : List JRec} (h : l.find? p = some j) : f j ∈ updFirst p f l := by
  induction l with
  | nil => simp at h
  | cons k l ih =>
    cases hk : p k
    · simp only [List.find?, hk] at h
      simp [updFirst, hk, ih h]
    · simp only [List.find?, hk, Option.some.injEq] at h
      subst h
      simp [updFirst, hk]

theorem ringsRun_jShow (q : NC) : RingsRun q (jShow q) :=
  .of_core (((ringsOnly_wr _ _ (by decide)).trans (ringsOnly_wr _ _ (by decide))).trans (ringsOnly_wr _ _ (by decide)))

/-- R398: what else the end of a command shows: a duplicate in its counter, and an event or PME where its ring takes no completion. -/
theorem ringsOnly_finish (r sidx status result : Nat) (q : NC) : q.2.RingsOnly (finish r sidx status result q).2 := by
  unfold finish
  dsimp only
  refine .trans ?_ (ringsRun_jShow _).core
  generalize hd : ({ q.2 with hif := { q.2.hif with rbuf := Tab.del q.2.hif.rbuf r } } : Core) = d
  have h0 : q.2.RingsOnly d := by subst hd; exact .of_csr rfl rfl
  generalize hc : (if status = 1 then d.cntSat F.HIF_DUPCNT.COUNT else d) = c
  have h1 : d.RingsOnly c := by
    subst hc
    split
    · exact ringsOnly_wr _ _ (by decide)
    · exact .refl d
  refine h0.trans (h1.trans ?_)
  dsimp only
  split
  · exact .refl c
  · exact (ringsOnly_raise _ _ _ _).trans (ringsOnly_pmeSend _ _)

/-- R397: the record of a command that ends as the `n`-th. -/
def JRec.finished (status result n : Nat) (j : JRec) : JRec :=
  { j with stg := 1, run := false, wait := 0, status := status, result := result % 2 ^ 64, fin := n }

theorem finish_jrec (r sidx status result : Nat) (q : NC) :
    (finish r sidx status result q).1.jrec =
      (updFirst (fun j => j.ring == r && j.sidx == sidx && j.stg == 0) (JRec.finished status result (q.1.lastFin + 1)) q.1.jrec).filter
        (fun j => !(j.gone && j.stg != 0)) := rfl

theorem ringsRun_finish (r sidx status result : Nat) (q : NC) : RingsRun q (finish r sidx status result q) where
  nv := rfl
  core := ringsOnly_finish r sidx status result q
  executed := by
    rintro _ _ _ _ _ ⟨k, hk, hgone, rfl, rfl, rfl, hstg, rfl, rfl⟩
    exact ⟨k, finish_jrec .. ▸ List.mem_filter.mpr ⟨mem_updFirst_of_not (by simp [hstg]) hk, by simp [hgone]⟩, hgone, rfl, rfl, rfl, hstg, rfl, rfl⟩

/-- R397: the command that ends is executed, with its status and result. -/
theorem finish_executed {r sidx status result : Nat} {q : NC} {j : JRec}
    (hj : q.1.jrec.find? (fun k => k.ring == r && k.sidx == sidx && k.stg == 0) = some j) (hgone : j.gone = false) :
    (finish r sidx status result q).1.executed j.ring j.sidx j.cid status (result % 2 ^ 64) :=
  ⟨j.finished status result (q.1.lastFin + 1),
    finish_jrec .. ▸ List.mem_filter.mpr ⟨mem_updFirst_of_find hj, by simp [JRec.finished, hgone]⟩, hgone, rfl, rfl, rfl, rfl, rfl, rfl⟩

/-! ### The pumps -/

theorem ringsRun_advance1 (r : Nat) (q : NC) : RingsRun q (advance1 r q) := by
  unfold advance1
  split
  · exact .refl q
  · split
    · exact .refl q
    · split
      · exact ringsRun_finish _ _ _ _ q
      · split
        · exact ringsRun_finish _ _ _ _ q
        · split
          · exact .of_core (ringsOnly_pushXf _ _)
          · exact .refl q

theorem ringsRun_advance (r : Nat) (q : NC) : RingsRun q (advance r q) := ringsRun_times (fun _ q => ringsRun_advance1 r q) _ q

theorem ringsRun_complPump (r : Nat) (q : NC) : RingsRun q (complPump r q) := by
  unfold complPump
  split
  · exact .refl q
  · split
    · exact .refl q
    · refine ⟨rfl, ringsOnly_pushXf _ _, ?_⟩
      rintro _ _ _ _ _ ⟨k, hk, hk'⟩
      rcases mem_updFirst hk with h | h
      · exact ⟨_, h, hk'⟩
      · exact ⟨_, h, hk'⟩

theorem ringsRun_eventPump (q : NC) : RingsRun q (eventPump q) := by
  unfold eventPump
  dsimp only
  split
  · exact .refl q
  · split
    · exact .of_core (ringsOnly_pmeSend _ _)
    · split
      · exact .refl q
      · exact .of_core (ringsOnly_pushXf _ _)

theorem ringsRun_faultPump (q : NC) : RingsRun q (faultPump q) := by
  unfold faultPump
  dsimp only
  split
  · exact .refl q
  · split
    · exact .refl q
    · refine .of_core (.trans ?_ (ringsOnly_wr _ _ (f := F.ATU_STAT.NHELD) (by decide)))
      exact .of_csr rfl rfl

theorem ringsRun_fetchPump (r : Nat) (q : NC) : RingsRun q (fetchPump r q) := by
  unfold fetchPump
  dsimp only
  split
  · exact .of_core (ringsOnly_pushXf _ _)
  · exact .refl q

theorem ringsRun_backPump (q : NC) : RingsRun q (backPump q) :=
  ringsRun_foldl (fun q fn => by
    split
    · exact .of_core ((ringsOnly_vectorsAgain fn q).trans (.of_csr rfl rfl))
    · exact .refl q) _ q

theorem ringsRun_hifPump (q : NC) : RingsRun q (hifPump q) := by
  unfold hifPump
  split
  · exact .refl q
  · have hrings := ringsRun_foldl (f := fun q (p : Nat × JRing) => complPump p.1 (advance p.1 (fetchPump p.1 q)))
      (fun q p => ((ringsRun_fetchPump p.1 q).trans (ringsRun_advance p.1 _)).trans (ringsRun_complPump p.1 _)) q.1.jring q
    exact ((hrings.trans (ringsRun_eventPump _)).trans (ringsRun_faultPump _)).trans (ringsRun_backPump _)

end Sys2Proof.Machine
end

section
/-! PROOF. How a ring command that may execute ends or waits, and its frame (R397, R398). -/

namespace Sys2Proof.Machine

/-! ### A command that may execute -/

/-- A search with a narrower test ends at the same element, if that passes. -/
theorem find?_of_narrower {α : Type} {p q : α → Bool} {a : α} {l : List α} (h : l.find? p = some a) (ha : q a = true)
    (hqp : ∀ b ∈ l, q b = true → p b = true) : l.find? q = some a := by
  obtain ⟨-, l₁, l₂, rfl, hbefore⟩ := List.find?_eq_some_iff_append.mp h
  refine List.find?_eq_some_iff_append.mpr ⟨ha, l₁, l₂, rfl, fun b hb => ?_⟩
  have hpb := hbefore b hb
  cases hqb : q b
  · rfl
  · rw [hqp b (by simp [hb]) hqb] at hpb
    exact hpb

/-- R398: a command that may execute is the head of its ring. -/
theorem headRec_of_runs {s : State} {op r : Nat} {masks : List Nat} {j : JRec} (h : j.runs s op r masks) : s.nv.headRec r = some j := by
  obtain ⟨hready, -⟩ := h
  unfold State.ready1 at hready
  split at hready
  · next k hk =>
    split at hready
    · exact hk.trans hready
    · contradiction
  · contradiction

/-- R397: `j` is the record by which the journal finds the running command of its ring and index, and no deleted ring had it. -/
structure JRec.Found (j : JRec) (nv : NvSt) : Prop where
  kept : j.gone = false
  first : nv.jrec.find? (fun k => k.ring == j.ring && k.sidx == j.sidx && k.stg == 0) = some j

theorem found_of_runs {s : State} {op r : Nat} {masks : List Nat} {j : JRec} (h : j.runs s op r masks) (hgone : ∀ k ∈ s.nv.jrec, k.gone = false) :
    j.Found s.nv := by
  have hhead := headRec_of_runs h
  have hp := List.find?_some hhead
  simp only [Bool.and_eq_true, beq_iff_eq] at hp
  obtain ⟨⟨hring, hstg⟩, -⟩ := hp
  refine ⟨hgone j (List.mem_of_find?_eq_some hhead), find?_of_narrower hhead (by simp [hstg]) fun k hk hq => ?_⟩
  simp only [Bool.and_eq_true, beq_iff_eq] at hq
  obtain ⟨⟨hkring, -⟩, hkstg⟩ := hq
  simp [hkring, hring, hkstg, hgone k hk]

/-- R402: a command that may execute completes as its effect says. -/
theorem ends_runCmd {i : Instr} {s : State} {op r : Nat} {masks : List Nat} {j : JRec} {P : State → Prop} (f : JRec → State → State)
    (hs : s.pwr.held = false) (hr : j.runs s op r masks) (he : exec i s = .next (runCmd op r masks f s)) (h : P (f j s)) : Ends i s P :=
  ⟨_, he.trans (congrArg _ (runCmd_of_runs f hs hr)), h⟩

/-! ### What a command changes -/

/-- A ring command changes records of the journal, registers of HIF, ATU and the blocks of a list, and what else the resettable part has. -/
def cmdFrame (bs : List Nat) (s t : State) : Prop :=
  nvOnly s t ∧ t.nv = { s.nv with jrec := t.nv.jrec } ∧ blocksOnly (F.HIF_STAT.ACCEPT.block :: F.ATU_STAT.NHELD.block :: bs) s.core t.core

/-- R397, R398: from `s` to `t` the command of `j` has ended, and the rings have gone on. -/
structure CmdEnds (j : JRec) (status result : Nat) (s t : State) : Prop where
  nv : nvOnly s t
  run : RingsRun (s.nv, s.core) (t.nv, t.core)
  ended : j.ended status result t

theorem cmdEnd_ends {j : JRec} {s : State} (hs : s.pwr.held = false) (hj : j.Found s.nv) (status result : Nat) :
    CmdEnds j status result s (cmdEnd j status result s) := by
  rw [cmdEnd, onNv_run _ hs]
  have hpump := ringsRun_hifPump (finish j.ring j.sidx status result (s.nv, s.core))
  refine ⟨rfl, (ringsRun_finish j.ring j.sidx status result (s.nv, s.core)).trans hpump, ?_⟩
  obtain ⟨k, hk, -, hk'⟩ := hpump.executed (finish_executed (q := (s.nv, s.core)) hj.first hj.kept)
  exact ⟨k, hk, hk'⟩

theorem cmdEnd_frame {j : JRec} {s : State} (hs : s.pwr.held = false) (hj : j.Found s.nv) (status result : Nat) :
    cmdFrame [] s (cmdEnd j status result s) ∧ j.ended status result (cmdEnd j status result s) :=
  have h := cmdEnd_ends hs hj status result
  ⟨⟨h.nv, h.run.nv, h.run.core.regs⟩, h.ended⟩

theorem Core.RingsOnly.rd {c d : Core} (h : c.RingsOnly d) {f : Fld} (hf : f.block ∉ ringBlocks) : d.rd f = c.rd f := h.regs f hf

theorem Core.RingsOnly.imp {c d : Core} (h : c.RingsOnly d) : d.imp = c.imp := by
  show d.besideRings.imp = c.besideRings.imp
  rw [h.beside]

/-- R398: a command that waits. -/
theorem cmdWait_waits {j : JRec} {s : State} (hj : j.Found s.nv) (w : Nat) : j.waits w (cmdWait j w s) := by
  have hp := List.find?_some hj.first
  simp only [Bool.and_eq_true, beq_iff_eq] at hp
  exact ⟨{ j with run := true, wait := w }, mem_updFirst_of_find hj.first, rfl, rfl, rfl, hp.2, rfl, rfl⟩

/-- An effect on registers of the blocks of a list, and then the end of the command. -/
theorem cmdEnd_onCore {j : JRec} {s : State} {bs : List Nat} (f : Core → Core) (hs : s.pwr.held = false) (hj : j.Found s.nv)
    (hf : blocksOnly bs s.core (f s.core)) (status result : Nat) :
    let t := cmdEnd j status result (onCore f s)
    cmdFrame bs s t ∧ j.ended status result t ∧ (f s.core).RingsOnly t.core := by
  intro t
  have hu : onCore f s = { s with core := f s.core } := onCore_run f hs
  have h : CmdEnds j status result { s with core := f s.core } t := by
    show CmdEnds _ _ _ _ (cmdEnd j status result (onCore f s))
    rw [hu]
    exact cmdEnd_ends (s := { s with core := f s.core }) hs hj status result
  have hregs : blocksOnly (F.HIF_STAT.ACCEPT.block :: F.ATU_STAT.NHELD.block :: bs) (f s.core) t.core :=
    blocksOnly_mono h.run.core.regs (by simp [ringBlocks])
  exact ⟨⟨h.nv, h.run.nv, blocksOnly_trans (blocksOnly_mono hf (by simp +contextual)) hregs⟩, h.ended, h.run.core⟩

theorem cmdWait_onCore {j : JRec} {s : State} {bs : List Nat} (f : Core → Core) (hs : s.pwr.held = false) (hj : j.Found s.nv)
    (hf : blocksOnly bs s.core (f s.core)) (w : Nat) :
    let t := cmdWait j w (onCore f s)
    cmdFrame bs s t ∧ j.waits w t ∧ t.core = f s.core := by
  intro t
  have ht : t = cmdWait j w { s with core := f s.core } := congrArg (cmdWait j w) (onCore_run f hs)
  rw [ht]
  exact ⟨⟨rfl, rfl, blocksOnly_mono hf (by simp +contextual)⟩, cmdWait_waits hj w, rfl⟩

/-- A command that has an effect on the resettable part and then ends. -/
theorem ends_cmdEnd_onCore {i : Instr} {s : State} {op r : Nat} {masks bs : List Nat} {j : JRec} {g : JRec → State → State} {res : Nat} {P : Core → Prop}
    (f : Core → Core) (hs : s.pwr.held = false) (hj : j.Found s.nv) (hr : j.runs s op r masks) (he : exec i s = .next (runCmd op r masks g s))
    (hg : g j s = cmdEnd j 0 res (onCore f s)) (hf : blocksOnly bs s.core (f s.core)) (hP : ∀ d, (f s.core).RingsOnly d → P d) :
    Ends i s fun t => cmdFrame bs s t ∧ (∃ res, j.ended 0 res t) ∧ P t.core := by
  refine ends_runCmd g hs hr he ?_
  rw [hg]
  obtain ⟨hframe, hended, hrings⟩ := cmdEnd_onCore f hs hj hf 0 res
  exact ⟨hframe, ⟨res, hended⟩, hP _ hrings⟩

/-- A command that has an effect on the resettable part and then waits. -/
theorem ends_cmdWait_onCore {i : Instr} {s : State} {op r w : Nat} {masks bs : List Nat} {j : JRec} {g : JRec → State → State} {P : Core → Prop}
    (f : Core → Core) (hs : s.pwr.held = false) (hj : j.Found s.nv) (hr : j.runs s op r masks) (he : exec i s = .next (runCmd op r masks g s))
    (hg : g j s = cmdWait j w (onCore f s)) (hf : blocksOnly bs s.core (f s.core)) (hP : P (f s.core)) :
    Ends i s fun t => cmdFrame bs s t ∧ j.waits w t ∧ P t.core := by
  refine ends_runCmd g hs hr he ?_
  rw [hg]
  obtain ⟨hframe, hwaits, hcore⟩ := cmdWait_onCore f hs hj hf w
  exact ⟨hframe, hwaits, hcore ▸ hP⟩

end Sys2Proof.Machine
end

section
/-! PROOF. O35: NOP, REG_READ, GLEAN, REST, IMP_BURST and CTE_LOAD (R402). -/

namespace Sys2Proof.Machine

/-! ### Requests of EST (R210, R216, R219) -/

/-- The blocks of EST and SHF, which a request of a slot reaches. -/
def slotBlks : List Nat := [F.EST_STAT.EOD.block, F.SHF_STAT.SLOT.block]

theorem blocksOnly_slotAsk (kind : Nat) (c : Core) : blocksOnly [F.SHF_STAT.SLOT.block] c (slotAsk kind c) := by
  unfold slotAsk
  split
  · exact blocksOnly_refl _ c
  · exact blocksOnly_wr (blocksOnly_wr (blocksOnly_csr rfl) (by decide)) (by decide)

theorem blocksOnly_slotRelease (c : Core) : blocksOnly [F.SHF_STAT.SLOT.block] c (slotRelease c) := by
  unfold slotRelease
  split
  · exact blocksOnly_of_csr (blocksOnly_wr (g := F.SHF_STAT.SLOT) (v := 3) (blocksOnly_refl _ c) (by decide)) rfl
  · split
    · exact blocksOnly_wr (blocksOnly_refl _ c) (by decide)
    · exact blocksOnly_refl _ c

theorem rd_slotAsk (kind : Nat) (c : Core) {f : Fld} (hf : f.block ∉ [F.SHF_STAT.SLOT.block]) : (slotAsk kind c).rd f = c.rd f :=
  blocksOnly_slotAsk kind c f hf

theorem rd_slotRelease (c : Core) {f : Fld} (hf : f.block ∉ [F.SHF_STAT.SLOT.block]) : (slotRelease c).rd f = c.rd f :=
  blocksOnly_slotRelease c f hf

/-- No request of EST is held: there is none to pass on. -/
theorem passOn_of_none {c : Core} (hrest : c.on F.EST_REST_CTRL.REQ = false) (hgln : c.on F.EST_GLN_CTRL.REQ = false) : passOn c = c := by
  simp [passOn, hrest, hgln]

/-- R217, R219: a gleaning cycle has ended with a cause and its slot is released; a request that is held has not been passed on. -/
def gleanReleased (cause : Nat) (c : Core) : Core :=
  (((slotRelease { c with est := { c.est with tgt := none, glnCount := false, glnEnd := false } }).wr F.EST_GLN_CTRL.STATE 0).wr
    F.EST_GLN_CTRL.CAUSE cause).raise 54 0 cause

theorem gleanEnd_eq (cause : Nat) (c : Core) : gleanEnd cause c = passOn (gleanReleased cause c) := rfl

theorem blocksOnly_gleanReleased (cause : Nat) (c : Core) : blocksOnly slotBlks c (gleanReleased cause c) := by
  have hslot := blocksOnly_slotRelease { c with est := { c.est with tgt := none, glnCount := false, glnEnd := false } }
  exact blocksOnly_raise (blocksOnly_wr (blocksOnly_wr (blocksOnly_mono hslot (by decide)) (by decide)) (by decide))

theorem rd_gleanReleased (cause : Nat) (c : Core) {f : Fld} (hblock : f.block ∉ [F.SHF_STAT.SLOT.block])
    (hstate : f.key ≠ F.EST_GLN_CTRL.STATE.key) (hcause : f.key ≠ F.EST_GLN_CTRL.CAUSE.key) : (gleanReleased cause c).rd f = c.rd f := by
  rw [gleanReleased, Core.rd_raise, Core.rd_wr_ne _ _ hcause, Core.rd_wr_ne _ _ hstate, rd_slotRelease _ hblock, Core.rd_with_est]

/-- R219: ABORT of a gleaning cycle, with no request held. -/
theorem gleanAbort_running {c : Core} (hgl : c.rd F.EST_GLN_CTRL.STATE ≠ 0) (hrest : c.on F.EST_REST_CTRL.REQ = false) (hgln : c.on F.EST_GLN_CTRL.REQ = false) :
    gleanAbort c = gleanReleased 1 c := by
  rw [gleanAbort, if_neg hgl, gleanEnd_eq]
  refine passOn_of_none ?_ ?_ <;> rw [Core.on_eq, rd_gleanReleased _ _ (by decide) (by decide) (by decide)]
  · exact hrest
  · exact hgln

/-- A slot is asked for: REQ is taken, and the STATE of the request is 1. -/
theorem slotRequest {c : Core} {req state : Fld} (kind : Nat) (hreq : req.block = F.EST_STAT.EOD.block) (hstate : state.block = F.EST_STAT.EOD.block)
    (hne : req.key ≠ state.key) (hwidth : 1 < 2 ^ state.width) :
    let d := (slotAsk kind ((c.wr req 0).wr state 1)).raise 54 0 1
    blocksOnly slotBlks c d ∧ d.on req = false ∧ d.rd state = 1 := by
  intro d
  have hask : blocksOnly slotBlks ((c.wr req 0).wr state 1) d := blocksOnly_raise (blocksOnly_mono (blocksOnly_slotAsk kind _) (by decide))
  have hrd : ∀ f : Fld, f.block = F.EST_STAT.EOD.block → d.rd f = ((c.wr req 0).wr state 1).rd f := fun f hf =>
    rd_slotAsk kind _ (by rw [hf]; decide)
  refine ⟨blocksOnly_trans ?_ hask, ?_, ?_⟩
  · exact blocksOnly_wr (blocksOnly_wr (blocksOnly_refl _ c) (by simp [slotBlks, hreq])) (by simp [slotBlks, hstate])
  · rw [Core.on_eq, hrd _ hreq, Core.rd_wr_ne _ _ hne, Core.rd_wr_same]; simp
  · rw [hrd _ hstate, Core.rd_wr_same, Nat.mod_eq_of_lt hwidth]

/-- R216: a gleaning cycle is asked for. -/
theorem gleanReq_idle {c : Core} (hgl : c.rd F.EST_GLN_CTRL.STATE = 0) (hrs : c.rd F.EST_REST_CTRL.STATE = 0) (hfirst : c.on F.EST_STAT.FIRSTPEND = false) :
    gleanReq c = (slotAsk 1 ((c.wr F.EST_GLN_CTRL.REQ 0).wr F.EST_GLN_CTRL.STATE 1)).raise 54 0 1 := by
  simp [gleanReq, hgl, hrs, hfirst]

/-- R216: a request during a gleaning cycle is held. -/
theorem gleanReq_running {c : Core} (hgl : c.rd F.EST_GLN_CTRL.STATE ≠ 0) : gleanReq c = c.wr F.EST_GLN_CTRL.REQ 1 := by
  simp [gleanReq, hgl]

/-- R210: a rest slot is refused during a gleaning cycle. -/
theorem restReq_gleaning {c : Core} (hgl : c.rd F.EST_GLN_CTRL.STATE ≠ 0) :
    restReq c = (c.wr F.EST_REST_CTRL.REQ 0).wr F.EST_REST_CTRL.RESULT 3 := by
  simp [restReq, hgl]

/-- R210: a rest slot is asked for. -/
theorem restReq_idle {c : Core} (hgl : c.rd F.EST_GLN_CTRL.STATE = 0) (hrs : c.rd F.EST_REST_CTRL.STATE = 0) :
    restReq c = (slotAsk 0 ((c.wr F.EST_REST_CTRL.REQ 0).wr F.EST_REST_CTRL.STATE 1)).raise 54 0 1 := by
  simp [restReq, hgl, hrs]

/-- R210: a request during a rest slot is held. -/
theorem restReq_running {c : Core} (hgl : c.rd F.EST_GLN_CTRL.STATE = 0) (hrs : c.rd F.EST_REST_CTRL.STATE ≠ 0) :
    restReq c = c.wr F.EST_REST_CTRL.REQ 1 := by
  simp [restReq, hgl, hrs]

/-! ### The ends of REG_READ, GLEAN, REST and CTE_LOAD -/

theorem cmdRegRead_badOffset {j : JRec} {s : State} (hoff : offsetOk (j.arg 0 4) = false) : cmdRegRead j s = cmdEnd j 4 0 s := by
  simp [cmdRegRead, hoff]

theorem cmdRegRead_refused {j : JRec} {s : State} (hoff : offsetOk (j.arg 0 4) = true) (hown : j.own ≠ 0)
    (hreach : s.core.fnReaches j.own (j.arg 0 4) = false) : cmdRegRead j s = cmdEnd j 3 0 s := by
  simp [cmdRegRead, hoff, hown, hreach]

theorem cmdRegRead_granted {j : JRec} {s : State} (hoff : offsetOk (j.arg 0 4) = true)
    (hreach : j.own = 0 ∨ s.core.fnReaches j.own (j.arg 0 4) = true) :
    cmdRegRead j s = cmdEnd j 0 ((s.core.pastPosted (j.arg 0 4)).readWord (j.own == 0) (j.arg 0 4)) s := by
  rcases hreach with h | h <;> simp [cmdRegRead, hoff, h]

theorem cmdGlean_abort {j : JRec} {s : State} (ha : j.arg 0 1 ≠ 0) :
    cmdGlean j s = cmdEnd j 0 ((onCore gleanAbort s).core.readWord true F.EST_GLN_CTRL.REQ.off) (onCore gleanAbort s) := by
  simp [cmdGlean, ha]

theorem cmdGlean_taken {j : JRec} {s : State} (hs : s.pwr.held = false) (ha : j.arg 0 1 = 0) (hreq : (gleanReq s.core).on F.EST_GLN_CTRL.REQ = false) :
    cmdGlean j s = cmdEnd j 0 ((onCore gleanReq s).core.readWord true F.EST_GLN_CTRL.REQ.off) (onCore gleanReq s) := by
  simp [cmdGlean, ha, onCore_run _ hs, hreq]

theorem cmdGlean_held {j : JRec} {s : State} (hs : s.pwr.held = false) (ha : j.arg 0 1 = 0) (hreq : (gleanReq s.core).on F.EST_GLN_CTRL.REQ = true) :
    cmdGlean j s = cmdWait j 8 (onCore gleanReq s) := by
  simp [cmdGlean, ha, onCore_run _ hs, hreq]

theorem cmdRest_taken {j : JRec} {s : State} (hs : s.pwr.held = false) (hreq : (restReq s.core).on F.EST_REST_CTRL.REQ = false) :
    cmdRest j s = cmdEnd j 0 ((onCore restReq s).core.readWord true F.EST_REST_CTRL.REQ.off) (onCore restReq s) := by
  simp [cmdRest, onCore_run _ hs, hreq]

theorem cmdRest_held {j : JRec} {s : State} (hs : s.pwr.held = false) (hreq : (restReq s.core).on F.EST_REST_CTRL.REQ = true) :
    cmdRest j s = cmdWait j 9 (onCore restReq s) := by
  simp [cmdRest, onCore_run _ hs, hreq]

theorem foldl_holdOwn {m : Master} {late : Bool} {ws : List (Fld × Nat)} (h : ∀ w ∈ ws, w.1.heldUnseen = true) (c : Core) :
    ws.foldl (fun d w => holdOwn m w.1 .normal w.2 late d) c = { c with wait := c.wait ++ ws.map fun w => ⟨w.1, w.2, .normal, late, m⟩ } := by
  induction ws generalizing c with
  | nil => simp
  | cons w ws ih =>
    rw [List.foldl_cons, holdOwn, holdWrite_of_heldUnseen (h w (by simp)), ih fun v hv => h v (by simp [hv])]
    simp

/-- R16, R17: the writes of one ring command are held one behind the other, with the mark of one instant. -/
theorem holdAll_eq {ws : List (Fld × Nat)} {c : Core} (h : ∀ w ∈ ws, w.1.heldUnseen = true) :
    holdAll ws c = { c.moment with wait := c.wait ++ ws.map fun w => ⟨w.1, w.2, .normal, c.pastCutOff, .super⟩ } :=
  foldl_holdOwn h c.moment

theorem loadWrites_heldUnseen {c : Core} {base len swap bind : Nat} {b : List Nat} :
    ∀ w ∈ c.loadWrites base len swap bind b, w.1.heldUnseen = true := by
  intro w hw
  have hf : w.1 ∈ [F.CTE_LOAD.BASE, F.CTE_LOAD.LEN, F.CTE_SWAP.SWAP, F.CTE_SWAP.KEEP, F.CTE_SWAP.BIND, F.CTE_PMADDR.ADDR, F.CTE_PMDATA.DATA,
      F.CTE_CTRL.LOAD] := by
    simp only [Core.loadWrites, List.mem_append, List.mem_cons, List.mem_map, List.not_mem_nil, or_false] at hw
    rcases hw with (((rfl | rfl | rfl | rfl | rfl | rfl) | ⟨i, -, rfl⟩) | rfl | rfl) <;> simp
  generalize w.1 = f at hf
  revert f
  decide

/-! ### The commands -/

theorem regRead_ends {s : State} {j : JRec} {r : Nat} (hs : s.pwr.held = false) (hj : j.Found s.nv) (hr : j.runs s 17 r [255, 255, 255, 255]) :
    (offsetOk (j.arg 0 4) = false → Ends (.regRead r) s fun t => cmdFrame [] s t ∧ j.ended 4 0 t) ∧
    (offsetOk (j.arg 0 4) = true → j.own ≠ 0 → s.core.fnReaches j.own (j.arg 0 4) = false →
      Ends (.regRead r) s fun t => cmdFrame [] s t ∧ j.ended 3 0 t) ∧
    (offsetOk (j.arg 0 4) = true → j.own = 0 ∨ s.core.fnReaches j.own (j.arg 0 4) = true → Ends (.regRead r) s fun t =>
      cmdFrame [] s t ∧ j.ended 0 ((s.core.pastPosted (j.arg 0 4)).readWord (j.own == 0) (j.arg 0 4)) t) := by
  refine ⟨fun hoff => ?_, fun hoff hown hreach => ?_, fun hoff hreach => ?_⟩ <;> refine ends_runCmd cmdRegRead hs hr rfl ?_
  · rw [cmdRegRead_badOffset hoff]
    exact cmdEnd_frame hs hj _ _
  · rw [cmdRegRead_refused hoff hown hreach]
    exact cmdEnd_frame hs hj _ _
  · rw [cmdRegRead_granted hoff hreach]
    exact cmdEnd_frame hs hj _ _

theorem gleanCmd_abort_ends {s : State} {j : JRec} {r : Nat} (hs : s.pwr.held = false) (hj : j.Found s.nv) (hr : j.runs s 39 r [1])
    (ha : j.arg 0 1 = 1) (hrest : s.core.on F.EST_REST_CTRL.REQ = false) (hgln : s.core.on F.EST_GLN_CTRL.REQ = false)
    (hgl : s.core.rd F.EST_GLN_CTRL.STATE ≠ 0) : Ends (.gleanCmd r) s fun t =>
      cmdFrame slotBlks s t ∧ (∃ res, j.ended 0 res t) ∧ t.core.rd F.EST_GLN_CTRL.STATE = 0 ∧ t.core.rd F.EST_GLN_CTRL.CAUSE = 1 := by
  have habort := gleanAbort_running hgl hrest hgln
  have hstate : (gleanAbort s.core).rd F.EST_GLN_CTRL.STATE = 0 := by
    rw [habort, gleanReleased, Core.rd_raise, Core.rd_wr_ne _ _ (by decide), Core.rd_wr_same]; rfl
  have hcause : (gleanAbort s.core).rd F.EST_GLN_CTRL.CAUSE = 1 := by rw [habort, gleanReleased, Core.rd_raise, Core.rd_wr_same]; rfl
  exact ends_cmdEnd_onCore (P := fun d => d.rd F.EST_GLN_CTRL.STATE = 0 ∧ d.rd F.EST_GLN_CTRL.CAUSE = 1) gleanAbort hs hj hr rfl
    (cmdGlean_abort (by omega)) (habort ▸ blocksOnly_gleanReleased 1 s.core) fun d hd =>
      ⟨(hd.rd (by decide)).trans hstate, (hd.rd (by decide)).trans hcause⟩

theorem gleanCmd_taken_ends {s : State} {j : JRec} {r : Nat} (hs : s.pwr.held = false) (hj : j.Found s.nv) (hr : j.runs s 39 r [1])
    (ha : j.arg 0 1 = 0) (hgl : s.core.rd F.EST_GLN_CTRL.STATE = 0) (hrs : s.core.rd F.EST_REST_CTRL.STATE = 0)
    (hfirst : s.core.on F.EST_STAT.FIRSTPEND = false) : Ends (.gleanCmd r) s fun t =>
      cmdFrame slotBlks s t ∧ (∃ res, j.ended 0 res t) ∧ t.core.rd F.EST_GLN_CTRL.STATE = 1 := by
  have hask := slotRequest (c := s.core) (req := F.EST_GLN_CTRL.REQ) (state := F.EST_GLN_CTRL.STATE) 1 rfl rfl (by decide) (by decide)
  rw [← gleanReq_idle hgl hrs hfirst] at hask
  obtain ⟨hblocks, hreq, hstate⟩ := hask
  exact ends_cmdEnd_onCore gleanReq hs hj hr rfl (cmdGlean_taken hs ha hreq) hblocks fun d hd => (hd.rd (by decide)).trans hstate

theorem gleanCmd_held_ends {s : State} {j : JRec} {r : Nat} (hs : s.pwr.held = false) (hj : j.Found s.nv) (hr : j.runs s 39 r [1])
    (ha : j.arg 0 1 = 0) (hgl : s.core.rd F.EST_GLN_CTRL.STATE ≠ 0) : Ends (.gleanCmd r) s fun t =>
      cmdFrame slotBlks s t ∧ j.waits 8 t ∧ t.core.rd F.EST_GLN_CTRL.REQ = 1 := by
  have hreq : (gleanReq s.core).rd F.EST_GLN_CTRL.REQ = 1 := by rw [gleanReq_running hgl, Core.rd_wr_same]; rfl
  have hblocks : blocksOnly slotBlks s.core (gleanReq s.core) := by
    rw [gleanReq_running hgl]
    exact blocksOnly_wr (blocksOnly_refl _ _) (by decide)
  exact ends_cmdWait_onCore (P := fun d => d.rd F.EST_GLN_CTRL.REQ = 1) gleanReq hs hj hr rfl
    (cmdGlean_held hs ha (by simp [Core.on_eq, hreq])) hblocks hreq

theorem restCmd_refused_ends {s : State} {j : JRec} {r : Nat} (hs : s.pwr.held = false) (hj : j.Found s.nv) (hr : j.runs s 40 r [])
    (hgl : s.core.rd F.EST_GLN_CTRL.STATE ≠ 0) : Ends (.restCmd r) s fun t =>
      cmdFrame slotBlks s t ∧ (∃ res, j.ended 0 res t) ∧ t.core.rd F.EST_REST_CTRL.RESULT = 3 := by
  have hreq : (restReq s.core).on F.EST_REST_CTRL.REQ = false := by
    rw [restReq_gleaning hgl, Core.on_eq, Core.rd_wr_ne _ _ (by decide), Core.rd_wr_same]; rfl
  have hresult : (restReq s.core).rd F.EST_REST_CTRL.RESULT = 3 := by rw [restReq_gleaning hgl, Core.rd_wr_same]; rfl
  have hblocks : blocksOnly slotBlks s.core (restReq s.core) := by
    rw [restReq_gleaning hgl]
    exact blocksOnly_wr (blocksOnly_wr (blocksOnly_refl _ _) (by decide)) (by decide)
  exact ends_cmdEnd_onCore restReq hs hj hr rfl (cmdRest_taken hs hreq) hblocks fun d hd => (hd.rd (by decide)).trans hresult

theorem restCmd_taken_ends {s : State} {j : JRec} {r : Nat} (hs : s.pwr.held = false) (hj : j.Found s.nv) (hr : j.runs s 40 r [])
    (hgl : s.core.rd F.EST_GLN_CTRL.STATE = 0) (hrs : s.core.rd F.EST_REST_CTRL.STATE = 0) : Ends (.restCmd r) s fun t =>
      cmdFrame slotBlks s t ∧ (∃ res, j.ended 0 res t) ∧ t.core.rd F.EST_REST_CTRL.STATE = 1 := by
  have hask := slotRequest (c := s.core) (req := F.EST_REST_CTRL.REQ) (state := F.EST_REST_CTRL.STATE) 0 rfl rfl (by decide) (by decide)
  rw [← restReq_idle hgl hrs] at hask
  obtain ⟨hblocks, hreq, hstate⟩ := hask
  exact ends_cmdEnd_onCore restReq hs hj hr rfl (cmdRest_taken hs hreq) hblocks fun d hd => (hd.rd (by decide)).trans hstate

theorem restCmd_held_ends {s : State} {j : JRec} {r : Nat} (hs : s.pwr.held = false) (hj : j.Found s.nv) (hr : j.runs s 40 r [])
    (hgl : s.core.rd F.EST_GLN_CTRL.STATE = 0) (hrs : s.core.rd F.EST_REST_CTRL.STATE ≠ 0) : Ends (.restCmd r) s fun t =>
      cmdFrame slotBlks s t ∧ j.waits 9 t ∧ t.core.rd F.EST_REST_CTRL.REQ = 1 := by
  have hreq : (restReq s.core).rd F.EST_REST_CTRL.REQ = 1 := by rw [restReq_running hgl hrs, Core.rd_wr_same]; rfl
  have hblocks : blocksOnly slotBlks s.core (restReq s.core) := by
    rw [restReq_running hgl hrs]
    exact blocksOnly_wr (blocksOnly_refl _ _) (by decide)
  exact ends_cmdWait_onCore (P := fun d => d.rd F.EST_REST_CTRL.REQ = 1) restReq hs hj hr rfl
    (cmdRest_held hs (by simp [Core.on_eq, hreq])) hblocks hreq

theorem impBurst_ends {s : State} {j : JRec} {r : Nat} (hs : s.pwr.held = false) (hj : j.Found s.nv) (hr : j.runs s 41 r []) :
    Ends (.impBurst r) s fun t => nvOnly s t ∧ t.core.imp = (impGo s.core).imp ∧ t.core.rd F.IMP_STAT.STATE = (impGo s.core).rd F.IMP_STAT.STATE ∧
      j.ended 0 ((impGo s.core).readWord true F.IMP_STAT.STATE.off) t := by
  refine ends_runCmd cmdImpBurst hs hr rfl ?_
  rw [cmdImpBurst, onCore_run _ hs]
  have h := cmdEnd_ends (s := { s with core := impGo s.core }) hs hj 0 ((impGo s.core).readWord true F.IMP_STAT.STATE.off)
  exact ⟨h.nv, h.run.core.imp, h.run.core.rd (by decide), h.ended⟩

theorem cteLoad_refused_ends {s : State} {j : JRec} {r : Nat} (hs : s.pwr.held = false) (hj : j.Found s.nv)
    (hr : j.runs s 42 r [255, 3, 255, 7, 7, 0, 255, 255]) (h : 1024 < j.arg 2 2 ∨ j.blen < 4 * j.arg 2 2) :
    Ends (.cteLoad r) s fun t => cmdFrame [] s t ∧ j.ended 4 0 t := by
  refine ends_runCmd cmdCteLoad hs hr rfl ?_
  rw [cmdCteLoad, if_pos h]
  exact cmdEnd_frame hs hj 4 0

theorem cteLoad_ends {s : State} {j : JRec} {r : Nat} (hs : s.pwr.held = false) (hj : j.Found s.nv)
    (hr : j.runs s 42 r [255, 3, 255, 7, 7, 0, 255, 255]) (hlen : j.arg 2 2 ≤ 1024) (hbuf : 4 * j.arg 2 2 ≤ j.blen) :
    Ends (.cteLoad r) s fun t => nvOnly s t ∧ noRegister s.core t.core ∧ t.core.cte = s.core.cte ∧ j.waits 16 t ∧
      t.core.wait = s.core.wait ++ (s.core.loadWrites (j.arg 0 2) (j.arg 2 2) (j.arg 4 1) (j.arg 6 2) (s.buffer j.ring)).map
        fun p => ⟨p.1, p.2, .normal, s.core.pastCutOff, .super⟩ := by
  have hok : ¬ (1024 < j.arg 2 2 ∨ j.blen < 4 * j.arg 2 2) := by omega
  refine ends_runCmd cmdCteLoad hs hr rfl ?_
  rw [cmdCteLoad, if_neg hok, onCore_run _ hs, holdAll_eq loadWrites_heldUnseen]
  exact ⟨rfl, fun _ => rfl, rfl, cmdWait_waits (s := { s with core := _ }) hj 16, rfl⟩

/-- Settles O35: each command by the way that it ends or waits; the rings that go on behind an end touch journal records and HIF and ATU alone. -/
theorem moduleCommands : Obligations.ModuleCommands := by
  unfold Obligations.ModuleCommands
  intro s r j hs hgone
  refine ⟨fun hr => ?nop, fun hr => ?read, fun hr => ?glean, fun hr => ?rest, fun hr => ?burst, fun hr => ?load⟩ <;>
    have hj := found_of_runs hr hgone
  case nop => exact ends_runCmd cmdNop hs hr rfl (cmdEnd_frame hs hj 0 0)
  case read => exact regRead_ends hs hj hr
  case glean => exact ⟨gleanCmd_abort_ends hs hj hr, gleanCmd_taken_ends hs hj hr, gleanCmd_held_ends hs hj hr⟩
  case rest => exact ⟨restCmd_refused_ends hs hj hr, restCmd_taken_ends hs hj hr, restCmd_held_ends hs hj hr⟩
  case burst => exact impBurst_ends hs hj hr
  case load => exact ⟨cteLoad_refused_ends hs hj hr, cteLoad_ends hs hj hr⟩

end Sys2Proof.Machine
end

section
/-! PROOF. The register map (R37, R546), and the write of a plain register by a master that sees the whole space (R33 to R42). -/

namespace Sys2Proof.Machine

/-! ### The register map -/

/-- R33, R37: a field lies in one word; one that is read-only has no command of its own. -/
def Fld.inWord (f : Fld) : Bool := decide (0 < f.width) && decide (f.lsb + f.width ≤ 32) && !(f.acc == .ro && f.cls == .own)

/-- R546: a register of block `b` lies in the normal view with every index, and its fields in one word. -/
def RegDef.inView (b : Nat) (d : RegDef) : Bool :=
  decide (b < blockCount) && decide (0 < d.stride) && decide (b * 16384 ≤ d.base) && decide (d.base + d.n * d.stride ≤ b * 16384 + 4096) &&
    d.flds.all Fld.inWord

theorem blockRegs_inView (b : Nat) : (blockRegs b).all (RegDef.inView b) = true := by
  unfold blockRegs
  split <;> rfl

/-- A field at an offset is one of a register that stands there, with the offset of its index. -/
theorem exists_reg_of_mem_fieldsIn {ds : List RegDef} {o : Nat} {f : Fld} (h : f ∈ fieldsIn ds o) :
    ∃ d ∈ ds, d.hits o = true ∧ ∃ g ∈ d.flds, f = { g with off := g.off + (o - d.base) } := by
  induction ds with
  | nil => simp [fieldsIn] at h
  | cons d ds ih =>
    by_cases hd : d.hits o = true
    · simp only [fieldsIn, hd, if_true, List.mem_map] at h
      obtain ⟨g, hg, rfl⟩ := h
      exact ⟨d, by simp, hd, g, hg, rfl⟩
    · simp only [fieldsIn, hd] at h
      obtain ⟨e, he, hrest⟩ := ih h
      exact ⟨e, by simp [he], hrest⟩

theorem RegDef.lt_of_hits {d : RegDef} {o : Nat} (hs : 0 < d.stride) (h : d.hits o = true) : d.base ≤ o ∧ o < d.base + d.n * d.stride := by
  simp only [RegDef.hits, Bool.and_eq_true, decide_eq_true_eq] at h
  obtain ⟨hbase, ⟨hn, -⟩, -⟩ := h
  have := (Nat.div_lt_iff_lt_mul hs).mp hn
  exact ⟨hbase, by omega⟩

/-- R546: every register lies in the first 4096 bytes of a block that exists, and its fields in one word. -/
theorem inView_of_mem_regAt {o : Nat} {f : Fld} (h : f ∈ regAt o) : o / 16384 < blockCount ∧ o % 16384 < 4096 ∧ f.inWord = true := by
  obtain ⟨d, hd, hhits, g, hg, rfl⟩ := exists_reg_of_mem_fieldsIn h
  have hv := List.all_eq_true.mp (blockRegs_inView (o / 16384)) d hd
  simp only [RegDef.inView, Bool.and_eq_true, decide_eq_true_eq, List.all_eq_true] at hv
  obtain ⟨⟨⟨⟨hb, hs⟩, hlo⟩, hhi⟩, hw⟩ := hv
  have := RegDef.lt_of_hits hs hhits
  exact ⟨hb, by omega, hw g hg⟩

/-- A write of a whole word reaches every field of it. -/
theorem bitsOf_fullMask_ne_zero {f : Fld} (h : f.inWord = true) : f.bitsOf (2 ^ 32 - 1) ≠ 0 := by
  simp only [Fld.inWord, Bool.and_eq_true, decide_eq_true_eq] at h
  obtain ⟨⟨hw, hl⟩, -⟩ := h
  have hbit : (f.bitsOf (2 ^ 32 - 1)).testBit 0 = true := by
    rw [Fld.bitsOf, Nat.testBit_mod_two_pow, Nat.testBit_div_two_pow, Nat.testBit_two_pow_sub_one]
    simp only [Bool.and_eq_true, decide_eq_true_eq]
    omega
  intro h0
  simp only [h0, Nat.zero_testBit, Bool.false_eq_true] at hbit

/-- Two fields of one place in the store stand in the same register. -/
theorem off_eq_of_key_eq {f g : Fld} (hf : f.inWord = true) (hg : g.lsb < 32) (h : f.key = g.key) : f.off = g.off := by
  simp only [Fld.inWord, Bool.and_eq_true, decide_eq_true_eq] at hf
  obtain ⟨⟨hw, hl⟩, -⟩ := hf
  unfold Fld.key at h
  omega

/-! ### Plain registers -/

/-- The classes of instant at which a plain register of the statements governs. -/
def plainCls : List Cls := [.imm, .tick, .frame, .epoch]

/-- What `plainReg` says, with what the register map adds. -/
structure Plain (k : Cls) (o : Nat) : Prop where
  cls : k ∈ plainCls
  block : o / 16384 < blockCount
  normal : o % 16384 < 4096
  posted : postedBlock (o / 16384) = false
  notBlc : o / 16384 ≠ 1
  notAtu : o / 16384 ≠ 5
  notRed : o / 16384 ≠ 17
  nodup : ((regAt o).map Fld.key).Nodup
  inWord : ∀ f ∈ regAt o, f.inWord = true
  off : ∀ f ∈ regAt o, f.off = o
  acc : ∀ f ∈ regAt o, f.acc = .ro ∨ f.writable k = true

/-- R33, R546: a register that `plainReg` accepts at one of these classes is plain. -/
theorem Plain.of_plainReg {k : Cls} {o : Nat} (hk : k ∈ plainCls) (h : plainReg k o = true) : Plain k o := by
  simp only [plainReg, Bool.and_eq_true, Bool.not_eq_true', decide_eq_true_eq, List.all_eq_true, Bool.or_eq_true, beq_iff_eq] at h
  obtain ⟨⟨⟨⟨hne, hflds⟩, hnd⟩, hpost⟩, hruled⟩ := h
  obtain ⟨f, hf⟩ := List.exists_mem_of_ne_nil (regAt o) (by simpa using hne)
  obtain ⟨hb, hv, -⟩ := inView_of_mem_regAt hf
  simp only [List.mem_cons, List.not_mem_nil, or_false, not_or] at hruled
  obtain ⟨hblc, hatu, hred⟩ := hruled
  exact ⟨hk, hb, hv, hpost, hblc, hatu, hred, hnd, fun g hg => (inView_of_mem_regAt hg).2.2, fun g hg => (hflds g hg).1, fun g hg => (hflds g hg).2⟩

/-- A field of a plain register that a master writes: RW-P by a privileged master only (R36). -/
def Fld.writableBy (m : Master) (k : Cls) (f : Fld) : Bool := f.writable k && (f.acc != .rwp || privileged m)

theorem writableBy_privileged {m : Master} (hm : privileged m = true) (k : Cls) : Fld.writableBy m k = Fld.writable k := by
  funext f
  simp [Fld.writableBy, hm]

/-- What a view makes of the old value of a field and the bits written to it (R33, R41). -/
def viewOp : WMode → Nat → Nat → Nat
  | .normal => fun _ x => x
  | .set => Nat.lor
  | .clear => clearBits
  | .toggle => Nat.xor

theorem writable_iff {k : Cls} {f : Fld} : f.writable k = true ↔ (f.acc = .rw ∨ f.acc = .rwp) ∧ f.cls = k ∧ f.pair = 0 := by
  simp [Fld.writable, and_assoc]

theorem after_writable {k : Cls} {f : Fld} (h : f.writable k = true) (how : WMode) (old bits : Nat) : f.after how old bits = viewOp how old bits := by
  obtain ⟨hacc, -, -⟩ := writable_iff.mp h
  rcases hacc with hacc | hacc <;> cases how <;> simp [Fld.after, viewOp, hacc]

namespace Plain

variable {k : Cls} {o : Nat}

theorem cls_ne_own (h : Plain k o) : ∀ f ∈ regAt o, f.cls ≠ .own := by
  intro f hf
  have hw := h.inWord f hf
  have hk := h.cls
  rcases h.acc f hf with hro | hwr
  · simp only [Fld.inWord, hro, Bool.and_eq_true] at hw
    simpa using hw.2
  · rw [(writable_iff.mp hwr).2.1]
    rintro rfl
    simp [plainCls] at hk

/-- R33, R36: of a plain register a write takes the fields that the master writes. -/
theorem taken (h : Plain k o) (m : Master) (how : WMode) (v : Nat) :
    ((takenBy (regAt o) how (privileged m) v).filter (fun f => f.bitsOf (2 ^ 32 - 1) != 0)).filter (fun f => f.cls != .own) =
      (regAt o).filter (Fld.writableBy m k) := by
  rw [takenBy, List.filter_filter, List.filter_filter]
  refine List.filter_congr fun f hf => ?_
  have hown := h.cls_ne_own f hf
  have hmask : f.bitsOf 4294967295 ≠ 0 := bitsOf_fullMask_ne_zero (h.inWord f hf)
  rw [Bool.eq_iff_iff]
  rcases h.acc f hf with hro | hwr
  · simp [Fld.takes, Fld.writableBy, Fld.writable, hro]
  · obtain ⟨hacc | hacc, -, -⟩ := writable_iff.mp hwr <;> simp [Fld.takes, Fld.writableBy, hacc, hown, hmask, hwr]

/-- R38: of a plain register only RW-P fields are for a privileged master alone. -/
theorem carriesP_eq (h : Plain k o) (how : WMode) (v : Nat) :
    carriesP (regAt o) how v = (regAt o).any (fun f => f.acc == .rwp && f.bitsOf v != 0) := by
  have hweld : ∀ f ∈ regAt o, f.key ≠ F.SAFM_CMD.CLRWELD.key := fun f hf he => by
    have hoff := (h.off f hf).symm.trans (off_eq_of_key_eq (h.inWord f hf) (by decide) he)
    have hpost := h.posted
    subst hoff
    exact absurd hpost (by decide)
  rw [carriesP, Bool.eq_iff_iff, List.any_eq_true, List.any_eq_true]
  refine exists_congr fun f => and_congr_right fun hf => ?_
  simp +contextual [Fld.privOnly, hweld f hf]

end Plain

/-! ### Offsets, views and masters -/

/-- The masters of the statements: they see the whole space, without a session. -/
def wholeMasters : List Master := [.f0, .super, .user]

theorem reaches_of_whole {m : Master} (hm : m ∈ wholeMasters) (c : Core) (off : Nat) : c.reaches m off = true := by
  fin_cases hm <;> rfl

theorem viewFn_of_whole {m : Master} (hm : m ∈ wholeMasters) : viewFn m = none := by
  fin_cases hm <;> rfl

/-- R546: each view of a register leads to its offset in the normal view. -/
theorem normalOff_csrOff_view {m : Master} {o : Nat} (hm : m ∈ wholeMasters) (hb : o / 16384 < blockCount) (hv : o % 16384 < 4096) (how : WMode) :
    normalOff (csrOff m (o + 4096 * viewIndex how)) = o := by
  simp only [csrOff, viewFn_of_whole hm, normalOff]
  unfold blockCount at hb
  cases how <;> simp only [viewIndex] <;> omega

/-- R41, R546: the command that writes a word through a view. -/
def viewWrite (how : WMode) (m : Master) (off v be : Nat) (late : Bool) : Instr :=
  match how with
  | .normal => .registerWrite m off v be late
  | .set => .setAliasWrite m off v be late
  | .clear => .clearAliasWrite m off v be late
  | .toggle => .toggleAliasWrite m off v be late

theorem exec_viewWrite {m : Master} {o : Nat} (hv : o % 16384 < 4096) (how : WMode) (v be : Nat) (late : Bool) (s : State) :
    exec (viewWrite how m (o + 4096 * viewIndex how) v be late) s = .next (busWrite m (o + 4096 * viewIndex how) v be how late s) := by
  cases how
  case normal =>
    have h0 : o / 4096 % 4 = 0 := by omega
    have halias : aliasOf (o + 4096 * viewIndex .normal) = .normal := by simp [viewIndex, aliasOf, h0]
    show Host.Outcome.next _ = _
    rw [halias, ite_self]
  case set | clear | toggle => rfl

/-- R446, R515, R527: outside BLC and RED only the triggers of IRQ_SGI and the key of GLB_RESET bar a write whole. -/
theorem restricted_eq_false {c : Core} {m : Master} {how : WMode} {o v : Nat} (hblc : o / 16384 ≠ 1) (hred : o / 16384 ≠ 17)
    (hsgi : o ≠ F.IRQ_SGI.TRIG.off) (hrst : o ≠ F.GLB_RESET.KEY.off) : c.restricted m how o v = false := by
  have hsolo : o ≠ F.RED_CFG.SOLO.off := fun h => hred (h ▸ rfl)
  simp [Core.restricted, hblc, hsgi, hrst, hsolo]

/-- R33 to R42: a whole word that a master writes to a register without a bar; a 1 in a bit for privileged masters only is counted. -/
theorem busWrite_whole {m : Master} {o v : Nat} {how : WMode} {late : Bool} {s : State} (hm : m ∈ wholeMasters) (hb : o / 16384 < blockCount)
    (hv : o % 16384 < 4096) (hrest : s.core.restricted m how o v = false) (hset : s.beyondSet o = false) :
    busWrite m (o + 4096 * viewIndex how) v 15 how late s = regWrite m o v (2 ^ 32 - 1) how late
      (if !privileged m && carriesP (regAt o) how v then onCore (accViol m 0 (o + 4096 * viewIndex how)) s else s) := by
  have hex : ¬ blockCount ≤ o / 16384 := by omega
  simp [busWrite, normalOff_csrOff_view hm hb hv, reaches_of_whole hm, viewFn_of_whole hm, hrest, hset, hex]

/-! ### The write of a plain register -/

namespace Plain

variable {k : Cls} {o : Nat}

theorem not_restricted (h : Plain k o) (c : Core) (m : Master) (how : WMode) (v : Nat) : c.restricted m how o v = false := by
  refine restricted_eq_false h.notBlc h.notRed ?_ ?_ <;> rintro rfl
  · exact h.cls_ne_own F.IRQ_SGI.TRIG (by decide) rfl
  · exact h.cls_ne_own F.GLB_RESET.KEY (by decide) rfl

theorem not_beyondSet (h : Plain k o) (s : State) : s.beyondSet o = false := by
  have hne : o ≠ F.SAFM_PDATA.DATA.off := by
    rintro rfl
    exact absurd h.posted (by decide)
  simp [State.beyondSet, hne]

/-- R33: the write of a plain register reaches the fields that the master writes, and commands nothing. -/
theorem regWrite_eq (h : Plain k o) (m : Master) (v : Nat) (how : WMode) (late : Bool) (s : State) :
    regWrite m o v (2 ^ 32 - 1) how late s = onCore (writeFields m how late v ((regAt o).filter (Fld.writableBy m k))) s := by
  have hown : ((regAt o).any fun f => f.cls == .own && f.bitsOf (2 ^ 32 - 1) != 0) = false :=
    List.any_eq_false.mpr fun f hf => by simp [h.cls_ne_own f hf]
  simp only [regWrite, h.posted, h.taken, hown, h.notBlc, h.notRed, Bool.false_and, Bool.false_eq_true, if_false]

/-- R33 to R42: a whole word that a master writes to a plain register through any view. -/
theorem busWrite_eq (h : Plain k o) {m : Master} (hm : m ∈ wholeMasters) (v : Nat) (how : WMode) (late : Bool) (s : State) :
    busWrite m (o + 4096 * viewIndex how) v 15 how late s =
      onCore (writeFields m how late v ((regAt o).filter (Fld.writableBy m k)))
        (if !privileged m && (regAt o).any (fun f => f.acc == .rwp && f.bitsOf v != 0) then onCore (accViol m 0 (o + 4096 * viewIndex how)) s
         else s) := by
  rw [busWrite_whole hm h.block h.normal (h.not_restricted _ _ _ _) (h.not_beyondSet s), h.carriesP_eq, h.regWrite_eq]

/-- No field of a plain register is the mode of a context (R420). -/
theorem atuMode_eq_none (h : Plain k o) {f : Fld} (hf : f ∈ regAt o) : atuMode f = none := by
  simp [atuMode, h.off f hf, h.notAtu]

/-- R33, R41: each field of a plain register that a write reaches is placed on its own. -/
theorem writeFields_eq (h : Plain k o) (m : Master) (how : WMode) (late : Bool) (v : Nat) (c : Core) :
    writeFields m how late v ((regAt o).filter (Fld.writableBy m k)) c =
      ((regAt o).filter (Fld.writableBy m k)).foldl (fun d f => placeWrite m f how (f.bitsOf v) late d) c := by
  refine List.foldl_ext _ _ _ fun d f hf => ?_
  obtain ⟨hmem, hw⟩ := List.mem_filter.mp hf
  simp only [Fld.writableBy, Bool.and_eq_true] at hw
  obtain ⟨hacc, -, hpair⟩ := writable_iff.mp hw.1
  rcases hacc with hacc | hacc <;> simp [h.atuMode_eq_none hmem, writeField, hacc, hpair]

end Plain
end Sys2Proof.Machine
end

section
/-! PROOF. O15: what a write of a register loads, holds, ignores and counts (R17, R33 to R42). -/

namespace Sys2Proof.Machine

/-! ### Fields that take effect at once -/

/-- The fields of a word take the bits written to them through a view. -/
def loadFields (how : WMode) (v : Nat) (fs : List Fld) (c : Core) : Core :=
  fs.foldl (fun d f => d.wr f (viewOp how (d.rd f) (f.bitsOf v))) c

theorem loadFields_wait (how : WMode) (v : Nat) (fs : List Fld) (c : Core) : (loadFields how v fs c).wait = c.wait := by
  induction fs generalizing c with
  | nil => rfl
  | cons f fs ih => exact ih _

theorem fieldsOnly_loadFields (how : WMode) (v : Nat) (fs : List Fld) (c : Core) : fieldsOnly fs c (loadFields how v fs c) := by
  induction fs generalizing c with
  | nil => exact fieldsOnly_refl [] c
  | cons f fs ih =>
    intro g hg
    have hfs := ih (c.wr f (viewOp how (c.rd f) (f.bitsOf v))) g fun x hx => hg x (by simp [hx])
    exact hfs.trans (Core.rd_wr_ne c _ (hg f (by simp)))

theorem rd_loadFields (how : WMode) (v : Nat) {fs : List Fld} (hnd : (fs.map Fld.key).Nodup) (c : Core) :
    ∀ f ∈ fs, (loadFields how v fs c).rd f = viewOp how (c.rd f) (f.bitsOf v) % 2 ^ f.width := by
  induction fs generalizing c with
  | nil => simp
  | cons f fs ih =>
    rw [List.map_cons, List.nodup_cons] at hnd
    obtain ⟨hnew, hnd⟩ := hnd
    have hne : ∀ g ∈ fs, g.key ≠ f.key := fun g hg he => hnew (he ▸ List.mem_map_of_mem hg)
    intro g hg
    rcases List.mem_cons.mp hg with rfl | hg
    · exact (fieldsOnly_loadFields how v fs _ g fun x hx => (hne x hx).symm).trans (Core.rd_wr_same c g _)
    · exact (ih hnd _ g hg).trans (by rw [Core.rd_wr_ne c _ (hne g hg)])

/-! ### Fields that are held -/

/-- R17: writes that show in no register join the held ones in their order. -/
theorem foldl_holdWrite {ws : List PWrite} (h : ∀ w ∈ ws, w.fld.heldUnseen = true) (c : Core) :
    ws.foldl (fun d w => holdWrite w d) c = { c with wait := c.wait ++ ws } := by
  induction ws generalizing c with
  | nil => simp
  | cons w ws ih =>
    rw [List.foldl_cons, holdWrite_of_heldUnseen (h w (by simp)), ih fun x hx => h x (by simp [hx])]
    simp

/-- The held writes that a word gives to the fields of a register. -/
def heldWrites (m : Master) (how : WMode) (late : Bool) (o v : Nat) (fs : List Fld) : List PWrite :=
  fs.map fun f => ⟨f, bitsAt v f.lsb f.width, how, late && inCtl o, m⟩

namespace Plain

variable {k : Cls} {o : Nat}

theorem of_mem_writableBy {m : Master} {f : Fld} (hf : f ∈ (regAt o).filter (Fld.writableBy m k)) : f ∈ regAt o ∧ f.writable k = true := by
  obtain ⟨hmem, hw⟩ := List.mem_filter.mp hf
  exact ⟨hmem, (Bool.and_eq_true_iff.mp hw).1⟩

theorem nodup_writableBy (h : Plain k o) (m : Master) : (((regAt o).filter (Fld.writableBy m k)).map Fld.key).Nodup :=
  h.nodup.sublist (List.filter_sublist.map Fld.key)

/-- R33, R41: fields that govern at once. -/
theorem writeFields_imm (h : Plain .imm o) (m : Master) (how : WMode) (late : Bool) (v : Nat) (c : Core) :
    writeFields m how late v ((regAt o).filter (Fld.writableBy m .imm)) c = loadFields how v ((regAt o).filter (Fld.writableBy m .imm)) c := by
  rw [h.writeFields_eq]
  refine List.foldl_ext _ _ _ fun d f hf => ?_
  obtain ⟨-, hw⟩ := of_mem_writableBy hf
  simp [placeWrite, (writable_iff.mp hw).2.1, after_writable hw]

theorem key_ne_pcommitGo (h : Plain k o) {f : Fld} (hf : f ∈ regAt o) : f.key ≠ F.CTE_PCOMMIT.GO.key := by
  intro he
  have hoff := (h.off f hf).symm.trans (off_eq_of_key_eq (h.inWord f hf) (by decide) he)
  subst hoff
  exact h.cls_ne_own F.CTE_PCOMMIT.GO (by decide) rfl

/-- R17, R231, R281: a held write of a plain register shows in no register. -/
theorem heldUnseen (h : Plain k o) {f : Fld} (hf : f ∈ regAt o) (hw : f.writable k = true) : f.heldUnseen = true := by
  have hcls := h.cls
  rw [← (writable_iff.mp hw).2.1] at hcls
  simp only [plainCls, List.mem_cons, List.not_mem_nil, or_false] at hcls
  rcases hcls with hc | hc | hc | hc <;> simp [Fld.heldUnseen, hc, h.key_ne_pcommitGo hf]

/-- R17: a field that governs from a tick, frame or epoch boundary is held, with the late mark in CTL alone. -/
theorem placeWrite_held (h : Plain k o) (hk : k ≠ .imm) {f : Fld} (hf : f ∈ regAt o) (hw : f.writable k = true) (m : Master) (how : WMode)
    (bits : Nat) (late : Bool) (c : Core) : placeWrite m f how bits late c = holdWrite ⟨f, bits, how, late && inCtl o, m⟩ c := by
  have hcls := h.cls
  rw [← (writable_iff.mp hw).2.1] at hcls hk
  simp only [plainCls, List.mem_cons, List.not_mem_nil, or_false] at hcls
  rcases hcls with hc | hc | hc | hc
  · exact absurd hc hk
  all_goals simp only [placeWrite, hc, h.off f hf]

/-- R17: the fields that the master writes join the held writes. -/
theorem writeFields_held (h : Plain k o) (hk : k ≠ .imm) (m : Master) (how : WMode) (late : Bool) (v : Nat) (c : Core) :
    writeFields m how late v ((regAt o).filter (Fld.writableBy m k)) c =
      { c with wait := c.wait ++ heldWrites m how late o v ((regAt o).filter (Fld.writableBy m k)) } := by
  have hunseen : ∀ w ∈ heldWrites m how late o v ((regAt o).filter (Fld.writableBy m k)), w.fld.heldUnseen = true := by
    intro w hw
    obtain ⟨f, hf, rfl⟩ := List.mem_map.mp hw
    obtain ⟨hmem, hwr⟩ := of_mem_writableBy hf
    exact h.heldUnseen hmem hwr
  rw [h.writeFields_eq, ← foldl_holdWrite hunseen, heldWrites, List.foldl_map]
  refine List.foldl_ext _ _ _ fun d f hf => ?_
  obtain ⟨hmem, hwr⟩ := of_mem_writableBy hf
  exact h.placeWrite_held hk hmem hwr m how _ late d

end Plain

/-! ### Writes that are counted -/

/-- R38 to R40: what counting a write shows. -/
theorem accViol_counts {m : Master} {kind off : Nat} {c : Core} (hkind : kind < 2) (hoff : off < 2 ^ 19) :
    fieldsOnly [F.GLB_ACCVIOL.COUNT, F.GLB_ACCVIOL.MASTER, F.GLB_ACCVIOL.KIND, F.GLB_ACCVIOL_ADDR.OFFSET] c (accViol m kind off c) ∧
      (accViol m kind off c).wait = c.wait ∧
      (accViol m kind off c).rd F.GLB_ACCVIOL.COUNT = min 65535 (c.rd F.GLB_ACCVIOL.COUNT + 1) ∧
      (accViol m kind off c).rd F.GLB_ACCVIOL.MASTER = masterCode m ∧ (accViol m kind off c).rd F.GLB_ACCVIOL.KIND = kind ∧
      (accViol m kind off c).rd F.GLB_ACCVIOL_ADDR.OFFSET = off := by
  unfold accViol
  refine ⟨?_, rfl, ?_, ?_, ?_, ?_⟩
  · exact fieldsOnly_wr (fieldsOnly_wr (fieldsOnly_wr (fieldsOnly_wr (fieldsOnly_refl _ c) (by simp)) (by simp)) (by simp)) (by simp)
  · rw [Core.rd_wr_ne _ _ (by decide), Core.rd_wr_ne _ _ (by decide), Core.rd_wr_ne _ _ (by decide), Core.cntSat_eq, Core.rd_wr_same]
    exact Nat.mod_eq_of_lt (by simp only [F.GLB_ACCVIOL.COUNT]; omega)
  · rw [Core.rd_wr_ne _ _ (by decide), Core.rd_wr_ne _ _ (by decide), Core.rd_wr_same]
    cases m <;> rfl
  · rw [Core.rd_wr_ne _ _ (by decide), Core.rd_wr_same]
    exact Nat.mod_eq_of_lt hkind
  · rw [Core.rd_wr_same]
    exact Nat.mod_eq_of_lt hoff

/-! ### The commands -/

namespace Plain

variable {k : Cls} {o : Nat} {m : Master} {s : State}

/-- R33 to R42: a write without a 1 in a bit that the master may not write ends with the fields that it reaches. -/
theorem ends_write (h : Plain k o) (hs : s.pwr.held = false) (hm : m ∈ wholeMasters) {v : Nat} {P : State → Prop} (how : WMode) (late : Bool)
    (hclean : (!privileged m && (regAt o).any fun f => f.acc == .rwp && f.bitsOf v != 0) = false)
    (hP : P { s with core := writeFields m how late v ((regAt o).filter (Fld.writableBy m k)) s.core }) :
    Ends (viewWrite how m (o + 4096 * viewIndex how) v 15 late) s P := by
  refine ⟨_, exec_viewWrite h.normal how v 15 late s, ?_⟩
  rw [h.busWrite_eq hm, hclean, if_neg Bool.false_ne_true, onCore_run _ hs]
  exact hP

/-- R33, R41: a privileged write of a plain register whose fields govern at once. -/
theorem ends_imm (h : Plain .imm o) (hs : s.pwr.held = false) (hm : m ∈ wholeMasters) (hp : privileged m = true) (how : WMode) (v : Nat) (late : Bool) :
    Ends (viewWrite how m (o + 4096 * viewIndex how) v 15 late) s fun t => coreOnly s t ∧
      fieldsOnly ((regAt o).filter fun f => f.writable .imm) s.core t.core ∧ t.core.wait = s.core.wait ∧
      ∀ f ∈ regAt o, f.writable .imm = true → t.core.rd f = viewOp how (s.core.rd f) (bitsAt v f.lsb f.width) % 2 ^ f.width := by
  refine h.ends_write hs hm how late (by simp [hp]) ?_
  have hnd := h.nodup_writableBy m
  rw [h.writeFields_imm, writableBy_privileged hp]
  rw [writableBy_privileged hp] at hnd
  exact ⟨rfl, fieldsOnly_loadFields how v _ _, loadFields_wait how v _ _,
    fun f hf hw => rd_loadFields how v hnd s.core f (List.mem_filter.mpr ⟨hf, hw⟩)⟩

/-- R17: a privileged write of a plain register whose fields govern from a boundary. -/
theorem ends_held (h : Plain k o) (hs : s.pwr.held = false) (hm : m ∈ wholeMasters) (hp : privileged m = true) (hk : k ≠ .imm) (how : WMode) (v : Nat)
    (late : Bool) : Ends (viewWrite how m (o + 4096 * viewIndex how) v 15 late) s fun t =>
      t = { s with core := { s.core with wait := s.core.wait ++ heldWrites m how late o v ((regAt o).filter fun f => f.writable k) } } := by
  refine h.ends_write hs hm how late (by simp [hp]) ?_
  rw [h.writeFields_held hk, writableBy_privileged hp]

end Plain

theorem plain_scratch : Plain .imm F.GLB_SCRATCH.DATA.off := .of_plainReg (by decide) (by decide)
theorem plain_id : Plain .imm F.GLB_ID.TYPE.off := .of_plainReg (by decide) (by decide)
theorem plain_iset : Plain .tick F.CNV_ISET.ISET.off := .of_plainReg (by decide) (by decide)
theorem plain_swap : Plain .tick F.CTE_SWAP.SWAP.off := .of_plainReg (by decide) (by decide)

/-- R553: `GLB_SCRATCH` through a view. -/
theorem scratch_ends {m : Master} {s : State} (hs : s.pwr.held = false) (hm : m ∈ wholeMasters) (how : WMode) (v : Nat) (late : Bool) :
    Ends (viewWrite how m (F.GLB_SCRATCH.DATA.off + 4096 * viewIndex how) v 15 late) s fun t => coreOnly s t ∧
      fieldsOnly [F.GLB_SCRATCH.DATA] s.core t.core ∧ t.core.wait = s.core.wait ∧
      t.core.rd F.GLB_SCRATCH.DATA = viewOp how (s.core.rd F.GLB_SCRATCH.DATA) (v % 2 ^ 32) % 2 ^ 32 := by
  have hreg : (regAt F.GLB_SCRATCH.DATA.off).filter (Fld.writableBy m .imm) = [F.GLB_SCRATCH.DATA] := rfl
  refine plain_scratch.ends_write hs hm how late ?_ ?_
  · show (!privileged m && false) = false
    simp
  · rw [plain_scratch.writeFields_imm, hreg]
    refine ⟨rfl, fieldsOnly_loadFields how v _ _, loadFields_wait how v _ _, ?_⟩
    have hrd := rd_loadFields how v (fs := [F.GLB_SCRATCH.DATA]) (by decide) s.core F.GLB_SCRATCH.DATA (by simp)
    rwa [Fld.bitsOf, F.GLB_SCRATCH.DATA, pow_zero, Nat.div_one] at hrd

/-- R33, R553: `GLB_ID` has read-only fields alone. -/
theorem id_ends {m : Master} {s : State} (hs : s.pwr.held = false) (hm : m ∈ wholeMasters) (v : Nat) (late : Bool) :
    Ends (.registerWrite m 0 v 15 late) s fun t => t = s := by
  refine plain_id.ends_write hs hm .normal late ?_ rfl
  show (!privileged m && false) = false
  simp

/-- R17: `CNV_ISET` governs from a tick boundary. -/
theorem iset_ends {m : Master} {s : State} (hs : s.pwr.held = false) (hm : m ∈ wholeMasters) (v : Nat) (late : Bool) :
    Ends (.registerWrite m F.CNV_ISET.ISET.off v 15 late) s fun t =>
      t = { s with core := { s.core with wait := s.core.wait ++ [⟨F.CNV_ISET.ISET, v % 2 ^ 32, .normal, late, m⟩] } } := by
  refine plain_iset.ends_write hs hm .normal late ?_ ?_
  · show (!privileged m && false) = false
    simp
  · have hheld : heldWrites m .normal late F.CNV_ISET.ISET.off v ((regAt F.CNV_ISET.ISET.off).filter (Fld.writableBy m .tick)) =
        [⟨F.CNV_ISET.ISET, v / 2 ^ 0 % 2 ^ 32, .normal, late && true, m⟩] := rfl
    rw [plain_iset.writeFields_held (by decide), hheld, pow_zero, Nat.div_one, Bool.and_true]

/-- R37, R39: a write with partial byte enables is counted, with kind 1. -/
theorem partial_ends {m : Master} {s : State} (hs : s.pwr.held = false) (hm : m ∈ wholeMasters) (v : Nat) {be : Nat} (late : Bool) (hbe : be ≠ 15) :
    Ends (.registerWrite m F.GLB_SCRATCH.DATA.off v be late) s fun t => t = { s with core := accViol m 1 F.GLB_SCRATCH.DATA.off s.core } := by
  have hcarries : carriesP (regAt F.GLB_SCRATCH.DATA.off) .normal v = false := plain_scratch.carriesP_eq .normal v
  have hdiscards : s.core.discards m .normal F.GLB_SCRATCH.DATA.off v = false := rfl
  have hn : normalOff (csrOff m F.GLB_SCRATCH.DATA.off) = F.GLB_SCRATCH.DATA.off :=
    normalOff_csrOff_view hm plain_scratch.block plain_scratch.normal .normal
  refine ⟨_, exec_viewWrite (how := .normal) plain_scratch.normal v be late s, ?_⟩
  rw [← onCore_run _ hs]
  simp [busWrite, hbe, viewIndex, hn, reaches_of_whole hm, viewFn_of_whole hm, plain_scratch.not_restricted, plain_scratch.not_beyondSet,
    hcarries, hdiscards, b2n]

/-- R36, R39, R550: a write by F1 through a slot that is off. -/
theorem slotOff_ends {s : State} (hs : s.pwr.held = false) (v : Nat) (late : Bool) (hslot : s.core.slotOn 1 0 = false) :
    Ends (.registerWrite .f1 F.GLB_SCRATCH.DATA.off v 15 late) s fun t => t = { s with core := accViol .f1 0 F.GLB_SCRATCH.DATA.off s.core } := by
  have hreach : s.core.reaches .f1 F.GLB_SCRATCH.DATA.off = false := hslot
  have hn : normalOff (csrOff .f1 F.GLB_SCRATCH.DATA.off) = F.GLB_SCRATCH.DATA.off := rfl
  refine ⟨busWrite .f1 F.GLB_SCRATCH.DATA.off v 15 .normal late s, rfl, ?_⟩
  rw [← onCore_run _ hs]
  simp [busWrite, hreach, hn, viewIndex]

/-- R36, R38: a user program's 1 in SWAP or KEEP is counted, and the write changes no field. -/
theorem userSwap_ends {s : State} (hs : s.pwr.held = false) {v : Nat} (late : Bool) (hv : bitsAt v 0 3 ≠ 0) :
    Ends (.registerWrite .user F.CTE_SWAP.SWAP.off v 15 late) s fun t => t = { s with core := accViol .user 0 F.CTE_SWAP.SWAP.off s.core } := by
  have hcarries : ((regAt F.CTE_SWAP.SWAP.off).any fun f => f.acc == .rwp && f.bitsOf v != 0) = true := by
    show (F.CTE_SWAP.SWAP.bitsOf v != 0 || (F.CTE_SWAP.KEEP.bitsOf v != 0 || (F.CTE_SWAP.BIND.bitsOf v != 0 || false))) = true
    simp only [bitsAt] at hv
    simp only [Fld.bitsOf, F.CTE_SWAP.SWAP, F.CTE_SWAP.KEEP, Bool.or_eq_true, bne_iff_ne]
    omega
  have hnone : (regAt F.CTE_SWAP.SWAP.off).filter (Fld.writableBy .user .tick) = [] := rfl
  refine ⟨_, exec_viewWrite (how := .normal) plain_swap.normal v 15 late s, ?_⟩
  rw [plain_swap.busWrite_eq (by decide), hcarries, hnone]
  simp [privileged, onCore_run, hs, writeFields, viewIndex]

/-- R38 to R40: a command that has only counted a write shows it in `GLB_ACCVIOL`. -/
theorem ends_counted {i : Instr} {s : State} {m : Master} {kind off : Nat} (hkind : kind < 2) (hoff : off < 2 ^ 19)
    (h : Ends i s fun t => t = { s with core := accViol m kind off s.core }) : Ends i s fun t => coreOnly s t ∧
      fieldsOnly [F.GLB_ACCVIOL.COUNT, F.GLB_ACCVIOL.MASTER, F.GLB_ACCVIOL.KIND, F.GLB_ACCVIOL_ADDR.OFFSET] s.core t.core ∧ t.core.wait = s.core.wait ∧
      t.core.rd F.GLB_ACCVIOL.COUNT = min 65535 (s.core.rd F.GLB_ACCVIOL.COUNT + 1) ∧ t.core.rd F.GLB_ACCVIOL.MASTER = masterCode m ∧
      t.core.rd F.GLB_ACCVIOL.KIND = kind ∧ t.core.rd F.GLB_ACCVIOL_ADDR.OFFSET = off := by
  obtain ⟨t, he, rfl⟩ := h
  exact ⟨_, he, rfl, accViol_counts hkind hoff⟩

/-- Settles O15: a write of a plain register reaches the fields that its master writes, which load or are held; the named registers are plain ones. -/
theorem registerWrites : Obligations.RegisterWrites := by
  unfold Obligations.RegisterWrites
  intro s m v late hs hm
  refine ⟨scratch_ends hs hm .normal v late, scratch_ends hs hm .set v late, scratch_ends hs hm .clear v late, scratch_ends hs hm .toggle v late,
    iset_ends hs hm v late, id_ends hs hm v late, fun be hbe => ends_counted (by decide) (by decide) (partial_ends hs hm v late hbe),
    fun hslot => ends_counted (by decide) (by decide) (slotOff_ends hs v late hslot),
    fun hv => ends_counted (by decide) (by decide) (userSwap_ends hs late hv), fun hp o => ⟨fun h => ?imm, fun k hk h => ?held⟩⟩
  case imm =>
    have hplain := Plain.of_plainReg (by decide) h
    exact ⟨hplain.ends_imm hs hm hp .normal v late, hplain.ends_imm hs hm hp .set v late, hplain.ends_imm hs hm hp .clear v late,
      hplain.ends_imm hs hm hp .toggle v late⟩
  case held =>
    have hplain := Plain.of_plainReg (List.mem_cons_of_mem _ hk) h
    have hne : k ≠ .imm := by
      rintro rfl
      exact absurd hk (by decide)
    exact ⟨hplain.ends_held hs hm hp hne .normal v late, hplain.ends_held hs hm hp hne .set v late, hplain.ends_held hs hm hp hne .clear v late,
      hplain.ends_held hs hm hp hne .toggle v late⟩

end Sys2Proof.Machine
end

section
/-! PROOF. O16: a posted write goes on its way, is dropped behind another, or commits (R45 to R48). -/

namespace Sys2Proof.Machine

/-! ### On its way -/

/-- R45, R46: a posted write while none is in flight sets BUSY and is held. -/
theorem postWrite_idle {b : Nat} {c : Core} (h : c.rd (xstat b).1 = 0) (m : Master) (fs : List Fld) (how : WMode) (v : Nat) :
    postWrite m fs how v b c = { c.wr (xstat b).1 1 with wait := c.wait ++ fs.map fun f => ⟨f, f.bitsOf v, how, false, m⟩ } := by
  simp [postWrite, Core.on_eq, h]

/-- R45, R46: behind one in flight it sets WDROP and is discarded. -/
theorem postWrite_dropped {b : Nat} {c : Core} (h : c.rd (xstat b).1 ≠ 0) (m : Master) (fs : List Fld) (how : WMode) (v : Nat) :
    postWrite m fs how v b c = c.wr (xstat b).2 1 := by
  simp [postWrite, Core.on_eq, h]

/-- Outside the objects of CAN no field of a posted write is discarded for its object (R476). -/
theorem canRefuses_eq_none {c : Core} {o : Nat} (h : o < 0x50200 ∨ 0x50e00 ≤ o) : c.canRefuses o = none := if_pos h

/-- R45: the write of a register of a posted block, but its XSTAT and the objects of CAN, is a posted one. -/
theorem regWrite_posted {o : Nat} (hb : postedBlock (o / 16384) = true) (hx : o % 4096 ≠ 0xffc) (hobj : o < 0x50200 ∨ 0x50e00 ≤ o) (m : Master)
    (v mask : Nat) (how : WMode) (late : Bool) (s : State) : regWrite m o v mask how late s = onCore (postWrite m
      ((takenBy (regAt o) how (privileged m) v).filter fun f => f.bitsOf mask != 0) how v (o / 16384)) s := by
  have hnone : ∀ c : Core, c.canRefuses o = none := fun c => canRefuses_eq_none hobj
  simp [regWrite, hb, hx, objFields, objWerr, hnone, Core.when]

/-- R106: a full write of `CHN_CFG` by F0 is posted with both fields. -/
theorem exec_postedWrite_chnCfg (v : Nat) (s : State) : exec (.postedWrite .f0 .normal 0x18004 v 15) s =
    .next (onCore (postWrite .f0 [F.CHN_CFG.NNODE_EXP, F.CHN_CFG.DLY_PERIOD] .normal v 6) s) := by
  have hrest : s.core.restricted .f0 .normal 0x18004 v = false := restricted_eq_false (by decide) (by decide) (by decide) (by decide)
  have htaken : (takenBy (regAt 0x18004) .normal true v).filter (fun f => f.bitsOf (2 ^ 32 - 1) != 0) =
      [F.CHN_CFG.NNODE_EXP, F.CHN_CFG.DLY_PERIOD] := rfl
  have hbus := busWrite_whole (m := .f0) (o := 0x18004) (v := v) (how := .normal) (late := false) (by decide) (by decide) (by decide) hrest rfl
  have hreg := regWrite_posted (o := 0x18004) (by decide) (by decide) (by decide) .f0 v (2 ^ 32 - 1) .normal false s
  rw [show privileged .f0 = true from rfl, htaken] at hreg
  exact congrArg Host.Outcome.next (hbus.trans hreg)

/-! ### The commit -/

/-- R45: the posted writes of a block have left the held ones, and BUSY reads 0. -/
def Core.posted (b : Nat) (c : Core) : Core := ({ c with wait := c.wait.filter fun w => !postedIn b w } : Core).wr (xstat b).1 0

/-- R45: a block without a write in flight has none to commit. -/
theorem postedCommit_idle {b : Nat} {s : State} (h : s.core.rd (xstat b).1 = 0) : postedCommit b s = s := by
  simp [postedCommit, Core.on_eq, h]

/-- R45: the one field in flight to CHN, CAN, SMB or SVC commits. -/
theorem postedCommit_one {b : Nat} {s : State} {w : PWrite} (hs : s.pwr.held = false) (hb : postedBlock b = true) (hsaf : b ≠ 15)
    (hbusy : s.core.rd (xstat b).1 ≠ 0) (hw : s.core.wait.filter (postedIn b) = [w]) :
    postedCommit b s = { s with core := postedTold b (w.fld.off % 4096) (postCore (s.core.posted b) w) } := by
  have hblk : w.fld.off / 16384 = b := by
    have hmem : w ∈ s.core.wait.filter (postedIn b) := by simp [hw]
    simpa [postedIn] using (List.mem_filter.mp hmem).2
  simp [postedCommit, Core.on_eq, hbusy, hb, hs, hw, postField, hblk, hsaf, onCore, Core.posted]

/-- A posted field of one word without a command of its own takes the bits (R45). -/
theorem postCore_plain {w : PWrite} (hc : w.fld.cls ≠ .own) (hp : w.fld.pair = 0) (c : Core) : postCore c w = c.apply w := by
  simp [postCore, postPlain, hc, hp]

theorem postedTold_csr (b o : Nat) (c : Core) : (postedTold b o c).csr = c.csr := by
  unfold postedTold; split <;> [rfl; (split <;> rfl)]

theorem postedTold_wait (b o : Nat) (c : Core) : (postedTold b o c).wait = c.wait := by
  unfold postedTold; split <;> [rfl; (split <;> rfl)]

theorem rd_postedTold (b o : Nat) (c : Core) (f : Fld) : (postedTold b o c).rd f = c.rd f := congrArg (fun r => Csr.get r f) (postedTold_csr b o c)

/-- R45, R106: the commit of `CHN_CFG.DLY_PERIOD`. -/
theorem chnCommit_dlyPeriod {s : State} {bits : Nat} (hs : s.pwr.held = false) (hbusy : s.core.rd F.CHN_XSTAT.BUSY ≠ 0)
    (hw : s.core.wait.filter (postedIn 6) = [⟨F.CHN_CFG.DLY_PERIOD, bits, .normal, false, .f0⟩]) :
    coreOnly s (postedCommit 6 s) ∧ fieldsOnly [F.CHN_XSTAT.BUSY, F.CHN_CFG.DLY_PERIOD] s.core (postedCommit 6 s).core ∧
      (postedCommit 6 s).core.rd F.CHN_XSTAT.BUSY = 0 ∧ (postedCommit 6 s).core.rd F.CHN_CFG.DLY_PERIOD = bits % 65536 ∧
      (postedCommit 6 s).core.wait = s.core.wait.filter fun w => !postedIn 6 w := by
  have hval : postCore (s.core.posted 6) ⟨F.CHN_CFG.DLY_PERIOD, bits, .normal, false, .f0⟩ =
      (s.core.posted 6).wr F.CHN_CFG.DLY_PERIOD (bits % 2 ^ 16) := by
    rw [postCore_plain Cls.noConfusion rfl, Core.apply, after_writable (k := .posted) rfl]
    rfl
  rw [postedCommit_one (b := 6) hs (by decide) (by decide) hbusy hw, hval]
  refine ⟨rfl, fieldsOnly_of_csr (d := (s.core.wr F.CHN_XSTAT.BUSY 0).wr F.CHN_CFG.DLY_PERIOD (bits % 2 ^ 16)) ?_ (postedTold_csr _ _ _), ?_, ?_,
    postedTold_wait _ _ _⟩
  · exact fieldsOnly_wr (fieldsOnly_wr (fieldsOnly_refl _ _) (by simp)) (by simp)
  · rw [rd_postedTold, Core.rd_wr_ne _ _ (by decide)]
    exact Core.rd_wr_same _ F.CHN_XSTAT.BUSY 0
  · rw [rd_postedTold, Core.rd_wr_same]
    exact Nat.mod_mod bits (2 ^ 16)

/-- Settles O16: by whether the block has a write in flight, for the write as for the commit. -/
theorem postedWrites : Obligations.PostedWrites := by
  unfold Obligations.PostedWrites
  intro s v hs
  have hpost := exec_postedWrite_chnCfg v s
  rw [onCore_run _ hs] at hpost
  refine ⟨fun hidle => ⟨_, hpost, ?idle⟩, fun hbusy => ⟨_, hpost, ?dropped⟩, fun bits hbusy hw => ⟨_, rfl, chnCommit_dlyPeriod hs hbusy hw⟩,
    fun b hidle => ⟨_, rfl, postedCommit_idle hidle⟩, ⟨_, rfl, rfl⟩⟩
  case idle =>
    rw [postWrite_idle (b := 6) hidle]
    have hframe : fieldsOnly [F.CHN_XSTAT.BUSY] s.core (s.core.wr F.CHN_XSTAT.BUSY 1) := fieldsOnly_wr (fieldsOnly_refl _ _) (by simp)
    exact ⟨rfl, fieldsOnly_of_csr hframe rfl, Core.rd_wr_same s.core F.CHN_XSTAT.BUSY 1, rfl⟩
  case dropped =>
    rw [postWrite_dropped (b := 6) hbusy]
    exact ⟨rfl, fieldsOnly_wr (g := F.CHN_XSTAT.WDROP) (fieldsOnly_refl _ _) (by simp), Core.rd_wr_same s.core F.CHN_XSTAT.WDROP 1, rfl⟩

end Sys2Proof.Machine
end

section
/-! PROOF. O51, O52: what the commands do to the queue, the always-on section and the state of the 24 V input (R21, R63, R511, R557). -/

namespace Sys2Proof.Machine

theorem mem_of_powers {c : Instr} (h : Instr.powers c = true) : c ∈ [Instr.powerOn, .powerOnResetRelease, .inputLoss, .holdUpEnd, .opsStore, .opsRefresh] := by
  cases c with
  | powerOn | powerOnResetRelease | inputLoss | holdUpEnd | opsStore | opsRefresh => simp
  | _ => exact Bool.noConfusion h

/-! ### The commands that move the time bases or the input -/

theorem powerOn_pending (s : State) : (powerOn s).pending = s.pending := by unfold powerOn; split <;> rfl
theorem powerRelease_pending (s : State) : (powerRelease s).pending = s.pending := by unfold powerRelease; split <;> rfl
theorem holdUpEnd_pending (s : State) : (holdUpEnd s).pending = s.pending := by unfold holdUpEnd; split <;> rfl
theorem opsStoreStep_pending (s : State) : (opsStoreStep s).pending = s.pending := by unfold opsStoreStep; split <;> rfl

theorem inputLoss_pending (s : State) : (inputLoss s).pending = s.pending := by
  unfold inputLoss
  split
  · dsimp only
    split <;> rfl
  · split <;> rfl

theorem opsRefresh_pending (s : State) : (opsRefresh s).pending = s.pending := by
  unfold opsRefresh
  split
  · rfl
  · exact onCoreA_pending _ _

theorem inputLoss_aon (s : State) :
    (inputLoss s).aon = s.aon ∨ (inputLoss s).aon = { s.aon with storing := true } ∨ (inputLoss s).aon = opsStore s.aon := by
  unfold inputLoss
  split
  · dsimp only
    split <;> exact .inr (.inl rfl)
  · split
    · exact .inr (.inr rfl)
    · exact .inl rfl

theorem opsRefresh_aon {s : State} (hv : s.pwr.vin ≠ .off) :
    (opsRefresh s).aon = if s.aon.storing then opsStore { s.aon with ops := s.aon.ops + 1 } else { s.aon with ops := s.aon.ops + 1 } := by
  simp [opsRefresh, hv]

/-- A command that moves no time base, and an exchange of the channels, leave the always-on section, the input and the queue alone. -/
theorem exec_aon_of_not_powers {c : Instr} (hp : Instr.powers c = false) (s : State) :
    ∃ t, exec c s = .next t ∧ t.aon = s.aon ∧ t.pwr.vin = s.pwr.vin ∧ t.pending = s.pending := by
  cases he : Instr.exchanges c with
  | false =>
    obtain ⟨t, hexec, hcalm⟩ := calm_exec c hp he s
    exact ⟨t, hexec, hcalm.aon, hcalm.vin, hcalm.pending⟩
  | true =>
    cases c with
    | channelExchange q =>
      have hcalm := (calm_onCore exchanged (onSaf (exchange q) s)).trans (calm_hifSettle _)
      exact ⟨_, rfl, hcalm.aon.trans (onSaf_aon _ s), hcalm.vin.trans (by rw [onSaf_pwr]), hcalm.pending.trans (onSaf_pending _ s)⟩
    | powerOnDiagComplete => exact ⟨_, rfl, onSaf_aon _ s, by rw [onSaf_pwr], onSaf_pending _ s⟩
    | _ => exact Bool.noConfusion he

theorem exec_pending_of_powers {c : Instr} (hp : Instr.powers c = true) (s : State) : ∃ t, exec c s = .next t ∧ t.pending = s.pending := by
  have hmem := mem_of_powers hp
  simp only [List.mem_cons, List.not_mem_nil, or_false] at hmem
  rcases hmem with rfl | rfl | rfl | rfl | rfl | rfl
  · exact ⟨_, rfl, powerOn_pending s⟩
  · exact ⟨_, rfl, powerRelease_pending s⟩
  · exact ⟨_, rfl, inputLoss_pending s⟩
  · exact ⟨_, rfl, holdUpEnd_pending s⟩
  · exact ⟨_, rfl, opsStoreStep_pending s⟩
  · exact ⟨_, rfl, opsRefresh_pending s⟩

/-- Settles O51: by whether the command is one of the six that move the time bases or the input. -/
theorem everyCommandKeepsQueue : Obligations.EveryCommandKeepsQueue := by
  unfold Obligations.EveryCommandKeepsQueue
  intro c s
  cases hp : Instr.powers c with
  | false =>
    obtain ⟨t, hexec, haon, hvin, hpending⟩ := exec_aon_of_not_powers hp s
    exact ⟨t, hexec, hpending, fun _ => ⟨haon, hvin⟩⟩
  | true =>
    obtain ⟨t, hexec, hpending⟩ := exec_pending_of_powers hp s
    exact ⟨t, hexec, hpending, fun hc => absurd (mem_of_powers hp) hc⟩

/-! ### The cells of the always-on section -/

/-- R63: the cells hold no more than the running time bases. -/
def AonSt.stored (a : AonSt) : Prop := a.storedOps ≤ a.ops ∧ a.storedPwrcyc ≤ a.pwrcyc ∧ a.pwrcyc < 2 ^ 32

theorem stored_iff (s : State) : s.stored ↔ s.aon.stored := Iff.rfl

/-- From `a` to `b` TB_OPS does not decrease, and the cells stay at or below the time bases. -/
structure AonSt.Onward (a b : AonSt) : Prop where
  ops : a.ops ≤ b.ops
  stored : a.stored → b.stored

theorem AonSt.Onward.refl (a : AonSt) : a.Onward a := ⟨le_rfl, id⟩

theorem AonSt.Onward.trans {a b c : AonSt} (h : a.Onward b) (g : b.Onward c) : a.Onward c := ⟨h.ops.trans g.ops, g.stored ∘ h.stored⟩

theorem onward_storing (a : AonSt) (b : Bool) : a.Onward { a with storing := b } := ⟨le_rfl, id⟩

theorem onward_opsStore (a : AonSt) : a.Onward (opsStore a) := ⟨le_rfl, fun ⟨_, _, hmax⟩ => ⟨le_rfl, le_rfl, hmax⟩⟩

theorem onward_ops (a : AonSt) : a.Onward { a with ops := a.ops + 1 } := ⟨Nat.le_succ _, fun ⟨hops, hcyc⟩ => ⟨Nat.le_succ_of_le hops, hcyc⟩⟩

/-- R511: PWRCYC stays at its largest value. -/
theorem onward_pwrcyc (a : AonSt) : a.Onward { a with pwrcyc := min (2 ^ 32 - 1) (a.pwrcyc + 1) } where
  ops := le_rfl
  stored := fun ⟨hops, hcyc, hmax⟩ => ⟨hops, by dsimp only; omega, by dsimp only; omega⟩

theorem onward_opsEnd (a : AonSt) : a.Onward (opsEnd a) := by
  unfold opsEnd
  split
  · exact onward_storing a false
  · exact onward_opsStore a

theorem onward_powerRelease (s : State) : s.aon.Onward (powerRelease s).aon := by
  unfold powerRelease
  split
  · exact onward_pwrcyc s.aon
  · exact .refl _

theorem onward_inputLoss (s : State) : s.aon.Onward (inputLoss s).aon := by
  rcases inputLoss_aon s with h | h | h <;> rw [h]
  · exact .refl _
  · exact onward_storing _ true
  · exact onward_opsStore _

theorem onward_holdUpEnd (s : State) : s.aon.Onward (holdUpEnd s).aon := by
  unfold holdUpEnd
  split
  · exact onward_opsEnd s.aon
  · exact .refl _

theorem onward_opsStoreStep (s : State) : s.aon.Onward (opsStoreStep s).aon := by
  unfold opsStoreStep
  split
  · exact .refl _
  · exact onward_opsStore s.aon

theorem onward_opsRefresh (s : State) : s.aon.Onward (opsRefresh s).aon := by
  by_cases hv : s.pwr.vin = .off
  · rw [opsRefresh, if_pos hv]
    exact .refl _
  · rw [opsRefresh_aon hv]
    split
    · exact (onward_ops s.aon).trans (onward_opsStore _)
    · exact onward_ops s.aon

/-- R63: at a power-on the time bases resume from their cells. -/
theorem powerOn_aon (s : State) : (powerOn s).aon = s.aon ∨
    (powerOn s).aon = { s.aon with ops := s.aon.storedOps, pwrcyc := s.aon.storedPwrcyc, storing := false } := by
  unfold powerOn
  split
  · exact .inr rfl
  · exact .inl rfl

theorem stored_powerOn {s : State} (h : s.stored) : (powerOn s).stored := by
  rw [stored_iff] at h ⊢
  rcases powerOn_aon s with ha | ha <;> rw [ha]
  · exact h
  · obtain ⟨-, hcyc, hmax⟩ := h
    exact ⟨le_rfl, le_rfl, hcyc.trans_lt hmax⟩

theorem exec_onward {c : Instr} (hc : c ≠ .powerOn) (s : State) : ∃ t, exec c s = .next t ∧ s.aon.Onward t.aon := by
  cases hp : Instr.powers c with
  | false =>
    obtain ⟨t, hexec, haon, -⟩ := exec_aon_of_not_powers hp s
    exact ⟨t, hexec, haon ▸ .refl _⟩
  | true =>
    have hmem := mem_of_powers hp
    simp only [List.mem_cons, hc, List.not_mem_nil, or_false, false_or] at hmem
    rcases hmem with rfl | rfl | rfl | rfl | rfl
    · exact ⟨_, rfl, onward_powerRelease s⟩
    · exact ⟨_, rfl, onward_inputLoss s⟩
    · exact ⟨_, rfl, onward_holdUpEnd s⟩
    · exact ⟨_, rfl, onward_opsStoreStep s⟩
    · exact ⟨_, rfl, onward_opsRefresh s⟩

/-- Settles O52: every command but a power-on goes onward, and a power-on goes back to the cells. -/
theorem timeBasesNeverDecrease : Obligations.TimeBasesNeverDecrease := by
  unfold Obligations.TimeBasesNeverDecrease
  intro s t hstep hs
  cases hq : s.pending with
  | nil =>
    rw [idleStep s hq] at hstep
    obtain rfl := Host.Outcome.next.inj hstep
    exact ⟨hs, fun hlt => absurd hlt (lt_irrefl _)⟩
  | cons c rest =>
    rw [stepRunsCommand c s rest hq] at hstep
    by_cases hc : c = .powerOn
    · subst hc
      obtain rfl := Host.Outcome.next.inj hstep
      refine ⟨stored_powerOn hs, fun hlt => ⟨⟨rest, rfl⟩, ?_⟩⟩
      rcases powerOn_aon { s with pending := rest } with ha | ha
      · rw [ha] at hlt
        exact absurd hlt (lt_irrefl _)
      · rw [ha]
    · obtain ⟨u, hexec, honward⟩ := exec_onward hc { s with pending := rest }
      obtain rfl := Host.Outcome.next.inj (hexec.symm.trans hstep)
      exact ⟨honward.stored hs, fun hlt => absurd hlt (not_lt.mpr honward.ops)⟩

end Sys2Proof.Machine
end

section
/-! PROOF. O7: snapshots (R66, R67), the always-on section (R63, R65), the event sequencer (R71), the recorder and its window (R498 to R510), and
the event frame (R508). -/

namespace Sys2Proof.Machine

theorem endsThen_onCore {i : Instr} {s : State} {P : State → Prop} (f : Core → Core) (hs : s.pwr.held = false)
    (he : exec i s = .next (hifSettle (onCore f s))) (h : P { s with core := f s.core }) : EndsThen i s P :=
  ⟨_, he.trans (by rw [onCore_run f hs]), h⟩

theorem ends_onNv {i : Instr} {s : State} {P : State → Prop} (f : AonSt → NvSt → Core → NC) (hs : s.pwr.held = false)
    (he : exec i s = .next (onNv f s)) (h : P { s with nv := (f s.aon s.nv s.core).1, core := (f s.aon s.nv s.core).2 }) : Ends i s P :=
  ⟨_, he.trans (congrArg _ (onNv_run f hs)), h⟩

/-! ### Snapshots -/

theorem snapCapture_none {c : Core} (h : c.tick.snapSrc = none) (ph : Nat) : snapCapture ph c = c := by
  unfold snapCapture
  rw [h]

theorem rd_snapValues (ph sec ns lk : Nat) (c : Core) :
    (snapValues ph sec ns lk c).rd F.TICK_SNAP_CTRL.CAPS = c.rd F.TICK_SNAP_CTRL.CAPS ∧
      (snapValues ph sec ns lk c).rd F.TICK_SNAP_TK_LO.TK = c.tbTick % 2 ^ 32 ∧
      (snapValues ph sec ns lk c).rd F.TICK_SNAP_FNUM.FNUM = c.rd F.TICK_FNUM.FNUM % 2 ^ 32 ∧
      (snapValues ph sec ns lk c).rd F.TICK_SNAP_ESN_LO.ESN = c.lastEsn % 2 ^ 32 := by
  refine ⟨?_, ?_, ?_, ?_⟩ <;> simp (disch := decide) only [snapValues, Core.wr2_eq, Core.rd_wr_ne, Core.rd_wr_same] <;> rfl

/-- R67: a capture ends; of the registers only fields of `TICK_SNAP_CTRL` change. -/
theorem snapEnd_shows {c : Core} (h : c.tick.snapAgain = false) :
    (snapEnd c).tick.snapSrc = none ∧ (snapEnd c).rd F.TICK_SNAP_CTRL.VALID = 1 ∧ (snapEnd c).rd F.TICK_SNAP_CTRL.GO = 0 ∧
      (snapEnd c).rd F.TICK_SNAP_CTRL.CAPS = (c.rd F.TICK_SNAP_CTRL.CAPS + 1) % 2 ^ 8 ∧
      fieldsOnly [F.TICK_SNAP_CTRL.VALID, F.TICK_SNAP_CTRL.PLOCK, F.TICK_SNAP_CTRL.CAPS, F.TICK_SNAP_CTRL.GO] c (snapEnd c) := by
  unfold snapEnd
  dsimp only
  split
  · next hagain => exact absurd (h.symm.trans hagain) Bool.false_ne_true
  refine ⟨rfl, ?_, ?_, ?_, ?_⟩
  · simp (disch := decide) only [Core.rd_with_tick, Core.rd_raise, Core.cntWrap_eq, Core.wrB_eq, Core.rd_wr_ne, Core.rd_wr_same]
    rfl
  · exact Core.rd_wr_same _ F.TICK_SNAP_CTRL.GO 0
  · simp (disch := decide) only [Core.rd_with_tick, Core.rd_raise, Core.cntWrap_eq, Core.wrB_eq, Core.rd_wr_ne, Core.rd_wr_same]
    rfl
  · generalize hd : ((c.wr F.TICK_SNAP_CTRL.VALID 1).wrB F.TICK_SNAP_CTRL.PLOCK (c.on F.PTP_STAT.LOCK)).cntWrap F.TICK_SNAP_CTRL.CAPS = d
    have hshown : fieldsOnly [F.TICK_SNAP_CTRL.VALID, F.TICK_SNAP_CTRL.PLOCK, F.TICK_SNAP_CTRL.CAPS, F.TICK_SNAP_CTRL.GO] c d := by
      subst hd
      exact fieldsOnly_wr (fieldsOnly_wr (fieldsOnly_wr (fieldsOnly_refl _ c) (by simp)) (by simp)) (by simp)
    have hgo : fieldsOnly [F.TICK_SNAP_CTRL.VALID, F.TICK_SNAP_CTRL.PLOCK, F.TICK_SNAP_CTRL.CAPS, F.TICK_SNAP_CTRL.GO] c
        ((d.raise 2 0 (d.rd F.TICK_SNAP_CTRL.CAPS)).wr F.TICK_SNAP_CTRL.GO 0) := fieldsOnly_wr (fieldsOnly_of_csr hshown rfl) (by simp)
    exact fieldsOnly_of_csr hgo rfl

/-- R66, R67: what a capture of `c` leaves behind. -/
structure Core.Captured (c u : Core) : Prop where
  valid : u.rd F.TICK_SNAP_CTRL.VALID = 1
  go : u.rd F.TICK_SNAP_CTRL.GO = 0
  caps : u.rd F.TICK_SNAP_CTRL.CAPS = (c.rd F.TICK_SNAP_CTRL.CAPS + 1) % 2 ^ 8
  src : u.tick.snapSrc = none
  tick : u.rd F.TICK_SNAP_TK_LO.TK = c.tbTick % 2 ^ 32
  fnum : u.rd F.TICK_SNAP_FNUM.FNUM = c.rd F.TICK_FNUM.FNUM % 2 ^ 32
  esn : u.rd F.TICK_SNAP_ESN_LO.ESN = c.lastEsn % 2 ^ 32

/-- The registers alone decide what a capture leaves behind. -/
theorem Core.Captured.of_tick {c u : Core} {t : TickSt} (h : ({ c with tick := t } : Core).Captured u) : c.Captured u :=
  ⟨h.valid, h.go, h.caps, h.src, h.tick, h.fnum, h.esn⟩

theorem snapValues_tick (ph sec ns lk : Nat) (c : Core) : (snapValues ph sec ns lk c).tick = c.tick := rfl

theorem captured_snapEnd (ph sec ns lk : Nat) {c : Core} (h : c.tick.snapAgain = false) :
    c.Captured (snapEnd (snapValues ph sec ns lk c).tickFree) := by
  obtain ⟨hcaps, htick, hfnum, hesn⟩ := rd_snapValues ph sec ns lk c
  have hagain := (congrArg TickSt.snapAgain (snapValues_tick ph sec ns lk c)).trans h
  generalize snapValues ph sec ns lk c = d at hcaps htick hfnum hesn hagain ⊢
  obtain ⟨hsrc, hvalid, hgo, hcaps', hframe⟩ := snapEnd_shows (c := d.tickFree) hagain
  exact ⟨hvalid, hgo, hcaps ▸ hcaps', hsrc, (hframe _ (by decide)).trans htick, (hframe _ (by decide)).trans hfnum, (hframe _ (by decide)).trans hesn⟩

/-- R66, R67: a capture whose trigger is there; that of TB_PLANT comes at the phase where its second boundary falls. -/
theorem captured_snapCapture {c : Core} {ph k : Nat} (hsrc : c.tick.snapSrc = some k)
    (hdue : if k = 3 then c.secondEdge = some (ph / 16 * 16) else c.tick.snapDue = true) (hagain : c.tick.snapAgain = false) :
    c.Captured (snapCapture ph c) := by
  unfold snapCapture
  split
  · next hnone => exact nomatch hnone.symm.trans hsrc
  · next hthree =>
    obtain rfl := Option.some.inj (hthree.symm.trans hsrc)
    rw [if_pos rfl] at hdue
    have hedge : ¬ (c.secondEdge != some (ph / 16 * 16)) = true := by simp [hdue]
    dsimp only
    rw [if_neg hedge]
    exact (captured_snapEnd (c := { c with tick := { c.tick with phase := max c.tick.phase (ph / 16 * 16) } }) (ph / 16 * 16) _ _ _ hagain).of_tick
  · next j hother hj =>
    obtain rfl := Option.some.inj (hj.symm.trans hsrc)
    have hk : j ≠ 3 := fun h => hother h
    rw [if_neg hk] at hdue
    rw [if_pos hdue]
    exact captured_snapEnd 0 _ _ _ hagain

/-! ### The event sequencer -/

/-- R71: what the rings add to the event paths when they go on: events that have not entered SYS yet. -/
structure Core.RaisesOnly (c d : Core) : Prop where
  recq : d.ev.recq = c.ev.recq
  raw : c.ev.raw <+: d.ev.raw

theorem Core.RaisesOnly.refl (c : Core) : c.RaisesOnly c := ⟨rfl, [], List.append_nil _⟩

theorem Core.RaisesOnly.trans {c d e : Core} (h : c.RaisesOnly d) (g : d.RaisesOnly e) : c.RaisesOnly e := ⟨g.recq.trans h.recq, h.raw.trans g.raw⟩

theorem Core.RaisesOnly.of_ev {c d : Core} (h : d.ev = c.ev) : c.RaisesOnly d := by
  constructor <;> rw [h]

theorem raisesOnly_raise (c : Core) (n src prim : Nat) : c.RaisesOnly (c.raise n src prim) := ⟨rfl, _, rfl⟩

theorem raisesOnly_foldl {α : Type} {f : NC → α → NC} (hf : ∀ (q : NC) (a : α), q.2.RaisesOnly (f q a).2) (l : List α) (q : NC) : q.2.RaisesOnly (l.foldl f q).2 := by
  induction l generalizing q with
  | nil => exact .refl q.2
  | cons a l ih => exact (hf q a).trans (ih (f q a))

theorem raisesOnly_times {f : Nat → NC → NC} (hf : ∀ (k : Nat) (q : NC), q.2.RaisesOnly (f k q).2) (n : Nat) (q : NC) : q.2.RaisesOnly (times f n q).2 := by
  induction n generalizing q with
  | zero => exact .refl q.2
  | succ n ih => exact (hf n q).trans (ih (f n q))

theorem pmeSend_ev (fn : Nat) (c : Core) : (pmeSend fn c).ev = c.ev := by
  unfold pmeSend
  split
  · exact Core.send_ev _ _
  · rfl

theorem raisesOnly_finish (r sidx status result : Nat) (q : NC) : q.2.RaisesOnly (finish r sidx status result q).2 := by
  unfold finish
  dsimp only
  generalize hc : (if status = 1 then _ else _ : Core) = c
  have hev : c.ev = q.2.ev := by
    subst hc
    split <;> rfl
  refine (Core.RaisesOnly.of_ev hev).trans ?_
  split
  · exact .of_ev rfl
  · exact (raisesOnly_raise c 12 r sidx).trans (.of_ev (pmeSend_ev _ _))

theorem raisesOnly_advance1 (r : Nat) (q : NC) : q.2.RaisesOnly (advance1 r q).2 := by
  unfold advance1
  split
  · exact .refl q.2
  · split
    · exact .refl q.2
    · split
      · exact raisesOnly_finish _ _ _ _ q
      · split
        · exact raisesOnly_finish _ _ _ _ q
        · split <;> exact .of_ev rfl

theorem raisesOnly_advance (r : Nat) (q : NC) : q.2.RaisesOnly (advance r q).2 := raisesOnly_times (fun _ q => raisesOnly_advance1 r q) _ q

theorem complPump_ev (r : Nat) (q : NC) : (complPump r q).2.ev = q.2.ev := by
  unfold complPump
  split
  · rfl
  · split <;> rfl

theorem eventPump_ev (q : NC) : (eventPump q).2.ev = q.2.ev := by
  unfold eventPump
  dsimp only
  split
  · rfl
  · split
    · exact pmeSend_ev _ _
    · split <;> rfl

theorem faultPump_ev (q : NC) : (faultPump q).2.ev = q.2.ev := by
  unfold faultPump
  dsimp only
  split
  · rfl
  · split <;> rfl

theorem fetchPump_ev (r : Nat) (q : NC) : (fetchPump r q).2.ev = q.2.ev := by
  unfold fetchPump
  dsimp only
  split <;> rfl

theorem vectorsAgain_ev (fn : Nat) (q : NC) : (vectorsAgain fn q).ev = q.2.ev := by
  unfold vectorsAgain
  generalize q.1.jring = l
  generalize q.2 = c
  induction l generalizing c with
  | nil => rfl
  | cons p l ih =>
    refine (ih _).trans ?_
    dsimp only
    split <;> rfl

theorem raisesOnly_backPump (q : NC) : q.2.RaisesOnly (backPump q).2 :=
  raisesOnly_foldl (fun q fn => by
    split
    · exact .of_ev (vectorsAgain_ev fn q)
    · exact .refl q.2) _ q

/-- R398: of the pumps only the end of a command raises an event. -/
theorem raisesOnly_hifPump (q : NC) : q.2.RaisesOnly (hifPump q).2 := by
  unfold hifPump
  split
  · exact .refl q.2
  · have hrings := raisesOnly_foldl (f := fun q (p : Nat × JRing) => complPump p.1 (advance p.1 (fetchPump p.1 q)))
      (fun q p => ((Core.RaisesOnly.of_ev (fetchPump_ev p.1 q)).trans (raisesOnly_advance p.1 _)).trans (.of_ev (complPump_ev p.1 _))) q.1.jring q
    exact ((hrings.trans (.of_ev (eventPump_ev _))).trans (.of_ev (faultPump_ev _))).trans (raisesOnly_backPump _)

/-- R71: the oldest event gets the next ESN and goes to the recorder. -/
theorem evSequence_shows {c : Core} {e : Ev} {rest : List Ev} (a : AonSt) (p : PwrSt) (hready : c.ev.ready = true) (hraw : c.ev.raw = e :: rest) :
    (evSequence a p c).ev.raw = rest ∧ (evSequence a p c).rd F.TICK_ESN_LO.ESN = (c.lastEsn + 1) % 2 ^ 32 ∧
      (evSequence a p c).ev.recq = if c.ev.recq.length < 4096 then c.ev.recq ++ [⟨c.lastEsn + 1, e, a.ops, a.pwrcyc, p.vin == .holdUp⟩] else c.ev.recq := by
  simp only [evSequence, hready, hraw, Bool.not_true, Bool.false_eq_true, if_false]
  refine ⟨rfl, ?_, rfl⟩
  rw [Core.wr2_eq, Core.rd_wr_ne _ _ (by decide), Core.rd_wr_same]
  rfl

/-- R71: the sequencer, and then the rings go on. -/
theorem eventSequence_ends {s : State} {e : Ev} (hraw : s.core.ev.raw.head? = some e) (hs : s.pwr.held = false) (hready : s.core.ev.ready = true) :
    Ends .eventSequence s fun t => nvOnly s t ∧ (∃ more, t.core.ev.raw = s.core.ev.raw.tail ++ more) ∧
      t.core.rd F.TICK_ESN_LO.ESN = (s.core.lastEsn + 1) % 2 ^ 32 ∧
      (s.core.ev.recq.length < 4096 → t.core.ev.recq = s.core.ev.recq ++ [⟨s.core.lastEsn + 1, e, s.aon.ops, s.aon.pwrcyc, s.pwr.vin == .holdUp⟩]) := by
  obtain ⟨rest, hcons⟩ : ∃ rest, s.core.ev.raw = e :: rest := by simpa [List.head?_eq_some_iff] using hraw
  obtain ⟨hrest, hesn, hrecq⟩ := evSequence_shows s.aon s.pwr hready hcons
  have hpump := raisesOnly_hifPump (s.nv, evSequence s.aon s.pwr s.core)
  refine ends_onNv (fun a nv c => hifPump (nv, evSequence a s.pwr c)) hs rfl ⟨rfl, ?_, ?_, fun hroom => ?_⟩
  · obtain ⟨more, hmore⟩ := hpump.raw
    refine ⟨more, hmore.symm.trans ?_⟩
    rw [hcons, List.tail_cons]
    exact congrArg (· ++ more) hrest
  · exact ((ringsRun_hifPump _).core.rd (by decide)).trans hesn
  · rw [if_pos hroom] at hrecq
    exact hpump.recq.trans hrecq

/-! ### The recorder -/

theorem evrWrite_shows (r : Rec) (high : Nat) (q : NC) :
    (evrWrite r high q).1.slot (q.2.rd F.EVR_STAT.WPTR) = r ∧ (evrWrite r high q).2.ev.recq = q.2.ev.recq := by
  obtain ⟨nv, c⟩ := q
  unfold evrWrite
  refine ⟨Tab.get_put_same ({} : Rec) nv.recs (c.rd F.EVR_STAT.WPTR) r, ?_⟩
  dsimp only
  split <;> split <;> rfl

/-- R499, R502: a sequenced event that repeats no recent record gets a slot of its own. -/
theorem eventRecord_ends {s : State} {e : SeqEv} (hrecq : s.core.ev.recq.head? = some e) (hs : s.pwr.held = false) (hvin : s.pwr.vin ≠ .holdUp)
    (hmark : s.core.ev.beyond < 32768) (hnew : s.core.ev.recent.find? (fun k => (s.nv.slot k).same e) = none) :
    Ends .eventRecord s fun t => nvOnly s t ∧ t.core.ev.recq = s.core.ev.recq.tail ∧
      t.nv.slot (s.core.rd F.EVR_STAT.WPTR) = ⟨e.esn, e.ev.code, e.ev.src, e.ops, e.pwrcyc, 0, 0, b2n e.hold, 165, e.ev.prim, e.ev.stat⟩ := by
  obtain ⟨rest, hcons⟩ : ∃ rest, s.core.ev.recq = e :: rest := by simpa [List.head?_eq_some_iff] using hrecq
  have hrecord : recorderStep s.pwr s.aon s.nv s.core = evrNew e (s.nv, { s.core with ev := { s.core.ev with recq := rest } }) := by
    simp [recorderStep, hvin, evrRecord, Nat.not_le.mpr hmark, hcons, hnew]
  obtain ⟨hslot, htail⟩ := evrWrite_shows ⟨e.esn, e.ev.code, e.ev.src, e.ops, e.pwrcyc, 0, 0, b2n e.hold, 165, e.ev.prim, e.ev.stat⟩ e.esn
    (s.nv, { s.core with ev := { s.core.ev with recq := rest } })
  refine ends_onNv (recorderStep s.pwr) hs rfl ⟨rfl, ?_, ?_⟩
  · dsimp only
    rw [hrecord, hcons]
    exact htail
  · dsimp only
    rw [hrecord]
    exact hslot

/-- Fields at places of their own that are written one after another each read back their value. -/
theorem rd_forUp_wr (fld : Nat → Fld) (val : Nat → Nat) {n : Nat} (hfld : ∀ j < n, ∀ k < n, (fld j).key = (fld k).key → j = k) (c : Core) :
    (∀ j < n, (forUp n (fun k c => c.wr (fld k) (val k)) c).rd (fld j) = val j % 2 ^ (fld j).width) ∧
      ∀ f : Fld, (∀ k < n, f.key ≠ (fld k).key) → (forUp n (fun k c => c.wr (fld k) (val k)) c).rd f = c.rd f := by
  induction n with
  | zero => exact ⟨fun j hj => absurd hj j.not_lt_zero, fun _ _ => rfl⟩
  | succ n ih =>
    obtain ⟨hsame, hother⟩ := ih fun j hj k hk => hfld j (by omega) k (by omega)
    have hlast : forUp (n + 1) (fun k c => c.wr (fld k) (val k)) c = (forUp n (fun k c => c.wr (fld k) (val k)) c).wr (fld n) (val n) := by
      simp [forUp, List.range_succ]
    rw [hlast]
    refine ⟨fun j hj => ?_, fun f hf => ?_⟩
    · rcases Nat.lt_succ_iff_lt_or_eq.mp hj with h | rfl
      · rw [Core.rd_wr_ne _ _ fun hk => absurd (hfld j hj n (by omega) hk) (by omega)]
        exact hsame j h
      · exact Core.rd_wr_same _ _ _
    · rw [Core.rd_wr_ne _ _ (hf n (by omega))]
      exact hother f fun k hk => hf k (by omega)

/-- R510: the window shows the slot. -/
theorem evrWindow_shows (k : Nat) (nv : NvSt) (c : Core) :
    (evrWindow k nv c).2.rd F.EVR_WSEL.WVALID = b2n (nv.slot (k % 65536)).valid ∧
      ∀ n < 16, (evrWindow k nv c).2.rd (F.EVR_W.DATA n) =
        if (nv.slot (k % 65536)).valid then wordAt (nv.slot (k % 65536)).bytes n % 2 ^ 32 else 0 := by
  obtain ⟨hword, hother⟩ := rd_forUp_wr F.EVR_W.DATA (wordAt (if (nv.slot (k % 65536)).valid then (nv.slot (k % 65536)).bytes else []))
    (n := 16) (fun i _ j _ h => by simp only [Fld.key, F.EVR_W.DATA] at h; omega) ((c.wr F.EVR_WSEL.SLOT k).wrB F.EVR_WSEL.WVALID (nv.slot (k % 65536)).valid)
  refine ⟨(hother F.EVR_WSEL.WVALID fun j _ => by simp only [Fld.key, F.EVR_W.DATA, F.EVR_WSEL.WVALID]; omega).trans ?_, fun n hn => (hword n hn).trans ?_⟩
  · rw [Core.wrB_eq, Core.rd_wr_same]
    cases (nv.slot (k % 65536)).valid <;> rfl
  · cases (nv.slot (k % 65536)).valid <;> rfl

/-! ### The event frame -/

theorem fieldsOnly_trans {fs : List Fld} {c d e : Core} (h : fieldsOnly fs c d) (g : fieldsOnly fs d e) : fieldsOnly fs c e :=
  fun f hf => (g f hf).trans (h f hf)

theorem fieldsOnly_send {fs : List Fld} {c d : Core} (h : fieldsOnly fs c d) (o : Out) : fieldsOnly fs c (d.send o) := fieldsOnly_of_csr h (Core.send_csr d o)

theorem fieldsOnly_portSent {fs : List Fld} {c d : Core} {p : Nat} (h : fieldsOnly fs c d) (hp : F.NET_TXOK.COUNT (p - 1) ∈ fs) : fieldsOnly fs c (portSent p d) :=
  fieldsOnly_of_csr (fieldsOnly_wr h hp) rfl

theorem portSent_eth (p : Nat) (c : Core) : (portSent p c).ev.eth = c.ev.eth := rfl

/-- R508: a frame of the module counts at the ports it leaves through. -/
theorem ethSend_shows (mask kind : Nat) (data : List Nat) (c : Core) :
    fieldsOnly [F.NET_TXOK.COUNT 0, F.NET_TXOK.COUNT 1] c (ethSend mask kind data c) ∧ (ethSend mask kind data c).ev.eth = c.ev.eth := by
  unfold ethSend
  dsimp only
  generalize ((if (bitAt mask 0 && portUp 1 c) = true then 1 else 0) + (if (bitAt mask 1 && portUp 2 c) = true then 2 else 0) : Nat) = m
  split
  · exact ⟨fieldsOnly_refl _ c, rfl⟩
  · generalize hd : (if bitAt m 0 = true then portSent 1 (c.send (.eth m kind data)) else c.send (.eth m kind data)) = d
    have hone : fieldsOnly [F.NET_TXOK.COUNT 0, F.NET_TXOK.COUNT 1] c d ∧ d.ev.eth = c.ev.eth := by
      have hsend := fieldsOnly_send (fieldsOnly_refl [F.NET_TXOK.COUNT 0, F.NET_TXOK.COUNT 1] c) (.eth m kind data)
      subst hd
      split
      · exact ⟨fieldsOnly_portSent hsend (by simp), by rw [portSent_eth, Core.send_ev]⟩
      · exact ⟨hsend, by rw [Core.send_ev]⟩
    obtain ⟨hfields, heth⟩ := hone
    split
    · exact ⟨fieldsOnly_portSent hfields (by simp), heth⟩
    · exact ⟨hfields, heth⟩

/-- R369, R508: a standby sends none of its events. -/
theorem evFrameSend_shows (c : Core) : fieldsOnly [F.NET_TXOK.COUNT 0, F.NET_TXOK.COUNT 1] c (evFrameSend c) ∧
    (evFrameSend c).ev.eth = if c.standby then c.ev.eth else c.ev.eth.drop 16 := by
  unfold evFrameSend
  split
  · next h =>
    refine ⟨fieldsOnly_refl _ c, ?_⟩
    rcases h with h | h <;> simp [h]
  · next h =>
    dsimp only
    generalize hd : ({ c with ev := { c.ev with eth := c.ev.eth.drop 16 } } : Core) = d
    have hdrop : fieldsOnly [F.NET_TXOK.COUNT 0, F.NET_TXOK.COUNT 1] c d := by
      subst hd
      exact fun _ _ => rfl
    generalize hone : ethSend 1 3 _ d = u
    obtain ⟨hfields1, heth1⟩ := hone ▸ ethSend_shows 1 3 _ d
    obtain ⟨hfields2, heth2⟩ := ethSend_shows 2 3 _ u
    refine ⟨fieldsOnly_trans (fieldsOnly_trans hdrop hfields1) hfields2, heth2.trans (heth1.trans ?_)⟩
    rw [if_neg fun hsby => h (.inr hsby), ← hd]

/-! ### The always-on section -/

/-- R63, R65: a millisecond of TB_OPS. -/
theorem opsRefresh_ends {s : State} (hv : s.pwr.vin ≠ .off) : Ends .opsRefresh s fun t => t = { s with aon := t.aon, core := t.core } ∧
    (s.aon.storing = false → t.aon = { s.aon with ops := s.aon.ops + 1 }) ∧
    (s.aon.storing = true → t.aon = { s.aon with ops := s.aon.ops + 1, storing := false, storedOps := s.aon.ops + 1, storedPwrcyc := s.aon.pwrcyc }) ∧
    (s.pwr.held = true → t.core = s.core) := by
  refine ⟨_, rfl, ?_, fun hst => ?_, fun hst => ?_, fun hs => ?_⟩
  · unfold opsRefresh onCoreA
    rw [if_neg hv]
    dsimp only
    split <;> rfl
  · simp [opsRefresh_aon hv, hst]
  · simp [opsRefresh_aon hv, hst, opsStore]
  · simp [opsRefresh, hv, onCoreA_held, hs]

/-- Settles O7: each command by the lemma that says what it shows. -/
theorem timeCommands : Obligations.TimeCommands := by
  unfold Obligations.TimeCommands
  intro s
  refine ⟨?capture, ?unarmed, ?store, opsRefresh_ends, fun _ => eventSequence_ends, fun _ => eventRecord_ends, ?window, ?frame⟩
  case capture =>
    intro ph k hs hsrc hdue hagain
    obtain ⟨hvalid, hgo, hcaps, hsrc', htick, hfnum, hesn⟩ := captured_snapCapture hsrc hdue hagain
    exact endsThen_onCore (snapCapture ph) hs rfl ⟨rfl, hvalid, hgo, hcaps, hsrc', htick, hfnum, hesn⟩
  case unarmed =>
    intro ph hsrc
    refine ⟨_, rfl, ?_⟩
    unfold onCore
    rw [snapCapture_none hsrc, ite_self]
  case store => exact fun hv => ⟨_, rfl, if_neg hv⟩
  case window =>
    intro k hs
    obtain ⟨hvalid, hword⟩ := evrWindow_shows k s.nv s.core
    exact ends_onNv (fun _ => evrWindow k) hs rfl ⟨rfl, hvalid, hword⟩
  case frame =>
    intro hs
    obtain ⟨hfields, heth⟩ := evFrameSend_shows s.core
    exact ends_onCore evFrameSend hs rfl ⟨rfl, hfields, heth⟩

end Sys2Proof.Machine
end

section
/-! PROOF. The place of a tick in its frame (R52, R57): nothing that happens at a boundary moves it, but the boundary itself. -/

namespace Sys2Proof.Machine

@[simp] theorem ite_pos (p : Prop) [Decidable p] (c d : Core) : (if p then c else d).tick.pos = if p then c.tick.pos else d.tick.pos := by split <;> rfl

@[simp] theorem Core.when_pos (c : Core) (b : Bool) (f : Core → Core) : (c.when b f).tick.pos = if b then (f c).tick.pos else c.tick.pos := by
  cases b <;> rfl

theorem foldl_pos {α : Type} (f : Core → α → Core) (hf : ∀ (c : Core) (a : α), (f c a).tick.pos = c.tick.pos) (l : List α) (c : Core) :
    (l.foldl f c).tick.pos = c.tick.pos := by
  induction l generalizing c with
  | nil => rfl
  | cons a l ih => exact (ih _).trans (hf c a)

theorem forUp_pos (n : Nat) (f : Nat → Core → Core) (hf : ∀ (k : Nat) (c : Core), (f k c).tick.pos = c.tick.pos) (c : Core) :
    (forUp n f c).tick.pos = c.tick.pos := foldl_pos _ (fun c k => hf k c) _ _

theorem forUp_pos_fst {α : Type} (n : Nat) (f : Nat → Core × α → Core × α) (hf : ∀ (k : Nat) (r : Core × α), (f k r).1.tick.pos = r.1.tick.pos)
    (r : Core × α) : (forUp n f r).1.tick.pos = r.1.tick.pos := by
  unfold forUp
  generalize List.range n = l
  induction l generalizing r with
  | nil => rfl
  | cons k l ih => exact (ih _).trans (hf k r)

@[simp] theorem Core.wrB_pos (c : Core) (f : Fld) (b : Bool) : (c.wrB f b).tick.pos = c.tick.pos := rfl
@[simp] theorem Core.wrS_pos (c : Core) (f : Fld) (v : Int) : (c.wrS f v).tick.pos = c.tick.pos := rfl
@[simp] theorem Core.wr2_pos (c : Core) (lo hi : Fld) (v : Nat) : (c.wr2 lo hi v).tick.pos = c.tick.pos := rfl
@[simp] theorem Core.cntSat_pos (c : Core) (f : Fld) (n : Nat) : (c.cntSat f n).tick.pos = c.tick.pos := rfl
@[simp] theorem Core.cntWrap_pos (c : Core) (f : Fld) (n : Nat) : (c.cntWrap f n).tick.pos = c.tick.pos := rfl
@[simp] theorem Core.tickFree_pos (c : Core) : c.tickFree.tick.pos = c.tick.pos := rfl

/-! ### Register fields, outputs and held writes -/

@[simp] theorem Core.apply_pos (c : Core) (w : PWrite) : (c.apply w).tick.pos = c.tick.pos := rfl
@[simp] theorem Core.commit_pos (c : Core) (p : PWrite → Bool) : (c.commit p).tick.pos = c.tick.pos := foldl_pos Core.apply Core.apply_pos _ _

/-! ### CHN -/

@[simp] theorem takeLayout_pos (p nf : Nat) (c : Core) : (takeLayout p nf c).tick.pos = c.tick.pos := rfl
@[simp] theorem Core.showLayout_pos (c : Core) : c.showLayout.tick.pos = c.tick.pos := rfl
@[simp] theorem Core.packetSeq_pos (c : Core) (seq ports typ addr : Nat) (payload : List Nat) : (c.packetSeq seq ports typ addr payload).tick.pos = c.tick.pos :=
    by simp [Core.packetSeq]
@[simp] theorem Core.packet_pos (c : Core) (ports typ addr : Nat) (payload : List Nat) : (c.packet ports typ addr payload).tick.pos = c.tick.pos :=
    by simp [Core.packet]
@[simp] theorem Core.setNode_pos (c : Core) (j : Nat) (f : NodeRt → NodeRt) : (c.setNode j f).tick.pos = c.tick.pos := rfl
@[simp] theorem cfgSend_pos (c : Core) : (cfgSend c).tick.pos = c.tick.pos := by
  unfold cfgSend
  dsimp only
  split
  · exact foldl_pos _ (fun c j => by split <;> simp) _ _
  · rfl
@[simp] theorem delayStart_pos (c : Core) : (delayStart c).tick.pos = c.tick.pos := rfl
@[simp] theorem delayApply_pos (c : Core) : (delayApply c).tick.pos = c.tick.pos := forUp_pos _ _ (fun _ _ => by rfl) c
@[simp] theorem missCount_pos (c : Core) : (missCount c).tick.pos = c.tick.pos := forUp_pos _ _ (fun j c => by split <;> rfl) c
@[simp] theorem splitApply_pos (c : Core) : (splitApply c).tick.pos = c.tick.pos := by
  unfold splitApply
  split <;> simp

/-! ### MEAS -/

@[simp] theorem measReload_pos (c : Core) : (measReload c).tick.pos = c.tick.pos := rfl
@[simp] theorem measCfgEvaluate_pos (c : Core) : (measCfgEvaluate c).tick.pos = c.tick.pos := by simp [measCfgEvaluate]
@[simp] theorem dictatedWithdrawn_pos (c : Core) : (dictatedWithdrawn c).tick.pos = c.tick.pos := by simp [dictatedWithdrawn]
@[simp] theorem nposShow_pos (c : Core) : (nposShow c).tick.pos = c.tick.pos := rfl
@[simp] theorem nposExcess_pos (c : Core) : (nposExcess c).tick.pos = c.tick.pos := by simp [nposExcess]

/-! ### BAL -/

@[simp] theorem bleedFrame_pos (f : Nat) (sync barred ow : Bool) (c : Core) : (bleedFrame f sync barred ow c).tick.pos = c.tick.pos :=
    by simp [bleedFrame]
@[simp] theorem biasUpdate_pos (c : Core) : (biasUpdate c).tick.pos = c.tick.pos := rfl
@[simp] theorem coolingUpdate_pos (clk : Nat) (c : Core) : (coolingUpdate clk c).tick.pos = c.tick.pos := by
  unfold coolingUpdate
  split <;> simp
@[simp] theorem deratingCommit_pos (c : Core) : (deratingCommit c).tick.pos = c.tick.pos := rfl
@[simp] theorem deratingPublish_pos (c : Core) : (deratingPublish c).tick.pos = c.tick.pos := rfl
@[simp] theorem balTick_pos (c : Core) : (balTick c).tick.pos = c.tick.pos := by
  unfold balTick
  dsimp only
  split <;> split <;> rfl

/-! ### IMP -/

@[simp] theorem impCfg_pos (c : Core) : (impCfg c).tick.pos = c.tick.pos := by simp [impCfg]
@[simp] theorem impTick_pos (c : Core) : (impTick c).tick.pos = c.tick.pos := rfl
@[simp] theorem burstAbandon_pos (cause : Nat) (c : Core) : (burstAbandon cause c).tick.pos = c.tick.pos := by simp [burstAbandon]
@[simp] theorem burstDrop_pos (c : Core) : (burstDrop c).tick.pos = c.tick.pos := by simp [burstDrop]
@[simp] theorem prerollStart_pos (s : ImpSet) (c : Core) : (prerollStart s c).tick.pos = c.tick.pos := rfl
@[simp] theorem burstBoundary_pos (c : Core) : (burstBoundary c).tick.pos = c.tick.pos := by
  unfold burstBoundary
  split
  · dsimp only
    split
    · split <;> simp
    · simp
  · simp
@[simp] theorem prerollOrigin_pos (f : Nat) (c : Core) : (prerollOrigin f c).tick.pos = c.tick.pos := by simp [prerollOrigin]
@[simp] theorem captureBoundary_pos (f : Nat) (c : Core) : (captureBoundary f c).tick.pos = c.tick.pos := by simp [captureBoundary]
@[simp] theorem showRoEst_pos (c : Core) : (showRoEst c).tick.pos = c.tick.pos := rfl
@[simp] theorem timpClear_pos (c : Core) : (timpClear c).tick.pos = c.tick.pos := rfl

/-! ### EST -/

@[simp] theorem Core.setCtx_pos (c : Core) (k : Nat) (x : Ctx) : (c.setCtx k x).tick.pos = c.tick.pos := rfl
@[simp] theorem Core.setAcc_pos (c : Core) (k : Nat) (a : PosAcc) : (c.setAcc k a).tick.pos = c.tick.pos := rfl
@[simp] theorem ocvCommit_pos (c : Core) : (ocvCommit c).tick.pos = c.tick.pos := by simp [ocvCommit]
@[simp] theorem Core.setXs_pos (c : Core) (x : Option Nat) : (c.setXs x).tick.pos = c.tick.pos := by
  unfold Core.setXs
  split <;> simp
@[simp] theorem restTaken_pos (ops : Nat) (c : Core) : (restTaken ops c).tick.pos = c.tick.pos := rfl
@[simp] theorem restAnchorAt_pos (tb : List Nat) (verr u0 k : Nat) (v : Int) (c : Core) : (restAnchorAt tb verr u0 k v c).tick.pos = c.tick.pos := by
  unfold restAnchorAt
  generalize socOf tb (c.ocvTemp k) v = r
  exact Core.setCtx_pos c k _
@[simp] theorem firstEstimate_pos (tb : List Nat) (verr u0 k : Nat) (v : Int) (c : Core) : (firstEstimate tb verr u0 k v c).tick.pos = c.tick.pos := by
  unfold firstEstimate
  generalize socOf tb (c.ocvTemp k) v = r
  exact Core.setCtx_pos c k _
@[simp] theorem restAnchor_pos (tb : List Nat) (rest k : Nat) (c : Core) : (restAnchor tb rest k c).1.tick.pos = c.tick.pos := by
  unfold restAnchor
  dsimp only
  split
  · exact (Core.setAcc_pos _ _ _).trans (restAnchorAt_pos _ _ _ _ _ _)
  · rfl
@[simp] theorem restOf_pos (tb : List Nat) (k : Nat) (c : Core) : (restOf tb k c).1.tick.pos = c.tick.pos := by
  unfold restOf
  dsimp only
  split
  · split
    · exact firstEstimate_pos _ _ _ _ _ _
    · rfl
  · exact restAnchor_pos _ _ _ _
@[simp] theorem dynOf_pos (ops : Nat) (tb : List Nat) (k : Nat) (c : Core) : (dynOf ops tb k c).1.tick.pos = c.tick.pos := by
  unfold dynOf
  dsimp only
  split <;> rfl
@[simp] theorem slotAsk_pos (kind : Nat) (c : Core) : (slotAsk kind c).tick.pos = c.tick.pos := by simp [slotAsk]
@[simp] theorem slotRelease_pos (c : Core) : (slotRelease c).tick.pos = c.tick.pos := by simp [slotRelease]
@[simp] theorem saveTrigger_pos (cause : Nat) (c : Core) : (saveTrigger cause c).tick.pos = c.tick.pos := by simp [saveTrigger]
@[simp] theorem sopPublish_pos (ops : Nat) (c : Core) : (sopPublish ops c).tick.pos = c.tick.pos := rfl
@[simp] theorem passOn_pos (c : Core) : (passOn c).tick.pos = c.tick.pos := by simp [passOn]
@[simp] theorem gleanEnd_pos (cause : Nat) (c : Core) : (gleanEnd cause c).tick.pos = c.tick.pos := by simp [gleanEnd]
@[simp] theorem gleanFail_pos (cause : Nat) (c : Core) : (gleanFail cause c).tick.pos = c.tick.pos := by simp [gleanFail]
@[simp] theorem restEarly_pos (result : Nat) (c : Core) : (restEarly result c).tick.pos = c.tick.pos := by simp [restEarly]
@[simp] theorem slotRevoked_pos (c : Core) : (slotRevoked c).tick.pos = c.tick.pos := by simp [slotRevoked]
@[simp] theorem anchorsTaken_pos (ops : Nat) (c : Core) : (anchorsTaken ops c).tick.pos = c.tick.pos := by simp [anchorsTaken]
@[simp] theorem gleanTick_pos (c : Core) : (gleanTick c).tick.pos = c.tick.pos := by simp [gleanTick]
@[simp] theorem cnvLeft_pos (c : Core) : (cnvLeft c).tick.pos = c.tick.pos := by simp [cnvLeft]
@[simp] theorem learnPos_pos (qm : Int) (i k : Nat) (c : Core) : (learnPos qm i k c).tick.pos = c.tick.pos := by simp [learnPos]
@[simp] theorem gleanLearn_pos (c : Core) : (gleanLearn c).tick.pos = c.tick.pos := by
  have hlearn := forUp_pos c.slots.length (fun i d => learnPos c.est.glnNet i (c.slots.getD i 0) d) (fun i d => learnPos_pos _ i _ d) c
  unfold gleanLearn
  simp only [saveTrigger_pos, Core.raise_tick, Core.cntSat_pos, Core.wr_tick, Core.when_pos, ite_self]
  exact hlearn
@[simp] theorem gleanNext_pos (c0 : Core) : (gleanNext c0).tick.pos = c0.tick.pos := by
  unfold gleanNext
  split
  · rfl
  · dsimp only
    split <;> simp
@[simp] theorem gleanRecharge_pos (c : Core) : (gleanRecharge c).tick.pos = c.tick.pos := by simp [gleanRecharge]
@[simp] theorem curInvalid_pos (lost : Bool) (c : Core) : (curInvalid lost c).tick.pos = c.tick.pos := by simp [curInvalid]
@[simp] theorem estTick_pos (cur : Int) (lost : Bool) (c : Core) : (estTick cur lost c).tick.pos = c.tick.pos := by simp [estTick]
@[simp] theorem estShow_pos (ops : Nat) (c : Core) : (estShow ops c).tick.pos = c.tick.pos := rfl
@[simp] theorem slotAnchorTake_pos (k : Nat) (c : Core) : (slotAnchorTake k c).1.tick.pos = c.tick.pos := by
  unfold slotAnchorTake
  dsimp only
  split
  · split <;> rfl
  · rfl
@[simp] theorem estPosEpoch_pos (ops cls : Nat) (g : EndCfg) (i k : Nat) (r : Core × Bool × Bool × Bool) : (estPosEpoch ops cls g i k r).1.tick.pos = r.1.tick.pos := by
  unfold estPosEpoch
  extract_lets c old a x0 q agg hist c1 r0 p r1 ctx aged r2 c3 b y z w c4
  have hrest : r0.1.tick.pos = c1.tick.pos := by
    simp only [r0]
    split
    · exact restOf_pos _ _ _
    · rfl
  have hslot : r1.1.tick.pos = r0.1.tick.pos := slotAnchorTake_pos _ _
  have hdyn : r2.1.tick.pos = r1.1.tick.pos := by
    simp only [r2]
    split
    · split
      · rfl
      · exact dynOf_pos _ _ _ _
    · rfl
  have hwhen : (c4.when (z.empties cls && !x0.firstpend && (decide (0 < x0.x) || !x0.floorHold)) (fun c => c.raise 50 i 3)).tick.pos = c4.tick.pos := by simp
  exact hwhen.trans (hdyn.trans (hslot.trans hrest))
@[simp] theorem healthPublish_pos (ops : Nat) (c : Core) : (healthPublish ops c).tick.pos = c.tick.pos := rfl
@[simp] theorem estStrEpoch_pos (ops cls : Nat) (g : EndCfg) (rest dyn : Bool) (c : Core) : (estStrEpoch ops cls g rest dyn c).tick.pos = c.tick.pos := by
  unfold estStrEpoch
  dsimp only
  split <;> simp
@[simp] theorem estStrFirst_pos (c : Core) : (estStrFirst c).tick.pos = c.tick.pos := by
  unfold estStrFirst
  split <;> simp
@[simp] theorem estWindow_pos (ops : Nat) (c : Core) : (estWindow ops c).tick.pos = c.tick.pos := rfl
@[simp] theorem estEpoch_pos (ops : Nat) (c0 : Core) : (estEpoch ops c0).tick.pos = c0.tick.pos := by
  unfold estEpoch
  extract_lets c cls idle est ca g ks r cb cc cd
  have hcommit : ca.tick.pos = c0.tick.pos := ocvCommit_pos c0
  have heach : r.1.tick.pos = ca.tick.pos := forUp_pos_fst _ _ (fun i r => estPosEpoch_pos _ _ _ _ _ r) _
  have hstr : cb.tick.pos = r.1.tick.pos := by simp only [cb, estStrEpoch_pos]
  have hfirst : cc.tick.pos = cb.tick.pos := by
    simp only [cc]
    split
    · exact estStrFirst_pos cb
    · rfl
  have hshow : cd.tick.pos = cc.tick.pos := by simp [cd]
  exact (hshow.trans hfirst).trans (hstr.trans (heach.trans hcommit))

/-! ### SDM -/

@[simp] theorem sdmInput_pos (n : Nat) (outs : List Int) (c : Core) : (sdmInput n outs c).tick.pos = c.tick.pos := by simp [sdmInput]
@[simp] theorem sdmTick_pos (outs : List (List Int)) (c : Core) : (sdmTick outs c).tick.pos = c.tick.pos := by
  have hinputs := forUp_pos 12 (fun n d => sdmInput n (outs.getD n []) d) (fun n d => sdmInput_pos n _ d) c
  simp only [sdmTick, Core.wrB_pos]
  exact hinputs

/-! ### CTE -/

@[simp] theorem cteShow_pos (c : Core) : (cteShow c).tick.pos = c.tick.pos := by
  unfold cteShow
  dsimp only
  split <;> split <;> rfl
@[simp] theorem pmWrite_pos (v : Nat) (c : Core) : (pmWrite v c).tick.pos = c.tick.pos := by simp [pmWrite]
@[simp] theorem dmWrite_pos (v : Nat) (c : Core) : (dmWrite v c).tick.pos = c.tick.pos := by simp [dmWrite]
@[simp] theorem cteSwap_pos (s : Prog) (c : Core) : (cteSwap s c).tick.pos = c.tick.pos := rfl
@[simp] theorem swapNow_pos (c : Core) : (swapNow c).tick.pos = c.tick.pos := by
  unfold swapNow
  split <;> simp
@[simp] theorem swapAtChange_pos (c : Core) : (swapAtChange c).tick.pos = c.tick.pos := by
  unfold swapAtChange
  split <;> simp
@[simp] theorem cteHalt_pos (c : Core) : (cteHalt c).tick.pos = c.tick.pos := by simp [cteHalt]
@[simp] theorem paramCommit_pos (c : Core) : (paramCommit c).tick.pos = c.tick.pos := rfl
@[simp] theorem paramTick_pos (c : Core) : (paramTick c).tick.pos = c.tick.pos := by simp [paramTick]
@[simp] theorem paramChange_pos (c : Core) : (paramChange c).tick.pos = c.tick.pos := by simp [paramChange]
@[simp] theorem mirrorInit_pos (c : Core) : (mirrorInit c).tick.pos = c.tick.pos := rfl

/-! ### PROT -/

@[simp] theorem gateOutputs_pos (c : Core) : (gateOutputs c).tick.pos = c.tick.pos := rfl
@[simp] theorem protTrip_pos (f : Fld) (bit code : Nat) (c : Core) : (protTrip f bit code c).tick.pos = c.tick.pos := by simp [protTrip]
@[simp] theorem cbcForce_pos (n : Nat) (c : Core) : (cbcForce n c).tick.pos = c.tick.pos := rfl
@[simp] theorem tripLow_pos (n : Nat) (c : Core) : (tripLow n c).tick.pos = c.tick.pos := by simp [tripLow]
@[simp] theorem refsCommit_pos (c : Core) : (refsCommit c).tick.pos = c.tick.pos := rfl
@[simp] theorem xTick_pos (c : Core) : (xTick c).tick.pos = c.tick.pos := rfl
@[simp] theorem xMiss_pos (conf : Bool) (c : Core) : (xMiss conf c).tick.pos = c.tick.pos := rfl
@[simp] theorem xDrop_pos (c : Core) : (xDrop c).tick.pos = c.tick.pos := rfl
@[simp] theorem alarm_pos (f : Fld) (kind : Nat) (b : Bool) (c : Core) : (alarm f kind b c).tick.pos = c.tick.pos := by simp [alarm]
@[simp] theorem protDue_pos (c : Core) : (protDue c).tick.pos = c.tick.pos := by simp [protDue]
@[simp] theorem protTick_pos (conf : Bool) (c : Core) : (protTick conf c).tick.pos = c.tick.pos := rfl
@[simp] theorem isoFrame_pos (c0 : Core) : (isoFrame c0).tick.pos = c0.tick.pos := by simp [isoFrame]
@[simp] theorem clearCause_pos (f : Fld) (bits present : Nat) (c : Core) : (clearCause f bits present c).tick.pos = c.tick.pos := by simp [clearCause]
@[simp] theorem tripEnd_pos (c : Core) : (tripEnd c).tick.pos = c.tick.pos := by simp [tripEnd]
@[simp] theorem clearTrip0_pos (w : Nat) (c : Core) : (clearTrip0 w c).tick.pos = c.tick.pos := by simp [clearTrip0]
@[simp] theorem clearTrip1_pos (w : Nat) (c : Core) : (clearTrip1 w c).tick.pos = c.tick.pos := by simp [clearTrip1]
@[simp] theorem fastSet_pos (ws : List PWrite) (c : Core) : (fastSet ws c).tick.pos = c.tick.pos := by
  have happly := foldl_pos Core.apply Core.apply_pos ws c
  unfold fastSet
  dsimp only
  split
  · rfl
  · exact happly
@[simp] theorem fastCommit_pos (ws : List PWrite) (c : Core) : (fastCommit ws c).tick.pos = c.tick.pos := by
  fun_induction fastCommit ws c with
  | case1 a b ws c ih => simp [ih]
  | case2 => rfl
  | case3 => simp
@[simp] theorem protCfgCommit_pos (c : Core) : (protCfgCommit c).tick.pos = c.tick.pos := by
  unfold protCfgCommit
  split
  · simp only [Core.when_pos, Core.raise_tick, ite_self]
    refine (forUp_pos _ _ (fun n d => by split <;> simp) _).trans ?_
    simp
  · rfl
@[simp] theorem protFrameCommit_pos (isProt : PWrite → Bool) (c : Core) : (protFrameCommit isProt c).tick.pos = c.tick.pos :=
    by simp [protFrameCommit]

/-! ### CNV -/

@[simp] theorem pwmSafe_pos (c : Core) : (pwmSafe c).tick.pos = c.tick.pos := rfl
@[simp] theorem setPhases_pos (ks : List Nat) (angles : Bool) (c : Core) : (setPhases ks angles c).tick.pos = c.tick.pos := by
  have hact : (forUp 6 (fun k c => c.wrB (F.CNV_PH_ANG.ACT k) (ks.contains k)) c).tick.pos = c.tick.pos := forUp_pos _ _ (fun _ _ => by rfl) c
  unfold setPhases
  dsimp only
  rw [Core.wr_tick]
  dsimp only
  split
  · exact (forUp_pos _ _ (fun k c => by split <;> rfl) _).trans hact
  · exact hact
@[simp] theorem allPhases_pos (c : Core) : (allPhases c).tick.pos = c.tick.pos := by simp [allPhases]
@[simp] theorem pwmLoad_pos (c : Core) : (pwmLoad c).tick.pos = c.tick.pos := rfl
@[simp] theorem pwmShift_pos (c : Core) : (pwmShift c).tick.pos = c.tick.pos := rfl
@[simp] theorem refSource_pos (c : Core) : (refSource c).tick.pos = c.tick.pos := by simp [refSource]
@[simp] theorem estCross_pos (c : Core) : (estCross c).tick.pos = c.tick.pos := rfl
@[simp] theorem bounds_pos (c : Core) : (bounds c).tick.pos = c.tick.pos := rfl
@[simp] theorem cnvEnter_pos (st fcause : Nat) (c : Core) : (cnvEnter st fcause c).tick.pos = c.tick.pos := by simp [cnvEnter]
@[simp] theorem enterSoftStop_pos (deg : Bool) (c : Core) : (enterSoftStop deg c).tick.pos = c.tick.pos := by simp [enterSoftStop]
@[simp] theorem degradeStop_pos (c : Core) : (degradeStop c).tick.pos = c.tick.pos := rfl
@[simp] theorem rampStep_pos (c : Core) : (rampStep c).tick.pos = c.tick.pos := by simp [rampStep]
@[simp] theorem stallTick_pos (c : Core) : (stallTick c).tick.pos = c.tick.pos := rfl
@[simp] theorem stopTick_pos (c : Core) : (stopTick c).tick.pos = c.tick.pos := rfl
@[simp] theorem burstToRun_pos (c : Core) : (burstToRun c).tick.pos = c.tick.pos := by simp [burstToRun]
@[simp] theorem burstTick_pos (c : Core) : (burstTick c).tick.pos = c.tick.pos := by simp [burstTick]
@[simp] theorem shedAngles_pos (c : Core) : (shedAngles c).tick.pos = c.tick.pos := by simp [shedAngles]
@[simp] theorem phaseAdd_pos (c : Core) : (phaseAdd c).tick.pos = c.tick.pos := by
  unfold phaseAdd
  dsimp only
  split <;> simp
@[simp] theorem phaseTick_pos (c : Core) : (phaseTick c).tick.pos = c.tick.pos := by simp [phaseTick]
@[simp] theorem showBlock_pos (c : Core) : (showBlock c).tick.pos = c.tick.pos := rfl
@[simp] theorem clrTick_pos (c : Core) : (clrTick c).tick.pos = c.tick.pos := by simp [clrTick]
@[simp] theorem cnvMove_pos (c : Core) : (cnvMove c).tick.pos = c.tick.pos := by
  unfold cnvMove
  dsimp only
  split
  · simp
  · split
    · simp
    · split
      · simp
      · split
        · simp
        · split <;> simp
@[simp] theorem degShow_pos (c : Core) : (degShow c).tick.pos = c.tick.pos := by simp [degShow]
@[simp] theorem cnvTick_pos (c0 : Core) : (cnvTick c0).tick.pos = c0.tick.pos := by simp [cnvTick]
@[simp] theorem burstLeave_pos (c : Core) : (burstLeave c).tick.pos = c.tick.pos := by simp [burstLeave]
@[simp] theorem latchPorts_pos (c : Core) : (latchPorts c).tick.pos = c.tick.pos := rfl
@[simp] theorem cnvCfgCommit_pos (c : Core) : (cnvCfgCommit c).tick.pos = c.tick.pos := by simp [cnvCfgCommit]

/-! ### NET -/

@[simp] theorem plantMove_pos (d : Int) (c : Core) : (plantMove d c).tick.pos = c.tick.pos := rfl

/-! ### CAN -/

@[simp] theorem txStart_pos (c : Core) : (txStart c).tick.pos = c.tick.pos := by
  unfold txStart
  split
  · rfl
  · split <;> rfl
@[simp] theorem txFailed_pos (c : Core) : (txFailed c).tick.pos = c.tick.pos := by
  unfold txFailed
  split <;> simp
@[simp] theorem balObjects_pos (c : Core) : (balObjects c).tick.pos = c.tick.pos := by simp [balObjects]

/-! ### Accesses -/

@[simp] theorem accViol_pos (m : Master) (kind off : Nat) (c : Core) : (accViol m kind off c).tick.pos = c.tick.pos := rfl

/-! ### SHF -/

@[simp] theorem governShow_pos (c : Core) : (governShow c).tick.pos = c.tick.pos := rfl
@[simp] theorem revoke_pos (c : Core) : (revoke c).tick.pos = c.tick.pos := by simp [revoke]
@[simp] theorem pidCommit_pos (was : Nat) (c : Core) : (pidCommit was c).tick.pos = c.tick.pos := by simp [pidCommit]
@[simp] theorem shfTick_pos (c : Core) : (shfTick c).tick.pos = c.tick.pos := rfl
@[simp] theorem sheafMean_pos (c0 : Core) : (sheafMean c0).tick.pos = c0.tick.pos := rfl
@[simp] theorem writeVref_pos (v : Int) (c : Core) : (writeVref v c).tick.pos = c.tick.pos := rfl
@[simp] theorem publishHeadroom_pos (c : Core) : (publishHeadroom c).tick.pos = c.tick.pos := rfl
@[simp] theorem targetSet_pos (t : DTarget) (n : Nat) (c : Core) : (targetSet t n c).tick.pos = c.tick.pos := rfl
@[simp] theorem targetTake_pos (c : Core) : (targetTake c).tick.pos = c.tick.pos := by
  unfold targetTake
  dsimp only
  split
  · simp
  · split
    · split <;> simp
    · simp
@[simp] theorem targetEnd_pos (c : Core) : (targetEnd c).tick.pos = c.tick.pos := rfl
@[simp] theorem sourceOff_pos (c : Core) : (sourceOff c).tick.pos = c.tick.pos := by simp [sourceOff]
@[simp] theorem dispatchShare_pos (c0 : Core) : (dispatchShare c0).tick.pos = c0.tick.pos := by
  have htarget : (sourceOff (targetTake (publishHeadroom c0))).tick.pos = c0.tick.pos := by simp
  unfold dispatchShare
  generalize sourceOff (targetTake (publishHeadroom c0)) = c2 at htarget
  refine Eq.trans ?_ htarget
  dsimp only
  split <;> simp
@[simp] theorem redShow_pos (c : Core) : (redShow c).tick.pos = c.tick.pos := rfl
@[simp] theorem toldNothing_pos (c : Core) : (toldNothing c).tick.pos = c.tick.pos := rfl
@[simp] theorem sbyValid_pos (v : Bool) (c : Core) : (sbyValid v c).tick.pos = c.tick.pos := by simp [sbyValid]
@[simp] theorem hboToggle_pos (c : Core) : (hboToggle c).tick.pos = c.tick.pos := by simp [hboToggle]
@[simp] theorem roleMark_pos (cause : Nat) (c : Core) : (roleMark cause c).tick.pos = c.tick.pos := rfl
@[simp] theorem takeRest_pos (c : Core) : (takeRest c).tick.pos = c.tick.pos := rfl
@[simp] theorem handover_pos (cause : Nat) (c : Core) : (handover cause c).tick.pos = c.tick.pos := by simp [handover]
@[simp] theorem handoverOff_pos (c : Core) : (handoverOff c).tick.pos = c.tick.pos := by simp [handoverOff]
@[simp] theorem degradedHandover_pos (c : Core) : (degradedHandover c).tick.pos = c.tick.pos := by simp [degradedHandover]

/-! ### TICK -/

@[simp] theorem ctlApply_pos (c : Core) (w : PWrite) : (ctlApply c w).tick.pos = c.tick.pos := by simp [ctlApply]
@[simp] theorem stageTick_pos (p : Nat) (c : Core) : (stageTick p c).tick.pos = c.tick.pos := by simp [stageTick]
@[simp] theorem stageDue_pos (c : Core) : (stageDue c).tick.pos = c.tick.pos := by
  unfold stageDue
  split <;> simp
@[simp] theorem snapArm_pos (c : Core) : (snapArm c).tick.pos = c.tick.pos := rfl
@[simp] theorem snapGo_pos (was : Bool) (c : Core) : (snapGo was c).tick.pos = c.tick.pos := by simp [snapGo]
@[simp] theorem snapTick_pos (c : Core) : (snapTick c).tick.pos = c.tick.pos := by simp [snapTick]
@[simp] theorem commitTick_pos (c : Core) : (commitTick c).tick.pos = c.tick.pos := by
  unfold commitTick
  simp only [Core.when_pos, snapGo_pos, Core.wr_tick, ite_self]
  exact foldl_pos ctlApply ctlApply_pos _ _
@[simp] theorem timeTick_pos (c : Core) : (timeTick c).tick.pos = c.tick.pos := rfl
@[simp] theorem handoverBoundary_pos (c : Core) : (handoverBoundary c).tick.pos = c.tick.pos := by simp [handoverBoundary]
@[simp] theorem boundaryCommit_pos (c : Core) : (boundaryCommit c).tick.pos = c.tick.pos := by simp [boundaryCommit]
@[simp] theorem endRequest_pos (pend err : Fld) (v : Nat) (c : Core) : (endRequest pend err v c).tick.pos = c.tick.pos := by simp [endRequest]
@[simp] theorem endRequests_pos (v : Nat) (c : Core) : (endRequests v c).tick.pos = c.tick.pos := by simp [endRequests]
@[simp] theorem profileEnd_pos (err : Nat) (c : Core) : (profileEnd err c).tick.pos = c.tick.pos := rfl
@[simp] theorem profileImp_pos (p : Nat) (c : Core) : (profileImp p c).tick.pos = c.tick.pos := by simp [profileImp]
@[simp] theorem profileCommit_pos (p : Nat) (c : Core) : (profileCommit p c).tick.pos = c.tick.pos := by simp [profileCommit]
@[simp] theorem profileEvaluate_pos (c : Core) : (profileEvaluate c).tick.pos = c.tick.pos := by
  unfold profileEvaluate
  split
  · dsimp only
    split <;> simp
  · rfl
@[simp] theorem layoutEvaluate_pos (c : Core) : (layoutEvaluate c).tick.pos = c.tick.pos := by
  unfold layoutEvaluate
  split
  · dsimp only
    split <;> simp
  · rfl
@[simp] theorem engineBoundary_pos (c : Core) : (engineBoundary c).tick.pos = c.tick.pos := by simp [engineBoundary]
@[simp] theorem tickChanged_pos (c : Core) : (tickChanged c).tick.pos = c.tick.pos := by simp [tickChanged]
@[simp] theorem Core.swapMet_pos (c : Core) : c.swapMet.tick.pos = c.tick.pos := rfl
@[simp] theorem requestsEvaluate_pos (c : Core) : (requestsEvaluate c).tick.pos = c.tick.pos := by simp [requestsEvaluate]
@[simp] theorem ownTick_pos (c0 : Core) : (ownTick c0).tick.pos = c0.tick.pos := by simp [ownTick]
@[simp] theorem boundaryWork_pos (conf : Bool) (outs : List (List Int)) (c : Core) : (boundaryWork conf outs c).tick.pos = c.tick.pos :=
    by simp [boundaryWork]
@[simp] theorem frameCommit_pos (c : Core) : (frameCommit c).tick.pos = c.tick.pos := by simp [frameCommit]
@[simp] theorem owDecide_pos (f : Nat) (c : Core) : (owDecide f c).tick.pos = c.tick.pos := by simp [owDecide]
@[simp] theorem owMissed_pos (c : Core) : (owMissed c).tick.pos = c.tick.pos := by simp [owMissed]
@[simp] theorem epochBoundary_pos (ops : Nat) (c : Core) : (epochBoundary ops c).tick.pos = c.tick.pos := by simp [epochBoundary]
@[simp] theorem syncSend_pos (tchg : Bool) (c0 : Core) : (syncSend tchg c0).tick.pos = c0.tick.pos := by simp [syncSend]
@[simp] theorem frameReset_pos (c : Core) : (frameReset c).tick.pos = c.tick.pos := rfl
@[simp] theorem frameLayout_pos (c : Core) : (frameLayout c).tick.pos = c.tick.pos := by simp [frameLayout]
@[simp] theorem frameBurst_pos (c : Core) : (frameBurst c).tick.pos = c.tick.pos := by simp [frameBurst]
@[simp] theorem frameStart_pos (tchg : Bool) (c : Core) : (frameStart tchg c).tick.pos = c.tick.pos := by simp [frameStart]

/-! ### The boundaries -/

theorem atPhase_pos (ph : Nat) {f : Core → Core} (hf : ∀ c : Core, (f c).tick.pos = c.tick.pos) (c : Core) : (atPhase ph f c).tick.pos = c.tick.pos := hf _

/-- R52, R57: a tick boundary moves on by one tick in the frame. -/
theorem tickBoundary_pos (conf : Bool) (outs : List (List Int)) {c : Core} (h : c.tick.running = true) :
    (tickBoundary conf outs c).tick.pos = c.tick.pos + 1 := by
  have hwork := atPhase_pos 0 (f := fun c => boundaryWork conf outs (boundaryCommit (handoverBoundary (snapTick (pwmShift (hboToggle c))))))
    (fun c => by simp) (timeTick c)
  unfold tickBoundary
  rw [if_pos h]
  exact congrArg (· + 1) (hwork.trans (timeTick_pos c))

/-- R57, R58: the frame advances to its tick 0, where the work of the boundary leaves it. -/
theorem frameSteps_pos (ops : Nat) (c : Core) : (frameSteps ops c).tick.pos = 0 := by
  have hadvance : (frameAdvance c).tick.pos = 0 := rfl
  unfold frameSteps
  generalize frameAdvance c = d at hadvance
  simp [hadvance]

theorem frameBoundary_pos (ops : Nat) {c : Core} (hrun : c.tick.running = true) (hframes : c.framesRun = true) (hend : c.nf ≤ c.tick.pos) :
    (frameBoundary ops c).tick.pos = 0 := by
  unfold frameBoundary
  rw [if_pos (by simp [hrun, hframes, hend])]
  simp [atPhase, frameWork, frameSteps_pos]

end Sys2Proof.Machine
end

section
/-! PROOF. O6: tick boundary, engine pass, commit point and frame boundary (R17, R52, R53, R57, R269, R280). -/

namespace Sys2Proof.Machine

/-! ### The engine pass -/

/-- R269: what a pass of the engine may change: of the registers ACCSAT and the saturation counter, of the data memory the words it may write,
and nothing of program memory. -/
structure Core.EngineOnly (c d : Core) : Prop where
  fields : fieldsOnly [F.CTE_STAT.ACCSAT, F.CTE_SATCNT.COUNT] c d
  pm : d.cte.pm = c.cte.pm
  dm : ∀ a, dmWritable a = false → Tab.get 0 d.cte.dm a = Tab.get 0 c.cte.dm a

theorem Core.EngineOnly.refl (c : Core) : c.EngineOnly c := ⟨fieldsOnly_refl _ c, rfl, fun _ _ => rfl⟩

theorem Core.EngineOnly.trans {c d e : Core} (h : c.EngineOnly d) (g : d.EngineOnly e) : c.EngineOnly e :=
  ⟨fieldsOnly_trans h.fields g.fields, g.pm.trans h.pm, fun a ha => (g.dm a ha).trans (h.dm a ha)⟩

/-- A change of the engine's state alone. -/
theorem engineOnly_cte {c : Core} {e : CteSt} (hpm : e.pm = c.cte.pm) (hdm : ∀ a, dmWritable a = false → Tab.get 0 e.dm a = Tab.get 0 c.cte.dm a) :
    c.EngineOnly { c with cte := e } := ⟨fun _ _ => rfl, hpm, hdm⟩

theorem engineOnly_field (c : Core) (v : Nat) {f : Fld} (hf : f ∈ [F.CTE_STAT.ACCSAT, F.CTE_SATCNT.COUNT]) : c.EngineOnly (c.wr f v) :=
  ⟨fieldsOnly_wr (fieldsOnly_refl _ c) hf, rfl, fun _ _ => rfl⟩

theorem CteSt.wr_pm (e : CteSt) (a : Nat) (v : Int) : (e.wr a v).pm = e.pm := by
  unfold CteSt.wr
  split
  · rfl
  · split <;> rfl

/-- R269: a write of the engine reaches no word that it may not write. -/
theorem CteSt.get_wr_dm (e : CteSt) (x : Nat) (v : Int) {a : Nat} (ha : dmWritable a = false) : Tab.get 0 (e.wr x v).dm a = Tab.get 0 e.dm a := by
  unfold CteSt.wr
  split
  · next hx => exact Tab.get_put_ne 0 e.dm v fun h => Bool.false_ne_true (ha.symm.trans (h ▸ hx))
  · split <;> rfl

theorem engineOnly_store (c : Core) (x : Nat) (v : Int) : c.EngineOnly { c with cte := c.cte.wr x v } :=
  engineOnly_cte (c.cte.wr_pm x v) fun _ ha => c.cte.get_wr_dm x v ha

theorem engineOnly_setAcc (i : Nat) (x : Int) (c : Core) : c.EngineOnly (setAcc i x c) := by
  have hacc : c.EngineOnly { c with cte := { c.cte with acc := c.cte.acc.set i (accSat x) } } := engineOnly_cte rfl fun _ _ => rfl
  unfold setAcc
  dsimp only
  split
  · exact hacc
  · exact hacc.trans (engineOnly_field _ 1 (by simp))

theorem engineOnly_setPred (i : Nat) (b : Bool) (c : Core) : c.EngineOnly (setPred i b c) := by
  unfold setPred
  split
  · exact .refl c
  · exact engineOnly_cte rfl fun _ _ => rfl

theorem engineOnly_storeAcc (lo hi : Int) (x : Nat) (v : Int) (c : Core) : c.EngineOnly (storeAcc lo hi x v c) := by
  have hstore := engineOnly_store c x (clampI lo hi (q15Round v))
  unfold storeAcc
  dsimp only
  split
  · exact hstore
  · exact hstore.trans (engineOnly_field _ _ (by simp))

/-- R267: an instruction whose predicate does not hold changes nothing. -/
theorem engineOnly_cteRun {w : CteW} {f : Core → Core} (hf : ∀ c : Core, c.EngineOnly (f c)) (c : Core) : c.EngineOnly (cteRun w f c) := by
  unfold cteRun
  split
  · exact hf c
  · exact .refl c

theorem engineOnly_cteExec (n : Nat) (c : Core) : c.EngineOnly (cteExec n c) := by
  unfold cteExec
  dsimp only
  split
  case h_1 | h_2 | h_3 | h_4 | h_5 | h_6 | h_7 | h_8 | h_9 | h_10 | h_11 => exact engineOnly_cteRun (fun c => engineOnly_setAcc _ _ c) c
  case h_12 | h_13 | h_14 => exact engineOnly_cteRun (fun c => engineOnly_setPred _ _ c) c
  case h_15 | h_16 => exact engineOnly_cteRun (fun c => engineOnly_storeAcc _ _ _ _ c) c
  case h_17 => exact engineOnly_cteRun (fun c => engineOnly_store c _ _) c
  case h_18 => exact .refl c

theorem engineOnly_words (ws : List Nat) (c : Core) : c.EngineOnly (ws.foldl (fun c w => cteExec w c) c) := by
  induction ws generalizing c with
  | nil => exact .refl c
  | cons w ws ih => exact (engineOnly_cteExec w c).trans (ih _)

/-- R265, R277: the pass of the active program, the standard loop set's or the words of its region. -/
theorem engineOnly_enginePass (c : Core) : (engineMirror c).EngineOnly (enginePass c) := by
  unfold enginePass
  dsimp only
  generalize engineMirror c = d
  split
  · exact .refl d
  · next p _ =>
    split
    · have hstd : d.EngineOnly ({ d with cte := { (stdPass { d.cte with acc := [0, 0, 0, 0], pred := [true, false, false, false] }).1 with
          stdFree := some d.free, wrote := [] } } : Core).tickFree := ⟨fun _ _ => rfl, rfl, fun _ _ => rfl⟩
      exact hstd.trans (engineOnly_field _ _ (by simp))
    · exact .trans (d := { d with cte := { d.cte with acc := [0, 0, 0, 0], pred := [true, false, false, false] } })
        (engineOnly_cte rfl fun _ _ => rfl) (engineOnly_words _ _)

theorem engineMirror_active {c : Core} (h : c.standby = false) : engineMirror c = c := by simp [engineMirror, h]

theorem fieldsOnly_engineMirror (fs : List Fld) (c : Core) : fieldsOnly fs c (engineMirror c) := by
  unfold engineMirror
  split <;> exact fun _ _ => rfl

theorem engineMirror_pm (c : Core) : (engineMirror c).cte.pm = c.cte.pm := by
  unfold engineMirror
  split <;> rfl

theorem Tab.get_of_ne {α : Type} (d : α) {t : Tab α} {k : Nat} (h : ∀ p ∈ t, p.1 ≠ k) : Tab.get d t k = d := by
  induction t with
  | nil => rfl
  | cons p t ih =>
    obtain ⟨hp, ht⟩ := List.forall_mem_cons.mp h
    simp [Tab.get, hp, ih ht]

theorem Tab.get_append_of_ne {α : Type} (d : α) (t : Tab α) {u : Tab α} {k : Nat} (h : ∀ p ∈ u, p.1 ≠ k) : Tab.get d (t ++ u) k = Tab.get d t k := by
  induction t with
  | nil => exact Tab.get_of_ne d h
  | cons p t ih => simp [Tab.get, ih]

/-- R280: the words below 384 of a standby's data memory are those of the mirror. -/
theorem engineMirror_dm {c : Core} (h : c.standby = true) {a : Nat} (ha : a < 384) : Tab.get 0 (engineMirror c).cte.dm a = Tab.get 0 c.cte.mirror a := by
  unfold engineMirror
  rw [if_pos h]
  refine Tab.get_append_of_ne 0 c.cte.mirror fun p hp => ?_
  have hhigh : 384 ≤ p.1 := by simpa using (List.mem_filter.mp hp).2
  omega

/-- R276: the engine writes no parameter word. -/
theorem dmWritable_parameter {a : Nat} (hlow : 256 ≤ a) (hhigh : a < 384) : dmWritable a = false := by
  simp [dmWritable]
  omega

theorem enginePass_idle {c : Core} (hsby : c.standby = false) (hact : c.cte.act = none) : enginePass c = c := by
  simp [enginePass, engineMirror_active hsby, hact]

theorem enginePass_ends {s : State} (hs : s.pwr.held = false) :
    Ends .enginePass s fun t => coreOnly s t ∧ fieldsOnly [F.CTE_STAT.ACCSAT, F.CTE_SATCNT.COUNT] s.core t.core ∧ t.core.cte.pm = s.core.cte.pm ∧
      (s.core.standby = false → ∀ a, dmWritable a = false → Tab.get 0 t.core.cte.dm a = Tab.get 0 s.core.cte.dm a) ∧
      (s.core.standby = true → ∀ a, 256 ≤ a → a < 384 → Tab.get 0 t.core.cte.dm a = Tab.get 0 s.core.cte.mirror a) ∧
      (s.core.standby = false → s.core.cte.act = none → t = s) := by
  obtain ⟨hfields, hpm, hdm⟩ := engineOnly_enginePass s.core
  refine ends_onCore enginePass hs rfl ⟨rfl, fieldsOnly_trans (fieldsOnly_engineMirror _ _) hfields, hpm.trans (engineMirror_pm _), ?active, ?standby, ?idle⟩
  case active =>
    intro hsby a ha
    have hword := hdm a ha
    rwa [engineMirror_active hsby] at hword
  case standby => exact fun hsby a hlow hhigh => (hdm a (dmWritable_parameter hlow hhigh)).trans (engineMirror_dm hsby hhigh)
  case idle => exact fun hsby hact => congrArg (fun c => ({ s with core := c } : State)) (enginePass_idle hsby hact)

/-! ### The commit point -/

/-- R17, R53: behind the commit point no held write has come after the cut-off. -/
theorem commitInstant_late (xl hb : Bool) (q : NC) (h : q.2.tick.running = true) : ∀ w ∈ (commitInstant xl hb q).2.wait, w.late = false := by
  unfold commitInstant
  rw [if_pos h]
  dsimp only [cutOffOver]
  intro w hw
  obtain ⟨v, -, rfl⟩ := List.mem_map.mp hw
  rfl

/-! ### The frame boundary -/

theorem endsThen_onCoreA {i : Instr} {s : State} {P : State → Prop} (f : AonSt → PwrSt → Core → Core) (hs : s.pwr.held = false)
    (he : exec i s = .next (hifSettle (onCoreA f s))) (h : P { s with core := f s.aon s.pwr s.core }) : EndsThen i s P :=
  ⟨_, he.trans (by rw [onCoreA_run f hs]), h⟩

/-- R57: inside a frame, and in a module that does not count its frames, there is no frame boundary. -/
theorem frameBoundary_none (ops : Nat) {c : Core} (h : c.tick.pos < c.nf ∨ c.framesRun = false) : frameBoundary ops c = c := by
  unfold frameBoundary
  rw [if_neg]
  rcases h with hpos | hframes
  · simp [hpos]
  · simp [hframes]

theorem frameBoundary_none_ends {s : State} (hs : s.pwr.held = false) (h : s.core.tick.pos < s.core.nf ∨ s.core.framesRun = false) :
    EndsThen .frameBoundary s fun u => u = s :=
  endsThen_onCoreA (fun a _ => frameBoundary a.ops) hs rfl (congrArg (fun c => ({ s with core := c } : State)) (frameBoundary_none _ h))

/-- Settles O6: the place in the frame by the lemmas of the two boundaries, the engine pass and the commit point by their own. -/
theorem tickCommands : Obligations.TickCommands := by
  unfold Obligations.TickCommands
  intro s hs
  refine ⟨?tick, enginePass_ends hs, ?commit, ?frame, fun hpos => frameBoundary_none_ends hs (.inl hpos),
    fun hframes => frameBoundary_none_ends hs (.inr hframes)⟩
  case tick => exact fun means hrun => endsThen_onCore (tickBoundary s.saf.conf means) hs rfl ⟨rfl, tickBoundary_pos _ _ hrun⟩
  case commit =>
    exact fun xl hb hrun => ends_onNv (fun _ nv c => commitInstant xl hb (nv, c)) hs rfl ⟨rfl, commitInstant_late xl hb (s.nv, s.core) hrun⟩
  case frame =>
    exact fun hrun hframes hend => endsThen_onCoreA (fun a _ => frameBoundary a.ops) hs rfl ⟨rfl, frameBoundary_pos _ hrun hframes hend⟩

end Sys2Proof.Machine
end

section
/-! PROOF. What answers of nodes bring (R80, R103, R197, R217): frames by field, packets on the chain, the node table, and what EST does with the
serial of a node that has come back. -/

namespace Sys2Proof.Machine

/-! ### Frames by field -/

theorem fieldsOnly_mono {fs gs : List Fld} {c d : Core} (h : fieldsOnly fs c d) (hs : ∀ f ∈ fs, f ∈ gs) : fieldsOnly gs c d :=
  fun f hf => h f fun g hg => hf g (hs g hg)

theorem fieldsOnly_csr {fs : List Fld} {c d : Core} (h : d.csr = c.csr) : fieldsOnly fs c d := fieldsOnly_of_csr (fieldsOnly_refl fs c) h

theorem fieldsOnly_raise {fs : List Fld} {c d : Core} {n src prim : Nat} (h : fieldsOnly fs c d) : fieldsOnly fs c (d.raise n src prim) :=
  fieldsOnly_of_csr h rfl

theorem fieldsOnly_cntSat {fs : List Fld} {c d : Core} {g : Fld} {n : Nat} (h : fieldsOnly fs c d) (hg : g ∈ fs) : fieldsOnly fs c (d.cntSat g n) :=
  fieldsOnly_wr h hg

theorem noRegister_of_csr {c d : Core} (h : d.csr = c.csr) : noRegister c d := fun f => congrArg (fun r => Csr.get r f) h

theorem blocksOnly_of_fieldsOnly {fs : List Fld} {bs : List Nat} {c d : Core} (h : fieldsOnly fs c d) (hb : ∀ f ∈ fs, f.block ∈ bs) : blocksOnly bs c d :=
  fun f hf => h f fun g hg he => hf (by unfold Fld.block at *; rw [he]; exact hb g hg)

/-- A counter reads back its next value, cut off at its largest. -/
theorem rd_cntSat_same (c : Core) (f : Fld) : (c.cntSat f).rd f = min (2 ^ f.width - 1) (c.rd f + 1) := by
  have hpos := Nat.two_pow_pos f.width
  rw [Core.cntSat_eq, Core.rd_wr_same, Nat.mod_eq_of_lt (by omega)]

/-- A command that has no effect on the resettable part. -/
theorem ends_unchanged {i : Instr} {s : State} (f : Core → Core) (hs : s.pwr.held = false) (he : exec i s = .next (onCore f s))
    (h : f s.core = s.core) : Ends i s fun t => t = s :=
  ends_onCore f hs he (congrArg (fun c => ({ s with core := c } : State)) h)

/-! ### Packets -/

@[simp] theorem Core.packetSeq_csr (c : Core) (seq ports typ addr : Nat) (p : List Nat) : (c.packetSeq seq ports typ addr p).csr = c.csr := Core.send_csr _ _
@[simp] theorem Core.packetSeq_chn (c : Core) (seq ports typ addr : Nat) (p : List Nat) : (c.packetSeq seq ports typ addr p).chn = c.chn := Core.send_chn _ _
@[simp] theorem Core.packetSeq_imp (c : Core) (seq ports typ addr : Nat) (p : List Nat) : (c.packetSeq seq ports typ addr p).imp = c.imp := Core.send_imp _ _
@[simp] theorem Core.packetAgain_csr (c : Core) (ports typ addr : Nat) (p : List Nat) : (c.packetAgain ports typ addr p).csr = c.csr := Core.send_csr _ _
@[simp] theorem Core.packetAgain_chn (c : Core) (ports typ addr : Nat) (p : List Nat) : (c.packetAgain ports typ addr p).chn = c.chn := Core.send_chn _ _
@[simp] theorem Core.packetAgain_imp (c : Core) (ports typ addr : Nat) (p : List Nat) : (c.packetAgain ports typ addr p).imp = c.imp := Core.send_imp _ _

/-- R80: from `c` to `d` packets have gone out; of the registers and of CHN only the sequence number differs. -/
structure Core.Sent (c d : Core) : Prop where
  csr : d.csr = c.csr
  chn : d.chn = { c.chn with seq := d.chn.seq }

theorem Core.Sent.refl (c : Core) : c.Sent c := ⟨rfl, rfl⟩

theorem Core.Sent.trans {c d e : Core} (h : c.Sent d) (g : d.Sent e) : c.Sent e := ⟨g.csr.trans h.csr, g.chn.trans (by rw [h.chn])⟩

theorem sent_packet (c : Core) (ports typ addr : Nat) (p : List Nat) : c.Sent (c.packet ports typ addr p) := by
  unfold Core.packet
  split
  · exact .refl c
  · constructor <;> simp

theorem sent_forUp {n : Nat} {f : Nat → Core → Core} (hf : ∀ (k : Nat) (c : Core), c.Sent (f k c)) (c : Core) : c.Sent (forUp n f c) := by
  unfold forUp
  generalize List.range n = l
  induction l generalizing c with
  | nil => exact .refl c
  | cons k l ih => exact (hf k c).trans (ih _)

theorem sent_echo (c : Core) (j : Nat) : c.Sent (c.echo j) := sent_forUp (fun _ c => sent_packet c _ _ _ _) c

/-! ### The node table -/

theorem Core.node_setNode (c : Core) (j i : Nat) (f : NodeRt → NodeRt) : (c.setNode j f).node i = if i = j then f (c.node j) else c.node i :=
  Tab.get_put _ _ _ _ _

@[simp] theorem Core.node_setNode_same (c : Core) (j : Nat) (f : NodeRt → NodeRt) : (c.setNode j f).node j = f (c.node j) := Tab.get_put_same _ _ _ _

theorem Core.node_setNode_ne (c : Core) {j i : Nat} (f : NodeRt → NodeRt) (h : i ≠ j) : (c.setNode j f).node i = c.node i := Tab.get_put_ne _ _ _ h

theorem Core.node_of_rt {c d : Core} (h : d.chn.rt = c.chn.rt) (i : Nat) : d.node i = c.node i := by unfold Core.node; rw [h]

@[simp] theorem Core.setNode_csr (c : Core) (j : Nat) (f : NodeRt → NodeRt) : (c.setNode j f).csr = c.csr := rfl
@[simp] theorem Core.setNode_imp (c : Core) (j : Nat) (f : NodeRt → NodeRt) : (c.setNode j f).imp = c.imp := rfl
@[simp] theorem Core.rd_setNode (c : Core) (j : Nat) (f : NodeRt → NodeRt) (g : Fld) : (c.setNode j f).rd g = c.rd g := rfl

/-! ### Answers (R103) -/

/-- R103: the fields that an answer of an UNREACHABLE node `j` writes. -/
def backFlds (j : Nat) : List Fld :=
  [F.CHN_NSER_LO.SER j, F.CHN_NSER_HI.SER j, F.CHN_NINFO.SWAP j, F.CHN_STAT.SWAPSEEN, F.CHN_NINFO.REACH j]

/-- R103, R157: from `c` to `d` the nodes of a list have answered: they may have a serial, a duty state and an answer of their own, and
none of them has become UNREACHABLE. -/
structure Core.Answered (js : List Nat) (c d : Core) : Prop where
  imp : d.imp = c.imp
  chn : d.chn = { c.chn with rt := d.chn.rt, duty := d.chn.duty }
  node : ∀ i, d.node i = { c.node i with response := (d.node i).response, duty := (d.node i).duty }
  other : ∀ i, i ∉ js → d.node i = c.node i
  regs : fieldsOnly (js.flatMap backFlds) c d
  response : ∀ i, (c.node i).response = true → (d.node i).response = true
  reach : ∀ i, c.on (F.CHN_NINFO.REACH i) = true → d.on (F.CHN_NINFO.REACH i) = true

theorem Core.Answered.refl (js : List Nat) (c : Core) : c.Answered js c := ⟨rfl, rfl, fun _ => rfl, fun _ _ => rfl, fieldsOnly_refl _ c, fun _ h => h, fun _ h => h⟩

theorem Core.Answered.trans {js : List Nat} {c d e : Core} (h : c.Answered js d) (g : d.Answered js e) : c.Answered js e where
  imp := g.imp.trans h.imp
  chn := g.chn.trans (by rw [h.chn])
  node i := (g.node i).trans (by rw [h.node i])
  other i hi := (g.other i hi).trans (h.other i hi)
  regs := fieldsOnly_trans h.regs g.regs
  response i hi := g.response i (h.response i hi)
  reach i hi := g.reach i (h.reach i hi)

theorem Core.Answered.mono {js ks : List Nat} {c d : Core} (h : c.Answered js d) (hs : ∀ j ∈ js, j ∈ ks) : c.Answered ks d where
  imp := h.imp
  chn := h.chn
  node := h.node
  other i hi := h.other i fun hj => hi (hs i hj)
  regs := fieldsOnly_mono h.regs fun f hf => by
    obtain ⟨j, hj, hfj⟩ := List.mem_flatMap.mp hf
    exact List.mem_flatMap.mpr ⟨j, hs j hj, hfj⟩
  response := h.response
  reach := h.reach

theorem Core.Answered.total {js : List Nat} {c d : Core} (h : c.Answered js d) : d.chn.total = c.chn.total := by rw [h.chn]

theorem nodeBack_reached {j : Nat} {c : Core} (serial : Nat) (h : c.on (F.CHN_NINFO.REACH j) = true) : nodeBack j serial c = c := if_pos h

theorem nodeBack_unreached {j : Nat} {c : Core} (serial : Nat) (h : c.on (F.CHN_NINFO.REACH j) = false) :
    nodeBack j serial c = ((c.takeSerial j serial).serialCheck j).wr (F.CHN_NINFO.REACH j) 1 := if_neg (by simp [h])

theorem on_wr_one (c : Core) {f : Fld} (h : f.width = 1) : (c.wr f 1).on f = true := by simp [Core.on_eq, h]

/-- R103: a node that has answered is reached. -/
theorem nodeBack_on (j serial : Nat) (c : Core) : (nodeBack j serial c).on (F.CHN_NINFO.REACH j) = true := by
  cases h : c.on (F.CHN_NINFO.REACH j)
  · rw [nodeBack_unreached serial h]
    exact on_wr_one _ rfl
  · rwa [nodeBack_reached serial h]

theorem serialCheck_chn (c : Core) (j : Nat) : (c.serialCheck j).chn = c.chn := by
  unfold Core.serialCheck
  split <;> rfl

theorem serialCheck_imp (c : Core) (j : Nat) : (c.serialCheck j).imp = c.imp := by
  unfold Core.serialCheck
  split <;> rfl

theorem fieldsOnly_serialCheck {fs : List Fld} {c d : Core} {j : Nat} (h : fieldsOnly fs c d) (hswap : F.CHN_NINFO.SWAP j ∈ fs)
    (hseen : F.CHN_STAT.SWAPSEEN ∈ fs) : fieldsOnly fs c (d.serialCheck j) := by
  unfold Core.serialCheck
  split
  · exact fieldsOnly_wr h hswap
  · exact fieldsOnly_raise (fieldsOnly_wr (fieldsOnly_wr h hswap) hseen)

theorem fieldsOnly_nodeBack (j serial : Nat) (c : Core) : fieldsOnly (backFlds j) c (nodeBack j serial c) := by
  cases h : c.on (F.CHN_NINFO.REACH j)
  · rw [nodeBack_unreached serial h]
    refine fieldsOnly_wr (fieldsOnly_serialCheck ?_ (by simp [backFlds]) (by simp [backFlds])) (by simp [backFlds])
    exact fieldsOnly_wr (fieldsOnly_wr (fieldsOnly_csr rfl) (by simp [backFlds])) (by simp [backFlds])
  · rw [nodeBack_reached serial h]
    exact fieldsOnly_refl _ c

theorem reach_key_notin_backFlds {i j : Nat} (h : i ≠ j) : ∀ g ∈ backFlds j, (F.CHN_NINFO.REACH i).key ≠ g.key := by
  simp only [backFlds, List.forall_mem_cons, List.not_mem_nil, false_implies, implies_true, and_true, Fld.key, F.CHN_NSER_LO.SER, F.CHN_NSER_HI.SER,
    F.CHN_NINFO.SWAP, F.CHN_STAT.SWAPSEEN, F.CHN_NINFO.REACH]
  omega

/-- R103, R157: the serial of a node that was UNREACHABLE is taken, and with it its duty state. -/
theorem answered_nodeBack (j serial : Nat) (c : Core) : c.Answered [j] (nodeBack j serial c) := by
  cases h : c.on (F.CHN_NINFO.REACH j)
  · have hchn : (nodeBack j serial c).chn = (c.takeSerial j serial).chn := by
      rw [nodeBack_unreached serial h, Core.wr_chn, serialCheck_chn]
    have hnode : ∀ i, (nodeBack j serial c).node i = (c.takeSerial j serial).node i := Core.node_of_rt (congrArg ChnSt.rt hchn)
    have htake : ∀ i, (c.takeSerial j serial).node i =
        if i = j then { c.node j with duty := Tab.get 0 (c.keepDuty j).chn.duty serial } else c.node i :=
      fun i => Core.node_setNode (c.keepDuty j) j i fun n => { n with duty := Tab.get 0 (c.keepDuty j).chn.duty serial }
    refine ⟨?_, ?_, fun i => ?_, fun i hi => ?_, ?_, fun i hi => ?_, fun i hi => ?_⟩
    · rw [nodeBack_unreached serial h, Core.wr_imp, serialCheck_imp]
      rfl
    · rw [hchn]
      rfl
    · rw [hnode, htake]
      split
      · next e => rw [e]
      · rfl
    · rw [hnode, htake, if_neg (by simpa using hi)]
    · simpa using fieldsOnly_nodeBack j serial c
    · rw [hnode, htake]
      split
      · next e => exact e ▸ hi
      · exact hi
    · by_cases e : i = j
      · rw [e]
        exact nodeBack_on j serial c
      · rw [Core.on_eq, fieldsOnly_nodeBack j serial c _ (reach_key_notin_backFlds e)]
        exact hi
  · rw [nodeBack_reached serial h]
    exact .refl _ c

theorem answered_setResponse (j : Nat) (c : Core) : c.Answered [j] (c.setNode j fun n => { n with response := true }) := by
  refine ⟨rfl, rfl, fun i => ?_, fun i hi => ?_, fieldsOnly_csr rfl, fun i hi => ?_, fun i hi => hi⟩ <;> rw [Core.node_setNode]
  · split
    · next e => rw [e]
    · rfl
  · rw [if_neg (by simpa using hi)]
  · split
    · rfl
    · exact hi

theorem answered_nodeAnswers (j serial : Nat) (c : Core) : c.Answered [j] (nodeAnswers j serial c) :=
  (answered_nodeBack j serial c).trans (answered_setResponse j _)

/-- R103: the node that answers has answered, and is reached. -/
theorem nodeAnswers_shows (j serial : Nat) (c : Core) :
    ((nodeAnswers j serial c).node j).response = true ∧ (nodeAnswers j serial c).on (F.CHN_NINFO.REACH j) = true :=
  ⟨by rw [nodeAnswers, Core.node_setNode_same], nodeBack_on j serial c⟩

theorem nodeAnswers_csr {j : Nat} {c : Core} (serial : Nat) (h : c.on (F.CHN_NINFO.REACH j) = true) : (nodeAnswers j serial c).csr = c.csr := by
  rw [nodeAnswers, nodeBack_reached serial h, Core.setNode_csr]

/-- One answer, of a node of the table. -/
theorem answered_nodesAnswer_step (x : Nat × Nat) (c : Core) :
    c.Answered [x.1] (if x.1 < c.chn.total then nodeAnswers x.1 x.2 c else c) := by
  split
  · exact answered_nodeAnswers x.1 x.2 c
  · exact .refl _ c

theorem answered_nodesAnswer (js : List (Nat × Nat)) (c : Core) : c.Answered (js.map Prod.fst) (nodesAnswer js c) := by
  unfold nodesAnswer
  induction js generalizing c with
  | nil => exact .refl _ c
  | cons x js ih => exact ((answered_nodesAnswer_step x c).mono (by simp)).trans ((ih _).mono (by simp +contextual))

/-- R103: every node of the table that is named has answered, and is reached. -/
theorem nodesAnswer_shows {js : List (Nat × Nat)} {c : Core} {i : Nat} (hi : i ∈ js.map Prod.fst) (ht : i < c.chn.total) :
    ((nodesAnswer js c).node i).response = true ∧ (nodesAnswer js c).on (F.CHN_NINFO.REACH i) = true := by
  induction js generalizing c with
  | nil => simp at hi
  | cons x js ih =>
    have hstep := answered_nodesAnswer_step x c
    have hrest : nodesAnswer (x :: js) c = nodesAnswer js (if x.1 < c.chn.total then nodeAnswers x.1 x.2 c else c) := rfl
    rw [hrest]
    rcases List.mem_cons.mp hi with rfl | hi
    · have hlast := answered_nodesAnswer js (nodeAnswers x.1 x.2 c)
      obtain ⟨hresp, hon⟩ := nodeAnswers_shows x.1 x.2 c
      simp only [ht, if_true]
      exact ⟨hlast.response _ hresp, hlast.reach _ hon⟩
    · exact ih hi (Nat.lt_of_lt_of_eq ht hstep.total.symm)

/-- R103: nodes that are reached bring no register. -/
theorem nodesAnswer_csr {js : List (Nat × Nat)} {c : Core} (h : ∀ i ∈ js.map Prod.fst, i < c.chn.total → c.on (F.CHN_NINFO.REACH i) = true) :
    (nodesAnswer js c).csr = c.csr := by
  induction js generalizing c with
  | nil => rfl
  | cons x js ih =>
    have hstep := answered_nodesAnswer_step x c
    have hcsr : (if x.1 < c.chn.total then nodeAnswers x.1 x.2 c else c).csr = c.csr := by
      split
      · next ht => exact nodeAnswers_csr x.2 (h x.1 (by simp) ht)
      · rfl
    exact (ih fun i hi ht => hstep.reach i (h i (by simp [hi]) (hstep.total ▸ ht))).trans hcsr

/-! ### What EST does with the serial of a node that has come back (R197, R217, R221) -/

/-- From `c` to `d` EST has looked at serials or ended a gleaning cycle: of CHN nothing differs, of IMP only what is kept of positions, and of the
registers only those of EST and SHF. -/
structure Core.EstOnly (c d : Core) : Prop where
  chn : d.chn = c.chn
  imp : d.imp = { c.imp with refs := d.imp.refs, res := d.imp.res }
  regs : blocksOnly slotBlks c d

theorem Core.EstOnly.refl (c : Core) : c.EstOnly c := ⟨rfl, rfl, blocksOnly_refl _ c⟩

theorem Core.EstOnly.trans {c d e : Core} (h : c.EstOnly d) (g : d.EstOnly e) : c.EstOnly e :=
  ⟨g.chn.trans h.chn, g.imp.trans (by rw [h.imp]), blocksOnly_trans h.regs g.regs⟩

/-- A change of EST beside its registers. -/
theorem estOnly_est (c : Core) (e : EstSt) : c.EstOnly { c with est := e } := ⟨rfl, rfl, blocksOnly_csr rfl⟩

theorem estOnly_keep (c : Core) (q : Kept) : c.EstOnly (c.keep q) := ⟨rfl, rfl, blocksOnly_csr rfl⟩

theorem estOnly_wr (c : Core) (v : Nat) {f : Fld} (hf : f.block ∈ slotBlks) : c.EstOnly (c.wr f v) := ⟨rfl, rfl, blocksOnly_wr (blocksOnly_refl _ c) hf⟩

theorem estOnly_raise (c : Core) (n src prim : Nat) : c.EstOnly (c.raise n src prim) := ⟨rfl, rfl, blocksOnly_csr rfl⟩

theorem estOnly_slotAsk (kind : Nat) (c : Core) : c.EstOnly (slotAsk kind c) where
  chn := by unfold slotAsk; split <;> rfl
  imp := by unfold slotAsk; split <;> rfl
  regs := blocksOnly_mono (blocksOnly_slotAsk kind c) (by decide)

theorem estOnly_slotRelease (c : Core) : c.EstOnly (slotRelease c) where
  chn := by unfold slotRelease; split <;> [rfl; split <;> rfl]
  imp := by unfold slotRelease; split <;> [rfl; split <;> rfl]
  regs := blocksOnly_mono (blocksOnly_slotRelease c) (by decide)

theorem estOnly_passOn (c : Core) : c.EstOnly (passOn c) := by
  unfold passOn
  split
  · exact ((estOnly_wr _ _ (by decide)).trans (estOnly_wr _ _ (by decide))).trans (estOnly_slotAsk _ _)
  · split
    · split
      · exact (estOnly_wr _ _ (by decide)).trans (estOnly_wr _ _ (by decide))
      · exact ((estOnly_wr _ _ (by decide)).trans (estOnly_wr _ _ (by decide))).trans (estOnly_slotAsk _ _)
    · exact .refl c

theorem estOnly_gleanReleased (cause : Nat) (c : Core) : c.EstOnly (gleanReleased cause c) :=
  ((((estOnly_est c _).trans (estOnly_slotRelease _)).trans (estOnly_wr _ _ (by decide))).trans (estOnly_wr _ _ (by decide))).trans (estOnly_raise _ _ _ _)

theorem estOnly_gleanFail (cause : Nat) (c : Core) : c.EstOnly (gleanFail cause c) := by
  unfold gleanFail
  split
  · exact (estOnly_gleanReleased cause c).trans (estOnly_passOn _)
  · exact .refl c

theorem estOnly_when {c : Core} (b : Bool) {f : Core → Core} (hf : c.EstOnly (f c)) : c.EstOnly (c.when b f) := by
  cases b
  · exact .refl c
  · exact hf

theorem estOnly_estSwapped (j : Nat) (c : Core) : c.EstOnly (estSwapped j c) :=
  ((estOnly_est c _).trans (estOnly_wr _ 1 (by decide))).trans (estOnly_raise _ _ _ _)

theorem estOnly_estNode (ser : Tab Nat) (old : Kept) (j : Nat) (c : Core) : c.EstOnly (estNode ser old j c) := by
  unfold estNode
  split
  · exact estOnly_keep c _
  · exact estOnly_keep c _
  · dsimp only
    split
    · exact (estOnly_keep c _).trans (estOnly_estSwapped j _)
    · exact estOnly_keep c _

theorem estOnly_estAside (j : Nat) (c : Core) : c.EstOnly (estAside j c) := by
  unfold estAside
  dsimp only
  split
  · exact .refl c
  · exact estOnly_est c _

theorem estOnly_estReaddress (j : Nat) (c : Core) : c.EstOnly (estReaddress j c) :=
  ((estOnly_estAside j c).trans (estOnly_estNode _ _ j _)).trans (estOnly_est _ _)

theorem estOnly_estLate (c : Core) : c.EstOnly (estLate c) := by
  unfold estLate
  generalize c.est.unchk = l
  induction l generalizing c with
  | nil => exact .refl c
  | cons j l ih =>
    refine Core.EstOnly.trans (d := if c.on (F.CHN_NINFO.REACH j) = true then estReaddress j c else c) ?_ (ih _)
    split
    · exact estOnly_estReaddress j c
    · exact .refl c

theorem estOnly_heard (j : Nat) (f : Core → Core) (c : Core) : (f c).EstOnly (heard j f c) := by
  unfold heard
  dsimp only
  split
  · exact (estOnly_when _ (estOnly_gleanFail 7 _)).trans (estOnly_estLate _)
  · exact .refl _

theorem estOnly_heardAll (js : List Nat) (f : Core → Core) (c : Core) : (f c).EstOnly (heardAll js f c) := by
  unfold heardAll
  dsimp only
  split
  · exact .refl _
  · exact (estOnly_when _ (estOnly_gleanFail 7 _)).trans (estOnly_estLate _)

/-- A command that makes no UNREACHABLE node of `j` brings nothing more. -/
theorem heard_of_reached {j : Nat} {f : Core → Core} {c : Core} (h : (f c).on (F.CHN_NINFO.REACH j) = true → c.on (F.CHN_NINFO.REACH j) = true) :
    heard j f c = f c := by
  refine if_neg fun hb => ?_
  rw [Bool.and_eq_true, Bool.not_eq_true'] at hb
  exact absurd (h hb.1) (by simp [hb.2])

theorem heardAll_of_reached {js : List Nat} {f : Core → Core} {c : Core}
    (h : ∀ j ∈ js, (f c).on (F.CHN_NINFO.REACH j) = true → c.on (F.CHN_NINFO.REACH j) = true) : heardAll js f c = f c := by
  refine if_pos (List.filter_eq_nil_iff.mpr fun j hj hb => ?_)
  rw [Bool.and_eq_true, Bool.not_eq_true'] at hb
  exact absurd (h j hj hb.1) (by simp [hb.2])

theorem heard_of_csr {j : Nat} {f : Core → Core} {c : Core} (h : (f c).csr = c.csr) : heard j f c = f c :=
  heard_of_reached fun hon => by rwa [Core.on_eq, noRegister_of_csr h] at hon

/-- A register beside EST and SHF is as the command has left it. -/
theorem Core.EstOnly.rd {c d : Core} (h : c.EstOnly d) {f : Fld} (hf : f.block ∉ slotBlks) : d.rd f = c.rd f := h.regs f hf

theorem Core.EstOnly.node {c d : Core} (h : c.EstOnly d) (i : Nat) : d.node i = c.node i := Core.node_of_rt (congrArg ChnSt.rt h.chn) i

end Sys2Proof.Machine
end

section
/-! PROOF. O19: unreachable nodes, faults, breaks and closure (R99, R102, R103), and the tone of the two ports (R100, R316). -/

namespace Sys2Proof.Machine

/-! ### Nodes and breaks -/

/-- R181: a burst that is abandoned shows in IMP alone. -/
theorem blocksOnly_burstAbandon (cause : Nat) (c : Core) : blocksOnly [F.IMP_STAT.STATE.block] c (burstAbandon cause c) := by
  unfold burstAbandon
  split
  · exact blocksOnly_raise (blocksOnly_cntSat (blocksOnly_wr (blocksOnly_wrB (blocksOnly_csr rfl) (by decide)) (by decide)) (by decide))
  · exact blocksOnly_refl _ c

theorem burstAbandon_chn (cause : Nat) (c : Core) : (burstAbandon cause c).chn = c.chn := by
  unfold burstAbandon
  split <;> rfl

theorem blocksOnly_burstNodeLost (j : Nat) (c : Core) : blocksOnly [F.IMP_STAT.STATE.block] c (burstNodeLost j c) :=
  blocksOnly_ite (blocksOnly_burstAbandon 2 c) (blocksOnly_refl _ c)

theorem burstNodeLost_chn (j : Nat) (c : Core) : (burstNodeLost j c).chn = c.chn := by
  unfold burstNodeLost
  split
  · exact burstAbandon_chn 2 c
  · rfl

theorem reach_block {j : Nat} (hj : j < 40) : (F.CHN_NINFO.REACH j).block = F.CHN_CTRL.ENUM.block := by
  simp only [Fld.block, Fld.key, F.CHN_NINFO.REACH, F.CHN_CTRL.ENUM]
  omega

/-- R103: after three frames without an answer the node is UNREACHABLE. -/
theorem nodeLost_quiet {j : Nat} {c : Core} (hj : j < 40) (hreach : c.rd (F.CHN_NINFO.REACH j) ≠ 0) (hquiet : 3 ≤ (c.node j).quiet) :
    (nodeLost j c).rd (F.CHN_NINFO.REACH j) = 0 ∧ (nodeLost j c).chn = c.chn := by
  have hlost : nodeLost j c = burstNodeLost j (c.wr (F.CHN_NINFO.REACH j) 0) := if_pos (by simp [Core.on_eq, hreach, hquiet])
  rw [hlost]
  refine ⟨?_, burstNodeLost_chn _ _⟩
  rw [blocksOnly_burstNodeLost j _ _ (by rw [reach_block hj]; decide), Core.rd_wr_same, Nat.zero_mod]

theorem nodeLost_none {j : Nat} {c : Core} (h : c.rd (F.CHN_NINFO.REACH j) = 0 ∨ (c.node j).quiet < 3) : nodeLost j c = c := by
  refine if_neg fun hb => ?_
  simp only [Bool.and_eq_true, Core.on_eq, bne_iff_ne, decide_eq_true_eq] at hb
  omega

/-- R102, R108: a break that is located shows in CHN_BRK. -/
theorem breakLocated_shows (a b : Nat) (c : Core) :
    fieldsOnly [F.CHN_BRK.LASTA, F.CHN_BRK.FIRSTB, F.CHN_BRK.BROKEN] c (breakLocated a b c) ∧ (breakLocated a b c).rd F.CHN_BRK.LASTA = a % 64 ∧
      (breakLocated a b c).rd F.CHN_BRK.FIRSTB = b % 64 ∧ (breakLocated a b c).rd F.CHN_BRK.BROKEN = 1 := by
  refine ⟨fieldsOnly_raise (fieldsOnly_wr (fieldsOnly_wr (fieldsOnly_wr (fieldsOnly_csr rfl) ?_) ?_) ?_), ?_, ?_, ?_⟩
  case refine_4 => rw [breakLocated, Core.rd_raise, Core.rd_wr_ne _ _ (by decide), Core.rd_wr_ne _ _ (by decide), Core.rd_wr_same]; rfl
  case refine_5 => rw [breakLocated, Core.rd_raise, Core.rd_wr_ne _ _ (by decide), Core.rd_wr_same]; rfl
  case refine_6 => rw [breakLocated, Core.rd_raise, Core.rd_wr_same]; rfl
  all_goals simp

/-! ### The tone of the ports -/

/-- R316: one of the two tones is lost, after both were present together. -/
def LineSt.single (l : LineSt) : Bool := l.seen && l.toneA != l.toneB

theorem LineSt.tone_setTone (l : LineSt) (p : Nat) (b : Bool) : (l.setTone p b).tone p = b := by
  by_cases hp : p = 0 <;> simp [LineSt.setTone, LineSt.tone, hp]

theorem LineSt.tone_setTone_other (l : LineSt) {p : Nat} (b : Bool) (hp : p < 2) : (l.setTone p b).tone (1 - p) = l.tone (1 - p) := by
  obtain rfl | rfl : p = 0 ∨ p = 1 := by omega
  all_goals rfl

/-- R316: whether a single-port loss stands, from the side of port `p`. -/
theorem LineSt.single_eq (l : LineSt) {p : Nat} (hp : p < 2) : l.single = (l.seen && l.tone p != l.tone (1 - p)) := by
  obtain rfl | rfl : p = 0 ∨ p = 1 := by omega
  · rfl
  · simp [LineSt.single, LineSt.tone, bne_comm]

theorem LineSt.single_setTone (l : LineSt) {p : Nat} (b : Bool) (hp : p < 2) : (l.setTone p b).single = (l.seen && b != l.tone (1 - p)) := by
  have hseen : (l.setTone p b).seen = (l.seen || b && l.tone (1 - p)) := by
    obtain rfl | rfl : p = 0 ∨ p = 1 := by omega
    · rfl
    · simp [LineSt.setTone, LineSt.tone, Bool.and_comm]
  rw [LineSt.single_eq _ hp, hseen, LineSt.tone_setTone, LineSt.tone_setTone_other l b hp]
  cases b <;> cases l.tone (1 - p) <;> simp

/-- R316: from `t` to `u` the channels have been told of the line, which was `was` before: a single-port loss that begins sets TONE1. -/
structure TonesTold (was : LineSt) (t u : State) : Prop where
  frame : u = { t with saf := u.saf, core := u.core }
  saf : u.saf = { t.saf with tone1 := u.saf.tone1 }
  regs : fieldsOnly [F.SAFM_STAT.TONE1] t.core u.core
  tone1 : t.pwr.vin ≠ .off → u.saf.tone1 = (t.saf.tone1 || t.line.single && !was.single)
  shown : t.pwr.vin ≠ .off → (t.line.single && !was.single) = true → u.core.rd F.SAFM_STAT.TONE1 = 1

theorem tonesTold_toneLines {s t : State} (hs : t.pwr.held = false) : TonesTold s.line t (toneLines s t) := by
  by_cases hv : t.pwr.vin = .off
  · have hsame : toneLines s t = t := if_pos hv
    rw [hsame]
    exact ⟨rfl, rfl, fieldsOnly_refl _ _, fun h => absurd hv h, fun h => absurd hv h⟩
  · have hrun : toneLines s t = { t with saf := (singleLoss s.line t.line (t.saf, t.core)).1, core := (singleLoss s.line t.line (t.saf, t.core)).2 } :=
      onSaf_run _ hv hs
    rw [hrun]
    cases hb : t.line.single && !s.line.single
    · have hno : singleLoss s.line t.line (t.saf, t.core) = (t.saf, t.core) := if_neg (by simpa [LineSt.single] using hb)
      rw [hno]
      exact ⟨rfl, rfl, fieldsOnly_refl _ _, fun _ => by simp [hb], fun _ h => by simp [hb] at h⟩
    · have hyes : singleLoss s.line t.line (t.saf, t.core) =
          ({ t.saf with tone1 := true }, (t.core.wr F.SAFM_STAT.TONE1 1).raise 79 (b2n t.line.toneA) (b2n t.line.toneA)) := if_pos hb
      rw [hyes]
      refine ⟨rfl, rfl, ?_, fun _ => by simp [hb], fun _ _ => ?_⟩
      · exact fieldsOnly_raise (fieldsOnly_wr (fieldsOnly_refl _ _) (by simp))
      · exact (Core.rd_raise _ _ _ _ _).trans (Core.rd_wr_same _ _ _)

/-- R316: a line that stays tells the channels nothing. -/
theorem toneLines_same {s : State} (hs : s.pwr.held = false) : toneLines s s = s := by
  have hno : singleLoss s.line s.line (s.saf, s.core) = (s.saf, s.core) := if_neg (by simp)
  by_cases hv : s.pwr.vin = .off
  · exact if_pos hv
  · exact (onSaf_run _ hv hs).trans (by rw [hno])

/-- R100: what the loss of a present tone shows in CHN. -/
theorem toneLoss_shows {p : Nat} {l : LineSt} (c : Core) (h : l.tone p = true) :
    (toneLoss p l c).1 = l.setTone p false ∧ fieldsOnly [toneFld p, lossFld p, F.CHN_TONE.LOSSCNT] c (toneLoss p l c).2 ∧
      (toneLoss p l c).2.rd (toneFld p) = 0 ∧ (toneLoss p l c).2.rd (lossFld p) = 1 ∧
      (toneLoss p l c).2.rd F.CHN_TONE.LOSSCNT = min 65535 (c.rd F.CHN_TONE.LOSSCNT + 1) := by
  have hloss : toneLoss p l c = (l.setTone p false, (((c.wr (toneFld p) 0).wr (lossFld p) 1).cntSat F.CHN_TONE.LOSSCNT).raise 25 p p) := if_pos h
  have htone : (toneFld p).key ≠ (lossFld p).key ∧ (toneFld p).key ≠ F.CHN_TONE.LOSSCNT.key ∧ (lossFld p).key ≠ F.CHN_TONE.LOSSCNT.key ∧
      (lossFld p).width = 1 := by
    unfold toneFld lossFld
    split <;> decide
  obtain ⟨htl, htc, hlc, hw⟩ := htone
  rw [hloss]
  refine ⟨rfl, fieldsOnly_raise (fieldsOnly_cntSat (fieldsOnly_wr (fieldsOnly_wr (fieldsOnly_refl _ c) ?_) ?_) ?_), ?_, ?_, ?_⟩
  case refine_4 => rw [Core.rd_raise, Core.cntSat_eq, Core.rd_wr_ne _ _ htc, Core.rd_wr_ne _ _ htl, Core.rd_wr_same, Nat.zero_mod]
  case refine_5 => rw [Core.rd_raise, Core.cntSat_eq, Core.rd_wr_ne _ _ hlc, Core.rd_wr_same, hw]; rfl
  case refine_6 => rw [Core.rd_raise, rd_cntSat_same, Core.rd_wr_ne _ _ hlc.symm, Core.rd_wr_ne _ _ htc.symm]; rfl
  all_goals simp

/-- A command of the tone of a port, and the lines to the channels behind it. -/
theorem ends_tone {i : Instr} {s : State} {P : State → Prop} (f : LineSt → Core → LineSt × Core) (hs : s.pwr.held = false)
    (he : exec i s = .next (toneLines s (onLine f s)))
    (h : ∀ u, TonesTold s.line { s with line := (f s.line s.core).1, core := (f s.line s.core).2 } u → P u) : Ends i s P := by
  rw [onLine_run f hs] at he
  exact ⟨_, he, h _ (tonesTold_toneLines hs)⟩

theorem toneLoss_ends {s : State} {p : Nat} (hs : s.pwr.held = false) (hp : p < 2) (h : s.line.tone p = true) :
    Ends (.toneLoss p) s fun t => t = { s with line := s.line.setTone p false, saf := t.saf, core := t.core } ∧
      t.saf = { s.saf with tone1 := t.saf.tone1 } ∧ t.line.tone (1 - p) = s.line.tone (1 - p) ∧
      fieldsOnly [toneFld p, lossFld p, F.CHN_TONE.LOSSCNT, F.SAFM_STAT.TONE1] s.core t.core ∧ t.core.rd (toneFld p) = 0 ∧ t.core.rd (lossFld p) = 1 ∧
      t.core.rd F.CHN_TONE.LOSSCNT = min 65535 (s.core.rd F.CHN_TONE.LOSSCNT + 1) ∧
      (s.pwr.vin ≠ .off → t.saf.tone1 = (s.saf.tone1 || s.line.seen && s.line.tone (1 - p)) ∧
        (s.line.seen = true → s.line.tone (1 - p) = true → t.core.rd F.SAFM_STAT.TONE1 = 1)) := by
  obtain ⟨hline, hregs, htone, hloss, hcnt⟩ := toneLoss_shows s.core h
  have hbegins : ((s.line.setTone p false).single && !s.line.single) = (s.line.seen && s.line.tone (1 - p)) := by
    rw [LineSt.single_setTone _ _ hp, LineSt.single_eq _ hp, h]
    cases s.line.seen <;> cases s.line.tone (1 - p) <;> rfl
  have hfar : ∀ f : Fld, f ∈ [toneFld p, lossFld p, F.CHN_TONE.LOSSCNT] → ∀ g ∈ [F.SAFM_STAT.TONE1], f.key ≠ g.key := by
    unfold toneFld lossFld
    split <;> decide
  refine ends_tone (toneLoss p) hs rfl fun u hu => ?_
  rw [hline] at hu
  refine ⟨hu.frame, hu.saf, ?_, ?_, ?_, ?_, ?_, fun hv => ⟨?_, fun hseen hother => ?_⟩⟩
  · rw [hu.frame]
    exact LineSt.tone_setTone_other s.line false hp
  · exact fieldsOnly_trans (fieldsOnly_mono hregs (by simp +contextual)) (fieldsOnly_mono hu.regs (by simp))
  · rw [hu.regs _ (hfar _ (by simp))]
    exact htone
  · rw [hu.regs _ (hfar _ (by simp))]
    exact hloss
  · rw [hu.regs _ (hfar _ (by simp))]
    exact hcnt
  · rw [hu.tone1 hv, hbegins]
  · exact hu.shown hv (hbegins.trans (by simp [hseen, hother]))

theorem toneRestore_ends {s : State} {p : Nat} (hs : s.pwr.held = false) (hp : p < 2) :
    Ends (.toneRestore p) s fun t => t = { s with line := t.line, saf := t.saf, core := t.core } ∧ t.saf = { s.saf with tone1 := t.saf.tone1 } ∧
      t.line.tone p = true ∧ t.line.tone (1 - p) = s.line.tone (1 - p) ∧ fieldsOnly [toneFld p, F.SAFM_STAT.TONE1] s.core t.core ∧
      t.core.rd (toneFld p) = 1 ∧ (s.pwr.vin ≠ .off → t.saf.tone1 = (s.saf.tone1 || s.line.seen && !s.line.tone p && !s.line.tone (1 - p))) := by
  have hbegins : ((s.line.setTone p true).single && !s.line.single) = (s.line.seen && !s.line.tone p && !s.line.tone (1 - p)) := by
    rw [LineSt.single_setTone _ _ hp, LineSt.single_eq _ hp]
    cases s.line.seen <;> cases s.line.tone p <;> cases s.line.tone (1 - p) <;> rfl
  have hfld : (∀ g ∈ [F.SAFM_STAT.TONE1], (toneFld p).key ≠ g.key) ∧ (toneFld p).width = 1 := by
    unfold toneFld
    split <;> decide
  obtain ⟨hfar, hwidth⟩ := hfld
  refine ends_tone (toneRestore p) hs rfl fun u hu => ?_
  have hline : u.line = s.line.setTone p true := by rw [hu.frame]; rfl
  refine ⟨?_, hu.saf, ?_, ?_, ?_, ?_, fun hv => (hu.tone1 hv).trans (congrArg (s.saf.tone1 || ·) hbegins)⟩
  · rw [hline]
    exact hu.frame
  · rw [hline, LineSt.tone_setTone]
  · rw [hline, LineSt.tone_setTone_other _ _ hp]
  · have hwr : fieldsOnly [toneFld p, F.SAFM_STAT.TONE1] s.core (toneRestore p s.line s.core).2 := fieldsOnly_wr (fieldsOnly_refl _ _) (by simp)
    exact fieldsOnly_trans hwr (fieldsOnly_mono hu.regs (by simp))
  · rw [hu.regs _ hfar]
    exact (Core.rd_wr_same s.core (toneFld p) 1).trans (by rw [hwidth]; rfl)

/-- Settles O19: nodes and breaks by what their commands write, the tones by the line and by what the channels are told of it. -/
theorem chainFaults : Obligations.ChainFaults := by
  unfold Obligations.ChainFaults
  intro s j cause a b p hs hj hp
  refine ⟨?quiet, ?reached, ?fault, ?cut, ?located, ?closure, toneLoss_ends hs hp, ?absent, toneRestore_ends hs hp⟩
  case quiet => exact fun hreach hquiet => ends_onCore (nodeLost j) hs rfl ⟨rfl, nodeLost_quiet hj hreach hquiet⟩
  case reached => exact fun h => ends_unchanged (nodeLost j) hs rfl (nodeLost_none h)
  case fault =>
    exact ends_onCore (nodeFault j cause) hs rfl
      ⟨rfl, fun _ => rfl, Core.node_setNode_same _ _ _, fun i hi => Core.node_setNode_ne _ _ hi⟩
  case cut =>
    exact ends_onCore (linkBreak j) hs rfl ⟨rfl, fieldsOnly_wr (fieldsOnly_csr rfl) (by simp), Core.rd_wr_same _ _ _, rfl⟩
  case located =>
    obtain ⟨hregs, hlast, hfirst, hbroken⟩ := breakLocated_shows a b s.core
    exact ends_onCore (breakLocated a b) hs rfl ⟨rfl, hregs, hlast, hfirst, hbroken, rfl⟩
  case closure =>
    refine ends_onCore ringClosure hs rfl ⟨rfl, ?_, ?_, Core.rd_wr_same _ _ _, rfl⟩
    · exact fieldsOnly_wr (fieldsOnly_wr (fieldsOnly_csr rfl) (by simp)) (by simp)
    · exact (Core.rd_wr_ne _ _ (by decide)).trans (Core.rd_wr_same _ _ _)
  case absent =>
    intro h
    have hnone : toneLoss p s.line s.core = (s.line, s.core) := if_neg (by simp [h])
    have hsame : onLine (toneLoss p) s = s := by rw [onLine_run _ hs, hnone]
    exact ⟨toneLines s (onLine (toneLoss p) s), rfl, by rw [hsame, toneLines_same hs]⟩

end Sys2Proof.Machine
end

section
/-! PROOF. O18: delay measurement (R88), samples (R90, R115), results and their retries (R94, R97), and the end of a readout (R23, R96). -/

namespace Sys2Proof.Machine

/-! ### The delay measurement -/

/-- R88, R103: the nodes whose ECHO packets came back, each with its serial. -/
def echoed (back : List EchoBack) : List (Nat × Nat) := (back.zipIdx.filter (fun x => x.1.ra != 0 || x.1.rb != 0)).map (fun x => (x.2, x.1.serial))

theorem mem_echoed {back : List EchoBack} {i : Nat} :
    i ∈ (echoed back).map Prod.fst ↔ i < back.length ∧ ((back.getD i {}).ra ≠ 0 ∨ (back.getD i {}).rb ≠ 0) := by
  simp only [echoed, List.map_map, List.mem_map, List.mem_filter, Function.comp, Prod.exists, List.mem_zipIdx_iff_getElem?, Bool.or_eq_true, bne_iff_ne,
    List.getD_eq_getElem?_getD]
  constructor
  · rintro ⟨e, k, ⟨hk, hne⟩, rfl⟩
    have hlen := (List.getElem?_eq_some_iff.mp hk).1
    exact ⟨hlen, by rw [hk]; exact hne⟩
  · rintro ⟨hlen, hne⟩
    exact ⟨back[i], i, ⟨List.getElem?_eq_getElem hlen, by simpa [List.getElem?_eq_getElem hlen] using hne⟩, rfl⟩

/-- R88: the delays that the sums of round trips give. -/
def Core.echoDelays (c : Core) (back : List EchoBack) : List (Nat × Nat) :=
  (upTo (min back.length c.chn.total)).map (fun i => (pathDelay (back.getD i {}).ra (c.node i).turn, pathDelay (back.getD i {}).rb (c.node i).turn))

/-- R88: some delay measured before has moved. -/
def Core.delaysMoved (c : Core) (ds : List (Nat × Nat)) : Bool := (upTo ds.length).any fun i => c.delayMoved i (ds.getD i (0, 0)).1 (ds.getD i (0, 0)).2

/-- R88: the delay of node `i` has moved by more than 5 ns. -/
theorem delayMoved_iff (c : Core) (i da db : Nat) :
    c.delayMoved i da db = true ↔ (c.rd (F.CHN_NDLY.DA i) ≠ 0 ∨ c.rd (F.CHN_NDLY.DB i) ≠ 0) ∧
      (20 < absI ((da : Int) - c.rd (F.CHN_NDLY.DA i)) ∨ 20 < absI ((db : Int) - c.rd (F.CHN_NDLY.DB i))) := by
  simp [Core.delayMoved]

/-- R103: an answer leaves the delays alone. -/
theorem delay_keys_notin_backFlds (i j : Nat) : ∀ g ∈ backFlds j, (F.CHN_NDLY.DA i).key ≠ g.key ∧ (F.CHN_NDLY.DB i).key ≠ g.key := by
  simp only [backFlds, List.forall_mem_cons, List.not_mem_nil, false_implies, implies_true, and_true, Fld.key, F.CHN_NSER_LO.SER, F.CHN_NSER_HI.SER,
    F.CHN_NINFO.SWAP, F.CHN_STAT.SWAPSEEN, F.CHN_NINFO.REACH, F.CHN_NDLY.DA, F.CHN_NDLY.DB]
  omega

theorem dlychg_notin_backFlds (j : Nat) : ∀ g ∈ backFlds j, F.CHN_STAT.DLYCHG.key ≠ g.key := by
  simp only [backFlds, List.forall_mem_cons, List.not_mem_nil, false_implies, implies_true, and_true, Fld.key, F.CHN_NSER_LO.SER, F.CHN_NSER_HI.SER,
    F.CHN_NINFO.SWAP, F.CHN_STAT.SWAPSEEN, F.CHN_NINFO.REACH, F.CHN_STAT.DLYCHG]
  omega

theorem Core.Answered.delaysMoved {js : List Nat} {c d : Core} (h : c.Answered js d) (ds : List (Nat × Nat)) : d.delaysMoved ds = c.delaysMoved ds := by
  have hkeys : ∀ i, ∀ g ∈ js.flatMap backFlds, (F.CHN_NDLY.DA i).key ≠ g.key ∧ (F.CHN_NDLY.DB i).key ≠ g.key := fun i g hg => by
    obtain ⟨j, -, hgj⟩ := List.mem_flatMap.mp hg
    exact delay_keys_notin_backFlds i j g hgj
  have hda : ∀ i, d.rd (F.CHN_NDLY.DA i) = c.rd (F.CHN_NDLY.DA i) := fun i => h.regs _ fun g hg => (hkeys i g hg).1
  have hdb : ∀ i, d.rd (F.CHN_NDLY.DB i) = c.rd (F.CHN_NDLY.DB i) := fun i => h.regs _ fun g hg => (hkeys i g hg).2
  simp only [Core.delaysMoved, Core.delayMoved, hda, hdb]

theorem Core.Answered.echoDelays {js : List Nat} {c d : Core} (h : c.Answered js d) (back : List EchoBack) : d.echoDelays back = c.echoDelays back := by
  have hturn : ∀ i, (d.node i).turn = (c.node i).turn := fun i => by rw [h.node i]
  simp only [Core.echoDelays, hturn, h.total]

/-- R88: DLYCHG shows a move. -/
theorem delayChanged_shows (moved : Bool) (c : Core) :
    (delayChanged moved c).chn = c.chn ∧ fieldsOnly [F.CHN_STAT.DLYCHG] c (delayChanged moved c) ∧
      (delayChanged moved c).rd F.CHN_STAT.DLYCHG = if moved then 1 else c.rd F.CHN_STAT.DLYCHG := by
  cases moved
  · exact ⟨rfl, fieldsOnly_refl _ c, rfl⟩
  · exact ⟨rfl, fieldsOnly_raise (fieldsOnly_wr (fieldsOnly_refl _ c) (by simp)), Core.rd_wr_same c F.CHN_STAT.DLYCHG 1⟩

/-- R88: ECHO packets and the new delays go to the nodes. -/
def delaySend (ds : List (Nat × Nat)) (c : Core) : Core :=
  forUp ds.length (fun j c => (c.echo j).packet 3 6 j (leBytes 2 (ds.getD j (0, 0)).1 ++ leBytes 2 (ds.getD j (0, 0)).2)) c

theorem sent_delaySend (ds : List (Nat × Nat)) (c : Core) : c.Sent (delaySend ds c) := sent_forUp (fun j c => (sent_echo c j).trans (sent_packet _ _ _ _ _)) c

/-- R88: a measurement ends with the delays `ds`, the nodes having answered. -/
def delayEnd (ds : List (Nat × Nat)) (c : Core) : Core :=
  delayChanged (c.delaysMoved ds) (delaySend ds (({ c with chn := { c.chn with dlyRun := false, dlyNew := ds } } : Core).wr F.CHN_CTRL.DLYGO 0))

theorem delayEnd_shows (ds : List (Nat × Nat)) (c : Core) :
    (delayEnd ds c).chn = { c.chn with dlyRun := false, dlyNew := ds, seq := (delayEnd ds c).chn.seq } ∧
      fieldsOnly [F.CHN_CTRL.DLYGO, F.CHN_STAT.DLYCHG] c (delayEnd ds c) ∧ (delayEnd ds c).rd F.CHN_CTRL.DLYGO = 0 ∧
      (delayEnd ds c).rd F.CHN_STAT.DLYCHG = if c.delaysMoved ds then 1 else c.rd F.CHN_STAT.DLYCHG := by
  unfold delayEnd
  generalize hb : ({ c with chn := { c.chn with dlyRun := false, dlyNew := ds } } : Core).wr F.CHN_CTRL.DLYGO 0 = b
  have hsent := sent_delaySend ds b
  obtain ⟨hchn, hregs, hshow⟩ := delayChanged_shows (c.delaysMoved ds) (delaySend ds b)
  have hrd : ∀ f, (delaySend ds b).rd f = b.rd f := noRegister_of_csr hsent.csr
  refine ⟨?_, ?_, ?_, ?_⟩
  · rw [hchn, hsent.chn, ← hb]
    rfl
  · refine fieldsOnly_trans (fieldsOnly_of_csr ?_ hsent.csr) (fieldsOnly_mono hregs (by simp))
    rw [← hb]
    exact fieldsOnly_wr (fieldsOnly_csr rfl) (by simp)
  · rw [hregs _ (by decide), hrd, ← hb, Core.rd_wr_same, Nat.zero_mod]
  · rw [hshow, hrd, ← hb, Core.rd_wr_ne _ _ (by decide), Core.rd_with_chn]

/-- R88, R103: in its chain time a measurement ends, with what the nodes that answered sent back. -/
theorem delayFinish_eq {back : List EchoBack} {c : Core} (hrun : c.chn.dlyRun = true) (hbehind : c.behindBurst = true) :
    delayFinish back c = delayEnd (c.echoDelays back) (nodesAnswer (echoed back) c) := by
  rw [← (answered_nodesAnswer (echoed back) c).echoDelays]
  exact if_pos (by rw [hrun, hbehind]; rfl)

theorem delayFinish_none {back : List EchoBack} {c : Core} (h : c.chn.dlyRun = false ∨ c.behindBurst = false) : delayFinish back c = c :=
  if_neg (by rcases h with h | h <;> simp [h])

/-- R103: from nodes that are all reached the end of a measurement shows in DLYGO and DLYCHG alone. -/
theorem delayMeasure_fieldsOnly {trips : List EchoBack} {c : Core} (hrun : c.chn.dlyRun = true) (hbehind : c.behindBurst = true)
    (hreach : ∀ i ∈ (echoed trips).map Prod.fst, i < c.chn.total → c.on (F.CHN_NINFO.REACH i) = true) :
    fieldsOnly [F.CHN_CTRL.DLYGO, F.CHN_STAT.DLYCHG] c (heardAll (upTo trips.length) (delayFinish trips) c) := by
  have hregs : fieldsOnly [F.CHN_CTRL.DLYGO, F.CHN_STAT.DLYCHG] c (delayFinish trips c) := by
    obtain ⟨-, hend, -⟩ := delayEnd_shows (c.echoDelays trips) (nodesAnswer (echoed trips) c)
    rw [delayFinish_eq hrun hbehind]
    exact fieldsOnly_trans (fieldsOnly_csr (nodesAnswer_csr hreach)) hend
  rw [heardAll_of_reached fun j _ hon => ?_]
  · exact hregs
  · rwa [Core.on_eq, hregs _ (by simp [Fld.key, F.CHN_NINFO.REACH, F.CHN_CTRL.DLYGO, F.CHN_STAT.DLYCHG]; omega)] at hon

theorem delayMeasureComplete_ends {s : State} {trips : List EchoBack} (hs : s.pwr.held = false) (hrun : s.core.chn.dlyRun = true)
    (hbehind : s.core.behindBurst = true) (hlen : trips.length ≤ 40) :
    Ends (.delayMeasureComplete trips) s fun t => coreOnly s t ∧
      ((∀ i ∈ (echoed trips).map Prod.fst, i < s.core.chn.total → s.core.on (F.CHN_NINFO.REACH i) = true) →
        fieldsOnly [F.CHN_CTRL.DLYGO, F.CHN_STAT.DLYCHG] s.core t.core) ∧
      (∀ i ∈ (echoed trips).map Prod.fst, i < s.core.chn.total → (t.core.node i).response = true ∧ t.core.on (F.CHN_NINFO.REACH i) = true) ∧
      t.core.rd F.CHN_CTRL.DLYGO = 0 ∧ t.core.chn.dlyRun = false ∧ t.core.chn.dlyNew = s.core.echoDelays trips ∧
      t.core.rd F.CHN_STAT.DLYCHG = if s.core.delaysMoved (s.core.echoDelays trips) then 1 else s.core.rd F.CHN_STAT.DLYCHG := by
  have hanswered := answered_nodesAnswer (echoed trips) s.core
  have hest := estOnly_heardAll (upTo trips.length) (delayFinish trips) s.core
  obtain ⟨hchn, hregs, hdlygo, hdlychg⟩ := delayEnd_shows (s.core.echoDelays trips) (nodesAnswer (echoed trips) s.core)
  rw [delayFinish_eq hrun hbehind] at hest
  refine ends_onCore (heardAll (upTo trips.length) (delayFinish trips)) hs rfl ⟨rfl, delayMeasure_fieldsOnly hrun hbehind, fun i hi ht => ?_, ?_, ?_, ?_, ?_⟩
  · obtain ⟨hresp, hon⟩ := nodesAnswer_shows hi ht
    have hi40 : i < 40 := Nat.lt_of_lt_of_le (mem_echoed.mp hi).1 hlen
    refine ⟨?_, ?_⟩
    · rw [hest.node, Core.node_of_rt (c := nodesAnswer (echoed trips) s.core) (by rw [hchn])]
      exact hresp
    · rw [Core.on_eq, hest.rd (by rw [reach_block hi40]; decide), hregs _ (by simp [Fld.key, F.CHN_NINFO.REACH, F.CHN_CTRL.DLYGO, F.CHN_STAT.DLYCHG]; omega)]
      exact hon
  · rw [hest.rd (by decide)]
    exact hdlygo
  · rw [hest.chn, hchn]
  · rw [hest.chn, hchn]
  · have hseen : (nodesAnswer (echoed trips) s.core).rd F.CHN_STAT.DLYCHG = s.core.rd F.CHN_STAT.DLYCHG := hanswered.regs _ fun g hg => by
      obtain ⟨j, -, hgj⟩ := List.mem_flatMap.mp hg
      exact dlychg_notin_backFlds j g hgj
    rw [hest.rd (by decide), hdlychg, hanswered.delaysMoved, hseen]

/-! ### Samples and results -/

/-- R113, R115: a sample instant of a synchronised frame in its tick. -/
def Core.sampleTick (c : Core) : Prop :=
  c.chn.synced = true ∧ c.meas.latches.length < c.meas.n ∧ c.tick.pos = 40 + c.meas.latches.length * c.meas.s

theorem nodeSample_due {c : Core} (cur : Int) (h : c.sampleTick) :
    nodeSample cur c = { c.tickFree with meas := { c.meas with latches := c.meas.latches ++ [c.latched cur] } } := by
  obtain ⟨hsync, hcount, htick⟩ := h
  exact if_pos (by simp [hsync, hcount, htick])

theorem nodeSample_none {c : Core} (cur : Int) (h : ¬ c.sampleTick) : nodeSample cur c = c :=
  if_neg fun hb => h (by simpa [Core.sampleTick, and_assoc] using hb)

/-- R109: the counters of a port saturate at 16 bits. -/
theorem rd_crcCnt_next (port : Nat) (c : Core) : (c.cntSat (crcCnt port)).rd (crcCnt port) = min 65535 (c.rd (crcCnt port) + 1) := by
  rw [rd_cntSat_same]
  unfold crcCnt
  split <;> rfl

theorem rd_retryCnt_next (port : Nat) (c : Core) : (c.cntSat (retryCnt port)).rd (retryCnt port) = min 65535 (c.rd (retryCnt port) + 1) := by
  rw [rd_cntSat_same]
  unfold retryCnt
  split <;> rfl

theorem miss_block {j : Nat} (hj : j < 40) : (F.CHN_NINFO.MISS j).block = F.CHN_CTRL.ENUM.block := by
  simp only [Fld.block, Fld.key, F.CHN_NINFO.MISS, F.CHN_CTRL.ENUM]
  omega

/-- R80: a packet with a bad CRC is counted at its port. -/
theorem resultReceived_badCrc (port typ j set serial : Nat) (r : ResultSet) (c : Core) :
    heard j (resultReceived port typ false j set r serial) c = c.cntSat (crcCnt port) := by
  refine heard_of_reached fun hon => ?_
  have hkey : (F.CHN_NINFO.REACH j).key ≠ (crcCnt port).key := by
    unfold crcCnt
    split <;> simp only [Fld.key, F.CHN_NINFO.REACH, F.CHN_ERR_A.CRC, F.CHN_ERR_B.CRC] <;> omega
  exact (congrArg (· != 0) (Core.rd_wr_ne c _ hkey)).symm.trans hon

/-- R94, R96: a RESULT that may be stored. -/
def Core.storesResult (c : Core) (typ j set : Nat) : Prop :=
  typ = 1 ∧ j < c.chn.total ∧ c.reading = true ∧ (c.node j).joins = false ∧ set < c.setsM

theorem resultReceived_stored {c : Core} {typ j set : Nat} (port serial : Nat) (r : ResultSet) (h : c.storesResult typ j set) :
    resultReceived port typ true j set r serial c = resultStore port j set r (nodeBack j serial c) := by
  obtain ⟨htyp, hj, hread, hjoins, hset⟩ := h
  simp [resultReceived, htyp, hj, hread, hjoins, hset]

theorem resultReceived_refused {c : Core} {typ j set : Nat} (port serial : Nat) (r : ResultSet) (h : ¬ c.storesResult typ j set) :
    resultReceived port typ true j set r serial c = c :=
  (if_neg (by simp)).trans (if_neg fun hb => h (by simpa [Core.storesResult, and_assoc] using hb))

/-- R94, R121: a node whose sample set `set` has come, of `m` that a readout has. -/
def NodeRt.stored (path : Bool) (m set : Nat) (r : ResultSet) (n : NodeRt) : NodeRt :=
  { n with response := true, result := true, path := path, sets := Tab.put ⟨[], [], 0⟩ n.sets set r
           got := decide (m ≤ (Tab.put ⟨[], [], 0⟩ n.sets set r).length) }

theorem resultStore_chn (port j set : Nat) (r : ResultSet) (c : Core) :
    (resultStore port j set r c).chn = (c.setNode j (NodeRt.stored (decide (port ≠ c.defaultPort j)) c.setsM set r)).chn := by
  unfold resultStore
  dsimp only
  split <;> rfl

theorem fieldsOnly_resultStore (port j set : Nat) (r : ResultSet) (c : Core) :
    fieldsOnly [F.CHN_NINFO.PATH j, F.CHN_NINFO.SYNCALT j, F.CHN_NINFO.MISS j, F.CHN_NINFO.FAULT j] c (resultStore port j set r c) := by
  unfold resultStore
  dsimp only
  split
  · exact fieldsOnly_wr (fieldsOnly_wr (fieldsOnly_wr (fieldsOnly_wr (fieldsOnly_csr rfl) (by simp)) (by simp)) (by simp)) (by simp)
  · exact fieldsOnly_wr (fieldsOnly_wr (fieldsOnly_wr (fieldsOnly_csr rfl) (by simp)) (by simp)) (by simp)

theorem resultStore_miss (port j set : Nat) (r : ResultSet) (c : Core) : (resultStore port j set r c).rd (F.CHN_NINFO.MISS j) = 0 := by
  have hne : (F.CHN_NINFO.MISS j).key ≠ (F.CHN_NINFO.FAULT j).key := by simp [Fld.key, F.CHN_NINFO.MISS, F.CHN_NINFO.FAULT]
  unfold resultStore
  dsimp only
  split
  · rw [Core.wrB_eq, Core.rd_wr_ne _ _ hne, Core.rd_wr_same, Nat.zero_mod]
  · rw [Core.rd_wr_same, Nat.zero_mod]

/-- R94, R103: what a result shows at its node, which is reached. -/
theorem resultStore_nodeBack_shows (port j set serial : Nat) (r : ResultSet) (c : Core) :
    let d := resultStore port j set r (nodeBack j serial c)
    (d.node j).result = true ∧ (d.node j).response = true ∧ Tab.get ⟨[], [], 0⟩ (d.node j).sets set = r ∧ (∀ i, i ≠ j → d.node i = c.node i) ∧
      d.rd (F.CHN_NINFO.MISS j) = 0 ∧ d.rd (F.CHN_NINFO.REACH j) ≠ 0 := by
  intro d
  have hback := answered_nodeBack j serial c
  have hon := nodeBack_on j serial c
  have hreach : d.rd (F.CHN_NINFO.REACH j) = (nodeBack j serial c).rd (F.CHN_NINFO.REACH j) := fieldsOnly_resultStore port j set r _ _ (by
    simp [Fld.key, F.CHN_NINFO.REACH, F.CHN_NINFO.PATH, F.CHN_NINFO.SYNCALT, F.CHN_NINFO.MISS, F.CHN_NINFO.FAULT])
  have hmiss : d.rd (F.CHN_NINFO.MISS j) = 0 := resultStore_miss port j set r _
  have hchn := resultStore_chn port j set r (nodeBack j serial c)
  have hsame : d.node j = NodeRt.stored _ _ set r ((nodeBack j serial c).node j) :=
    (Core.node_of_rt (congrArg ChnSt.rt hchn) j).trans (Core.node_setNode_same _ _ _)
  have hother : ∀ i, i ≠ j → d.node i = (nodeBack j serial c).node i := fun i hi =>
    (Core.node_of_rt (congrArg ChnSt.rt hchn) i).trans (Core.node_setNode_ne _ _ hi)
  rw [hsame, hreach]
  exact ⟨rfl, rfl, Tab.get_put_same _ _ _ _, fun i hi => (hother i hi).trans (hback.other i (by simpa using hi)), hmiss, by simpa [Core.on_eq] using hon⟩

/-! ### Retries and the end of a readout -/

/-- R97: the port through which a result that is missing is asked for next. -/
def Core.askPort (c : Core) (j : Nat) : Nat := if (c.node j).asked = 0 then 1 - c.homePort j else c.homePort j

/-- R97: a result that may be asked for again through a port. -/
def Core.asksAgain (c : Core) (j port : Nat) : Prop :=
  c.reading = true ∧ c.sweepsOver = true ∧ j < c.chn.total ∧ (c.node j).got = false ∧ (c.node j).asked < 2 ∧ port = c.askPort j

theorem readRetry_asks {c : Core} {j port : Nat} (h : c.asksAgain j port) :
    readRetry j port c =
      ((c.setNode j fun n => { n with asked := n.asked + 1 }).cntSat (retryCnt port)).packetAgain (port + 1) 2 j [255] := by
  obtain ⟨hread, hover, hj, hgot, hasked, hport⟩ := h
  exact if_pos (by rw [hport]; simp [hread, hover, hj, hgot, hasked, Core.askPort])

theorem readRetry_none {c : Core} {j port : Nat} (h : ¬ c.asksAgain j port) : readRetry j port c = c :=
  if_neg fun hb => h (by simpa [Core.asksAgain, Core.askPort, and_assoc] using hb)

theorem readRetry_ends {s : State} {j port : Nat} (hs : s.pwr.held = false) (h : s.core.asksAgain j port) :
    Ends (.readRetry j port) s fun t => coreOnly s t ∧ fieldsOnly [retryCnt port] s.core t.core ∧
      t.core.rd (retryCnt port) = min 65535 (s.core.rd (retryCnt port) + 1) ∧
      t.core.node j = { s.core.node j with asked := (s.core.node j).asked + 1 } ∧ ∀ i, i ≠ j → t.core.node i = s.core.node i := by
  refine ends_onCore (readRetry j port) hs rfl ⟨rfl, ?_⟩
  dsimp only
  rw [readRetry_asks h]
  generalize hd : (s.core.setNode j fun n => { n with asked := n.asked + 1 }).cntSat (retryCnt port) = d
  have hnode : ∀ i, (d.packetAgain (port + 1) 2 j [255]).node i = if i = j then { s.core.node j with asked := (s.core.node j).asked + 1 } else s.core.node i :=
    fun i => by
      rw [Core.node_of_rt (c := d) (by simp), ← hd]
      exact Core.node_setNode s.core j i fun n => { n with asked := n.asked + 1 }
  refine ⟨?_, ?_, by simp [hnode], fun i hi => by simp [hnode, hi]⟩
  · refine fieldsOnly_of_csr ?_ (Core.packetAgain_csr d _ _ _ _)
    rw [← hd]
    exact fieldsOnly_cntSat (fieldsOnly_csr rfl) (by simp)
  · rw [noRegister_of_csr (Core.packetAgain_csr d _ _ _ _), ← hd, rd_retryCnt_next]
    rfl

/-- R23: every result of a synchronised frame has come, and this has not been told yet. -/
def Core.allRead (c : Core) : Prop := c.chn.synced = true ∧ c.chn.rodone = false ∧ ∀ i < c.chn.total, (c.node i).got = true

theorem readoutDone_complete {c : Core} (h : c.allRead) :
    readoutDone c = ({ c with chn := { c.chn with rodone := true } } : Core).raise 24 0 0 := by
  obtain ⟨hsync, hdone, hgot⟩ := h
  exact if_pos (by simpa [hsync, hdone, upTo] using hgot)

theorem readoutDone_none {c : Core} (h : ¬ c.allRead) : readoutDone c = c :=
  if_neg fun hb => h (by simpa [Core.allRead, upTo, and_assoc] using hb)

/-- R96: a node whose result has not been read is recorded so. -/
def recordUnread (j : Nat) (c : Core) : Core := if c.chn.synced && !(c.node j).got then c.setNode j (fun n => { n with notRead := true }) else c

/-- R96: the node as the deadline leaves it. -/
def NodeRt.unread (n : NodeRt) (synced : Bool) : NodeRt := if synced = true ∧ n.got = false then { n with notRead := true } else n

theorem recordUnread_node (j i : Nat) (c : Core) :
    (recordUnread j c).node i = if i = j then (c.node j).unread c.chn.synced else c.node i := by
  unfold recordUnread NodeRt.unread
  by_cases h : c.chn.synced = true ∧ (c.node j).got = false
  · rw [if_pos (by simp [h]), if_pos h, Core.node_setNode]
  · rw [if_neg (by simpa using h), if_neg h]
    split
    · next e => rw [e]
    · rfl

theorem recordUnread_frame (j : Nat) (c : Core) :
    (recordUnread j c).csr = c.csr ∧ (recordUnread j c).chn = { c.chn with rt := (recordUnread j c).chn.rt } := by
  unfold recordUnread
  split <;> exact ⟨rfl, rfl⟩

/-- R96: what the deadline leaves of the first `n` nodes. -/
theorem forUp_recordUnread (n : Nat) (c : Core) :
    (forUp n recordUnread c).csr = c.csr ∧ (forUp n recordUnread c).chn = { c.chn with rt := (forUp n recordUnread c).chn.rt } ∧
      ∀ i, (forUp n recordUnread c).node i = if i < n then (c.node i).unread c.chn.synced else c.node i := by
  induction n with
  | zero => exact ⟨rfl, rfl, fun i => rfl⟩
  | succ n ih =>
    obtain ⟨hcsr, hchn, hnode⟩ := ih
    have hlast : forUp (n + 1) recordUnread c = recordUnread n (forUp n recordUnread c) := by simp [forUp, List.range_succ]
    obtain ⟨hcsr', hchn'⟩ := recordUnread_frame n (forUp n recordUnread c)
    rw [hlast]
    refine ⟨hcsr'.trans hcsr, hchn'.trans (by rw [hchn]), fun i => ?_⟩
    have hsync : (forUp n recordUnread c).chn.synced = c.chn.synced := by rw [hchn]
    rw [recordUnread_node, hnode, hnode, hsync, if_neg (Nat.lt_irrefl n)]
    by_cases hi : i = n
    · rw [if_pos hi, if_pos (by omega), hi]
    · simp only [if_neg hi, show i < n + 1 ↔ i < n by omega]

theorem readoutDeadline_passes {s : State} (hs : s.pwr.held = false) (hnew : s.core.chn.deadline = false) (hpast : s.core.pastDeadline = true) :
    Ends .readoutDeadline s fun t => coreOnly s t ∧ noRegister s.core t.core ∧ t.core.chn.deadline = true ∧
      ∀ i, t.core.node i = if i < s.core.chn.total then (s.core.node i).unread s.core.chn.synced else s.core.node i := by
  have hpass : readoutDeadline s.core =
      forUp s.core.chn.total recordUnread { s.core with chn := { s.core.chn with deadline := true } } := if_pos (by simp [hnew, hpast])
  obtain ⟨hcsr, hchn, hnode⟩ := forUp_recordUnread s.core.chn.total { s.core with chn := { s.core.chn with deadline := true } }
  refine ends_onCore readoutDeadline hs rfl ⟨rfl, ?_⟩
  dsimp only
  rw [hpass]
  exact ⟨noRegister_of_csr hcsr, by rw [hchn], hnode⟩

theorem readoutDeadline_none {c : Core} (h : c.chn.deadline = true ∨ c.pastDeadline = false) : readoutDeadline c = c :=
  if_neg (by rcases h with h | h <;> simp [h])

/-! ### The commands -/

theorem dlygo_ends {s : State} (hs : s.pwr.held = false) :
    Ends .dlygo s fun t => coreOnly s t ∧ fieldsOnly [F.CHN_CTRL.DLYGO] s.core t.core ∧ t.core.rd F.CHN_CTRL.DLYGO = 1 ∧
      t.core.chn = { s.core.chn with dlyRun := true, dlyCnt := 0 } := by
  have hregs : fieldsOnly [F.CHN_CTRL.DLYGO] s.core (s.core.wr F.CHN_CTRL.DLYGO 1) := fieldsOnly_wr (fieldsOnly_refl _ _) (by simp)
  exact ends_onCore delayGo hs rfl ⟨rfl, fieldsOnly_of_csr hregs rfl, Core.rd_wr_same s.core F.CHN_CTRL.DLYGO 1, rfl⟩

theorem delayRemeasureDue_ends {s : State} (hs : s.pwr.held = false) (h : 0 < s.core.rd F.CHN_CFG.DLY_PERIOD ∧ s.core.rd F.CHN_CFG.DLY_PERIOD ≤ s.core.chn.dlyCnt) :
    Ends .delayRemeasureDue s fun t => coreOnly s t ∧ noRegister s.core t.core ∧ t.core.chn = { s.core.chn with dlyRun := true, dlyCnt := 0 } := by
  refine ends_onCore delayDue hs rfl ?_
  rw [show delayDue s.core = delayStart s.core from if_pos h]
  exact ⟨rfl, fun _ => rfl, rfl⟩

theorem nodeSample_ends {s : State} (cur : Int) (hs : s.pwr.held = false) (h : s.core.sampleTick) :
    Ends (.nodeSample cur) s fun t => coreOnly s t ∧ noRegister s.core t.core ∧ t.core.chn = s.core.chn ∧
      t.core.meas = { s.core.meas with latches := s.core.meas.latches ++ [s.core.latched cur] } ∧ (s.core.primaryRuns = true → s.core.latched cur = cur) := by
  refine ends_onCore (nodeSample cur) hs rfl ?_
  rw [nodeSample_due cur h]
  exact ⟨rfl, fun _ => rfl, rfl, rfl, fun hruns => if_pos hruns⟩

theorem resultReceived_badCrc_ends {s : State} (port typ j set serial : Nat) (r : ResultSet) (hs : s.pwr.held = false) :
    Ends (.resultReceived port false j set r ⟨typ, serial⟩) s fun t => coreOnly s t ∧ fieldsOnly [crcCnt port] s.core t.core ∧
      t.core.rd (crcCnt port) = min 65535 (s.core.rd (crcCnt port) + 1) ∧ t.core.chn = s.core.chn := by
  refine ends_onCore (heard j (resultReceived port typ false j set r serial)) hs rfl ?_
  rw [resultReceived_badCrc]
  exact ⟨rfl, fieldsOnly_cntSat (fieldsOnly_refl _ _) (by simp), rd_crcCnt_next port s.core, rfl⟩

theorem resultReceived_stored_ends {s : State} {typ j set : Nat} (port serial : Nat) (r : ResultSet) (hs : s.pwr.held = false) (hj : j < 40)
    (h : s.core.storesResult typ j set) :
    Ends (.resultReceived port true j set r ⟨typ, serial⟩) s fun t => coreOnly s t ∧ (t.core.node j).result = true ∧ (t.core.node j).response = true ∧
      Tab.get ⟨[], [], 0⟩ (t.core.node j).sets set = r ∧ (∀ i, i ≠ j → t.core.node i = s.core.node i) ∧ t.core.rd (F.CHN_NINFO.MISS j) = 0 ∧
      t.core.rd (F.CHN_NINFO.REACH j) ≠ 0 := by
  have hest := estOnly_heard j (resultReceived port typ true j set r serial) s.core
  have hshows := resultStore_nodeBack_shows port j set serial r s.core
  rw [resultReceived_stored port serial r h] at hest
  have hmiss : (F.CHN_NINFO.MISS j).block ∉ slotBlks := by rw [miss_block hj]; decide
  have hreach : (F.CHN_NINFO.REACH j).block ∉ slotBlks := by rw [reach_block hj]; decide
  refine ends_onCore (heard j (resultReceived port typ true j set r serial)) hs rfl ⟨rfl, ?_⟩
  dsimp only
  simp only [hest.node, hest.rd hmiss, hest.rd hreach]
  exact hshows

theorem resultReceived_refused_ends {s : State} {typ j set : Nat} (port serial : Nat) (r : ResultSet) (hs : s.pwr.held = false)
    (h : ¬ s.core.storesResult typ j set) : Ends (.resultReceived port true j set r ⟨typ, serial⟩) s fun t => t = s := by
  have hnone := resultReceived_refused port serial r h
  exact ends_unchanged (heard j (resultReceived port typ true j set r serial)) hs rfl ((heard_of_csr (congrArg Core.csr hnone)).trans hnone)

theorem readoutComplete_ends {s : State} (hs : s.pwr.held = false) (h : s.core.allRead) :
    Ends .readoutComplete s fun t => coreOnly s t ∧ noRegister s.core t.core ∧ t.core.chn = { s.core.chn with rodone := true } := by
  refine ends_onCore readoutDone hs rfl ?_
  rw [readoutDone_complete h]
  exact ⟨rfl, fun _ => rfl, rfl⟩

theorem delayMeasureComplete_none_ends {s : State} {trips : List EchoBack} (hs : s.pwr.held = false) (h : s.core.chn.dlyRun = false ∨ s.core.behindBurst = false) :
    Ends (.delayMeasureComplete trips) s fun t => t = s := by
  have hnone : delayFinish trips s.core = s.core := delayFinish_none h
  refine ends_unchanged (heardAll (upTo trips.length) (delayFinish trips)) hs rfl ((heardAll_of_reached fun j _ hon => ?_).trans hnone)
  rwa [hnone] at hon

/-- Settles O18: each command by the lemma that says what it shows; a node that was UNREACHABLE brings what EST does besides, which is beside CHN. -/
theorem chainReadout : Obligations.ChainReadout := by
  unfold Obligations.ChainReadout
  intro s trips cur port typ j set serial r hs hport c k ds back want stored asks done samples far
  refine ⟨dlygo_ends hs, fun hpos hcnt => delayRemeasureDue_ends hs ⟨hpos, hcnt⟩, ?notDue, ?measured, fun h => delayMeasureComplete_none_ends hs h,
    fun h => nodeSample_ends cur hs h, fun h => ends_unchanged (nodeSample cur) hs rfl (nodeSample_none cur h),
    resultReceived_badCrc_ends port typ j set serial r hs, fun hj h => resultReceived_stored_ends port serial r hs hj h,
    fun h => resultReceived_refused_ends port serial r hs h, fun h => readRetry_ends hs h,
    fun h => ends_unchanged (readRetry j port) hs rfl (readRetry_none h), fun h => readoutComplete_ends hs h,
    fun h => ends_unchanged readoutDone hs rfl (readoutDone_none h), ?deadline, fun h => ends_unchanged readoutDeadline hs rfl (readoutDeadline_none h)⟩
  case notDue =>
    intro h
    have hnot : ¬ (0 < s.core.rd F.CHN_CFG.DLY_PERIOD ∧ s.core.rd F.CHN_CFG.DLY_PERIOD ≤ s.core.chn.dlyCnt) := by
      change s.core.rd F.CHN_CFG.DLY_PERIOD = 0 ∨ s.core.chn.dlyCnt < s.core.rd F.CHN_CFG.DLY_PERIOD at h
      omega
    exact ends_unchanged delayDue hs rfl (if_neg hnot)
  case measured =>
    intro hrun hbehind hlen
    have hmoved : s.core.delaysMoved (s.core.echoDelays trips) = true ↔ ∃ i < ds.length, far i := by
      simp only [Core.delaysMoved, List.any_eq_true, upTo, List.mem_range, delayMoved_iff]
      rfl
    obtain ⟨t, hexec, hcore, hregs, hanswer, hgo, hdone, hnew, hchg⟩ := delayMeasureComplete_ends hs hrun hbehind hlen
    refine ⟨t, hexec, hcore, fun hreach => hregs fun i hi ht => ?_, fun i hi hback => ?_, hgo, hdone, hnew, fun i hi hfar => ?_, fun hstill => ?_⟩
    · obtain ⟨hi, hcame⟩ := mem_echoed.mp hi
      exact bne_iff_ne.mpr (hreach i hi ⟨ht, hcame⟩)
    · obtain ⟨hresp, hon⟩ := hanswer i (mem_echoed.mpr ⟨hi, hback.2⟩) hback.1
      exact ⟨hresp, bne_iff_ne.mp hon⟩
    · rw [hchg, if_pos (hmoved.mpr ⟨i, hi, hfar⟩)]
    · rw [hchg, if_neg fun h => ?_]
      obtain ⟨i, hi, hfar⟩ := hmoved.mp h
      exact hstill i hi hfar
  case deadline =>
    intro hnew hpast
    obtain ⟨t, hexec, hcore, hregs, hdeadline, hnode⟩ := readoutDeadline_passes hs hnew hpast
    exact ⟨t, hexec, hcore, hregs, hdeadline, fun i => (hnode i).trans (ite_and _ _ _ _).symm⟩

end Sys2Proof.Machine
end

section
/-! PROOF. O17: the re-addressing of a restarted node waits for the bleed schedule (R87, R152). -/

namespace Sys2Proof.Machine

/-- Node 0 has restarted and said HELLO. The readout deadline has passed, and the bleed schedule has not gone out yet. -/
def scheduleFirstState : State :=
  { State.reset with
    core := { State.reset.core with
      chn := { State.reset.core.chn with total := 1, deadline := true, rt := [(0, { hello := true })] }
      bal := { State.reset.core.bal with schedMade := true } } }

/-- The DESC of node 0, which comes at the first attempt. -/
def restartedNode : NodeDesc := ⟨7, 1, 2, 800, 0, 0, 0, false, false, 0⟩

/-- R152: behind the readout deadline the chain time is that of the bleed schedule first, and the node stays in HELLO. -/
theorem scheduleFirstState_hello_after_readdress :
    ((readdressed 0 restartedNode scheduleFirstState.saf.nodeWords scheduleFirstState.core).node 0).hello = true := by decide

/-- Refutes O17: its clause for the re-addressing asks for background chain time alone. In `scheduleFirstState` there is background chain time, which
the bleed schedule takes first (R152), and the re-addressing goes behind it: the command changes nothing, and the node stays in HELLO. -/
theorem not_chainEnumeration : ¬ Obligations.ChainEnumeration := by
  unfold Obligations.ChainEnumeration
  intro h
  obtain ⟨-, -, -, -, -, -, -, -, -, hreaddress, -⟩ := h scheduleFirstState ⟨true, [], [], false, false⟩ 0 0 restartedNode rfl
  obtain ⟨t, hexec, -, hhello, -⟩ := hreaddress (by decide) (by decide) (by decide) (by decide)
  obtain rfl := Host.Outcome.next.inj hexec
  exact absurd (hhello.symm.trans scheduleFirstState_hello_after_readdress) (by decide)

end Sys2Proof.Machine
end

section
/-! PROOF. O20: the bleed duty state of a node that stands where another one stood (R103, R157). -/

namespace Sys2Proof.Machine

/-- The place of node 0 is UNREACHABLE; the node that stood there had its bleeding stopped (R157). -/
def stoppedNodeState : State :=
  { State.reset with
    core := { State.reset.core with chn := { State.reset.core.chn with total := 1, rt := [(0, { duty := 2 })] } } }

/-- R157: a node of serial number 7 that stands there now has bled at FULL, and goes on so at 80 degrees. -/
theorem stoppedNodeState_duty_after_diag : ((heard 0 (nodeDiag 0 80 0 7) stoppedNodeState.core).node 0).duty = 0 := by decide

/-- Refutes O20: its clause for a diagnostic read moves the duty state that the place had. The node that answers in `stoppedNodeState` is another one,
of serial number 7: its duty state goes by its serial (R157) and is FULL, where the clause goes on from the STOP of the node before it, to HALF. -/
theorem not_frameRecordCommands : ¬ Obligations.FrameRecordCommands := by
  unfold Obligations.FrameRecordCommands
  intro h
  obtain ⟨-, -, -, -, -, -, hdiag, -⟩ := h stoppedNodeState 0 0 0 0 7 80 [] rfl (by decide) (by decide)
  obtain ⟨t, hexec, -, hduty, -⟩ := hdiag (by decide)
  obtain rfl := Host.Outcome.next.inj hexec
  exact absurd (hduty.symm.trans stoppedNodeState_duty_after_diag) (by decide)

end Sys2Proof.Machine
end

section
/-! PROOF. O22: packets of a burst (R80, R103, R180), publication (R182, R186), the end of a temperature (R188) and the result window (R195). -/

namespace Sys2Proof.Machine

/-! ### The slots -/

theorem Core.npos_pos (c : Core) (j : Nat) : 0 < c.npos j := by
  unfold Core.npos
  dsimp only
  split
  · decide
  · split <;> omega

/-- The first `n` elements come from the first `n` lists, when none is empty. -/
theorem take_flatMap_range {α : Type} {g : Nat → List α} (hg : ∀ j, 0 < (g j).length) (m n : Nat) :
    ((List.range m).flatMap g).take n = ((List.range (min m n)).flatMap g).take n := by
  by_cases h : m ≤ n
  · rw [Nat.min_eq_left h]
  · have hlen : ∀ k, k ≤ ((List.range k).flatMap g).length := fun k => by
      induction k with
      | zero => exact Nat.zero_le _
      | succ k ih =>
        have hk := hg k
        simp only [List.range_succ, List.flatMap_append, List.length_append, List.flatMap_singleton]
        omega
    obtain ⟨k, rfl⟩ := Nat.exists_eq_add_of_le (Nat.le_of_not_le h)
    rw [Nat.min_eq_right (by omega), List.range_add, List.flatMap_append, List.take_append_of_le_length (hlen n)]

/-- R124, R125: the node count and the configured positions of the first 576 nodes give the slots. -/
theorem Core.slots_congr {c d : Core} (htotal : d.chn.total = c.chn.total) (hnpos : ∀ j < 576, d.rd (F.MEAS_NCFG.NPOS j) = c.rd (F.MEAS_NCFG.NPOS j)) :
    d.slots = c.slots := by
  have hlists : ∀ (e : Core) (j : Nat), 0 < ((upTo (e.npos j)).map (slotKey j)).length := fun e j => by simpa [upTo] using e.npos_pos j
  have hfirst : ∀ e : Core, e.slots = ((List.range (min e.chn.total 576)).flatMap fun j => (upTo (e.npos j)).map (slotKey j)).take 576 :=
    fun e => take_flatMap_range (hlists e) _ _
  rw [hfirst d, hfirst c, htotal]
  refine congrArg (List.take 576) (List.flatMap_congr fun j hj => ?_)
  have hj576 : j < 576 := by
    have := List.mem_range.mp hj
    omega
  simp only [Core.npos, hnpos j hj576]

theorem npos_block {j : Nat} (hj : j < 576) : (F.MEAS_NCFG.NPOS j).block = F.MEAS_STAT.OWSEEN.block := by
  simp only [Fld.block, Fld.key, F.MEAS_NCFG.NPOS, F.MEAS_STAT.OWSEEN]
  omega

/-- The slots stay when no register of MEAS differs. -/
theorem Core.slots_of_blocksOnly {bs : List Nat} {c d : Core} (h : blocksOnly bs c d) (hbs : F.MEAS_STAT.OWSEEN.block ∉ bs)
    (htotal : d.chn.total = c.chn.total) : d.slots = c.slots :=
  Core.slots_congr htotal fun j hj => h _ (by rwa [npos_block hj])

/-! ### The end of burst readout -/

/-- R179, R180: a packet of node `j` answers a READ of burst readout. -/
def Core.takesBurst (c : Core) (j : Nat) : Prop :=
  c.impState = 4 ∧ 20 * c.period ≤ c.imp.since ∧ c.behindBleed = true ∧ j < c.chn.total

theorem takesBurst_iff (c : Core) (j : Nat) : (c.burstReads && c.behindBleed && decide (j < c.chn.total)) = true ↔ c.takesBurst j := by
  simp [Core.takesBurst, Core.burstReads, Core.impState, and_assoc]

/-- R180, R185: every slot has its samples, or has spent its requests. -/
def Core.burstSpent (c : Core) : Prop := ∀ i ∈ c.slots, (Tab.get [] c.imp.buf i).length = 2048 ∨ Tab.get 0 c.imp.asks i = 3

theorem burstSpent_congr {c d : Core} (hslots : d.slots = c.slots) (hbuf : d.imp.buf = c.imp.buf) (hasks : d.imp.asks = c.imp.asks) :
    d.burstSpent ↔ c.burstSpent := by
  unfold Core.burstSpent
  rw [hslots, hbuf, hasks]

theorem slots_all_slotOver (c : Core) : c.slots.all c.imp.slotOver = true ↔ c.burstSpent := by
  simp [ImpSt.slotOver, Core.burstSpent]

theorem fieldsOnly_readoutOver (c : Core) : fieldsOnly [F.IMP_STAT.STATE] c (readoutOver c) := by
  unfold readoutOver
  split
  · exact fieldsOnly_wr (fieldsOnly_refl _ c) (by simp)
  · exact fieldsOnly_refl _ c

theorem readoutOver_chn (c : Core) : (readoutOver c).chn = c.chn := by
  unfold readoutOver
  split <;> rfl

theorem readoutOver_imp (c : Core) : (readoutOver c).imp = c.imp := by
  unfold readoutOver
  split <;> rfl

/-- R186: demodulation starts when nothing more is to come. -/
theorem readoutOver_state {c : Core} (h : c.impState = 4) : (readoutOver c).impState = 5 ↔ (readoutOver c).burstSpent := by
  have hslots : (readoutOver c).slots = c.slots :=
    Core.slots_of_blocksOnly (bs := [F.IMP_STAT.STATE.block]) (blocksOnly_of_fieldsOnly (fieldsOnly_readoutOver c) (by simp)) (by decide)
      (by rw [readoutOver_chn])
  rw [burstSpent_congr hslots (by rw [readoutOver_imp]) (by rw [readoutOver_imp]), ← slots_all_slotOver]
  unfold readoutOver
  split
  · next hall => exact iff_of_true (Core.rd_wr_same c F.IMP_STAT.STATE 5) hall
  · next hall => exact iff_of_false (by rw [h]; decide) hall

/-! ### A packet with a bad CRC -/

/-- R180: the port through which a packet of a slot is asked for next. -/
def Core.burstPort (c : Core) (j k : Nat) : Nat := if Tab.get 0 c.imp.asks k = 0 then 1 - c.homePort j else c.homePort j

/-- R109, R180: a packet of a slot has failed its CRC for the `n`-th time. -/
def burstFailed (port k n : Nat) (c : Core) : Core := ({ c with imp := { c.imp with asks := Tab.put 0 c.imp.asks k n } } : Core).cntSat (crcCnt port)

theorem burstAgain_asks {c : Core} {k : Nat} (port j : Nat) (h : Tab.get 0 c.imp.asks k < 2) :
    burstAgain port j k c =
      ((burstFailed port k (Tab.get 0 c.imp.asks k + 1) c).cntSat (retryCnt (c.burstPort j k))).packetAgain (c.burstPort j k + 1) 2 j [255] := by
  have hn : min 3 (Tab.get 0 c.imp.asks k + 1) = Tab.get 0 c.imp.asks k + 1 := by omega
  have hport : (if Tab.get 0 c.imp.asks k + 1 = 1 then 1 - c.homePort j else c.homePort j) = c.burstPort j k := by simp [Core.burstPort]
  unfold burstAgain
  rw [hn]
  dsimp only
  rw [hport, if_neg (by omega)]
  rfl

theorem burstAgain_spent {c : Core} {k : Nat} (port j : Nat) (h : 2 ≤ Tab.get 0 c.imp.asks k) : burstAgain port j k c = readoutOver (burstFailed port k 3 c) := by
  have hn : min 3 (Tab.get 0 c.imp.asks k + 1) = 3 := by omega
  unfold burstAgain
  rw [hn]
  rfl

theorem burstPacket_bad_ours {c : Core} {j : Nat} (port ch serial : Nat) (xs : List Nat) (h : c.takesBurst j) :
    burstPacket port false j ch xs serial c = burstAgain port j (slotKey j ch) c :=
  if_pos ((takesBurst_iff c j).mpr h)

theorem burstPacket_bad_other {c : Core} {j : Nat} (port ch serial : Nat) (xs : List Nat) (h : ¬ c.takesBurst j) :
    burstPacket port false j ch xs serial c = c.cntSat (crcCnt port) :=
  if_neg (mt (takesBurst_iff c j).mp h)

theorem crcCnt_key_ne (port p : Nat) : (crcCnt port).key ≠ (retryCnt p).key ∧ (crcCnt port).key ≠ F.IMP_STAT.STATE.key := by
  unfold crcCnt retryCnt
  split <;> split <;> decide

theorem burstFailed_shows (port k n : Nat) (c : Core) :
    fieldsOnly [crcCnt port] c (burstFailed port k n c) ∧ (burstFailed port k n c).rd (crcCnt port) = min 65535 (c.rd (crcCnt port) + 1) :=
  ⟨fieldsOnly_cntSat (fieldsOnly_csr rfl) (by simp), rd_crcCnt_next port _⟩

/-- R80, R180: what a packet with a bad CRC shows, after which port it came. -/
structure BadPacket (port j k : Nat) (c d : Core) : Prop where
  counted : d.rd (crcCnt port) = min 65535 (c.rd (crcCnt port) + 1)
  buf : d.imp.buf = c.imp.buf
  rt : d.chn.rt = c.chn.rt
  regs : fieldsOnly [crcCnt port, retryCnt (c.burstPort j k), F.IMP_STAT.STATE] c d
  other : ¬ c.takesBurst j → fieldsOnly [crcCnt port] c d ∧ d.imp = c.imp
  asks : c.takesBurst j → Tab.get 0 c.imp.asks k < 2 → fieldsOnly [crcCnt port, retryCnt (c.burstPort j k)] c d ∧
    d.rd (retryCnt (c.burstPort j k)) = min 65535 (c.rd (retryCnt (c.burstPort j k)) + 1) ∧
    d.imp = { c.imp with asks := Tab.put 0 c.imp.asks k (Tab.get 0 c.imp.asks k + 1) }
  spent : c.takesBurst j → 2 ≤ Tab.get 0 c.imp.asks k → fieldsOnly [crcCnt port, F.IMP_STAT.STATE] c d ∧ Tab.get 0 d.imp.asks k = 3 ∧
    (d.impState = 5 ↔ d.burstSpent)

/-- R180: the packet is asked for again. -/
theorem burstAgain_asks_shows {c : Core} {k : Nat} (port j : Nat) (h : Tab.get 0 c.imp.asks k < 2) :
    let d := burstAgain port j k c
    d.rd (crcCnt port) = min 65535 (c.rd (crcCnt port) + 1) ∧ d.chn.rt = c.chn.rt ∧ fieldsOnly [crcCnt port, retryCnt (c.burstPort j k)] c d ∧
      d.rd (retryCnt (c.burstPort j k)) = min 65535 (c.rd (retryCnt (c.burstPort j k)) + 1) ∧
      d.imp = { c.imp with asks := Tab.put 0 c.imp.asks k (Tab.get 0 c.imp.asks k + 1) } := by
  obtain ⟨hkey, -⟩ := crcCnt_key_ne port (c.burstPort j k)
  obtain ⟨hfailed, hcnt⟩ := burstFailed_shows port k (Tab.get 0 c.imp.asks k + 1) c
  rw [burstAgain_asks port j h]
  generalize hp : c.burstPort j k = p at hkey ⊢
  generalize hb : burstFailed port k (Tab.get 0 c.imp.asks k + 1) c = b at hfailed hcnt ⊢
  have hsent : noRegister (b.cntSat (retryCnt p)) ((b.cntSat (retryCnt p)).packetAgain (p + 1) 2 j [255]) := noRegister_of_csr (Core.packetAgain_csr _ _ _ _ _)
  refine ⟨?_, ?_, ?_, ?_, ?_⟩
  · rw [hsent, Core.cntSat_eq, Core.rd_wr_ne _ _ hkey, hcnt]
  · rw [Core.packetAgain_chn, ← hb]
    rfl
  · exact fieldsOnly_of_csr (fieldsOnly_cntSat (fieldsOnly_mono hfailed (by simp)) (by simp)) (Core.packetAgain_csr _ _ _ _ _)
  · rw [hsent, rd_retryCnt_next, hfailed _ (by simpa using hkey.symm)]
  · rw [Core.packetAgain_imp, ← hb]
    rfl

/-- R180: the packet is asked for no more. -/
theorem burstAgain_spent_shows {c : Core} {k : Nat} (port j : Nat) (hstate : c.impState = 4) (h : 2 ≤ Tab.get 0 c.imp.asks k) :
    let d := burstAgain port j k c
    d.rd (crcCnt port) = min 65535 (c.rd (crcCnt port) + 1) ∧ d.chn.rt = c.chn.rt ∧ d.imp = { c.imp with asks := Tab.put 0 c.imp.asks k 3 } ∧
      fieldsOnly [crcCnt port, F.IMP_STAT.STATE] c d ∧ (d.impState = 5 ↔ d.burstSpent) := by
  obtain ⟨-, hkey⟩ := crcCnt_key_ne port 0
  obtain ⟨hfailed, hcnt⟩ := burstFailed_shows port k 3 c
  have hreading : (burstFailed port k 3 c).impState = 4 := (hfailed _ (by simpa using hkey.symm)).trans hstate
  have hover := fieldsOnly_readoutOver (burstFailed port k 3 c)
  rw [burstAgain_spent port j h]
  exact ⟨(hover _ (by simpa using hkey)).trans hcnt, congrArg ChnSt.rt (readoutOver_chn _), readoutOver_imp _,
    fieldsOnly_trans (fieldsOnly_mono hfailed (by simp)) (fieldsOnly_mono hover (by simp)), readoutOver_state hreading⟩

theorem badPacket_burstPacket (port j ch serial : Nat) (xs : List Nat) (c : Core) :
    BadPacket port j (slotKey j ch) c (burstPacket port false j ch xs serial c) := by
  by_cases hours : c.takesBurst j
  · rw [burstPacket_bad_ours port ch serial xs hours]
    generalize slotKey j ch = k
    by_cases hasked : Tab.get 0 c.imp.asks k < 2
    · obtain ⟨hcnt, hrt, hregs, hretry, himp⟩ := burstAgain_asks_shows port j hasked
      exact ⟨hcnt, by rw [himp], hrt, fieldsOnly_mono hregs (by simp), fun h => absurd hours h, fun _ _ => ⟨hregs, hretry, himp⟩, fun _ h => by omega⟩
    · obtain ⟨hcnt, hrt, himp, hregs, hstate⟩ := burstAgain_spent_shows port j hours.1 (Nat.le_of_not_lt hasked)
      exact ⟨hcnt, by rw [himp], hrt, fieldsOnly_mono hregs (by simp), fun h => absurd hours h, fun _ h => absurd h hasked,
        fun _ _ => ⟨hregs, (congrArg (fun i : ImpSt => Tab.get 0 i.asks k) himp).trans (Tab.get_put_same 0 c.imp.asks k 3), hstate⟩⟩
  · rw [burstPacket_bad_other port ch serial xs hours]
    have hregs : fieldsOnly [crcCnt port] c (c.cntSat (crcCnt port)) := fieldsOnly_cntSat (fieldsOnly_refl _ c) (by simp)
    exact ⟨rd_crcCnt_next port c, rfl, rfl, fieldsOnly_mono hregs (by simp), fun _ => ⟨hregs, rfl⟩, fun h => absurd h hours, fun h => absurd h hours⟩

theorem reach_key_ne (i port p : Nat) : ∀ g ∈ [crcCnt port, retryCnt p, F.IMP_STAT.STATE], (F.CHN_NINFO.REACH i).key ≠ g.key := by
  simp only [List.forall_mem_cons, List.not_mem_nil, false_implies, implies_true, and_true]
  unfold crcCnt retryCnt
  split <;> split <;>
    simp only [Fld.key, F.CHN_NINFO.REACH, F.CHN_ERR_A.CRC, F.CHN_ERR_B.CRC, F.CHN_ERR_A.RETRY, F.CHN_ERR_B.RETRY, F.IMP_STAT.STATE] <;> omega

theorem burstPacketReceived_bad_ends {s : State} (port j ch serial : Nat) (xs : List Nat) (hs : s.pwr.held = false) :
    Ends (.burstPacketReceived port false j ch ⟨xs, serial⟩) s fun t => coreOnly s t ∧ BadPacket port j (slotKey j ch) s.core t.core := by
  have hbad := badPacket_burstPacket port j ch serial xs s.core
  refine ends_onCore (heard j (burstPacket port false j ch xs serial)) hs rfl ⟨rfl, ?_⟩
  dsimp only
  rw [heard_of_reached fun hon => ?_]
  · exact hbad
  · rwa [Core.on_eq, hbad.regs _ (reach_key_ne j port _)] at hon

/-! ### A good packet -/

/-- R180: the samples of a packet are appended to their slot, and its requests are counted anew, unless they are spent. -/
def ImpSt.keepPacket (k : Nat) (xs : List Nat) (i : ImpSt) : ImpSt :=
  { i with buf := Tab.put [] i.buf k ((Tab.get [] i.buf k ++ xs).take 2048)
           asks := if Tab.get 0 i.asks k = 3 then i.asks else Tab.put 0 i.asks k 0 }

theorem keepPacket_same (k : Nat) (xs : List Nat) (i : ImpSt) :
    Tab.get [] (i.keepPacket k xs).buf k = (Tab.get [] i.buf k ++ xs).take 2048 ∧ (Tab.get 0 i.asks k ≠ 3 → Tab.get 0 (i.keepPacket k xs).asks k = 0) := by
  refine ⟨Tab.get_put_same _ _ _ _, fun h => ?_⟩
  simp only [ImpSt.keepPacket, if_neg h]
  exact Tab.get_put_same _ _ _ _

theorem keepPacket_ne (xs : List Nat) (i : ImpSt) {k l : Nat} (h : l ≠ k) :
    Tab.get [] (i.keepPacket k xs).buf l = Tab.get [] i.buf l ∧ Tab.get 0 (i.keepPacket k xs).asks l = Tab.get 0 i.asks l := by
  refine ⟨Tab.get_put_ne _ _ _ h, ?_⟩
  simp only [ImpSt.keepPacket]
  split
  · rfl
  · exact Tab.get_put_ne _ _ _ h

/-- R103, R180: a good packet of node `j` is taken. -/
def burstTaken (j k serial : Nat) (xs : List Nat) (c : Core) : Core :=
  readoutOver { nodeAnswers j serial c with imp := (nodeAnswers j serial c).imp.keepPacket k xs }

theorem burstPacket_good {c : Core} {j : Nat} {xs : List Nat} (port ch serial : Nat) (h : c.takesBurst j) (hlen : 3 * xs.length ≤ c.maxPayload j + 2) :
    burstPacket port true j ch xs serial c = burstTaken j (slotKey j ch) serial xs c :=
  (if_pos ((takesBurst_iff c j).mpr h)).trans (if_pos hlen)

theorem burstPacket_refused {c : Core} {j : Nat} {xs : List Nat} (port ch serial : Nat) (h : ¬ c.takesBurst j ∨ ¬ 3 * xs.length ≤ c.maxPayload j + 2) :
    burstPacket port true j ch xs serial c = c := by
  unfold burstPacket
  split
  · next hours => exact if_neg (h.resolve_left (not_not_intro ((takesBurst_iff c j).mp hours)))
  · rfl

theorem state_notin_backFlds {j : Nat} (hj : j < 40) : ∀ g ∈ [j].flatMap backFlds, F.IMP_STAT.STATE.key ≠ g.key := by
  simp only [backFlds, List.flatMap_cons, List.flatMap_nil, List.append_nil, List.forall_mem_cons, List.not_mem_nil, false_implies, implies_true, and_true,
    Fld.key, F.CHN_NSER_LO.SER, F.CHN_NSER_HI.SER, F.CHN_NINFO.SWAP, F.CHN_STAT.SWAPSEEN, F.CHN_NINFO.REACH, F.IMP_STAT.STATE]
  omega

/-- R103, R180: what a good packet shows of its node and of the burst. -/
theorem burstTaken_shows {c : Core} {j : Nat} (k serial : Nat) (xs : List Nat) (hj : j < 40) (hstate : c.impState = 4) :
    let d := burstTaken j k serial xs c
    d.imp = c.imp.keepPacket k xs ∧ (d.node j).response = true ∧ (∀ i, i ≠ j → d.node i = c.node i) ∧ d.on (F.CHN_NINFO.REACH j) = true ∧
      (d.impState = 5 ↔ d.burstSpent) ∧ (c.on (F.CHN_NINFO.REACH j) = true → fieldsOnly [F.IMP_STAT.STATE] c d) := by
  intro d
  have hans := answered_nodeAnswers j serial c
  obtain ⟨hresp, hon⟩ := nodeAnswers_shows j serial c
  have hnode : ∀ i, d.node i = (nodeAnswers j serial c).node i := Core.node_of_rt (congrArg ChnSt.rt (readoutOver_chn _))
  have hregs : fieldsOnly [F.IMP_STAT.STATE] (nodeAnswers j serial c) d := fieldsOnly_readoutOver _
  refine ⟨?_, ?_, fun i hi => ?_, ?_, ?_, fun hreached => ?_⟩
  · rw [← hans.imp]
    exact readoutOver_imp _
  · rw [hnode]
    exact hresp
  · rw [hnode, hans.other i (by simpa using hi)]
  · rw [Core.on_eq, hregs _ fun g hg => reach_key_ne j 0 0 g (by simp_all)]
    exact hon
  · exact readoutOver_state ((hans.regs _ (state_notin_backFlds hj)).trans hstate)
  · exact fieldsOnly_trans (fieldsOnly_csr (nodeAnswers_csr serial hreached)) hregs

/-- R103, R180: what a good packet of burst readout shows, with what EST does when its node has come back. -/
structure GoodPacket (j k : Nat) (xs : List Nat) (c d : Core) : Prop where
  buf : d.imp.buf = (c.imp.keepPacket k xs).buf
  asks : d.imp.asks = (c.imp.keepPacket k xs).asks
  ended : d.impState = 5 ↔ d.burstSpent
  response : (d.node j).response = true
  reach : d.on (F.CHN_NINFO.REACH j) = true
  other : ∀ i, i ≠ j → d.node i = c.node i
  regs : c.on (F.CHN_NINFO.REACH j) = true → fieldsOnly [F.IMP_STAT.STATE] c d

theorem burstPacketReceived_good_ends {s : State} {j : Nat} {xs : List Nat} (port ch serial : Nat) (hs : s.pwr.held = false) (h : s.core.takesBurst j)
    (hj : j < 40) (hlen : 3 * xs.length ≤ s.core.maxPayload j + 2) :
    Ends (.burstPacketReceived port true j ch ⟨xs, serial⟩) s fun t => coreOnly s t ∧ GoodPacket j (slotKey j ch) xs s.core t.core := by
  have hpacket := burstPacket_good port ch serial h hlen
  obtain ⟨himp, hresp, hother, hon, hover, hregs⟩ := burstTaken_shows (slotKey j ch) serial xs hj h.1
  have hest := estOnly_heard j (burstPacket port true j ch xs serial) s.core
  rw [hpacket] at hest
  have hslots := Core.slots_of_blocksOnly hest.regs (by decide) (by rw [hest.chn])
  refine ends_onCore (heard j (burstPacket port true j ch xs serial)) hs rfl ⟨rfl, ?_⟩
  refine ⟨?_, ?_, ?_, ?_, ?_, fun i hi => ?_, fun hreached => ?_⟩ <;> dsimp only
  · rw [hest.imp, himp]
  · rw [hest.imp, himp]
  · rw [burstSpent_congr hslots (by rw [hest.imp]) (by rw [hest.imp]), ← hover, Core.impState, hest.rd (by decide)]
    rfl
  · rw [hest.node]
    exact hresp
  · rw [Core.on_eq, hest.rd (by rw [reach_block hj]; decide)]
    exact hon
  · rw [hest.node]
    exact hother i hi
  · rw [heard_of_reached fun _ => hreached, hpacket]
    exact hregs hreached

theorem burstPacketReceived_refused_ends {s : State} {j : Nat} {xs : List Nat} (port ch serial : Nat) (hs : s.pwr.held = false)
    (h : ¬ s.core.takesBurst j ∨ ¬ 3 * xs.length ≤ s.core.maxPayload j + 2) :
    Ends (.burstPacketReceived port true j ch ⟨xs, serial⟩) s fun t => t = s := by
  have hnone := burstPacket_refused port ch serial h
  exact ends_unchanged (heard j (burstPacket port true j ch xs serial)) hs rfl ((heard_of_csr (congrArg Core.csr hnone)).trans hnone)

/-! ### Publication -/

/-- What the start holds and each step keeps holds at the end. -/
theorem forUp_induction {P : Core → Prop} {n : Nat} {f : Nat → Core → Core} {c : Core} (h : P c) (hf : ∀ k < n, ∀ d, P d → P (f k d)) : P (forUp n f c) :=
  List.foldlRecOn _ _ h fun d hd k hk => hf k (List.mem_range.mp hk) d hd

/-- R185, R188 to R191: from `c` to `d` positions have been published. -/
structure Core.PosPublished (c d : Core) : Prop where
  imp : d.imp = { c.imp with res := d.imp.res, refs := d.imp.refs }
  hif : d.hif = c.hif
  regs : fieldsOnly [F.IMP_STAT.XFAILSEEN] c d

theorem Core.PosPublished.refl (c : Core) : c.PosPublished c := ⟨rfl, rfl, fieldsOnly_refl _ c⟩

theorem Core.PosPublished.trans {c d e : Core} (h : c.PosPublished d) (g : d.PosPublished e) : c.PosPublished e :=
  ⟨g.imp.trans (by rw [h.imp]), g.hif.trans h.hif, fieldsOnly_trans h.regs g.regs⟩

/-- R190: a failed crosscheck shows. -/
theorem posPublished_xfail (b : Bool) (i : Nat) (c : Core) : c.PosPublished (c.when b fun c => (c.wr F.IMP_STAT.XFAILSEEN 1).raise 46 i i) := by
  cases b
  · exact .refl c
  · exact ⟨rfl, rfl, fieldsOnly_raise (fieldsOnly_wr (fieldsOnly_refl _ c) (by simp))⟩

theorem posPublished_posPublish (ops qok : Nat) (iso : Bool) (wi : List Int) (bins : List Nat) (i k : Nat) (c : Core) :
    c.PosPublished (posPublish ops qok iso wi bins i k c) := by
  unfold posPublish
  dsimp only
  refine Core.PosPublished.trans ?_ (posPublished_xfail _ i _)
  split
  · exact ⟨rfl, rfl, fieldsOnly_csr rfl⟩
  · exact ⟨rfl, rfl, fieldsOnly_csr rfl⟩

/-- R186: the registers and the event of a publication. -/
def showPublished (bnum : Nat) (due : Bool) (c : Core) : Core :=
  (((c.cntSat F.IMP_CNT.DONE).wr F.IMP_BNUM.BNUM bnum).wrB F.IMP_STAT.STATE due).raise 43 0 bnum

theorem showPublished_shows (bnum : Nat) (due : Bool) (c : Core) :
    let d := showPublished bnum due c
    d.rd F.IMP_BNUM.BNUM = bnum % 2 ^ 32 ∧ d.rd F.IMP_CNT.DONE = min 65535 (c.rd F.IMP_CNT.DONE + 1) ∧ d.impState = b2n due ∧ 43 ∈ d.irq.cross := by
  refine ⟨?_, ?_, ?_, List.mem_append_right _ (List.mem_singleton.mpr rfl)⟩
  · rw [showPublished, Core.rd_raise, Core.wrB_eq, Core.rd_wr_ne _ _ (by decide), Core.rd_wr_same]
    rfl
  · rw [showPublished, Core.rd_raise, Core.wrB_eq, Core.rd_wr_ne _ _ (by decide), Core.rd_wr_ne _ _ (by decide), rd_cntSat_same]
    rfl
  · rw [showPublished, Core.impState, Core.rd_raise, Core.wrB_eq, Core.rd_wr_same]
    cases due <;> rfl

/-- R173, R182: a held GO makes a burst due. -/
def takeHeldGo (c : Core) : Core := burstDue ((c.wr F.IMP_STAT.GOPEND 0).wr F.IMP_STAT.STATE 0)

theorem takeHeldGo_shows (c : Core) :
    (takeHeldGo c).impState = 1 ∧ (takeHeldGo c).imp = { c.imp with due := true, defRaised := false } ∧ (takeHeldGo c).irq = c.irq ∧
      (takeHeldGo c).hif = c.hif ∧ fieldsOnly [F.IMP_STAT.GOPEND, F.IMP_STAT.STATE] c (takeHeldGo c) := by
  generalize hd : ((c.wr F.IMP_STAT.GOPEND 0).wr F.IMP_STAT.STATE 0) = d
  have hidle : d.impState = 0 := by rw [← hd, Core.impState, Core.rd_wr_same, Nat.zero_mod]
  have hregs : fieldsOnly [F.IMP_STAT.GOPEND, F.IMP_STAT.STATE] c d := hd ▸ fieldsOnly_wr (fieldsOnly_wr (fieldsOnly_refl _ c) (by simp)) (by simp)
  have hdue : takeHeldGo c = ({ d with imp := { d.imp with due := true, defRaised := false } } : Core).wr F.IMP_STAT.STATE 1 := by
    simp [takeHeldGo, burstDue, hd, hidle]
  rw [hdue]
  refine ⟨Core.rd_wr_same _ F.IMP_STAT.STATE 1, ?_, ?_, ?_, fieldsOnly_wr (fieldsOnly_of_csr hregs rfl) (by simp)⟩ <;> rw [← hd] <;> rfl

/-- R186, R188: what IMP holds when it has published a burst with the set `w`. -/
def ImpSt.published (qok : Nat) (w : ImpSet) (i : ImpSt) : ImpSt :=
  { i with qok := qok, pubStart := i.startF, pubBins := w.bins, pubSpace := w.space, tvAge := 0
           cur := [], buf := [], asks := [], bad := [], acked := [], ntc0 := [], ntc1 := [] }

/-- R183 to R191: a publication is one of every position, and then of the burst. -/
theorem burstPublish_eq (ops : Nat) {c : Core} (h : c.impState = 5) :
    ∃ (b : Core) (qok : Nat), c.PosPublished b ∧ burstPublish ops c =
      (showPublished c.imp.bnum c.imp.due { b with imp := b.imp.published qok c.imp.own }).when (c.on F.IMP_STAT.GOPEND) takeHeldGo :=
  ⟨_, _, forUp_induction (.refl c) fun _ _ _ hd => hd.trans (posPublished_posPublish _ _ _ _ _ _ _ _), if_pos h⟩

/-- R182, R186, R188: from `c` to `d` a burst has been published. -/
structure BurstPublished (c d : Core) : Prop where
  bnum : d.rd F.IMP_BNUM.BNUM = c.imp.bnum % 2 ^ 32
  done : d.rd F.IMP_CNT.DONE = min 65535 (c.rd F.IMP_CNT.DONE + 1)
  unheld : c.rd F.IMP_STAT.GOPEND = 0 → d.impState = b2n c.imp.due
  held : c.rd F.IMP_STAT.GOPEND ≠ 0 → d.impState = 1 ∧ d.imp.due = true
  start : d.imp.pubStart = c.imp.startF
  bins : d.imp.pubBins = c.imp.own.bins
  space : d.imp.pubSpace = c.imp.own.space
  age : d.imp.tvAge = 0
  event : 43 ∈ d.irq.cross

theorem burstPublish_shows (ops : Nat) {c : Core} (h : c.impState = 5) : BurstPublished c (burstPublish ops c) ∧ (burstPublish ops c).hif = c.hif := by
  obtain ⟨b, qok, hpos, heq⟩ := burstPublish_eq ops h
  have hstart : b.imp.startF = c.imp.startF := by rw [hpos.imp]
  have hcount : b.rd F.IMP_CNT.DONE = c.rd F.IMP_CNT.DONE := hpos.regs _ (by decide)
  rw [heq]
  generalize he : ({ b with imp := b.imp.published qok c.imp.own } : Core) = e
  obtain ⟨hbnum, hdone, hstate, hevent⟩ := showPublished_shows c.imp.bnum c.imp.due e
  have hnext : e.rd F.IMP_CNT.DONE = c.rd F.IMP_CNT.DONE := by rw [← he]; exact hcount
  rw [hnext] at hdone
  have himp : (showPublished c.imp.bnum c.imp.due e).imp = b.imp.published qok c.imp.own := by rw [← he]; rfl
  have hhif : (showPublished c.imp.bnum c.imp.due e).hif = c.hif := by rw [← hpos.hif, ← he]; rfl
  generalize showPublished c.imp.bnum c.imp.due e = d at *
  have hwhat : d.imp.pubStart = c.imp.startF ∧ d.imp.pubBins = c.imp.own.bins ∧ d.imp.pubSpace = c.imp.own.space ∧ d.imp.tvAge = 0 := by
    rw [himp]
    exact ⟨hstart, rfl, rfl, rfl⟩
  obtain ⟨hst, hbins, hspace, hage⟩ := hwhat
  by_cases hgo : c.rd F.IMP_STAT.GOPEND = 0
  · have hon : c.on F.IMP_STAT.GOPEND = false := by rw [Core.on_eq, hgo]; rfl
    rw [hon, Core.when_false]
    exact ⟨⟨hbnum, hdone, fun _ => hstate, fun hne => absurd hgo hne, hst, hbins, hspace, hage, hevent⟩, hhif⟩
  · have hon : c.on F.IMP_STAT.GOPEND = true := bne_iff_ne.mpr hgo
    obtain ⟨hone, hdue, hirq, hsame, hregs⟩ := takeHeldGo_shows d
    rw [hon, Core.when_true]
    exact ⟨⟨(hregs _ (by decide)).trans hbnum, (hregs _ (by decide)).trans hdone, fun h0 => absurd h0 hgo, fun _ => ⟨hone, by rw [hdue]⟩,
      (congrArg ImpSt.pubStart hdue).trans hst, (congrArg ImpSt.pubBins hdue).trans hbins, (congrArg ImpSt.pubSpace hdue).trans hspace,
      (congrArg ImpSt.tvAge hdue).trans hage, by rwa [hirq]⟩, hsame.trans hhif⟩

/-! ### The record of a burst goes to the STREAM rings -/

/-- R394: from `c` to `d` records have gone to STREAM rings, and no interrupt has been raised. -/
structure Core.Streamed (c d : Core) : Prop where
  rings : c.RingsOnly d
  irq : d.irq = c.irq

theorem Core.Streamed.refl (c : Core) : c.Streamed c := ⟨.refl c, rfl⟩

theorem Core.Streamed.trans {c d e : Core} (h : c.Streamed d) (g : d.Streamed e) : c.Streamed e := ⟨h.rings.trans g.rings, g.irq.trans h.irq⟩

theorem streamed_streamPush (r i typ len units : Nat) (body : List Nat) (q : NC) : q.2.Streamed (streamPush r i typ len units body q).2 :=
  ⟨.of_csr rfl rfl, rfl⟩

theorem streamed_pmeSend (fn : Nat) (c : Core) : c.Streamed (pmeSend fn c) := by
  refine ⟨ringsOnly_pmeSend fn c, ?_⟩
  unfold pmeSend
  split
  · rw [Core.send_irq]
  · rfl

/-- R394: the counter of dropped records of one of the 64 rings lies in HIF. -/
theorem rdrop_block {r : Nat} (hr : r < 64) : (F.HIF_RDROP.COUNT r).block ∈ ringBlocks := by
  have : (F.HIF_RDROP.COUNT r).block = F.HIF_STAT.ACCEPT.block := by
    simp only [Fld.block, Fld.key, F.HIF_RDROP.COUNT, F.HIF_STAT.ACCEPT]
    omega
  simp [ringBlocks, this]

/-- R394: a record that does not fit is counted. -/
theorem streamed_dropped {r : Nat} (hr : r < 64) (t : Tab Nat) (c : Core) :
    c.Streamed { c.cntSat (F.HIF_RDROP.COUNT r) with hif := { c.hif with sdrop := t } } :=
  ⟨(ringsOnly_wr c _ (rdrop_block hr)).trans (.of_csr rfl rfl), rfl⟩

theorem streamed_ite {p : Prop} [Decidable p] {c : Core} {q r : NC} (hq : c.Streamed q.2) (hr : c.Streamed r.2) : c.Streamed (if p then q else r).2 := by
  split <;> assumption

theorem streamed_streamRing {r : Nat} (hr : r < 64) (typ : Nat) (body : List Nat) (q : NC) : q.2.Streamed (streamRing r typ body q).2 := by
  unfold streamRing
  dsimp only
  refine streamed_ite (.refl q.2) (streamed_ite ?_ ?_)
  · exact (streamed_dropped hr _ q.2).trans (streamed_pmeSend _ _)
  · exact (streamed_ite (.refl q.2) (streamed_streamPush _ _ _ _ _ _ q)).trans (streamed_streamPush _ _ _ _ _ _ _)

theorem streamed_streamWrite (src : Nat) (body : List Nat) {q : NC} (h : ∀ b ∈ q.2.hif.bind, b.2 < 64) : q.2.Streamed (streamWrite src body q).2 :=
  List.foldlRecOn (motive := fun r : NC => q.2.Streamed r.2) _ _ (.refl q.2) fun _ hr b hb =>
    hr.trans (streamed_streamRing (h b (List.mem_filter.mp hb).1) src body _)

/-- R394: what a publication shows stays when its record is written. -/
theorem BurstPublished.streamed {c d e : Core} (h : BurstPublished c d) (g : d.Streamed e) : BurstPublished c e where
  bnum := (g.rings.rd (by decide)).trans h.bnum
  done := (g.rings.rd (by decide)).trans h.done
  unheld hgo := (g.rings.rd (by decide)).trans (h.unheld hgo)
  held hgo := ⟨(g.rings.rd (by decide)).trans (h.held hgo).1, by rw [g.rings.imp]; exact (h.held hgo).2⟩
  start := by rw [g.rings.imp]; exact h.start
  bins := by rw [g.rings.imp]; exact h.bins
  space := by rw [g.rings.imp]; exact h.space
  age := by rw [g.rings.imp]; exact h.age
  event := by rw [g.irq]; exact h.event

theorem burstPublish_ends {s : State} (hs : s.pwr.held = false) (hstate : s.core.impState = 5) (hbind : ∀ b ∈ s.core.hif.bind, b.2 < 64) :
    Ends .burstPublish s fun t => nvOnly s t ∧ BurstPublished s.core t.core := by
  obtain ⟨hpub, hhif⟩ := burstPublish_shows s.aon.ops hstate
  refine ends_onNv (fun a nv c => burstRecord a.ops (nv, c)) hs rfl ⟨rfl, ?_⟩
  dsimp only
  rw [burstRecord, if_pos hstate]
  exact hpub.streamed (streamed_streamWrite 2 _ (q := (s.nv, burstPublish s.aon.ops s.core)) (by rwa [hhif]))

theorem burstPublish_none_ends {s : State} (hs : s.pwr.held = false) (h : s.core.impState ≠ 5) : Ends .burstPublish s fun t => t = s :=
  ends_onNv (fun a nv c => burstRecord a.ops (nv, c)) hs rfl (by rw [burstRecord, if_neg h])

/-! ### The end of a temperature -/

/-- R188: a result whose temperature is no longer valid. -/
def ImpRes.expired (r : ImpRes) : ImpRes := { r with timp := none }

theorem expired_timp (t : Tab ImpRes) (k : Nat) : (Tab.get ({} : ImpRes) (t.map fun p => (p.1, p.2.expired)) k).timp = none := by
  induction t with
  | nil => rfl
  | cons p t ih =>
    rw [List.map_cons, Tab.get]
    split
    · rfl
    · exact ih

theorem timpExpire_ends {s : State} (hs : s.pwr.held = false) (h : 2 * profImp s.core.prof ≤ s.core.imp.tvAge) :
    Ends .timpExpire s fun t => coreOnly s t ∧ noRegister s.core t.core ∧ ∀ k, (Tab.get {} t.core.imp.res k).timp = none := by
  refine ends_onCore timpExpire hs rfl ⟨rfl, ?_⟩
  dsimp only
  rw [timpExpire, if_pos h]
  exact ⟨fun _ => rfl, expired_timp s.core.imp.res⟩

/-! ### The result window (R195) -/

/-- R195: magnitude and phase of the eight frequencies. -/
def showRatios (mag ph : Nat → Nat) (c : Core) : Core := forUp 8 (fun f c => (c.wr (F.IMP_RZ.MAG f) (mag f)).wr (F.IMP_RZ.PH f) (ph f)) c

theorem showRatios_imp (mag ph : Nat → Nat) (c : Core) : (showRatios mag ph c).imp = c.imp :=
  forUp_induction (P := fun d => d.imp = c.imp) rfl fun _ _ _ hd => hd

theorem blocksOnly_showRatios (mag ph : Nat → Nat) (c : Core) : blocksOnly [F.IMP_STAT.STATE.block] c (showRatios mag ph c) :=
  blocksOnly_forUp (fun f hf d => by
    have hblock : (F.IMP_RZ.MAG f).block = F.IMP_STAT.STATE.block ∧ (F.IMP_RZ.PH f).block = F.IMP_STAT.STATE.block := by
      simp only [Fld.block, Fld.key, F.IMP_RZ.MAG, F.IMP_RZ.PH, F.IMP_STAT.STATE]
      omega
    exact blocksOnly_wr (blocksOnly_wr (blocksOnly_refl _ d) (by simp [hblock])) (by simp [hblock])) c

/-- R195: the fields of the window before those of the frequencies stay. -/
theorem showRatios_rd (mag ph : Nat → Nat) (c : Core) {g : Fld} (h : g.key < (F.IMP_RZ.MAG 0).key) : (showRatios mag ph c).rd g = c.rd g :=
  forUp_induction (P := fun d => d.rd g = c.rd g) rfl fun f _ d hd => by
    have hne : g.key ≠ (F.IMP_RZ.PH f).key ∧ g.key ≠ (F.IMP_RZ.MAG f).key := by
      simp only [Fld.key, F.IMP_RZ.MAG, F.IMP_RZ.PH] at h ⊢
      omega
    rw [Core.rd_wr_ne _ _ hne.1, Core.rd_wr_ne _ _ hne.2, hd]

/-- R195: what the window shows of one position beside the frequencies. -/
def showSlot (p qok timp : Nat) (rvalid rcal xfail : Bool) (c : Core) : Core :=
  (((((c.wr F.IMP_RSEL.POS p).wr F.IMP_RQ.QOK qok).wr F.IMP_RT.TIMP timp).wrB F.IMP_RT.RVALID rvalid).wrB F.IMP_RT.RCAL rcal).wrB F.IMP_RT.XFAIL xfail

theorem showSlot_shows (p qok timp : Nat) (rvalid rcal xfail : Bool) (c : Core) :
    let d := showSlot p qok timp rvalid rcal xfail c
    d.imp = c.imp ∧ blocksOnly [F.IMP_STAT.STATE.block] c d ∧ d.rd F.IMP_RSEL.POS = p % 1024 ∧ d.rd F.IMP_RT.RVALID = b2n rvalid ∧
      d.rd F.IMP_RQ.QOK = qok % 256 := by
  refine ⟨rfl, ?_, ?_, ?_, ?_⟩
  · exact blocksOnly_wr (blocksOnly_wr (blocksOnly_wr (blocksOnly_wr (blocksOnly_wr (blocksOnly_wr (blocksOnly_refl _ c)
      (by decide)) (by decide)) (by decide)) (by decide)) (by decide)) (by decide)
  · simp only [showSlot, Core.wrB_eq]
    rw [Core.rd_wr_ne _ _ (by decide), Core.rd_wr_ne _ _ (by decide), Core.rd_wr_ne _ _ (by decide), Core.rd_wr_ne _ _ (by decide),
      Core.rd_wr_ne _ _ (by decide), Core.rd_wr_same]
    rfl
  · simp only [showSlot, Core.wrB_eq]
    rw [Core.rd_wr_ne _ _ (by decide), Core.rd_wr_ne _ _ (by decide), Core.rd_wr_same]
    cases rvalid <;> rfl
  · simp only [showSlot, Core.wrB_eq]
    rw [Core.rd_wr_ne _ _ (by decide), Core.rd_wr_ne _ _ (by decide), Core.rd_wr_ne _ _ (by decide), Core.rd_wr_ne _ _ (by decide), Core.rd_wr_same]
    rfl

/-- R195: `RVALID` of the position that the window shows, false beyond the last. -/
def Core.windowValid (c : Core) (p : Nat) : Bool := decide (p < c.slots.length) && (Tab.get {} c.imp.res (c.slots.getD p 0)).rvalid

/-- R195: `QOK` of the position that the window shows, 0 beyond the last. -/
def Core.windowQok (c : Core) (p : Nat) : Nat := if decide (p < c.slots.length) then c.imp.qok else 0

theorem impSelect_eq (p : Nat) (c : Core) : ∃ (timp : Nat) (rcal xfail : Bool) (mag ph : Nat → Nat),
    impSelect p c = showRatios mag ph (showSlot p (c.windowQok p) timp (c.windowValid p) rcal xfail c) := ⟨_, _, _, _, _, rfl⟩

theorem impResultSelect_ends {s : State} (p : Nat) (hs : s.pwr.held = false) :
    Ends (.impResultSelect p) s fun t => coreOnly s t ∧ blocksOnly [F.IMP_STAT.STATE.block] s.core t.core ∧ t.core.rd F.IMP_RSEL.POS = p % 1024 ∧
      t.core.imp = s.core.imp ∧ t.core.rd F.IMP_RT.RVALID = b2n (s.core.windowValid p) ∧ t.core.rd F.IMP_RQ.QOK = s.core.windowQok p % 256 := by
  obtain ⟨timp, rcal, xfail, mag, ph, heq⟩ := impSelect_eq p s.core
  obtain ⟨himp, hblocks, hpos, hvalid, hqok⟩ := showSlot_shows p (s.core.windowQok p) timp (s.core.windowValid p) rcal xfail s.core
  refine ends_onCore (impSelect p) hs rfl ⟨rfl, ?_⟩
  dsimp only
  rw [heq]
  exact ⟨blocksOnly_trans hblocks (blocksOnly_showRatios mag ph _), (showRatios_rd mag ph _ (by decide)).trans hpos, (showRatios_imp mag ph _).trans himp,
    (showRatios_rd mag ph _ (by decide)).trans hvalid, (showRatios_rd mag ph _ (by decide)).trans hqok⟩

/-- Settles O22: packets by what they show of their slot, a publication by its steps (the positions, the registers, a held GO, the record), and the
window by the fields it writes. -/
theorem burstResults : Obligations.BurstResults := by
  unfold Obligations.BurstResults
  intro s port node ch serial pos xs hs _ c st k asked via ours taken spent
  refine ⟨?bad, ?good, fun h => burstPacketReceived_refused_ends port ch serial hs h, ?published, fun h => burstPublish_none_ends hs h,
    fun h => timpExpire_ends hs h, fun h => ends_unchanged timpExpire hs rfl (if_neg (Nat.not_le_of_lt h)), ?window⟩
  case bad =>
    obtain ⟨t, hexec, hcore, hbad⟩ := burstPacketReceived_bad_ends port node ch serial xs hs
    exact ⟨t, hexec, hcore, hbad.counted, hbad.buf, hbad.rt, hbad.other, hbad.asks, hbad.spent⟩
  case good =>
    intro hours hnode htaken
    obtain ⟨t, hexec, hcore, hgood⟩ := burstPacketReceived_good_ends port ch serial hs hours hnode htaken
    obtain ⟨hbuf, hasks⟩ := keepPacket_same k xs c.imp
    refine ⟨t, hexec, hcore, ?_, fun hleft => ?_, fun i hi => ?_, hgood.ended, hgood.response, bne_iff_ne.mp hgood.reach, hgood.other,
      fun hreached => hgood.regs (bne_iff_ne.mpr hreached)⟩
    · rw [hgood.buf]
      exact hbuf
    · rw [hgood.asks]
      exact hasks hleft
    · rw [hgood.buf, hgood.asks]
      exact keepPacket_ne xs c.imp hi
  case published =>
    intro hstate hbind
    obtain ⟨t, hexec, hnv, hpub⟩ := burstPublish_ends hs hstate hbind
    exact ⟨t, hexec, hnv, hpub.bnum, hpub.done, hpub.unheld, hpub.held, hpub.start, hpub.bins, hpub.space, hpub.age, hpub.event⟩
  case window =>
    obtain ⟨t, hexec, hcore, hblocks, hsel, himp, hvalid, hqok⟩ := impResultSelect_ends pos hs
    refine ⟨t, hexec, hcore, hblocks, hsel, himp, fun hbeyond => ?_, fun hslot => ?_⟩
    · have hnot : ¬ pos < s.core.slots.length := Nat.not_lt_of_le hbeyond
      simp [hvalid, hqok, Core.windowValid, Core.windowQok, hnot, b2n]
    · have hin : pos < s.core.slots.length := hslot
      simp [hvalid, hqok, Core.windowValid, Core.windowQok, hin, c]

end Sys2Proof.Machine
end

section
/-! PROOF. O23: requests of rest slots and of gleaning cycles (R210, R216), their ends (R211, R217 to R219), and NOREST (R209). -/

namespace Sys2Proof.Machine

/-! ### A write and its event -/

/-- A field reads back what was written before an event. -/
theorem Core.rd_raise_wr_same (c : Core) (f : Fld) (v n src prim : Nat) : ((c.wr f v).raise n src prim).rd f = v % 2 ^ f.width :=
  Core.rd_wr_same c f v

theorem Core.rd_raise_wr_ne (c : Core) {f g : Fld} (v n src prim : Nat) (h : g.key ≠ f.key) : ((c.wr f v).raise n src prim).rd g = c.rd g :=
  Core.rd_wr_ne c v h

/-! ### Slots of the sheaf (R353, R355) -/

theorem slotAsk_est (kind : Nat) (c : Core) : (slotAsk kind c).est = c.est := by
  unfold slotAsk
  split <;> rfl

theorem slotRelease_est (c : Core) : (slotRelease c).est = c.est := by
  unfold slotRelease
  split
  · rfl
  · split <;> rfl

/-- R355: a module that does not show releasing requests at once. -/
theorem slotAsk_requests {kind : Nat} {c : Core} (h : c.rd F.SHF_STAT.SLOT ≠ 3) :
    (slotAsk kind c).rd F.SHF_STAT.SLOT = 1 ∧ (slotAsk kind c).rd F.SHF_STAT.SKIND = kind % 2 := by
  rw [slotAsk, if_neg h]
  refine ⟨?_, Core.rd_wr_same _ _ _⟩
  rw [Core.rd_wr_ne _ _ (by decide), Core.rd_wr_same]
  rfl

/-- R355: a slot that is held shows releasing; a request is withdrawn. -/
theorem slotRelease_releases (c : Core) :
    (c.rd F.SHF_STAT.SLOT = 2 → (slotRelease c).rd F.SHF_STAT.SLOT = 3) ∧ (c.rd F.SHF_STAT.SLOT = 1 → (slotRelease c).rd F.SHF_STAT.SLOT = 0) := by
  refine ⟨fun h => ?_, fun h => ?_⟩
  · rw [slotRelease, if_pos h, Core.rd_with_shf, Core.rd_wr_same]
    rfl
  · rw [slotRelease, if_neg (by omega), if_pos h, Core.rd_wr_same]
    rfl

/-! ### Requests that are passed on (R210, R216) -/

theorem passOn_est (c : Core) : (passOn c).est = c.est := by
  unfold passOn
  split
  · exact slotAsk_est _ _
  · split
    · split
      · rfl
      · exact slotAsk_est _ _
    · rfl

/-- What a request that is passed on may change in the registers of EST. -/
def passOnFlds : List Fld := [F.EST_REST_CTRL.REQ, F.EST_REST_CTRL.STATE, F.EST_GLN_CTRL.REQ, F.EST_GLN_CTRL.STATE, F.EST_GLN_CTRL.CAUSE]

theorem rd_passOn (c : Core) {f : Fld} (hblock : f.block ∉ [F.SHF_STAT.SLOT.block]) (hf : ∀ g ∈ passOnFlds, f.key ≠ g.key) : (passOn c).rd f = c.rd f := by
  have htwo : ∀ g ∈ passOnFlds, ∀ k ∈ passOnFlds, ∀ v w, ((c.wr g v).wr k w).rd f = c.rd f := fun g hg k hk v w =>
    (Core.rd_wr_ne _ _ (hf k hk)).trans (Core.rd_wr_ne _ _ (hf g hg))
  unfold passOn
  split
  · exact (rd_slotAsk _ _ hblock).trans (htwo _ (by simp [passOnFlds]) _ (by simp [passOnFlds]) _ _)
  · split
    · split
      · exact htwo _ (by simp [passOnFlds]) _ (by simp [passOnFlds]) _ _
      · exact (rd_slotAsk _ _ hblock).trans (htwo _ (by simp [passOnFlds]) _ (by simp [passOnFlds]) _ _)
    · rfl

/-! ### Requests -/

/-- R210: a rest slot is refused during a gleaning cycle. -/
theorem restReq_refused_shows {c : Core} (hgl : c.rd F.EST_GLN_CTRL.STATE ≠ 0) :
    blocksOnly slotBlks c (restReq c) ∧ (restReq c).rd F.EST_REST_CTRL.RESULT = 3 ∧ (restReq c).rd F.EST_REST_CTRL.REQ = 0 := by
  rw [restReq_gleaning hgl]
  refine ⟨blocksOnly_wr (blocksOnly_wr (blocksOnly_refl _ c) (by decide)) (by decide), Core.rd_wr_same _ _ _, ?_⟩
  rw [Core.rd_wr_ne _ _ (by decide), Core.rd_wr_same]
  rfl

/-- R210: a request during a rest slot is held. -/
theorem restReq_held_shows {c : Core} (hgl : c.rd F.EST_GLN_CTRL.STATE = 0) (hrs : c.rd F.EST_REST_CTRL.STATE ≠ 0) :
    blocksOnly slotBlks c (restReq c) ∧ (restReq c).rd F.EST_REST_CTRL.REQ = 1 ∧ (restReq c).rd F.EST_REST_CTRL.STATE = c.rd F.EST_REST_CTRL.STATE := by
  rw [restReq_running hgl hrs]
  exact ⟨blocksOnly_wr (blocksOnly_refl _ c) (by decide), Core.rd_wr_same _ _ _, Core.rd_wr_ne _ _ (by decide)⟩

/-- A slot is asked for: SHF requests it, unless the module shows releasing. -/
theorem slotRequest_slot {c : Core} {req state : Fld} (kind : Nat) (hreq : req.block = F.EST_STAT.EOD.block) (hstate : state.block = F.EST_STAT.EOD.block)
    (h : c.rd F.SHF_STAT.SLOT ≠ 3) : let d := (slotAsk kind ((c.wr req 0).wr state 1)).raise 54 0 1
    d.rd F.SHF_STAT.SLOT = 1 ∧ d.rd F.SHF_STAT.SKIND = kind % 2 := by
  have hne : ∀ f : Fld, f.block = F.EST_STAT.EOD.block → F.SHF_STAT.SLOT.key ≠ f.key := fun f hf => key_ne_of_block (by rw [hf]; decide)
  exact slotAsk_requests (by rwa [Core.rd_wr_ne _ _ (hne state hstate), Core.rd_wr_ne _ _ (hne req hreq)])

theorem restReq_asks {c : Core} (hgl : c.rd F.EST_GLN_CTRL.STATE = 0) (hrs : c.rd F.EST_REST_CTRL.STATE = 0) :
    blocksOnly slotBlks c (restReq c) ∧ (restReq c).rd F.EST_REST_CTRL.STATE = 1 ∧
      (c.rd F.SHF_STAT.SLOT ≠ 3 → (restReq c).rd F.SHF_STAT.SLOT = 1 ∧ (restReq c).rd F.SHF_STAT.SKIND = 0) := by
  rw [restReq_idle hgl hrs]
  obtain ⟨hblocks, -, hstate⟩ := slotRequest (c := c) (req := F.EST_REST_CTRL.REQ) (state := F.EST_REST_CTRL.STATE) 0 rfl rfl (by decide) (by decide)
  exact ⟨hblocks, hstate, slotRequest_slot 0 rfl rfl⟩

/-- R216: a gleaning cycle is refused while some position has no first estimate. -/
theorem gleanReq_refused_shows {c : Core} (hfirst : c.on F.EST_STAT.FIRSTPEND = true) (hgl : c.rd F.EST_GLN_CTRL.STATE = 0) :
    blocksOnly slotBlks c (gleanReq c) ∧ (gleanReq c).rd F.EST_GLN_CTRL.CAUSE = 10 ∧ (gleanReq c).rd F.EST_GLN_CTRL.REQ = 0 := by
  have heq : gleanReq c = (c.wr F.EST_GLN_CTRL.REQ 0).wr F.EST_GLN_CTRL.CAUSE 10 := by simp [gleanReq, hfirst, hgl]
  rw [heq]
  refine ⟨blocksOnly_wr (blocksOnly_wr (blocksOnly_refl _ c) (by decide)) (by decide), Core.rd_wr_same _ _ _, ?_⟩
  rw [Core.rd_wr_ne _ _ (by decide), Core.rd_wr_same]
  rfl

/-- R216: a request during a slot or a cycle is held. -/
theorem gleanReq_held_shows {c : Core} (h : c.rd F.EST_GLN_CTRL.STATE ≠ 0 ∨ c.on F.EST_STAT.FIRSTPEND = false ∧ c.rd F.EST_REST_CTRL.STATE ≠ 0) :
    blocksOnly slotBlks c (gleanReq c) ∧ (gleanReq c).rd F.EST_GLN_CTRL.REQ = 1 ∧ (gleanReq c).rd F.EST_GLN_CTRL.STATE = c.rd F.EST_GLN_CTRL.STATE := by
  have heq : gleanReq c = c.wr F.EST_GLN_CTRL.REQ 1 := by
    rcases h with hgl | ⟨hfirst, hrs⟩
    · exact gleanReq_running hgl
    · simp [gleanReq, hfirst, hrs]
  rw [heq]
  exact ⟨blocksOnly_wr (blocksOnly_refl _ c) (by decide), Core.rd_wr_same _ _ _, Core.rd_wr_ne _ _ (by decide)⟩

theorem gleanReq_asks {c : Core} (hfirst : c.on F.EST_STAT.FIRSTPEND = false) (hgl : c.rd F.EST_GLN_CTRL.STATE = 0) (hrs : c.rd F.EST_REST_CTRL.STATE = 0) :
    blocksOnly slotBlks c (gleanReq c) ∧ (gleanReq c).rd F.EST_GLN_CTRL.STATE = 1 ∧
      (c.rd F.SHF_STAT.SLOT ≠ 3 → (gleanReq c).rd F.SHF_STAT.SLOT = 1 ∧ (gleanReq c).rd F.SHF_STAT.SKIND = 1) := by
  rw [gleanReq_idle hgl hrs hfirst]
  obtain ⟨hblocks, -, hstate⟩ := slotRequest (c := c) (req := F.EST_GLN_CTRL.REQ) (state := F.EST_GLN_CTRL.STATE) 1 rfl rfl (by decide) (by decide)
  exact ⟨hblocks, hstate, slotRequest_slot 1 rfl rfl⟩

/-! ### ABORT (R219) -/

theorem gleanReleased_shows (cause : Nat) (c : Core) :
    let d := gleanReleased cause c
    blocksOnly slotBlks c d ∧ d.rd F.EST_GLN_CTRL.STATE = 0 ∧ d.rd F.EST_GLN_CTRL.CAUSE = cause % 16 ∧ d.est.tgt = none ∧
      (c.rd F.SHF_STAT.SLOT = 2 → d.rd F.SHF_STAT.SLOT = 3) ∧ (c.rd F.SHF_STAT.SLOT = 1 → d.rd F.SHF_STAT.SLOT = 0) := by
  intro d
  let c0 : Core := { c with est := { c.est with tgt := none, glnCount := false, glnEnd := false } }
  have hslot : d.rd F.SHF_STAT.SLOT = (slotRelease c0).rd F.SHF_STAT.SLOT :=
    (Core.rd_wr_ne _ _ (by decide)).trans (Core.rd_wr_ne _ _ (by decide))
  have hest : d.est = c0.est := slotRelease_est c0
  rw [hslot, hest]
  refine ⟨blocksOnly_gleanReleased cause c, ?_, Core.rd_wr_same _ _ _, rfl, slotRelease_releases c0⟩
  exact (Core.rd_wr_ne _ _ (by decide)).trans (Core.rd_wr_same _ _ _)

/-! ### The end of a rest slot (R211) -/

/-- R211: position `k` takes the anchor of the rest slot that ends. -/
def Core.takesAnchor (c : Core) (k : Nat) : Prop :=
  (c.acc k).slotOk = true ∧ 0 < (c.acc k).midN ∧ 0 < (c.acc k).endN ∧ (c.ctx k).firstpend = false

/-- R201, R211: from `c` to `d` positions have taken anchors, which wait for the epoch boundary; nothing else differs. -/
structure Core.AnchorsPend (c d : Core) : Prop where
  same : d = { c with est := { c.est with acc := d.est.acc } }
  takes : ∀ k, d.takesAnchor k ↔ c.takesAnchor k
  kept : ∀ k, (c.acc k).pend ≠ none → (d.acc k).pend ≠ none

theorem Core.AnchorsPend.refl (c : Core) : c.AnchorsPend c := ⟨rfl, fun _ => .rfl, fun _ => id⟩

theorem Core.AnchorsPend.trans {c d e : Core} (h : c.AnchorsPend d) (g : d.AnchorsPend e) : c.AnchorsPend e :=
  ⟨g.same.trans (by rw [h.same]), fun k => (g.takes k).trans (h.takes k), fun k hk => g.kept k (h.kept k hk)⟩

theorem Core.acc_setAcc (c : Core) (k j : Nat) (a : PosAcc) : (c.setAcc k a).acc j = if j = k then a else c.acc j := Tab.get_put _ _ _ _ _

theorem anchorsPend_setAcc (c : Core) (k : Nat) (p : Nat × Nat) : c.AnchorsPend (c.setAcc k { c.acc k with pend := some p }) where
  same := rfl
  takes j := by
    have hctx : (c.setAcc k { c.acc k with pend := some p }).ctx j = c.ctx j := rfl
    rw [Core.takesAnchor, Core.takesAnchor, Core.acc_setAcc, hctx]
    split
    · next hj => rw [hj]
    · rfl
  kept j hj := by
    rw [Core.acc_setAcc]
    split
    · simp
    · exact hj

/-- R201, R211: a position that takes its anchor. -/
theorem restSlotAnchor_of_takes (tb : List Nat) {k : Nat} {r : Core × Bool} (h : r.1.takesAnchor k) :
    ∃ p, restSlotAnchor tb k r = (r.1.setAcc k { r.1.acc k with pend := some p }, true) := by
  obtain ⟨hslot, hmid, hend, hfirst⟩ := h
  exact ⟨_, if_pos (by simp [hslot, hmid, hend, hfirst])⟩

theorem restSlotAnchor_of_not_takes (tb : List Nat) {k : Nat} {r : Core × Bool} (h : ¬ r.1.takesAnchor k) : restSlotAnchor tb k r = r := by
  refine if_neg fun hb => h ?_
  simp only [Bool.and_eq_true, decide_eq_true_eq, Bool.not_eq_true'] at hb
  obtain ⟨⟨⟨hslot, hmid⟩, hend⟩, hfirst⟩ := hb
  exact ⟨hslot, hmid, hend, hfirst⟩

/-- R211: one position at the end of a rest slot. -/
theorem restSlotAnchor_shows (tb : List Nat) (k : Nat) (r : Core × Bool) :
    let q := restSlotAnchor tb k r
    r.1.AnchorsPend q.1 ∧ (r.1.takesAnchor k → (q.1.acc k).pend ≠ none) ∧ (q.2 = true ↔ r.2 = true ∨ r.1.takesAnchor k) := by
  intro q
  by_cases h : r.1.takesAnchor k
  · obtain ⟨p, hq⟩ : ∃ p, q = _ := restSlotAnchor_of_takes tb h
    rw [hq]
    refine ⟨anchorsPend_setAcc r.1 k p, fun _ => ?_, by simp [h]⟩
    rw [Core.acc_setAcc, if_pos rfl]
    simp
  · have hq : q = r := restSlotAnchor_of_not_takes tb h
    rw [hq]
    exact ⟨.refl r.1, fun hk => absurd hk h, by simp [h]⟩

/-- R211: the positions of a list at the end of a rest slot. -/
theorem foldl_restSlotAnchor_shows (tb ks : List Nat) (r : Core × Bool) :
    let q := ks.foldl (fun r k => restSlotAnchor tb k r) r
    r.1.AnchorsPend q.1 ∧ (∀ k ∈ ks, r.1.takesAnchor k → (q.1.acc k).pend ≠ none) ∧ (q.2 = true ↔ r.2 = true ∨ ∃ k ∈ ks, r.1.takesAnchor k) := by
  induction ks generalizing r with
  | nil => exact ⟨.refl r.1, by simp, by simp⟩
  | cons k ks ih =>
    obtain ⟨hone, hpend, htook⟩ := restSlotAnchor_shows tb k r
    obtain ⟨hrest, hpends, htooks⟩ := ih (restSlotAnchor tb k r)
    refine ⟨hone.trans hrest, fun j hj hjt => ?_, ?_⟩
    · rcases List.mem_cons.mp hj with rfl | hjs
      · exact hrest.kept j (hpend hjt)
      · exact hpends j hjs ((hone.takes j).mpr hjt)
    · rw [List.foldl_cons, htooks, htook]
      simp [hone.takes, or_assoc]

/-- R211: the rest slot has ended with a result and is released; a request that is held has not been passed on. -/
def restReleased (result : Nat) (c : Core) : Core :=
  (slotRelease ((({ c with est := { c.est with tgt := none } } : Core).wr F.EST_REST_CTRL.STATE 0).wr F.EST_REST_CTRL.RESULT result)).raise 54 0 result

theorem restEarly_running {c : Core} (result : Nat) (hrs : c.rd F.EST_REST_CTRL.STATE = 2) : restEarly result c = passOn (restReleased result c) := if_pos hrs

theorem rd_restReleased (result : Nat) (c : Core) {f : Fld} (hblock : f.block ∉ [F.SHF_STAT.SLOT.block])
    (hstate : f.key ≠ F.EST_REST_CTRL.STATE.key) (hresult : f.key ≠ F.EST_REST_CTRL.RESULT.key) : (restReleased result c).rd f = c.rd f := by
  rw [restReleased, Core.rd_raise, rd_slotRelease _ hblock, Core.rd_wr_ne _ _ hresult, Core.rd_wr_ne _ _ hstate, Core.rd_with_est]

theorem restReleased_shows (result : Nat) (c : Core) :
    let d := restReleased result c
    blocksOnly slotBlks c d ∧ d.rd F.EST_REST_CTRL.STATE = 0 ∧ d.rd F.EST_REST_CTRL.RESULT = result % 8 ∧ d.est = { c.est with tgt := none } ∧
      (c.rd F.SHF_STAT.SLOT = 2 → d.rd F.SHF_STAT.SLOT = 3) := by
  intro d
  let c0 : Core := (({ c with est := { c.est with tgt := none } } : Core).wr F.EST_REST_CTRL.STATE 0).wr F.EST_REST_CTRL.RESULT result
  have hwrites : blocksOnly slotBlks c c0 := blocksOnly_wr (blocksOnly_wr (blocksOnly_csr rfl) (by decide)) (by decide)
  refine ⟨?_, ?_, ?_, slotRelease_est c0, ?_⟩
  · exact blocksOnly_raise (blocksOnly_trans hwrites (blocksOnly_mono (blocksOnly_slotRelease c0) (by decide)))
  · exact (rd_slotRelease c0 (by decide)).trans ((Core.rd_wr_ne _ _ (by decide)).trans (Core.rd_wr_same _ _ _))
  · exact (rd_slotRelease c0 (by decide)).trans (Core.rd_wr_same _ _ _)
  · intro hslot
    exact (slotRelease_releases c0).1 ((Core.rd_wr_ne _ _ (by decide)).trans ((Core.rd_wr_ne _ _ (by decide)).trans hslot))

/-- R211: from `c` to `d` a rest slot has ended with a result. -/
structure Core.RestEnds (result : Nat) (c d : Core) : Prop where
  regs : blocksOnly slotBlks c d
  result : d.rd F.EST_REST_CTRL.RESULT = result % 8
  count : d.rd F.EST_REST_CTRL.COUNT = c.rd F.EST_REST_CTRL.COUNT
  est : d.est = { c.est with tgt := none }
  free : c.on F.EST_REST_CTRL.REQ = false ∧ c.on F.EST_GLN_CTRL.REQ = false →
    d.rd F.EST_REST_CTRL.STATE = 0 ∧ (c.rd F.SHF_STAT.SLOT = 2 → d.rd F.SHF_STAT.SLOT = 3)

theorem Core.RestEnds.pos {result : Nat} {c d : Core} (h : c.RestEnds result d) : d.est.pos = c.est.pos := by rw [h.est]

theorem Core.RestEnds.acc {result : Nat} {c d : Core} (h : c.RestEnds result d) : d.est.acc = c.est.acc := by rw [h.est]

theorem Core.RestEnds.tgt {result : Nat} {c d : Core} (h : c.RestEnds result d) : d.est.tgt = none := by rw [h.est]

theorem restEarly_ends {c : Core} (result : Nat) (hrs : c.rd F.EST_REST_CTRL.STATE = 2) : c.RestEnds result (restEarly result c) := by
  rw [restEarly_running result hrs]
  obtain ⟨hregs, hstate, hresult, hest, hslot⟩ := restReleased_shows result c
  refine ⟨blocksOnly_trans hregs (estOnly_passOn _).regs, ?_, ?_, (passOn_est _).trans hest, ?_⟩
  · exact (rd_passOn _ (by decide) (by decide)).trans hresult
  · exact (rd_passOn _ (by decide) (by decide)).trans (rd_restReleased result c (by decide) (by decide) (by decide))
  · rintro ⟨hrest, hgln⟩
    rw [passOn_of_none]
    · exact ⟨hstate, hslot⟩
    · rwa [Core.on_eq, rd_restReleased result c (by decide) (by decide) (by decide)]
    · rwa [Core.on_eq, rd_restReleased result c (by decide) (by decide) (by decide)]

/-- R211: some position takes the anchor of the rest slot that ends. -/
def Core.anchored (c : Core) : Prop := c.est.slotCur = false ∧ c.est.ocv ≠ none ∧ ∃ k ∈ c.slots, c.takesAnchor k

/-- R211: the anchors are taken, the slot counts, and it ends with `RESULT` 1. -/
theorem restSlotEnd_anchored {c : Core} (hrs : c.rd F.EST_REST_CTRL.STATE = 2) (hlen : c.restLen ≤ c.est.slotClk) (h : c.anchored) :
    ∃ d, c.AnchorsPend d ∧ (∀ k ∈ c.slots, c.takesAnchor k → (d.acc k).pend ≠ none) ∧ restSlotEnd c = restEarly 1 (d.cntSat F.EST_REST_CTRL.COUNT) := by
  obtain ⟨hcur, hocv, hsome⟩ := h
  obtain ⟨tb, htb⟩ := Option.ne_none_iff_exists'.mp hocv
  obtain ⟨hpend, hall, htook⟩ := foldl_restSlotAnchor_shows tb c.slots (c, false)
  refine ⟨_, hpend, hall, ?_⟩
  simp only [restSlotEnd, hrs, hlen, hcur, htb, decide_true, Bool.and_self, if_true, Bool.false_eq_true, if_false]
  exact if_pos (htook.mpr (.inr hsome))

/-- R211: no anchor is taken: `RESULT` is 2 when current flowed, and 0 otherwise (notes/assumptions/54). -/
theorem restSlotEnd_not_anchored {c : Core} (hrs : c.rd F.EST_REST_CTRL.STATE = 2) (hlen : c.restLen ≤ c.est.slotClk) (h : ¬ c.anchored) :
    restSlotEnd c = restEarly (if c.est.slotCur = true then 2 else 0) c := by
  simp only [restSlotEnd, hrs, hlen, decide_true, Bool.and_self, if_true]
  split
  · rfl
  · next hcur =>
    split
    · rfl
    · next tb htb =>
      obtain ⟨-, -, htook⟩ := foldl_restSlotAnchor_shows tb c.slots (c, false)
      refine if_neg fun ht => h ⟨by simpa using hcur, by simp [htb], ?_⟩
      simpa using htook.mp ht

/-- R201, R211: the rest slot ends with anchors, which wait for the epoch boundary with the estimates as they were. -/
theorem restSlotEnd_anchored_shows {c : Core} (hrs : c.rd F.EST_REST_CTRL.STATE = 2) (hlen : c.restLen ≤ c.est.slotClk) (h : c.anchored) :
    let d := restSlotEnd c
    blocksOnly slotBlks c d ∧ d.rd F.EST_REST_CTRL.RESULT = 1 ∧ d.rd F.EST_REST_CTRL.COUNT = min 65535 (c.rd F.EST_REST_CTRL.COUNT + 1) ∧
      (∀ k ∈ c.slots, c.takesAnchor k → (d.acc k).pend ≠ none) ∧ d.est.pos = c.est.pos ∧ d.est.tgt = none ∧
      (c.on F.EST_REST_CTRL.REQ = false ∧ c.on F.EST_GLN_CTRL.REQ = false →
        d.rd F.EST_REST_CTRL.STATE = 0 ∧ (c.rd F.SHF_STAT.SLOT = 2 → d.rd F.SHF_STAT.SLOT = 3)) := by
  intro d
  obtain ⟨a, hpend, hall, heq⟩ := restSlotEnd_anchored hrs hlen h
  have hcsr : a.csr = c.csr := by rw [hpend.same]
  have hrd : ∀ f : Fld, f.key ≠ F.EST_REST_CTRL.COUNT.key → (a.cntSat F.EST_REST_CTRL.COUNT).rd f = c.rd f := fun f hf =>
    (Core.rd_wr_ne _ _ hf).trans (noRegister_of_csr hcsr f)
  have hend := restEarly_ends (c := a.cntSat F.EST_REST_CTRL.COUNT) 1 ((hrd _ (by decide)).trans hrs)
  rw [← heq] at hend
  refine ⟨?_, hend.result, ?_, fun k hk ht => ?_, ?_, hend.tgt, fun hfree => ?_⟩
  · exact blocksOnly_trans (blocksOnly_cntSat (blocksOnly_csr hcsr) (by decide)) hend.regs
  · rw [hend.count, rd_cntSat_same, noRegister_of_csr hcsr]
    rfl
  · show (Tab.get {} d.est.acc k).pend ≠ none
    rw [hend.acc]
    exact hall k hk ht
  · rw [hend.pos, Core.cntSat_eq, Core.wr_est, hpend.same]
  · rw [← hrd F.SHF_STAT.SLOT (by decide)]
    exact hend.free (by rwa [Core.on_eq, Core.on_eq, hrd _ (by decide), hrd _ (by decide)])

theorem restSlotEnd_none {c : Core} (h : c.rd F.EST_REST_CTRL.STATE ≠ 2 ∨ c.est.slotClk < c.restLen) : restSlotEnd c = c := by
  refine if_neg fun hb => ?_
  simp only [Bool.and_eq_true, decide_eq_true_eq] at hb
  omega

/-! ### Learning (R218) -/

/-- From `c` to `d` EST has learned: no register differs, and the progress of the cycle stays. -/
structure Core.Learns (c d : Core) : Prop where
  csr : d.csr = c.csr
  glnEnd : d.est.glnEnd = c.est.glnEnd

theorem learns_learnPos (qm : Int) (i k : Nat) (c : Core) : c.Learns (learnPos qm i k c) := by
  unfold learnPos
  dsimp only
  split
  · exact ⟨rfl, rfl⟩
  · rw [Core.when]
    split <;> exact ⟨rfl, rfl⟩

theorem saveTrigger_csr (cause : Nat) (c : Core) : (saveTrigger cause c).csr = c.csr := by
  unfold saveTrigger
  split <;> rfl

theorem saveTrigger_glnEnd (cause : Nat) (c : Core) : (saveTrigger cause c).est.glnEnd = c.est.glnEnd := by
  unfold saveTrigger
  split <;> rfl

/-- R218: what EST learns at the end of rest bottom shows as LEARNED and counts. -/
theorem gleanLearn_eq (c : Core) : ∃ d, c.Learns d ∧
    gleanLearn c = saveTrigger 3 (((d.wr F.EST_STAT.LEARNED 1).cntSat F.EST_GLN_CTRL.COUNT).raise 51 0 1) := by
  refine ⟨_, ?_, rfl⟩
  have hpos : c.Learns (forUp c.slots.length (fun i d => learnPos c.est.glnNet i (c.slots.getD i 0) d) c) :=
    forUp_induction (P := c.Learns) ⟨rfl, rfl⟩ fun i _ d hd =>
      have h := learns_learnPos c.est.glnNet i (c.slots.getD i 0) d
      ⟨h.csr.trans hd.csr, h.glnEnd.trans hd.glnEnd⟩
  rw [Core.when]
  split <;> exact ⟨hpos.csr, hpos.glnEnd⟩

theorem gleanLearn_shows (c : Core) :
    let d := gleanLearn c
    fieldsOnly [F.EST_STAT.LEARNED, F.EST_GLN_CTRL.COUNT] c d ∧ d.rd F.EST_STAT.LEARNED = 1 ∧
      d.rd F.EST_GLN_CTRL.COUNT = min 65535 (c.rd F.EST_GLN_CTRL.COUNT + 1) ∧ d.est.glnEnd = c.est.glnEnd := by
  intro d
  obtain ⟨a, hlearns, heq⟩ := gleanLearn_eq c
  let b := (a.wr F.EST_STAT.LEARNED 1).cntSat F.EST_GLN_CTRL.COUNT
  have hcsr : d.csr = b.csr := (congrArg Core.csr heq).trans (saveTrigger_csr _ _)
  have hrd : ∀ f, d.rd f = b.rd f := noRegister_of_csr hcsr
  refine ⟨?_, ?_, ?_, ?_⟩
  · refine fieldsOnly_of_csr (d := b) ?_ hcsr
    exact fieldsOnly_cntSat (fieldsOnly_wr (fieldsOnly_csr hlearns.csr) (by simp)) (by simp)
  · rw [hrd]
    exact (Core.rd_wr_ne _ _ (by decide)).trans (Core.rd_wr_same _ _ _)
  · rw [hrd, rd_cntSat_same, Core.rd_wr_ne _ _ (by decide), noRegister_of_csr hlearns.csr]
    rfl
  · show (gleanLearn c).est.glnEnd = _
    rw [heq, saveTrigger_glnEnd]
    exact hlearns.glnEnd

/-! ### The end of a gleaning rest (R216, R218) -/

/-- R216: TREST has passed: the rest waits for the epoch boundary (notes/assumptions/22). -/
theorem gleanRestEnd_due {c : Core} (hgl : c.rd F.EST_GLN_CTRL.STATE = 3 ∨ c.rd F.EST_GLN_CTRL.STATE = 5) (hrest : c.trest ≤ c.est.glnClk) :
    gleanRestEnd c = { c with est := { c.est with glnEnd := true } } := if_pos ⟨hgl, hrest⟩

theorem gleanRestEnd_none {c : Core} (h : c.est.glnClk < c.trest ∨ c.rd F.EST_GLN_CTRL.STATE ≠ 3 ∧ c.rd F.EST_GLN_CTRL.STATE ≠ 5) :
    gleanRestEnd c = c := by
  refine if_neg ?_
  rintro ⟨hgl, hrest⟩
  omega

/-- R216, R218: what EST is at the end of rest top: the discharge at IDIS begins with the overrun accumulators at 0. -/
def Core.dischargeEst (c : Core) : EstSt :=
  { c.est with
    glnEnd := false, tgt := some (-(1000 * (c.rd F.EST_GLN_CFG.IDIS : Int))), glnClk := 0, glnRet := 0, str := { c.est.str with ovr := 0 }
    pos := c.est.pos.map fun p => (p.1, { p.2 with ovr := 0 })
    acc := c.slots.foldl (fun t k => Tab.upd {} t k fun a => { a with xTop := (c.ctx k).x.toNat }) c.est.acc }

theorem gleanNext_top {c : Core} (hend : c.est.glnEnd = true) (hgl : c.rd F.EST_GLN_CTRL.STATE = 3) :
    gleanNext c = (({ c with est := c.dischargeEst } : Core).wr F.EST_GLN_CTRL.STATE 4).raise 54 0 4 := by
  simp only [gleanNext, hend, Core.rd_with_est, hgl]
  rfl

/-- R216: the recharge begins at the current ICHG. -/
def rechargeStarts (ichg : Nat) (c : Core) : Core :=
  (({ c with est := { c.est with tgt := some (1000 * (ichg : Int)), glnClk := 0 } } : Core).wr F.EST_GLN_CTRL.STATE 6).raise 54 0 6

theorem gleanNext_bottom {c : Core} (hend : c.est.glnEnd = true) (hgl : c.rd F.EST_GLN_CTRL.STATE = 5) :
    gleanNext c = rechargeStarts (c.rd F.EST_GLN_CFG.ICHG) (gleanLearn { c with est := { c.est with glnEnd := false } }) := by
  simp only [gleanNext, hend, Core.rd_with_est, hgl]
  rfl

theorem ovr_get_map_zero (t : Tab Ctx) (k : Nat) : (Tab.get ({} : Ctx) (t.map fun p => (p.1, { p.2 with ovr := 0 })) k).ovr = 0 := by
  induction t with
  | nil => rfl
  | cons p t ih =>
    rw [List.map_cons, Tab.get]
    split
    · rfl
    · exact ih

theorem gleanNext_top_shows {c : Core} (hend : c.est.glnEnd = true) (hgl : c.rd F.EST_GLN_CTRL.STATE = 3) :
    let d := gleanNext c
    d.est.glnEnd = false ∧ blocksOnly [F.EST_STAT.EOD.block] c d ∧ d.rd F.EST_GLN_CTRL.STATE = 4 ∧
      d.est.tgt = some (-(1000 * (c.rd F.EST_GLN_CFG.IDIS : Int))) ∧ d.est.str.ovr = 0 ∧ (∀ k, (d.ctx k).ovr = 0) ∧ d.est.glnClk = 0 := by
  intro d
  have hd : d = _ := gleanNext_top hend hgl
  rw [hd]
  exact ⟨rfl, blocksOnly_raise (blocksOnly_wr (blocksOnly_csr rfl) (by decide)), Core.rd_raise_wr_same _ _ _ _ _ _, rfl, rfl, ovr_get_map_zero c.est.pos, rfl⟩

theorem gleanNext_bottom_shows {c : Core} (hend : c.est.glnEnd = true) (hgl : c.rd F.EST_GLN_CTRL.STATE = 5) :
    let d := gleanNext c
    d.est.glnEnd = false ∧ blocksOnly [F.EST_STAT.EOD.block] c d ∧ d.rd F.EST_GLN_CTRL.STATE = 6 ∧
      d.est.tgt = some (1000 * (c.rd F.EST_GLN_CFG.ICHG : Int)) ∧ d.rd F.EST_STAT.LEARNED = 1 ∧
      d.rd F.EST_GLN_CTRL.COUNT = min 65535 (c.rd F.EST_GLN_CTRL.COUNT + 1) := by
  intro d
  have hd : d = _ := gleanNext_bottom hend hgl
  obtain ⟨hfields, hlearned, hcount, hglnEnd⟩ := gleanLearn_shows { c with est := { c.est with glnEnd := false } }
  have hlearn : blocksOnly [F.EST_STAT.EOD.block] c (gleanLearn { c with est := { c.est with glnEnd := false } }) :=
    blocksOnly_trans (blocksOnly_csr rfl) (blocksOnly_of_fieldsOnly hfields (by decide))
  rw [hd]
  generalize gleanLearn { c with est := { c.est with glnEnd := false } } = a at hlearned hcount hglnEnd hlearn ⊢
  refine ⟨hglnEnd, ?_, Core.rd_raise_wr_same _ _ _ _ _ _, rfl, ?_, ?_⟩
  · exact blocksOnly_raise (blocksOnly_wr (blocksOnly_of_csr hlearn rfl) (by decide))
  · exact (Core.rd_raise_wr_ne _ _ _ _ _ (by decide)).trans hlearned
  · exact (Core.rd_raise_wr_ne _ _ _ _ _ (by decide)).trans hcount

/-! ### NOREST (R209) -/

theorem Core.noRest_reaches_iff (c : Core) (ops : Nat) : 259200 ≤ c.noRest ops / 1000 ↔ 259200 ≤ ((ops : Int) - c.est.restBase) / 1000 := by
  unfold Core.noRest
  omega

theorem noRestSet_due {ops : Nat} {c : Core} (ht : 259200 ≤ ((ops : Int) - c.est.restBase) / 1000) (hset : c.rd F.EST_STAT.NOREST = 0) :
    fieldsOnly [F.EST_NORESTT.T, F.EST_STAT.NOREST] c (noRestSet ops c) ∧ (noRestSet ops c).rd F.EST_STAT.NOREST = 1 := by
  have heq : noRestSet ops c = ((c.wr F.EST_NORESTT.T (c.noRest ops / 1000)).wr F.EST_STAT.NOREST 1).raise 53 0 1 :=
    if_pos (by simp [(c.noRest_reaches_iff ops).mpr ht, Core.on_eq, hset])
  rw [heq]
  exact ⟨fieldsOnly_raise (fieldsOnly_wr (fieldsOnly_wr (fieldsOnly_refl _ c) (by simp)) (by simp)), Core.rd_raise_wr_same _ _ _ _ _ _⟩

theorem noRestSet_none {ops : Nat} {c : Core} (h : ((ops : Int) - c.est.restBase) / 1000 < 259200 ∨ c.rd F.EST_STAT.NOREST ≠ 0) : noRestSet ops c = c := by
  refine if_neg fun hb => ?_
  rw [Bool.and_eq_true, decide_eq_true_eq, Core.noRest_reaches_iff, Bool.not_eq_true', Core.on_eq, bne_eq_false_iff_eq] at hb
  omega

/-- R209: a command that looks at TB_OPS. -/
theorem ends_onCoreA {i : Instr} {s : State} {P : State → Prop} (f : AonSt → PwrSt → Core → Core) (hs : s.pwr.held = false)
    (he : exec i s = .next (onCoreA f s)) (h : P { s with core := f s.aon s.pwr s.core }) : Ends i s P :=
  ⟨_, he.trans (congrArg _ (onCoreA_run f hs)), h⟩

/-! ### The commands -/

theorem endsThen_unchanged {i : Instr} {s : State} (f : Core → Core) (hs : s.pwr.held = false) (he : exec i s = .next (hifSettle (onCore f s)))
    (h : f s.core = s.core) : EndsThen i s fun u => u = s :=
  endsThen_onCore f hs he (congrArg (fun c => ({ s with core := c } : State)) h)

/-- Settles O23: requests by what they show, the end of a rest slot by whether a position anchors, and the end of a gleaning rest by the two
rests that it ends. -/
theorem estimationRequests : Obligations.EstimationRequests := by
  unfold Obligations.EstimationRequests
  intro s hs c gl rs frame asks takes anchored free
  refine ⟨?restRefused, ?restHeld, ?restAsks, ?gleanRefused, ?gleanHeld, ?gleanAsks, ?abort, fun hgl => endsThen_unchanged gleanAbort hs rfl (if_pos hgl),
    ?restEnd, fun h => endsThen_unchanged restSlotEnd hs rfl (restSlotEnd_none h), ?gleanEnd,
    fun h => endsThen_unchanged gleanRestEnd hs rfl (gleanRestEnd_none h), ?norest,
    fun h => ends_onCoreA (fun a _ => noRestSet a.ops) hs rfl (congrArg (fun c => ({ s with core := c } : State)) (noRestSet_none h))⟩
  case restRefused =>
    intro hgl
    obtain ⟨hregs, hshows⟩ := restReq_refused_shows hgl
    exact ends_onCore restReq hs rfl ⟨⟨rfl, hregs⟩, hshows⟩
  case restHeld =>
    intro hgl hrs
    obtain ⟨hregs, hshows⟩ := restReq_held_shows hgl hrs
    exact ends_onCore restReq hs rfl ⟨⟨rfl, hregs⟩, hshows⟩
  case restAsks =>
    intro hgl hrs
    obtain ⟨hregs, hshows⟩ := restReq_asks hgl hrs
    exact ends_onCore restReq hs rfl ⟨⟨rfl, hregs⟩, hshows⟩
  case gleanRefused =>
    intro hfirst hgl
    obtain ⟨hregs, hshows⟩ := gleanReq_refused_shows hfirst hgl
    exact endsThen_onCore gleanReq hs rfl ⟨⟨rfl, hregs⟩, hshows⟩
  case gleanHeld =>
    intro h
    obtain ⟨hregs, hshows⟩ := gleanReq_held_shows h
    exact endsThen_onCore gleanReq hs rfl ⟨⟨rfl, hregs⟩, hshows⟩
  case gleanAsks =>
    intro hfirst hgl hrs
    obtain ⟨hregs, hshows⟩ := gleanReq_asks hfirst hgl hrs
    exact endsThen_onCore gleanReq hs rfl ⟨⟨rfl, hregs⟩, hshows⟩
  case abort =>
    intro hgl hfree
    obtain ⟨hrest, hgln⟩ := hfree
    obtain ⟨hregs, hshows⟩ := gleanReleased_shows 1 s.core
    refine endsThen_onCore gleanAbort hs rfl ?_
    rw [gleanAbort_running hgl hrest hgln]
    exact ⟨⟨rfl, hregs⟩, hshows⟩
  case restEnd =>
    intro hrs hlen
    refine endsThen_onCore restSlotEnd hs rfl ?_
    by_cases h : s.core.anchored
    · obtain ⟨hregs, hresult, hcount, hpend, hpos, htgt, hfree⟩ := restSlotEnd_anchored_shows hrs hlen h
      exact ⟨⟨rfl, hregs⟩, fun _ => ⟨hresult, hcount, hpend⟩, fun hnot => absurd h hnot, hpos, htgt, hfree⟩
    · have hend := restEarly_ends (if s.core.est.slotCur = true then 2 else 0) hrs
      rw [← restSlotEnd_not_anchored hrs hlen h] at hend
      have hresult : (if s.core.est.slotCur = true then 2 else 0) % 8 = if s.core.est.slotCur = true then 2 else 0 := by split <;> rfl
      exact ⟨⟨rfl, hend.regs⟩, fun hyes => absurd hyes h, fun _ => ⟨hend.result.trans hresult, hend.count, hend.acc⟩, hend.pos, hend.tgt, hend.free⟩
  case gleanEnd =>
    intro hgl hrest
    refine endsThen_onCore gleanRestEnd hs rfl ?_
    rw [gleanRestEnd_due hgl hrest]
    refine ⟨rfl, fun _ => rfl, rfl, ?_⟩
    rcases hgl with htop | hbottom
    · obtain ⟨hend, hregs, hshows⟩ := gleanNext_top_shows (c := { s.core with est := { s.core.est with glnEnd := true } }) rfl htop
      exact ⟨hend, hregs, fun _ => hshows, fun h5 => by simp [h5] at htop⟩
    · obtain ⟨hend, hregs, hshows⟩ := gleanNext_bottom_shows (c := { s.core with est := { s.core.est with glnEnd := true } }) rfl hbottom
      exact ⟨hend, hregs, fun h3 => by simp [h3] at hbottom, fun _ => hshows⟩
  case norest =>
    intro ht hset
    obtain ⟨hfields, hon⟩ := noRestSet_due ht hset
    exact ends_onCoreA (fun a _ => noRestSet a.ops) hs rfl ⟨rfl, hfields, hon⟩

end Sys2Proof.Machine
end

section
/-! PROOF. O24: saves of the learned values (R223, R225) and the position window (R228). The one clause that is not settled is
that of a negative `EST_PR.R`, which the model takes from a free value (notes/assumptions/3). -/

namespace Sys2Proof.Machine

/-! ### Triggers (R223) -/

/-- R223: the contexts are established and no save is in progress. -/
def EstSt.idle (e : EstSt) : Prop := e.estab = true ∧ e.saving = none

theorem not_idle_iff (e : EstSt) : (!e.estab || e.saving.isSome) = true ↔ ¬ e.idle := by
  unfold EstSt.idle
  cases e.estab <;> cases e.saving <;> simp

theorem saveTrigger_idle {cause : Nat} {c : Core} (h : c.est.idle) : saveTrigger cause c = { c with est := { c.est with saving := some cause } } :=
  if_neg fun hb => (not_idle_iff _).mp hb h

theorem saveTrigger_merged {cause : Nat} {c : Core} (h : ¬ c.est.idle) : saveTrigger cause c = { c with est := { c.est with again := some cause } } :=
  if_pos ((not_idle_iff _).mpr h)

/-- R223: from EST as `e` to EST as `e'` a save has been triggered: it has started, or is merged. -/
def EstSt.Triggers (cause : Nat) (e e' : EstSt) : Prop :=
  (e.idle → e'.saving = some cause) ∧ (¬ e.idle → e'.saving = e.saving ∧ e'.again = some cause)

theorem saveTrigger_triggers (cause : Nat) (c : Core) : c.est.Triggers cause (saveTrigger cause c).est :=
  ⟨fun h => by rw [saveTrigger_idle h], fun h => by rw [saveTrigger_merged h]; exact ⟨rfl, rfl⟩⟩

theorem saveTrigger_nowAgain (cause : Nat) (c : Core) : (saveTrigger cause c).est.nowAgain = c.est.nowAgain := by
  unfold saveTrigger
  split <;> rfl

theorem saveTrigger_sinceSave (cause : Nat) (c : Core) : (saveTrigger cause c).est.sinceSave = c.est.sinceSave := by
  unfold saveTrigger
  split <;> rfl

/-- R223, R225: NOW. -/
theorem saveNow_shows (c : Core) :
    fieldsOnly [F.EST_SAVE_PERIOD.NOW] c (saveNow c) ∧ (saveNow c).rd F.EST_SAVE_PERIOD.NOW = 1 ∧ c.est.Triggers 6 (saveNow c).est ∧
      ((saveNow c).est.nowAgain = true ↔ c.est.nowAgain = true ∨ ¬ c.est.idle) := by
  let c0 : Core := { c with est := { c.est with nowAgain := c.est.nowAgain || (!c.est.estab || c.est.saving.isSome) } }
  have heq : saveNow c = saveTrigger 6 (c0.wr F.EST_SAVE_PERIOD.NOW 1) := rfl
  have hcsr : (saveNow c).csr = (c0.wr F.EST_SAVE_PERIOD.NOW 1).csr := saveTrigger_csr 6 _
  refine ⟨?_, ?_, saveTrigger_triggers 6 (c0.wr F.EST_SAVE_PERIOD.NOW 1), ?_⟩
  · exact fieldsOnly_of_csr (fieldsOnly_wr (fieldsOnly_csr (d := c0) rfl) (by simp)) hcsr
  · exact (noRegister_of_csr hcsr _).trans (Core.rd_wr_same _ _ _)
  · rw [heq, saveTrigger_nowAgain, ← not_idle_iff, ← Bool.or_eq_true]
    rfl

theorem periodicSave_due {c : Core} (h : 0 < c.rd F.EST_SAVE_PERIOD.MIN ∧ c.rd F.EST_SAVE_PERIOD.MIN * 60 * 500000000 ≤ c.est.sinceSave) :
    noRegister c (periodicSave c) ∧ c.est.Triggers 0 (periodicSave c).est ∧ (periodicSave c).est.sinceSave = 0 := by
  let c0 : Core := { c with est := { c.est with sinceSave := 0 } }
  have heq : periodicSave c = saveTrigger 0 c0 := if_pos (by
    simp only [Bool.and_eq_true, decide_eq_true_eq]
    exact h)
  rw [heq]
  exact ⟨noRegister_of_csr (saveTrigger_csr 0 c0), saveTrigger_triggers 0 c0, saveTrigger_sinceSave 0 c0⟩

theorem periodicSave_none {c : Core} (h : ¬ (0 < c.rd F.EST_SAVE_PERIOD.MIN ∧ c.rd F.EST_SAVE_PERIOD.MIN * 60 * 500000000 ≤ c.est.sinceSave)) :
    periodicSave c = c := if_neg (by
  simp only [Bool.and_eq_true, decide_eq_true_eq]
  exact h)

/-! ### Completion (R223) -/

/-- R223: the sequence number of the next copy. -/
def NvSt.nextSeq (nv : NvSt) : Nat := max (if nv.est0.good then nv.est0.seq else 0) (if nv.est1.good then nv.est1.seq else 0) + 1

/-- R223: the non-volatile memories with a new copy in the place of the older one. -/
def NvSt.withCopy (nv : NvSt) (cp : EstCopy) : NvSt := if newerIs0 nv then { nv with est1 := cp } else { nv with est0 := cp }

/-- R223: what a completed save shows in the registers. -/
def saveShown (seq cause : Nat) (c : Core) : Core :=
  (((c.wr F.EST_SAVE_STAT.SEQ seq).wr F.EST_SAVE_STAT.CAUSE cause).wrB F.EST_SAVE_PERIOD.NOW c.est.nowAgain).raise 52 0 cause

theorem saveShown_shows (seq cause : Nat) (c : Core) :
    let d := saveShown seq cause c
    fieldsOnly [F.EST_SAVE_STAT.SEQ, F.EST_SAVE_STAT.CAUSE, F.EST_SAVE_PERIOD.NOW] c d ∧ d.rd F.EST_SAVE_STAT.SEQ = seq % 65536 ∧
      d.rd F.EST_SAVE_STAT.CAUSE = cause % 8 ∧ d.rd F.EST_SAVE_PERIOD.NOW = b2n c.est.nowAgain := by
  refine ⟨?_, ?_, ?_, ?_⟩
  · exact fieldsOnly_raise (fieldsOnly_wr (fieldsOnly_wr (fieldsOnly_wr (fieldsOnly_refl _ c) (by simp)) (by simp)) (by simp))
  · exact (Core.rd_raise_wr_ne _ _ _ _ _ (by decide)).trans ((Core.rd_wr_ne _ _ (by decide)).trans (Core.rd_wr_same _ _ _))
  · exact (Core.rd_raise_wr_ne _ _ _ _ _ (by decide)).trans (Core.rd_wr_same _ _ _)
  · refine (Core.rd_raise_wr_same _ _ _ _ _ _).trans ?_
    cases c.est.nowAgain <;> rfl

/-- R223: the save in progress completes in the older copy, and a merged one starts. -/
theorem saveComplete_running {a : AonSt} {nv : NvSt} {c : Core} {cause : Nat} (h : c.est.saving = some cause) :
    saveComplete a nv c = (nv.withCopy (c.learnedCopy nv.nextSeq),
      { saveShown nv.nextSeq cause c with est := { c.est with saving := c.est.again, again := none, nowAgain := false, sinceSave := 0 } }) := by
  unfold saveComplete
  rw [h]
  rfl

theorem saveComplete_none {a : AonSt} {nv : NvSt} {c : Core} (h : c.est.saving = none) : saveComplete a nv c = (nv, c) := by
  unfold saveComplete
  rw [h]

theorem endsThen_onNv {i : Instr} {s : State} {P : State → Prop} (f : AonSt → NvSt → Core → NC) (hs : s.pwr.held = false)
    (he : exec i s = .next (hifSettle (onNv f s))) (h : P { s with nv := (f s.aon s.nv s.core).1, core := (f s.aon s.nv s.core).2 }) : EndsThen i s P :=
  ⟨_, he.trans (by rw [onNv_run f hs]), h⟩

/-! ### The position window (R228) -/

/-- R228: the window shows a position. -/
def Core.windowShows (c : Core) (p : Nat) : Bool := c.est.seen && decide (p < c.slots.length)

theorem estSelect_shows (p : Nat) (c : Core) :
    let d := estSelect p c
    let k := c.slots.getD p 0
    let shown := fun n => if c.windowShows p then n else 0
    d.rd F.EST_PSEL.POS = p % 1024 ∧ d.rd F.EST_PSEL.WVALID = b2n (c.windowShows p) % 2 ∧
      d.rd F.EST_PCAP.CAP = shown (Tab.get {} c.est.shown k).q % 2 ^ 32 ∧
      d.rd F.EST_PR.R = shown (natOr 17 (Tab.get (0, 0, false) c.est.shownR k).1) % 2 ^ 32 ∧
      d.rd F.EST_PFLAG.LOST = shown (b2n (Tab.get (0, 0, false) c.est.shownR k).2.2) % 2 := by
  refine ⟨?_, ?_, ?_, ?_, ?_⟩ <;> simp (disch := decide) only [estSelect, Core.wrB_eq, Core.rd_wr_ne, Core.rd_wr_same] <;> rfl

theorem blocksOnly_estSelect (p : Nat) (c : Core) : blocksOnly [F.EST_STAT.EOD.block] c (estSelect p c) := by
  unfold estSelect
  extract_lets k ok x r z c1 c2 c3 c4 c5
  have h1 : blocksOnly [F.EST_STAT.EOD.block] c c1 :=
    blocksOnly_wr (blocksOnly_wrB (blocksOnly_wr (blocksOnly_refl _ c) (by decide)) (by decide)) (by decide)
  have h2 : blocksOnly [F.EST_STAT.EOD.block] c c2 :=
    blocksOnly_wr (blocksOnly_wr (blocksOnly_wr (blocksOnly_wr h1 (by decide)) (by decide)) (by decide)) (by decide)
  have h3 : blocksOnly [F.EST_STAT.EOD.block] c c3 :=
    blocksOnly_wr (blocksOnly_wr (blocksOnly_wr (blocksOnly_wr h2 (by decide)) (by decide)) (by decide)) (by decide)
  have h4 : blocksOnly [F.EST_STAT.EOD.block] c c4 :=
    blocksOnly_wr (blocksOnly_wr (blocksOnly_wr (blocksOnly_wr h3 (by decide)) (by decide)) (by decide)) (by decide)
  have h5 : blocksOnly [F.EST_STAT.EOD.block] c c5 :=
    blocksOnly_wr (blocksOnly_wr (blocksOnly_wr (blocksOnly_wr h4 (by decide)) (by decide)) (by decide)) (by decide)
  exact blocksOnly_wr h5 (by decide)

/-! ### The clause of a negative R (R204, R228) -/

/-- With the free values `free`, what the model shows for a negative `EST_PR.R`, of which the spec states nothing, is the register's two's
complement. -/
def NegativeRWraps (free : Nat → Nat → Int) : Prop := ∀ n : Nat, 0 < n → (((free 17 n).toNat % 2 ^ 32 : Nat) : Int) = -(n : Int) % 2 ^ 32

/-- Some free values make a negative `EST_PR.R` two's complement. -/
theorem negativeRWraps_of_wrapping : NegativeRWraps fun _ n => -(n : Int) % 2 ^ 32 := fun n _ => by
  dsimp only
  omega

/-- Other free values do not: with 0, the register of an R of -1 would read 0. -/
theorem not_negativeRWraps_of_zero : ¬ NegativeRWraps fun _ _ => 0 := fun h => absurd (h 1 (by decide)) (by decide)

theorem natOr_neg {n : Nat} (site : Nat) (hn : 0 < n) : natOr site (-(n : Int)) = (Config.freeInt site n).toNat := by
  rw [natOr, if_pos (by omega), Int.natAbs_neg, Int.natAbs_natCast]

theorem natOr_wraps (h : NegativeRWraps Config.freeInt) (v : Int) : ((natOr 17 v % 2 ^ 32 : Nat) : Int) = v % 2 ^ 32 := by
  by_cases hneg : v < 0
  · obtain ⟨n, rfl⟩ : ∃ n : Nat, v = -(n : Int) := ⟨v.natAbs, by omega⟩
    rw [natOr_neg 17 (by omega), h n (by omega)]
  · rw [natOr, if_neg hneg]
    omega

/-- A window over the positions of one node, the first of which has `v` as its R. -/
def windowState (v : Int) : State :=
  { State.reset with core := { State.reset.core with
      chn := { State.reset.core.chn with total := 1 }
      est := { State.reset.core.est with seen := true, shownR := [(0, v, 0, false)] } } }

theorem windowState_slots (v : Int) : 0 < (windowState v).core.slots.length ∧ (windowState v).core.slots.getD 0 0 = 0 := by
  have hslots : (windowState v).core.slots = (windowState 0).core.slots := rfl
  rw [hslots]
  decide

/-- R228: the window over `windowState` shows its R through `natOr`. -/
theorem windowState_shows {v : Int} {t : State} (h : exec (.estPositionSelect 0) (windowState v) = .next t) :
    t.core.rd F.EST_PR.R = natOr 17 v % 2 ^ 32 := by
  have ht : onCore (estSelect 0) (windowState v) = t := Host.Outcome.next.inj h
  obtain ⟨hlen, hfirst⟩ := windowState_slots v
  have hwindow : (windowState v).core.windowShows 0 = true := by rw [Core.windowShows, decide_eq_true hlen]; rfl
  obtain ⟨-, -, -, hr, -⟩ := estSelect_shows 0 (windowState v).core
  rw [← ht, onCore_run _ rfl, hr, hwindow, hfirst]
  rfl

/-- Not a settlement of O24, but the reason that there is none: every clause holds but that of `EST_PR.R`, which for a negative value asks for
two's complement, where the model takes a free value (notes/assumptions/3). Free values that fit the clause exist, and free values that do not
(`negativeRWraps_of_wrapping`, `not_negativeRWraps_of_zero`); `Config.freeInt` is opaque, so nothing says which it is. -/
theorem estimationSaves_iff : Obligations.EstimationSaves ↔ NegativeRWraps Config.freeInt := by
  unfold Obligations.EstimationSaves
  refine ⟨fun h n hn => ?_, fun hwraps s pos hs => ?_⟩
  · obtain ⟨-, -, -, -, -, t, hexec, -, -, -, -, -, hslot⟩ := h (windowState (-n)) 0 rfl
    obtain ⟨hlen, hfirst⟩ := windowState_slots (-n)
    obtain ⟨-, hr, -⟩ := hslot rfl hlen
    rw [windowState_shows hexec, natOr_neg 17 hn, hfirst] at hr
    exact hr
  · refine ⟨ends_onCore saveNow hs rfl ⟨rfl, saveNow_shows s.core⟩, fun h => ends_onCore periodicSave hs rfl ⟨rfl, periodicSave_due h⟩,
      fun h => ends_unchanged periodicSave hs rfl (periodicSave_none h), ?complete, ?none, ?window⟩
    case complete =>
      intro cause hcause
      refine endsThen_onNv saveComplete hs rfl ?_
      rw [saveComplete_running hcause]
      obtain ⟨hfields, hseq, hshown, hnow⟩ := saveShown_shows s.nv.nextSeq cause s.core
      exact ⟨rfl, rfl, hfields, hseq, hshown, hnow, rfl, rfl, rfl⟩
    case none =>
      intro hnone
      refine endsThen_onNv saveComplete hs rfl ?_
      rw [saveComplete_none hnone]
    case window =>
      obtain ⟨hpos, hvalid, hcap, hr, hlost⟩ := estSelect_shows pos s.core
      refine ends_onCore (estSelect pos) hs rfl ⟨rfl, blocksOnly_estSelect pos s.core, hpos, rfl, ?_, fun hseen hslot => ?_⟩
      · rw [hvalid]
        show _ = b2n (s.core.windowShows pos)
        cases s.core.windowShows pos <;> rfl
      · have hwindow : s.core.windowShows pos = true := by simpa [Core.windowShows, hseen] using hslot
        simp only [hwindow, if_true] at hcap hr hlost
        refine ⟨hcap, ?_, ?_⟩
        · rw [hr]
          exact natOr_wraps hwraps _
        · rw [hlost]
          generalize (Tab.get (0, 0, false) s.core.est.shownR (s.core.slots.getD pos 0)).2.2 = lost
          cases lost <;> rfl

end Sys2Proof.Machine
end

section
/-! PROOF. O11: the timed transitions of CNV (R243 to R256) at the boundary at which they fall due (R53). -/

namespace Sys2Proof.Machine

/-- The block of CNV. -/
def cnvBlks : List Nat := [F.CNV_STAT.STATE.block]

/-! ### The boundary of a transition (R53) -/

/-- R242, R246, R249: what a boundary shows anew of CNV behind a transition. -/
def boundaryFlds : List Fld := [F.CNV_STAT.BLOCK, F.CNV_STAT.REFSRC, F.CNV_CLIM_C.CLIM, F.CNV_CLIM_D.CLIM]

/-- R242, R246, R249, R256: from `c` to `d` a boundary has gone by, which ends no burst sleep and turns no gate on in it. -/
structure Core.Refreshed (c d : Core) : Prop where
  regs : fieldsOnly boundaryFlds c d
  sleep : d.cnv.sleep = c.cnv.sleep
  legs : c.cnv.sleep = true → c.cnv.legs = [] → d.cnv.legs = []

theorem Core.Refreshed.refl (c : Core) : c.Refreshed c := ⟨fieldsOnly_refl _ c, rfl, fun _ h => h⟩

theorem Core.Refreshed.trans {c d e : Core} (h : c.Refreshed d) (g : d.Refreshed e) : c.Refreshed e :=
  ⟨fieldsOnly_trans h.regs g.regs, g.sleep.trans h.sleep, fun hs hl => g.legs (h.sleep.trans hs) (h.legs hs hl)⟩

theorem refreshed_showBlock (c : Core) : c.Refreshed (showBlock c) := ⟨fieldsOnly_wr (fieldsOnly_refl _ c) (by simp [boundaryFlds]), rfl, fun _ h => h⟩

theorem refreshed_refSource (c : Core) : c.Refreshed (refSource c) := by
  unfold refSource
  extract_lets w
  split
  · exact .refl c
  · exact ⟨fieldsOnly_wr (fieldsOnly_csr rfl) (by simp [boundaryFlds]), rfl, fun _ h => h⟩

theorem refreshed_bounds (c : Core) : c.Refreshed (bounds c) :=
  ⟨fieldsOnly_wr (fieldsOnly_wr (fieldsOnly_csr rfl) (by simp [boundaryFlds])) (by simp [boundaryFlds]), rfl, fun _ h => h⟩

/-- R256: in burst sleep no gate is on. -/
theorem gateOutputs_legs_of_sleep {c : Core} (h : c.cnv.sleep = true) : (gateOutputs c).cnv.legs = [] := by
  simp [gateOutputs, Core.phaseOn, Core.gatesOn, h]

theorem refreshed_pwmLoad (c : Core) : c.Refreshed (pwmLoad c) := ⟨fieldsOnly_csr rfl, rfl, fun h _ => gateOutputs_legs_of_sleep h⟩

theorem latchPorts_csr (c : Core) : (latchPorts c).csr = c.csr := by rw [latchPorts]

theorem latchPorts_cnv (c : Core) : (latchPorts c).cnv = c.cnv := by rw [latchPorts]

theorem refreshed_latchPorts (c : Core) : c.Refreshed (latchPorts c) where
  regs := fieldsOnly_csr (latchPorts_csr c)
  sleep := congrArg CnvSt.sleep (latchPorts_cnv c)
  legs _ h := (congrArg CnvSt.legs (latchPorts_cnv c)).trans h

/-- Behind the transition the boundary goes by. -/
theorem refreshed_atBoundary (f : Core → Core) (c : Core) : (f c).Refreshed (atBoundary f c) := by
  unfold atBoundary
  dsimp only
  split
  · exact .refl _
  · exact (refreshed_showBlock _).trans <| (refreshed_refSource _).trans <| (refreshed_bounds _).trans <| (refreshed_pwmLoad _).trans (refreshed_latchPorts _)

theorem Core.Refreshed.blocksOnly {c d : Core} (h : c.Refreshed d) : blocksOnly cnvBlks c d := blocksOnly_of_fieldsOnly h.regs (by decide)

theorem Core.Refreshed.cnvState {c d : Core} (h : c.Refreshed d) : d.cnvState = c.cnvState := h.regs _ (by decide)

theorem Core.Refreshed.fcause {c d : Core} (h : c.Refreshed d) : d.rd F.CNV_STAT.FCAUSE = c.rd F.CNV_STAT.FCAUSE := h.regs _ (by decide)

theorem Core.Refreshed.nact {c d : Core} (h : c.Refreshed d) : d.rd F.CNV_STAT.NACT = c.rd F.CNV_STAT.NACT := h.regs _ (by decide)

theorem Core.Refreshed.stopto {c d : Core} (h : c.Refreshed d) : d.rd F.CNV_STAT.STOPTO = c.rd F.CNV_STAT.STOPTO := h.regs _ (by decide)

theorem atBoundary_unchanged {f : Core → Core} {c : Core} (h : f c = c) : atBoundary f c = c := by
  simp [atBoundary, h]

/-- The command `i` moves CNV from `s` to a state of which `P` holds when `guard` does, and changes nothing else. -/
def Timed (i : Instr) (s : State) (guard : Prop) (P : Core → Prop) : Prop :=
  (guard → Ends i s fun t => coreOnly s t ∧ blocksOnly cnvBlks s.core t.core ∧ P t.core) ∧ (¬ guard → Ends i s fun t => t = s)

/-- A transition `f` with its guard: what it changes when it is due, `g`, lies in CNV, and the boundary behind it keeps `P`. -/
theorem timed_atBoundary {i : Instr} {s : State} {guard : Prop} [Decidable guard] {P : Core → Prop} {f : Core → Core} {d : Core} (hs : s.pwr.held = false)
    (he : exec i s = .next (onCore (atBoundary f) s)) (hf : f s.core = if guard then d else s.core)
    (hregs : guard → blocksOnly cnvBlks s.core d) (hP : guard → ∀ e, d.Refreshed e → P e) : Timed i s guard P := by
  constructor
  · intro hdue
    have hd : d.Refreshed (atBoundary f s.core) := by
      have hrefreshed := refreshed_atBoundary f s.core
      rwa [hf, if_pos hdue] at hrefreshed
    exact ends_onCore (atBoundary f) hs he ⟨rfl, blocksOnly_trans (hregs hdue) hd.blocksOnly, hP hdue _ hd⟩
  · intro hnot
    exact ends_unchanged (atBoundary f) hs he (atBoundary_unchanged (hf.trans (if_neg hnot)))

/-! ### Phases (R235, R252) -/

/-- R235: the count of active phases, their marks and their angles. -/
def phaseFlds : List Fld := F.CNV_STAT.NACT :: (upTo 6).flatMap fun k => [F.CNV_PH_ANG.ACT k, F.CNV_PH_ANG.ANG k]

theorem mem_phaseFlds {k : Nat} (h : k < 6) : F.CNV_PH_ANG.ACT k ∈ phaseFlds ∧ F.CNV_PH_ANG.ANG k ∈ phaseFlds := by
  simp only [phaseFlds, List.mem_cons, List.mem_flatMap]
  exact ⟨.inr ⟨k, List.mem_range.mpr h, by simp⟩, .inr ⟨k, List.mem_range.mpr h, by simp⟩⟩

theorem fieldsOnly_setPhases (ks : List Nat) (angles : Bool) (c : Core) : fieldsOnly phaseFlds c (setPhases ks angles c) := by
  have hmarks : ∀ d, fieldsOnly phaseFlds c d → ∀ k < 6, fieldsOnly phaseFlds c (d.wrB (F.CNV_PH_ANG.ACT k) (ks.contains k)) :=
    fun d hd k hk => fieldsOnly_wr hd (mem_phaseFlds hk).1
  unfold setPhases
  extract_lets was new c1 c2
  have h1 : fieldsOnly phaseFlds c c1 := forUp_induction (fieldsOnly_refl _ c) fun k hk d hd => hmarks d hd k hk
  have h2 : fieldsOnly phaseFlds c c2 := by
    unfold c2
    split
    · refine forUp_induction h1 fun k hk d hd => ?_
      split
      · exact fieldsOnly_wr hd (mem_phaseFlds hk).2
      · exact hd
    · exact h1
  exact fieldsOnly_wr (fieldsOnly_of_csr h2 rfl) (by simp [phaseFlds])

theorem blocksOnly_setPhases (ks : List Nat) (angles : Bool) (c : Core) : blocksOnly cnvBlks c (setPhases ks angles c) :=
  blocksOnly_of_fieldsOnly (fieldsOnly_setPhases ks angles c) (by decide)

theorem setPhases_nact (ks : List Nat) (angles : Bool) (c : Core) : (setPhases ks angles c).rd F.CNV_STAT.NACT = ks.length % 8 := Core.rd_wr_same _ _ _

theorem blocksOnly_allPhases (c : Core) : blocksOnly cnvBlks c (allPhases c) :=
  blocksOnly_trans (blocksOnly_csr rfl) (blocksOnly_setPhases _ true _)

/-! ### Entering a state (R240) -/

/-- R240: what CNV shows of a state that it enters. -/
def enterFlds : List Fld := F.CNV_STAT.STATE :: F.CNV_STAT.FCAUSE :: phaseFlds

/-- R240, R241: CNV shows a state and its cause; in OFF and in FAULT no phase is active. -/
theorem cnvEnter_shows (st fc : Nat) (c : Core) :
    let d := cnvEnter st fc c
    fieldsOnly enterFlds c d ∧ d.cnvState = st % 8 ∧ d.rd F.CNV_STAT.FCAUSE = fc % 8 ∧ (st = 0 ∨ st = 7 → d.rd F.CNV_STAT.NACT = 0) ∧
      (¬ (st = 0 ∨ st = 7) → d.cnv = { c.cnv with age := 0 }) := by
  let c1 : Core := (({ c with cnv := { c.cnv with age := 0 } } : Core).wr F.CNV_STAT.STATE st).wr F.CNV_STAT.FCAUSE fc
  have h1 : fieldsOnly enterFlds c c1 := fieldsOnly_wr (fieldsOnly_wr (fieldsOnly_csr rfl) (by simp [enterFlds])) (by simp [enterFlds])
  have hst : c1.rd F.CNV_STAT.STATE = st % 8 := (Core.rd_wr_ne _ _ (by decide)).trans (Core.rd_wr_same _ _ _)
  have hfc : c1.rd F.CNV_STAT.FCAUSE = fc % 8 := Core.rd_wr_same _ _ _
  by_cases hoff : st = 0 ∨ st = 7
  · let c2 : Core := { c1 with cnv := { c1.cnv with sched := [], legs := [], sleep := false, dwell := 0, bdwell := 0, todo := 0, shed := none, shedSet := [] } }
    have heq : cnvEnter st fc c = (setPhases [] false c2).raise 56 0 (st + 16 * fc) := congrArg (fun d : Core => d.raise 56 0 (st + 16 * fc)) (if_pos hoff)
    have hphases := fieldsOnly_setPhases [] false c2
    rw [heq]
    refine ⟨fieldsOnly_raise (fieldsOnly_trans (fieldsOnly_of_csr h1 rfl) (fieldsOnly_mono hphases (by simp +contextual [enterFlds]))), ?_, ?_,
      fun _ => setPhases_nact [] false c2, fun h => absurd hoff h⟩
    · exact (hphases F.CNV_STAT.STATE (by decide)).trans hst
    · exact (hphases F.CNV_STAT.FCAUSE (by decide)).trans hfc
  · have heq : cnvEnter st fc c = c1.raise 56 0 (st + 16 * fc) := congrArg (fun d : Core => d.raise 56 0 (st + 16 * fc)) (if_neg hoff)
    rw [heq]
    exact ⟨fieldsOnly_raise h1, hst, hfc, fun h => absurd h hoff, fun _ => rfl⟩

/-- R240: from `c` to `d` CNV has entered a state, with a cause, and nothing outside CNV shows it. -/
structure Core.Enters (st fc : Nat) (c d : Core) : Prop where
  regs : blocksOnly cnvBlks c d
  state : d.cnvState = st
  fcause : d.rd F.CNV_STAT.FCAUSE = fc

theorem enters_cnvEnter {st fc : Nat} {c d : Core} (hst : st < 8) (hfc : fc < 8) (h : blocksOnly cnvBlks c d) : c.Enters st fc (cnvEnter st fc d) := by
  obtain ⟨hregs, hstate, hcause, -⟩ := cnvEnter_shows st fc d
  exact ⟨blocksOnly_trans h (blocksOnly_of_fieldsOnly hregs (by decide)), hstate.trans (Nat.mod_eq_of_lt hst), hcause.trans (Nat.mod_eq_of_lt hfc)⟩

/-- The boundary behind the transition leaves the state and the cause. -/
theorem Core.Enters.refreshed {st fc : Nat} {c d e : Core} (h : c.Enters st fc d) (g : d.Refreshed e) : e.cnvState = st ∧ e.rd F.CNV_STAT.FCAUSE = fc :=
  ⟨g.cnvState.trans h.state, g.fcause.trans h.fcause⟩

/-- R244: a soft start, with every configured phase. -/
theorem enters_enterSoftStart (c : Core) : c.Enters 2 0 (enterSoftStart c) :=
  enters_cnvEnter (by decide) (by decide) (blocksOnly_trans (blocksOnly_csr rfl) (blocksOnly_allPhases _))

/-- R250: a soft stop that is not one of degraded mode. -/
theorem enters_enterSoftStop (c : Core) : c.Enters 6 0 (enterSoftStop false c) :=
  enters_cnvEnter (by decide) (by decide) (blocksOnly_csr rfl)

/-- R250: OFF, with no phase active. -/
theorem cnvEnter_off_refreshed {c d : Core} (h : (cnvEnter 0 0 c).Refreshed d) :
    (d.cnvState = 0 ∧ d.rd F.CNV_STAT.FCAUSE = 0) ∧ d.rd F.CNV_STAT.NACT = 0 :=
  ⟨(enters_cnvEnter (by decide) (by decide) (blocksOnly_refl _ c)).refreshed h, h.nact.trans ((cnvEnter_shows 0 0 c).2.2.2.1 (.inl rfl))⟩

/-! ### Stall (R245) -/

/-- R245: what a stall counts and tells, before CNV enters FAULT. -/
def stallCounted (again : Bool) (fc : Nat) (c : Core) : Core :=
  let c1 := c.cntSat F.CNV_CNT.STALLS
  (if again then c1.wr F.CNV_STAT.RETRY (c.rd F.CNV_STAT.RETRY + 1) else c1).raise 57 0 fc

theorem blocksOnly_stallCounted (again : Bool) (fc : Nat) (c : Core) : blocksOnly cnvBlks c (stallCounted again fc c) := by
  have hcount : blocksOnly cnvBlks c (c.cntSat F.CNV_CNT.STALLS) := blocksOnly_cntSat (blocksOnly_refl _ c) (by decide)
  exact blocksOnly_raise (blocksOnly_ite (blocksOnly_wr hcount (by decide)) hcount)

/-- R245: CNV as a stall leaves it. -/
def stallEnd (c : Core) : Core :=
  let again := decide (c.rd F.CNV_STAT.RETRY < c.rd F.CNV_SS_RETRIES.RETRIES)
  let fc := if again then 2 else 3
  cnvEnter 7 fc (stallCounted again fc c)

/-- R245: the cause says whether CNV tries again. -/
theorem enters_stallEnd (c : Core) :
    c.Enters 7 (if c.rd F.CNV_STAT.RETRY < c.rd F.CNV_SS_RETRIES.RETRIES then 2 else 3) (stallEnd c) := by
  unfold stallEnd
  simp only [decide_eq_true_eq]
  exact enters_cnvEnter (by decide) (by split <;> decide) (blocksOnly_stallCounted _ _ c)

/-! ### Shedding (R252) and burst mode (R256) -/

/-- R252: CNV with the phase `k` gated off. -/
def phaseGatedOff (k : Nat) (c : Core) : Core :=
  let c1 := setPhases (c.actPhases.filter (fun i => i != k)) false c
  gateOutputs { c1 with cnv := { c1.cnv with
    shed := some k, shedSet := k :: c1.cnv.shedSet, dwell := 0, sched := c1.cnv.sched.filter (fun (x : Nat × Leg) => x.1 / 2 != k) } }

theorem phaseGatedOff_csr (k : Nat) (c : Core) : (phaseGatedOff k c).csr = (setPhases (c.actPhases.filter (fun i => i != k)) false c).csr := rfl

theorem actPhases_nodup (c : Core) : c.actPhases.Nodup := List.nodup_range.filter _

theorem actPhases_length_le (c : Core) : c.actPhases.length ≤ 6 := List.length_filter_le _ _

theorem getLastD_mem_of_ne_nil {l : List Nat} (h : l ≠ []) : l.getLastD 0 ∈ l := by
  rw [List.getLastD_eq_getLast?, List.getLast?_eq_some_getLast h]
  exact List.getLast_mem h

/-- R252: one phase less is active, and the state stays. -/
theorem phaseGatedOff_shows {k : Nat} {c : Core} (hk : k ∈ c.actPhases) :
    let d := phaseGatedOff k c
    blocksOnly cnvBlks c d ∧ d.cnvState = c.cnvState ∧ d.rd F.CNV_STAT.NACT = c.actPhases.length - 1 := by
  have hcsr := phaseGatedOff_csr k c
  have hrd := noRegister_of_csr hcsr
  have hlen : (c.actPhases.filter (fun i => i != k)).length = c.actPhases.length - 1 := by
    rw [← (actPhases_nodup c).erase_eq_filter, List.length_erase_of_mem hk]
  refine ⟨blocksOnly_of_csr (blocksOnly_setPhases _ false c) hcsr, ?_, ?_⟩
  · exact (hrd F.CNV_STAT.STATE).trans (fieldsOnly_setPhases _ false c F.CNV_STAT.STATE (by decide))
  · have hle := actPhases_length_le c
    rw [hrd, setPhases_nact, hlen]
    omega

/-- R256: CNV with its gates safe, about to enter burst sleep. -/
def burstAsleep (c : Core) : Core := { pwmSafe c with cnv := { (pwmSafe c).cnv with sleep := true, bdwell := 0, dwell := 0 } }

theorem blocksOnly_burstAsleep (c : Core) : blocksOnly cnvBlks c (burstAsleep c) := blocksOnly_csr rfl

/-- R256: burst sleep, with no gate on. -/
theorem cnvEnter_burst_refreshed {c d : Core} (h : (cnvEnter 4 0 (burstAsleep c)).Refreshed d) :
    (d.cnvState = 4 ∧ d.rd F.CNV_STAT.FCAUSE = 0) ∧ d.cnv.sleep = true ∧ d.cnv.legs = [] := by
  obtain ⟨-, -, -, -, hcnv⟩ := cnvEnter_shows 4 0 (burstAsleep c)
  have hsleep : (cnvEnter 4 0 (burstAsleep c)).cnv.sleep = true := by rw [hcnv (by decide)]; rfl
  have hlegs : (cnvEnter 4 0 (burstAsleep c)).cnv.legs = [] := by rw [hcnv (by decide)]; rfl
  exact ⟨(enters_cnvEnter (by decide) (by decide) (blocksOnly_refl _ (burstAsleep c))).refreshed h, h.sleep.trans hsleep, h.legs hsleep hlegs⟩

/-! ### The commands -/

section
variable {s : State} (hs : s.pwr.held = false)
include hs

theorem onDelayExpire_timed :
    Timed .onDelayExpire s (s.core.cnvState = 1 ∧ s.core.rd F.CNV_ONOFF.TON * 500000 ≤ s.core.cnv.age ∧ s.core.block = 0)
      fun d => d.cnvState = 2 ∧ d.rd F.CNV_STAT.FCAUSE = 0 :=
  have henters := enters_enterSoftStart s.core
  timed_atBoundary (f := onDelayExpire) hs rfl rfl (fun _ => henters.regs) fun _ _ h => henters.refreshed h

theorem offDelayExpire_timed :
    Timed .offDelayExpire s (s.core.cnvState = 5 ∧ s.core.rd F.CNV_ONOFF.TOFF * 500000 ≤ s.core.cnv.age)
      fun d => d.cnvState = 6 ∧ d.rd F.CNV_STAT.FCAUSE = 0 :=
  have henters := enters_enterSoftStop s.core
  timed_atBoundary (f := offDelayExpire) hs rfl rfl (fun _ => henters.regs) fun _ _ h => henters.refreshed h

theorem softStartStall_timed :
    Timed .softStartStall s (s.core.cnvState = 2 ∧ max 1 (s.core.rd F.CNV_SS_STALLT.STALLT) * 500000 ≤ s.core.cnv.stall) fun d =>
      (s.core.rd F.CNV_STAT.RETRY < s.core.rd F.CNV_SS_RETRIES.RETRIES → d.cnvState = 7 ∧ d.rd F.CNV_STAT.FCAUSE = 2) ∧
      (¬ s.core.rd F.CNV_STAT.RETRY < s.core.rd F.CNV_SS_RETRIES.RETRIES → d.cnvState = 7 ∧ d.rd F.CNV_STAT.FCAUSE = 3) := by
  have henters := enters_stallEnd s.core
  refine timed_atBoundary (f := softStall) (d := stallEnd s.core) hs rfl rfl (fun _ => henters.regs) fun _ e h => ?_
  obtain ⟨hstate, hcause⟩ := henters.refreshed h
  exact ⟨fun hagain => ⟨hstate, hcause.trans (if_pos hagain)⟩, fun hnot => ⟨hstate, hcause.trans (if_neg hnot)⟩⟩

theorem retryWaitExpire_timed :
    Timed .retryWaitExpire s (s.core.cnvState = 7 ∧ s.core.rd F.CNV_STAT.FCAUSE = 2 ∧ s.core.rd F.CNV_SS_RETRYT.RETRYT * 500000 ≤ s.core.cnv.age ∧
      s.core.on F.CNV_CTRL.ON = true ∧ s.core.block = 0) fun d => d.cnvState = 2 ∧ d.rd F.CNV_STAT.FCAUSE = 0 :=
  have henters := enters_enterSoftStart s.core
  timed_atBoundary (f := retryExpire) hs rfl rfl (fun _ => henters.regs) fun _ _ h => henters.refreshed h

theorem softStopDone_timed :
    Timed .softStopDone s (s.core.cnvState = 6 ∧ 10 ≤ s.core.cnv.done)
      fun d => (d.cnvState = 0 ∧ d.rd F.CNV_STAT.FCAUSE = 0) ∧ d.rd F.CNV_STAT.NACT = 0 :=
  timed_atBoundary (f := stopDone) hs rfl rfl (fun _ => (enters_cnvEnter (by decide) (by decide) (blocksOnly_refl _ s.core)).regs)
    fun _ _ h => cnvEnter_off_refreshed h

theorem softStopTimeout_timed :
    Timed .softStopTimeout s (s.core.cnvState = 6 ∧ s.core.stopLimit ≤ s.core.cnv.age)
      fun d => (d.cnvState = 0 ∧ d.rd F.CNV_STAT.FCAUSE = 0) ∧ d.rd F.CNV_STAT.NACT = 0 ∧ d.rd F.CNV_STAT.STOPTO = 1 := by
  let c1 : Core := (s.core.wr F.CNV_STAT.STOPTO 1).raise 62 0 1
  have h1 : blocksOnly cnvBlks s.core c1 := blocksOnly_raise (blocksOnly_wr (blocksOnly_refl _ s.core) (by decide))
  have hstopto : (cnvEnter 0 0 c1).rd F.CNV_STAT.STOPTO = 1 :=
    ((cnvEnter_shows 0 0 c1).1 F.CNV_STAT.STOPTO (by decide)).trans (Core.rd_raise_wr_same _ _ _ _ _ _)
  refine timed_atBoundary (f := stopTimeout) hs rfl rfl (fun _ => (enters_cnvEnter (by decide) (by decide) h1).regs) fun _ e h => ?_
  obtain ⟨henters, hnact⟩ := cnvEnter_off_refreshed h
  exact ⟨henters, hnact, h.stopto.trans hstopto⟩

theorem phaseShed_timed :
    Timed .phaseShed s (s.core.cnvState = 3 ∧ s.core.on F.CNV_CTRL.SHEDEN = true ∧ max 1 (s.core.rd F.CNV_SHED_DWELL.DWELL) ≤ s.core.cnv.dwell ∧
      s.core.cnv.step = false ∧ s.core.minPh < s.core.actPhases.length)
      fun d => d.cnvState = 3 ∧ d.rd F.CNV_STAT.NACT = s.core.actPhases.length - 1 := by
  have hlast : s.core.minPh < s.core.actPhases.length → s.core.actPhases.getLastD 0 ∈ s.core.actPhases :=
    fun h => getLastD_mem_of_ne_nil (List.ne_nil_of_length_pos (by omega))
  refine timed_atBoundary (f := phaseShed) (d := phaseGatedOff (s.core.actPhases.getLastD 0) s.core) hs rfl ?_ ?_ ?_
  · simp only [phaseShed, Bool.not_eq_true']
    rfl
  · rintro ⟨-, -, -, -, hmin⟩
    exact (phaseGatedOff_shows (hlast hmin)).1
  · rintro ⟨hrun, -, -, -, hmin⟩ e h
    obtain ⟨-, hstate, hnact⟩ := phaseGatedOff_shows (hlast hmin)
    exact ⟨h.cnvState.trans (hstate.trans hrun), h.nact.trans hnact⟩

theorem burstModeEnter_timed :
    Timed .burstModeEnter s (s.core.cnvState = 3 ∧ s.core.rd F.CNV_STAT.REFSRC = 0 ∧ s.core.prof = 3 ∧ s.core.on F.CNV_CTRL.BUREN = true ∧
      max 1 (s.core.rd F.CNV_SHED_DWELL.DWELL) ≤ s.core.cnv.bdwell)
      fun d => (d.cnvState = 4 ∧ d.rd F.CNV_STAT.FCAUSE = 0) ∧ d.cnv.sleep = true ∧ d.cnv.legs = [] :=
  timed_atBoundary (f := burstEnter) (d := cnvEnter 4 0 (burstAsleep s.core)) hs rfl rfl
    (fun _ => (enters_cnvEnter (by decide) (by decide) (blocksOnly_burstAsleep s.core)).regs) fun _ _ h => cnvEnter_burst_refreshed h

end

/-- Settles O11: each command by its guard, by the state that it enters, and by what the boundary behind the transition leaves. -/
theorem converterExpiries : Obligations.ConverterExpiries := by
  unfold Obligations.ConverterExpiries
  intro s hs
  exact ⟨onDelayExpire_timed hs, offDelayExpire_timed hs, softStartStall_timed hs, retryWaitExpire_timed hs, softStopDone_timed hs,
    softStopTimeout_timed hs, phaseShed_timed hs, burstModeEnter_timed hs⟩

end Sys2Proof.Machine
end

section
/-! PROOF. O8, O9, O10: the instructions of the control engine (R264 to R269): where the predicate holds, an accumulator, a predicate or a word takes a
value; where it does not, nothing changes. -/

namespace Sys2Proof.Machine

/-! ### The predicate of an instruction -/

theorem cteRun_of_goes {w : CteW} {c : Core} {f : Core → Core} (h : cteGoes w c.cte = true) : cteRun w f c = f c := if_pos h

theorem cteRun_of_not_goes {w : CteW} {c : Core} {f : Core → Core} (h : cteGoes w c.cte = false) : cteRun w f c = c := by simp [cteRun, h]

/-- A command whose effect leaves the resettable part as it is leaves the machine as it is, held or not. -/
theorem ends_same {i : Instr} {s : State} {f : Core → Core} (he : exec i s = .next (onCore f s)) (hf : f s.core = s.core) :
    Ends i s fun t => t = s := by
  refine ⟨_, he, ?_⟩
  unfold onCore
  split
  · rfl
  · rw [hf]

/-- R267: P0 reads 1, so that NEG alone decides. -/
theorem cteGoes_p0 {w : CteW} (e : CteSt) (h : w.pr = 0) : cteGoes w e = !w.neg := by
  have hp0 : e.p w.pr = true := by simp [CteSt.p, h]
  rw [cteGoes, hp0]
  cases w.neg <;> rfl

/-- Settles O10: each of the instructions runs under its predicate, and P0 reads 1. -/
theorem enginePredicate : Obligations.EnginePredicate := by
  unfold Obligations.EnginePredicate
  refine ⟨fun s w hgo i hi => ?_, fun e w => cteGoes_p0 e⟩
  simp only [List.mem_cons, List.not_mem_nil, or_false] at hi
  rcases hi with rfl | rfl | rfl | rfl | rfl | rfl | rfl | rfl | rfl | rfl | rfl | rfl | rfl | rfl | rfl | rfl | rfl <;>
    exact ends_same rfl (cteRun_of_not_goes hgo)

/-! ### Accumulators -/

theorem clampI_eq_max_min {lo hi : Int} (h : lo ≤ hi) (x : Int) : clampI lo hi x = max lo (min hi x) := by
  unfold clampI
  split
  · omega
  · split <;> omega

theorem accSat_eq (x : Int) : accSat x = max (-(2 ^ 39)) (min (2 ^ 39 - 1) x) := clampI_eq_max_min (by decide) x

/-- R265, R268: from `c` to `d` accumulator `i` takes `v`, saturated; ACCSAT shows a saturation, and nothing else changes. -/
def Core.AccTakes (i : Nat) (v : Int) (c d : Core) : Prop :=
  d.cte = { c.cte with acc := c.cte.acc.set i (max (-(2 ^ 39)) (min (2 ^ 39 - 1) v)) } ∧
    (-(2 ^ 39) ≤ v → v ≤ 2 ^ 39 - 1 → d = { c with cte := d.cte }) ∧
    (v < -(2 ^ 39) ∨ 2 ^ 39 - 1 < v → d.rd F.CTE_STAT.ACCSAT = 1 ∧ fieldsOnly [F.CTE_STAT.ACCSAT] c d)

theorem accTakes_setAcc (i : Nat) (v : Int) (c : Core) : c.AccTakes i v (setAcc i v c) := by
  unfold setAcc
  rw [accSat_eq]
  dsimp only
  split
  · next hfit => exact ⟨rfl, fun _ _ => rfl, fun hout => by omega⟩
  · next hsat =>
    exact ⟨rfl, fun hlo hhi => absurd (by omega) hsat, fun _ => ⟨Core.rd_wr_same _ _ _, fieldsOnly_wr (fun _ _ => rfl) (by simp)⟩⟩

/-- An instruction that gives an accumulator a value. -/
theorem ends_accTakes {i : Instr} {s : State} {f : Core → Core} {k : Nat} {v : Int} (hs : s.pwr.held = false) (he : exec i s = .next (onCore f s))
    (hf : f s.core = setAcc k v s.core) : Ends i s fun t => coreOnly s t ∧ s.core.AccTakes k v t.core :=
  ends_onCore f hs he ⟨rfl, hf ▸ accTakes_setAcc k v s.core⟩

/-- Settles O8: each of the instructions gives accumulator `w.a` the value that R268 states for it. -/
theorem engineArithmetic : Obligations.EngineArithmetic := by
  unfold Obligations.EngineArithmetic
  intro s w hs hgo _
  refine ⟨?lda, ?mpy, ?mac, ?msu, ?add, ?sub, ?adda, ?suba, ?shl, ?shr, ?clmp⟩
  case lda | mpy | mac | msu | add | sub | adda | suba | shl | shr | clmp => exact ends_accTakes hs rfl (cteRun_of_goes hgo)

/-! ### Predicates and stores -/

/-- An instruction that gives a predicate a value; P0 is never written. -/
theorem ends_predTakes {i : Instr} {s : State} {f : Core → Core} {k : Nat} {b : Bool} (hs : s.pwr.held = false) (he : exec i s = .next (onCore f s))
    (hf : f s.core = setPred k b s.core) :
    Ends i s fun t => t = if k = 0 then s else { s with core := { s.core with cte := { s.core.cte with pred := s.core.cte.pred.set k b } } } := by
  refine ends_onCore f hs he ?_
  rw [hf, setPred]
  split <;> rfl

/-- R269: from `e` to `d` the engine writes `v` at address `x`: a word of the state or free region, an output port, or nothing. -/
def CteSt.Puts (x : Nat) (v : Int) (e d : CteSt) : Prop :=
  d.acc = e.acc ∧ d.pred = e.pred ∧ d.pm = e.pm ∧
    (∀ k, Tab.get 0 d.dm k = if k = x ∧ dmWritable x = true then v else Tab.get 0 e.dm k) ∧
    ∀ k, Tab.get 0 d.out k = if k = x ∧ 592 ≤ x ∧ x < 624 then v else Tab.get 0 e.out k

theorem dmWritable_lt {x : Nat} (h : dmWritable x = true) : x < 512 := by
  simp only [dmWritable, Bool.or_eq_true, Bool.and_eq_true, decide_eq_true_eq] at h
  omega

theorem puts_wr (e : CteSt) (x : Nat) (v : Int) : e.Puts x v (e.wr x v) := by
  unfold CteSt.wr
  split
  · next hdm =>
    have hlt := dmWritable_lt hdm
    exact ⟨rfl, rfl, rfl, fun k => by simp [CteSt.put, Tab.get_put, hdm], fun k => (if_neg (by omega)).symm⟩
  · next hdm =>
    split
    · next hport => exact ⟨rfl, rfl, rfl, fun k => by simp [hdm], fun k => by simp [Tab.get_put, hport]⟩
    · next hport => exact ⟨rfl, rfl, rfl, fun k => by simp [hdm], fun k => (if_neg fun h => hport h.2).symm⟩

/-- R266: from `c` to `d` the store of an accumulator value `v` as a word of at least `lo` counts if it saturates; no other register changes. -/
def Core.Counts (lo : Int) (v : Int) (c d : Core) : Prop :=
  (lo ≤ q15Round v → q15Round v ≤ 32767 → noRegister c d) ∧
    (q15Round v < lo ∨ 32767 < q15Round v →
      d.rd F.CTE_SATCNT.COUNT = min (2 ^ F.CTE_SATCNT.COUNT.width - 1) (c.rd F.CTE_SATCNT.COUNT + 1) ∧ fieldsOnly [F.CTE_SATCNT.COUNT] c d)

theorem storeAcc_puts {lo : Int} (hlo : lo ≤ 32767) (x : Nat) (v : Int) (c : Core) :
    c.cte.Puts x (max lo (min 32767 (q15Round v))) (storeAcc lo 32767 x v c).cte := by
  unfold storeAcc
  rw [clampI_eq_max_min hlo]
  dsimp only
  split <;> exact puts_wr c.cte x _

theorem storeAcc_counts {lo : Int} (hlo : lo ≤ 32767) (x : Nat) (v : Int) (c : Core) : c.Counts lo v (storeAcc lo 32767 x v c) := by
  unfold storeAcc
  rw [clampI_eq_max_min hlo]
  dsimp only
  split
  · next hfit => exact ⟨fun _ _ => noRegister_of_csr rfl, fun hout => by omega⟩
  · next hsat => exact ⟨fun h1 h2 => absurd (by omega) hsat, fun _ => ⟨rd_cntSat_same _ _, fieldsOnly_cntSat (fun _ _ => rfl) (by simp)⟩⟩

/-- An instruction that stores an accumulator. -/
theorem ends_storeAcc {i : Instr} {s : State} {f : Core → Core} {lo : Int} {x : Nat} {v : Int} (hlo : lo ≤ 32767) (hs : s.pwr.held = false)
    (he : exec i s = .next (onCore f s)) (hf : f s.core = storeAcc lo 32767 x v s.core) :
    Ends i s fun t => (coreOnly s t ∧ s.core.cte.Puts x (max lo (min 32767 (q15Round v))) t.core.cte) ∧ s.core.Counts lo v t.core :=
  ends_onCore f hs he ⟨⟨rfl, hf ▸ storeAcc_puts hlo x v s.core⟩, hf ▸ storeAcc_counts hlo x v s.core⟩

/-- An instruction that copies a word. -/
theorem ends_move {i : Instr} {s : State} {f : Core → Core} {x : Nat} {v : Int} (hs : s.pwr.held = false) (he : exec i s = .next (onCore f s))
    (hf : f s.core = { s.core with cte := s.core.cte.wr x v }) :
    Ends i s fun t => (coreOnly s t ∧ s.core.cte.Puts x v t.core.cte) ∧ noRegister s.core t.core := by
  refine ends_onCore f hs he ?_
  rw [hf]
  exact ⟨⟨rfl, puts_wr _ x v⟩, noRegister_of_csr rfl⟩

/-- Settles O9: CMPLT, CMPGE and TST by the predicate they write, STS, STU and MOV by the word. -/
theorem engineStores : Obligations.EngineStores := by
  unfold Obligations.EngineStores
  intro s w hs hgo
  refine ⟨?cmplt, ?cmpge, ?tst, ?sts, ?stu, ?mov, ⟨s, rfl, rfl⟩, ⟨s, rfl, rfl⟩⟩
  case cmplt | cmpge | tst => exact ends_predTakes hs rfl (cteRun_of_goes hgo)
  case sts | stu => exact ends_storeAcc (by decide) hs rfl (cteRun_of_goes hgo)
  case mov => exact ends_move hs rfl (cteRun_of_goes hgo)

end Sys2Proof.Machine
end

section
/-! PROOF. O12: the memory ports of the control engine at the tick boundary (R17, R38, R273, R276, R281), and the admission check (R272). -/

namespace Sys2Proof.Machine

/-! ### A held write that commits alone -/

/-- The fields whose write at a tick boundary makes a request pend (R31, R59, R67). -/
def requestFlds : List Fld := [F.TICK_PERIOD.REQ, F.TICK_FRAME.REQ, F.TICK_PROFILE.GO, F.TICK_SNAP_CTRL.GO]

/-- R17: the boundary at which one held write of F0 commits, with a command of its own, and no request pends. -/
theorem commitTick_alone {f : Fld} (hcls : f.cls = .own) (hblk : postedBlock (f.off / 16384) = false) (hreq : ∀ g ∈ requestFlds, f.key ≠ g.key)
    (bits : Nat) (c : Core) :
    commitTick { c with wait := [⟨f, bits, .normal, false, .f0⟩] } = ctlApply { c with wait := [] } ⟨f, bits, .normal, false, .f0⟩ := by
  have hcommits : commitsAtTick ⟨f, bits, .normal, false, .f0⟩ = true := by simp [commitsAtTick, hcls, hblk]
  simp only [requestFlds, List.forall_mem_cons] at hreq
  obtain ⟨hperiod, hframe, hprofile, hsnap, -⟩ := hreq
  simp [commitTick, hcommits, beq_false_of_ne hperiod, beq_false_of_ne hframe, beq_false_of_ne hprofile, beq_false_of_ne hsnap]

/-- R281: the boundary at which LOAD or STD commits. -/
theorem commitTick_ctrl {f : Fld} (hf : f ∈ [F.CTE_CTRL.LOAD, F.CTE_CTRL.STD]) (c : Core) :
    commitTick { c with wait := [⟨f, 1, .normal, false, .f0⟩] } = ({ c with wait := [] } : Core).wr f (Nat.lor (c.rd f) 1) := by
  simp only [List.mem_cons, List.not_mem_nil, or_false] at hf
  rcases hf with rfl | rfl <;> exact commitTick_alone rfl (by decide) (by decide) 1 c

/-- R281: LOAD and STD read 1 from their commit on. -/
theorem commitTick_ctrl_shows {f : Fld} (hf : f ∈ [F.CTE_CTRL.LOAD, F.CTE_CTRL.STD]) (c : Core) :
    fieldsOnly [f] c (commitTick { c with wait := [⟨f, 1, .normal, false, .f0⟩] }) ∧
      (commitTick { c with wait := [⟨f, 1, .normal, false, .f0⟩] }).rd f = 1 ∧
      (commitTick { c with wait := [⟨f, 1, .normal, false, .f0⟩] }).cte = c.cte := by
  have hwidth : f.width = 1 := by
    revert f
    decide
  rw [commitTick_ctrl hf]
  refine ⟨fieldsOnly_wr (fun _ _ => rfl) (by simp), ?_, rfl⟩
  rw [Core.rd_wr_same, hwidth]
  exact Nat.or_mod_two_eq_one.mpr (.inr rfl)

/-! ### Program memory -/

/-- An address lies in the region of a program that there is. -/
def within (p : Option Prog) (a : Nat) : Prop := ∃ q, p = some q ∧ q.base ≤ a ∧ a < q.base + q.len

theorem overlap_one_iff {a b l : Nat} : overlap a 1 b l = true ↔ b ≤ a ∧ a < b + l := by
  simp only [overlap, Bool.and_eq_true, decide_eq_true_eq]
  omega

theorem within_iff_any {p : Option Prog} {a : Nat} : (p.any fun q => overlap a 1 q.base q.len) = true ↔ within p a := by
  cases p <;> simp [within, overlap_one_iff]

theorem pmBarred_eq (c : Core) : c.pmBarred = c.cte.act.any fun q => overlap (c.rd F.CTE_PMADDR.ADDR) 1 q.base q.len := by
  unfold Core.pmBarred
  cases c.cte.act <;> rfl

/-- R273: a program word is barred where it lies in the active region. -/
theorem pmBarred_iff (c : Core) : c.pmBarred = true ↔ within c.cte.act (c.rd F.CTE_PMADDR.ADDR) := by
  rw [pmBarred_eq, within_iff_any]

theorem pmBarred_eq_false {c : Core} (h : ¬ within c.cte.act (c.rd F.CTE_PMADDR.ADDR)) : c.pmBarred = false :=
  Bool.eq_false_iff.mpr fun hb => h ((pmBarred_iff c).mp hb)

/-- R281: a word stands in program memory, and the address has counted on. -/
def pmStored (v : Nat) (c : Core) : Core :=
  { c.cntWrap F.CTE_PMADDR.ADDR with cte := { c.cte with pm := Tab.put 0 c.cte.pm (c.rd F.CTE_PMADDR.ADDR) (v % 2 ^ 32 + 1) } }

/-- R273: no program is staged any more, and the registers show it. -/
def unstaged (c : Core) : Core := cteShow { c with cte := { c.cte with stg := none } }

/-- R273: a program word in the active region is discarded. -/
theorem pmWrite_barred {c : Core} (h : c.pmBarred = true) (v : Nat) : pmWrite v c = (c.cntWrap F.CTE_PMADDR.ADDR).wr F.CTE_STAT.PMWERR 1 := if_pos h

/-- R273: a program word in the staged region unstages the program. -/
theorem pmWrite_staged {c : Core} (h : c.pmBarred = false) (hstg : within c.cte.stg (c.rd F.CTE_PMADDR.ADDR)) (v : Nat) :
    pmWrite v c = unstaged (pmStored v c) := by
  obtain ⟨q, hq, hlow, hhigh⟩ := hstg
  simp [pmWrite, h, hq, overlap_one_iff.mpr ⟨hlow, hhigh⟩, unstaged, pmStored, Core.cntWrap]

/-- R281: a program word outside both regions is stored. -/
theorem pmWrite_unstaged {c : Core} (h : c.pmBarred = false) (hstg : ¬ within c.cte.stg (c.rd F.CTE_PMADDR.ADDR)) (v : Nat) :
    pmWrite v c = pmStored v c := by
  rw [← within_iff_any] at hstg
  cases hq : c.cte.stg <;> simp_all [pmWrite, pmStored, Core.cntWrap]

theorem Core.pmWord_of_put_same {c d : Core} {a n : Nat} (hpm : d.cte.pm = Tab.put 0 c.cte.pm a (n + 1)) : d.pmWord a = n := by
  simp [Core.pmWord, hpm]

theorem Core.pmWord_of_put_ne {c d : Core} {a b n : Nat} (hpm : d.cte.pm = Tab.put 0 c.cte.pm a n) (hstd : d.cte.stdAt = c.cte.stdAt) (hb : b ≠ a) :
    d.pmWord b = c.pmWord b := by
  unfold Core.pmWord
  rw [hpm, hstd, Tab.get_put_ne 0 c.cte.pm n hb]

/-! ### The registers that show the programs -/

/-- Fields take values, one after the other. -/
def writeAll (ws : List (Fld × Nat)) (c : Core) : Core := ws.foldl (fun d w => d.wr w.1 w.2) c

theorem fieldsOnly_writeAll (ws : List (Fld × Nat)) (c : Core) : fieldsOnly (ws.map Prod.fst) c (writeAll ws c) := by
  induction ws generalizing c with
  | nil => exact fieldsOnly_refl _ c
  | cons w ws ih =>
    exact fieldsOnly_trans (fieldsOnly_wr (fieldsOnly_refl _ c) (by simp)) (fieldsOnly_mono (ih (c.wr w.1 w.2)) fun f hf => by simp [hf])

theorem writeAll_cte (ws : List (Fld × Nat)) (c : Core) : (writeAll ws c).cte = c.cte := by
  induction ws generalizing c with
  | nil => rfl
  | cons w ws ih => exact ih _

/-- R282: what the registers show of the active program `a` and the staged program `p`, beside ACT and STG. -/
def progShown (a p : Option Prog) : List (Fld × Nat) :=
  [(F.CTE_ACT_WCET.WCET, (a.map Prog.wcet).getD 0), (F.CTE_ACT_WCET.PMIN, (a.map Prog.pmin).getD 0), (F.CTE_ACT_REG.BASE, (a.map Prog.base).getD 0),
    (F.CTE_ACT_REG.LEN, (a.map Prog.len).getD 0), (F.CTE_STG_WCET.WCET, (p.map Prog.wcet).getD 0), (F.CTE_STG_WCET.PMIN, (p.map Prog.pmin).getD 0)]

/-- R282: the fields that show the two programs. -/
def showFlds : List Fld :=
  [F.CTE_STAT.ACT, F.CTE_STAT.STG, F.CTE_ACT_WCET.WCET, F.CTE_ACT_WCET.PMIN, F.CTE_ACT_REG.BASE, F.CTE_ACT_REG.LEN, F.CTE_STG_WCET.WCET, F.CTE_STG_WCET.PMIN]

theorem cteShow_eq (c : Core) : cteShow c =
    writeAll (progShown c.cte.act c.cte.stg) ((c.wr F.CTE_STAT.ACT (b2n c.cte.act.isSome)).wr F.CTE_STAT.STG (b2n c.cte.stg.isSome)) := by
  unfold cteShow
  cases c.cte.act <;> cases c.cte.stg <;> rfl

theorem cteShow_cte (c : Core) : (cteShow c).cte = c.cte := by
  rw [cteShow_eq, writeAll_cte]
  rfl

theorem fieldsOnly_cteShow (c : Core) : fieldsOnly showFlds c (cteShow c) := by
  have hbits : fieldsOnly showFlds c ((c.wr F.CTE_STAT.ACT (b2n c.cte.act.isSome)).wr F.CTE_STAT.STG (b2n c.cte.stg.isSome)) :=
    fieldsOnly_wr (fieldsOnly_wr (fieldsOnly_refl _ c) (by simp [showFlds])) (by simp [showFlds])
  rw [cteShow_eq]
  exact fieldsOnly_trans hbits (fieldsOnly_mono (fieldsOnly_writeAll _ _) fun f hf => List.mem_cons_of_mem _ (List.mem_cons_of_mem _ hf))

/-- R282: STG shows whether a program is staged. -/
theorem cteShow_stg (c : Core) : (cteShow c).rd F.CTE_STAT.STG = b2n c.cte.stg.isSome := by
  have hlater : ∀ g ∈ showFlds.drop 2, F.CTE_STAT.STG.key ≠ g.key := by decide
  rw [cteShow_eq, fieldsOnly_writeAll (progShown c.cte.act c.cte.stg) _ F.CTE_STAT.STG hlater, Core.rd_wr_same]
  cases c.cte.stg <;> rfl

/-! ### A program word -/

/-- R38, R273, R281: the effect of a held write of a program word at its boundary. -/
def pmLands (v : Nat) (c : Core) : Core := (pmWrite v c).when c.pmBarred (accViol .f0 0 F.CTE_PMDATA.DATA.off)

theorem commitTick_pmData (v : Nat) (c : Core) :
    commitTick { c with wait := [⟨F.CTE_PMDATA.DATA, v, .normal, false, .f0⟩] } = pmLands v { c with wait := [] } := by
  rw [commitTick_alone rfl (by decide) (by decide), ctlApply, if_pos rfl]
  simp only [viewIndex, Nat.mul_zero, Nat.add_zero]
  rfl

/-- R38: a discarded word of F0 is counted. -/
def counted (c d : Core) : Prop :=
  d.rd F.GLB_ACCVIOL.COUNT = min 65535 (c.rd F.GLB_ACCVIOL.COUNT + 1) ∧ d.rd F.GLB_ACCVIOL.MASTER = 0 ∧ d.rd F.GLB_ACCVIOL.KIND = 0

/-- The blocks whose registers a memory port of the engine changes: CTE, and GLB where the word is counted. -/
def portBlks : List Nat := [F.CTE_STAT.STG.block, F.GLB_ACCVIOL.COUNT.block]

/-- R38: counting a word changes the count alone. -/
theorem accViol_port {c d : Core} {off : Nat} (hoff : off < 2 ^ 19) (h : blocksOnly [F.CTE_STAT.STG.block] c d) :
    blocksOnly portBlks c (accViol .f0 0 off d) ∧ counted c (accViol .f0 0 off d) ∧ (accViol .f0 0 off d).cte = d.cte ∧
      ∀ f : Fld, f.block = F.CTE_STAT.STG.block → (accViol .f0 0 off d).rd f = d.rd f := by
  obtain ⟨hfields, -, hcount, hmaster, hkind, -⟩ := accViol_counts (m := .f0) (kind := 0) (off := off) (c := d) (by decide) hoff
  have hcte : ∀ g ∈ [F.GLB_ACCVIOL.COUNT, F.GLB_ACCVIOL.MASTER, F.GLB_ACCVIOL.KIND, F.GLB_ACCVIOL_ADDR.OFFSET], g.block ≠ F.CTE_STAT.STG.block := by decide
  refine ⟨?_, ⟨?_, hmaster, hkind⟩, rfl, fun f hf => hfields f fun g hg => key_ne_of_block (hf ▸ (hcte g hg).symm)⟩
  · exact blocksOnly_trans (blocksOnly_mono h (by decide)) (blocksOnly_of_fieldsOnly hfields (by decide))
  · rw [hcount, h _ (by decide)]

theorem pmLands_barred {c : Core} (h : within c.cte.act (c.rd F.CTE_PMADDR.ADDR)) (v : Nat) :
    (pmLands v c).rd F.CTE_PMADDR.ADDR = (c.rd F.CTE_PMADDR.ADDR + 1) % 1024 ∧ blocksOnly portBlks c (pmLands v c) ∧
      (pmLands v c).rd F.CTE_STAT.PMWERR = 1 ∧ (pmLands v c).cte = c.cte ∧ counted c (pmLands v c) := by
  have hbar := (pmBarred_iff c).mpr h
  have hwrite : blocksOnly [F.CTE_STAT.STG.block] c (pmWrite v c) := by
    rw [pmWrite_barred hbar]
    exact blocksOnly_wr (blocksOnly_cntWrap (blocksOnly_refl _ c) (by decide)) (by decide)
  obtain ⟨hblks, hcounted, hcte, hrd⟩ := accViol_port (off := F.CTE_PMDATA.DATA.off) (by decide) hwrite
  rw [pmLands, hbar, Core.when_true]
  refine ⟨?_, hblks, ?_, ?_, hcounted⟩
  · rw [hrd F.CTE_PMADDR.ADDR (by decide), pmWrite_barred hbar, Core.rd_wr_ne _ _ (by decide), Core.cntWrap_eq, Core.rd_wr_same]
    rfl
  · rw [hrd F.CTE_STAT.PMWERR (by decide), pmWrite_barred hbar, Core.rd_wr_same]
    rfl
  · rw [hcte, pmWrite_barred hbar]
    rfl

/-- R281: what a program word changes where it is stored. -/
theorem pmStored_shows (v : Nat) (c : Core) : fieldsOnly [F.CTE_PMADDR.ADDR] c (pmStored v c) ∧
    (pmStored v c).rd F.CTE_PMADDR.ADDR = (c.rd F.CTE_PMADDR.ADDR + 1) % 1024 :=
  ⟨fieldsOnly_wr (fieldsOnly_refl _ c) (by simp), Core.rd_wr_same _ _ _⟩

/-- R273: a program word outside the active region is stored, alone. -/
theorem pmLands_stored {c : Core} (h : ¬ within c.cte.act (c.rd F.CTE_PMADDR.ADDR)) (v : Nat) :
    (pmLands v c).rd F.CTE_PMADDR.ADDR = (c.rd F.CTE_PMADDR.ADDR + 1) % 1024 ∧ blocksOnly [F.CTE_STAT.STG.block] c (pmLands v c) ∧
      (pmLands v c).cte = { (pmStored v c).cte with stg := (pmLands v c).cte.stg } ∧
      (within c.cte.stg (c.rd F.CTE_PMADDR.ADDR) → (pmLands v c).cte.stg = none ∧ (pmLands v c).rd F.CTE_STAT.STG = 0) ∧
      (¬ within c.cte.stg (c.rd F.CTE_PMADDR.ADDR) → (pmLands v c).cte.stg = c.cte.stg) := by
  have hbar := pmBarred_eq_false h
  obtain ⟨hfields, haddr⟩ := pmStored_shows v c
  rw [pmLands, hbar, Core.when_false]
  by_cases hstg : within c.cte.stg (c.rd F.CTE_PMADDR.ADDR)
  · have hshow := fieldsOnly_cteShow { pmStored v c with cte := { (pmStored v c).cte with stg := none } }
    rw [pmWrite_staged hbar hstg, unstaged, cteShow_cte]
    exact ⟨(hshow _ (by decide)).trans haddr,
      blocksOnly_trans (blocksOnly_of_fieldsOnly hfields (by decide)) (blocksOnly_of_fieldsOnly hshow (by decide)), rfl,
      fun _ => ⟨rfl, cteShow_stg _⟩, fun hn => absurd hstg hn⟩
  · rw [pmWrite_unstaged hbar hstg]
    exact ⟨haddr, blocksOnly_of_fieldsOnly hfields (by decide), rfl, fun hw => absurd hw hstg, fun _ => rfl⟩

/-- R38, R273, R281: what a program word does at its boundary. -/
theorem pmLands_shows (v : Nat) (c : Core) :
    (pmLands v c).rd F.CTE_PMADDR.ADDR = (c.rd F.CTE_PMADDR.ADDR + 1) % 1024 ∧ blocksOnly portBlks c (pmLands v c) ∧
      (within c.cte.act (c.rd F.CTE_PMADDR.ADDR) → (pmLands v c).rd F.CTE_STAT.PMWERR = 1 ∧ (pmLands v c).cte = c.cte ∧ counted c (pmLands v c)) ∧
      (¬ within c.cte.act (c.rd F.CTE_PMADDR.ADDR) → blocksOnly [F.CTE_STAT.STG.block] c (pmLands v c) ∧
        (pmLands v c).pmWord (c.rd F.CTE_PMADDR.ADDR) = v % 2 ^ 32 ∧ (∀ b, b ≠ c.rd F.CTE_PMADDR.ADDR → (pmLands v c).pmWord b = c.pmWord b) ∧
        (pmLands v c).cte.dm = c.cte.dm ∧ (pmLands v c).cte.act = c.cte.act ∧
        (within c.cte.stg (c.rd F.CTE_PMADDR.ADDR) → (pmLands v c).cte.stg = none ∧ (pmLands v c).rd F.CTE_STAT.STG = 0) ∧
        (¬ within c.cte.stg (c.rd F.CTE_PMADDR.ADDR) → (pmLands v c).cte.stg = c.cte.stg)) := by
  by_cases h : within c.cte.act (c.rd F.CTE_PMADDR.ADDR)
  · obtain ⟨haddr, hblks, hdiscarded⟩ := pmLands_barred h v
    exact ⟨haddr, hblks, fun _ => hdiscarded, fun hn => absurd h hn⟩
  · obtain ⟨haddr, hblks, hcte, hstaged⟩ := pmLands_stored h v
    have hpm : (pmLands v c).cte.pm = Tab.put 0 c.cte.pm (c.rd F.CTE_PMADDR.ADDR) (v % 2 ^ 32 + 1) := congrArg CteSt.pm hcte
    have hstd := congrArg CteSt.stdAt hcte
    have hdm := congrArg CteSt.dm hcte
    have hact := congrArg CteSt.act hcte
    exact ⟨haddr, blocksOnly_mono hblks (by decide), fun hw => absurd hw h, fun _ => ⟨hblks, Core.pmWord_of_put_same hpm,
      fun _ hb => Core.pmWord_of_put_ne hpm hstd hb, hdm, hact, hstaged⟩⟩

/-! ### A data word -/

/-- R38, R276: the effect of a held write of a data word at its boundary. -/
def dmLands (v : Nat) (c : Core) : Core := (dmWrite v c).when c.dmBarred (accViol .f0 0 F.CTE_DMDATA.DATA.off)

theorem commitTick_dmData (v : Nat) (c : Core) :
    commitTick { c with wait := [⟨F.CTE_DMDATA.DATA, v, .normal, false, .f0⟩] } = dmLands v { c with wait := [] } := by
  have hkey : F.CTE_DMDATA.DATA.key ≠ F.CTE_PMDATA.DATA.key := by decide
  rw [commitTick_alone rfl (by decide) (by decide), ctlApply, if_neg hkey, if_pos rfl]
  simp only [viewIndex, Nat.mul_zero, Nat.add_zero]
  rfl

/-- R276: the address of the data port has counted on. -/
theorem cntWrap_dmAddr (c : Core) : fieldsOnly [F.CTE_DMADDR.ADDR] c (c.cntWrap F.CTE_DMADDR.ADDR) ∧
    (c.cntWrap F.CTE_DMADDR.ADDR).rd F.CTE_DMADDR.ADDR = (c.rd F.CTE_DMADDR.ADDR + 1) % 512 :=
  ⟨fieldsOnly_wr (fieldsOnly_refl _ c) (by simp), Core.rd_wr_same _ _ _⟩

/-- R276: a parameter word goes to the shadow. -/
theorem dmLands_param {c : Core} (hlow : 256 ≤ c.rd F.CTE_DMADDR.ADDR) (hhigh : c.rd F.CTE_DMADDR.ADDR < 384) (v : Nat) : dmLands v c =
    { c.cntWrap F.CTE_DMADDR.ADDR with cte := { c.cte with shadow := Tab.put 0 c.cte.shadow (c.rd F.CTE_DMADDR.ADDR) (toSigned 16 v) } } := by
  simp [dmLands, dmWrite, Core.dmBarred, hlow, hhigh, Core.cntWrap]

/-- R276: a state word is discarded while a program is active. -/
theorem dmLands_barred {c : Core} (h : c.rd F.CTE_DMADDR.ADDR < 256 ∨ 384 ≤ c.rd F.CTE_DMADDR.ADDR) (hact : c.cte.act ≠ none) (v : Nat) :
    dmLands v c = accViol .f0 0 F.CTE_DMDATA.DATA.off (c.cntWrap F.CTE_DMADDR.ADDR) := by
  have hout : ¬ (256 ≤ c.rd F.CTE_DMADDR.ADDR ∧ c.rd F.CTE_DMADDR.ADDR < 384) := by omega
  have hbar : c.dmBarred = true := by simpa [Core.dmBarred, Option.isSome_iff_ne_none, hact] using h
  simp [dmLands, dmWrite, hbar, hout]

/-- R276: without an active program a state word is stored. -/
theorem dmLands_state {c : Core} (h : c.rd F.CTE_DMADDR.ADDR < 256 ∨ 384 ≤ c.rd F.CTE_DMADDR.ADDR) (hact : c.cte.act = none) (v : Nat) :
    dmLands v c = { c.cntWrap F.CTE_DMADDR.ADDR with cte := c.cte.put (c.rd F.CTE_DMADDR.ADDR) (toSigned 16 v) } := by
  have hout : ¬ (256 ≤ c.rd F.CTE_DMADDR.ADDR ∧ c.rd F.CTE_DMADDR.ADDR < 384) := by omega
  have hbar : c.dmBarred = false := by simp [Core.dmBarred, hact]
  simp [dmLands, dmWrite, hbar, hout, Core.cntWrap]

/-- R38, R276, R281: what a data word does at its boundary. -/
theorem dmLands_shows (v : Nat) (c : Core) :
    (dmLands v c).rd F.CTE_DMADDR.ADDR = (c.rd F.CTE_DMADDR.ADDR + 1) % 512 ∧ blocksOnly portBlks c (dmLands v c) ∧
      (256 ≤ c.rd F.CTE_DMADDR.ADDR → c.rd F.CTE_DMADDR.ADDR < 384 → fieldsOnly [F.CTE_DMADDR.ADDR] c (dmLands v c) ∧ (dmLands v c).cte.dm = c.cte.dm ∧
        ∀ b, Tab.get 0 (dmLands v c).cte.shadow b = if b = c.rd F.CTE_DMADDR.ADDR then toSigned 16 v else Tab.get 0 c.cte.shadow b) ∧
      (c.rd F.CTE_DMADDR.ADDR < 256 ∨ 384 ≤ c.rd F.CTE_DMADDR.ADDR → (dmLands v c).cte.shadow = c.cte.shadow ∧
        (c.cte.act ≠ none → (dmLands v c).cte = c.cte ∧ counted c (dmLands v c)) ∧
        (c.cte.act = none → fieldsOnly [F.CTE_DMADDR.ADDR] c (dmLands v c) ∧
          ∀ b, Tab.get 0 (dmLands v c).cte.dm b = if b = c.rd F.CTE_DMADDR.ADDR then toSigned 16 v else Tab.get 0 c.cte.dm b)) := by
  obtain ⟨hfields, haddr⟩ := cntWrap_dmAddr c
  have hblks : blocksOnly [F.CTE_STAT.STG.block] c (c.cntWrap F.CTE_DMADDR.ADDR) := blocksOnly_of_fieldsOnly hfields (by decide)
  by_cases hparam : 256 ≤ c.rd F.CTE_DMADDR.ADDR ∧ c.rd F.CTE_DMADDR.ADDR < 384
  · obtain ⟨hlow, hhigh⟩ := hparam
    rw [dmLands_param hlow hhigh]
    exact ⟨haddr, blocksOnly_mono hblks (by decide), fun _ _ => ⟨hfields, rfl, fun b => Tab.get_put _ _ _ _ _⟩, fun hout => by omega⟩
  · have hout : c.rd F.CTE_DMADDR.ADDR < 256 ∨ 384 ≤ c.rd F.CTE_DMADDR.ADDR := by omega
    by_cases hact : c.cte.act = none
    · rw [dmLands_state hout hact]
      exact ⟨haddr, blocksOnly_mono hblks (by decide), fun hlow hhigh => absurd ⟨hlow, hhigh⟩ hparam,
        fun _ => ⟨rfl, fun hn => absurd hact hn, fun _ => ⟨hfields, fun b => Tab.get_put _ _ _ _ _⟩⟩⟩
    · obtain ⟨hport, hcounted, hcte, hrd⟩ := accViol_port (off := F.CTE_DMDATA.DATA.off) (by decide) hblks
      rw [dmLands_barred hout hact]
      exact ⟨(hrd F.CTE_DMADDR.ADDR (by decide)).trans haddr, hport, fun hlow hhigh => absurd ⟨hlow, hhigh⟩ hparam,
        fun _ => ⟨congrArg CteSt.shadow hcte, fun _ => ⟨hcte, hcounted⟩, fun hn => absurd hn hact⟩⟩

/-! ### The admission check -/

theorem admissionCheck_idle {c : Core} (hstd : c.on F.CTE_CTRL.STD = false) (hload : c.on F.CTE_CTRL.LOAD = false) : admissionCheck c = c := by
  simp [admissionCheck, hstd, hload]

/-- R272: a program of no words, or one that does not fit into program memory, fails the first check. -/
theorem admitOf_outside {c : Core} (h : c.rd F.CTE_LOAD.LEN = 0 ∨ 1024 < c.rd F.CTE_LOAD.BASE + c.rd F.CTE_LOAD.LEN) : (admitOf false c).1 = 1 := by
  simp [admitOf, h]

/-- R272: the registers that show the end of the check of a LOAD. -/
def admitShown (c : Core) : Core :=
  (((c.wr F.CTE_CTRL.STD 0).wr F.CTE_CTRL.LOAD 0).wr F.CTE_STAT.LERR (admitOf false c).1).wr F.CTE_STAT.LADDR (admitOf false c).2.1

theorem ctePmin_eq (n : Nat) : ctePmin n = (5 * (n + 64) + 3) / 4 := by
  unfold ctePmin ceilDiv
  omega

/-- R272: the program that a LOAD stages. -/
def loaded (c : Core) : Prog :=
  ⟨c.rd F.CTE_LOAD.BASE, c.rd F.CTE_LOAD.LEN, (admitOf false c).2.2, (5 * ((admitOf false c).2.2 + 64) + 3) / 4, c.swapCond, c.on F.CTE_SWAP.KEEP,
    c.rd F.CTE_SWAP.BIND, false⟩

theorem admissionCheck_load {c : Core} (hstd : c.on F.CTE_CTRL.STD = false) (hload : c.on F.CTE_CTRL.LOAD = true) : admissionCheck c =
    (if (admitOf false c).1 = 0 then cteShow { admitShown c with cte := { c.cte with stg := some (loaded c) } } else admitShown c).raise 59 0 (admitOf false c).1 := by
  simp [admissionCheck, hstd, hload, admitShown, loaded, ctePmin_eq]

theorem admitShown_shows (c : Core) : blocksOnly [F.CTE_STAT.STG.block] c (admitShown c) ∧ (admitShown c).rd F.CTE_CTRL.LOAD = 0 ∧
    (admitShown c).rd F.CTE_STAT.LERR = (admitOf false c).1 % 8 ∧ (admitShown c).cte = c.cte := by
  unfold admitShown
  refine ⟨?_, ?_, ?_, rfl⟩
  · exact blocksOnly_wr (blocksOnly_wr (blocksOnly_wr (blocksOnly_wr (blocksOnly_refl _ c) (by decide)) (by decide)) (by decide)) (by decide)
  · rw [Core.rd_wr_ne _ _ (by decide), Core.rd_wr_ne _ _ (by decide), Core.rd_wr_same]
    rfl
  · rw [Core.rd_wr_ne _ _ (by decide), Core.rd_wr_same]
    rfl

/-- R272: the check of a LOAD shows its result, and stages a program that passes. -/
theorem admissionCheck_shows {c : Core} (hstd : c.on F.CTE_CTRL.STD = false) (hload : c.on F.CTE_CTRL.LOAD = true) :
    blocksOnly [F.CTE_STAT.STG.block] c (admissionCheck c) ∧ (admissionCheck c).rd F.CTE_CTRL.LOAD = 0 ∧
      (admissionCheck c).rd F.CTE_STAT.LERR = (admitOf false c).1 % 8 ∧ ((admitOf false c).1 ≠ 0 → (admissionCheck c).cte = c.cte) ∧
      ((admitOf false c).1 = 0 → (admissionCheck c).rd F.CTE_STAT.STG = 1 ∧ (admissionCheck c).cte = { c.cte with stg := some (loaded c) }) := by
  obtain ⟨hblks, hload0, hlerr, hcte⟩ := admitShown_shows c
  rw [admissionCheck_load hstd hload]
  simp only [Core.rd_raise, Core.raise_cte]
  split
  · next hpass =>
    have hshow := fieldsOnly_cteShow { admitShown c with cte := { c.cte with stg := some (loaded c) } }
    exact ⟨blocksOnly_raise (blocksOnly_trans hblks (blocksOnly_of_fieldsOnly hshow (by decide))), (hshow F.CTE_CTRL.LOAD (by decide)).trans hload0,
      (hshow F.CTE_STAT.LERR (by decide)).trans hlerr, fun hfail => absurd hpass hfail, fun _ => ⟨cteShow_stg _, cteShow_cte _⟩⟩
  · next hfail => exact ⟨blocksOnly_raise hblks, hload0, hlerr, fun _ => hcte, fun hpass => absurd hpass hfail⟩

/-! ### The commands -/

/-- R276: a read of a data word answers with the word; nothing mutes the answer (R365). -/
theorem dmRead_eq (c : Core) : dmRead c = { c with out := .read F.CTE_DMDATA.DATA.off (c.dmWord (c.rd F.CTE_DMADDR.ADDR)) :: c.out } := rfl

/-- Settles O12: the writes are held, a lemma for each port says what they do at their boundary, and one what the check of a LOAD shows. -/
theorem engineMemory : Obligations.EngineMemory := by
  unfold Obligations.EngineMemory
  intro s v hs
  refine ⟨⟨ends_holdNow hs (by decide) rfl, commitTick_ctrl_shows (by simp) s.core⟩, ⟨ends_holdNow hs (by decide) rfl, commitTick_ctrl_shows (by simp) s.core⟩,
    ⟨ends_holdNow hs (by decide) rfl, ?pm⟩, ⟨ends_holdNow hs (by decide) rfl, ?dm⟩, ?read, ?check, admitOf_outside, ?idle⟩
  case pm =>
    have hlands := pmLands_shows v { s.core with wait := [] }
    rw [← commitTick_pmData] at hlands
    exact hlands
  case dm =>
    have hlands := dmLands_shows v { s.core with wait := [] }
    rw [← commitTick_dmData] at hlands
    exact hlands
  case read => exact ends_onCore dmRead hs rfl (congrArg (fun c => ({ s with core := c } : State)) (dmRead_eq s.core))
  case check => exact fun hstd hload => ends_onCore admissionCheck hs rfl ⟨rfl, admissionCheck_shows hstd hload⟩
  case idle => exact fun hstd hload => ends_unchanged admissionCheck hs rfl (admissionCheck_idle hstd hload)

end Sys2Proof.Machine
end

section
/-! PROOF. O57: an engine pass of a standby takes the mirrored words as they are held (R280). -/

namespace Sys2Proof.Machine

/-- A standby without an active program. Its memories are canonical; the words that the mirror holds for it are not: word 0 is listed at its default. -/
def listedZeroState : State :=
  { State.reset with
    core := { State.reset.core.wr F.RED_STAT.ROLE 2 with cte := { State.reset.core.cte with act := none, mirror := [(0, 0)] } } }

theorem listedZeroState_canonical : listedZeroState.canonical = true := by decide

/-- R280: the mirrored words become data memory. -/
theorem listedZeroState_dm : (engineMirror listedZeroState.core).cte.dm = [(0, 0)] := by decide

/-- R265, R280: without a program a pass of a standby takes the mirrored words and does no more. -/
theorem enginePass_without_program {c : Core} (h : (engineMirror c).cte.act = none) : enginePass c = engineMirror c := by
  simp [enginePass, h]

/-- Refutes O57: its hypothesis leaves out the words that the mirror holds, and an engine pass of a standby puts them into data memory (R280).
In `listedZeroState` they list a word at its default, and the data memory after the pass does so too, which is not canonical. The model
itself writes the mirror word by word with `Tab.put`, or from data memory; the statement does not ask that it be canonical. -/
theorem not_memoriesStayCanonical : ¬ Obligations.MemoriesStayCanonical := by
  unfold Obligations.MemoriesStayCanonical
  intro h
  obtain ⟨t, hexec, hcanonical, -⟩ := h listedZeroState 0 0 0 [] false false listedZeroState_canonical .enginePass (by simp)
  obtain rfl := Host.Outcome.next.inj hexec
  have hpass : (onCore enginePass listedZeroState).core.cte.dm = [(0, 0)] := by
    rw [onCore_run enginePass rfl]
    dsimp only
    rw [enginePass_without_program (by decide), listedZeroState_dm]
  simp [State.canonical, Core.canonical, hpass, Tab.wf, Tab.lean] at hcanonical

end Sys2Proof.Machine
end

section
/-! PROOF. O13: a cause of PROT latches its bit, and the first one of a trip shows its code (R283 to R302). -/

namespace Sys2Proof.Machine

/-! ### Bits of a word -/

theorem bitAt_eq_testBit (n k : Nat) : bitAt n k = n.testBit k := by
  simp [bitAt, Nat.testBit, Nat.shiftRight_eq_div_pow, Nat.one_and_eq_mod_two]

theorem bitAt_or (a b k : Nat) : bitAt (Nat.lor a b) k = (bitAt a k || bitAt b k) := by
  simp only [bitAt_eq_testBit]
  exact Nat.testBit_or a b k

theorem bitAt_mod_two_pow {w k : Nat} (n : Nat) (h : k < w) : bitAt (n % 2 ^ w) k = bitAt n k := by
  simp [bitAt_eq_testBit, Nat.testBit_mod_two_pow, h]

theorem bitAt_add_two_pow (n k : Nat) : bitAt (n + 2 ^ k) k = !bitAt n k := by
  rw [bitAt_eq_testBit, bitAt_eq_testBit, Nat.add_comm, Nat.testBit_two_pow_add_eq]

theorem bitAt_sub_two_pow {n k : Nat} (h : bitAt n k = true) : bitAt (n - 2 ^ k) k = false := by
  have hle : 2 ^ k ≤ n := Nat.ge_two_pow_of_testBit (by rwa [← bitAt_eq_testBit])
  have hadd := bitAt_add_two_pow (n - 2 ^ k) k
  rw [Nat.sub_add_cancel hle, h] at hadd
  simpa using hadd.symm

theorem bitAt_setBit (m k : Nat) (b : Bool) : bitAt (setBit m k b) k = b := by
  unfold setBit
  split
  · next h => exact h
  · next h =>
    cases b
    · exact bitAt_sub_two_pow (by simpa using h)
    · have hadd := bitAt_add_two_pow m k
      simp only [Bool.not_eq_true] at h
      simpa [h] using hadd

/-! ### A trip -/

/-- The block of PROT. -/
def protBlks : List Nat := [F.PROT_STAT.TRIP.block]

/-- R308: the fields whose bits are the causes of a trip. -/
def causeFlds : List Fld :=
  [F.PROT_TRIP0.TIN, F.PROT_TRIP0.WIN, F.PROT_TRIP1.LOSS, F.PROT_TRIP1.XV, F.PROT_TRIP1.XI, F.PROT_TRIP1.OV, F.PROT_TRIP1.UV, F.PROT_TRIP1.OT,
    F.PROT_TRIP1.LOST, F.PROT_TRIP1.OCC, F.PROT_TRIP1.OCD, F.PROT_TRIP1.ISO, F.PROT_TRIP1.CBCP, F.PROT_TRIP1.SFA, F.PROT_TRIP1.SFB, F.PROT_TRIP1.CLK]

/-- R299: what a trip by a cause of the field `f` writes. -/
def tripFlds (f : Fld) : List Fld := [f, F.PROT_STAT.TRIP, F.PROT_FIRST.CODE, F.PROT_TRIPCNT.COUNT]

theorem tripFlds_block {f : Fld} (hf : f ∈ causeFlds) : ∀ g ∈ tripFlds f, g.block ∈ protBlks := by
  revert f
  decide

theorem cause_key_ne {f : Fld} (hf : f ∈ causeFlds) : F.PROT_STAT.TRIP.key ≠ f.key ∧ F.PROT_FIRST.CODE.key ≠ f.key ∧ F.PROT_TRIPCNT.COUNT.key ≠ f.key := by
  revert f
  decide

/-- R299: in `d`, which comes from `c`, the cause is latched and a trip stands, the code of which is the cause's if none stood in `c`. -/
def Core.Latched (f : Fld) (bit code : Nat) (c d : Core) : Prop :=
  bitAt (d.rd f) bit = true ∧ d.rd F.PROT_STAT.TRIP ≠ 0 ∧ (c.rd F.PROT_STAT.TRIP = 0 → d.rd F.PROT_FIRST.CODE = code)

theorem protTrip_of_latched {f : Fld} {bit : Nat} {c : Core} (code : Nat) (h : bitAt (c.rd f) bit = true) : protTrip f bit code c = c := if_pos h

/-- R299: the registers behind a new cause. -/
def tripShown (f : Fld) (bit code : Nat) (c : Core) : Core :=
  let d := c.wr f (c.rd f + 2 ^ bit)
  if d.on F.PROT_STAT.TRIP then d else ((d.wr F.PROT_STAT.TRIP 1).wr F.PROT_FIRST.CODE code).cntSat F.PROT_TRIPCNT.COUNT

theorem protTrip_csr {f : Fld} {bit : Nat} {c : Core} (code : Nat) (h : bitAt (c.rd f) bit = false) :
    (protTrip f bit code c).csr = (tripShown f bit code c).csr := by
  unfold protTrip
  rw [if_neg (by simp [h])]
  rfl

theorem protTrip_prot (f : Fld) (bit code : Nat) (c : Core) : ∃ b, (protTrip f bit code c).prot = { c.prot with tripSeen := b } := by
  unfold protTrip
  split
  · exact ⟨c.prot.tripSeen, rfl⟩
  · refine ⟨true, ?_⟩
    dsimp only [gateOutputs, Core.raise_prot]
    split <;> rfl

theorem Core.rd_of_csr {c d : Core} (h : d.csr = c.csr) (f : Fld) : d.rd f = c.rd f := noRegister_of_csr h f

theorem fieldsOnly_tripShown (f : Fld) (bit code : Nat) (c : Core) : fieldsOnly (tripFlds f) c (tripShown f bit code c) := by
  have hcause : fieldsOnly (tripFlds f) c (c.wr f (c.rd f + 2 ^ bit)) := fieldsOnly_wr (fieldsOnly_refl _ c) (by simp [tripFlds])
  unfold tripShown
  dsimp only
  split
  · exact hcause
  · exact fieldsOnly_cntSat (fieldsOnly_wr (fieldsOnly_wr hcause (by simp [tripFlds])) (by simp [tripFlds])) (by simp [tripFlds])

theorem fieldsOnly_protTrip (f : Fld) (bit code : Nat) (c : Core) : fieldsOnly (tripFlds f) c (protTrip f bit code c) := by
  cases h : bitAt (c.rd f) bit
  · exact fieldsOnly_of_csr (fieldsOnly_tripShown f bit code c) (protTrip_csr code h)
  · rw [protTrip_of_latched code h]
    exact fieldsOnly_refl _ c

theorem blocksOnly_protTrip {f : Fld} (hf : f ∈ causeFlds) (bit code : Nat) (c : Core) : blocksOnly protBlks c (protTrip f bit code c) :=
  blocksOnly_of_fieldsOnly (fieldsOnly_protTrip f bit code c) (tripFlds_block hf)

theorem latched_tripShown {f : Fld} {bit code : Nat} {c : Core} (hf : f ∈ causeFlds) (hbit : bit < f.width) (hcode : code < 256)
    (h : bitAt (c.rd f) bit = false) : c.Latched f bit code (tripShown f bit code c) := by
  obtain ⟨htrip, hfirst, hcnt⟩ := cause_key_ne hf
  have hset : bitAt ((c.rd f + 2 ^ bit) % 2 ^ f.width) bit = true := by rw [bitAt_mod_two_pow _ hbit, bitAt_add_two_pow, h]; rfl
  unfold tripShown
  dsimp only
  rw [Core.on_eq, Core.rd_wr_ne _ _ htrip]
  split
  · next hon =>
    have hne : c.rd F.PROT_STAT.TRIP ≠ 0 := by simpa using hon
    refine ⟨?_, ?_, fun h0 => absurd h0 hne⟩
    · rw [Core.rd_wr_same]; exact hset
    · rwa [Core.rd_wr_ne _ _ htrip]
  · refine ⟨?_, ?_, fun _ => ?_⟩
    · rw [Core.cntSat_eq, Core.rd_wr_ne _ _ hcnt.symm, Core.rd_wr_ne _ _ hfirst.symm, Core.rd_wr_ne _ _ htrip.symm, Core.rd_wr_same]; exact hset
    · rw [Core.cntSat_eq, Core.rd_wr_ne _ _ (by decide), Core.rd_wr_ne _ _ (by decide), Core.rd_wr_same]; decide
    · rw [Core.cntSat_eq, Core.rd_wr_ne _ _ (by decide), Core.rd_wr_same]; exact Nat.mod_eq_of_lt hcode

/-- R299: a cause that is not latched latches. -/
theorem latched_protTrip {f : Fld} {bit code : Nat} {c : Core} (hf : f ∈ causeFlds) (hbit : bit < f.width) (hcode : code < 256)
    (h : bitAt (c.rd f) bit = false) : c.Latched f bit code (protTrip f bit code c) := by
  have hrd := Core.rd_of_csr (protTrip_csr code h)
  unfold Core.Latched
  rw [hrd f, hrd F.PROT_STAT.TRIP, hrd F.PROT_FIRST.CODE]
  exact latched_tripShown hf hbit hcode h

/-- R299: a cause that comes while a trip stands writes its own field alone. -/
theorem fieldsOnly_protTrip_later {f : Fld} (hf : f ∈ causeFlds) (bit code : Nat) {c : Core} (h : c.rd F.PROT_STAT.TRIP ≠ 0) :
    fieldsOnly [f] c (protTrip f bit code c) := by
  cases hb : bitAt (c.rd f) bit
  · have hon : (c.wr f (c.rd f + 2 ^ bit)).on F.PROT_STAT.TRIP = true := by
      simpa [Core.on_eq, Core.rd_wr_ne _ _ (cause_key_ne hf).1] using h
    refine fieldsOnly_of_csr ?_ (protTrip_csr code hb)
    rw [tripShown, if_pos hon]
    exact fieldsOnly_wr (fieldsOnly_refl _ c) (by simp)
  · rw [protTrip_of_latched code hb]
    exact fieldsOnly_refl _ c

/-- R299, R302: what has latched stays as it is when a cause of another field trips as well. -/
theorem Core.Latched.later {f g : Fld} {bit code : Nat} {c d : Core} (h : c.Latched f bit code d) (hg : g ∈ causeFlds) (hne : f.key ≠ g.key)
    (b k : Nat) : c.Latched f bit code (protTrip g b k d) := by
  obtain ⟨hbit, htrip, hfirst⟩ := h
  obtain ⟨hkt, hkf, -⟩ := cause_key_ne hg
  have hregs := fieldsOnly_protTrip_later hg b k htrip
  unfold Core.Latched
  rw [hregs f (by simpa using hne), hregs F.PROT_STAT.TRIP (by simpa using hkt), hregs F.PROT_FIRST.CODE (by simpa using hkf)]
  exact ⟨hbit, htrip, hfirst⟩

/-! ### Trip inputs (R283 to R285) -/

/-- R283: the level of a pin as PROT sees it. -/
def pinSeen (n : Nat) (low : Bool) (c : Core) : Core := { c with prot := { c.prot with low := setBit c.prot.low n low } }

theorem tripPin_no_supply {n : Nat} {c : Core} (h : c.prot.vioA = false) : tripPin n true c = c := by simp [tripPin, h]

theorem tripPin_high {n : Nat} {c : Core} (h : c.prot.vioA = true) :
    tripPin n true c = pinSeen n false c := by simp [tripPin, pinSeen, h]

theorem tripPin_low (n : Nat) (c : Core) : tripPin n false c = tripLow n (pinSeen n true c) := rfl

theorem tripLow_trips {n : Nat} {c : Core} (h : c.tripMode n = 1) : tripLow n c = protTrip F.PROT_TRIP0.TIN n (n + 1) c := if_pos h

theorem tripLow_forces {n : Nat} {c : Core} (h : c.tripMode n = 2) : tripLow n c = cbcForce n c := by
  rw [tripLow, if_neg (by omega), if_pos h]

theorem tripLow_none {n : Nat} {c : Core} (h : c.tripMode n = 0) : tripLow n c = c := by
  rw [tripLow, if_neg (by omega), if_neg (by omega)]

/-- R285: what a falling input forces. -/
theorem cbcForce_shows (n : Nat) (c : Core) : fieldsOnly [F.PROT_STAT.CBCACT] c (cbcForce n c) ∧
    (cbcForce n c).prot.forced = Nat.lor c.prot.forced (c.rd (F.PROT_TRIP.PHMASK n)) ∧
    (cbcForce n c).rd F.PROT_STAT.CBCACT = (cbcForce n c).prot.forced % 64 :=
  ⟨fieldsOnly_of_csr (fieldsOnly_wr (g := F.PROT_STAT.CBCACT) (fieldsOnly_refl _ c) (by simp)) rfl, rfl, Core.rd_wr_same _ _ _⟩

/-- R285: a carrier peak before its gates: the count of a forced phase, and CBCACT. -/
def peakShown (k : Nat) (c : Core) : Core :=
  (c.when (bitAt c.prot.period k) fun d => d.cntSat (F.PROT_CBCCNT.COUNT k)).wr F.PROT_STAT.CBCACT (setBit c.prot.forced k (c.cbcHolds k))

theorem carrierPeak_csr (k : Nat) (c : Core) : (carrierPeak k c).csr = (peakShown k c).csr := by
  unfold carrierPeak peakShown
  cases bitAt c.prot.period k <;> rfl

theorem carrierPeak_forced (k : Nat) (c : Core) : (carrierPeak k c).prot.forced = setBit c.prot.forced k (c.cbcHolds k) := by
  unfold carrierPeak
  cases bitAt c.prot.period k <;> rfl

theorem carrierPeak_shows (k : Nat) (c : Core) :
    fieldsOnly [F.PROT_STAT.CBCACT, F.PROT_CBCCNT.COUNT k] c (carrierPeak k c) ∧
      (bitAt c.prot.period k = true → (carrierPeak k c).rd (F.PROT_CBCCNT.COUNT k) = min 65535 (c.rd (F.PROT_CBCCNT.COUNT k) + 1)) ∧
      bitAt (carrierPeak k c).prot.forced k = c.cbcHolds k := by
  refine ⟨fieldsOnly_of_csr ?_ (carrierPeak_csr k c), fun hp => ?_, by rw [carrierPeak_forced, bitAt_setBit]⟩
  · refine fieldsOnly_wr ?_ (by simp)
    cases bitAt c.prot.period k
    · exact fieldsOnly_refl _ c
    · exact fieldsOnly_cntSat (fieldsOnly_refl _ c) (by simp)
  · have hkey : (F.PROT_CBCCNT.COUNT k).key ≠ F.PROT_STAT.CBCACT.key := by
      simp only [F.PROT_CBCCNT.COUNT, F.PROT_STAT.CBCACT, Fld.key]
      omega
    rw [Core.rd_of_csr (carrierPeak_csr k c), peakShown, hp, Core.when_true, Core.rd_wr_ne _ _ hkey, rd_cntSat_same]
    rfl

/-! ### The fast path (R287, R288) -/

/-- R287: an output of input `n` outside its window. -/
def Core.outsideWindow (c : Core) (n : Nat) (x : Int) : Prop := c.rdS (F.PROT_WIN.HI n) < x ∨ x < c.rdS (F.PROT_WIN.LO n)

/-- R287: an output outside the window before it trips. -/
def fastCounted (n : Nat) (c : Core) : Core :=
  { c with prot := { c.prot with wCnt := Tab.put 0 c.prot.wCnt n (Tab.get 0 c.prot.wCnt n + 1), wOut := setBit c.prot.wOut n true } }

theorem fastOutput_outside {n : Nat} {x : Int} {c : Core} (h : c.outsideWindow n x) : fastOutput n c x =
    if fastCnt (c.rd F.PROT_FAST.CNT) ≤ Tab.get 0 c.prot.wCnt n + 1 then protTrip F.PROT_TRIP0.WIN n (16 + n) (fastCounted n c) else fastCounted n c := by
  have hout : (decide (c.rdS (F.PROT_WIN.HI n) < x) || decide (x < c.rdS (F.PROT_WIN.LO n))) = true := by simpa [Core.outsideWindow] using h
  unfold fastOutput
  dsimp only
  rw [hout]
  rfl

/-- R287: `d` comes from `c` by outputs of input `n`, `k` of them in a row outside the window: it has tripped by `n` once, or not at all. -/
structure Core.Windowed (n k : Nat) (c d : Core) : Prop where
  regs : fieldsOnly (tripFlds F.PROT_TRIP0.WIN) c d
  count : Tab.get 0 d.prot.wCnt n = Tab.get 0 c.prot.wCnt n + k
  once : d.csr = c.csr ∨ c.Latched F.PROT_TRIP0.WIN n (16 + n) d

theorem window_keys {n : Nat} (hn : n < 12) : ∀ g ∈ tripFlds F.PROT_TRIP0.WIN,
    (F.PROT_WIN.HI n).key ≠ g.key ∧ (F.PROT_WIN.LO n).key ≠ g.key ∧ F.PROT_FAST.CNT.key ≠ g.key := by
  simp only [tripFlds, List.forall_mem_cons, Fld.key, F.PROT_WIN.HI, F.PROT_WIN.LO, F.PROT_FAST.CNT, F.PROT_TRIP0.WIN, F.PROT_STAT.TRIP,
    F.PROT_FIRST.CODE, F.PROT_TRIPCNT.COUNT, List.not_mem_nil, false_imp_iff, implies_true, and_true]
  omega

theorem Core.Windowed.outsideWindow {n k : Nat} {c d : Core} (hn : n < 12) (h : c.Windowed n k d) (x : Int) : d.outsideWindow n x ↔ c.outsideWindow n x := by
  have hhi := h.regs (F.PROT_WIN.HI n) fun g hg => (window_keys hn g hg).1
  have hlo := h.regs (F.PROT_WIN.LO n) fun g hg => (window_keys hn g hg).2.1
  unfold Core.outsideWindow Core.rdS
  rw [hhi, hlo]

theorem Core.Windowed.rd_cnt {n k : Nat} {c d : Core} (h : c.Windowed n k d) : d.rd F.PROT_FAST.CNT = c.rd F.PROT_FAST.CNT :=
  h.regs _ (by decide)

/-- R287, R299: a trip by a window that has tripped already changes nothing. -/
theorem Core.Windowed.trip {n k : Nat} {c d : Core} (hn : n < 12) (hclear : bitAt (c.rd F.PROT_TRIP0.WIN) n = false) (h : c.Windowed n k d) :
    c.Windowed n k (protTrip F.PROT_TRIP0.WIN n (16 + n) d) ∧ c.Latched F.PROT_TRIP0.WIN n (16 + n) (protTrip F.PROT_TRIP0.WIN n (16 + n) d) := by
  have hlatched : c.Latched F.PROT_TRIP0.WIN n (16 + n) (protTrip F.PROT_TRIP0.WIN n (16 + n) d) := by
    rcases h.once with hsame | hl
    · have hrd := Core.rd_of_csr hsame
      have hnew := latched_protTrip (f := F.PROT_TRIP0.WIN) (c := d) (by decide) hn (by omega : 16 + n < 256) (by rw [hrd]; exact hclear)
      unfold Core.Latched at hnew ⊢
      rwa [← hrd F.PROT_STAT.TRIP]
    · rwa [protTrip_of_latched _ hl.1]
  obtain ⟨b, hprot⟩ := protTrip_prot F.PROT_TRIP0.WIN n (16 + n) d
  exact ⟨⟨fieldsOnly_trans h.regs (fieldsOnly_protTrip _ _ _ _), by rw [hprot]; exact h.count, .inr hlatched⟩, hlatched⟩

/-- R287: one more output outside the window. -/
theorem Core.Windowed.next {n k : Nat} {c d : Core} (hn : n < 12) (hclear : bitAt (c.rd F.PROT_TRIP0.WIN) n = false) (h : c.Windowed n k d) {x : Int}
    (hx : c.outsideWindow n x) : c.Windowed n (k + 1) (fastOutput n d x) ∧
      (fastCnt (c.rd F.PROT_FAST.CNT) ≤ Tab.get 0 c.prot.wCnt n + (k + 1) → c.Latched F.PROT_TRIP0.WIN n (16 + n) (fastOutput n d x)) := by
  have hcounted : c.Windowed n (k + 1) (fastCounted n d) :=
    ⟨h.regs, (Tab.get_put_same _ _ _ _).trans (congrArg (· + 1) h.count), h.once⟩
  rw [fastOutput_outside ((h.outsideWindow hn x).mpr hx), h.rd_cnt, h.count, Nat.add_assoc]
  split
  · obtain ⟨hw, hl⟩ := hcounted.trip hn hclear
    exact ⟨hw, fun _ => hl⟩
  · next hlt => exact ⟨hcounted, fun hle => absurd hle hlt⟩

theorem windowed_foldl {n : Nat} {c : Core} (hn : n < 12) (hclear : bitAt (c.rd F.PROT_TRIP0.WIN) n = false) (outs : List Int)
    (hout : ∀ x ∈ outs, c.outsideWindow n x) : c.Windowed n outs.length (outs.foldl (fastOutput n) c) := by
  induction outs using List.reverseRecOn with
  | nil => exact ⟨fieldsOnly_refl _ c, rfl, .inl rfl⟩
  | append_singleton outs x ih =>
    rw [List.foldl_append, List.length_append]
    exact ((ih fun y hy => hout y (by simp [hy])).next hn hclear (hout x (by simp))).1

/-- R287: enough outputs in a row outside the window trip. -/
theorem fastWindow_latches {n : Nat} {c : Core} {outs : List Int} (hn : n < 12) (hen : c.on (F.SDM_CFG.EN n) = true) (hne : outs ≠ [])
    (hcnt : fastCnt (c.rd F.PROT_FAST.CNT) ≤ Tab.get 0 c.prot.wCnt n + outs.length) (hout : ∀ x ∈ outs, c.outsideWindow n x)
    (hclear : bitAt (c.rd F.PROT_TRIP0.WIN) n = false) :
    blocksOnly protBlks c (fastWindow n outs c) ∧ c.Latched F.PROT_TRIP0.WIN n (16 + n) (fastWindow n outs c) := by
  rw [show fastWindow n outs c = outs.foldl (fastOutput n) c from if_pos hen]
  refine ⟨blocksOnly_of_fieldsOnly (windowed_foldl hn hclear outs hout).regs (by decide), ?_⟩
  obtain ⟨init, x, rfl⟩ := (List.eq_nil_or_concat' outs).resolve_left hne
  rw [List.foldl_append]
  refine ((windowed_foldl hn hclear init fun y hy => hout y (by simp [hy])).next hn hclear (hout x (by simp))).2 ?_
  simpa using hcnt

theorem fastWindow_off {n : Nat} {c : Core} (outs : List Int) (h : c.on (F.SDM_CFG.EN n) = false) : fastWindow n outs c = c := if_neg (by simp [h])

theorem estOnly_curInvalid (lost : Bool) (c : Core) : c.EstOnly (curInvalid lost c) := by
  unfold curInvalid
  split
  · refine Core.EstOnly.trans ?_ (estOnly_gleanFail 5 _)
    exact (estOnly_est c _).trans ((estOnly_wr _ 1 (by decide)).trans (estOnly_raise _ _ _ _))
  · split
    · exact estOnly_wr _ _ (by decide)
    · exact Core.EstOnly.refl _

theorem estOnly_curChange (lost : Bool) (c : Core) : c.EstOnly (curChange lost c) := (estOnly_est c _).trans (estOnly_curInvalid lost _)

/-- R288: the registers that show a stream lost. -/
def lossShown (n : Nat) (c : Core) : Core :=
  ({ c with prot := { c.prot with lossNow := setBit c.prot.lossNow n true } } : Core).wr F.SDM_STAT.LOSS (setBit (c.rd F.SDM_STAT.LOSS) n true)

theorem streamLoss_on {n : Nat} {c : Core} (h : c.on (F.SDM_CFG.EN n) = true) :
    streamLoss n false c = protTrip F.PROT_TRIP1.LOSS n (32 + n) (lossShown n c) := if_pos h

theorem estOnly_streamChange (n : Nat) (present : Bool) (c : Core) : (streamLoss n present c).EstOnly (streamChange n present c) := by
  unfold streamChange
  dsimp only
  split
  · exact estOnly_curChange _ _
  · exact Core.EstOnly.refl _

/-- R288: a stream that is lost while its input is enabled. -/
theorem streamChange_latches {n : Nat} {c : Core} (hn : n < 12) (hen : c.on (F.SDM_CFG.EN n) = true) (hclear : bitAt (c.rd F.PROT_TRIP1.LOSS) n = false) :
    bitAt ((streamChange n false c).rd F.SDM_STAT.LOSS) n = true ∧ c.Latched F.PROT_TRIP1.LOSS n (32 + n) (streamChange n false c) := by
  have hest := estOnly_streamChange n false c
  rw [streamLoss_on hen] at hest
  have hcause : (lossShown n c).rd F.PROT_TRIP1.LOSS = c.rd F.PROT_TRIP1.LOSS := Core.rd_wr_ne _ _ (by decide)
  have htrip : (lossShown n c).rd F.PROT_STAT.TRIP = c.rd F.PROT_STAT.TRIP := Core.rd_wr_ne _ _ (by decide)
  have hlatched := latched_protTrip (f := F.PROT_TRIP1.LOSS) (c := lossShown n c) (by decide) hn (by omega : 32 + n < 256) (by rw [hcause]; exact hclear)
  have hloss : (lossShown n c).rd F.SDM_STAT.LOSS = setBit (c.rd F.SDM_STAT.LOSS) n true % 2 ^ 12 := Core.rd_wr_same _ _ _
  unfold Core.Latched at hlatched ⊢
  rw [htrip] at hlatched
  rw [hest.rd (by decide), hest.rd (by decide), hest.rd (by decide), hest.rd (by decide), fieldsOnly_protTrip _ _ _ _ F.SDM_STAT.LOSS (by decide), hloss,
    bitAt_mod_two_pow _ hn, bitAt_setBit]
  exact ⟨rfl, hlatched⟩

/-! ### Overcurrent (R297) -/

theorem overcurrent_latches {c : Core} (hcnt : max 1 (c.rd F.PROT_IST.T) ≤ c.prot.occCnt) (hclear : bitAt (c.rd F.PROT_TRIP1.OCC) 0 = false) :
    blocksOnly protBlks c (overcurrent c) ∧ c.Latched F.PROT_TRIP1.OCC 0 54 (overcurrent c) := by
  have hregs := blocksOnly_protTrip (f := F.PROT_TRIP1.OCC) (by decide) 0 54 c
  have hlatched := latched_protTrip (f := F.PROT_TRIP1.OCC) (code := 54) (by decide) (by decide) (by decide) hclear
  unfold overcurrent
  dsimp only
  rw [if_pos hcnt]
  split
  · exact ⟨blocksOnly_trans hregs (blocksOnly_protTrip (by decide) 0 55 _), hlatched.later (by decide) (by decide) 0 55⟩
  · exact ⟨hregs, hlatched⟩

theorem overcurrent_none {c : Core} (hocc : c.prot.occCnt < max 1 (c.rd F.PROT_IST.T)) (hocd : c.prot.ocdCnt < max 1 (c.rd F.PROT_IST.T)) :
    overcurrent c = c := by
  unfold overcurrent
  dsimp only
  rw [if_neg (by omega), if_neg (by omega)]

/-! ### The commands -/

/-- A command that is an effect on the channels, while the input is there and no power-on reset holds the domains. -/
theorem ends_onSaf {i : Instr} {s : State} {P : State → Prop} (f : AonSt → LineSt → SC → SC) (hs : s.up) (he : exec i s = .next (onSaf f s))
    (h : P { s with saf := (f s.aon s.line (s.saf, s.core)).1, core := (f s.aon s.line (s.saf, s.core)).2 }) : Ends i s P :=
  ⟨_, he.trans (congrArg _ (onSaf_run f (by rw [hs.1]; decide) hs.2)), h⟩

/-- R299: a command that trips by a cause of `d`, which shows the registers of the state before it. -/
theorem ends_trip {i : Instr} {s : State} {f : Fld} {bit code : Nat} {g : Core → Core} (d : Core) (hs : s.pwr.held = false)
    (he : exec i s = .next (onCore g s)) (hg : g s.core = protTrip f bit code d) (hd : d.csr = s.core.csr) (hf : f ∈ causeFlds) (hbit : bit < f.width)
    (hcode : code < 256) (hclear : bitAt (s.core.rd f) bit = false) :
    Ends i s fun t => (coreOnly s t ∧ blocksOnly protBlks s.core t.core) ∧ s.core.Latched f bit code t.core := by
  have hrd := Core.rd_of_csr hd
  have hlatched := latched_protTrip (c := d) (code := code) hf hbit hcode (by rw [hrd]; exact hclear)
  unfold Core.Latched at hlatched
  rw [hrd] at hlatched
  refine ends_onCore g hs he ⟨⟨rfl, ?_⟩, ?_⟩
  · rw [hg]
    exact blocksOnly_trans (blocksOnly_csr hd) (blocksOnly_protTrip hf bit code d)
  · rw [hg]
    exact hlatched

/-- R284: a channel asserts its gate-off line. -/
theorem gateOffLine_ends {s : State} {ch : Nat} (hs : s.up) (hch : ch < 2)
    (hclear : bitAt (s.core.rd (if ch = 0 then F.PROT_TRIP1.SFA else F.PROT_TRIP1.SFB)) 0 = false) :
    Ends (.gateOffLine ch) s fun t => safOnly s t ∧ t.saf = { s.saf with gate := Nat.lor s.saf.gate (2 ^ ch) } ∧
      s.core.Latched (if ch = 0 then F.PROT_TRIP1.SFA else F.PROT_TRIP1.SFB) 0 (58 + ch) t.core := by
  refine ends_onSaf (fun _ _ x => ({ x.1 with gate := Nat.lor x.1.gate (2 ^ ch) }, gateLine ch true x.2)) hs rfl ⟨rfl, rfl, ?_⟩
  obtain rfl | rfl : ch = 0 ∨ ch = 1 := by omega
  · exact latched_protTrip (c := { s.core with prot := { s.core.prot with gLow := setBit s.core.prot.gLow 0 true } }) (by decide) (by decide) (by decide) hclear
  · exact latched_protTrip (c := { s.core with prot := { s.core.prot with gLow := setBit s.core.prot.gLow 1 true } }) (by decide) (by decide) (by decide) hclear

/-- Settles O13: each command of a cause is a trip of `protTrip` behind its guard; the inputs act by their mode. -/
theorem protectionTrips : Obligations.ProtectionTrips := by
  unfold Obligations.ProtectionTrips
  intro s n k ch outs hs hn hk hch
  have hrun := hs.2
  refine ⟨?trips, ?keeps, ?noSupply, ?rises, ?cycle, ?forces, ?notCycle, ?peak, ?cbcp, ?cbcpNone, gateOffLine_ends hs hch, ?window, ?windowOff, ?loss, ?clock,
    ?overcurrent, fun hocc hocd => ends_unchanged overcurrent hrun rfl (overcurrent_none hocc hocd)⟩
  case trips =>
    intro hn8 hmode hclear
    refine ends_trip (pinSeen n true s.core) hrun rfl ?_ rfl (by decide) hn8 (by omega) hclear
    rw [if_neg (by omega), tripPin_low]
    exact tripLow_trips hmode
  case keeps =>
    intro _ hmode
    refine ends_onCore _ hrun rfl ?_
    dsimp only
    rw [if_neg (by omega), tripPin_low, tripLow_none (c := pinSeen n true s.core) hmode]
    exact ⟨rfl, fun _ => rfl, bitAt_setBit _ _ _⟩
  case noSupply =>
    intro hvio i hi
    simp only [List.mem_cons, List.not_mem_nil, or_false] at hi
    rcases hi with rfl | rfl
    · exact ends_unchanged _ hrun rfl (by rw [tripPin_no_supply hvio, ite_self])
    · exact ends_unchanged _ hrun rfl (by rw [tripPin_no_supply hvio, ite_self])
  case rises =>
    intro hvio hmode
    refine ends_onCore _ hrun rfl ?_
    dsimp only
    rw [if_neg hmode, tripPin_high hvio]
    exact ⟨rfl, fun _ => rfl, bitAt_setBit _ _ _⟩
  case cycle => exact fun hmode => ends_unchanged _ hrun rfl (if_pos hmode)
  case forces =>
    intro hmode
    refine ends_onCore _ hrun rfl ?_
    dsimp only
    rw [if_pos hmode, tripPin_low, tripLow_forces (c := pinSeen n true s.core) hmode]
    exact ⟨rfl, cbcForce_shows n (pinSeen n true s.core)⟩
  case notCycle => exact fun hmode => ends_unchanged _ hrun rfl (if_neg hmode)
  case peak => exact ends_onCore (carrierPeak k) hrun rfl ⟨rfl, carrierPeak_shows k s.core⟩
  case cbcp => exact fun hrow hclear => ends_trip _ hrun rfl (if_pos hrow) rfl (by decide) (by decide) (by decide) hclear
  case cbcpNone => exact fun hrow => ends_unchanged (cbcpTrip k) hrun rfl (if_neg (by omega))
  case window =>
    intro hen hne hcnt hout hclear
    obtain ⟨hregs, hlatched⟩ := fastWindow_latches hn hen hne hcnt hout hclear
    exact ends_onCore (fastWindow n outs) hrun rfl ⟨⟨rfl, hregs⟩, hlatched⟩
  case windowOff => exact fun hen => ends_unchanged (fastWindow n outs) hrun rfl (fastWindow_off outs hen)
  case loss => exact fun hen hclear => ends_onCore (streamChange n false) hrun rfl ⟨rfl, streamChange_latches hn hen hclear⟩
  case clock => exact ends_trip { s.core with prot := { s.core.prot with clkLost := true } } hrun rfl rfl rfl (by decide) (by decide) (by decide)
  case overcurrent =>
    intro hcnt hclear
    obtain ⟨hregs, hlatched⟩ := overcurrent_latches hcnt hclear
    exact ends_onCore overcurrent hrun rfl ⟨⟨rfl, hregs⟩, hlatched⟩

end Sys2Proof.Machine
end

section
/-! PROOF. O14: the cross-check of a window (R290 to R293) and the clearing of causes at the tick boundary (R17, R301). -/

namespace Sys2Proof.Machine

/-! ### Bits that clear -/

theorem bitAt_and (a b k : Nat) : bitAt (Nat.land a b) k = (bitAt a k && bitAt b k) := by
  simp only [bitAt_eq_testBit]
  exact Nat.testBit_and a b k

theorem bitAt_clearBits (x m k : Nat) : bitAt (clearBits x m) k = (bitAt x k && !bitAt m k) := by
  have hxor : bitAt (clearBits x m) k = (bitAt x k ^^ bitAt (Nat.land x m) k) := by
    simp only [bitAt_eq_testBit]
    exact Nat.testBit_xor x _ k
  rw [hxor, bitAt_and]
  cases bitAt x k <;> cases bitAt m k <;> rfl

theorem bitAt_bitsAt {k w : Nat} (n l : Nat) (h : k < w) : bitAt (bitsAt n l w) k = bitAt n (l + k) := by
  unfold bitsAt
  rw [bitAt_mod_two_pow _ h, bitAt_eq_testBit, bitAt_eq_testBit, Nat.testBit_div_two_pow, Nat.add_comm]

theorem bitAt_maskIf (b : Bool) : bitAt (maskIf b) 0 = b := by cases b <;> rfl

theorem ne_zero_of_bitAt {n k : Nat} (h : bitAt n k = true) : n ≠ 0 := by
  rintro rfl
  simp [bitAt_eq_testBit] at h

/-! ### The cross-check (R290 to R293) -/

/-- R290, R293: a window has been taken, with the verdicts of the voltage and the current check. -/
def checkTaken (w : XWin) (vb ib : Bool) (c : Core) : Core :=
  ({ c with prot := { c.prot with
    ended := c.prot.ended.filter (fun x => x.count != w.count), refs := c.prot.refs.filter (fun r => decide (w.count < r.count))
    miss := 0, xvBad := vb, xiBad := ib
    xvCnt := if vb then c.prot.xvCnt + 1 else 0, xiCnt := if ib then c.prot.xiCnt + 1 else 0 } } : Core).wr F.PROT_STAT.REFSTALE 0

/-- R291, R292: the second window in a row outside trips. -/
def checkTrips (c : Core) : Core :=
  let d := if 2 ≤ c.prot.xvCnt then protTrip F.PROT_TRIP1.XV 0 48 c else c
  if 2 ≤ c.prot.xiCnt then protTrip F.PROT_TRIP1.XI 0 49 d else d

/-- R290: the oldest window of which both references are there. -/
def Core.checkable (c : Core) : Option XWin := c.prot.ended.find? (fun w => (c.xRef 0 w.count).isSome && (c.xRef 1 w.count).isSome)

theorem crossCheck_window {c : Core} {w : XWin} {ra rb : XRef} (hw : c.checkable = some w) (ha : c.xRef 0 w.count = some ra)
    (hb : c.xRef 1 w.count = some rb) :
    crossCheck c = checkTrips (checkTaken w (c.xvOver w ra || c.xvOver w rb) (c.xiOver w ra || c.xiOver w rb) c) := by
  unfold Core.checkable at hw
  unfold crossCheck
  rw [hw]
  dsimp only
  rw [ha, hb]
  rfl

theorem crossCheck_none {c : Core} (h : c.checkable = none) : crossCheck c = c := by
  unfold Core.checkable at h
  unfold crossCheck
  rw [h]

/-- What a check of windows leaves to its trips. -/
structure Core.CheckTrips (c d : Core) : Prop where
  regs : fieldsOnly [F.PROT_TRIP1.XV, F.PROT_TRIP1.XI, F.PROT_STAT.TRIP, F.PROT_FIRST.CODE, F.PROT_TRIPCNT.COUNT] c d
  prot : ∃ b, d.prot = { c.prot with tripSeen := b }

theorem Core.CheckTrips.refl (c : Core) : c.CheckTrips c := ⟨fieldsOnly_refl _ c, c.prot.tripSeen, rfl⟩

theorem Core.CheckTrips.trans {c d e : Core} (h : c.CheckTrips d) (g : d.CheckTrips e) : c.CheckTrips e := by
  obtain ⟨b, hb⟩ := h.prot
  obtain ⟨b', hb'⟩ := g.prot
  exact ⟨fieldsOnly_trans h.regs g.regs, b', by rw [hb', hb]⟩

theorem checkTrips_protTrip {f : Fld} (hf : f ∈ [F.PROT_TRIP1.XV, F.PROT_TRIP1.XI]) (code : Nat) (c : Core) : c.CheckTrips (protTrip f 0 code c) := by
  refine ⟨fieldsOnly_mono (fieldsOnly_protTrip f 0 code c) ?_, protTrip_prot f 0 code c⟩
  revert f
  decide

theorem checkTrips_shows (c : Core) : c.CheckTrips (checkTrips c) := by
  have hif : ∀ {f : Fld}, f ∈ [F.PROT_TRIP1.XV, F.PROT_TRIP1.XI] → ∀ (n code : Nat) (d : Core), d.CheckTrips (if 2 ≤ n then protTrip f 0 code d else d) := by
    intro f hf n code d
    split
    · exact checkTrips_protTrip hf code d
    · exact .refl d
  exact (hif (f := F.PROT_TRIP1.XV) (by simp) c.prot.xvCnt 48 c).trans (hif (f := F.PROT_TRIP1.XI) (by simp) c.prot.xiCnt 49 _)

/-- R291: the second window in a row outside the voltage check. -/
theorem checkTrips_latches {c : Core} (hcnt : 2 ≤ c.prot.xvCnt) (hclear : bitAt (c.rd F.PROT_TRIP1.XV) 0 = false) :
    c.Latched F.PROT_TRIP1.XV 0 48 (checkTrips c) := by
  have hlatched := latched_protTrip (f := F.PROT_TRIP1.XV) (code := 48) (by decide) (by decide) (by decide) hclear
  unfold checkTrips
  dsimp only
  rw [if_pos hcnt]
  split
  · exact hlatched.later (by decide) (by decide) 0 49
  · exact hlatched

/-- R290, R291, R293: what the evaluation of a window shows, `out` its voltage verdict. -/
theorem checkTaken_shows (w : XWin) (out ib : Bool) (c : Core) :
    blocksOnly protBlks c (checkTrips (checkTaken w out ib c)) ∧
      (checkTrips (checkTaken w out ib c)).prot.xvCnt = (if out then c.prot.xvCnt + 1 else 0) ∧
      (checkTrips (checkTaken w out ib c)).rd F.PROT_STAT.REFSTALE = 0 ∧ (checkTrips (checkTaken w out ib c)).prot.miss = 0 ∧
      (out = true → 1 ≤ c.prot.xvCnt → bitAt (c.rd F.PROT_TRIP1.XV) 0 = false →
        bitAt ((checkTrips (checkTaken w out ib c)).rd F.PROT_TRIP1.XV) 0 = true ∧ (checkTrips (checkTaken w out ib c)).rd F.PROT_STAT.TRIP ≠ 0) := by
  have htrips := checkTrips_shows (checkTaken w out ib c)
  obtain ⟨b, hprot⟩ := htrips.prot
  have htaken : blocksOnly protBlks c (checkTaken w out ib c) := blocksOnly_wr (blocksOnly_csr rfl) (by decide)
  refine ⟨blocksOnly_trans htaken (blocksOnly_of_fieldsOnly htrips.regs (by decide)), by rw [hprot]; rfl, ?_, by rw [hprot]; rfl, ?_⟩
  · rw [htrips.regs _ (by decide)]
    exact Core.rd_wr_same _ _ _
  · rintro rfl hcnt hclear
    have hxv : (checkTaken w true ib c).rd F.PROT_TRIP1.XV = c.rd F.PROT_TRIP1.XV := Core.rd_wr_ne _ _ (by decide)
    obtain ⟨hbit, htrip, -⟩ := checkTrips_latches (c := checkTaken w true ib c) (Nat.succ_le_succ hcnt) (by rw [hxv]; exact hclear)
    exact ⟨hbit, htrip⟩

/-- R293: references missed for ten windows. -/
theorem refStale_missed {c : Core} (hmiss : 10 ≤ c.prot.miss) (hstale : c.rd F.PROT_STAT.REFSTALE = 0) :
    refStale c = (c.wr F.PROT_STAT.REFSTALE 1).raise 67 0 0 := if_pos ⟨hmiss, by simp [Core.on_eq, hstale]⟩

theorem refStale_none {c : Core} (h : c.prot.miss < 10) : refStale c = c := if_neg fun hmiss => by omega

/-! ### The clearing of causes (R301) -/

/-- R301: what the clearing of a cause writes. -/
theorem fieldsOnly_clearCause {fs : List Fld} {c d : Core} {f : Fld} (bits present : Nat) (h : fieldsOnly fs c d) (hf : f ∈ fs)
    (href : F.PROT_STAT.CLRREF ∈ fs) : fieldsOnly fs c (clearCause f bits present d) := by
  unfold clearCause
  dsimp only
  split
  · exact fieldsOnly_wr h hf
  · exact fieldsOnly_raise (fieldsOnly_wr (fieldsOnly_wr h hf) href)

theorem clearCause_prot (f : Fld) (bits present : Nat) (c : Core) : (clearCause f bits present c).prot = c.prot := by
  unfold clearCause
  dsimp only
  split <;> rfl

theorem cause_key_ne_clrref {f : Fld} (hf : f ∈ causeFlds) : f.key ≠ F.PROT_STAT.CLRREF.key := by
  revert f
  decide

/-- R301: a bit that a one is written to clears unless its cause is present. -/
theorem bitAt_clearCause {f : Fld} {k : Nat} (hf : f ∈ causeFlds) (hk : k < f.width) (bits present : Nat) (c : Core) :
    bitAt ((clearCause f bits present c).rd f) k = (bitAt (c.rd f) k && (!bitAt bits k || bitAt present k)) := by
  have hrd : (clearCause f bits present c).rd f = clearBits (c.rd f) (clearBits (Nat.land bits (c.rd f)) present) % 2 ^ f.width := by
    unfold clearCause
    dsimp only
    split
    · exact Core.rd_wr_same _ _ _
    · rw [Core.rd_raise, Core.rd_wr_ne _ _ (cause_key_ne_clrref hf), Core.rd_wr_same]
  rw [hrd, bitAt_mod_two_pow _ hk, bitAt_clearBits, bitAt_clearBits, bitAt_and]
  cases bitAt (c.rd f) k <;> cases bitAt bits k <;> cases bitAt present k <;> rfl

/-- R301: CLRREF stays until it is cleared. -/
theorem clearCause_refused_stays {f : Fld} (hf : f ∈ causeFlds) (bits present : Nat) {c : Core} (h : c.rd F.PROT_STAT.CLRREF = 1) :
    (clearCause f bits present c).rd F.PROT_STAT.CLRREF = 1 := by
  unfold clearCause
  dsimp only
  split
  · rw [Core.rd_wr_ne _ _ (cause_key_ne_clrref hf).symm, h]
  · rw [Core.rd_raise, Core.rd_wr_same]
    rfl

/-- R301: a bit whose cause is present is refused. -/
theorem clearCause_refuses {f : Fld} {k bits present : Nat} {c : Core} (hset : bitAt (c.rd f) k = true) (hbits : bitAt bits k = true)
    (hpresent : bitAt present k = true) : (clearCause f bits present c).rd F.PROT_STAT.CLRREF = 1 := by
  have hne : Nat.land (Nat.land bits (c.rd f)) present ≠ 0 := ne_zero_of_bitAt (k := k) (by rw [bitAt_and, bitAt_and, hset, hbits, hpresent]; rfl)
  unfold clearCause
  dsimp only
  rw [if_neg hne, Core.rd_raise, Core.rd_wr_same]
  rfl

/-- R301: what the end of a trip writes. -/
theorem fieldsOnly_tripEnd (c : Core) : fieldsOnly [F.PROT_STAT.TRIP, F.PROT_FIRST.CODE] c (tripEnd c) := by
  unfold tripEnd
  split
  · exact fieldsOnly_wr (fieldsOnly_wr (fieldsOnly_refl _ c) (by simp)) (by simp)
  · exact fieldsOnly_refl _ c

theorem rd_tripEnd {f : Fld} (c : Core) (hf : f ∈ F.PROT_STAT.CLRREF :: causeFlds) : (tripEnd c).rd f = c.rd f := by
  refine fieldsOnly_tripEnd c f ?_
  revert f
  decide

/-- R301: what a clearing write may change. -/
def clearFlds : List Fld := F.PROT_STAT.CLRREF :: F.PROT_STAT.TRIP :: F.PROT_FIRST.CODE :: causeFlds

theorem blocksOnly_of_clearFlds {c d : Core} (h : fieldsOnly clearFlds c d) : blocksOnly protBlks c d := blocksOnly_of_fieldsOnly h (by decide)

theorem fieldsOnly_clear_tripEnd {c d : Core} (h : fieldsOnly clearFlds c d) : fieldsOnly clearFlds c (tripEnd d) :=
  fieldsOnly_trans h (fieldsOnly_mono (fieldsOnly_tripEnd d) (by decide))

/-- R301: the boundary of a write to PROT_TRIP0. -/
theorem clearTrip0_shows (w : Nat) (c : Core) :
    blocksOnly protBlks c (clearTrip0 w c) ∧
      (∀ n, n < 8 → bitAt ((clearTrip0 w c).rd F.PROT_TRIP0.TIN) n = (bitAt (c.rd F.PROT_TRIP0.TIN) n && (!bitAt w n || bitAt c.prot.low n))) ∧
      (∀ n, n < 8 → bitAt (c.rd F.PROT_TRIP0.TIN) n = true → bitAt w n = true → bitAt c.prot.low n = true →
        (clearTrip0 w c).rd F.PROT_STAT.CLRREF = 1) := by
  unfold clearTrip0
  have hbit : ∀ n, n < 8 → bitAt (bitsAt w 0 8) n = bitAt w n := fun n hn => by rw [bitAt_bitsAt w 0 hn, Nat.zero_add]
  refine ⟨?_, fun n hn => ?_, fun n hn hset hw hlow => ?_⟩
  · exact blocksOnly_of_clearFlds (fieldsOnly_clear_tripEnd
      (fieldsOnly_clearCause _ _ (fieldsOnly_clearCause _ _ (fieldsOnly_refl _ c) (by decide) (by decide)) (by decide) (by decide)))
  · have hwin := fieldsOnly_clearCause (fs := [F.PROT_TRIP0.WIN, F.PROT_STAT.CLRREF]) (f := F.PROT_TRIP0.WIN) (bitsAt w 8 12) c.prot.wOut
      (fieldsOnly_refl _ (clearCause F.PROT_TRIP0.TIN (bitsAt w 0 8) c.prot.low c)) (by simp) (by simp)
    rw [rd_tripEnd _ (by decide), hwin _ (by decide), bitAt_clearCause (by decide) hn, hbit n hn]
  · rw [rd_tripEnd _ (by decide)]
    exact clearCause_refused_stays (by decide) _ _ (clearCause_refuses hset ((hbit n hn).trans hw) hlow)

/-- R301: the one-bit causes of PROT_TRIP1 but CLK, with whether each is present. -/
def slowCauses (p : ProtSt) : List (Fld × Bool) :=
  [(F.PROT_TRIP1.XV, p.xvBad), (F.PROT_TRIP1.XI, p.xiBad), (F.PROT_TRIP1.OV, p.ovBad || p.uvBad), (F.PROT_TRIP1.UV, p.ovBad || p.uvBad),
    (F.PROT_TRIP1.OT, p.otBad), (F.PROT_TRIP1.LOST, p.lostSet != []), (F.PROT_TRIP1.OCC, p.ocBad), (F.PROT_TRIP1.OCD, p.ocBad),
    (F.PROT_TRIP1.ISO, !p.isoGone), (F.PROT_TRIP1.CBCP, (upTo 6).any (fun k => bitAt p.cbcp k && Tab.get 0 p.rowF k != 0)),
    (F.PROT_TRIP1.SFA, bitAt p.gLow 0), (F.PROT_TRIP1.SFB, bitAt p.gLow 1)]

/-- R301: a write to a one-bit cause. -/
def clearOne (w : Nat) (c : Core) (x : Fld × Bool) : Core := clearCause x.1 (bitsAt w x.1.lsb 1) (maskIf x.2) c

theorem clearTrip1_eq (w : Nat) (c : Core) : clearTrip1 w c =
    tripEnd (clearCause F.PROT_TRIP1.CLK (bitsAt w 24 1) (maskIf c.prot.clkLost)
      ((slowCauses c.prot).foldl (clearOne w) (clearCause F.PROT_TRIP1.LOSS (bitsAt w 0 12) c.prot.lossNow c))) := rfl

theorem fieldsOnly_foldl_clearOne {fs : List Fld} (href : F.PROT_STAT.CLRREF ∈ fs) (w : Nat) (xs : List (Fld × Bool)) (hxs : ∀ f ∈ xs.map Prod.fst, f ∈ fs)
    {c d : Core} (h : fieldsOnly fs c d) : fieldsOnly fs c (xs.foldl (clearOne w) d) := by
  induction xs generalizing d with
  | nil => exact h
  | cons x xs ih =>
    exact ih (fun f hf => hxs f (by simp only [List.map_cons, List.mem_cons]; exact .inr hf)) (fieldsOnly_clearCause _ _ h (hxs x.1 (by simp)) href)

/-- R301: the fields of PROT_TRIP1 but CLK, and CLRREF. -/
def slowFlds : List Fld := F.PROT_STAT.CLRREF :: F.PROT_TRIP1.LOSS :: (slowCauses {}).map Prod.fst

theorem fieldsOnly_slowCauses (w : Nat) (c : Core) :
    fieldsOnly slowFlds c ((slowCauses c.prot).foldl (clearOne w) (clearCause F.PROT_TRIP1.LOSS (bitsAt w 0 12) c.prot.lossNow c)) := by
  have hslow : (slowCauses c.prot).map Prod.fst = (slowCauses {}).map Prod.fst := rfl
  refine fieldsOnly_foldl_clearOne (by decide) w _ ?_ (fieldsOnly_clearCause _ _ (fieldsOnly_refl _ c) (by decide) (by decide))
  rw [hslow]
  decide

/-- R301: the boundary of a write to PROT_TRIP1. -/
theorem clearTrip1_shows (w : Nat) (c : Core) : blocksOnly protBlks c (clearTrip1 w c) ∧
    bitAt ((clearTrip1 w c).rd F.PROT_TRIP1.CLK) 0 = (bitAt (c.rd F.PROT_TRIP1.CLK) 0 && (!bitAt w 24 || c.prot.clkLost)) := by
  have hslow := fieldsOnly_slowCauses w c
  have hbits : bitAt (bitsAt w 24 1) 0 = bitAt w 24 := bitAt_bitsAt w 24 (by decide)
  rw [clearTrip1_eq]
  refine ⟨?_, ?_⟩
  · exact blocksOnly_of_clearFlds (fieldsOnly_clear_tripEnd (fieldsOnly_clearCause _ _ (fieldsOnly_mono hslow (by decide)) (by decide) (by decide)))
  · rw [rd_tripEnd _ (by decide), bitAt_clearCause (by decide) (by decide), hslow _ (by decide), hbits, bitAt_maskIf]

theorem commitTick_trip0 (bits : Nat) (c : Core) :
    commitTick { c with wait := [⟨causeWord 0, bits, .normal, false, .f0⟩] } = clearTrip0 bits { c with wait := [] } := by
  have hpm : (causeWord 0).key ≠ F.CTE_PMDATA.DATA.key := by decide
  have hdm : (causeWord 0).key ≠ F.CTE_DMDATA.DATA.key := by decide
  rw [commitTick_alone rfl (by decide) (by decide), ctlApply, if_neg hpm, if_neg hdm, if_pos rfl]

theorem commitTick_trip1 (bits : Nat) (c : Core) :
    commitTick { c with wait := [⟨causeWord 1, bits, .normal, false, .f0⟩] } = clearTrip1 bits { c with wait := [] } := by
  have hpm : (causeWord 1).key ≠ F.CTE_PMDATA.DATA.key := by decide
  have hdm : (causeWord 1).key ≠ F.CTE_DMDATA.DATA.key := by decide
  have htrip0 : (causeWord 1).key ≠ (causeWord 0).key := by decide
  rw [commitTick_alone rfl (by decide) (by decide), ctlApply, if_neg hpm, if_neg hdm, if_neg htrip0, if_pos rfl]

/-- Settles O14: the oldest window with both references is taken and may trip; a clearing write is held and meets `clearTrip0` or `clearTrip1` at
its boundary. -/
theorem protectionChecks : Obligations.ProtectionChecks := by
  unfold Obligations.ProtectionChecks
  intro s bits hs
  refine ⟨?window, fun hnone => ends_unchanged crossCheck hs rfl (crossCheck_none hnone), ?stale, fun hmiss => ends_unchanged refStale hs rfl (refStale_none hmiss),
    ?held, ?trip0, ?trip1⟩
  case window =>
    intro w ra rb hw ha hb
    refine ends_onCore crossCheck hs rfl ?_
    rw [crossCheck_window hw ha hb]
    obtain ⟨hregs, hshows⟩ := checkTaken_shows w (s.core.xvOver w ra || s.core.xvOver w rb) (s.core.xiOver w ra || s.core.xiOver w rb) s.core
    exact ⟨⟨rfl, hregs⟩, hshows⟩
  case stale =>
    intro hmiss hstale
    refine ends_onCore refStale hs rfl ?_
    rw [refStale_missed hmiss hstale]
    exact ⟨rfl, fieldsOnly_raise (fieldsOnly_wr (fieldsOnly_refl _ _) (by simp)), (Core.rd_raise _ _ _ _ _).trans (Core.rd_wr_same _ _ _)⟩
  case held =>
    intro reg hreg
    have hunseen : (causeWord reg).heldUnseen = true := by
      revert reg
      decide
    exact ends_holdNow hs hunseen rfl
  case trip0 =>
    have hlands := clearTrip0_shows bits { s.core with wait := [] }
    rw [← commitTick_trip0] at hlands
    exact hlands
  case trip1 =>
    have hlands := clearTrip1_shows bits { s.core with wait := [] }
    rw [← commitTick_trip1] at hlands
    exact hlands

end Sys2Proof.Machine
end

section
/-! PROOF. What acting on demands and faults leaves of the channels (R313 to R320): their inputs and active set, what they have read, and the
references of PROT (R290). -/

namespace Sys2Proof.Machine

/-! ### Loops over inputs and outputs -/

theorem forUp_succ {α : Type} (n : Nat) (f : Nat → α → α) (x : α) : forUp (n + 1) f x = f n (forUp n f x) := by
  unfold forUp
  rw [List.range_succ, List.foldl_append]
  rfl

theorem forUp_invariant {α : Type} {P : α → Prop} {n : Nat} {f : Nat → α → α} {x : α} (h : P x) (hf : ∀ k a, P a → P (f k a)) : P (forUp n f x) := by
  induction n with
  | zero => exact h
  | succ n ih => rw [forUp_succ]; exact hf n _ ih

/-- A loop of which only step `j` touches what `get` shows: it shows what step `j` makes of a state that still shows what it did. -/
theorem forUp_at {α β : Type} {P : α → Prop} {n j : Nat} {f : Nat → α → α} {x : α} (get : α → β) (hj : j < n) (h : P x) (hf : ∀ k a, P a → P (f k a))
    (hother : ∀ k a, k ≠ j → get (f k a) = get a) : ∃ a, P a ∧ get a = get x ∧ get (forUp n f x) = get (f j a) := by
  induction n with
  | zero => exact absurd hj (by omega)
  | succ n ih =>
    rw [forUp_succ]
    by_cases hlast : j = n
    · subst hlast
      exact ⟨forUp j f x, forUp_invariant h hf,
        List.foldlRecOn (List.range j) _ (motive := fun a => get a = get x) rfl fun a ha k hk => (hother k a (by simp at hk; omega)).trans ha, rfl⟩
    · obtain ⟨a, hP, hget, hshow⟩ := ih (by omega)
      exact ⟨a, hP, hget, (hother n _ (Ne.symm hlast)).trans hshow⟩

theorem SafSt.i_setI (s : SafSt) (k j : Nat) (f : SafIn → SafIn) : (s.setI k f).i j = if j = k then f (s.i k) else s.i j := Tab.get_put _ _ _ _ _

theorem SafSt.i_setI_same (s : SafSt) (k : Nat) (f : SafIn → SafIn) : (s.setI k f).i k = f (s.i k) := Tab.get_put_same _ _ _ _

theorem SafSt.i_setI_ne (s : SafSt) {k j : Nat} (f : SafIn → SafIn) (h : j ≠ k) : (s.setI k f).i j = s.i j := Tab.get_put_ne _ _ _ h

theorem SafSt.o_setO_same (s : SafSt) (k : Nat) (f : SafOut → SafOut) : (s.setO k f).o k = f (s.o k) := Tab.get_put_same _ _ _ _

theorem SafSt.o_setO_ne (s : SafSt) {k j : Nat} (f : SafOut → SafOut) (h : j ≠ k) : (s.setO k f).o j = s.o j := Tab.get_put_ne _ _ _ h

/-! ### What the channels have read (R290, R310, R312) -/

/-- R310 to R312: the means of the last window, the exchanges missing in a row, the readbacks of the switches and of the gates. -/
def SafSt.readings (s : SafSt) : (List Int × List Int) × (Nat × Nat × Nat × Nat × Nat) × Bool × Bool :=
  ((s.vb, s.i2), (s.missing, s.prb, s.prbB, s.mrb, s.mrbB), s.gsafe, s.gsafeB)

/-- From `s` to `t` what the channels have read stays, and the CF levels of each output. -/
structure SafSt.Kept (s t : SafSt) : Prop where
  read : t.readings = s.readings
  cf : ∀ j, (t.o j).cfA = (s.o j).cfA ∧ (t.o j).cfB = (s.o j).cfB

theorem SafSt.Kept.refl (s : SafSt) : s.Kept s := ⟨rfl, fun _ => ⟨rfl, rfl⟩⟩

theorem SafSt.Kept.trans {s t u : SafSt} (h : s.Kept t) (g : t.Kept u) : s.Kept u :=
  ⟨g.read.trans h.read, fun j => ⟨(g.cf j).1.trans (h.cf j).1, (g.cf j).2.trans (h.cf j).2⟩⟩

theorem SafSt.Kept.of_eq {s t : SafSt} (h : (t.readings, t.out) = (s.readings, s.out)) : s.Kept t := by
  obtain ⟨hread, hout⟩ := Prod.mk.inj h
  exact ⟨hread, fun j => by unfold SafSt.o; rw [hout]; exact ⟨rfl, rfl⟩⟩

theorem SafSt.Kept.setO (s : SafSt) (k : Nat) (f : SafOut → SafOut) (h : (f (s.o k)).cfA = (s.o k).cfA ∧ (f (s.o k)).cfB = (s.o k).cfB) :
    s.Kept (s.setO k f) := by
  refine ⟨rfl, fun j => ?_⟩
  rw [SafSt.o_setO]
  split
  · next he => rw [he]; exact h
  · exact ⟨rfl, rfl⟩

theorem kept_forUp {n : Nat} {f : Nat → SafSt → SafSt} (hf : ∀ (k : Nat) (s : SafSt), s.Kept (f k s)) (s : SafSt) : s.Kept (forUp n f s) :=
  forUp_invariant (.refl s) fun k a ha => ha.trans (hf k a)

/-! ### What acts on demands and what that leaves (R318) -/

/-- The channels beside what acting on a demand changes. -/
def SafSt.besideActs (s : SafSt) : SafSt := { s with gate := 0, rst := false, req := 0, held := 0, out := [], dem := 0 }

/-- R318: from `s` to `t` the channels have acted on demands: gate-off lines are asserted, switches are turned off. -/
structure SafSt.Acts (s t : SafSt) : Prop where
  rest : t.besideActs = s.besideActs
  cf : ∀ j, (t.o j).cfA = (s.o j).cfA ∧ (t.o j).cfB = (s.o j).cfB
  gate : ∀ ch, bitAt s.gate ch = true → bitAt t.gate ch = true
  off : ∀ j, ((s.o j).p = false → (t.o j).p = false) ∧ ((s.o j).m = false → (t.o j).m = false)

theorem SafSt.Acts.refl (s : SafSt) : s.Acts s := ⟨rfl, fun _ => ⟨rfl, rfl⟩, fun _ => id, fun _ => ⟨id, id⟩⟩

theorem SafSt.Acts.trans {s t u : SafSt} (h : s.Acts t) (g : t.Acts u) : s.Acts u :=
  ⟨g.rest.trans h.rest, fun j => ⟨(g.cf j).1.trans (h.cf j).1, (g.cf j).2.trans (h.cf j).2⟩, fun ch hch => g.gate ch (h.gate ch hch),
    fun j => ⟨fun hp => (g.off j).1 ((h.off j).1 hp), fun hm => (g.off j).2 ((h.off j).2 hm)⟩⟩

theorem SafSt.Acts.kept {s t : SafSt} (h : s.Acts t) : s.Kept t := ⟨show t.besideActs.readings = s.besideActs.readings by rw [h.rest], h.cf⟩

theorem SafSt.Acts.i {s t : SafSt} (h : s.Acts t) (k : Nat) : t.i k = s.i k :=
  show t.besideActs.i k = s.besideActs.i k by rw [h.rest]

theorem SafSt.Acts.mode {s t : SafSt} (h : s.Acts t) (k : Nat) : t.mode k = s.mode k :=
  show t.besideActs.mode k = s.besideActs.mode k by rw [h.rest]

theorem SafSt.Acts.runs {s t : SafSt} (h : s.Acts t) (ch : Nat) : t.runs ch = s.runs ch :=
  show t.besideActs.runs ch = s.besideActs.runs ch by rw [h.rest]

theorem acts_dem (s : SafSt) (d : Nat) : s.Acts { s with dem := d } := ⟨rfl, fun _ => ⟨rfl, rfl⟩, fun _ => id, fun _ => ⟨id, id⟩⟩

/-- R318 step 3: the switches that a channel turns off on an output. -/
def SafOut.dropped (ch : Nat) (deg : Bool) (o : SafOut) : SafOut := { o with p := o.p && !(ch == 0 || deg), m := o.m && !(ch == 1 || deg) }

theorem dropSwitches_eq (ch mask : Nat) (s : SafSt) :
    dropSwitches ch mask s = forUp 6 (fun k s => if bitAt mask k then s.setO k (SafOut.dropped ch s.deg) else s) s := rfl

theorem acts_dropped (ch : Nat) (deg : Bool) (k : Nat) (s : SafSt) : s.Acts (s.setO k (SafOut.dropped ch deg)) := by
  have ho : ∀ j, (s.setO k (SafOut.dropped ch deg)).o j = SafOut.dropped ch deg (s.o j) ∨ (s.setO k (SafOut.dropped ch deg)).o j = s.o j := by
    intro j
    rw [SafSt.o_setO]
    split
    · next he => exact .inl (by rw [he])
    · exact .inr rfl
  refine ⟨rfl, fun j => ?_, fun _ => id, fun j => ?_⟩
  · rcases ho j with h | h <;> rw [h] <;> exact ⟨rfl, rfl⟩
  · rcases ho j with h | h
    · rw [h]
      exact ⟨fun hp => by simp [SafOut.dropped, hp], fun hm => by simp [SafOut.dropped, hm]⟩
    · rw [h]
      exact ⟨id, id⟩

theorem acts_dropSwitches (ch mask : Nat) (s : SafSt) : s.Acts (dropSwitches ch mask s) := by
  rw [dropSwitches_eq]
  refine forUp_invariant (.refl s) fun k a ha => ha.trans ?_
  split
  · exact acts_dropped ch a.deg k a
  · exact .refl a

theorem dropSwitches_rst (ch mask : Nat) (s : SafSt) : (dropSwitches ch mask s).rst = s.rst := by
  rw [dropSwitches_eq]
  refine forUp_invariant (P := fun a => SafSt.rst a = s.rst) rfl fun k a ha => ?_
  split
  · exact ha
  · exact ha

theorem dropSwitches_gate (ch mask : Nat) (s : SafSt) : (dropSwitches ch mask s).gate = s.gate := by
  rw [dropSwitches_eq]
  refine forUp_invariant (P := fun a => SafSt.gate a = s.gate) rfl fun k a ha => ?_
  split
  · exact ha
  · exact ha

/-- R318 step 3: an output of the mask. -/
theorem dropSwitches_o (ch : Nat) {mask j : Nat} (hj : j < 6) (hmask : bitAt mask j = true) (s : SafSt) :
    ∃ deg, (dropSwitches ch mask s).o j = SafOut.dropped ch deg (s.o j) := by
  have hother : ∀ k a, k ≠ j → SafSt.o (if bitAt mask k then SafSt.setO a k (SafOut.dropped ch a.deg) else a) j = SafSt.o a j := by
    intro k a hk
    split
    · exact SafSt.o_setO_ne a _ hk.symm
    · rfl
  obtain ⟨a, -, ha, hshow⟩ := forUp_at (P := fun _ => True) (fun a => SafSt.o a j) hj (x := s) trivial (fun _ _ _ => trivial) hother
  refine ⟨a.deg, ?_⟩
  rw [dropSwitches_eq]
  refine hshow.trans ?_
  rw [if_pos hmask, SafSt.o_setO_same, ha]

/-- R318: a channel's line and what its demand asks for, before it turns off switches. -/
def SafSt.lineDown (ch mask : Nat) (s : SafSt) : SafSt :=
  { s with gate := Nat.lor s.gate (2 ^ ch), rst := true, req := clearBits s.req mask, held := clearBits s.held mask }

theorem channelAct_fst (ch mask : Nat) (x : SC) : (channelAct ch mask x).1 = dropSwitches ch mask (x.1.lineDown ch mask) := rfl

theorem acts_lineDown (ch mask : Nat) (s : SafSt) : s.Acts (s.lineDown ch mask) :=
  ⟨rfl, fun _ => ⟨rfl, rfl⟩, fun k hk => bitAt_lor _ _ k hk, fun _ => ⟨id, id⟩⟩

theorem acts_channelAct (ch mask : Nat) (x : SC) : x.1.Acts (channelAct ch mask x).1 := by
  rw [channelAct_fst]
  exact (acts_lineDown ch mask x.1).trans (acts_dropSwitches ch mask _)

theorem acts_channelsAct (chs mask : Nat) (x : SC) : x.1.Acts (channelsAct chs mask x).1 := by
  unfold channelsAct
  refine forUp_invariant (P := fun y : SC => x.1.Acts y.1) (.refl x.1) fun ch y hy => hy.trans ?_
  split
  · exact acts_channelAct ch mask y
  · exact .refl y.1

theorem demandAct_dem (chs : Nat) (l : LineSt) (x : SC) : (demandAct chs l x).1.dem = x.1.demands l := rfl

/-- R316: the channels behind an act on demands, but for what is reported. -/
theorem demandAct_fst (chs : Nat) (l : LineSt) (x : SC) : (demandAct chs l x).1 =
    { (if x.1.demands l = 0 then x else channelsAct chs (x.1.affected (x.1.demands l)) x).1 with dem := x.1.demands l } := rfl

theorem acts_demandAct (chs : Nat) (l : LineSt) (x : SC) : x.1.Acts (demandAct chs l x).1 := by
  rw [demandAct_fst]
  refine SafSt.Acts.trans ?_ (acts_dem _ _)
  split
  · exact .refl x.1
  · exact acts_channelsAct chs _ x

/-! ### The references of PROT (R290) -/

/-- R290: the references that PROT has, and those that wait for a tick boundary. -/
def Core.references (c : Core) : List XRef × List (XRef × Bool) := (c.prot.refs, c.prot.refIn)

theorem protTrip_references (f : Fld) (bit code : Nat) (c : Core) : (protTrip f bit code c).references = c.references := by
  obtain ⟨b, hprot⟩ := protTrip_prot f bit code c
  unfold Core.references
  rw [hprot]

theorem gateLine_references (ch : Nat) (low : Bool) (c : Core) : (gateLine ch low c).references = c.references := by
  unfold gateLine
  dsimp only
  split
  · split
    · exact protTrip_references _ _ _ _
    · exact protTrip_references _ _ _ _
  · rfl

theorem channelsAct_references (chs mask : Nat) (x : SC) : (channelsAct chs mask x).2.references = x.2.references := by
  unfold channelsAct
  refine forUp_invariant (P := fun y : SC => y.2.references = x.2.references) rfl fun ch y hy => ?_
  split
  · exact (gateLine_references ch true y.2).trans hy
  · exact hy

theorem demandAct_references (chs : Nat) (l : LineSt) (x : SC) : (demandAct chs l x).2.references = x.2.references := by
  unfold demandAct
  dsimp only
  refine forUp_invariant (P := fun c : Core => c.references = x.2.references) ?_ fun j c hc => ?_
  · split
    · rfl
    · exact channelsAct_references chs _ x
  · split
    · exact hc
    · exact hc

/-! ### Faults (R312 to R315) -/

theorem kept_recordFault (ch code : Nat) (x : SC) : x.1.Kept (recordFault ch code x).1 := by
  unfold recordFault
  dsimp only
  split
  · exact .of_eq rfl
  · exact .of_eq rfl

theorem kept_twoFault (code : Nat) (x : SC) : x.1.Kept (twoFault code x).1 :=
  ((kept_recordFault 0 code x).trans (kept_recordFault 1 code _)).trans (.of_eq rfl)

theorem kept_misDue (x : SC) : x.1.Kept (misDue x).1 := by
  have hfold : ∀ (ms : List (Nat × Nat)) (y : SC), y.1.Kept (ms.foldl (fun x m => twoFault m.1 x) y).1 := by
    intro ms
    induction ms with
    | nil => exact fun y => .refl y.1
    | cons m ms ih => exact fun y => (kept_twoFault m.1 y).trans (ih _)
  unfold misDue
  refine SafSt.Kept.trans ?_ (hfold _ _)
  exact .of_eq rfl

theorem kept_singleFault (ch code : Nat) (l : LineSt) (x : SC) : x.1.Kept (singleFault ch code l x).1 := by
  have hrec := kept_recordFault ch code x
  unfold singleFault
  dsimp only
  split
  · exact .refl x.1
  · split
    · exact hrec.trans (.of_eq rfl)
    · split
      · exact hrec.trans (.of_eq rfl)
      · exact hrec.trans (.of_eq rfl)

theorem singleFault_references (ch code : Nat) (l : LineSt) (x : SC) : (singleFault ch code l x).2.references = x.2.references := by
  unfold singleFault
  dsimp only
  split
  · rfl
  · split
    · rfl
    · split
      · rfl
      · rfl

theorem kept_mismatch (code : Nat) (s : SafSt) : s.Kept (mismatch code s) := by
  unfold mismatch
  split
  · exact .refl s
  · exact .of_eq rfl

/-- R313: a pin out of range is a fault of one channel or of none. -/
theorem rangeFault_cases (a b : List Int) (l : LineSt) (x : SC) : rangeFault a b l x = x ∨ ∃ ch, rangeFault a b l x = singleFault ch 9 l x := by
  unfold rangeFault
  dsimp only
  split
  · exact .inr ⟨1, rfl⟩
  · split
    · exact .inr ⟨0, rfl⟩
    · exact .inl rfl

theorem kept_rangeFault (a b : List Int) (l : LineSt) (x : SC) : x.1.Kept (rangeFault a b l x).1 := by
  rcases rangeFault_cases a b l x with h | ⟨ch, h⟩ <;> rw [h]
  · exact .refl x.1
  · exact kept_singleFault ch 9 l x

theorem rangeFault_references (a b : List Int) (l : LineSt) (x : SC) : (rangeFault a b l x).2.references = x.2.references := by
  rcases rangeFault_cases a b l x with h | ⟨ch, h⟩ <;> rw [h]
  exact singleFault_references ch 9 l x

end Sys2Proof.Machine
end

section
/-! PROOF. O26: what the channels sample, test and pass on to PROT (R290, R311, R316, R321 to R323). -/

namespace Sys2Proof.Machine

/-! ### Demands (R316) -/

theorem SafSt.demands_conf {s : SafSt} (h : s.conf = true) (l : LineSt) : s.demands l =
    b2n ((upTo 8).any s.inDemand) + 2 * b2n l.noTone + 4 * b2n (s.out3 || hasRun s s.n3 (s.nLim 3))
      + 8 * b2n (s.out4 || hasRun s s.n4 (s.nLim 4)) + 16 * b2n s.weld := if_neg (by simp [h])

theorem bitAt_demand_bits (a b c d e : Bool) : bitAt (b2n a + 2 * b2n b + 4 * b2n c + 8 * b2n d + 16 * b2n e) 0 = a ∧
    bitAt (b2n a + 2 * b2n b + 4 * b2n c + 8 * b2n d + 16 * b2n e) 1 = b := by
  revert a b c d e
  decide

/-- R316: SF-1 is in demand when an input is. -/
theorem SafSt.demands_input {s : SafSt} {k : Nat} (hconf : s.conf = true) (hk : k < 8) (h : s.inDemand k = true) (l : LineSt) :
    bitAt (s.demands l) 0 = true := by
  rw [SafSt.demands_conf hconf, (bitAt_demand_bits _ _ _ _ _).1]
  exact List.any_eq_true.mpr ⟨k, List.mem_range.mpr hk, h⟩

/-- R316: SF-2 is in demand when no tone is there. -/
theorem SafSt.demands_tone {s : SafSt} (hconf : s.conf = true) {l : LineSt} (h : l.noTone = true) : bitAt (s.demands l) 1 = true := by
  rw [SafSt.demands_conf hconf, (bitAt_demand_bits _ _ _ _ _).2, h]

theorem noTone_iff {l : LineSt} : l.noTone = true ↔ l.seen = false ∨ l.toneA = false ∧ l.toneB = false := by
  simp [LineSt.noTone]

/-! ### Masks of outputs -/

theorem maskOf_succ (n : Nat) (f : Nat → Bool) : maskOf (n + 1) f = maskOf n f + if f n then 2 ^ n else 0 := by
  have hsum : ∀ (l : List Nat) (a : Nat), sumN (l ++ [a]) = sumN l + a := by
    intro l a
    induction l with
    | nil => simp [sumN]
    | cons b l ih => simp [sumN, ih, Nat.add_assoc]
  simp only [maskOf, upTo, List.range_succ, List.map_append, List.map_cons, List.map_nil, hsum]

theorem maskOf_lt (n : Nat) (f : Nat → Bool) : maskOf n f < 2 ^ n := by
  induction n with
  | zero => simp [maskOf, upTo, sumN]
  | succ n ih =>
    rw [maskOf_succ, pow_succ]
    split <;> omega

theorem bitAt_maskOf {n j : Nat} (f : Nat → Bool) (hj : j < n) : bitAt (maskOf n f) j = f j := by
  induction n with
  | zero => exact absurd hj (by omega)
  | succ n ih =>
    rw [maskOf_succ]
    by_cases hlast : j = n
    · subst hlast
      have hclear : bitAt (maskOf j f) j = false := by rw [bitAt_eq_testBit, Nat.testBit_lt_two_pow (maskOf_lt j f)]
      cases h : f j
      · simpa [h] using hclear
      · simpa [h, hclear] using bitAt_add_two_pow (maskOf j f) j
    · have hlow : (maskOf n f + if f n then 2 ^ n else 0) % 2 ^ n = maskOf n f := by
        split
        · rw [Nat.add_mod_right, Nat.mod_eq_of_lt (maskOf_lt n f)]
        · exact Nat.mod_eq_of_lt (maskOf_lt n f)
      rw [← bitAt_mod_two_pow _ (by omega : j < n), hlow, ih (by omega)]

/-- R316: SF-2 de-energises the outputs of role main or precharge. -/
theorem affected_tone {s : SafSt} {d j : Nat} (hd : bitAt d 1 = true) (hj : j < 6) (hrole : s.role j = 1 ∨ s.role j = 3) : bitAt (s.affected d) j = true := by
  have houts : bitAt (s.allOuts false) j = true := by
    unfold SafSt.allOuts
    rw [bitAt_maskOf _ hj]
    rcases hrole with h | h <;> simp [h]
  unfold SafSt.affected
  dsimp only
  rw [hd, bitAt_or, bitAt_or, if_pos (by simp), houts, Bool.or_true, Bool.true_or]

/-! ### The tone lines (R316) -/

/-- R318: a channel acts, if it runs. -/
def actIfRuns (ch mask : Nat) (x : SC) : SC := if x.1.runs ch then channelAct ch mask x else x

theorem channelsAct_both (mask : Nat) (x : SC) : channelsAct 3 mask x = actIfRuns 1 mask (actIfRuns 0 mask x) := rfl

theorem acts_actIfRuns (ch mask : Nat) (x : SC) : x.1.Acts (actIfRuns ch mask x).1 := by
  unfold actIfRuns
  split
  · exact acts_channelAct ch mask x
  · exact .refl x.1

theorem actIfRuns_rst (ch mask : Nat) (x : SC) : (actIfRuns ch mask x).1.rst = (x.1.rst || x.1.runs ch) := by
  unfold actIfRuns
  split
  · next h => rw [channelAct_fst, dropSwitches_rst, h, Bool.or_true]; rfl
  · next h => rw [Bool.eq_false_iff.mpr h, Bool.or_false]

theorem actIfRuns_gate (mask : Nat) {ch : Nat} {x : SC} (h : x.1.runs ch = true) : bitAt (actIfRuns ch mask x).1.gate ch = true := by
  have hbit : bitAt (2 ^ ch) ch = true := by rw [bitAt_eq_testBit, Nat.testBit_two_pow_self]
  rw [actIfRuns, if_pos h, channelAct_fst, dropSwitches_gate]
  exact (bitAt_or _ _ _).trans (by rw [hbit, Bool.or_true])

/-- R318 step 3: the switches of a channel that acts. -/
theorem actIfRuns_o {ch mask j : Nat} {x : SC} (h : x.1.runs ch = true) (hj : j < 6) (hmask : bitAt mask j = true) :
    ∃ deg, (actIfRuns ch mask x).1.o j = SafOut.dropped ch deg (x.1.o j) := by
  rw [actIfRuns, if_pos h, channelAct_fst]
  exact dropSwitches_o ch hj hmask _

/-- R318: both channels act: interlock, lines and switches. -/
theorem channelsAct_both_shows (mask : Nat) (x : SC) : (channelsAct 3 mask x).1.rst = (x.1.rst || x.1.runs 0 || x.1.runs 1) ∧
    (x.1.runs 0 = true → bitAt (channelsAct 3 mask x).1.gate 0 = true ∧ ∀ j, j < 6 → bitAt mask j = true → ((channelsAct 3 mask x).1.o j).p = false) ∧
    (x.1.runs 1 = true → bitAt (channelsAct 3 mask x).1.gate 1 = true ∧ ∀ j, j < 6 → bitAt mask j = true → ((channelsAct 3 mask x).1.o j).m = false) := by
  rw [channelsAct_both]
  have hfirst := acts_actIfRuns 0 mask x
  have hsecond := acts_actIfRuns 1 mask (actIfRuns 0 mask x)
  refine ⟨by rw [actIfRuns_rst, actIfRuns_rst, hfirst.runs], fun h => ⟨hsecond.gate 0 (actIfRuns_gate mask h), fun j hj hmask => ?_⟩, fun h => ?_⟩
  · obtain ⟨deg, ho⟩ := actIfRuns_o h hj hmask
    exact (hsecond.off j).1 (by rw [ho]; simp [SafOut.dropped])
  · rw [← hfirst.runs] at h
    refine ⟨actIfRuns_gate mask h, fun j hj hmask => ?_⟩
    obtain ⟨deg, ho⟩ := actIfRuns_o h hj hmask
    rw [ho]
    simp [SafOut.dropped]

/-- R316, R318: what the demand of SF-2 does. -/
theorem toneDemand_shows {x : SC} {l : LineSt} (hconf : x.1.conf = true) (htone : l.noTone = true) :
    bitAt (toneDemand l x).1.dem 1 = true ∧ (toneDemand l x).1.rst = (x.1.rst || x.1.runs 0 || x.1.runs 1) ∧
      (x.1.runs 0 = true → bitAt (toneDemand l x).1.gate 0 = true ∧ ∀ j, j < 6 → x.1.role j = 1 ∨ x.1.role j = 3 → ((toneDemand l x).1.o j).p = false) ∧
      (x.1.runs 1 = true → bitAt (toneDemand l x).1.gate 1 = true ∧ ∀ j, j < 6 → x.1.role j = 1 ∨ x.1.role j = 3 → ((toneDemand l x).1.o j).m = false) := by
  have hbit := SafSt.demands_tone hconf htone
  obtain ⟨hrst, hA, hB⟩ := channelsAct_both_shows (x.1.affected (x.1.demands l)) x
  rw [toneDemand, if_pos (by simp [hconf, htone]), demandAct_fst, if_neg (ne_zero_of_bitAt hbit)]
  refine ⟨hbit, hrst, fun h => ⟨(hA h).1, fun j hj hrole => (hA h).2 j hj (affected_tone hbit hj hrole)⟩,
    fun h => ⟨(hB h).1, fun j hj hrole => (hB h).2 j hj (affected_tone hbit hj hrole)⟩⟩

theorem toneDemand_none {x : SC} {l : LineSt} (h : x.1.conf = false ∨ l.noTone = false) : toneDemand l x = x :=
  if_neg (by rcases h with h | h <;> simp [h])

/-! ### Samples (R321) -/

/-- The channels beside their inputs. -/
def SafSt.besideInputs (s : SafSt) : SafSt := { s with inp := [] }

theorem besideInputs_mode {s t : SafSt} (h : t.besideInputs = s.besideInputs) (k : Nat) : t.mode k = s.mode k :=
  show t.besideInputs.mode k = s.besideInputs.mode k by rw [h]

theorem besideInputs_tf {s t : SafSt} (h : t.besideInputs = s.besideInputs) (k : Nat) : t.tf k = s.tf k :=
  show t.besideInputs.tf k = s.besideInputs.tf k by rw [h]

/-- R321: the samples of all inputs. -/
def sampleInputs (a b exA exB : Nat) (s : SafSt) : SafSt :=
  forUp 8 (fun k s => sampleInput k (bitAt a k) (bitAt b k) (bitAt exA k) (bitAt exB k) s) s

theorem besideInputs_sampleInput (k : Nat) (a b exA exB : Bool) (s : SafSt) : (sampleInput k a b exA exB s).besideInputs = s.besideInputs := by
  unfold sampleInput
  dsimp only
  split
  · rfl
  · rfl

theorem sampleInput_i_ne {k j : Nat} (a b exA exB : Bool) (s : SafSt) (h : k ≠ j) : (sampleInput k a b exA exB s).i j = s.i j := by
  unfold sampleInput
  dsimp only
  split
  · rfl
  · exact SafSt.i_setI_ne s _ h.symm

theorem sampleInput_unused {k : Nat} (a b exA exB : Bool) {s : SafSt} (h : s.mode k = 0) : sampleInput k a b exA exB s = s := if_pos h

theorem sampleInput_contact {k : Nat} (a b exA exB : Bool) {s : SafSt} (h : s.mode k = 1) :
    ((sampleInput k a b exA exB s).i k).fa = (if exA then (s.i k).fa else (filterStep (s.tf k) (s.i k).fa (s.i k).ca a).1) ∧
      ((sampleInput k a b exA exB s).i k).fb = (if exB then (s.i k).fb else (filterStep (s.tf k) (s.i k).fb (s.i k).cb b).1) := by
  have hpermit : ∀ pin, permitPin 1 pin = pin := fun _ => rfl
  unfold sampleInput
  dsimp only
  rw [if_neg (by omega), SafSt.i_setI_same, h]
  dsimp only
  rw [hpermit, hpermit]
  cases exA <;> cases exB <;> exact ⟨rfl, rfl⟩

/-- R321: input `k` behind the samples of all. -/
theorem sampleInputs_i {k : Nat} (hk : k < 8) (a b exA exB : Nat) (s : SafSt) : ∃ t : SafSt, t.besideInputs = s.besideInputs ∧ t.i k = s.i k ∧
    (sampleInputs a b exA exB s).i k = (sampleInput k (bitAt a k) (bitAt b k) (bitAt exA k) (bitAt exB k) t).i k :=
  forUp_at (P := fun t => t.besideInputs = s.besideInputs) (fun t => SafSt.i t k) hk rfl (fun _ _ h => (besideInputs_sampleInput _ _ _ _ _ _).trans h)
    fun _ t h => sampleInput_i_ne _ _ _ _ t h

theorem clearButtons_i {k : Nat} (hk : k < 8) {s : SafSt} (h : s.mode k ≠ 3) : (clearButtons s).i k = s.i k := by
  obtain ⟨t, hP, hget, hshow⟩ := forUp_at (P := fun t => SafSt.besideInputs t = s.besideInputs) (fun t => SafSt.i t k) hk (x := s)
    (f := fun k s => if s.mode k = 3 ∧ (s.i k).fa ∧ (s.i k).fb then s.setI k (fun i => { i with btn := 0 }) else s) rfl
    (fun _ t ht => by split <;> exact ht)
    (fun j t hj => by
      split
      · exact SafSt.i_setI_ne t _ hj.symm
      · rfl)
  refine hshow.trans ?_
  rw [if_neg (fun hc => h ((besideInputs_mode hP k).symm.trans hc.1)), hget]

theorem safReset_i (l : LineSt) (x : SC) (k : Nat) : (safReset l x).1.i k = x.1.i k := by
  unfold safReset
  split
  · rfl
  · rfl

/-- R316, R318: what the filtered inputs ask for: each channel acts on the demands that it sees. -/
def sampleActs (l : LineSt) (x : SC) : SC :=
  let s := x.1
  let seesA := (upTo 8).any (fun k => s.inDemand k && (!(s.i k).fa || (s.i k).disc || (s.i k).inf != 0))
  let seesB := (upTo 8).any (fun k => s.inDemand k && (!(s.i k).fb || (s.i k).disc || (s.i k).inf != 0))
  if seesA || seesB then demandAct (b2n seesA + 2 * b2n seesB) l x else ({ s with dem := Nat.land s.dem (s.demands l) }, x.2)

/-- R319: what the reset buttons ask for. -/
def buttonActs (l : LineSt) (x : SC) : SC :=
  if x.1.buttonDone then safReset l (clearButtons x.1, x.2) else (clearButtons x.1, x.2)

theorem inputSample_conf {x : SC} (a b exA exB : Nat) (l : LineSt) (h : x.1.conf = true) :
    inputSample a b exA exB l x = buttonActs l (sampleActs l (sampleInputs a b exA exB x.1, x.2)) := if_neg (by simp [h])

theorem acts_sampleActs (l : LineSt) (x : SC) : x.1.Acts (sampleActs l x).1 := by
  unfold sampleActs
  dsimp only
  split
  · exact acts_demandAct _ l x
  · exact acts_dem _ _

theorem buttonActs_i {k : Nat} (hk : k < 8) (l : LineSt) {x : SC} (h : x.1.mode k ≠ 3) : (buttonActs l x).1.i k = x.1.i k := by
  unfold buttonActs
  split
  · exact (safReset_i l _ k).trans (clearButtons_i hk h)
  · exact clearButtons_i hk h

theorem besideInputs_sampleInputs (a b exA exB : Nat) (s : SafSt) : (sampleInputs a b exA exB s).besideInputs = s.besideInputs :=
  forUp_invariant (P := fun t => SafSt.besideInputs t = s.besideInputs) rfl fun _ _ ht => (besideInputs_sampleInput _ _ _ _ _ _).trans ht

/-- R321: what a sample leaves of an input beside its filter: demands act, and the buttons are looked at. -/
theorem inputSample_i {k : Nat} (hk : k < 8) (a b exA exB : Nat) (l : LineSt) {x : SC} (hconf : x.1.conf = true) (h : x.1.mode k ≠ 3) :
    (inputSample a b exA exB l x).1.i k = (sampleInputs a b exA exB x.1).i k := by
  have hacts := acts_sampleActs l (sampleInputs a b exA exB x.1, x.2)
  rw [inputSample_conf a b exA exB l hconf, buttonActs_i hk l (by rw [hacts.mode, besideInputs_mode (besideInputs_sampleInputs a b exA exB x.1)]; exact h)]
  exact hacts.i k

theorem inputSample_none {x : SC} (a b exA exB : Nat) (l : LineSt) (h : x.1.conf = false) : inputSample a b exA exB l x = x := if_pos (by simp [h])

/-- R321: what a sample makes of an unused input and of a contact. -/
theorem inputSample_shows {k : Nat} (hk : k < 8) (a b exA exB : Nat) (l : LineSt) {x : SC} (hconf : x.1.conf = true) :
    (x.1.mode k = 0 → (inputSample a b exA exB l x).1.i k = x.1.i k) ∧
    (x.1.mode k = 1 → bitAt exA k = false →
      ((inputSample a b exA exB l x).1.i k).fa = (filterStep (x.1.tf k) (x.1.i k).fa (x.1.i k).ca (bitAt a k)).1) ∧
    (x.1.mode k = 1 → bitAt exB k = false →
      ((inputSample a b exA exB l x).1.i k).fb = (filterStep (x.1.tf k) (x.1.i k).fb (x.1.i k).cb (bitAt b k)).1) ∧
    (x.1.mode k = 1 → bitAt exA k = true → ((inputSample a b exA exB l x).1.i k).fa = (x.1.i k).fa) := by
  obtain ⟨t, hbeside, hi, hshow⟩ := sampleInputs_i hk a b exA exB x.1
  have hmode := besideInputs_mode hbeside k
  have hcontact : x.1.mode k = 1 →
      ((inputSample a b exA exB l x).1.i k).fa = (if bitAt exA k then (x.1.i k).fa else (filterStep (x.1.tf k) (x.1.i k).fa (x.1.i k).ca (bitAt a k)).1) ∧
      ((inputSample a b exA exB l x).1.i k).fb = (if bitAt exB k then (x.1.i k).fb else (filterStep (x.1.tf k) (x.1.i k).fb (x.1.i k).cb (bitAt b k)).1) := by
    intro h
    rw [inputSample_i hk a b exA exB l hconf (by omega), hshow, ← hi, ← besideInputs_tf hbeside k]
    exact sampleInput_contact _ _ _ _ (hmode.trans h)
  refine ⟨fun h => ?_, fun h hex => ?_, fun h hex => ?_, fun h hex => ?_⟩
  · rw [inputSample_i hk a b exA exB l hconf (by omega), hshow, sampleInput_unused _ _ _ _ (hmode.trans h), hi]
  · rw [(hcontact h).1, hex]; rfl
  · rw [(hcontact h).2, hex]; rfl
  · rw [(hcontact h).1, hex]; rfl

/-! ### Discrepancies (R322) -/

theorem SafSt.mode_lt (s : SafSt) (k : Nat) : s.mode k < 4 := Nat.mod_lt _ (by decide)

/-- R322: the discrepancy of an input latches. -/
def SafSt.latchDisc (k : Nat) (s : SafSt) : SafSt := s.setI k (fun i => { i with disc := true, clr := 0 })

theorem discrepancy_due {k : Nat} {x : SC} (l : LineSt) (hconf : x.1.conf = true) (hmode : x.1.mode k ≠ 0) (hdue : x.1.td k ≤ (x.1.i k).dt) :
    discrepancy k l x = demandAct 3 l (x.1.latchDisc k, x.2) := if_pos (by simp [hconf, hmode, hdue])

theorem discrepancy_none {k : Nat} {x : SC} (l : LineSt) (h : x.1.conf = false ∨ (x.1.i k).dt < x.1.td k) : discrepancy k l x = x :=
  if_neg (by rcases h with h | h <;> simp [h])

theorem latchDisc_inDemand {k : Nat} {s : SafSt} (h0 : s.mode k ≠ 0) (h3 : s.mode k ≠ 3) : (s.latchDisc k).inDemand k = true := by
  have hmode : (s.latchDisc k).mode k = s.mode k := rfl
  have hdisc : ((s.latchDisc k).i k).disc = true := by rw [SafSt.latchDisc, SafSt.i_setI_same]
  have hlt := s.mode_lt k
  obtain h | h : s.mode k = 1 ∨ s.mode k = 2 := by omega
  all_goals simp [SafSt.inDemand, hmode, hdisc, h]

theorem discrepancy_shows {k : Nat} {x : SC} (l : LineSt) (hk : k < 8) (hconf : x.1.conf = true) (hmode : x.1.mode k ≠ 0)
    (hdue : x.1.td k ≤ (x.1.i k).dt) : ((discrepancy k l x).1.i k).disc = true ∧ (x.1.mode k ≠ 3 → bitAt (discrepancy k l x).1.dem 0 = true) ∧
      ∀ j, j ≠ k → (discrepancy k l x).1.i j = x.1.i j := by
  rw [discrepancy_due l hconf hmode hdue]
  have hi := (acts_demandAct 3 l (x.1.latchDisc k, x.2)).i
  refine ⟨?_, fun h3 => ?_, fun j hj => (hi j).trans (SafSt.i_setI_ne _ _ hj)⟩
  · rw [hi k]
    exact congrArg SafIn.disc (SafSt.i_setI_same _ _ _)
  · rw [demandAct_dem]
    exact SafSt.demands_input (s := x.1.latchDisc k) hconf hk (latchDisc_inDemand hmode h3) l

/-! ### Test pulses (R323) -/

/-- R323: an input behind a pulse of a side that shows the observations `shows`. -/
def SafIn.pulsed (side : Nat) (shows : List Bool) (i : SafIn) : SafIn :=
  { i with
    bad := pulseCounts side shows i.bad, good := if shows.any (fun b => b) then 0 else i.good + 1
    inf := if i.inf == 0 then pulseCause side (pulseCounts side shows i.bad) else i.inf
    seq := if i.inf == 0 && pulseCause side (pulseCounts side shows i.bad) != 0 then false else i.seq }

/-- R323: a pulse of TPA as input `k` meets it. -/
def pulseInput (a b rb k : Nat) (s : SafSt) : SafSt :=
  if s.mode k = 1 ∨ s.mode k = 3 then
    s.setI k (fun i => i.pulsed 0 (pulseShows (bitAt a k) (bitAt b k) (permitPin (s.mode k) i.fb) (rb == 0)))
  else s

theorem testPulse_conf {x : SC} (a b rb : Nat) (l : LineSt) (h : x.1.conf = true) :
    testPulse 0 a b rb l x = demandAct 3 l (forUp 8 (pulseInput a b rb) x.1, x.2) := if_neg (by simp [h])

theorem testPulse_none {x : SC} (side a b rb : Nat) (l : LineSt) (h : x.1.conf = false) : testPulse side a b rb l x = x := if_pos (by simp [h])

theorem testPulse_i {k : Nat} (hk : k < 8) {x : SC} (a b rb : Nat) (l : LineSt) (h : x.1.conf = true) :
    ∃ t : SafSt, t.besideInputs = x.1.besideInputs ∧ t.i k = x.1.i k ∧ (testPulse 0 a b rb l x).1.i k = (pulseInput a b rb k t).i k := by
  rw [testPulse_conf a b rb l h, (acts_demandAct 3 l _).i]
  refine forUp_at (P := fun t => t.besideInputs = x.1.besideInputs) (fun t => SafSt.i t k) hk rfl (fun j t ht => ?_) fun j t hj => ?_
  · unfold pulseInput
    split
    · exact ht
    · exact ht
  · unfold pulseInput
    split
    · exact SafSt.i_setI_ne t _ hj.symm
    · rfl

theorem pulseCounts_get (p q r : Bool) (t : Tab Nat) (j : Nat) : Tab.get 0 (pulseCounts 0 [p, q, r] t) j =
    if j = 0 then (if p then Tab.get 0 t 0 + 1 else 0) else if j = 1 then (if q then Tab.get 0 t 1 + 1 else 0)
    else if j = 2 then (if r then Tab.get 0 t 2 + 1 else 0) else Tab.get 0 t j := by
  have hunfold : pulseCounts 0 [p, q, r] t = Tab.put 0 (Tab.put 0 (Tab.put 0 t 0 (if p then Tab.get 0 t 0 + 1 else 0)) 1
      (if q then Tab.get 0 (Tab.put 0 t 0 (if p then Tab.get 0 t 0 + 1 else 0)) 1 + 1 else 0)) 2
      (if r then Tab.get 0 (Tab.put 0 (Tab.put 0 t 0 (if p then Tab.get 0 t 0 + 1 else 0)) 1
        (if q then Tab.get 0 (Tab.put 0 t 0 (if p then Tab.get 0 t 0 + 1 else 0)) 1 + 1 else 0)) 2 + 1 else 0) := rfl
  rw [hunfold]
  simp only [Tab.get_put]
  by_cases h2 : j = 2
  · simp [h2]
  · by_cases h1 : j = 1
    · simp [h1]
    · simp [h1, h2]

/-- R323: a pulse of TPA at a contact: the runs of each observation, the clean pulses, the cause. -/
theorem pulsed_shows (p q r : Bool) (i : SafIn) :
    let n := fun (j : Nat) => Tab.get 0 (i.pulsed 0 [p, q, r]).bad j
    n 0 = (if p then Tab.get 0 i.bad 0 + 1 else 0) ∧ n 1 = (if q then Tab.get 0 i.bad 1 + 1 else 0) ∧ n 2 = (if r then Tab.get 0 i.bad 2 + 1 else 0) ∧
      (∀ j, 3 ≤ j → n j = Tab.get 0 i.bad j) ∧ (i.pulsed 0 [p, q, r]).good = (if p ∨ q ∨ r then 0 else i.good + 1) ∧
      (i.inf = 0 → (i.pulsed 0 [p, q, r]).inf = if 2 ≤ n 2 then 3 else if 2 ≤ n 0 then 1 else if 2 ≤ n 1 then 2 else 0) ∧
      (i.inf ≠ 0 → (i.pulsed 0 [p, q, r]).inf = i.inf) := by
  refine ⟨pulseCounts_get p q r i.bad 0, pulseCounts_get p q r i.bad 1, pulseCounts_get p q r i.bad 2, fun j hj => ?_, ?_, fun h => ?_, fun h => ?_⟩
  · refine (pulseCounts_get p q r i.bad j).trans ?_
    rw [if_neg (by omega), if_neg (by omega), if_neg (by omega)]
  · cases p <;> cases q <;> cases r <;> rfl
  · simp only [SafIn.pulsed, h, beq_self_eq_true, if_true, pulseCause, Nat.mul_zero, Nat.zero_add, decide_eq_true_eq]
  · simp [SafIn.pulsed, h]

/-! ### Windows (R290, R311, R312) -/

theorem windowEnd_none {x : SC} (count : Nat) (iA iB vA vB : List Int) (l : LineSt) (h : x.1.conf = false) : windowEnd count iA iB vA vB l x = x :=
  if_pos (by simp [h])

/-- R290: the references of a window from the channels that run. -/
def windowRefs (count : Nat) (iA iB vA vB : List Int) (s : SafSt) : List XRef :=
  (if s.runs 0 then [⟨0, count, roundDiv (s.toV vA) (winN vA), roundDiv (s.toI iA) (winN iA)⟩] else []) ++
    (if s.runs 1 then [⟨1, count, roundDiv (s.toV vB) (winN vB), roundDiv (s.toI iB) (winN iB)⟩] else [])

/-- R290, R520: PROT behind the references of a window. -/
def windowPassed (rs : List XRef) (c : Core) : Core := if c.tick.marks < 5000000 then c else (rs.foldl (refArrive c.pastCutOff) c).moment

/-- R312: the end of a window behind its means: demands, pins out of range, and a mismatch that has lasted. -/
def windowActs (iA iB vA vB : List Int) (l : LineSt) (x : SC) : SC :=
  let y := rangeFault vA vB l (rangeFault iA iB l (demandAct 3 l x))
  if y.1.iBad = 10 ∨ y.1.vBad = 10 then (mismatch 8 y.1, y.2) else y

theorem windowEnd_conf {x : SC} (count : Nat) (iA iB vA vB : List Int) (l : LineSt) (h : x.1.conf = true) : ∃ s : SafSt,
    s.vb = [roundDiv (x.1.toV vA) (winN vA), roundDiv (x.1.toV vB) (winN vB)] ∧ s.i2 = [roundDiv (x.1.toI iA) (winN iA), roundDiv (x.1.toI iB) (winN iB)] ∧
      windowEnd count iA iB vA vB l x = windowActs iA iB vA vB l (s, windowPassed (windowRefs count iA iB vA vB x.1) x.2) :=
  ⟨_, rfl, rfl, if_neg (by simp [h])⟩

theorem kept_windowActs (iA iB vA vB : List Int) (l : LineSt) (x : SC) : x.1.Kept (windowActs iA iB vA vB l x).1 := by
  have hrange : x.1.Kept (rangeFault vA vB l (rangeFault iA iB l (demandAct 3 l x))).1 :=
    ((acts_demandAct 3 l x).kept.trans (kept_rangeFault iA iB l _)).trans (kept_rangeFault vA vB l _)
  unfold windowActs
  dsimp only
  split
  · exact hrange.trans (kept_mismatch 8 _)
  · exact hrange

theorem windowActs_references (iA iB vA vB : List Int) (l : LineSt) (x : SC) : (windowActs iA iB vA vB l x).2.references = x.2.references := by
  have hrange : (rangeFault vA vB l (rangeFault iA iB l (demandAct 3 l x))).2.references = x.2.references := by
    rw [rangeFault_references, rangeFault_references, demandAct_references]
  unfold windowActs
  dsimp only
  split
  · exact hrange
  · exact hrange

/-- R290, R293: whether a reference for the window of `count` is there in time. -/
def Core.timely (count : Nat) (c : Core) : Prop := ∀ w ∈ c.prot.ended, w.count = count → 16 * w.age + c.instant ≤ 16 * 500000

/-- R290: a reference waits for a tick boundary. -/
def refWaits (late : Bool) (r : XRef) (c : Core) : Core := { c with prot := { c.prot with refIn := c.prot.refIn ++ [(r, late)] } }

theorem refArrive_timely {c : Core} {r : XRef} (late : Bool) (h : c.timely r.count) : refArrive late c r = refWaits late r c := by
  refine if_neg ?_
  simp only [List.any_eq_true, Bool.and_eq_true, beq_iff_eq, decide_eq_true_eq, not_exists, not_and, not_lt]
  exact fun w hw hcount => h w hw hcount

theorem refArrive_refs (late : Bool) (c : Core) (r : XRef) : (refArrive late c r).prot.refs = c.prot.refs := by
  unfold refArrive
  split
  · rfl
  · rfl

theorem foldl_refArrive_refs (late : Bool) (rs : List XRef) (c : Core) : (rs.foldl (refArrive late) c).prot.refs = c.prot.refs := by
  induction rs generalizing c with
  | nil => rfl
  | cons r rs ih => exact (ih _).trans (refArrive_refs late c r)

theorem foldl_refArrive_timely {count : Nat} (late : Bool) {rs : List XRef} (hrs : ∀ r ∈ rs, r.count = count) {c : Core} (h : c.timely count) :
    (rs.foldl (refArrive late) c).prot.refIn = c.prot.refIn ++ rs.map (fun r => (r, late)) := by
  induction rs generalizing c with
  | nil => simp
  | cons r rs ih =>
    rw [List.foldl_cons, refArrive_timely late (by rw [hrs r (by simp)]; exact h), ih (fun q hq => hrs q (by simp [hq])) (c := refWaits late r c) h]
    exact List.append_assoc _ _ _

theorem windowRefs_count (count : Nat) (iA iB vA vB : List Int) (s : SafSt) : ∀ r ∈ windowRefs count iA iB vA vB s, r.count = count := by
  unfold windowRefs
  cases s.runs 0 <;> cases s.runs 1 <;> simp

/-- R290, R520: what PROT has of the references of a window. -/
theorem windowPassed_shows {count : Nat} {rs : List XRef} (hrs : ∀ r ∈ rs, r.count = count) (c : Core) :
    (windowPassed rs c).prot.refs = c.prot.refs ∧ (c.tick.marks < 5000000 → (windowPassed rs c).prot.refIn = c.prot.refIn) ∧
      (5000000 ≤ c.tick.marks → c.timely count → (windowPassed rs c).prot.refIn = c.prot.refIn ++ rs.map (fun r => (r, c.pastCutOff))) := by
  unfold windowPassed
  split
  · next h => exact ⟨rfl, fun _ => rfl, fun hle => absurd h (by omega)⟩
  · next h => exact ⟨foldl_refArrive_refs _ rs c, fun hlt => absurd hlt h, fun _ htimely => foldl_refArrive_timely _ hrs htimely⟩

/-- R290, R311, R520: what the end of a window shows. -/
theorem windowEnd_shows {x : SC} (count : Nat) (iA iB vA vB : List Int) (l : LineSt) (h : x.1.conf = true) :
    (windowEnd count iA iB vA vB l x).1.vb = [roundDiv (x.1.toV vA) (winN vA), roundDiv (x.1.toV vB) (winN vB)] ∧
      (windowEnd count iA iB vA vB l x).1.i2 = [roundDiv (x.1.toI iA) (winN iA), roundDiv (x.1.toI iB) (winN iB)] ∧
      (windowEnd count iA iB vA vB l x).2.prot.refs = x.2.prot.refs ∧
      (x.2.tick.marks < 5000000 → (windowEnd count iA iB vA vB l x).2.prot.refIn = x.2.prot.refIn) ∧
      (5000000 ≤ x.2.tick.marks → x.2.timely count → (windowEnd count iA iB vA vB l x).2.prot.refIn =
        x.2.prot.refIn ++ (windowRefs count iA iB vA vB x.1).map (fun r => (r, x.2.pastCutOff))) := by
  obtain ⟨s, hvb, hi2, heq⟩ := windowEnd_conf count iA iB vA vB l h
  rw [heq]
  have hkept := (kept_windowActs iA iB vA vB l (s, windowPassed (windowRefs count iA iB vA vB x.1) x.2)).read
  have hrefs := windowActs_references iA iB vA vB l (s, windowPassed (windowRefs count iA iB vA vB x.1) x.2)
  simp only [SafSt.readings, Prod.mk.injEq] at hkept
  simp only [Core.references, Prod.mk.injEq] at hrefs
  obtain ⟨⟨hvb', hi2'⟩, -⟩ := hkept
  obtain ⟨hrefs', hrefIn'⟩ := hrefs
  rw [hvb', hi2', hrefs', hrefIn']
  exact ⟨hvb, hi2, windowPassed_shows (windowRefs_count count iA iB vA vB x.1) x.2⟩

end Sys2Proof.Machine
end

section
/-! PROOF. O26: the exchange of the channels and what SAFM shows of it (R312, R336, R337). -/

namespace Sys2Proof.Machine

/-! ### What the exchange leaves of the readings (R310, R312) -/

theorem kept_demandAct (chs : Nat) (l : LineSt) (x : SC) : x.1.Kept (demandAct chs l x).1 := (acts_demandAct chs l x).kept

theorem kept_inputMs (k : Nat) (s : SafSt) : s.Kept (inputMs k s) := by
  unfold inputMs
  split
  · exact .refl s
  · exact .of_eq rfl

theorem kept_outputMs (k : Nat) (s : SafSt) : s.Kept (outputMs k s) := by
  unfold outputMs
  split
  · exact .setO s k _ ⟨rfl, rfl⟩
  · exact .setO s k _ ⟨rfl, rfl⟩

theorem kept_safMs (s : SafSt) : s.Kept (safMs s) :=
  ((kept_forUp kept_inputMs s).trans (kept_forUp kept_outputMs _)).trans (.of_eq rfl)

theorem kept_oscCheck (v : Nat) (l : LineSt) (x : SC) : x.1.Kept (oscCheck v l x).1 := by
  unfold oscCheck
  split
  · exact kept_singleFault 0 5 l x
  · exact kept_singleFault 1 5 l x
  · exact kept_twoFault 5 x
  · exact .refl x.1

theorem kept_ite {p : Prop} [Decidable p] {s : SafSt} {y z : SC} (hy : s.Kept y.1) (hz : s.Kept z.1) : s.Kept (if p then y else z).1 := by
  split
  · exact hy
  · exact hz

theorem kept_oscChecks (q : SafXch) (l : LineSt) (x : SC) : x.1.Kept (oscChecks q l x).1 := by
  have hA : x.1.Kept (if x.1.runs 0 then oscCheck (oscVerdict 0 q.a) l x else x).1 := kept_ite (kept_oscCheck _ l x) (.refl x.1)
  unfold oscChecks
  exact kept_ite (hA.trans (kept_oscCheck _ l _)) hA

theorem kept_compareItems (q : SafXch) (s : SafSt) : s.Kept (compareItems q s) := by
  have hmis : ∀ (p : Prop) [Decidable p] (code : Nat) (t : SafSt), t.Kept (if p then mismatch code t else t) := fun p _ code t => by
    split
    · exact kept_mismatch code t
    · exact .refl t
  unfold compareItems
  split
  · exact .of_eq rfl
  · refine SafSt.Kept.trans ?_ (hmis _ 4 _)
    refine SafSt.Kept.trans ?_ (hmis _ 7 _)
    exact .of_eq rfl

theorem kept_safResult (r : Nat) (x : SC) : x.1.Kept (safResult r x).1 := .of_eq rfl

theorem kept_safActivate (a : AonSt) (v : Option Nat) (x : SC) : x.1.Kept (safActivate a v x).1 := by
  unfold safActivate
  dsimp only
  refine kept_ite (.of_eq rfl) (kept_ite (.of_eq rfl) (kept_ite (.of_eq rfl) (kept_ite ?same (SafSt.Kept.trans ?differ (kept_twoFault 4 _)))))
  case same => exact .of_eq rfl
  case differ => exact .of_eq rfl

theorem kept_weldLatch (k : Nat) (l : LineSt) (x : SC) : x.1.Kept (weldLatch k l x).1 :=
  SafSt.Kept.trans (.setO x.1 k _ ⟨rfl, rfl⟩) (kept_demandAct 3 l (_, x.2))

theorem kept_serveOut (l : LineSt) (k : Nat) (x : SC) : x.1.Kept (serveOut l k x).1 := by
  have hheld : ∀ b, x.1.Kept { x.1 with held := setBit x.1.held k b } := fun b => .of_eq rfl
  unfold serveOut
  dsimp only
  split
  · exact hheld false
  · split
    · split
      · refine SafSt.Kept.trans ?_ (kept_weldLatch k l _)
        exact .of_eq rfl
      · split
        · exact (hheld false).trans (.setO _ k _ ⟨rfl, rfl⟩)
        · exact hheld true
    · split
      · exact (hheld false).trans (.setO _ k _ ⟨rfl, rfl⟩)
      · exact hheld true

theorem kept_serveOuts (l : LineSt) (x : SC) : x.1.Kept (serveOuts l x).1 :=
  forUp_invariant (P := fun y : SC => x.1.Kept y.1) (.refl x.1) fun k y hy => hy.trans (kept_serveOut l k y)

/-! ### The exchange (R312) -/

/-- R310, R312: what the channels have read in an exchange. -/
theorem takeReads_readings (q : SafXch) (safe : Bool) (s : SafSt) :
    (takeReads q safe s).readings = ((s.vb, s.i2), (0, q.a.prb, q.b.prb, q.a.mrb, q.b.mrb), safe, safe) :=
  forUp_invariant (P := fun t => SafSt.readings t = ((s.vb, s.i2), (0, q.a.prb, q.b.prb, q.a.mrb, q.b.mrb), safe, safe)) rfl fun _ _ ht => ht

theorem takeReads_cf {j : Nat} (hj : j < 6) (q : SafXch) (safe : Bool) (s : SafSt) :
    ((takeReads q safe s).o j).cfA = bitAt q.a.cf j ∧ ((takeReads q safe s).o j).cfB = bitAt q.b.cf j := by
  obtain ⟨t, -, -, hshow⟩ := forUp_at (P := fun _ => True) (fun t => SafSt.o t j) hj
    (x := { s with missing := 0, prb := q.a.prb, prbB := q.b.prb, mrb := q.a.mrb, mrbB := q.b.mrb, gsafe := safe, gsafeB := safe })
    (f := fun k s => SafSt.setO s k (fun o => { o with cfA := bitAt q.a.cf k, cfB := bitAt q.b.cf k })) trivial (fun _ _ _ => trivial)
    fun k t hk => SafSt.o_setO_ne t _ hk.symm
  have ho : (takeReads q safe s).o j = { t.o j with cfA := bitAt q.a.cf j, cfB := bitAt q.b.cf j } := hshow.trans (SafSt.o_setO_same t j _)
  rw [ho]
  exact ⟨rfl, rfl⟩

/-- R312: the exchange up to what it asks for: the channels read, check and compare, and act on the demands. -/
def exchangeChecks (q : SafXch) (l : LineSt) (x : SC) : SC :=
  let y := oscChecks q l (safMs (takeReads q (!x.2.gatesOn) x.1), x.2)
  demandAct 3 l (misDue (compareItems q y.1, y.2))

/-- R312, R320, R333: the exchange before the mirror. -/
def exchangeActs (q : SafXch) (a : AonSt) (l : LineSt) (x : SC) : SC :=
  let z := exchangeChecks q l x
  serveOuts l (match z.1.ask with | some v => safActivate a v z | none => z)

theorem exchange_eq (q : SafXch) (a : AonSt) (l : LineSt) (x : SC) :
    exchange q a l x = pdataShow ((exchangeActs q a l x).1, safMirror (exchangeActs q a l x).1 (exchangeActs q a l x).2) := rfl

theorem kept_exchangeChecks (q : SafXch) (l : LineSt) (x : SC) :
    (takeReads q (!x.2.gatesOn) x.1).Kept (exchangeChecks q l x).1 := by
  unfold exchangeChecks
  dsimp only
  refine SafSt.Kept.trans ?_ (kept_demandAct 3 l _)
  refine SafSt.Kept.trans ?_ (kept_misDue _)
  refine SafSt.Kept.trans ?_ (kept_compareItems q _)
  exact (kept_safMs _).trans (kept_oscChecks q l (safMs _, x.2))

theorem kept_exchangeActs (q : SafXch) (a : AonSt) (l : LineSt) (x : SC) :
    (takeReads q (!x.2.gatesOn) x.1).Kept (exchangeActs q a l x).1 := by
  have hask : (exchangeChecks q l x).1.Kept
      (match (exchangeChecks q l x).1.ask with | some v => safActivate a v (exchangeChecks q l x) | none => exchangeChecks q l x).1 := by
    split
    · exact kept_safActivate a _ _
    · exact .refl _
  exact ((kept_exchangeChecks q l x).trans hask).trans (kept_serveOuts l _)

/-! ### The mirror (R336, R337) -/

theorem b2n_mod (b : Bool) : b2n b % 2 = b2n b := by cases b <;> rfl

/-- R336, R337: what SAFM shows of the channels behind an exchange. -/
theorem mirror_shows (s : SafSt) (c : Core) :
    let d := (pdataShow (s, safMirror s c)).2
    d.rd F.SAFM_STAT.SAFE = b2n s.safe ∧ d.rd F.SAFM_STAT.RSTREQ = b2n s.rst ∧ d.rd F.SAFM_STAT.GSAFE = b2n s.gatesSafe ∧
      d.rd F.SAFM_CV_ACT.CV = s.cvAct % 2 ^ 32 ∧ d.rd F.SAFM_OUT.ON = maskOf 6 (fun j => (s.o j).on) % 64 := by
  simp (disch := decide) only [pdataShow, safMirror, logShow, Core.wrB_eq, Core.wrS_eq, Core.rd_wr_ne, Core.rd_wr_same]
  exact ⟨b2n_mod _, b2n_mod _, b2n_mod _, rfl, rfl⟩

theorem exchange_mirror (q : SafXch) (a : AonSt) (l : LineSt) (x : SC) :
    let y := exchange q a l x
    y.2.rd F.SAFM_STAT.SAFE = b2n y.1.safe ∧ y.2.rd F.SAFM_STAT.RSTREQ = b2n y.1.rst ∧ y.2.rd F.SAFM_STAT.GSAFE = b2n y.1.gatesSafe ∧
      y.2.rd F.SAFM_CV_ACT.CV = y.1.cvAct % 2 ^ 32 ∧ y.2.rd F.SAFM_OUT.ON = maskOf 6 (fun j => (y.1.o j).on) % 64 := by
  rw [exchange_eq]
  exact mirror_shows (exchangeActs q a l x).1 (exchangeActs q a l x).2

/-- R312: what an exchange takes over. -/
theorem exchange_reads (q : SafXch) (a : AonSt) (l : LineSt) (x : SC) :
    let y := exchange q a l x
    y.1.missing = 0 ∧ y.1.prb = q.a.prb ∧ y.1.prbB = q.b.prb ∧ y.1.mrb = q.a.mrb ∧ y.1.mrbB = q.b.mrb ∧ y.1.gsafe = (!x.2.gatesOn) ∧
      y.1.gsafeB = (!x.2.gatesOn) ∧ ∀ j, j < 6 → (y.1.o j).cfA = bitAt q.a.cf j ∧ (y.1.o j).cfB = bitAt q.b.cf j := by
  have hkept := kept_exchangeActs q a l x
  have hread := hkept.read.trans (takeReads_readings q (!x.2.gatesOn) x.1)
  simp only [SafSt.readings, Prod.mk.injEq] at hread
  obtain ⟨-, ⟨hmissing, hprb, hprbB, hmrb, hmrbB⟩, hgsafe, hgsafeB⟩ := hread
  refine ⟨hmissing, hprb, hprbB, hmrb, hmrbB, hgsafe, hgsafeB, fun j hj => ?_⟩
  obtain ⟨hA, hB⟩ := takeReads_cf hj q (!x.2.gatesOn) x.1
  exact ⟨(hkept.cf j).1.trans hA, (hkept.cf j).2.trans hB⟩

/-! ### The commands -/

/-- A command that leaves the channels and the resettable part as they are. -/
theorem ends_onSaf_unchanged {i : Instr} {s : State} (f : AonSt → LineSt → SC → SC) (hs : s.up) (he : exec i s = .next (onSaf f s))
    (h : f s.aon s.line (s.saf, s.core) = (s.saf, s.core)) : Ends i s fun t => t = s :=
  ends_onSaf f hs he (by rw [h])

/-- R312, R512: the exchange of a millisecond. -/
theorem channelExchange_ends {s : State} (hs : s.up) (q : SafXch) : EndsThen (.channelExchange q) s fun u => safOnly s u ∧ u.saf.missing = 0 ∧
    u.saf.prb = q.a.prb ∧ u.saf.prbB = q.b.prb ∧ u.saf.mrb = q.a.mrb ∧ u.saf.mrbB = q.b.mrb ∧ u.saf.gsafe = (!s.core.gatesOn) ∧
    u.saf.gsafeB = (!s.core.gatesOn) ∧ (∀ j, j < 6 → (u.saf.o j).cfA = bitAt q.a.cf j ∧ (u.saf.o j).cfB = bitAt q.b.cf j) ∧ u.core.svc.exch = true ∧
    u.core.rd F.SAFM_STAT.SAFE = b2n u.saf.safe ∧ u.core.rd F.SAFM_STAT.RSTREQ = b2n u.saf.rst ∧ u.core.rd F.SAFM_STAT.GSAFE = b2n u.saf.gatesSafe ∧
    u.core.rd F.SAFM_CV_ACT.CV = u.saf.cvAct % 2 ^ 32 ∧ u.core.rd F.SAFM_OUT.ON = maskOf 6 (fun j => (u.saf.o j).on) % 64 := by
  have hrun : onCore exchanged (onSaf (exchange q) s) =
      { s with saf := (exchange q s.aon s.line (s.saf, s.core)).1, core := exchanged (exchange q s.aon s.line (s.saf, s.core)).2 } := by
    rw [onSaf_run (exchange q) (by rw [hs.1]; decide) hs.2]
    exact onCore_run exchanged hs.2
  refine ⟨_, rfl, ?_⟩
  rw [hrun]
  have hreads := exchange_reads q s.aon s.line (s.saf, s.core)
  have hmirror := exchange_mirror q s.aon s.line (s.saf, s.core)
  generalize exchange q s.aon s.line (s.saf, s.core) = y at hreads hmirror ⊢
  obtain ⟨hmissing, hprb, hprbB, hmrb, hmrbB, hgsafe, hgsafeB, hcf⟩ := hreads
  exact ⟨rfl, hmissing, hprb, hprbB, hmrb, hmrbB, hgsafe, hgsafeB, hcf, rfl, hmirror⟩

/-- R323: a pulse of TPA at an input that is a contact. -/
theorem testPulse_contact {x : SC} {k : Nat} (hk : k < 8) (a b rb : Nat) (l : LineSt) (hconf : x.1.conf = true) (hmode : x.1.mode k = 1) :
    (testPulse 0 a b rb l x).1.i k = (x.1.i k).pulsed 0 (pulseShows (bitAt a k) (bitAt b k) (x.1.i k).fb (rb == 0)) := by
  obtain ⟨t, hbeside, hi, hshow⟩ := testPulse_i hk a b rb l hconf
  have hmode' : t.mode k = 1 := (besideInputs_mode hbeside k).trans hmode
  rw [hshow, pulseInput, if_pos (.inl hmode'), SafSt.i_setI_same, hmode', hi]
  rfl

theorem testPulse_other {x : SC} {k : Nat} (hk : k < 8) (a b rb : Nat) (l : LineSt) (hconf : x.1.conf = true) (hmode : x.1.mode k = 0 ∨ x.1.mode k = 2) :
    (testPulse 0 a b rb l x).1.i k = x.1.i k := by
  obtain ⟨t, hbeside, hi, hshow⟩ := testPulse_i hk a b rb l hconf
  have hmode' := besideInputs_mode hbeside k
  rw [hshow, pulseInput, if_neg (by omega), hi]

/-- Settles O26: without an active set the channels do nothing; with one each command is its own effect on the channels, and demands act behind it. -/
theorem safetyInputs : Obligations.SafetyInputs := by
  unfold Obligations.SafetyInputs
  intro s a b exA exB k count rb iA iB vA vB q hs hk
  refine ⟨?unconfigured, ?sample, ?discrepancy, ?noDiscrepancy, ?pulse, ?tone, ?toneNone, ?window, channelExchange_ends hs q,
    ends_onSaf (fun _ _ => diagComplete) hs rfl rfl⟩
  case unconfigured =>
    intro hconf i hi
    simp only [List.mem_cons, List.not_mem_nil, or_false] at hi
    rcases hi with rfl | rfl | rfl | rfl | rfl
    · exact ends_onSaf_unchanged _ hs rfl (inputSample_none a b exA exB s.line hconf)
    · exact ends_onSaf_unchanged _ hs rfl (discrepancy_none s.line (.inl hconf))
    · exact ends_onSaf_unchanged _ hs rfl (testPulse_none 0 a b rb s.line hconf)
    · exact ends_onSaf_unchanged _ hs rfl (toneDemand_none (.inl hconf))
    · exact ends_onSaf_unchanged _ hs rfl (windowEnd_none count iA iB vA vB s.line hconf)
  case sample => exact fun hconf => ends_onSaf (fun _ => inputSample a b exA exB) hs rfl ⟨rfl, inputSample_shows (x := (s.saf, s.core)) hk a b exA exB s.line hconf⟩
  case discrepancy => exact fun hconf hmode hdue => ends_onSaf (fun _ => discrepancy k) hs rfl ⟨rfl, discrepancy_shows s.line hk hconf hmode hdue⟩
  case noDiscrepancy => exact fun hlt => ends_onSaf_unchanged _ hs rfl (discrepancy_none s.line (.inr hlt))
  case pulse =>
    intro hconf
    refine ends_onSaf (fun _ => testPulse 0 a b rb) hs rfl ⟨rfl, testPulse_other (x := (s.saf, s.core)) hk a b rb s.line hconf, fun hmode => ?_⟩
    dsimp only
    rw [testPulse_contact (x := (s.saf, s.core)) hk a b rb s.line hconf hmode]
    have hshows := pulsed_shows (rb == 0 && bitAt a k) ((s.saf.i k).fb && !bitAt b k) (!(rb == 0)) (s.saf.i k)
    simp only [Bool.and_eq_true, beq_iff_eq, Bool.not_eq_true', beq_eq_false_iff_ne] at hshows
    exact hshows
  case tone => exact fun hconf htone => ends_onSaf (fun _ => toneDemand) hs rfl ⟨rfl, toneDemand_shows hconf (noTone_iff.mpr htone)⟩
  case toneNone =>
    intro hseen htone
    refine ends_onSaf_unchanged _ hs rfl (toneDemand_none (.inr ?_))
    rcases htone with h | h <;> simp [LineSt.noTone, hseen, h]
  case window => exact fun hconf => ends_onSaf (fun _ => windowEnd count iA iB vA vB) hs rfl ⟨rfl, windowEnd_shows count iA iB vA vB s.line hconf⟩

end Sys2Proof.Machine
end

section
/-! PROOF. O54: when an exchange energises an output, and what the commands of the supply do to the outputs (R315, R320, R333, R557). -/

namespace Sys2Proof.Machine

/-! ### The exchange up to what it asks for (R312 to R314) -/

theorem tame_oscCheck (v : Nat) (l : LineSt) (x : SC) : x.1.Tame (oscCheck v l x).1 := by
  unfold oscCheck
  split
  · exact tame_singleFault 0 5 l x
  · exact tame_singleFault 1 5 l x
  · exact tame_twoFault 5 x
  · exact .rfl' x.1

theorem tame_ite {p : Prop} [Decidable p] {s : SafSt} {y z : SC} (hy : s.Tame y.1) (hz : s.Tame z.1) : s.Tame (if p then y else z).1 := by
  split
  · exact hy
  · exact hz

theorem tame_oscChecks (q : SafXch) (l : LineSt) (x : SC) : x.1.Tame (oscChecks q l x).1 := by
  have hA : x.1.Tame (if x.1.runs 0 then oscCheck (oscVerdict 0 q.a) l x else x).1 := tame_ite (tame_oscCheck _ l x) (.rfl' x.1)
  unfold oscChecks
  exact tame_ite (hA.trans (tame_oscCheck _ l _)) hA

theorem tame_compareItems (q : SafXch) (s : SafSt) : s.Tame (compareItems q s) := by
  have hmis : ∀ (p : Prop) [Decidable p] (code : Nat) (t : SafSt), t.Tame (if p then mismatch code t else t) := fun p _ code t => by
    split
    · exact tame_mismatch code t
    · exact .rfl' t
  unfold compareItems
  split
  · exact .of_eq rfl
  · refine SafSt.Tame.trans ?_ (hmis _ 4 _)
    refine SafSt.Tame.trans ?_ (hmis _ 7 _)
    exact .of_eq rfl

theorem tame_exchangeChecks (q : SafXch) (l : LineSt) (x : SC) : (takeReads q (!x.2.gatesOn) x.1).Tame (exchangeChecks q l x).1 := by
  unfold exchangeChecks
  dsimp only
  refine SafSt.Tame.trans ?_ (tame_demandAct 3 l _)
  refine SafSt.Tame.trans ?_ (tame_misDue _)
  refine SafSt.Tame.trans ?_ (tame_compareItems q _)
  exact (tame_safMs _).trans (tame_oscChecks q l (safMs _, x.2))

/-- R310: the readings of an exchange turn no switch. -/
theorem takeReads_on (q : SafXch) (safe : Bool) (s : SafSt) (k : Nat) : ((takeReads q safe s).o k).on = (s.o k).on := by
  refine forUp_invariant (P := fun t => (SafSt.o t k).on = (s.o k).on) rfl fun j t ht => ?_
  rw [SafSt.o_setO]
  split
  · next he => rw [← ht, he]; rfl
  · exact ht

/-- R310: the readings of an exchange do not speak of the safe state. -/
theorem takeReads_safe (q : SafXch) (safe : Bool) (s : SafSt) : (takeReads q safe s).safe = s.safe :=
  forUp_invariant (P := fun t => SafSt.safe t = s.safe) rfl fun _ _ ht => ht

/-! ### Outputs that become energised (R315, R320) -/

/-- R315, R320: from `s` to `t` an output is energised only with a set active, the gates safe, the diagnostics done and no safe state, and a
latched safe state stays. -/
structure SafSt.Guarded (s t : SafSt) : Prop where
  safe : t.safe = false → s.safe = false
  rise : ∀ k, (t.o k).on = true → (s.o k).on = true ∨ (t.conf = true ∧ t.gatesSafe = true ∧ t.diagDone = true ∧ s.safe = false)

theorem SafSt.Guarded.of_eq {s t : SafSt} (hsafe : t.safe = s.safe) (hon : ∀ k, (t.o k).on = (s.o k).on) : s.Guarded t :=
  ⟨fun h => hsafe ▸ h, fun k h => .inl (hon k ▸ h)⟩

/-- A tame effect behind. -/
theorem SafSt.Guarded.tame {s t u : SafSt} (h : s.Guarded t) (g : t.Tame u) : s.Guarded u where
  safe := fun hu => h.safe (g.safe hu)
  rise := fun k hu => by
    rcases g.rise k hu with ht | ⟨hconf, hgates, hdiag, hsafe⟩
    · rcases h.rise k ht with hs | ⟨hconf, hgates, hdiag, hsafe⟩
      · exact .inl hs
      · exact .inr ⟨g.conf.trans hconf, g.gates hgates, g.diag.trans hdiag, hsafe⟩
    · exact .inr ⟨hconf, hgates, hdiag, h.safe hsafe⟩

/-- A set that is active behind, whichever it is. -/
theorem SafSt.Guarded.activated {s t u : SafSt} (h : s.Guarded t) (hconf : u.conf = true)
    (hparts : (u.gatesSafe, u.diagDone, u.safe, u.out) = (t.gatesSafe, t.diagDone, t.safe, t.out)) : s.Guarded u := by
  simp only [Prod.mk.injEq] at hparts
  obtain ⟨hgates, hdiag, hsafe, hout⟩ := hparts
  refine ⟨fun hu => h.safe (hsafe ▸ hu), fun k hu => ?_⟩
  have hon : (t.o k).on = true := by simpa only [SafSt.o, hout] using hu
  rcases h.rise k hon with hs | ⟨-, hg, hd, hsafe⟩
  · exact .inl hs
  · exact .inr ⟨hconf, hgates.trans hg, hdiag.trans hd, hsafe⟩

theorem guarded_ite {p : Prop} [Decidable p] {s : SafSt} {y z : SC} (hy : s.Guarded y.1) (hz : s.Guarded z.1) : s.Guarded (if p then y else z).1 := by
  split
  · exact hy
  · exact hz

/-- R333: the request is taken. -/
def SafSt.asked (s : SafSt) : SafSt := { s with ask := none }

/-- R333, R335: the staged set becomes active in each channel and is logged. -/
def setActive (a : AonSt) (val : Option Nat) (x : SC) : SC :=
  let s := x.1
  let path := if val.isSome then 1 else 2
  safResult 1 ({ s with
    conf := true, act := s.stg, actB := s.stgB, path := path, cvAct := s.cvA, cvActB := s.cvB, rst := true
    log := (safDiff s.act s.stg path a.ops a.pwrcyc ++ s.log).take 256
    logB := (safDiff s.actB s.stgB path a.ops a.pwrcyc ++ s.logB).take 256 }, x.2.raise 78 0 (2 + 256 * path))

theorem safActivate_eq (a : AonSt) (val : Option Nat) (x : SC) : safActivate a val x =
    if !x.1.asked.stgOk then safResult 6 (x.1.asked, x.2)
    else if x.1.asked.cvA != x.1.asked.cvB || (match val with | some v => v != x.1.asked.cvA | none => false) then safResult 3 (x.1.asked, x.2)
    else if (upTo 6).any (fun k => (x.1.asked.o k).on) || !x.1.asked.gatesSafe then safResult 4 (x.1.asked, x.2)
    else if (setActive a val (x.1.asked, x.2)).1.log = (setActive a val (x.1.asked, x.2)).1.logB then setActive a val (x.1.asked, x.2)
    else twoFault 4 (setActive a val (x.1.asked, x.2)) := rfl

theorem guarded_setActive {s : SafSt} (a : AonSt) (val : Option Nat) {x : SC} (h : s.Guarded x.1) : s.Guarded (setActive a val x).1 :=
  h.activated rfl rfl

theorem guarded_safActivate {s : SafSt} (a : AonSt) (val : Option Nat) {x : SC} (h : s.Guarded x.1) : s.Guarded (safActivate a val x).1 := by
  have hasked : s.Guarded x.1.asked := h.tame (.of_eq rfl)
  have hactive : s.Guarded (setActive a val (x.1.asked, x.2)).1 := guarded_setActive a val hasked
  have hrefused : ∀ r, s.Guarded (safResult r (x.1.asked, x.2)).1 := fun r => hasked.tame (tame_result r (x.1.asked, x.2))
  rw [safActivate_eq]
  exact guarded_ite (hrefused 6) (guarded_ite (hrefused 3) (guarded_ite (hrefused 4) (guarded_ite hactive (hactive.tame (tame_twoFault 4 _)))))

theorem guarded_exchange (q : SafXch) (a : AonSt) (l : LineSt) (x : SC) : x.1.Guarded (exchange q a l x).1 := by
  have hreads : x.1.Guarded (takeReads q (!x.2.gatesOn) x.1) := .of_eq (takeReads_safe q _ x.1) (takeReads_on q _ x.1)
  have hchecks := hreads.tame (tame_exchangeChecks q l x)
  rw [exchange_eq]
  refine SafSt.Guarded.tame (t := (match (exchangeChecks q l x).1.ask with
    | some v => safActivate a v (exchangeChecks q l x) | none => exchangeChecks q l x).1) ?_ (tame_serveOuts l _)
  split
  · exact guarded_safActivate a _ hchecks
  · exact hchecks

theorem guarded_channelExchange (q : SafXch) (s : State) : s.saf.Guarded (hifSettle (onCore exchanged (onSaf (exchange q) s))).saf := by
  refine SafSt.Guarded.tame ?_ (calm_settled (calm_onCore exchanged (onSaf (exchange q) s))).saf
  exact onSaf_saf (exchange q) s s.saf.Guarded (.of_eq rfl fun _ => rfl) (guarded_exchange q s.aon s.line (s.saf, s.core)) fun _ _ h => h.tame (.of_eq rfl)

/-! ### The supply (R511, R557) -/

theorem off_get (t : Tab SafOut) (k : Nat) : (Tab.get ({} : SafOut) (t.map (fun (o : Nat × SafOut) => (o.1, { o.2 with p := false, m := false }))) k).on = false := by
  induction t with
  | nil => rfl
  | cons o t ih =>
    simp only [List.map_cons, Tab.get]
    split
    · rfl
    · exact ih

/-- R557: without the input no output is energised. -/
theorem outputsOff_on (s : SafSt) (k : Nat) : ((outputsOff s).o k).on = false := off_get s.out k

theorem powerOn_saf (s : State) : (powerOn s).saf = s.saf ∨ (powerOn s).saf = safPowerOn s.saf := by
  unfold powerOn
  split
  · exact .inr rfl
  · exact .inl rfl

theorem holdUpEnd_saf (s : State) : (holdUpEnd s).saf = s.saf ∨ (holdUpEnd s).saf = safPowerOn s.saf := by
  unfold holdUpEnd
  split
  · exact .inr rfl
  · exact .inl rfl

theorem inputLoss_saf (s : State) : (inputLoss s).saf = s.saf ∨ (inputLoss s).saf = outputsOff s.saf := by
  unfold inputLoss
  split
  · dsimp only
    split
    · exact .inr rfl
    · exact .inr rfl
  · split
    · exact .inl rfl
    · exact .inl rfl

theorem powerRelease_saf (s : State) : (powerRelease s).saf = s.saf := by unfold powerRelease; split <;> rfl
theorem opsStoreStep_saf (s : State) : (opsStoreStep s).saf = s.saf := by unfold opsStoreStep; split <;> rfl

theorem opsRefresh_saf (s : State) : (opsRefresh s).saf = s.saf := by
  unfold opsRefresh
  split
  · rfl
  · exact onCoreA_saf _ _

/-- A command of the supply or of the always-on section leaves the outputs as they are or turns all of them off. -/
theorem exec_outputs_of_powers {c : Instr} (hp : Instr.powers c = true) (s : State) :
    ∃ t, exec c s = .next t ∧ (t.saf = s.saf ∨ ∀ k, t.energised k = false) := by
  have hoff : ∀ {t : State}, t.saf = s.saf ∨ t.saf = safPowerOn s.saf → t.saf = s.saf ∨ ∀ k, t.energised k = false :=
    fun h => h.imp_right fun h k => by rw [State.energised, h]; rfl
  have hmem := mem_of_powers hp
  simp only [List.mem_cons, List.not_mem_nil, or_false] at hmem
  rcases hmem with rfl | rfl | rfl | rfl | rfl | rfl
  · exact ⟨_, rfl, hoff (powerOn_saf s)⟩
  · exact ⟨_, rfl, .inl (powerRelease_saf s)⟩
  · exact ⟨_, rfl, (inputLoss_saf s).imp_right fun h k => by rw [State.energised, h]; exact outputsOff_on s.saf k⟩
  · exact ⟨_, rfl, hoff (holdUpEnd_saf s)⟩
  · exact ⟨_, rfl, .inl (opsStoreStep_saf s)⟩
  · exact ⟨_, rfl, .inl (opsRefresh_saf s)⟩

/-! ### The commands -/

/-- R320: what holds around a command that has energised an output. -/
def State.EnergisedUnder (s t : State) : Prop := t.saf.conf = true ∧ t.saf.gatesSafe = true ∧ t.saf.diagDone = true ∧ s.saf.safe = false

theorem energisedUnder_of_guarded {s t : State} (h : s.saf.Guarded t.saf) {k : Nat} (hoff : s.energised k = false) (hon : t.energised k = true) :
    s.EnergisedUnder t :=
  (h.rise k hon).resolve_left fun hs => Bool.false_ne_true (hoff.symm.trans hs)

/-- A command energises an output only under the conditions of R320. -/
theorem exec_energises (c : Instr) (s : State) :
    ∃ t, exec c s = .next t ∧ ∀ k, s.energised k = false → t.energised k = true → s.EnergisedUnder t := by
  cases hp : Instr.powers c with
  | true =>
    obtain ⟨t, hexec, hsaf | hnone⟩ := exec_outputs_of_powers hp s
    · exact ⟨t, hexec, fun k => energisedUnder_of_guarded (hsaf ▸ .of_eq rfl fun _ => rfl)⟩
    · exact ⟨t, hexec, fun k _ hon => absurd hon (by simp [hnone k])⟩
  | false =>
    cases he : Instr.exchanges c with
    | false =>
      obtain ⟨t, hexec, hcalm⟩ := calm_exec c hp he s
      exact ⟨t, hexec, fun k => energisedUnder_of_guarded ((SafSt.Guarded.of_eq rfl fun _ => rfl).tame hcalm.saf)⟩
    | true =>
      cases c with
      | channelExchange q => exact ⟨_, rfl, fun k => energisedUnder_of_guarded (guarded_channelExchange q s)⟩
      | powerOnDiagComplete =>
        refine ⟨_, rfl, fun k => energisedUnder_of_guarded ?_⟩
        exact onSaf_saf (fun _ _ => diagComplete) s s.saf.Guarded (.of_eq rfl fun _ => rfl) (.of_eq rfl fun _ => rfl) fun _ _ h => h.tame (.of_eq rfl)
      | _ => exact Bool.noConfusion he

/-- Settles O54: a step runs one command, and only the service of a request (R320) turns switches on. -/
theorem outputsEnergise : Obligations.OutputsEnergise := by
  unfold Obligations.OutputsEnergise
  intro s t hstep k hoff hon
  unfold step at hstep
  split at hstep
  · obtain rfl := Host.Outcome.next.inj hstep
    exact absurd (hoff.symm.trans hon) (by decide)
  · next c rest _ =>
    obtain ⟨u, hexec, henergises⟩ := exec_energises c { s with pending := rest }
    obtain rfl := Host.Outcome.next.inj (hexec.symm.trans hstep)
    exact henergises k hoff hon

end Sys2Proof.Machine
end

section
/-! PROOF. O25: faults of a channel, degraded mode, the safe state and faults of outputs (R312 to R329). -/

namespace Sys2Proof.Machine

/-! ### Faults attributed to a channel (R313, R315, R328) -/

/-- R337: the last fault code of a channel. -/
def SafSt.diag (ch : Nat) (s : SafSt) : Nat := if ch = 0 then s.diagA else s.diagB

/-- R328: a fault of channel `ch` starts degraded mode. -/
def SafSt.Degrades (ch : Nat) (l : LineSt) (s : SafSt) : Prop :=
  s.conf = true ∧ ({ s with faulty := Nat.lor s.faulty (2 ^ ch) } : SafSt).tdeg ≠ 0 ∧ s.demands l = 0 ∧ s.deg = false ∧ s.safe = false

/-- R313: the channel is out of service, its fault recorded, and answers for what mismatches wait. -/
def outOfService (ch code : Nat) (x : SC) : SC :=
  let y := recordFault ch code x
  ({ y.1 with faulty := Nat.lor y.1.faulty (2 ^ ch), mis := [] }, y.2)

/-- R328: degraded mode begins with the other channel. -/
def degradedBegin (ch : Nat) (x : SC) : SC :=
  ({ x.1 with deg := true, degCh := 1 - ch, degAge := 0 }, { x.2 with cnv := { x.2.cnv with deg := true, degNew := true } }.raise 74 0 (1 - ch))

/-- R313, R315, R328: what a fault of a channel that runs leads to. -/
theorem singleFault_eq (ch code : Nat) (l : LineSt) (x : SC) : singleFault ch code l x =
    if !x.1.runs ch then x else if (outOfService ch code x).1.safe then outOfService ch code x
    else if !(outOfService ch code x).1.conf || (outOfService ch code x).1.tdeg == 0 || x.1.demands l != 0 || (outOfService ch code x).1.deg then
      ({ (outOfService ch code x).1 with safeDue := true }, (outOfService ch code x).2)
    else degradedBegin ch (outOfService ch code x) := rfl

theorem singleFault_none {ch : Nat} (code : Nat) (l : LineSt) {x : SC} (h : x.1.runs ch = false) : singleFault ch code l x = x :=
  if_pos (by simp [h])

theorem outOfService_fst (ch code : Nat) (x : SC) :
    (outOfService ch code x).1 = { x.1 with diagA := if ch = 0 then code else x.1.diagA, diagB := if ch = 0 then x.1.diagB else code,
                                            faulty := Nat.lor x.1.faulty (2 ^ ch), mis := [] } := by
  unfold outOfService recordFault
  dsimp only
  split <;> rfl

theorem outOfService_runs (ch code : Nat) (x : SC) : (outOfService ch code x).1.runs ch = false := by
  have hbit : bitAt (2 ^ ch) ch = true := by rw [bitAt_eq_testBit, Nat.testBit_two_pow_self]
  rw [outOfService_fst, SafSt.runs]
  dsimp only
  rw [bitAt_or, hbit, Bool.or_true, Bool.not_true]

theorem outOfService_diag (ch code : Nat) (x : SC) : (outOfService ch code x).1.diag ch = code := by
  rw [outOfService_fst, SafSt.diag]
  split <;> rfl

/-- R313, R328: what a fault of a channel shows in any case. -/
structure ChannelFaulted (ch code : Nat) (x y : SC) : Prop where
  register : noRegister x.2 y.2
  runs : y.1.runs ch = false
  diag : y.1.diag ch = code

theorem channelFaulted_outOfService (ch code : Nat) (x : SC) : ChannelFaulted ch code x (outOfService ch code x) :=
  ⟨noRegister_of_csr rfl, outOfService_runs ch code x, outOfService_diag ch code x⟩

theorem channelFaulted_singleFault {ch : Nat} (code : Nat) (l : LineSt) {x : SC} (h : x.1.runs ch = true) :
    ChannelFaulted ch code x (singleFault ch code l x) := by
  obtain ⟨hregister, hruns, hdiag⟩ := channelFaulted_outOfService ch code x
  rw [singleFault_eq, if_neg (by simp [h])]
  split
  · exact ⟨hregister, hruns, hdiag⟩
  · split
    · exact ⟨hregister, hruns, hdiag⟩
    · exact ⟨hregister, hruns, hdiag⟩

theorem singleFault_degrades {ch : Nat} (code : Nat) {l : LineSt} {x : SC} (hruns : x.1.runs ch = true) (h : x.1.Degrades ch l) :
    (singleFault ch code l x).1.deg = true ∧ (singleFault ch code l x).1.degCh = 1 - ch ∧ (singleFault ch code l x).1.degAge = 0 ∧
      (singleFault ch code l x).2.cnv.degNew = true := by
  obtain ⟨hconf, htdeg, hdemands, hdeg, hsafe⟩ := h
  have htdeg' : (outOfService ch code x).1.tdeg ≠ 0 := by rw [outOfService_fst]; exact htdeg
  have hrest : (outOfService ch code x).1.safe = false ∧ (outOfService ch code x).1.conf = true ∧ (outOfService ch code x).1.deg = false := by
    rw [outOfService_fst]; exact ⟨hsafe, hconf, hdeg⟩
  obtain ⟨hsafe', hconf', hdeg'⟩ := hrest
  rw [singleFault_eq, if_neg (by simp [hruns]), if_neg (by simp [hsafe']), if_neg (by simp [hconf', htdeg', hdemands, hdeg'])]
  exact ⟨rfl, rfl, rfl, rfl⟩

theorem singleFault_due {ch : Nat} (code : Nat) {l : LineSt} {x : SC} (hruns : x.1.runs ch = true) (h : ¬ x.1.Degrades ch l) (hsafe : x.1.safe = false) :
    (singleFault ch code l x).1.safeDue = true := by
  have hsafe' : (outOfService ch code x).1.safe = false := by rw [outOfService_fst]; exact hsafe
  rw [singleFault_eq, if_neg (by simp [hruns]), if_neg (by simp [hsafe'])]
  split
  · rfl
  · next hother =>
    refine absurd ?_ h
    rw [outOfService_fst] at hother
    simp only [Bool.or_eq_true, Bool.not_eq_true', beq_iff_eq, bne_iff_ne, not_or, Bool.not_eq_true, Bool.not_eq_false, ne_eq, not_not] at hother
    obtain ⟨⟨⟨hconf, htdeg⟩, hdemands⟩, hdeg⟩ := hother
    exact ⟨hconf, htdeg, hdemands, hdeg, hsafe⟩

/-- R318: the readback of an asserted line comes too late. -/
theorem readbackTimeout_due {ch : Nat} (l : LineSt) {x : SC} (h : bitAt x.1.gate ch = true) : readbackTimeout ch l x = singleFault ch 11 l x := if_pos h

theorem readbackTimeout_none {ch : Nat} (l : LineSt) {x : SC} (h : bitAt x.1.gate ch = false) : readbackTimeout ch l x = x := if_neg (by simp [h])

/-- R329: the diagnostics of one channel fail. -/
theorem ownDiag_fails {ch : Nat} (hch : ch < 2) (code : Nat) (l : LineSt) (x : SC) : ownDiag code (ch != 0) (ch != 1) l x = singleFault ch code l x := by
  obtain rfl | rfl : ch = 0 ∨ ch = 1 := by omega
  · rfl
  · rfl

theorem ownDiag_passes (code : Nat) (l : LineSt) (x : SC) : ownDiag code true true l x = x := rfl

/-! ### The safe state (R315, R318) -/

theorem actIfRuns_gate_eq (ch mask : Nat) (x : SC) : (actIfRuns ch mask x).1.gate = Nat.lor x.1.gate (2 ^ ch * b2n (x.1.runs ch)) := by
  unfold actIfRuns
  split
  · next h => rw [channelAct_fst, dropSwitches_gate, h, b2n, if_pos rfl, Nat.mul_one]; rfl
  · next h => rw [Bool.eq_false_iff.mpr h]; exact (Nat.or_zero _).symm

/-- R318: the lines of both channels. -/
theorem channelsAct_both_gate (mask : Nat) (x : SC) :
    (channelsAct 3 mask x).1.gate = Nat.lor (Nat.lor x.1.gate (b2n (x.1.runs 0))) (2 * b2n (x.1.runs 1)) := by
  rw [channelsAct_both, actIfRuns_gate_eq, actIfRuns_gate_eq, (acts_actIfRuns 0 mask x).runs, pow_zero, Nat.one_mul, pow_one]

/-- R315: every switch is off. -/
def SafSt.allOff (s : SafSt) : SafSt := forUp 6 (fun k s => s.setO k (fun o => { o with p := false, m := false })) s

theorem allOff_gate (s : SafSt) : s.allOff.gate = s.gate := forUp_invariant (P := fun t => SafSt.gate t = s.gate) rfl fun _ _ ht => ht

theorem allOff_on {j : Nat} (hj : j < 6) (s : SafSt) : (s.allOff.o j).on = false := by
  obtain ⟨t, -, -, hshow⟩ := forUp_at (P := fun _ => True) (fun t => SafSt.o t j) hj (x := s)
    (f := fun k s => SafSt.setO s k (fun o => { o with p := false, m := false })) trivial (fun _ _ _ => trivial)
    fun k t hk => SafSt.o_setO_ne t _ hk.symm
  have ho : s.allOff.o j = { t.o j with p := false, m := false } := hshow.trans (SafSt.o_setO_same t j _)
  rw [ho]
  rfl

/-- R315, R328: the safe state latches, behind the acts of the channels. -/
def safeLatch (x : SC) : SC :=
  ({ x.1.allOff with safe := true, safeDue := false, rst := true, req := 0, held := 0, deg := false },
    { x.2 with cnv := { x.2.cnv with deg := false, degNew := false } }.raise 75 0 1)

theorem safeEnter_eq (x : SC) : safeEnter x = if x.1.safe then x else safeLatch (channelsAct 3 63 x) := by
  unfold safeEnter safeLatch SafSt.allOff
  rfl

theorem safeLatch_shows (x : SC) : (safeLatch x).1.safe = true ∧ (safeLatch x).1.gate = x.1.gate ∧ (safeLatch x).1.rst = true ∧
    (safeLatch x).1.deg = false ∧ (safeLatch x).1.safeDue = false ∧ (safeLatch x).2.cnv.deg = false ∧ ∀ j, j < 6 → ((safeLatch x).1.o j).on = false := by
  dsimp only [safeLatch, SafSt.o]
  exact ⟨rfl, allOff_gate x.1, rfl, rfl, rfl, rfl, fun _ hj => allOff_on hj x.1⟩

/-- R315, R328: what the safe state shows. -/
theorem safeEnter_shows {x : SC} (h : x.1.safe = false) : (safeEnter x).1.safe = true ∧
    (safeEnter x).1.gate = Nat.lor (Nat.lor x.1.gate (b2n (x.1.runs 0))) (2 * b2n (x.1.runs 1)) ∧ (safeEnter x).1.rst = true ∧
    (safeEnter x).1.deg = false ∧ (safeEnter x).1.safeDue = false ∧ (safeEnter x).2.cnv.deg = false ∧ ∀ j, j < 6 → ((safeEnter x).1.o j).on = false := by
  rw [safeEnter_eq, if_neg (by simp [h]), ← channelsAct_both_gate 63 x]
  exact safeLatch_shows (channelsAct 3 63 x)

theorem safeWhenDue_due {x : SC} (h : x.1.safeDue = true) : safeWhenDue x = safeEnter x := if_pos h
theorem safeWhenDue_none {x : SC} (h : x.1.safeDue = false) : safeWhenDue x = x := if_neg (by simp [h])

theorem degradedEnd_due {x : SC} (hdeg : x.1.deg = true) (hage : 1000 * x.1.tdeg ≤ x.1.degAge) : degradedEnd x = safeEnter x :=
  if_pos (by simp [hdeg, hage])

theorem degradedEnd_none {x : SC} (h : x.1.deg = false ∨ x.1.degAge < 1000 * x.1.tdeg) : degradedEnd x = x :=
  if_neg (by rcases h with h | h <;> simp [h])

/-- R328: the survivor asserts its line. -/
theorem degradedGate_due {x : SC} (hdeg : x.1.deg = true) (hage : 5000 ≤ x.1.degAge) :
    (degradedGate x).1 = { x.1 with gate := Nat.lor x.1.gate (2 ^ x.1.degCh) } := by rw [degradedGate, if_pos (by simp [hdeg, hage])]

theorem degradedGate_none {x : SC} (h : x.1.deg = false ∨ x.1.degAge < 5000) : degradedGate x = x :=
  if_neg (by rcases h with h | h <;> simp [h])

/-! ### Missing exchanges (R312, R313) -/

/-- What the timers of a millisecond leave of the exchanges that are missing. -/
def SafSt.exchangeTimers (s : SafSt) : Nat × Bool × List (Nat × Nat) := (s.missing, s.deg, s.mis)

theorem safMs_exchangeTimers (s : SafSt) : (safMs s).exchangeTimers = (s.missing, s.deg, s.mis.map (fun m => (m.1, m.2 + 1))) := by
  have hkept : (forUp 6 outputMs (forUp 8 inputMs s)).exchangeTimers = s.exchangeTimers := by
    refine forUp_invariant (P := fun t => SafSt.exchangeTimers t = s.exchangeTimers) ?_ fun k t ht => ?_
    · refine forUp_invariant (P := fun t => SafSt.exchangeTimers t = s.exchangeTimers) rfl fun k t ht => ?_
      unfold inputMs
      split
      · exact ht
      · exact ht
    · unfold outputMs
      split
      · exact ht
      · exact ht
  simp only [SafSt.exchangeTimers, Prod.mk.injEq] at hkept
  obtain ⟨hmissing, hdeg, -⟩ := hkept
  simp only [SafSt.exchangeTimers, safMs, hmissing, hdeg]

theorem twoFault_fst (code : Nat) (x : SC) : (twoFault code x).1 = { x.1 with diagA := code, diagB := code, safeDue := true } := by
  have hA : ∀ y : SC, (recordFault 0 code y).1 = { y.1 with diagA := code } := fun _ => rfl
  have hB : ∀ y : SC, (recordFault 1 code y).1 = { y.1 with diagB := code } := fun _ => rfl
  unfold twoFault
  dsimp only
  rw [hB, hA]

theorem twoFault_csr (code : Nat) (x : SC) : (twoFault code x).2.csr = x.2.csr := rfl

theorem misDue_missing (x : SC) : (misDue x).1.missing = x.1.missing ∧ noRegister x.2 (misDue x).2 := by
  unfold misDue
  exact List.foldlRecOn _ _ (motive := fun y : SC => y.1.missing = x.1.missing ∧ noRegister x.2 y.2) ⟨rfl, noRegister_of_csr rfl⟩
    fun y hy m _ => ⟨by rw [twoFault_fst]; exact hy.1, fun f => (noRegister_of_csr (twoFault_csr m.1 y) f).trans (hy.2 f)⟩

/-- R313: no mismatch has waited long enough. -/
theorem misDue_fst_of_young {x : SC} (h : ∀ m ∈ x.1.mis, m.2 < 10) : (misDue x).1 = x.1 := by
  have hold : x.1.mis.filter (fun m => decide (10 ≤ m.2)) = [] := List.filter_eq_nil_iff.mpr fun m hm => by have := h m hm; simp; omega
  have hyoung : x.1.mis.filter (fun m => decide (m.2 < 10)) = x.1.mis := List.filter_eq_self.mpr fun m hm => by simp [h m hm]
  unfold misDue
  dsimp only
  rw [hold, hyoung]
  rfl

/-- R312, R315: an exchange is missing. -/
theorem exchangeMissing_shows (x : SC) : noRegister x.2 (exchangeMissing x).2 ∧ (exchangeMissing x).1.missing = x.1.missing + 1 ∧
    (x.1.missing = 2 → x.1.deg = false → (∀ m ∈ x.1.mis, m.2 < 9) →
      (exchangeMissing x).1.safeDue = true ∧ (exchangeMissing x).1.diagA = 6 ∧ (exchangeMissing x).1.diagB = 6) := by
  have htimers := safMs_exchangeTimers { x.1 with missing := x.1.missing + 1 }
  simp only [SafSt.exchangeTimers, Prod.mk.injEq] at htimers
  unfold exchangeMissing
  dsimp only
  generalize safMs { x.1 with missing := x.1.missing + 1 } = s at htimers ⊢
  obtain ⟨hmissing, hdeg, hmis⟩ := htimers
  split
  · next h =>
    obtain ⟨hmissing', hregister⟩ := misDue_missing (twoFault 6 (s, x.2))
    rw [twoFault_fst] at hmissing'
    refine ⟨hregister, hmissing'.trans hmissing, fun _ _ hyoung => ?_⟩
    have hyoung' : ∀ m ∈ (twoFault 6 (s, x.2)).1.mis, m.2 < 10 := by
      rw [twoFault_fst]
      dsimp only
      rw [hmis]
      intro m hm
      obtain ⟨a, ha, rfl⟩ := List.mem_map.mp hm
      exact Nat.succ_lt_succ (hyoung a ha)
    rw [misDue_fst_of_young hyoung', twoFault_fst]
    exact ⟨rfl, rfl, rfl⟩
  · next h =>
    obtain ⟨hmissing', hregister⟩ := misDue_missing (s, x.2)
    exact ⟨hregister, hmissing'.trans hmissing, fun h2 hd _ => absurd ⟨by omega, by simp [hdeg, hd]⟩ h⟩

/-! ### Outputs (R325, R327) -/

theorem dropSwitches_fault (ch mask : Nat) (s : SafSt) (j : Nat) : ((dropSwitches ch mask s).o j).fault = (s.o j).fault := by
  rw [dropSwitches_eq]
  refine forUp_invariant (P := fun t => (SafSt.o t j).fault = (s.o j).fault) rfl fun k t ht => ?_
  split
  · rw [SafSt.o_setO]
    split
    · next he => rw [← ht, he]; rfl
    · exact ht
  · exact ht

/-- R318: acting on a demand leaves the causes that outputs have latched. -/
theorem channelsAct_fault (chs mask : Nat) (x : SC) (j : Nat) : ((channelsAct chs mask x).1.o j).fault = (x.1.o j).fault := by
  unfold channelsAct
  refine forUp_invariant (P := fun y : SC => (y.1.o j).fault = (x.1.o j).fault) rfl fun ch y hy => ?_
  split
  · rw [channelAct_fst]
    exact (dropSwitches_fault ch mask _ j).trans hy
  · exact hy

theorem demandAct_fault (chs : Nat) (l : LineSt) (x : SC) (j : Nat) : ((demandAct chs l x).1.o j).fault = (x.1.o j).fault := by
  rw [demandAct_fst]
  show (SafSt.o (if x.1.demands l = 0 then x else channelsAct chs (x.1.affected (x.1.demands l)) x).1 j).fault = _
  split
  · rfl
  · exact channelsAct_fault chs _ x j

/-- R316: the outputs of role main or precharge. -/
theorem bitAt_allOuts {s : SafSt} {j : Nat} (hj : j < 6) (h : s.role j = 1 ∨ s.role j = 3) : bitAt (s.allOuts false) j = true := by
  unfold SafSt.allOuts
  rw [bitAt_maskOf _ hj]
  rcases h with h | h <;> simp [h]

theorem outputFault_none {k : Nat} (cause : Nat) {x : SC} (h : x.1.conf = false) : outputFault k cause x = x := if_neg (by simp [h])

/-- R325: a switch fault of output `k` latches. -/
def SafSt.latchFault (k cause : Nat) (s : SafSt) : SafSt :=
  s.setO k (fun o => { o with fault := if (s.o k).fault == 0 then cause else o.fault, clean := 0 })

theorem outputFault_conf (k cause : Nat) {x : SC} (h : x.1.conf = true) : outputFault k cause x =
    let y := channelsAct 3 (x.1.allOuts false) (x.1.latchFault k cause, x.2)
    (y.1, y.2.when ((x.1.o k).fault == 0) (fun c => c.raise 72 k (16 + cause))) := if_pos h

/-- R316, R318, R325: what a switch fault shows. -/
theorem outputFault_shows (k cause : Nat) {x : SC} (h : x.1.conf = true) :
    ((x.1.o k).fault = 0 → ((outputFault k cause x).1.o k).fault = cause) ∧
      (x.1.runs 0 = true → ∀ j, j < 6 → x.1.role j = 1 ∨ x.1.role j = 3 → ((outputFault k cause x).1.o j).on = false) ∧
      ((x.1.o k).fault = 0 → ∃ e ∈ (outputFault k cause x).2.ev.raw, e.code = srcCode 72 ∧ e.src = k ∧ e.prim = 16 + cause) := by
  obtain ⟨-, hA, -⟩ := channelsAct_both_shows (x.1.allOuts false) (x.1.latchFault k cause, x.2)
  rw [outputFault_conf k cause h]
  dsimp only
  refine ⟨fun h0 => ?_, fun hruns j hj hrole => ?_, fun h0 => ?_⟩
  · rw [channelsAct_fault, SafSt.latchFault, SafSt.o_setO_same]
    simp [h0]
  · rw [SafOut.on, (hA hruns).2 j hj (bitAt_allOuts hj hrole), Bool.false_and]
  · rw [h0, beq_self_eq_true, Core.when_true]
    obtain ⟨st, p, hraw⟩ := Core.raise_raw (channelsAct 3 (x.1.allOuts false) (x.1.latchFault k cause, x.2)).2 72 k (16 + cause)
    rw [hraw]
    exact ⟨_, List.mem_append_right _ (List.mem_singleton_self _), rfl, rfl, rfl⟩

/-- R325, R327: an output that is de-energised alone. -/
def SafOut.drop (cause : Nat) (o : SafOut) : SafOut :=
  { o with fault := if o.fault = 0 then cause else o.fault, p := false, m := false, clean := 0, wrong := 0 }

theorem outputDrop_o (k cause : Nat) (s : SafSt) (j : Nat) : (outputDrop k cause s).o j = if j = k then (s.o k).drop cause else s.o j :=
  SafSt.o_setO s k j (SafOut.drop cause)

theorem outputDrop_shows (k cause : Nat) (s : SafSt) : ((outputDrop k cause s).o k).on = false ∧
    ((s.o k).fault = 0 → ((outputDrop k cause s).o k).fault = cause) ∧ ∀ j, j ≠ k → (outputDrop k cause s).o j = s.o j := by
  rw [outputDrop_o, if_pos rfl]
  exact ⟨rfl, fun h0 => if_pos h0, fun j hj => (outputDrop_o k cause s j).trans (if_neg hj)⟩

theorem openLoad_on {k : Nat} {x : SC} (h : (x.1.o k).on = true) : openLoad k x = (outputDrop k 5 x.1, x.2) := if_pos h
theorem openLoad_off {k : Nat} {x : SC} (h : (x.1.o k).on = false) : openLoad k x = x := if_neg (by simp [h])

theorem cfTimeout_none {k : Nat} (l : LineSt) {x : SC} (h : x.1.conf = false) : cfTimeout k l x = x := if_pos (by simp [h])

/-- R327: the feedback of an output that is energised is lost. -/
theorem cfTimeout_lost {k : Nat} (l : LineSt) {x : SC} (hconf : x.1.conf = true) (hcf : x.1.cfOn k = true) (hrole : x.1.role k ≠ 0)
    (hdiffer : (x.1.o k).differ < x.1.tcf k) (hwrong : x.1.tcf k ≤ (x.1.o k).wrong) (hon : (x.1.o k).on = true) :
    cfTimeout k l x = (outputDrop k 7 x.1, x.2) := by
  unfold cfTimeout
  dsimp only
  rw [if_neg (by simp [hconf, hcf, hrole]), if_neg (by omega), if_pos hwrong, if_pos hon]

/-- R327: the channels have read the feedback differently. -/
theorem cfTimeout_differ {k : Nat} (l : LineSt) {x : SC} (hconf : x.1.conf = true) (hcf : x.1.cfOn k = true) (hrole : x.1.role k ≠ 0)
    (hdiffer : x.1.tcf k ≤ (x.1.o k).differ) : cfTimeout k l x = weldLatch k l x := by
  unfold cfTimeout
  dsimp only
  rw [if_neg (by simp [hconf, hcf, hrole]), if_pos hdiffer]

theorem weldLatch_fault (k : Nat) (l : LineSt) (x : SC) : ((weldLatch k l x).1.o k).fault = 6 := by
  unfold weldLatch
  rw [demandAct_fault]
  exact congrArg SafOut.fault (SafSt.o_setO_same x.1 k _)

/-! ### The commands -/

/-- R313, R315, R328: what a fault of a running channel with a code shows. -/
def FaultShown (s : State) (ch code : Nat) (t : State) : Prop :=
  safOnly s t ∧ noRegister s.core t.core ∧ t.saf.runs ch = false ∧ t.saf.diag ch = code ∧
    (s.saf.Degrades ch s.line → t.saf.deg = true ∧ t.saf.degCh = 1 - ch ∧ t.saf.degAge = 0 ∧ t.core.cnv.degNew = true) ∧
    (¬ s.saf.Degrades ch s.line → s.saf.safe = false → t.saf.safeDue = true)

/-- A command that attributes a fault to a running channel. -/
theorem ends_channelFault {i : Instr} {s : State} {ch : Nat} (code : Nat) (f : LineSt → SC → SC) (hs : s.up) (he : exec i s = .next (onSaf (fun _ => f) s))
    (hruns : s.saf.runs ch = true) (hf : f s.line (s.saf, s.core) = singleFault ch code s.line (s.saf, s.core)) : Ends i s (FaultShown s ch code) := by
  obtain ⟨hregister, hstopped, hdiag⟩ := channelFaulted_singleFault code s.line (x := (s.saf, s.core)) hruns
  refine ends_onSaf (fun _ => f) hs he ?_
  rw [hf]
  exact ⟨rfl, hregister, hstopped, hdiag, singleFault_degrades code (x := (s.saf, s.core)) hruns, singleFault_due code (x := (s.saf, s.core)) hruns⟩

/-- R315, R328: what the safe state shows of the machine. -/
theorem ends_safeEnter {i : Instr} {s : State} (f : SC → SC) (hs : s.up) (he : exec i s = .next (onSaf (fun _ _ => f) s)) (hsafe : s.saf.safe = false)
    (hf : f (s.saf, s.core) = safeEnter (s.saf, s.core)) :
    Ends i s fun t => safOnly s t ∧ t.saf.safe = true ∧
      t.saf.gate = Nat.lor (Nat.lor s.saf.gate (b2n (s.saf.runs 0))) (2 * b2n (s.saf.runs 1)) ∧ t.saf.rst = true ∧ t.saf.deg = false ∧
      t.saf.safeDue = false ∧ t.core.cnv.deg = false ∧ ∀ j, j < 6 → (t.saf.o j).on = false := by
  refine ends_onSaf (fun _ _ => f) hs he ?_
  rw [hf]
  exact ⟨rfl, safeEnter_shows (x := (s.saf, s.core)) hsafe⟩

/-- Settles O25: each command by the lemma that says what its effect on the channels shows. -/
theorem safetyFaults : Obligations.SafetyFaults := by
  unfold Obligations.SafetyFaults
  intro s ch code k side hs hch hk hside
  refine ⟨?fault, ?noFault, ?readback, ?noReadback, ?diagFails, ?diagPasses, ?line, ?noLine, ?degradedEnd, ?noDegradedEnd, ?safe, ?noSafe, ?missing,
    ?limit, ?noLimit, ?pulse, ?noPulse, ?load, ?noLoad, ?lost, ?differ, ?noFeedback⟩
  case fault => exact fun hruns => ends_channelFault code (singleFault ch code) hs rfl hruns rfl
  case noFault => exact fun h => ends_onSaf_unchanged (fun _ => singleFault ch code) hs rfl (singleFault_none code s.line h)
  case readback => exact fun hgate hruns => ends_channelFault 11 (readbackTimeout ch) hs rfl hruns (readbackTimeout_due s.line hgate)
  case noReadback => exact fun h => ends_onSaf_unchanged (fun _ => readbackTimeout ch) hs rfl (readbackTimeout_none s.line h)
  case diagFails =>
    intro p hp hruns
    simp only [List.mem_cons, List.not_mem_nil, or_false] at hp
    rcases hp with rfl | rfl | rfl | rfl
    · exact ends_channelFault 4 _ hs rfl hruns (ownDiag_fails hch 4 s.line _)
    · exact ends_channelFault 1 _ hs rfl hruns (ownDiag_fails hch 1 s.line _)
    · exact ends_channelFault 2 _ hs rfl hruns (ownDiag_fails hch 2 s.line _)
    · exact ends_channelFault 3 _ hs rfl hruns (ownDiag_fails hch 3 s.line _)
  case diagPasses =>
    intro i hi
    simp only [List.mem_cons, List.not_mem_nil, or_false] at hi
    rcases hi with rfl | rfl | rfl | rfl
    · exact ends_onSaf_unchanged _ hs rfl (ownDiag_passes 4 s.line _)
    · exact ends_onSaf_unchanged _ hs rfl (ownDiag_passes 1 s.line _)
    · exact ends_onSaf_unchanged _ hs rfl (ownDiag_passes 2 s.line _)
    · exact ends_onSaf_unchanged _ hs rfl (ownDiag_passes 3 s.line _)
  case line => exact fun hdeg hage => ends_onSaf (fun _ _ => degradedGate) hs rfl ⟨rfl, degradedGate_due (x := (s.saf, s.core)) hdeg hage⟩
  case noLine => exact fun h => ends_onSaf_unchanged (fun _ _ => degradedGate) hs rfl (degradedGate_none h)
  case degradedEnd => exact fun hdeg hage hsafe => ends_safeEnter degradedEnd hs rfl hsafe (degradedEnd_due hdeg hage)
  case noDegradedEnd => exact fun h => ends_onSaf_unchanged (fun _ _ => degradedEnd) hs rfl (degradedEnd_none h)
  case safe => exact fun hdue hsafe => ends_safeEnter safeWhenDue hs rfl hsafe (safeWhenDue_due hdue)
  case noSafe => exact fun h => ends_onSaf_unchanged (fun _ _ => safeWhenDue) hs rfl (safeWhenDue_none h)
  case missing => exact ends_onSaf (fun _ _ => exchangeMissing) hs rfl ⟨rfl, exchangeMissing_shows (s.saf, s.core)⟩
  case limit =>
    exact fun hconf => ends_onSaf (fun _ _ => currentLimit k side) hs rfl ⟨rfl, outputFault_shows k (if side = 0 then 2 else 4) (x := (s.saf, s.core)) hconf⟩
  case noLimit => exact fun h => ends_onSaf_unchanged (fun _ _ => currentLimit k side) hs rfl (outputFault_none _ h)
  case pulse =>
    exact fun hconf => ends_onSaf (fun _ _ => offPulse k side true) hs rfl ⟨rfl, outputFault_shows k (if side = 0 then 1 else 3) (x := (s.saf, s.core)) hconf⟩
  case noPulse => exact ends_onSaf_unchanged (fun _ _ => offPulse k side false) hs rfl rfl
  case load =>
    intro hon
    refine ends_onSaf (fun _ _ => openLoad k) hs rfl ?_
    rw [openLoad_on (x := (s.saf, s.core)) hon]
    exact ⟨rfl, outputDrop_shows k 5 s.saf⟩
  case noLoad => exact fun h => ends_onSaf_unchanged (fun _ _ => openLoad k) hs rfl (openLoad_off h)
  case lost =>
    intro hconf hcf hrole hdiffer hwrong hon
    refine ends_onSaf (fun _ => cfTimeout k) hs rfl ?_
    rw [cfTimeout_lost (x := (s.saf, s.core)) s.line hconf hcf hrole hdiffer hwrong hon]
    exact ⟨rfl, outputDrop_shows k 7 s.saf⟩
  case differ =>
    intro hconf hcf hrole hdiffer
    refine ends_onSaf (fun _ => cfTimeout k) hs rfl ?_
    rw [cfTimeout_differ (x := (s.saf, s.core)) s.line hconf hcf hrole hdiffer]
    exact ⟨rfl, weldLatch_fault k s.line (s.saf, s.core)⟩
  case noFeedback => exact fun h => ends_onSaf_unchanged (fun _ => cfTimeout k) hs rfl (cfTimeout_none s.line h)

end Sys2Proof.Machine
end

section
/-! PROOF. O53: an activation while no channel runs that would see the gates (R313, R320, R333). -/

namespace Sys2Proof.Machine

/-! ### An activation by password (R333, R334) -/

/-- R333: an activation by password whose conditions hold makes the staged set active. -/
theorem safActivate_conf {x : SC} (a : AonSt) (hstgOk : x.1.stgOk = true) (hcv : x.1.cvA = x.1.cvB) (hoff : ∀ k, (x.1.o k).on = false)
    (hgates : x.1.gatesSafe = true) : (safActivate a none x).1.conf = true := by
  have hstgOk' : ¬ (!x.1.asked.stgOk) = true := by simpa [SafSt.asked] using hstgOk
  have hcv' : ¬ (x.1.asked.cvA != x.1.asked.cvB || false) = true := by simpa [SafSt.asked] using hcv
  have hsafe : ¬ ((upTo 6).any (fun k => (x.1.asked.o k).on) || !x.1.asked.gatesSafe) = true := by
    simpa [show x.1.asked.gatesSafe = true from hgates] using fun k (_ : k ∈ upTo 6) => show (x.1.asked.o k).on = false from hoff k
  rw [safActivate_eq, if_neg hstgOk', if_neg hcv', if_neg hsafe]
  split
  · rfl
  · exact (tame_twoFault 4 _).conf

/-- Without an active set the checks of an exchange leave an output off that was off. -/
theorem exchangeChecks_off {q : SafXch} {l : LineSt} {x : SC} {k : Nat} (hconf : x.1.conf = false) (hoff : (x.1.o k).on = false) :
    ((exchangeChecks q l x).1.o k).on = false := by
  have hchecks := tame_exchangeChecks q l x
  refine Bool.eq_false_iff.mpr fun hon => ?_
  rcases hchecks.rise k hon with h | ⟨h, -⟩
  · rw [takeReads_on, hoff] at h
    exact Bool.false_ne_true h
  · have hreads : (takeReads q (!x.2.gatesOn) x.1).conf = x.1.conf :=
      forUp_invariant (P := fun t => SafSt.conf t = x.1.conf) rfl fun _ _ ht => ht
    exact Bool.false_ne_true ((hconf.symm.trans hreads.symm).trans (hchecks.conf.symm.trans h))

theorem activeSet_ne_of_conf {s t : SafSt} (hs : s.conf = false) (ht : t.conf = true) : t.activeSet ≠ s.activeSet :=
  fun he => Bool.false_ne_true ((hs.symm.trans (congrArg Prod.fst he).symm).trans ht)

theorem channelExchange_conf {q : SafXch} {s : State} (hs : s.up) (h : (exchange q s.aon s.line (s.saf, s.core)).1.conf = true) :
    (hifSettle (onCore exchanged (onSaf (exchange q) s))).saf.conf = true := by
  rw [(calm_settled (calm_onCore exchanged (onSaf (exchange q) s))).saf.conf, onSaf_run (exchange q) (by rw [hs.1]; decide) hs.2]
  exact h

/-! ### What the checks of an exchange leave staged (R312 to R314, R333) -/

/-- R333: what an activation looks at of the staged set. -/
def SafSt.stagedFor (s : SafSt) : Option (Option Nat) × Bool × Nat × Nat := (s.ask, s.stgOk, s.cvA, s.cvB)

theorem takeReads_stagedFor (q : SafXch) (safe : Bool) (s : SafSt) : (takeReads q safe s).stagedFor = s.stagedFor :=
  forUp_invariant (P := fun t => SafSt.stagedFor t = s.stagedFor) rfl fun _ _ ht => ht

theorem inputMs_stagedFor (k : Nat) (s : SafSt) : (inputMs k s).stagedFor = s.stagedFor := by unfold inputMs; split <;> rfl
theorem outputMs_stagedFor (k : Nat) (s : SafSt) : (outputMs k s).stagedFor = s.stagedFor := by unfold outputMs; split <;> rfl

theorem safMs_stagedFor (s : SafSt) : (safMs s).stagedFor = s.stagedFor := by
  have hinputs : (forUp 8 inputMs s).stagedFor = s.stagedFor :=
    forUp_invariant (P := fun t => SafSt.stagedFor t = s.stagedFor) rfl fun k t ht => (inputMs_stagedFor k t).trans ht
  exact forUp_invariant (P := fun t => SafSt.stagedFor t = s.stagedFor) hinputs fun k t ht => (outputMs_stagedFor k t).trans ht

theorem singleFault_stagedFor (ch code : Nat) (l : LineSt) (x : SC) : (singleFault ch code l x).1.stagedFor = x.1.stagedFor := by
  have hout : (outOfService ch code x).1.stagedFor = x.1.stagedFor := by rw [outOfService_fst]; rfl
  rw [singleFault_eq]
  split
  · rfl
  · split
    · exact hout
    · split
      · exact hout
      · exact hout

theorem twoFault_stagedFor (code : Nat) (x : SC) : (twoFault code x).1.stagedFor = x.1.stagedFor := by rw [twoFault_fst]; rfl

theorem oscCheck_stagedFor (v : Nat) (l : LineSt) (x : SC) : (oscCheck v l x).1.stagedFor = x.1.stagedFor := by
  unfold oscCheck
  split
  · exact singleFault_stagedFor 0 5 l x
  · exact singleFault_stagedFor 1 5 l x
  · exact twoFault_stagedFor 5 x
  · rfl

theorem oscChecks_stagedFor (q : SafXch) (l : LineSt) (x : SC) : (oscChecks q l x).1.stagedFor = x.1.stagedFor := by
  have hA : (if x.1.runs 0 then oscCheck (oscVerdict 0 q.a) l x else x).1.stagedFor = x.1.stagedFor := by
    split
    · exact oscCheck_stagedFor _ l x
    · rfl
  unfold oscChecks
  dsimp only
  generalize (if x.1.runs 0 then oscCheck (oscVerdict 0 q.a) l x else x) = y at hA ⊢
  split
  · exact (oscCheck_stagedFor _ l y).trans hA
  · exact hA

theorem mismatch_stagedFor (code : Nat) (s : SafSt) : (mismatch code s).stagedFor = s.stagedFor := by unfold mismatch; split <;> rfl

theorem compareItems_stagedFor (q : SafXch) (s : SafSt) : (compareItems q s).stagedFor = s.stagedFor := by
  have hmis : ∀ (p : Prop) [Decidable p] (code : Nat) (t : SafSt), (if p then mismatch code t else t).stagedFor = t.stagedFor := fun p _ code t => by
    split
    · exact mismatch_stagedFor code t
    · rfl
  unfold compareItems
  split
  · rfl
  · exact (hmis _ 4 _).trans (hmis _ 7 _)

theorem misDue_stagedFor (x : SC) : (misDue x).1.stagedFor = x.1.stagedFor := by
  unfold misDue
  exact List.foldlRecOn _ _ (motive := fun y : SC => y.1.stagedFor = x.1.stagedFor) rfl fun y hy m _ => (twoFault_stagedFor m.1 y).trans hy

theorem SafSt.Acts.stagedFor {s t : SafSt} (h : s.Acts t) : t.stagedFor = s.stagedFor :=
  show t.besideActs.stagedFor = s.besideActs.stagedFor by rw [h.rest]

theorem exchangeChecks_stagedFor (q : SafXch) (l : LineSt) (x : SC) : (exchangeChecks q l x).1.stagedFor = x.1.stagedFor := by
  unfold exchangeChecks
  dsimp only
  rw [(acts_demandAct 3 l _).stagedFor, misDue_stagedFor, compareItems_stagedFor, oscChecks_stagedFor, safMs_stagedFor, takeReads_stagedFor]

/-- R333: an exchange that meets the conditions of an activation by password makes the staged set active. -/
theorem exchange_conf {q : SafXch} {x : SC} (a : AonSt) (l : LineSt) (hask : x.1.ask = some none) (hstgOk : x.1.stgOk = true) (hcv : x.1.cvA = x.1.cvB)
    (hconf : x.1.conf = false) (hoff : ∀ k, (x.1.o k).on = false) (hgates : (takeReads q (!x.2.gatesOn) x.1).gatesSafe = true) :
    (exchange q a l x).1.conf = true := by
  have hstaged := exchangeChecks_stagedFor q l x
  simp only [SafSt.stagedFor, Prod.mk.injEq] at hstaged
  obtain ⟨hask', hstgOk', hcvA, hcvB⟩ := hstaged
  rw [exchange_eq]
  refine (tame_serveOuts l _).conf.trans ?_
  rw [hask', hask]
  exact safActivate_conf a (hstgOk'.trans hstgOk) (hcvA.trans (hcv.trans hcvB.symm)) (fun k => exchangeChecks_off hconf (hoff k))
    ((tame_exchangeChecks q l x).gates hgates)

/-! ### No channel sees the gates (R313, R320) -/

/-- Neither channel runs (R313), CNV switches with its gates enabled (R230), and a staged set waits for its activation by password (R334). -/
def unwatchedGatesState : State :=
  { State.reset with
    core := State.reset.core.wr F.CNV_STAT.STATE 3
    saf := { faulty := 3, stgOk := true, ask := some none } }

theorem unwatchedGatesState_activates :
    (hifSettle (onCore exchanged (onSaf (exchange {}) unwatchedGatesState))).saf.conf = true :=
  channelExchange_conf ⟨rfl, rfl⟩ (exchange_conf _ _ rfl rfl rfl rfl (fun _ => rfl) rfl)

/-- Refutes O53: its clause for the gates asks for gates that are not enabled. R320 asks for the readback of every channel that runs; in
`unwatchedGatesState` none runs, the gates are enabled, and the exchange makes the staged set active. -/
theorem not_activeSetChanges : ¬ Obligations.ActiveSetChanges := by
  unfold Obligations.ActiveSetChanges
  intro h
  have hchanges : (hifSettle (onCore exchanged (onSaf (exchange {}) unwatchedGatesState))).saf.activeSet ≠ unwatchedGatesState.saf.activeSet :=
    activeSet_ne_of_conf rfl unwatchedGatesState_activates
  have hstep : step { unwatchedGatesState with pending := [.channelExchange {}] } =
      .next (hifSettle (onCore exchanged (onSaf (exchange {}) unwatchedGatesState))) := rfl
  obtain ⟨-, -, -, hgates, -⟩ := h _ _ hstep hchanges
  exact absurd hgates (by decide)

end Sys2Proof.Machine
end

section
/-! PROOF. O27: the commands of SAFM_CMD and the staging of a set (R319 to R338). -/

namespace Sys2Proof.Machine

/-! ### The frame of a command (R338) -/

/-- The blocks of SAFM, which shows a command, and of PROT, which sees the gate-off lines. -/
def safCmdBlks : List Nat := [F.SAFM_STAT.SAFE.block, F.PROT_STAT.TRIP.block]

/-- R338: a command changes no active set, no output and no register outside SAFM and PROT. -/
structure SafCmdFrame (x y : SC) : Prop where
  set : y.1.activeSet = x.1.activeSet
  registers : blocksOnly safCmdBlks x.2 y.2
  on : ∀ k, (y.1.o k).on = (x.1.o k).on

/-- R338: RESULT shows the end of a command. -/
structure SafCmdGives (r : Nat) (x y : SC) : Prop extends SafCmdFrame x y where
  shown : y.2.rd F.SAFM_CMD.RESULT = r
  result : y.1.result = r

theorem SafCmdFrame.refl (x : SC) : SafCmdFrame x x := ⟨rfl, blocksOnly_refl _ _, fun _ => rfl⟩

/-- A change of the channels alone. -/
theorem SafCmdFrame.of {x : SC} {s : SafSt} (hset : s.activeSet = x.1.activeSet) (hon : ∀ k, (s.o k).on = (x.1.o k).on) : SafCmdFrame x (s, x.2) :=
  ⟨hset, blocksOnly_refl _ _, hon⟩

/-- A change of the channels that keeps the active set and the outputs. -/
theorem SafCmdFrame.channels {x : SC} {s : SafSt} (h : (s.activeSet, s.out) = (x.1.activeSet, x.1.out)) : SafCmdFrame x (s, x.2) := by
  obtain ⟨hset, hout⟩ := Prod.mk.inj h
  exact .of hset fun k => by unfold SafSt.o; rw [hout]

theorem SafCmdFrame.wr {x y : SC} (h : SafCmdFrame x y) {f : Fld} (v : Nat) (hf : f.block ∈ safCmdBlks) : SafCmdFrame x (y.1, y.2.wr f v) :=
  ⟨h.set, blocksOnly_wr h.registers hf, h.on⟩

theorem SafCmdFrame.pdataShow {x y : SC} (h : SafCmdFrame x y) : SafCmdFrame x (pdataShow y) :=
  (h.wr y.1.idx (f := F.SAFM_PADDR.IDX) (by decide)).wr (Tab.get 0 y.1.stg y.1.idx) (f := F.SAFM_PDATA.DATA) (by decide)

theorem SafCmdFrame.touch {x : SC} {s : SafSt} {c : Core} (h : SafCmdFrame x (s, c)) : SafCmdFrame x (safmTouch s, c) := ⟨h.set, h.registers, h.on⟩

@[simp] theorem safmTouch_o (s : SafSt) : (safmTouch s).o = s.o := rfl
@[simp] theorem safmTouch_i (s : SafSt) : (safmTouch s).i = s.i := rfl
@[simp] theorem safmTouch_activeSet (s : SafSt) : (safmTouch s).activeSet = s.activeSet := rfl
@[simp] theorem safResult_o (r : Nat) (x : SC) : (safResult r x).1.o = x.1.o := rfl
@[simp] theorem safResult_i (r : Nat) (x : SC) : (safResult r x).1.i = x.1.i := rfl
@[simp] theorem safResult_activeSet (r : Nat) (x : SC) : (safResult r x).1.activeSet = x.1.activeSet := rfl
@[simp] theorem safResult_result (r : Nat) (x : SC) : (safResult r x).1.result = r := rfl

theorem gives_safResult {r : Nat} {x y : SC} (hr : r < 8) (h : SafCmdFrame x y) : SafCmdGives r x (safResult r y) where
  set := h.set
  registers := blocksOnly_wr h.registers (by decide)
  on := h.on
  shown := (Core.rd_wr_same _ _ _).trans (Nat.mod_eq_of_lt hr)
  result := rfl

theorem SafCmdGives.pdataShow {r : Nat} {x y : SC} (h : SafCmdGives r x y) : SafCmdGives r x (Machine.pdataShow y) where
  toSafCmdFrame := h.toSafCmdFrame.pdataShow
  shown := by
    unfold Machine.pdataShow
    rw [Core.rd_wr_ne _ _ (by decide), Core.rd_wr_ne _ _ (by decide), h.shown]
  result := h.result

/-! ### STAGE and COMPUTE (R331 to R333) -/

theorem gives_safStage (x : SC) : SafCmdGives 1 x (safStage x) := by
  refine (gives_safResult (by decide) ?_).pdataShow
  exact (SafCmdFrame.channels (s := safmTouch { x.1 with stg := x.1.act, stgB := x.1.actB, stgOk := false }) rfl).wr 0 (f := F.SAFM_STAT.STGOK) (by decide)

theorem safStage_stgOk (x : SC) : (safStage x).2.rd F.SAFM_STAT.STGOK = 0 := by
  simp (disch := decide) only [safStage, pdataShow, safResult, Core.rd_wr_ne, Core.rd_wr_same]
  rfl

theorem safCompute_ok {x : SC} (hA : safSetOk x.1.stg = true) (hB : safSetOk x.1.stgB = true) :
    safCompute x = safCvSet (safCrc x.1.stg) (safCrc x.1.stgB) x := by
  have hvb : (if x.1.stg = x.1.stgB then safCrc x.1.stg else safCrc x.1.stgB) = safCrc x.1.stgB := by
    split
    · next h => rw [h]
    · rfl
  unfold safCompute
  dsimp only
  rw [if_pos (by simp [hA, hB]), hvb]

theorem safCompute_range {x : SC} (h : ¬ (safSetOk x.1.stg = true ∧ safSetOk x.1.stgB = true)) :
    safCompute x = safResult 2 (safmTouch { x.1 with stgOk := false }, x.2) := if_neg (by simpa using h)

/-- R332: the check values that the channels have computed. -/
def SafSt.computed (va vb : Nat) (s : SafSt) : SafSt := { s with cvA := va, cvB := vb, stgOk := va == vb, sessAge := 0 }

theorem safCvSet_agree {va vb : Nat} (x : SC) (h : va = vb) : safCvSet va vb x = safResult 1 (x.1.computed va vb, x.2.raise 78 0 1) := if_pos h
theorem safCvSet_differ {va vb : Nat} (x : SC) (h : va ≠ vb) : safCvSet va vb x = safResult 3 (x.1.computed va vb, x.2) := if_neg h

theorem gives_safCvSet_agree {va vb : Nat} (x : SC) (h : va = vb) : SafCmdGives 1 x (safCvSet va vb x) := by
  rw [safCvSet_agree x h]
  exact gives_safResult (by decide) ⟨rfl, blocksOnly_raise (blocksOnly_refl _ _), fun _ => rfl⟩

theorem gives_safCvSet_differ {va vb : Nat} (x : SC) (h : va ≠ vb) : SafCmdGives 3 x (safCvSet va vb x) := by
  rw [safCvSet_differ x h]
  exact gives_safResult (by decide) (.channels rfl)

theorem gives_safCompute_range {x : SC} (h : ¬ (safSetOk x.1.stg = true ∧ safSetOk x.1.stgB = true)) : SafCmdGives 2 x (safCompute x) := by
  rw [safCompute_range h]
  exact gives_safResult (by decide) (.channels rfl)

/-! ### Staged words (R338) -/

/-- R338: a word is staged in both channels and IDX moves on. -/
def SafSt.staged (v : Nat) (s : SafSt) : SafSt :=
  { s with stg := Tab.put 0 s.stg s.idx (v % 2 ^ 32), stgB := Tab.put 0 s.stgB s.idx (v % 2 ^ 32), stgOk := false, idx := s.idx + 1, sessAge := 0 }

theorem pdataWrite_taken (v : Nat) {x : SC} (h : x.1.idx < 208) : pdataWrite v x = pdataShow (x.1.staged v, x.2.wr F.SAFM_STAT.STGOK 0) := by
  rw [pdataWrite, if_pos h, safPdata]
  dsimp only
  rw [if_pos h]
  rfl

theorem pdataWrite_beyond (v : Nat) {x : SC} (h : 208 ≤ x.1.idx) :
    pdataWrite v x = (safmTouch x.1, accViol .f0 0 F.SAFM_PDATA.DATA.off x.2) := if_neg (by omega)

theorem frame_pdataWrite (v : Nat) {x : SC} (h : x.1.idx < 208) : SafCmdFrame x (pdataWrite v x) := by
  rw [pdataWrite_taken v h]
  exact ((SafCmdFrame.channels (s := x.1.staged v) rfl).wr 0 (f := F.SAFM_STAT.STGOK) (by decide)).pdataShow

theorem pdataWrite_idx (v : Nat) {x : SC} (h : x.1.idx < 208) : (pdataWrite v x).2.rd F.SAFM_PADDR.IDX = x.1.idx + 1 := by
  rw [pdataWrite_taken v h, pdataShow, Core.rd_wr_ne _ _ (by decide), Core.rd_wr_same]
  exact Nat.mod_eq_of_lt (show x.1.idx + 1 < 256 by omega)

/-! ### CLRFLT and CLRWELD (R323, R325, R327) -/

/-- R323: CLRFLT at an input. -/
def SafIn.clrFlt (i : SafIn) : SafIn := if i.inf ≠ 0 ∧ i.seq ∧ 2 ≤ i.good then { i with inf := 0, bad := [], seq := false } else i

/-- R325: CLRFLT at an output. -/
def SafOut.clrFlt (o : SafOut) : SafOut := if o.fault ≠ 6 ∧ o.fault ≠ 0 ∧ 200 ≤ o.clean then { o with fault := 0 } else o

theorem SafIn.clrFlt_inf (i : SafIn) : i.clrFlt.inf = if i.seq = true ∧ 2 ≤ i.good then 0 else i.inf := by
  unfold SafIn.clrFlt
  by_cases hinf : i.inf = 0
  · simp [hinf]
  · by_cases h : i.seq = true ∧ 2 ≤ i.good
    · rw [if_pos ⟨hinf, h⟩, if_pos h]
    · rw [if_neg fun hc => h hc.2, if_neg h]

theorem SafOut.clrFlt_fault (o : SafOut) : o.clrFlt.fault = if o.fault ≠ 6 ∧ 200 ≤ o.clean then 0 else o.fault := by
  unfold SafOut.clrFlt
  by_cases hfault : o.fault = 0
  · simp [hfault]
  · by_cases h : o.fault ≠ 6 ∧ 200 ≤ o.clean
    · rw [if_pos ⟨h.1, hfault, h.2⟩, if_pos h]
    · rw [if_neg fun hc => h ⟨hc.1, hc.2.2⟩, if_neg h]

theorem SafOut.clrFlt_on (o : SafOut) : o.clrFlt.on = o.on := by
  unfold SafOut.clrFlt
  split <;> rfl

/-- R323: CLRFLT at input `k` of the channels. -/
def clrFltInput (k : Nat) (s : SafSt) : SafSt :=
  if (s.i k).inf ≠ 0 ∧ (s.i k).seq ∧ 2 ≤ (s.i k).good then s.setI k (fun i => { i with inf := 0, bad := [], seq := false }) else s

/-- R325: CLRFLT at output `k` of the channels. -/
def clrFltOutput (k : Nat) (s : SafSt) : SafSt :=
  if (s.o k).fault ≠ 6 ∧ (s.o k).fault ≠ 0 ∧ 200 ≤ (s.o k).clean then s.setO k (fun o => { o with fault := 0 }) else s

theorem safClrFlt_eq (x : SC) : safClrFlt x = safResult 1 (safmTouch (forUp 6 clrFltOutput (forUp 8 clrFltInput x.1)), x.2) := rfl

theorem clrFltInput_i (k : Nat) (s : SafSt) : (clrFltInput k s).i k = (s.i k).clrFlt := by
  unfold clrFltInput SafIn.clrFlt
  split
  · exact SafSt.i_setI_same s k _
  · rfl

theorem clrFltInput_i_ne {k j : Nat} (s : SafSt) (h : k ≠ j) : (clrFltInput k s).i j = s.i j := by
  unfold clrFltInput
  split
  · exact SafSt.i_setI_ne s _ h.symm
  · rfl

theorem clrFltInput_out (k : Nat) (s : SafSt) : (clrFltInput k s).out = s.out := by unfold clrFltInput; split <;> rfl

theorem clrFltOutput_o (k : Nat) (s : SafSt) : (clrFltOutput k s).o k = (s.o k).clrFlt := by
  unfold clrFltOutput SafOut.clrFlt
  split
  · exact SafSt.o_setO_same s k _
  · rfl

theorem clrFltOutput_o_ne {k j : Nat} (s : SafSt) (h : k ≠ j) : (clrFltOutput k s).o j = s.o j := by
  unfold clrFltOutput
  split
  · exact SafSt.o_setO_ne s _ h.symm
  · rfl

theorem clrFltOutput_inp (k : Nat) (s : SafSt) : (clrFltOutput k s).inp = s.inp := by unfold clrFltOutput; split <;> rfl

theorem clrFltOutput_on (k : Nat) (s : SafSt) (j : Nat) : ((clrFltOutput k s).o j).on = (s.o j).on := by
  by_cases h : k = j
  · rw [← h, clrFltOutput_o, SafOut.clrFlt_on]
  · rw [clrFltOutput_o_ne s h]

/-- R323: the inputs behind CLRFLT. -/
theorem clrFlt_i {k : Nat} (hk : k < 8) (s : SafSt) : (forUp 6 clrFltOutput (forUp 8 clrFltInput s)).i k = (s.i k).clrFlt := by
  have hinp : (forUp 6 clrFltOutput (forUp 8 clrFltInput s)).inp = (forUp 8 clrFltInput s).inp :=
    forUp_invariant (P := fun t => SafSt.inp t = (forUp 8 clrFltInput s).inp) rfl fun k t ht => (clrFltOutput_inp k t).trans ht
  obtain ⟨t, -, hi, hshow⟩ := forUp_at (P := fun _ => True) (f := clrFltInput) (fun t => SafSt.i t k) hk (x := s) trivial (fun _ _ _ => trivial)
    fun _ t h => clrFltInput_i_ne t h
  rw [SafSt.i, hinp]
  exact hshow.trans ((clrFltInput_i k t).trans (congrArg SafIn.clrFlt hi))

theorem clrFltInputs_out (s : SafSt) : (forUp 8 clrFltInput s).out = s.out :=
  forUp_invariant (P := fun t => SafSt.out t = s.out) rfl fun k t ht => (clrFltInput_out k t).trans ht

/-- R325: the outputs behind CLRFLT. -/
theorem clrFlt_o {k : Nat} (hk : k < 6) (s : SafSt) : (forUp 6 clrFltOutput (forUp 8 clrFltInput s)).o k = (s.o k).clrFlt := by
  obtain ⟨t, -, ho, hshow⟩ := forUp_at (P := fun _ => True) (f := clrFltOutput) (fun t => SafSt.o t k) hk (x := forUp 8 clrFltInput s) trivial
    (fun _ _ _ => trivial) fun _ t h => clrFltOutput_o_ne t h
  have hfirst : (forUp 8 clrFltInput s).o k = s.o k := by rw [SafSt.o, clrFltInputs_out, ← SafSt.o]
  rw [hfirst] at ho
  exact hshow.trans ((clrFltOutput_o k t).trans (congrArg SafOut.clrFlt ho))

theorem clrFlt_on (s : SafSt) (j : Nat) : ((forUp 6 clrFltOutput (forUp 8 clrFltInput s)).o j).on = (s.o j).on := by
  refine forUp_invariant (P := fun t => (SafSt.o t j).on = (s.o j).on) ?_ fun k t ht => (clrFltOutput_on k t j).trans ht
  rw [SafSt.o, clrFltInputs_out, ← SafSt.o]

theorem gives_safClrFlt (x : SC) : SafCmdGives 1 x (safClrFlt x) := by
  have hset := (tame_safClrFlt x).set
  rw [safClrFlt_eq] at hset ⊢
  rw [safResult_activeSet, safmTouch_activeSet] at hset
  have hcleared : SafCmdFrame x (forUp 6 clrFltOutput (forUp 8 clrFltInput x.1), x.2) := .of hset (clrFlt_on x.1)
  exact gives_safResult (by decide) hcleared.touch

theorem safClrFlt_inf {k : Nat} (hk : k < 8) (x : SC) :
    ((safClrFlt x).1.i k).inf = if (x.1.i k).seq = true ∧ 2 ≤ (x.1.i k).good then 0 else (x.1.i k).inf := by
  rw [safClrFlt_eq, safResult_i, safmTouch_i, clrFlt_i hk, SafIn.clrFlt_inf]

theorem safClrFlt_fault {k : Nat} (hk : k < 6) (x : SC) :
    ((safClrFlt x).1.o k).fault = if (x.1.o k).fault ≠ 6 ∧ 200 ≤ (x.1.o k).clean then 0 else (x.1.o k).fault := by
  rw [safClrFlt_eq, safResult_o, safmTouch_o, clrFlt_o hk, SafOut.clrFlt_fault]

/-- R327: CF of a welded output has indicated open for T_CF. -/
def SafSt.weldClears (s : SafSt) (k : Nat) : Bool := (s.o k).fault == 6 && decide (s.tcf k ≤ (s.o k).openMs)

theorem weldClears_iff {s : SafSt} {k : Nat} : s.weldClears k = true ↔ (s.o k).fault = 6 ∧ s.tcf k ≤ (s.o k).openMs := by
  simp [SafSt.weldClears]

/-- R327: CLRWELD at output `k` of the channels. -/
def clrWeldOutput (k : Nat) (s : SafSt) : SafSt := if s.weldClears k then s.setO k (fun o => { o with fault := 0 }) else s

theorem safClrWeld_eq (x : SC) :
    safClrWeld x = safResult (if (upTo 6).any x.1.weldClears then 1 else 6) (safmTouch (forUp 6 clrWeldOutput x.1), x.2) := rfl

theorem clrWeldOutput_tcf (k : Nat) (s : SafSt) : (clrWeldOutput k s).tcf = s.tcf := by unfold clrWeldOutput; split <;> rfl

theorem clrWeldOutput_o_ne {k j : Nat} (s : SafSt) (h : k ≠ j) : (clrWeldOutput k s).o j = s.o j := by
  unfold clrWeldOutput
  split
  · exact SafSt.o_setO_ne s _ h.symm
  · rfl

theorem clrWeldOutput_fault (k : Nat) (s : SafSt) :
    ((clrWeldOutput k s).o k).fault = if (s.o k).fault = 6 ∧ s.tcf k ≤ (s.o k).openMs then 0 else (s.o k).fault := by
  unfold clrWeldOutput
  split
  · next h => rw [SafSt.o_setO_same, if_pos (weldClears_iff.mp h)]
  · next h => rw [if_neg fun hc => h (weldClears_iff.mpr hc)]

theorem clrWeldOutput_on (k : Nat) (s : SafSt) (j : Nat) : ((clrWeldOutput k s).o j).on = (s.o j).on := by
  unfold clrWeldOutput
  split
  · rw [SafSt.o_setO]
    split
    · next he => rw [he]; rfl
    · rfl
  · rfl

theorem frame_safClrWeld (x : SC) : SafCmdFrame x (safClrWeld x) := by
  have hset := (tame_safClrWeld x).set
  have hon : ∀ j, ((forUp 6 clrWeldOutput x.1).o j).on = (x.1.o j).on := fun j =>
    forUp_invariant (P := fun t => (SafSt.o t j).on = (x.1.o j).on) rfl fun k t ht => (clrWeldOutput_on k t j).trans ht
  rw [safClrWeld_eq] at hset ⊢
  rw [safResult_activeSet, safmTouch_activeSet] at hset
  have hcleared : SafCmdFrame x (forUp 6 clrWeldOutput x.1, x.2) := .of hset hon
  exact (gives_safResult (by split <;> decide) hcleared.touch).toSafCmdFrame

theorem safClrWeld_fault {k : Nat} (hk : k < 6) (x : SC) :
    ((safClrWeld x).1.o k).fault = if (x.1.o k).fault = 6 ∧ x.1.tcf k ≤ (x.1.o k).openMs then 0 else (x.1.o k).fault := by
  obtain ⟨t, htcf, ho, hshow⟩ := forUp_at (P := fun t => SafSt.tcf t = x.1.tcf) (f := clrWeldOutput) (fun t => SafSt.o t k) hk (x := x.1) rfl
    (fun j t ht => (clrWeldOutput_tcf j t).trans ht) fun _ t h => clrWeldOutput_o_ne t h
  rw [safClrWeld_eq, safResult_o, safmTouch_o, hshow, clrWeldOutput_fault, htcf, ho]

theorem safClrWeld_result (x : SC) : (safClrWeld x).1.result = 1 ↔ ∃ k, k < 6 ∧ (x.1.o k).fault = 6 ∧ x.1.tcf k ≤ (x.1.o k).openMs := by
  have hany : (upTo 6).any x.1.weldClears = true ↔ ∃ k, k < 6 ∧ (x.1.o k).fault = 6 ∧ x.1.tcf k ≤ (x.1.o k).openMs := by
    simp only [List.any_eq_true, upTo, List.mem_range, weldClears_iff]
  rw [safClrWeld_eq, safResult_result, ← hany]
  split <;> simp [*]

/-! ### PWDEND and RST (R319, R328, R334) -/

theorem gives_safPwdEnd (x : SC) : SafCmdGives 1 x (safPwdEnd x) :=
  gives_safResult (y := ({ x.1 with session := false }, x.2)) (by decide) (.channels rfl)

theorem resetOk_touch (l : LineSt) (s : SafSt) : (safmTouch s).resetOk l = s.resetOk l := rfl

theorem gateLine_released_csr (ch : Nat) (c : Core) : (gateLine ch false c).csr = c.csr := rfl

/-- R319, R328: the lines that a reset releases. -/
def linesReleased (held : Nat) (c : Core) : Core := forUp 2 (fun ch c => if bitAt held ch then c else gateLine ch false c) c

theorem linesReleased_csr (held : Nat) (c : Core) : (linesReleased held c).csr = c.csr := by
  refine forUp_invariant (P := fun d => Core.csr d = c.csr) rfl fun ch d hd => ?_
  split
  · exact hd
  · exact (gateLine_released_csr ch d).trans hd

theorem safRstCmd_ok {l : LineSt} {x : SC} (hmode : x.1.rstMode = true) (hok : x.1.resetOk l = true) :
    safRstCmd l x = safResult 1 ({ x.1 with rst := false, gate := x.1.heldLine, sessAge := 0 }, linesReleased x.1.heldLine x.2) := by
  rw [safRstCmd, if_pos (by simp [hmode, hok]), safReset, if_pos ((resetOk_touch l x.1).trans hok)]
  rfl

theorem safRstCmd_refused {l : LineSt} {x : SC} (h : x.1.rstMode = false ∨ x.1.resetOk l = false) :
    safRstCmd l x = safResult 6 (safmTouch x.1, x.2) := if_neg (by rcases h with h | h <;> simp [h])

theorem gives_safRstCmd_ok {l : LineSt} {x : SC} (hmode : x.1.rstMode = true) (hok : x.1.resetOk l = true) : SafCmdGives 1 x (safRstCmd l x) := by
  rw [safRstCmd_ok hmode hok]
  exact gives_safResult (by decide) ⟨rfl, blocksOnly_csr (linesReleased_csr _ _), fun _ => rfl⟩

theorem gives_safRstCmd_refused {l : LineSt} {x : SC} (h : x.1.rstMode = false ∨ x.1.resetOk l = false) : SafCmdGives 6 x (safRstCmd l x) := by
  rw [safRstCmd_refused h]
  exact gives_safResult (by decide) (.channels rfl)

/-! ### The commands -/

/-- R338: what a command with the result `r` leaves of the machine. -/
theorem SafCmdGives.ends {r : Nat} {i : Instr} {s : State} {P : State → Prop} (f : LineSt → SC → SC) (hs : s.up) (he : exec i s = .next (onSaf (fun _ => f) s))
    (h : SafCmdGives r (s.saf, s.core) (f s.line (s.saf, s.core)))
    (hP : P { s with saf := (f s.line (s.saf, s.core)).1, core := (f s.line (s.saf, s.core)).2 }) :
    Ends i s fun t => ((safOnly s t ∧ t.saf.activeSet = s.saf.activeSet ∧ blocksOnly safCmdBlks s.core t.core ∧ ∀ k, (t.saf.o k).on = (s.saf.o k).on) ∧
      t.core.rd F.SAFM_CMD.RESULT = r ∧ t.saf.result = r) ∧ P t :=
  ends_onSaf (fun _ => f) hs he ⟨⟨⟨rfl, h.set, h.registers, h.on⟩, h.shown, h.result⟩, hP⟩

/-- R338: what a command leaves of the machine, whatever its result. -/
theorem SafCmdFrame.ends {i : Instr} {s : State} {P : State → Prop} (f : SC → SC) (hs : s.up) (he : exec i s = .next (onSaf (fun _ _ => f) s))
    (h : SafCmdFrame (s.saf, s.core) (f (s.saf, s.core))) (hP : P { s with saf := (f (s.saf, s.core)).1, core := (f (s.saf, s.core)).2 }) :
    Ends i s fun t => (safOnly s t ∧ t.saf.activeSet = s.saf.activeSet ∧ blocksOnly safCmdBlks s.core t.core ∧ ∀ k, (t.saf.o k).on = (s.saf.o k).on) ∧ P t :=
  ends_onSaf (fun _ _ => f) hs he ⟨⟨rfl, h.set, h.registers, h.on⟩, hP⟩

/-- Settles O27: each command by the frame of a command, its result and what its effect on the channels shows. -/
theorem safmCommands : Obligations.SafmCommands := by
  unfold Obligations.SafmCommands
  intro s v hs
  refine ⟨?stage, ?agree, ?differ, ?range, ?staged, ?beyond, ?confirm, ?activate, ?noSession, ?sessionEnd, ?clrflt, ?clrweld, ?reset, ?noReset⟩
  case stage => exact (gives_safStage (s.saf, s.core)).ends (fun _ => safStage) hs rfl ⟨rfl, safStage_stgOk (s.saf, s.core)⟩
  case agree =>
    rintro ⟨hA, hB⟩ hcv
    have hcompute := safCompute_ok (x := (s.saf, s.core)) hA hB
    have hshow : (safCompute (s.saf, s.core)).1 = { s.saf with cvA := safCrc s.saf.stg, cvB := safCrc s.saf.stgB, stgOk := true, sessAge := 0, result := 1 } := by
      rw [hcompute, safCvSet_agree _ hcv, safResult, SafSt.computed, beq_iff_eq.mpr hcv]
    exact SafCmdGives.ends (fun _ => safCompute) hs rfl (by rw [hcompute]; exact gives_safCvSet_agree _ hcv) hshow
  case differ =>
    rintro ⟨hA, hB⟩ hcv
    have hcompute := safCompute_ok (x := (s.saf, s.core)) hA hB
    have hshow : (safCompute (s.saf, s.core)).1 = { s.saf with cvA := safCrc s.saf.stg, cvB := safCrc s.saf.stgB, stgOk := false, sessAge := 0, result := 3 } := by
      rw [hcompute, safCvSet_differ _ hcv, safResult, SafSt.computed, beq_eq_false_iff_ne.mpr hcv]
    exact SafCmdGives.ends (fun _ => safCompute) hs rfl (by rw [hcompute]; exact gives_safCvSet_differ _ hcv) hshow
  case range =>
    intro h
    refine (gives_safCompute_range (x := (s.saf, s.core)) h).ends (fun _ => safCompute) hs rfl ?_
    rw [safCompute_range (x := (s.saf, s.core)) h]
    rfl
  case staged =>
    intro hidx
    refine (frame_pdataWrite v (x := (s.saf, s.core)) hidx).ends (pdataWrite v) hs rfl ?_
    have hshown := pdataWrite_idx v (x := (s.saf, s.core)) hidx
    have htaken : (pdataWrite v (s.saf, s.core)).1 = s.saf.staged v := by rw [pdataWrite_taken v (x := (s.saf, s.core)) hidx]; rfl
    dsimp only
    rw [htaken]
    exact ⟨rfl, hshown, rfl, fun i => ⟨Tab.get_put _ _ _ _ _, Tab.get_put _ _ _ _ _⟩⟩
  case beyond =>
    intro hidx
    refine ends_onSaf (fun _ _ => pdataWrite v) hs rfl ?_
    obtain ⟨hfields, -, hcount, -, -, hoff⟩ := accViol_counts (m := .f0) (kind := 0) (off := F.SAFM_PDATA.DATA.off) (c := s.core) (by decide) (by decide)
    rw [pdataWrite_beyond v (x := (s.saf, s.core)) hidx]
    exact ⟨rfl, rfl, hfields, hcount, hoff⟩
  case confirm =>
    refine SafCmdFrame.ends (safConfirm v) hs rfl ?_ ⟨rfl, Core.rd_wr_same _ _ _⟩
    exact (SafCmdFrame.channels (x := (s.saf, s.core)) (s := safmTouch { s.saf with ask := some (some v), confirm := v }) rfl).wr v
      (f := F.SAFM_CONFIRM.CV) (by decide)
  case activate =>
    intro hsession
    refine ends_onSaf (fun _ _ => safPwdAct) hs rfl ?_
    rw [safPwdAct, if_pos hsession]
    rfl
  case noSession =>
    intro hsession
    have hrefused : safPwdAct (s.saf, s.core) = safResult 5 (s.saf, s.core) := if_neg (by simp [hsession])
    refine SafCmdGives.ends (fun _ => safPwdAct) hs rfl (by rw [hrefused]; exact gives_safResult (by decide) (.refl _)) ?_
    rw [hrefused]
    rfl
  case sessionEnd => exact (gives_safPwdEnd (s.saf, s.core)).ends (fun _ => safPwdEnd) hs rfl rfl
  case clrflt =>
    exact (gives_safClrFlt (s.saf, s.core)).ends (fun _ => safClrFlt) hs rfl
      ⟨fun k hk => safClrFlt_inf hk (s.saf, s.core), fun k hk => safClrFlt_fault hk (s.saf, s.core)⟩
  case clrweld =>
    exact (frame_safClrWeld (s.saf, s.core)).ends safClrWeld hs rfl ⟨fun k hk => safClrWeld_fault hk (s.saf, s.core), safClrWeld_result (s.saf, s.core)⟩
  case reset =>
    intro hmode hok
    refine (gives_safRstCmd_ok (x := (s.saf, s.core)) hmode hok).ends safRstCmd hs rfl ?_
    rw [safRstCmd_ok (x := (s.saf, s.core)) hmode hok]
    rfl
  case noReset =>
    intro h
    refine (gives_safRstCmd_refused (x := (s.saf, s.core)) h).ends safRstCmd hs rfl ?_
    rw [safRstCmd_refused (x := (s.saf, s.core)) h]
    rfl

end Sys2Proof.Machine
end

section
/-! PROOF. O28: password, session and lockout (R334), requests for the outputs (R320, R368), the window of the change log (R339). -/

namespace Sys2Proof.Machine

/-! ### Password, session, lockout (R334) -/

theorem safPassword_first (w3 : Nat) {x : SC} (h : x.1.pw = none) :
    safPassword w3 x = ({ x.1 with pw := some (Config.hash (x.1.password w3)), pwd := [0, 0, 0], sessAge := 0 }, x.2) := by
  unfold safPassword safmTouch
  dsimp only
  rw [h]

theorem safPassword_judged (w3 : Nat) {x : SC} {p : Nat} (h : x.1.pw = some p) : safPassword w3 x =
    if x.1.lock then ({ x.1 with pwd := [0, 0, 0], sessAge := 0 }, x.2)
    else if Config.hash (x.1.password w3) = p then ({ x.1 with session := true, mism := 0, pwd := [0, 0, 0], sessAge := 0 }, x.2)
    else ({ x.1 with mism := x.1.mism + 1, lock := decide (3 ≤ x.1.mism + 1), lockAge := 0, pwd := [0, 0, 0], sessAge := 0 }, x.2) := by
  unfold safPassword safmTouch
  dsimp only
  rw [h]

theorem sessionTimeout_due {x : SC} (h : 600000 ≤ x.1.sessAge) : sessionTimeout x = ({ x.1 with session := false }, x.2) := if_pos h
theorem sessionTimeout_none {x : SC} (h : x.1.sessAge < 600000) : sessionTimeout x = x := if_neg (by omega)

theorem lockoutEnd_due {x : SC} (hlock : x.1.lock = true) (hage : 600000 ≤ x.1.lockAge) : lockoutEnd x = ({ x.1 with lock := false, mism := 0 }, x.2) :=
  if_pos (by simp [hlock, hage])

theorem lockoutEnd_none {x : SC} (h : x.1.lock = false ∨ x.1.lockAge < 600000) : lockoutEnd x = x :=
  if_neg (by rcases h with h | h <;> simp [h])

/-! ### Requests for the outputs (R320, R368) -/

/-- R318: PROT sees the line of a channel. -/
theorem blocksOnly_gateLine (ch : Nat) (c : Core) : blocksOnly protBlks c (gateLine ch true c) := by
  have hlevel : blocksOnly protBlks c { c with prot := { c.prot with gLow := setBit c.prot.gLow ch true } } := blocksOnly_csr rfl
  unfold gateLine
  dsimp only
  rw [if_pos rfl]
  split
  · exact blocksOnly_trans hlevel (blocksOnly_protTrip (by decide) 0 58 _)
  · exact blocksOnly_trans hlevel (blocksOnly_protTrip (by decide) 0 59 _)

theorem blocksOnly_channelsAct (chs mask : Nat) (x : SC) : blocksOnly protBlks x.2 (channelsAct chs mask x).2 := by
  unfold channelsAct
  refine forUp_invariant (P := fun y : SC => blocksOnly protBlks x.2 y.2) (blocksOnly_refl _ _) fun ch y hy => ?_
  split
  · exact blocksOnly_trans hy (blocksOnly_gateLine ch y.2)
  · exact hy

theorem blocksOnly_demandAct (chs : Nat) (l : LineSt) (x : SC) : blocksOnly protBlks x.2 (demandAct chs l x).2 := by
  unfold demandAct
  dsimp only
  refine forUp_invariant (P := fun c : Core => blocksOnly protBlks x.2 c) ?_ fun j c hc => ?_
  · split
    · exact blocksOnly_refl _ _
    · exact blocksOnly_channelsAct chs _ x
  · split
    · exact blocksOnly_raise hc
    · exact hc

theorem blocksOnly_serveOut (l : LineSt) (k : Nat) (x : SC) : blocksOnly protBlks x.2 (serveOut l k x).2 := by
  unfold serveOut
  dsimp only
  split
  · exact blocksOnly_refl _ _
  · split
    · split
      · exact blocksOnly_demandAct 3 l _
      · split
        · exact blocksOnly_refl _ _
        · exact blocksOnly_refl _ _
    · split
      · exact blocksOnly_refl _ _
      · exact blocksOnly_refl _ _

theorem blocksOnly_serveOuts (l : LineSt) (x : SC) : blocksOnly protBlks x.2 (serveOuts l x).2 :=
  forUp_invariant (P := fun y : SC => blocksOnly protBlks x.2 y.2) (blocksOnly_refl _ _) fun k y hy => blocksOnly_trans hy (blocksOnly_serveOut l k y)

/-- R320: what a request shows. -/
theorem outReq_shows (req : Nat) (l : LineSt) (x : SC) : (outReq req l x).2.rd F.SAFM_OUTREQ.REQ = req % 64 ∧
    (outReq req l x).2.rd F.SAFM_OUTREQ.PEND = (outReq req l x).1.held % 64 ∧ (outReq req l x).1.activeSet = x.1.activeSet := by
  refine ⟨?_, ?_, (tame_outReq req l x).set⟩
  · unfold outReq
    dsimp only
    rw [Core.rd_raise, Core.rd_wr_ne _ _ (by decide), blocksOnly_serveOuts l _ _ (by decide), Core.rd_wr_same]
    rfl
  · unfold outReq
    dsimp only
    rw [Core.rd_raise, Core.rd_wr_same]
    rfl

theorem outReqHost_active (req : Nat) (l : LineSt) {x : SC} (h : x.2.standby = false) : outReqHost req l x = outReq req l x := if_neg (by simp [h])
theorem outReqHost_standby (req : Nat) (l : LineSt) {x : SC} (h : x.2.standby = true) : outReqHost req l x = x := if_pos h

/-! ### The change log (R339) -/

/-- R339: a selection fills the window. -/
theorem logSelect_shows (idx : Nat) (x : SC) : blocksOnly [F.SAFM_STAT.SAFE.block] x.2 (logSelect idx x).2 ∧
    (logSelect idx x).2.rd F.SAFM_LOGSEL.IDX = idx % 256 ∧ (logSelect idx x).2.rd F.SAFM_LOGSEL.LVALID = b2n (decide (idx < x.1.log.length)) ∧
    (logSelect idx x).2.rd F.SAFM_LOG2.NEW = (x.1.log.getD idx {}).new % 2 ^ 32 := by
  refine ⟨?_, ?_⟩
  · unfold logSelect logShow
    dsimp only
    repeat refine blocksOnly_wr ?_ (by decide)
    exact blocksOnly_refl _ _
  · simp (disch := decide) only [logSelect, logShow, safmTouch, Core.wrB_eq, Core.rd_wr_ne, Core.rd_wr_same]
    exact ⟨rfl, b2n_mod _, rfl⟩

/-! ### The commands -/

/-- A command whose effect is one change of the channels. -/
theorem ends_channels {i : Instr} {s : State} {y : SafSt} (f : SC → SC) (hs : s.up) (he : exec i s = .next (onSaf (fun _ _ => f) s))
    (hf : f (s.saf, s.core) = (y, s.core)) : Ends i s fun t => t = { s with saf := y } :=
  ends_onSaf (fun _ _ => f) hs he (by rw [hf])

/-- R320, R398: a request for the outputs, behind which the host commands that wait are looked at. -/
theorem outreqWrite_ends {s : State} {P : State → Prop} (req : Nat) (hs : s.up)
    (h : P { s with saf := (outReqHost req s.line (s.saf, s.core)).1, core := (outReqHost req s.line (s.saf, s.core)).2 }) :
    EndsThen (.safmOutreqWrite req) s P :=
  ⟨_, rfl, by rw [onSaf_run (fun _ => outReqHost req) (by rw [hs.1]; decide) hs.2]; exact h⟩

/-- Settles O28: each command by what its effect on the channels is. -/
theorem safmAccess : Obligations.SafmAccess := by
  unfold Obligations.SafmAccess
  intro s w3 req idx hs
  refine ⟨?first, ?locked, ?matching, ?mismatch, ?timeout, ?noTimeout, ?lockoutEnd, ?noLockoutEnd, ?request, ?standby, ?log⟩
  case first => exact fun hpw => ends_channels (safPassword w3) hs rfl (safPassword_first w3 (x := (s.saf, s.core)) hpw)
  case locked =>
    intro p hpw hlock
    exact ends_channels (safPassword w3) hs rfl ((safPassword_judged w3 (x := (s.saf, s.core)) hpw).trans (if_pos hlock))
  case matching =>
    intro p hpw hlock hhash
    refine ends_channels (safPassword w3) hs rfl ((safPassword_judged w3 (x := (s.saf, s.core)) hpw).trans ?_)
    exact (if_neg (by simp [hlock])).trans (if_pos hhash)
  case mismatch =>
    intro p hpw hlock hhash
    refine ends_channels (safPassword w3) hs rfl ((safPassword_judged w3 (x := (s.saf, s.core)) hpw).trans ?_)
    exact (if_neg (by simp [hlock])).trans (if_neg hhash)
  case timeout => exact fun hage => ends_channels sessionTimeout hs rfl (sessionTimeout_due hage)
  case noTimeout => exact fun hage => ends_onSaf_unchanged (fun _ _ => sessionTimeout) hs rfl (sessionTimeout_none hage)
  case lockoutEnd => exact fun hlock hage => ends_channels lockoutEnd hs rfl (lockoutEnd_due hlock hage)
  case noLockoutEnd => exact fun h => ends_onSaf_unchanged (fun _ _ => lockoutEnd) hs rfl (lockoutEnd_none h)
  case request =>
    intro hactive
    refine outreqWrite_ends req hs ?_
    rw [outReqHost_active req s.line (x := (s.saf, s.core)) hactive]
    exact ⟨rfl, outReq_shows req s.line (s.saf, s.core)⟩
  case standby =>
    intro hstandby
    refine outreqWrite_ends req hs ?_
    rw [outReqHost_standby req s.line (x := (s.saf, s.core)) hstandby]
  case log => exact ends_onSaf (fun _ _ => logSelect idx) hs rfl ⟨rfl, rfl, logSelect_shows idx (s.saf, s.core)⟩

end Sys2Proof.Machine
end

section
/-! PROOF. The sheaf: frames that go out (R341, R508), and the registers that show the peers and the slot view (R361). -/

namespace Sys2Proof.Machine

/-! ### Frames (R341, R508) -/

/-- R508: the counters of the frames that leave through the external ports. -/
def txFlds : List Fld := [F.NET_TXOK.COUNT 0, F.NET_TXOK.COUNT 1]

/-- R341, R508: from `c` to `d` frames have gone out: of the registers only the counters of frames differ; interrupts may have been added. -/
structure Core.FramesSent (c d : Core) : Prop where
  regs : fieldsOnly txFlds c d
  shf : d.shf = c.shf
  est : d.est = c.est
  cross : c.irq.cross ⊆ d.irq.cross

theorem Core.FramesSent.refl (c : Core) : c.FramesSent c := ⟨fieldsOnly_refl _ c, rfl, rfl, List.Subset.refl _⟩

theorem Core.FramesSent.trans {c d e : Core} (h : c.FramesSent d) (g : d.FramesSent e) : c.FramesSent e :=
  ⟨fieldsOnly_trans h.regs g.regs, g.shf.trans h.shf, g.est.trans h.est, List.Subset.trans h.cross g.cross⟩

theorem framesSent_send (c : Core) (o : Out) : c.FramesSent (c.send o) :=
  ⟨fieldsOnly_send (fieldsOnly_refl _ c) o, c.send_shf o, c.send_est o, (c.send_irq o ▸ List.Subset.refl _ : c.irq.cross ⊆ (c.send o).irq.cross)⟩

theorem framesSent_portSent (c : Core) {p : Nat} (hp : F.NET_TXOK.COUNT (p - 1) ∈ txFlds) : c.FramesSent (portSent p c) :=
  ⟨fieldsOnly_portSent (fieldsOnly_refl _ c) hp, rfl, rfl, List.subset_append_left _ _⟩

theorem framesSent_ethSend (mask kind : Nat) (data : List Nat) (c : Core) : c.FramesSent (ethSend mask kind data c) := by
  unfold ethSend
  dsimp only
  generalize ((if (bitAt mask 0 && portUp 1 c) = true then 1 else 0) + (if (bitAt mask 1 && portUp 2 c) = true then 2 else 0) : Nat) = m
  split
  · exact .refl c
  · have hone : c.FramesSent (if bitAt m 0 = true then portSent 1 (c.send (.eth m kind data)) else c.send (.eth m kind data)) := by
      split
      · exact (framesSent_send c _).trans (framesSent_portSent _ (by decide))
      · exact framesSent_send c _
    split
    · exact hone.trans (framesSent_portSent _ (by decide))
    · exact hone

/-- R341: a sheaf frame goes out on both ports. -/
theorem framesSent_sendShf (kind : Nat) (data : List Nat) (c : Core) : c.FramesSent (c.sendShf kind data) :=
  (framesSent_ethSend 1 kind _ c).trans (framesSent_ethSend 2 kind _ _)

/-- A field that counts no frames. -/
theorem Core.FramesSent.rd {c d : Core} (h : c.FramesSent d) {f : Fld} (hf : ∀ g ∈ txFlds, f.key ≠ g.key) : d.rd f = c.rd f := h.regs f hf

/-! ### Registers that are shown (R361) -/

/-- The block of SHF. -/
def shfBlks : List Nat := [F.SHF_STAT.SLOT.block]

/-- From `c` to `d` only registers differ, and of them only those of a list of fields. -/
structure Core.Displays (fs : List Fld) (c d : Core) : Prop where
  beside : d = { c with csr := d.csr }
  regs : fieldsOnly fs c d

theorem Core.Displays.refl (fs : List Fld) (c : Core) : c.Displays fs c := ⟨rfl, fieldsOnly_refl fs c⟩

theorem Core.Displays.wr {fs : List Fld} {c d : Core} (h : c.Displays fs d) {f : Fld} (v : Nat) (hf : f ∈ fs) : c.Displays fs (d.wr f v) :=
  ⟨congrArg (fun e : Core => { e with csr := (d.wr f v).csr }) h.beside, fieldsOnly_wr h.regs hf⟩

theorem Core.Displays.trans {fs gs : List Fld} {c d e : Core} (h : c.Displays fs d) (g : d.Displays gs e) (hs : ∀ f ∈ gs, f ∈ fs) : c.Displays fs e :=
  ⟨g.beside.trans (congrArg (fun d : Core => { d with csr := e.csr }) h.beside), fieldsOnly_trans h.regs (fieldsOnly_mono g.regs hs)⟩

theorem Core.Displays.shf {fs : List Fld} {c d : Core} (h : c.Displays fs d) : d.shf = c.shf := by rw [h.beside]
theorem Core.Displays.irq {fs : List Fld} {c d : Core} (h : c.Displays fs d) : d.irq = c.irq := by rw [h.beside]

/-- R361: the fields of the slot view. -/
def viewFlds : List Fld := (List.range 4).flatMap fun i => [F.SHF_SLOTVIEW.PID i, F.SHF_SLOTVIEW.KIND i, F.SHF_SLOTVIEW.REMAIN i]

theorem mem_viewFlds {i : Nat} (hi : i < 4) {f : Fld} (hf : f ∈ [F.SHF_SLOTVIEW.PID i, F.SHF_SLOTVIEW.KIND i, F.SHF_SLOTVIEW.REMAIN i]) : f ∈ viewFlds :=
  List.mem_flatMap.mpr ⟨i, List.mem_range.mpr hi, hf⟩

/-- R361: place `i` of the slot view shows an entry, or that it has none. -/
def entryShow (i : Nat) : Option SlotEnt → Core → Core
  | some e, c => ((c.wr (F.SHF_SLOTVIEW.PID i) e.pid).wr (F.SHF_SLOTVIEW.KIND i) e.kind).wr (F.SHF_SLOTVIEW.REMAIN i) e.mins
  | none, c => ((c.wr (F.SHF_SLOTVIEW.PID i) 65535).wr (F.SHF_SLOTVIEW.KIND i) 0).wr (F.SHF_SLOTVIEW.REMAIN i) 0

/-- Whatever the entry is, its three fields are written. -/
theorem entryShow_writes (i : Nat) (e : Option SlotEnt) (c : Core) : ∃ k m, entryShow i e c =
    ((c.wr (F.SHF_SLOTVIEW.PID i) ((e.map SlotEnt.pid).getD 65535)).wr (F.SHF_SLOTVIEW.KIND i) k).wr (F.SHF_SLOTVIEW.REMAIN i) m := by
  cases e
  · exact ⟨_, _, rfl⟩
  · exact ⟨_, _, rfl⟩

theorem entryShow_shf (i : Nat) (e : Option SlotEnt) (c : Core) : (entryShow i e c).shf = c.shf := by
  obtain ⟨k, m, heq⟩ := entryShow_writes i e c
  rw [heq, Core.wr_shf, Core.wr_shf, Core.wr_shf]

theorem viewShow_eq (c : Core) : viewShow c = forUp 4 (fun i d => entryShow i d.shf.view[i]? d) c := by
  refine congrArg (fun f => forUp 4 f c) (funext fun i => funext fun d => ?_)
  cases d.shf.view[i]? <;> rfl

theorem displays_viewShow (c : Core) : c.Displays viewFlds (viewShow c) := by
  rw [viewShow_eq]
  refine forUp_induction (P := fun d => c.Displays viewFlds d) (.refl _ c) fun i hi d hd => ?_
  obtain ⟨k, m, heq⟩ := entryShow_writes i d.shf.view[i]? d
  rw [heq]
  exact ((hd.wr _ (mem_viewFlds hi (by simp))).wr _ (mem_viewFlds hi (by simp))).wr _ (mem_viewFlds hi (by simp))

theorem entryShow_pid (i : Nat) (e : Option SlotEnt) (c : Core) :
    (entryShow i e c).rd (F.SHF_SLOTVIEW.PID i) = (e.map fun e => e.pid % 65536).getD 65535 := by
  obtain ⟨k, m, heq⟩ := entryShow_writes i e c
  rw [heq, Core.rd_wr_ne _ _ (by simp [Fld.key, F.SHF_SLOTVIEW.PID, F.SHF_SLOTVIEW.REMAIN]),
    Core.rd_wr_ne _ _ (by simp [Fld.key, F.SHF_SLOTVIEW.PID, F.SHF_SLOTVIEW.KIND]), Core.rd_wr_same]
  cases e <;> rfl

theorem entryShow_pid_ne {i j : Nat} (e : Option SlotEnt) (c : Core) (h : j ≠ i) :
    (entryShow j e c).rd (F.SHF_SLOTVIEW.PID i) = c.rd (F.SHF_SLOTVIEW.PID i) := by
  obtain ⟨k, m, heq⟩ := entryShow_writes j e c
  rw [heq, Core.rd_wr_ne, Core.rd_wr_ne, Core.rd_wr_ne] <;>
    simp only [Fld.key, F.SHF_SLOTVIEW.PID, F.SHF_SLOTVIEW.KIND, F.SHF_SLOTVIEW.REMAIN] <;> omega

theorem viewShow_pid {i : Nat} (hi : i < 4) (c : Core) :
    (viewShow c).rd (F.SHF_SLOTVIEW.PID i) = ((c.shf.view[i]?).map fun e => e.pid % 65536).getD 65535 := by
  rw [viewShow_eq]
  obtain ⟨d, hd, -, hshow⟩ := forUp_at (P := fun d : Core => d.shf = c.shf) (f := fun i d => entryShow i d.shf.view[i]? d)
    (fun d => d.rd (F.SHF_SLOTVIEW.PID i)) hi (x := c) rfl (fun _ _ h => (entryShow_shf _ _ _).trans h) fun _ d hk => entryShow_pid_ne _ d hk
  rw [hshow, entryShow_pid, hd]

/-- R361: the fields that show the peers and the slot view. -/
def peerFlds : List Fld := [F.SHF_STAT.NLIVE, F.SHF_NPEER.N, F.SHF_STAT.LARGE, F.SHF_STAT.V1PEER] ++ viewFlds

/-- R361: `shfShow` before the slot view. -/
theorem shfShow_before (c : Core) : ∃ d, c.Displays [F.SHF_STAT.NLIVE, F.SHF_NPEER.N, F.SHF_STAT.LARGE, F.SHF_STAT.V1PEER] d ∧
    d.rd F.SHF_NPEER.N = c.shf.agg.length % 2048 ∧ shfShow c = viewShow d := by
  refine ⟨_, ((((Core.Displays.refl _ c).wr _ ?_).wr _ ?_).wr _ ?_).wr _ ?_, ?_, rfl⟩
  iterate 4 simp
  rw [Core.rd_wr_ne _ _ (by decide), Core.rd_wr_ne _ _ (by decide), Core.rd_wr_same]
  rfl

theorem displays_shfShow (c : Core) : c.Displays peerFlds (shfShow c) := by
  obtain ⟨d, hd, -, heq⟩ := shfShow_before c
  rw [heq]
  exact ((Core.Displays.refl peerFlds c).trans hd (by simp [peerFlds])).trans (displays_viewShow d) fun f hf => List.mem_append_right _ hf

theorem shfShow_npeer (c : Core) : (shfShow c).rd F.SHF_NPEER.N = c.shf.agg.length % 2048 := by
  obtain ⟨d, -, hn, heq⟩ := shfShow_before c
  rw [heq, (displays_viewShow d).regs _ (by decide), hn]

theorem shfShow_pid {i : Nat} (hi : i < 4) (c : Core) :
    (shfShow c).rd (F.SHF_SLOTVIEW.PID i) = ((c.shf.view[i]?).map fun e => e.pid % 65536).getD 65535 := by
  obtain ⟨d, hd, -, heq⟩ := shfShow_before c
  rw [heq, viewShow_pid hi, hd.shf]

theorem blocksOnly_viewShow (c : Core) : blocksOnly shfBlks c (viewShow c) := blocksOnly_of_fieldsOnly (displays_viewShow c).regs (by decide)

theorem blocksOnly_shfShow (c : Core) : blocksOnly shfBlks c (shfShow c) := blocksOnly_of_fieldsOnly (displays_shfShow c).regs (by decide)

/-- A field of SHF counts, up to its largest value. -/
theorem cntSat_counts {f : Fld} (c : Core) (hf : f.block ∈ shfBlks) :
    blocksOnly shfBlks c (c.cntSat f) ∧ fieldsOnly [f] c (c.cntSat f) ∧ (c.cntSat f).rd f = min (2 ^ f.width - 1) (c.rd f + 1) :=
  ⟨blocksOnly_cntSat (blocksOnly_refl _ c) hf, fieldsOnly_cntSat (fieldsOnly_refl _ c) (by simp), rd_cntSat_same c f⟩

end Sys2Proof.Machine
end

section
/-! PROOF. O29: heartbeats of peers, losses and reports, the watch set, and what expires (R344 to R350, R354, R362). -/

namespace Sys2Proof.Machine

/-! ### Peers (R344 to R346) -/

theorem Core.peer_of_agg {c d : Core} (h : d.shf.agg = c.shf.agg) (p : Nat) : d.peer p = c.peer p := by unfold Core.peer; rw [h]

theorem Core.peer_setPeer_same (c : Core) (p : Nat) (f : Peer → Peer) : (c.setPeer p f).peer p = f (c.peer p) := Tab.get_put_same _ _ _ _

theorem Core.peer_setPeer_ne (c : Core) {p q : Nat} (f : Peer → Peer) (h : q ≠ p) : (c.setPeer p f).peer q = c.peer q := Tab.get_put_ne _ _ _ h

/-- R348: the rank for a lost peer is a matter of the aggregate table and the own PID. -/
theorem Core.rank_of {c d : Core} (hagg : d.shf.agg = c.shf.agg) (hpid : d.pid = c.pid) (l : Nat) : d.rank l = c.rank l := by
  unfold Core.rank Core.observers
  rw [hagg, hpid]

/-- R345: from `c` to `d` only registers of SHF differ, interrupts may have been added, and every peer is what it was. -/
structure Core.KeepsPeers (c d : Core) : Prop where
  regs : blocksOnly shfBlks c d
  agg : d.shf.agg = c.shf.agg

theorem Core.KeepsPeers.refl (c : Core) : c.KeepsPeers c := ⟨blocksOnly_refl _ c, rfl⟩

theorem Core.KeepsPeers.trans {c d e : Core} (h : c.KeepsPeers d) (g : d.KeepsPeers e) : c.KeepsPeers e :=
  ⟨blocksOnly_trans h.regs g.regs, g.agg.trans h.agg⟩

theorem Core.KeepsPeers.of_csr {c d : Core} (hcsr : d.csr = c.csr) (hagg : d.shf.agg = c.shf.agg) : c.KeepsPeers d := ⟨blocksOnly_csr hcsr, hagg⟩

theorem keepsPeers_shfShow (c : Core) : c.KeepsPeers (shfShow c) := ⟨blocksOnly_shfShow c, congrArg ShfSt.agg (displays_shfShow c).shf⟩

/-! ### Reports seen (R349) -/

/-- R349: a report for `p` has been seen: none that waits for it goes out. -/
def Core.seenFor (p : Nat) (c : Core) : Prop := ∀ r ∈ c.shf.reps, r.pid = p → r.seen = true

theorem reportSeen_self (p : Nat) (c : Core) : (reportSeen p c).seenFor p := by
  intro r hr hpid
  obtain ⟨w, -, rfl⟩ := List.mem_map.mp hr
  by_cases hw : w.pid = p
  · rw [if_pos hw]
  · rw [if_neg hw] at hpid
    exact absurd hpid hw

theorem reportSeen_keeps {l p : Nat} {c : Core} (h : c.seenFor p) : (reportSeen l c).seenFor p := by
  intro r hr hpid
  obtain ⟨w, hmem, rfl⟩ := List.mem_map.mp hr
  by_cases hw : w.pid = l
  · rw [if_pos hw]
  · rw [if_neg hw] at hpid ⊢
    exact h w hmem hpid

/-- The PIDs of a list have all been reported. -/
def reportsSeen (ls : List Nat) (c : Core) : Core := ls.foldl (fun c l => reportSeen l c) c

theorem reportsSeen_keeps {ls : List Nat} {p : Nat} {c : Core} (h : c.seenFor p) : (reportsSeen ls c).seenFor p :=
  List.foldlRecOn (motive := fun c : Core => c.seenFor p) ls _ h fun _ hd _ _ => reportSeen_keeps hd

theorem reportsSeen_seen {ls : List Nat} {p : Nat} (hp : p ∈ ls) (c : Core) : (reportsSeen ls c).seenFor p := by
  induction ls generalizing c with
  | nil => simp at hp
  | cons l ls ih =>
    rcases List.mem_cons.mp hp with rfl | hp
    · exact reportsSeen_keeps (ls := ls) (reportSeen_self p c)
    · exact ih hp _

theorem keepsPeers_reportsSeen (ls : List Nat) (c : Core) : c.KeepsPeers (reportsSeen ls c) :=
  List.foldlRecOn (motive := fun d : Core => c.KeepsPeers d) ls _ (.refl c) fun _ hd _ _ => hd.trans (.of_csr rfl rfl)

/-! ### The slot view (R354) -/

theorem mem_viewPut {e x : SlotEnt} {l : List SlotEnt} (hx : x ∈ viewPut e l) : x = e ∨ x ∈ l := by
  unfold viewPut at hx
  split at hx
  · obtain ⟨y, hy, rfl⟩ := List.mem_map.mp hx
    split
    · exact .inl rfl
    · exact .inr hy
  · split at hx
    · simpa [or_comm] using hx
    · exact .inr hx

/-- R354: an entry adopted from a peer's view is the peer's entry of that PID. -/
theorem mem_viewAdopt {x : SlotEnt} {l : List SlotEnt} {v : Nat × Nat × Nat} (hx : x ∈ viewAdopt l v) : x ∈ l ∨ v.1 = x.pid := by
  unfold viewAdopt at hx
  split at hx
  · exact .inl hx
  · split at hx
    · next y hfind =>
      have hpid : y.pid = v.1 := beq_iff_eq.mp (List.find?_some (p := fun x : SlotEnt => x.pid == v.1) hfind)
      split at hx
      · rcases mem_viewPut hx with rfl | hx
        · exact .inr hpid.symm
        · exact .inl hx
      · exact .inl hx
    · rcases mem_viewPut hx with rfl | hx
      · exact .inr rfl
      · exact .inl hx

theorem mem_foldl_viewAdopt {x : SlotEnt} {vs : List (Nat × Nat × Nat)} {l : List SlotEnt} (hx : x ∈ vs.foldl viewAdopt l) :
    x ∈ l ∨ ∃ v ∈ vs, v.1 = x.pid := by
  induction vs generalizing l with
  | nil => exact .inl hx
  | cons v vs ih =>
    rcases ih hx with hx | ⟨w, hw, hpid⟩
    · exact (mem_viewAdopt hx).imp_right fun hpid => ⟨v, List.mem_cons_self, hpid⟩
    · exact .inr ⟨w, List.mem_cons_of_mem v hw, hpid⟩

/-- R354: an entry of the view is the sender's, was there before, or stands in the sender's view. -/
theorem mem_viewHear {h : HbFrame} {c : Core} {e : SlotEnt} (he : e ∈ (viewHear h c).shf.view) :
    e.pid = h.pid ∨ e ∈ c.shf.view ∨ ∃ v ∈ h.view, v.1 = e.pid := by
  unfold viewHear at he
  dsimp only at he
  have hadopt : ∀ x ∈ (if c.shf.enMs < 500 then h.view.foldl viewAdopt c.shf.view else c.shf.view), x ∈ c.shf.view ∨ ∃ v ∈ h.view, v.1 = x.pid := by
    intro x hx
    split at hx
    · exact mem_foldl_viewAdopt hx
    · exact .inl hx
  split at he
  · rcases mem_viewPut he with rfl | he
    · exact .inl rfl
    · exact .inr (hadopt e he)
  · split at he
    · exact .inr (hadopt e (List.mem_filter.mp he).1)
    · exact .inr (hadopt e he)

theorem viewHear_shf (h : HbFrame) (c : Core) : (viewHear h c).shf = { c.shf with view := (viewHear h c).shf.view } := rfl

/-! ### A peer's heartbeat (R344, R345) -/

/-- R345: the heartbeats in a row that a peer has been heard with this one. -/
def Core.heardCount (h : HbFrame) (c : Core) : Nat :=
  if (c.shf.agg.any (fun x => x.1 == h.pid) && decide ((c.peer h.pid).age < 50)) = true then (c.peer h.pid).cnt + 1 else 1

theorem Core.heardCount_eq (h : HbFrame) (c : Core) : c.heardCount h =
    if c.shf.agg.any (fun x => x.1 == h.pid) = true ∧ (c.peer h.pid).age < 50 then (c.peer h.pid).cnt + 1 else 1 := by
  simp only [Core.heardCount, Bool.and_eq_true, decide_eq_true_eq]

/-- R345: a peer as its heartbeat leaves it. -/
def Core.heardPeer (h : HbFrame) (c : Core) : Peer :=
  let o := c.peer h.pid
  let live := o.live || decide (3 ≤ c.heardCount h)
  let v2 := decide (2 ≤ h.version)
  { v2 := v2, seq := h.seq, flags := h.flags, slot := h.slot, kind := h.kind, wait := h.wait, soc := h.soc, oepoch := h.oepoch, q := h.q
    pb := if v2 then h.pb else 0, hd := if v2 then h.hd else 0, hc := if v2 then h.hc else 0, age := 0, cnt := c.heardCount h, live := live
    counted := o.counted && live }

/-- R345: the peer of a heartbeat is stored. -/
def peerStored (h : HbFrame) (c : Core) : Core := c.setPeer h.pid fun _ => c.heardPeer h

/-- R346: while the table is not large, every peer has a context. -/
def ctxJoin (p : Nat) (c : Core) : Core :=
  if !c.shf.ctx.contains p && decide (c.shf.agg.length ≤ 160) then { c with shf := { c.shf with ctx := c.shf.ctx ++ [p] } } else c

/-- R350: a lost peer is back. -/
def peerBack (back : Bool) (p : Nat) (c : Core) : Core :=
  if back then ({ c with shf := { c.shf with lost := c.shf.lost.filter (fun q => q != p) } }).raise 83 p p else c

theorem peerHear_eq (h : HbFrame) (c : Core) : peerHear h c = shfShow (reportsSeen h.reported (viewHear h (peerBack
    ((c.heardPeer h).live && !(c.peer h.pid).live && c.shf.lost.contains h.pid) h.pid (ctxJoin h.pid (peerStored h c))))) := rfl

theorem keepsPeers_ctxJoin (p : Nat) (c : Core) : c.KeepsPeers (ctxJoin p c) := by
  unfold ctxJoin
  split
  · exact .of_csr rfl rfl
  · exact .refl c

theorem keepsPeers_peerBack (back : Bool) (p : Nat) (c : Core) : c.KeepsPeers (peerBack back p c) := by
  unfold peerBack
  split
  · exact .of_csr rfl rfl
  · exact .refl c

theorem keepsPeers_viewHear (h : HbFrame) (c : Core) : c.KeepsPeers (viewHear h c) := .of_csr rfl rfl

theorem peerHear_keeps (h : HbFrame) (c : Core) : (peerStored h c).KeepsPeers (peerHear h c) := by
  rw [peerHear_eq]
  exact ((((keepsPeers_ctxJoin _ _).trans (keepsPeers_peerBack _ _ _)).trans (keepsPeers_viewHear h _)).trans (keepsPeers_reportsSeen _ _)).trans
    (keepsPeers_shfShow _)

theorem blocksOnly_peerHear (h : HbFrame) (c : Core) : blocksOnly shfBlks c (peerHear h c) :=
  blocksOnly_trans (blocksOnly_csr (d := peerStored h c) rfl) (peerHear_keeps h c).regs

theorem peerHear_peer (h : HbFrame) (c : Core) : (peerHear h c).peer h.pid = c.heardPeer h :=
  (Core.peer_of_agg (peerHear_keeps h c).agg _).trans (c.peer_setPeer_same _ _)

theorem peerHear_peer_ne {h : HbFrame} {p : Nat} (c : Core) (hp : p ≠ h.pid) : (peerHear h c).peer p = c.peer p :=
  (Core.peer_of_agg (peerHear_keeps h c).agg _).trans (c.peer_setPeer_ne _ hp)

theorem peerHear_npeer (h : HbFrame) (c : Core) : (peerHear h c).rd F.SHF_NPEER.N = (peerHear h c).shf.agg.length % 2048 := by
  rw [peerHear_eq, shfShow_npeer, (displays_shfShow _).shf]

theorem peerHear_seen {h : HbFrame} {p : Nat} (hp : p ∈ h.reported) (c : Core) : (peerHear h c).seenFor p := by
  rw [peerHear_eq]
  unfold Core.seenFor
  rw [(displays_shfShow _).shf]
  exact reportsSeen_seen hp _

/-! ### Frames that arrive (R341, R345, R347) -/

theorem heartbeat_off (h : HbFrame) {c : Core} (hon : c.shfOn = false) : heartbeat h c = c := if_pos (by simp [hon])

theorem heartbeat_bad {h : HbFrame} {c : Core} (hon : c.shfOn = true) (hbad : c.hbBad h = true) : heartbeat h c = c.cntSat F.SHF_CNT2.RXERR :=
  (if_neg (by simp [hon])).trans (if_pos hbad)

section
variable {h : HbFrame} {c : Core} (hon : c.shfOn = true) (hgood : c.hbBad h = false)
include hon hgood

/-- R347, R355: a heartbeat with the own PID: from another address it is a duplicate's, from the pair's other module it shows that one's slot. -/
theorem heartbeat_own (hpid : h.pid = c.pid) : heartbeat h c =
    if h.src = 0 then
      (if c.on F.SHF_STAT.DUPPID then { c with shf := { c.shf with dupAge := 0 } }
        else (({ c with shf := { c.shf with dupAge := 0 } } : Core).wr F.SHF_STAT.DUPPID 1).raise 87 h.pid h.pid)
    else if h.src = 2 then viewShow (viewHear h c) else c :=
  ((if_neg (by simp [hon])).trans (if_neg (by simp [hgood]))).trans (if_pos hpid)

theorem heartbeat_ignored (hpid : h.pid ≠ c.pid) (hfull : h.pid = 65535 ∨ 1024 ≤ c.shf.agg.length ∧ c.shf.agg.any (fun x => x.1 == h.pid) = false) :
    heartbeat h c = c :=
  ((if_neg (by simp [hon])).trans (if_neg (by simp [hgood]))).trans ((if_neg hpid).trans (if_pos (hfull.imp_right fun hf => ⟨hf.1, by simp [hf.2]⟩)))

theorem heartbeat_peer (hpid : h.pid ≠ c.pid) (hno : h.pid ≠ 65535) (hroom : c.shf.agg.length < 1024 ∨ c.shf.agg.any (fun x => x.1 == h.pid) = true) :
    heartbeat h c = (peerHear h c).pulse 81 := by
  refine ((if_neg (by simp [hon])).trans (if_neg (by simp [hgood]))).trans ((if_neg hpid).trans (if_neg ?_))
  rintro (hf | ⟨hlen, hnew⟩)
  · exact hno hf
  · rcases hroom with hroom | hroom
    · omega
    · simp [hroom] at hnew

/-- R347: a heartbeat with the own PID from another address. -/
theorem heartbeat_duplicate (hpid : h.pid = c.pid) (hsrc : h.src = 0) :
    fieldsOnly [F.SHF_STAT.DUPPID] c (heartbeat h c) ∧ (heartbeat h c).on F.SHF_STAT.DUPPID = true ∧ (heartbeat h c).shf.dupAge = 0 ∧
      (heartbeat h c).irq.cross = c.irq.cross ++ (if c.on F.SHF_STAT.DUPPID = true then [] else [87]) := by
  rw [heartbeat_own hon hgood hpid, if_pos hsrc]
  by_cases hdup : c.on F.SHF_STAT.DUPPID = true
  · rw [if_pos hdup, if_pos hdup]
    exact ⟨fieldsOnly_csr rfl, hdup, rfl, (List.append_nil _).symm⟩
  · rw [if_neg hdup, if_neg hdup]
    exact ⟨fieldsOnly_raise (fieldsOnly_wr (fieldsOnly_csr rfl) (by simp)), on_wr_one _ rfl, rfl, rfl⟩

end

/-! ### Losses and reports (R345, R348 to R350) -/

/-- R345: peer `l` of a context is live and has not been heard for 50 ms. -/
def Core.lossDue (c : Core) (l : Nat) : Prop := c.shf.ctx.contains l = true ∧ (c.peer l).live = true ∧ 50 ≤ (c.peer l).age

theorem peerLost_none {c : Core} {l : Nat} (h : c.shfOn = false ∨ ¬ c.lossDue l) : peerLost l c = c := by
  refine if_neg fun hdue => ?_
  simp only [Bool.and_eq_true, decide_eq_true_eq] at hdue
  obtain ⟨⟨⟨hon, hctx⟩, hlive⟩, hage⟩ := hdue
  rcases h with h | h
  · simp [h] at hon
  · exact h ⟨hctx, hlive, hage⟩

/-- R345, R350: the loss of peer `l` is recorded. -/
def lossRecorded (l : Nat) (c : Core) : Core :=
  let c1 := c.setPeer l fun p => { p with live := false, counted := false, cnt := 0 }
  ((({ c1 with shf := { c1.shf with lost := l :: c1.shf.lost } } : Core).cntSat F.SHF_CNT.LOSSES).wr F.SHF_STAT.LOSTSEEN 1).raise 82 l l

/-- R349: the report of the loss of peer `l`. -/
def Core.lossReport (c : Core) (l : Nat) : RepWait := ⟨l, (lossRecorded l c).rank l, 0, false, c.ptp.sec, c.ptp.ns⟩

theorem peerLost_due {c : Core} {l : Nat} (hon : c.shfOn = true) (hdue : c.lossDue l) : peerLost l c =
    shfShow (if !(lossRecorded l c).owner then lossRecorded l c else if (lossRecorded l c).rank l ≤ 2 then sendReport (c.lossReport l) (lossRecorded l c)
      else { lossRecorded l c with shf := { (lossRecorded l c).shf with reps := (lossRecorded l c).shf.reps ++ [c.lossReport l] } }) := by
  obtain ⟨hctx, hlive, hage⟩ := hdue
  exact if_pos (by rw [hon, hctx, hlive]; simp [hage])

theorem lossRecorded_shows (l : Nat) (c : Core) : let d := lossRecorded l c
    fieldsOnly [F.SHF_CNT.LOSSES, F.SHF_STAT.LOSTSEEN] c d ∧ d.rd F.SHF_CNT.LOSSES = min 65535 (c.rd F.SHF_CNT.LOSSES + 1) ∧ d.rd F.SHF_STAT.LOSTSEEN = 1 ∧
      (d.peer l).live = false ∧ (d.peer l).cnt = 0 ∧ l ∈ d.shf.lost ∧ 82 ∈ d.irq.cross ∧ d.owner = c.owner := by
  intro d
  have hregs : fieldsOnly [F.SHF_CNT.LOSSES, F.SHF_STAT.LOSTSEEN] c d :=
    fieldsOnly_raise (fieldsOnly_wr (fieldsOnly_cntSat (fieldsOnly_csr rfl) (by simp)) (by simp))
  have hpeer : d.peer l = { c.peer l with live := false, counted := false, cnt := 0 } :=
    c.peer_setPeer_same l fun p => { p with live := false, counted := false, cnt := 0 }
  refine ⟨hregs, ?_, ?_, by rw [hpeer], by rw [hpeer], List.mem_cons_self, List.mem_append_right _ List.mem_cons_self, ?_⟩
  · exact (Core.rd_wr_ne _ 1 (f := F.SHF_STAT.LOSTSEEN) (by decide)).trans (rd_cntSat_same _ F.SHF_CNT.LOSSES)
  · exact Core.rd_wr_same _ F.SHF_STAT.LOSTSEEN 1
  · unfold Core.owner Core.standby
    rw [hregs _ (by decide)]

/-- R349: from `c` to `d` a report may have gone out or begun to wait; no peer differs. -/
structure Core.Reports (c d : Core) : Prop where
  regs : fieldsOnly (F.SHF_CNT.REPORTS :: txFlds) c d
  agg : d.shf.agg = c.shf.agg
  lost : d.shf.lost = c.shf.lost
  cross : c.irq.cross ⊆ d.irq.cross

/-- R349: a report goes out and its peer is listed. -/
theorem sendReport_shows (r : RepWait) (c : Core) : c.Reports (sendReport r c) ∧ (sendReport r c).shf.reps = c.shf.reps ∧
    (r.pid, 1000) ∈ (sendReport r c).shf.rfield ∧ (sendReport r c).rd F.SHF_CNT.REPORTS = min 65535 (c.rd F.SHF_CNT.REPORTS + 1) := by
  have hsent := framesSent_sendShf 2 (c.reportData r) c
  generalize hd : c.sendShf 2 (c.reportData r) = d at hsent
  have heq : sendReport r c = listReported r.pid (d.cntSat F.SHF_CNT.REPORTS) := by rw [← hd]; rfl
  rw [heq]
  refine ⟨⟨?_, ?_, ?_, hsent.cross⟩, ?_, List.mem_cons_self, ?_⟩
  · exact fieldsOnly_of_csr (fieldsOnly_cntSat (fieldsOnly_mono hsent.regs fun f hf => List.mem_cons_of_mem _ hf) List.mem_cons_self) rfl
  iterate 3 rw [← hsent.shf]; rfl
  · exact (rd_cntSat_same d _).trans (by rw [hsent.rd (by decide)]; rfl)

/-- The blocks of SHF and NET, whose registers a report shows. -/
def reportBlks : List Nat := [F.SHF_STAT.SLOT.block, (F.NET_TXOK.COUNT 0).block]

theorem Core.Reports.blocks {c d : Core} (h : c.Reports d) : blocksOnly reportBlks c d := blocksOnly_of_fieldsOnly h.regs (by decide)

/-- R345, R349: what the loss of a peer shows, whoever reports it. -/
theorem lossReported_shows {l : Nat} {c d : Core} (h : (lossRecorded l c).Reports d) : let t := shfShow d
    blocksOnly reportBlks c t ∧ (t.peer l).live = false ∧ (t.peer l).cnt = 0 ∧ l ∈ t.shf.lost ∧ t.rd F.SHF_STAT.LOSTSEEN = 1 ∧ 82 ∈ t.irq.cross ∧
      t.rd F.SHF_CNT.LOSSES = min 65535 (c.rd F.SHF_CNT.LOSSES + 1) ∧ t.rank l = (lossRecorded l c).rank l := by
  intro t
  obtain ⟨hregs, hlosses, hseen, hlive, hcnt, hlost, hcross, -⟩ := lossRecorded_shows l c
  have hshow := displays_shfShow d
  have hagg : t.shf.agg = (lossRecorded l c).shf.agg := (congrArg ShfSt.agg hshow.shf).trans h.agg
  have hrd : ∀ f : Fld, (∀ g ∈ peerFlds, f.key ≠ g.key) → (∀ g ∈ F.SHF_CNT.REPORTS :: txFlds, f.key ≠ g.key) → t.rd f = (lossRecorded l c).rd f :=
    fun f hf hg => (hshow.regs f hf).trans (h.regs f hg)
  refine ⟨?_, by rw [Core.peer_of_agg hagg, hlive], by rw [Core.peer_of_agg hagg, hcnt], ?_, ?_, ?_, ?_, ?_⟩
  · exact blocksOnly_trans (blocksOnly_of_fieldsOnly hregs (by decide)) (blocksOnly_trans h.blocks (blocksOnly_mono (blocksOnly_shfShow d) (by decide)))
  · rw [hshow.shf, h.lost]
    exact hlost
  · exact (hrd _ (by decide) (by decide)).trans hseen
  · rw [hshow.irq]
    exact h.cross hcross
  · exact (hrd _ (by decide) (by decide)).trans hlosses
  · exact Core.rank_of hagg (hrd _ (by decide) (by decide)) l

/-- R345, R349: the loss of a peer: the first three in rank report it at once, the others wait for their rank; a standby does not report. -/
theorem peerLost_reports {c : Core} {l : Nat} (hon : c.shfOn = true) (hdue : c.lossDue l) : ∃ d, (lossRecorded l c).Reports d ∧ peerLost l c = shfShow d ∧
    (c.owner = true → (lossRecorded l c).rank l ≤ 2 → (l, 1000) ∈ d.shf.rfield ∧ d.rd F.SHF_CNT.REPORTS = min 65535 (c.rd F.SHF_CNT.REPORTS + 1)) ∧
    (c.owner = true → 2 < (lossRecorded l c).rank l → c.lossReport l ∈ d.shf.reps ∧ d.rd F.SHF_CNT.REPORTS = c.rd F.SHF_CNT.REPORTS) := by
  obtain ⟨hregs, -, -, -, -, -, -, howner⟩ := lossRecorded_shows l c
  have hcount : (lossRecorded l c).rd F.SHF_CNT.REPORTS = c.rd F.SHF_CNT.REPORTS := hregs _ (by decide)
  rw [peerLost_due hon hdue, howner, ← hcount]
  have hpid : (c.lossReport l).pid = l := rfl
  generalize lossRecorded l c = e
  generalize c.lossReport l = r at hpid ⊢
  by_cases hown : c.owner = true
  · rw [if_neg (by simp [hown])]
    by_cases hrank : e.rank l ≤ 2
    · obtain ⟨hrep, -, hlisted, hreports⟩ := sendReport_shows r e
      rw [if_pos hrank]
      exact ⟨_, hrep, rfl, fun _ _ => ⟨hpid ▸ hlisted, hreports⟩, fun _ hlate => absurd hrank (by omega)⟩
    · rw [if_neg hrank]
      refine ⟨_, ?_, rfl, fun _ hearly => absurd hearly hrank, fun _ _ => ⟨List.mem_append_right _ List.mem_cons_self, rfl⟩⟩
      exact ⟨fieldsOnly_csr rfl, rfl, rfl, List.Subset.refl _⟩
  · rw [if_pos (by simp [hown])]
    exact ⟨_, ⟨fieldsOnly_refl _ _, rfl, rfl, List.Subset.refl _⟩, rfl, fun h => absurd h hown, fun h => absurd h hown⟩

theorem reportWait_found {l : Nat} {c : Core} {r : RepWait} (h : c.shf.reps.find? (fun r => r.pid == l && decide (20 + 2 * r.rank ≤ r.waited)) = some r) :
    reportWait l c =
      if !c.shfOn || !c.owner then { c with shf := { c.shf with reps := c.shf.reps.erase r } }
      else if r.seen then ({ c with shf := { c.shf with reps := c.shf.reps.erase r } } : Core).cntSat F.SHF_CNT2.SUPP
      else sendReport r { c with shf := { c.shf with reps := c.shf.reps.erase r } } := by
  unfold reportWait
  rw [h]

theorem reportWait_none {l : Nat} {c : Core} (h : ∀ r ∈ c.shf.reps, r.pid = l → r.waited < 20 + 2 * r.rank) : reportWait l c = c := by
  have hfind : c.shf.reps.find? (fun r => r.pid == l && decide (20 + 2 * r.rank ≤ r.waited)) = none := by
    refine List.find?_eq_none.mpr fun r hr hdue => ?_
    simp only [Bool.and_eq_true, beq_iff_eq, decide_eq_true_eq] at hdue
    exact absurd (h r hr hdue.1) (by omega)
  unfold reportWait
  rw [hfind]

/-- R349, R360: the wait for a rank ends. -/
theorem reportWait_shows {l : Nat} {c : Core} {r : RepWait} (h : c.shf.reps.find? (fun r => r.pid == l && decide (20 + 2 * r.rank ≤ r.waited)) = some r) :
    let t := reportWait l c
    t.shf.reps = c.shf.reps.erase r ∧ (c.shfOn = false ∨ c.owner = false → noRegister c t ∧ t.out = c.out) ∧
      (c.shfOn = true → c.owner = true → r.seen = true → blocksOnly shfBlks c t ∧ fieldsOnly [F.SHF_CNT2.SUPP] c t ∧
        t.rd F.SHF_CNT2.SUPP = min (2 ^ F.SHF_CNT2.SUPP.width - 1) (c.rd F.SHF_CNT2.SUPP + 1)) ∧
      (c.shfOn = true → c.owner = true → r.seen = false → blocksOnly reportBlks c t ∧ (l, 1000) ∈ t.shf.rfield ∧
        t.rd F.SHF_CNT.REPORTS = min 65535 (c.rd F.SHF_CNT.REPORTS + 1)) := by
  intro t
  have ht : t = _ := reportWait_found h
  by_cases hsends : c.shfOn = true ∧ c.owner = true
  · obtain ⟨hon, howner⟩ := hsends
    have hnot : ¬ (c.shfOn = false ∨ c.owner = false) := by simp [hon, howner]
    rw [if_neg (by simp [hon, howner])] at ht
    cases hseen : r.seen
    · have hpid : r.pid = l := by
        have hfound := List.find?_some h
        simp only [Bool.and_eq_true, beq_iff_eq] at hfound
        exact hfound.1
      rw [hseen, if_neg (by simp)] at ht
      obtain ⟨hrep, hreps, hlisted, hreports⟩ := sendReport_shows r { c with shf := { c.shf with reps := c.shf.reps.erase r } }
      rw [ht]
      exact ⟨hreps, fun hoff => absurd hoff hnot, fun _ _ hs => absurd hs (by simp), fun _ _ _ => ⟨hrep.blocks, hpid ▸ hlisted, hreports⟩⟩
    · rw [hseen, if_pos rfl] at ht
      rw [ht]
      exact ⟨rfl, fun hoff => absurd hoff hnot, fun _ _ _ => cntSat_counts { c with shf := { c.shf with reps := c.shf.reps.erase r } } (by decide),
        fun _ _ hs => absurd hs (by simp)⟩
  · rw [if_pos (by cases hon : c.shfOn <;> simp_all)] at ht
    rw [ht]
    exact ⟨rfl, fun _ => ⟨noRegister_of_csr rfl, rfl⟩, fun hon howner => absurd ⟨hon, howner⟩ hsends, fun hon howner => absurd ⟨hon, howner⟩ hsends⟩

theorem reportReceived_off {sheaf len l : Nat} {c : Core} (hon : c.shfOn = false) : reportReceived sheaf len l c = c := if_pos (by simp [hon])

theorem reportReceived_bad {sheaf len l : Nat} {c : Core} (hon : c.shfOn = true) (hbad : sheaf ≠ c.rd F.SHF_ID.SHEAF ∨ len < 24) :
    reportReceived sheaf len l c = c.cntSat F.SHF_CNT2.RXERR := (if_neg (by simp [hon])).trans (if_pos hbad)

theorem reportReceived_good {sheaf len l : Nat} {c : Core} (hon : c.shfOn = true) (hsheaf : sheaf = c.rd F.SHF_ID.SHEAF) (hlen : 24 ≤ len) :
    reportReceived sheaf len l c = listReported l (reportSeen l c) :=
  (if_neg (by simp [hon])).trans (if_neg fun hbad => hbad.elim (fun h => h hsheaf) fun h => absurd h (by omega))

/-! ### The table, the view and the window (R344, R346, R347, R354, R362) -/

/-- A command that changes SHF alone and shows it. -/
theorem ends_shfShow {i : Instr} {s : State} (f : Core → Core) (d : Core) (hs : s.pwr.held = false) (he : exec i s = .next (onCore f s))
    (hf : f s.core = shfShow d) (hcsr : d.csr = s.core.csr) : Ends i s fun t => (coreOnly s t ∧ blocksOnly shfBlks s.core t.core) ∧ t.core.shf = d.shf ∧
      ∀ i, i < 4 → t.core.rd (F.SHF_SLOTVIEW.PID i) = ((t.core.shf.view[i]?).map fun e => e.pid % 65536).getD 65535 := by
  have hshf : (shfShow d).shf = d.shf := (displays_shfShow d).shf
  have hblocks := blocksOnly_trans (blocksOnly_csr hcsr) (blocksOnly_shfShow d)
  have hview : ∀ i, i < 4 → (shfShow d).rd (F.SHF_SLOTVIEW.PID i) = (((shfShow d).shf.view[i]?).map fun e => e.pid % 65536).getD 65535 := by
    rw [hshf]
    exact fun i hi => shfShow_pid hi d
  refine ends_onCore f hs he ?_
  rw [hf]
  generalize shfShow d = t at hblocks hshf hview ⊢
  exact ⟨⟨rfl, hblocks⟩, hshf, hview⟩

theorem aggDrop_none {p : Nat} {c : Core} (h : ∀ x ∈ c.shf.agg, x.1 = p → x.2.age < 500) : aggDrop p c = c := by
  refine if_neg fun hany => ?_
  obtain ⟨x, hx, hdue⟩ := List.any_eq_true.mp hany
  simp only [Bool.and_eq_true, beq_iff_eq, decide_eq_true_eq] at hdue
  exact absurd (h x hx hdue.1) (by omega)

theorem aggDrop_due {p : Nat} {c : Core} (h : ∃ x ∈ c.shf.agg, x.1 = p ∧ 500 ≤ x.2.age) : aggDrop p c =
    shfShow { c with shf := { c.shf with agg := Tab.del c.shf.agg p, ctx := c.shf.ctx.filter (fun x => x != p) } } := by
  obtain ⟨x, hx, hpid, hage⟩ := h
  exact if_pos (List.any_eq_true.mpr ⟨x, hx, by simp [hpid, hage]⟩)

/-- R362: a selection fills the window. -/
theorem contextSelect_shows (i : Nat) (c : Core) : let t := contextSelect i c
    blocksOnly shfBlks c t ∧ t.shf = c.shf ∧ t.rd F.SHF_CSEL.IDX = i % 256 ∧ t.rd F.SHF_CSEL.CVALID = b2n (decide (i < c.shf.ctx.length)) ∧
      (i < c.shf.ctx.length → t.rd F.SHF_CPID.PID = c.shf.ctx.getD i 0 % 65536 ∧ t.rd F.SHF_CPID.LIVE = b2n (c.peer (c.shf.ctx.getD i 0)).live ∧
        t.rd F.SHF_CSOC.SOC = (c.peer (c.shf.ctx.getD i 0)).soc % 65536) := by
  intro t
  refine ⟨?_, rfl, ?_, ?_, fun hi => ?_⟩
  · unfold t contextSelect
    dsimp only
    iterate 9 refine blocksOnly_wr ?_ (by decide)
    exact blocksOnly_refl _ c
  · simp (disch := decide) only [t, contextSelect, Core.wrB_eq, Core.rd_wr_ne, Core.rd_wr_same]
    rfl
  · simp (disch := decide) only [t, contextSelect, Core.wrB_eq, Core.rd_wr_ne, Core.rd_wr_same]
    exact b2n_mod _
  · simp (disch := decide) only [t, contextSelect, Core.wrB_eq, Core.rd_wr_ne, Core.rd_wr_same, hi, decide_true, if_true]
    exact ⟨rfl, b2n_mod _, rfl⟩

/-! ### The commands -/

/-- Settles O29: each command by the lemma that says what it shows. -/
theorem sheafPeers : Obligations.SheafPeers := by
  unfold Obligations.SheafPeers
  intro s h sheaf len l hs
  refine ⟨?off, ?bad, ?duplicate, ?ownPort, ?partner, ?ignored, ?peer, ?lost, ?notLost, ?waited, ?notWaited, ?badReport, ?report, ?noWatch, ?watch, ?dropped,
    ?notDropped, ?dupOver, ?dupOn, ?viewExpire, ?window⟩
  case off =>
    intro hoff i hi
    simp only [List.mem_cons, List.not_mem_nil, or_false] at hi
    rcases hi with rfl | rfl | rfl
    · exact ends_unchanged (heartbeat h) hs rfl (heartbeat_off h hoff)
    · exact ends_unchanged (reportReceived sheaf len l) hs rfl (reportReceived_off hoff)
    · exact ends_unchanged (peerLost l) hs rfl (peerLost_none (.inl hoff))
  case bad =>
    intro hon hbad
    refine ends_onCore (heartbeat h) hs rfl ?_
    obtain ⟨hblocks, hcount⟩ := cntSat_counts (f := F.SHF_CNT2.RXERR) s.core (by decide)
    rw [heartbeat_bad hon hbad]
    exact ⟨⟨rfl, hblocks⟩, hcount⟩
  case duplicate =>
    intro hon hgood hpid hsrc
    have hdup := heartbeat_duplicate hon hgood hpid hsrc
    exact ends_onCore (heartbeat h) hs rfl ⟨⟨rfl, blocksOnly_of_fieldsOnly hdup.1 (by decide)⟩, hdup⟩
  case ownPort =>
    intro hon hgood hpid hsrc hpair
    exact ends_unchanged (heartbeat h) hs rfl ((heartbeat_own hon hgood hpid).trans ((if_neg hsrc).trans (if_neg hpair)))
  case partner =>
    intro hon hgood hpid hsrc
    refine ends_onCore (heartbeat h) hs rfl ?_
    have hview := (displays_viewShow (viewHear h s.core)).shf
    rw [heartbeat_own hon hgood hpid, if_neg (by omega), if_pos hsrc]
    refine ⟨⟨rfl, blocksOnly_trans (keepsPeers_viewHear h s.core).regs (blocksOnly_viewShow _)⟩, ?_, ?_, ?_⟩
    · dsimp only
      rw [hview]
      exact viewHear_shf h s.core
    · dsimp only
      rw [hview]
      exact fun e he => mem_viewHear he
    · intro i hi
      dsimp only
      rw [hview]
      exact viewShow_pid hi _
  case ignored =>
    intro hon hgood hpid hfull
    exact ends_unchanged (heartbeat h) hs rfl (heartbeat_ignored hon hgood hpid (hfull.imp_right fun hf => ⟨hf.1, by simpa using hf.2⟩))
  case peer =>
    intro hon hgood hpid hno hroom
    refine ends_onCore (heartbeat h) hs rfl ?_
    have hblocks := blocksOnly_peerHear h s.core
    have hpeer := peerHear_peer h s.core
    have hother : ∀ p, p ≠ h.pid → (peerHear h s.core).peer p = s.core.peer p := fun p => peerHear_peer_ne s.core
    have hshown := peerHear_npeer h s.core
    have hseen : ∀ p ∈ h.reported, (peerHear h s.core).seenFor p := fun p hp => peerHear_seen hp s.core
    rw [heartbeat_peer hon hgood hpid hno hroom, ← s.core.heardCount_eq h]
    generalize peerHear h s.core = t at hblocks hpeer hother hshown hseen ⊢
    have hstored : (t.pulse 81).peer h.pid = s.core.heardPeer h := hpeer
    dsimp only
    rw [hstored]
    refine ⟨⟨rfl, blocksOnly_pulse hblocks⟩, rfl, rfl, rfl, rfl, rfl, rfl, rfl, rfl, rfl, rfl, fun hv => ?_, hother,
      List.mem_append_right _ List.mem_cons_self, hshown, hseen⟩
    have hv2 : decide (2 ≤ h.version) = true := by simpa using hv
    exact ⟨if_pos hv2, if_pos hv2, if_pos hv2⟩
  case lost =>
    intro hon hdue
    obtain ⟨d, hrep, heq, hearly, hlate⟩ := peerLost_reports (l := l) hon hdue
    obtain ⟨hblocks, hlive, hcnt, hlost, hseen, hcross, hlosses, hrank⟩ := lossReported_shows hrep
    have hcount : (shfShow d).rd F.SHF_CNT.REPORTS = d.rd F.SHF_CNT.REPORTS := (displays_shfShow d).regs _ (by decide)
    have hreport : s.core.lossReport l = ⟨l, (shfShow d).rank l, 0, false, s.core.ptp.sec, s.core.ptp.ns⟩ := by rw [hrank]; rfl
    rw [← hcount, ← (displays_shfShow d).shf, ← hrank] at hearly hlate
    rw [hreport] at hlate
    refine ends_onCore (peerLost l) hs rfl ?_
    rw [heq]
    generalize shfShow d = t at hblocks hlive hcnt hlost hseen hcross hlosses hearly hlate ⊢
    exact ⟨rfl, hblocks, hlive, hcnt, hlost, hseen, hcross, hlosses, hearly, hlate⟩
  case notLost => exact fun hdue => ends_unchanged (peerLost l) hs rfl (peerLost_none (.inr hdue))
  case waited =>
    intro r hfind
    obtain ⟨hreps, hsilent, hsupp, hsent⟩ := reportWait_shows hfind
    refine ends_onCore (reportWait l) hs rfl ⟨rfl, hreps, hsilent, fun hon howner hseen => ?_, hsent⟩
    obtain ⟨hblocks, hcount⟩ := hsupp hon howner hseen
    exact ⟨⟨rfl, hblocks⟩, hcount⟩
  case notWaited => exact fun hwait => ends_unchanged (reportWait l) hs rfl (reportWait_none hwait)
  case badReport =>
    intro hon hbad
    refine ends_onCore (reportReceived sheaf len l) hs rfl ?_
    obtain ⟨hblocks, hcount⟩ := cntSat_counts (f := F.SHF_CNT2.RXERR) s.core (by decide)
    rw [reportReceived_bad hon hbad]
    exact ⟨⟨rfl, hblocks⟩, hcount⟩
  case report =>
    intro hon hsheaf hlen
    refine ends_onCore (reportReceived sheaf len l) hs rfl ?_
    rw [reportReceived_good hon hsheaf hlen]
    exact ⟨rfl, noRegister_of_csr rfl, List.mem_cons_self, reportSeen_self l s.core⟩
  case noWatch => exact fun hsmall => ends_unchanged watchSet hs rfl (if_neg (by omega))
  case watch =>
    intro hlarge
    obtain ⟨t, hexec, hframe, hshf, -⟩ := ends_shfShow (i := .watchSetRecompute) watchSet _ hs rfl (if_pos hlarge) rfl
    exact ⟨t, hexec, hframe, hshf⟩
  case dropped =>
    intro hdue
    obtain ⟨t, hexec, hframe, hshf, -⟩ := ends_shfShow (i := .aggregateEntryDrop l) (aggDrop l) _ hs rfl (aggDrop_due hdue) rfl
    exact ⟨t, hexec, hframe, hshf⟩
  case notDropped => exact fun hage => ends_unchanged (aggDrop l) hs rfl (aggDrop_none hage)
  case dupOver =>
    intro hage
    refine ends_onCore dupClear hs rfl ?_
    rw [show dupClear s.core = _ from if_pos hage]
    exact ⟨rfl, fieldsOnly_wr (fieldsOnly_refl _ _) (by simp), Core.rd_wr_same _ _ _⟩
  case dupOn => exact fun hage => ends_unchanged dupClear hs rfl (if_neg (by omega))
  case viewExpire => exact ends_shfShow (viewExpire l) _ hs rfl rfl rfl
  case window =>
    obtain ⟨hblocks, hwindow⟩ := contextSelect_shows l s.core
    exact ends_onCore (contextSelect l) hs rfl ⟨⟨rfl, hblocks⟩, hwindow⟩

end Sys2Proof.Machine
end

section
/-! PROOF. O30: heartbeat instants and slots (R342, R353, R355), dispatch frames and targets (R356, R359). -/

namespace Sys2Proof.Machine

/-! ### Heartbeat instants (R342, R353) -/

/-- R342: the module sends sheaf traffic. -/
def Core.sends (c : Core) : Prop := c.shfOn = true ∧ c.owner = true

/-- R342, R353, R355: SHF behind a heartbeat: the sequence, the wait count, the releasing heartbeats left. -/
def Core.beatShf (c : Core) : ShfSt :=
  { c.shf with
    seq := (c.shf.seq + 1) % 65536
    wait := if c.slot = 1 then min 65535 (c.shf.wait + 1) else if c.slot = 2 then c.shf.wait else 0
    relLeft := if c.slot = 3 then c.shf.relLeft - 1 else c.shf.relLeft }

theorem Core.beatShf_wait_requesting {c : Core} (h : c.slot = 1) : c.beatShf.wait = min 65535 (c.shf.wait + 1) := if_pos h

theorem Core.beatShf_wait_held {c : Core} (h : c.slot = 2) : c.beatShf.wait = c.shf.wait := (if_neg (by omega)).trans (if_pos h)

theorem Core.beatShf_wait_other {c : Core} (h1 : c.slot ≠ 1) (h2 : c.slot ≠ 2) : c.beatShf.wait = 0 := (if_neg h1).trans (if_neg h2)

theorem Core.beatShf_relLeft {c : Core} (h : c.slot = 3) : c.beatShf.relLeft = c.shf.relLeft - 1 := if_pos h

/-- R342: from `c` to `d` a heartbeat has gone out and is counted. -/
structure Core.BeatSent (c d : Core) : Prop where
  regs : fieldsOnly txFlds c d
  est : d.est = c.est
  shf : d.shf = c.beatShf
  cross : c.irq.cross ⊆ d.irq.cross

theorem Core.BeatSent.slot {c d : Core} (h : c.BeatSent d) : d.slot = c.slot := h.regs F.SHF_STAT.SLOT (by decide)

theorem pulse_mem_cross (c : Core) (n : Nat) : n ∈ (c.pulse n).irq.cross := List.mem_append_right _ List.mem_cons_self

theorem heartbeatSend_silent {c : Core} (h : ¬ c.sends) : heartbeatSend c = c := if_neg (by simpa [Core.sends] using h)

/-- R342, R355: a heartbeat instant of an owner; `c.pulse 80` asserts its interrupt. -/
theorem heartbeatSend_eq {c : Core} (h : c.sends) : ∃ d, (slotTake (c.pulse 80)).BeatSent d ∧
    heartbeatSend c = if d.slot = 3 ∧ d.shf.relLeft = 0 then slotFree d else d := by
  have hsent := framesSent_sendShf 1 (slotTake (c.pulse 80)).hbData (slotTake (c.pulse 80))
  generalize he : (slotTake (c.pulse 80)).sendShf 1 (slotTake (c.pulse 80)).hbData = e at hsent
  refine ⟨{ e with shf := e.beatShf }, ⟨hsent.regs, hsent.est, ?_, hsent.cross⟩, ?_⟩
  · have hslot : e.slot = (slotTake (c.pulse 80)).slot := hsent.rd (f := F.SHF_STAT.SLOT) (by decide)
    dsimp only
    unfold Core.beatShf
    rw [hslot, hsent.shf]
  · unfold heartbeatSend
    rw [if_pos (by simpa [Core.sends] using h)]
    dsimp only
    rw [he]
    rfl

theorem slotTake_none {c : Core} (h : c.mayTake = false) : slotTake c = c := if_neg (by simp [h])

theorem mayTake_slot {c : Core} (h : c.slot ≠ 1) : c.mayTake = false := by simp [Core.mayTake, h]

/-- R342: what a heartbeat instant shows whatever the slot: its sequence number and its interrupt. -/
def Core.Beats (c d : Core) : Prop := d.shf.seq = (c.shf.seq + 1) % 65536 ∧ 80 ∈ d.irq.cross

/-- A heartbeat instant at which no slot is taken. -/
theorem heartbeatSend_noTake {c : Core} (h : c.sends) (htake : c.mayTake = false) : ∃ d, fieldsOnly txFlds c d ∧ d.shf = c.beatShf ∧ c.Beats d ∧
    d.slot = c.slot ∧ heartbeatSend c = if c.slot = 3 ∧ c.beatShf.relLeft = 0 then slotFree d else d := by
  obtain ⟨d, hsent, heq⟩ := heartbeatSend_eq h
  rw [slotTake_none (c := c.pulse 80) htake] at hsent
  rw [hsent.slot, hsent.shf] at heq
  exact ⟨d, hsent.regs, hsent.shf, ⟨congrArg ShfSt.seq hsent.shf, hsent.cross (pulse_mem_cross c 80)⟩, hsent.slot, heq⟩

/-! ### A slot is taken (R353) -/

/-- R210: a rest slot is granted to EST. -/
theorem slotGranted_rest (c : Core) : let d := slotGranted 0 c
    fieldsOnly [F.EST_REST_CTRL.STATE] c d ∧ d.rd F.EST_REST_CTRL.STATE = 2 ∧ d.shf = c.shf ∧ d.est.tgt = some 0 ∧ c.irq.cross ⊆ d.irq.cross :=
  ⟨fieldsOnly_raise (fieldsOnly_wr (fieldsOnly_csr rfl) (by simp)), Core.rd_wr_same _ F.EST_REST_CTRL.STATE 2, rfl, rfl, List.subset_append_left _ _⟩

/-- R353: SHF takes a slot for a rest. -/
theorem slotTake_rest {c : Core} (htake : c.mayTake = true) (hkind : c.skind = 0) : let d := slotTake c
    d.slot = 2 ∧ d.rd F.EST_REST_CTRL.STATE = 2 ∧ d.shf = c.shf ∧ d.est.tgt = some 0 ∧ c.irq.cross ⊆ d.irq.cross ∧ 84 ∈ d.irq.cross := by
  intro d
  obtain ⟨hregs, hstate, hshf, htgt, hcross⟩ := slotGranted_rest ((c.wr F.SHF_STAT.SLOT 2).raise 84 0 0)
  have hd : d = governShow (slotGranted 0 ((c.wr F.SHF_STAT.SLOT 2).raise 84 0 0)) := (if_pos htake).trans (by rw [hkind])
  generalize slotGranted 0 ((c.wr F.SHF_STAT.SLOT 2).raise 84 0 0) = g at *
  rw [hd]
  refine ⟨?_, ?_, hshf, htgt, ?_, ?_⟩
  · exact (Core.rd_wr_ne _ _ (by decide)).trans ((hregs _ (by decide)).trans (Core.rd_wr_same c F.SHF_STAT.SLOT 2))
  · exact (Core.rd_wr_ne _ _ (by decide)).trans hstate
  · exact List.Subset.trans (List.subset_append_left _ _) hcross
  · exact hcross (pulse_mem_cross _ 84)

/-! ### A slot is freed or revoked (R355) -/

theorem slotFree_calm {c : Core} (hrest : c.rd F.EST_REST_CTRL.STATE ≠ 1) (hgln : c.rd F.EST_GLN_CTRL.STATE ≠ 1) : slotFree c = c.wr F.SHF_STAT.SLOT 0 := by
  unfold slotFree
  dsimp only
  rw [if_neg (by rwa [Core.rd_wr_ne _ _ (by decide)]), if_neg (by rwa [Core.rd_wr_ne _ _ (by decide)])]

/-- R355: the slot is being released, with 5 heartbeats to show it. -/
def Core.Freed (c : Core) : Prop := c.rd F.SHF_STAT.SLOT = 3 ∧ c.shf.relLeft = 5 ∧ 85 ∈ c.irq.cross

theorem Core.Freed.wr {c : Core} (h : c.Freed) (v : Nat) {f : Fld} (hf : F.SHF_STAT.SLOT.key ≠ f.key) : (c.wr f v).Freed :=
  ⟨(Core.rd_wr_ne _ _ hf).trans h.1, h.2⟩

theorem revoke_held {c : Core} (h : c.slot = 2) : (revoke c).Freed := by
  have heq : revoke c = _ := if_pos h
  rw [heq]
  exact ⟨Core.rd_wr_same ((slotRevoked c).raise 85 0 c.skind) F.SHF_STAT.SLOT 3, rfl, List.mem_append_right _ List.mem_cons_self⟩

theorem revoke_none {c : Core} (h : c.slot = 0) : revoke c = c := by simp [revoke, h]

/-- No slot is held or asked for, and no request of EST waits for one. -/
structure Core.Unslotted (c : Core) : Prop where
  slot : c.rd F.SHF_STAT.SLOT = 0
  rest : c.on F.EST_REST_CTRL.REQ = false
  glean : c.on F.EST_GLN_CTRL.REQ = false

theorem Core.Unslotted.of_csr {c d : Core} (h : c.Unslotted) (hcsr : d.csr = c.csr) : d.Unslotted :=
  ⟨(Core.rd_of_csr hcsr _).trans h.slot, by rw [Core.on_eq, Core.rd_of_csr hcsr]; exact h.rest, by rw [Core.on_eq, Core.rd_of_csr hcsr]; exact h.glean⟩

theorem Core.Unslotted.wr {c : Core} (h : c.Unslotted) (v : Nat) {f : Fld}
    (hf : ∀ g ∈ [F.SHF_STAT.SLOT, F.EST_REST_CTRL.REQ, F.EST_GLN_CTRL.REQ], g.key ≠ f.key) : (c.wr f v).Unslotted := by
  have hrd : ∀ g ∈ [F.SHF_STAT.SLOT, F.EST_REST_CTRL.REQ, F.EST_GLN_CTRL.REQ], (c.wr f v).rd g = c.rd g := fun g hg => Core.rd_wr_ne _ _ (hf g hg)
  refine ⟨(hrd _ (by simp)).trans h.slot, ?_, ?_⟩
  · rw [Core.on_eq, hrd _ (by simp)]
    exact h.rest
  · rw [Core.on_eq, hrd _ (by simp)]
    exact h.glean

theorem Core.Unslotted.slotRelease {c : Core} (h : c.Unslotted) : slotRelease c = c := by simp [Machine.slotRelease, h.slot]

theorem Core.Unslotted.passOn {c : Core} (h : c.Unslotted) : (passOn c).Unslotted := by rwa [passOn_of_none h.rest h.glean]

theorem Core.Unslotted.gleanFail {c : Core} (h : c.Unslotted) (cause : Nat) : (gleanFail cause c).Unslotted := by
  unfold Machine.gleanFail
  split
  · have hended := h.of_csr (d := { c with est := { c.est with tgt := none, glnCount := false, glnEnd := false } }) rfl
    rw [gleanEnd_eq, gleanReleased, hended.slotRelease]
    exact Core.Unslotted.passOn (((hended.wr 0 (by decide)).wr cause (by decide)).of_csr rfl)
  · exact h

theorem Core.Unslotted.restEarly {c : Core} (h : c.Unslotted) (result : Nat) : (restEarly result c).Unslotted := by
  by_cases hstate : c.rd F.EST_REST_CTRL.STATE = 2
  · have hended := ((h.of_csr (d := { c with est := { c.est with tgt := none } }) rfl).wr (f := F.EST_REST_CTRL.STATE) 0 (by decide)).wr
      (f := F.EST_REST_CTRL.RESULT) result (by decide)
    rw [restEarly_running result hstate, restReleased, hended.slotRelease]
    exact Core.Unslotted.passOn (hended.of_csr rfl)
  · rwa [show Machine.restEarly result c = c from if_neg hstate]

/-- R355: a revocation that reaches EST with no slot and no request leaves none. -/
theorem Core.Unslotted.slotRevoked {c : Core} (h : c.Unslotted) : (slotRevoked c).Unslotted := by
  unfold Machine.slotRevoked
  dsimp only
  generalize hd : (if c.rd F.EST_GLN_CTRL.STATE = 1 then _ else _ : Core) = d
  have hglean : d.Unslotted := by
    rw [← hd]
    split
    · exact Core.Unslotted.passOn ((h.wr 0 (by decide)).wr 9 (by decide))
    · exact h.gleanFail 9
  split
  · exact Core.Unslotted.passOn ((hglean.wr 0 (by decide)).wr 4 (by decide))
  · exact hglean.restEarly 4

theorem revoke_requested {c : Core} (h : c.slot = 1) (hrest : c.on F.EST_REST_CTRL.REQ = false) (hgln : c.on F.EST_GLN_CTRL.REQ = false) :
    (revoke c).slot = 0 := by
  have hnone : (c.wr F.SHF_STAT.SLOT 0).Unslotted := by
    refine ⟨Core.rd_wr_same _ _ _, ?_, ?_⟩
    · rwa [Core.on_eq, Core.rd_wr_ne _ _ (by decide)]
    · rwa [Core.on_eq, Core.rd_wr_ne _ _ (by decide)]
  have heq : revoke c = slotRevoked (c.wr F.SHF_STAT.SLOT 0) := by simp [revoke, h]
  rw [heq]
  exact hnone.slotRevoked.slot

/-! ### Dispatch frames (R356) -/

theorem dsrc_eq_two (c : Core) : c.dsrc = 2 ↔ c.rd F.SHF_DCFG.SRC = 2 := by
  unfold Core.dsrc
  dsimp only
  split <;> omega

/-- R356: the sequence is newer than the last that took effect, or it is the first. -/
def newerThan (last : Option Nat) (seq : Nat) : Prop :=
  last = none ∨ ∃ l, last = some l ∧ 1 ≤ (seq + 2 ^ 32 - l) % 2 ^ 32 ∧ (seq + 2 ^ 32 - l) % 2 ^ 32 < 2 ^ 31

theorem seqNewer_iff (last : Option Nat) (seq : Nat) : seqNewer last seq = true ↔ newerThan last seq := by
  unfold seqNewer newerThan
  cases last <;> simp

theorem dispatchFrame_off {sheaf len hold seq : Nat} {p : Int} {c : Core} (hon : c.shfOn = false) : dispatchFrame sheaf len hold seq p c = c :=
  if_pos (by simp [hon])

theorem dispatchFrame_bad {sheaf len hold seq : Nat} {p : Int} {c : Core} (hon : c.shfOn = true) (hbad : sheaf ≠ c.rd F.SHF_ID.SHEAF ∨ len < 16) :
    dispatchFrame sheaf len hold seq p c = c.cntSat F.SHF_CNT2.RXERR := (if_neg (by simp [hon])).trans (if_pos hbad)

theorem dispatchFrame_good {sheaf len hold seq : Nat} {p : Int} {c : Core} (hon : c.shfOn = true) (hsheaf : sheaf = c.rd F.SHF_ID.SHEAF) (hlen : 16 ≤ len) :
    dispatchFrame sheaf len hold seq p c = if c.dsrc = 2 ∧ seqNewer c.shf.lastSeq seq = true then
      { c with shf := { c.shf with next := some ⟨p, seq, if hold = 0 then c.rd F.SHF_DCFG2.TMO else hold⟩ } } else c :=
  (if_neg (by simp [hon])).trans (if_neg fun hbad => hbad.elim (fun h => h hsheaf) fun h => absurd h (by omega))

/-! ### The end of a target (R359) -/

theorem governs_none {c : Core} (h : c.shf.tgt = none) : c.governs = false := by simp [Core.governs, h]

theorem targetExpire_due {c : Core} {g : DTarget} (htgt : c.shf.tgt = some g) (hleft : g.left = 0) : targetExpire c = targetEnd (c.wr F.SHF_STAT.DTMO 1) := by
  unfold targetExpire
  rw [htgt]
  exact if_pos hleft

theorem targetExpire_none {c : Core} (h : ∀ g, c.shf.tgt = some g → g.left ≠ 0) : targetExpire c = c := by
  unfold targetExpire
  split
  · next g htgt => exact if_neg (h g htgt)
  · rfl

/-- R359: no target governs any more. -/
theorem targetEnd_eq (c : Core) : targetEnd c = (({ c with shf := { c.shf with tgt := none, slew := true } } : Core).wr F.SHF_STAT.DGOV 0).raise 86 0 3 := by
  unfold targetEnd governShow
  rw [governs_none rfl, Core.wrB_eq]
  rfl

/-! ### The commands -/

/-- R342, R398: a heartbeat instant, behind which the host commands that wait are looked at. -/
theorem heartbeatSend_ends {s : State} {P : State → Prop} (hs : s.pwr.held = false) (h : P { s with core := heartbeatSend s.core }) :
    EndsThen .heartbeatSend s P :=
  ⟨_, rfl, by rwa [onCore_run heartbeatSend hs]⟩

/-- Settles O30: each command by the lemma that says what it shows. -/
theorem sheafSlots : Obligations.SheafSlots := by
  unfold Obligations.SheafSlots
  intro s sheaf len hold seq p hs
  refine ⟨?silent, ?free, ?requesting, ?takes, ?releasing, ?released, ?collides, ?shortfall, ?noRevoke, ?revokeHeld, ?revokeRequest, ?revokeNone, ?enabled,
    ?enable, ?disable, ?off, ?bad, ?newer, ?notNewer, ?go, ?expired, ?notExpired⟩
  case silent =>
    intro h
    refine heartbeatSend_ends hs ?_
    rw [heartbeatSend_silent h]
  case free =>
    intro h hslot
    have hnone : s.core.slot = 0 := hslot
    obtain ⟨d, hregs, hshf, hbeats, hsame, heq⟩ := heartbeatSend_noTake h (mayTake_slot (by omega))
    refine heartbeatSend_ends hs ?_
    rw [heq, if_neg fun hrel => absurd hrel.1 (by omega)]
    exact ⟨⟨rfl, hbeats⟩, by rw [hshf, Core.beatShf_wait_other (by omega) (by omega)], hsame.trans hslot, blocksOnly_of_fieldsOnly hregs (by decide)⟩
  case requesting =>
    intro h hslot htake
    have hreq : s.core.slot = 1 := hslot
    obtain ⟨d, -, hshf, hbeats, hsame, heq⟩ := heartbeatSend_noTake h htake
    refine heartbeatSend_ends hs ?_
    rw [heq, if_neg fun hrel => absurd hrel.1 (by omega)]
    exact ⟨⟨rfl, hbeats⟩, by rw [hshf, Core.beatShf_wait_requesting hslot], hsame.trans hslot⟩
  case takes =>
    intro h htake hkind
    obtain ⟨d, hsent, heq⟩ := heartbeatSend_eq h
    obtain ⟨hslot, hstate, hshf, htgt, hcross, htaken⟩ := slotTake_rest (c := s.core.pulse 80) htake hkind
    have hheld : d.slot = 2 := hsent.slot.trans hslot
    have hbeats : s.core.Beats d :=
      ⟨(congrArg ShfSt.seq hsent.shf).trans (congrArg (fun x : ShfSt => (x.seq + 1) % 65536) hshf), hsent.cross (hcross (pulse_mem_cross _ 80))⟩
    have hwait : d.shf.wait = s.core.shf.wait := by rw [hsent.shf, Core.beatShf_wait_held hslot, hshf]; rfl
    refine heartbeatSend_ends hs ?_
    rw [heq, if_neg fun hrel => absurd hrel.1 (by omega)]
    exact ⟨⟨rfl, hbeats⟩, hheld, hwait, (hsent.regs _ (by decide)).trans hstate, (congrArg EstSt.tgt hsent.est).trans htgt, hsent.cross htaken⟩
  case releasing =>
    intro h hslot hleft
    have hrel : s.core.slot = 3 := hslot
    obtain ⟨d, -, hshf, hbeats, hsame, heq⟩ := heartbeatSend_noTake h (mayTake_slot (by omega))
    have hone : s.core.beatShf.relLeft = s.core.shf.relLeft - 1 := Core.beatShf_relLeft hslot
    refine heartbeatSend_ends hs ?_
    rw [heq, if_neg fun hover => absurd hover.2 (by omega)]
    exact ⟨⟨rfl, hbeats⟩, hsame.trans hslot, (congrArg ShfSt.relLeft hshf).trans hone⟩
  case released =>
    rintro h hslot hleft ⟨hrest, hgln, -, -⟩
    have hrel : s.core.slot = 3 := hslot
    obtain ⟨d, hregs, hshf, hbeats, -, heq⟩ := heartbeatSend_noTake h (mayTake_slot (by omega))
    have hover : s.core.beatShf.relLeft = 0 := (Core.beatShf_relLeft hslot).trans (Nat.sub_eq_zero_of_le hleft)
    have hfree : slotFree d = d.wr F.SHF_STAT.SLOT 0 := slotFree_calm (by rwa [hregs _ (by decide)]) (by rwa [hregs _ (by decide)])
    refine heartbeatSend_ends hs ?_
    rw [heq, if_pos ⟨hslot, hover⟩, hfree]
    exact ⟨⟨rfl, hbeats⟩, Core.rd_wr_same _ _ _, (congrArg ShfSt.relLeft hshf).trans hover⟩
  case collides =>
    intro hslot hcoll
    refine ends_onCore slotRevoke hs rfl ?_
    rw [show slotRevoke s.core = _ from if_pos ⟨hslot, hcoll⟩]
    exact ⟨⟨rfl, (revoke_held hslot).wr 1 (by decide)⟩, Core.rd_wr_same _ _ _⟩
  case shortfall =>
    intro hslot hcoll hshort
    refine ends_onCore slotRevoke hs rfl ?_
    rw [show slotRevoke s.core = _ from (if_neg (by simp [hcoll])).trans (if_pos ⟨hslot, hshort⟩)]
    exact ⟨rfl, revoke_held hslot⟩
  case noRevoke =>
    intro h
    refine ends_unchanged slotRevoke hs rfl ((if_neg fun hdue => ?_).trans (if_neg fun hdue => ?_))
    · rcases h with h | ⟨hcoll, -⟩
      · exact h hdue.1
      · simp [hcoll] at hdue
    · rcases h with h | ⟨-, hshort⟩
      · exact h hdue.1
      · omega
  case revokeHeld => exact fun hslot => ends_onCore revoke hs rfl ⟨rfl, revoke_held hslot⟩
  case revokeRequest => exact fun hslot hrest hgln => ends_onCore revoke hs rfl ⟨rfl, revoke_requested hslot hrest hgln⟩
  case revokeNone => exact fun hslot => ends_unchanged revoke hs rfl (revoke_none hslot)
  case enabled => exact fun hen => ends_unchanged (shfEnable 1) hs rfl ((if_pos rfl).trans (if_pos hen))
  case enable =>
    intro hen
    refine ends_onCore (shfEnable 1) hs rfl ?_
    rw [show shfEnable 1 s.core = _ from (if_pos rfl).trans (if_neg (by simp [hen]))]
    exact ⟨rfl, fieldsOnly_wr (fieldsOnly_csr rfl) (by simp), Core.rd_wr_same _ _ _, rfl⟩
  case disable => exact ends_onCore (shfEnable 0) hs rfl ⟨rfl, Core.rd_wr_same _ _ _, fun hslot => ⟨rfl, (revoke_held hslot).wr 0 (by decide)⟩⟩
  case off => exact fun hoff => ends_unchanged (dispatchFrame sheaf len hold seq p) hs rfl (dispatchFrame_off hoff)
  case bad =>
    intro hon hbad
    refine ends_onCore (dispatchFrame sheaf len hold seq p) hs rfl ?_
    rw [dispatchFrame_bad hon hbad]
    exact ⟨rfl, (cntSat_counts s.core (by decide)).2⟩
  case newer =>
    intro hon hsheaf hlen hsrc hnewer
    refine ends_onCore (dispatchFrame sheaf len hold seq p) hs rfl ?_
    rw [dispatchFrame_good hon hsheaf hlen, if_pos ⟨(dsrc_eq_two _).mpr hsrc, (seqNewer_iff _ _).mpr hnewer⟩]
    exact ⟨rfl, noRegister_of_csr rfl, rfl⟩
  case notNewer =>
    intro hon hsheaf hlen hnot
    refine ends_unchanged (dispatchFrame sheaf len hold seq p) hs rfl ((dispatchFrame_good hon hsheaf hlen).trans (if_neg ?_))
    rintro ⟨hsrc, hnewer⟩
    exact hnot.elim (fun h => h ((dsrc_eq_two _).mp hsrc)) fun h => h ((seqNewer_iff _ _).mp hnewer)
  case go => exact ends_onCore dispatchGo hs rfl ⟨rfl, fieldsOnly_wr (fieldsOnly_refl _ _) (by simp), Core.rd_wr_same _ _ _⟩
  case expired =>
    intro g htgt hleft
    refine ends_onCore targetExpire hs rfl ?_
    rw [targetExpire_due htgt hleft, targetEnd_eq]
    refine ⟨rfl, ?_, ?_, Core.rd_wr_same _ F.SHF_STAT.DGOV 0, rfl, List.mem_append_right _ List.mem_cons_self⟩
    · exact fieldsOnly_raise (fieldsOnly_wr (fieldsOnly_of_csr (fieldsOnly_wr (g := F.SHF_STAT.DTMO) (v := 1) (fieldsOnly_refl _ s.core) (by simp)) rfl) (by simp))
    · exact (Core.rd_wr_ne _ 0 (f := F.SHF_STAT.DGOV) (by decide)).trans (Core.rd_wr_same s.core F.SHF_STAT.DTMO 1)
  case notExpired => exact fun h => ends_unchanged targetExpire hs rfl (targetExpire_none h)

end Sys2Proof.Machine
end

section
/-! PROOF. The interrupt controller (R434 to R446): what a change of state of a source, a delivery, an end of interrupt and a discard show. -/

namespace Sys2Proof.Machine

/-! ### Fields of the interrupt controller -/

/-- R448: the block of the interrupt controller. -/
def irqBlks : List Nat := [F.IRQ_STAT.NPEND.block]

theorem irqState_block {n : Nat} (hn : n < 128) : (F.IRQ_SRC.STATE n).block ∈ irqBlks := by
  simp [irqBlks, Fld.block, Fld.key, F.IRQ_SRC.STATE, F.IRQ_STAT.NPEND]; omega

theorem irqPend_block {w : Nat} (hw : w < 4) : (F.IRQ_PEND.PEND w).block ∈ irqBlks := by
  simp [irqBlks, Fld.block, Fld.key, F.IRQ_PEND.PEND, F.IRQ_STAT.NPEND]; omega

/-- The fields that the levels of core `k` show (R449). -/
def cpuFlds (k : Nat) : List Fld := [F.IRQ_CPU.RLVL k, F.IRQ_CPU.DEPTH k, F.IRQ_CPU.FACT k]

theorem cpuFlds_block {k : Nat} (hk : k < 4) : ∀ f ∈ cpuFlds k, f.block ∈ irqBlks := by
  simp [cpuFlds, irqBlks, Fld.block, Fld.key, F.IRQ_CPU.RLVL, F.IRQ_CPU.DEPTH, F.IRQ_CPU.FACT, F.IRQ_STAT.NPEND]; omega

/-- A field outside the states of the sources lies in another bit of its word. -/
theorem key_ne_irqState {f : Fld} (hf : f.lsb < 32 ∧ f.lsb ≠ 12) (n : Nat) : (F.IRQ_SRC.STATE n).key ≠ f.key := by
  simp [Fld.key, F.IRQ_SRC.STATE]; omega

theorem irqState_key_ne {m n : Nat} (h : m ≠ n) : (F.IRQ_SRC.STATE m).key ≠ (F.IRQ_SRC.STATE n).key := by
  simp [Fld.key, F.IRQ_SRC.STATE]; omega

theorem irqState_wr_ne (c : Core) (v n : Nat) {f : Fld} (hf : f.lsb < 32 ∧ f.lsb ≠ 12) : (c.wr f v).irqState n = c.irqState n :=
  Core.rd_wr_ne c v (key_ne_irqState hf n)

/-! ### A source changes state (R435, R450) -/

/-- The fields that follow the state of source `n`. -/
def stateFlds (n : Nat) : List Fld := [F.IRQ_SRC.STATE n, F.IRQ_PEND.PEND (n / 32), F.IRQ_STAT.NPEND, F.IRQ_STAT.NACT]

theorem fieldsOnly_irqSet (n st : Nat) (c : Core) : fieldsOnly (stateFlds n) c (irqSet n st c) := by
  unfold irqSet
  exact fieldsOnly_wr (fieldsOnly_wr (fieldsOnly_wr (fieldsOnly_wr (fieldsOnly_refl _ c) (by simp [stateFlds])) (by simp [stateFlds]))
    (by simp [stateFlds])) (by simp [stateFlds])

theorem stateFlds_block {n : Nat} (hn : n < 128) : ∀ f ∈ stateFlds n, f.block ∈ irqBlks := by
  simp only [stateFlds, List.mem_cons, List.not_mem_nil, or_false, forall_eq_or_imp, forall_eq]
  exact ⟨irqState_block hn, irqPend_block (by omega), by decide, by decide⟩

theorem blocksOnly_irqSet {n : Nat} (hn : n < 128) (st : Nat) (c : Core) : blocksOnly irqBlks c (irqSet n st c) :=
  blocksOnly_of_fieldsOnly (fieldsOnly_irqSet n st c) (stateFlds_block hn)

@[simp] theorem irqSet_irq (n st : Nat) (c : Core) : (irqSet n st c).irq = c.irq := rfl
@[simp] theorem irqSet_wait (n st : Nat) (c : Core) : (irqSet n st c).wait = c.wait := rfl

theorem irqState_irqSet_same (n st : Nat) (c : Core) : (irqSet n st c).irqState n = st % 4 := by
  unfold irqSet
  rw [irqState_wr_ne _ _ _ (by decide), irqState_wr_ne _ _ _ (by decide), irqState_wr_ne _ _ _ (by simp [F.IRQ_PEND.PEND])]
  exact Core.rd_wr_same c _ st

theorem irqState_irqSet_ne {m n : Nat} (st : Nat) (c : Core) (h : m ≠ n) : (irqSet n st c).irqState m = c.irqState m := by
  unfold irqSet
  rw [irqState_wr_ne _ _ _ (by decide), irqState_wr_ne _ _ _ (by decide), irqState_wr_ne _ _ _ (by simp [F.IRQ_PEND.PEND])]
  exact Core.rd_wr_ne c st (irqState_key_ne h)

theorem key_ne_irqPend {f : Fld} (hf : f.lsb < 32) (hlsb : f.lsb ≠ 0) (w : Nat) : (F.IRQ_PEND.PEND w).key ≠ f.key := by
  simp [Fld.key, F.IRQ_PEND.PEND]; omega

/-- R443, R450: a pending source shows in `IRQ_PEND`. -/
theorem irqPend_irqSet_pending (n : Nat) (c : Core) : bitAt ((irqSet n 1 c).rd (F.IRQ_PEND.PEND (n / 32))) (n % 32) = true := by
  unfold irqSet
  rw [Core.rd_wr_ne _ _ (key_ne_irqPend (by decide) (by decide) _), Core.rd_wr_ne _ _ (key_ne_irqPend (by decide) (by decide) _), Core.rd_wr_same]
  have h32 : n % 32 < (F.IRQ_PEND.PEND (n / 32)).width := Nat.mod_lt n (by decide)
  rw [bitAt_mod_two_pow _ h32, if_pos rfl, bitAt_or]
  simp [bitAt_eq_testBit]

/-! ### Assertion (R434, R435) -/

theorem irqCross_none {c : Core} (h : c.irq.cross = []) : irqCross c = c := by simp [irqCross, h]

/-- The oldest assertion has reached IRQ. -/
def Core.crossed (rest : List Nat) (c : Core) : Core := { c with irq := { c.irq with cross := rest } }

theorem irqCross_cons {n : Nat} {rest : List Nat} {c : Core} (h : c.irq.cross = n :: rest) : irqCross c = irqAssert n (c.crossed rest) := by
  simp [irqCross, h, Core.crossed]

section
variable {n : Nat} {c : Core} (hres : irqReserved n = false)
include hres

theorem irqAssert_idle (h : c.irqState n = 0) : irqAssert n c = irqSet n 1 c := by simp [irqAssert, hres, h]

theorem irqAssert_pending (h : c.irqState n = 1) : irqAssert n c = c.cntSat (F.IRQ_HOLD.COAL (n / 8)) := by simp [irqAssert, hres, h]

theorem irqAssert_active (h : 2 ≤ c.irqState n) : irqAssert n c = (c.cntSat (F.IRQ_SRC.OVR n)).wrB F.IRQ_STAT.OVRSEEN true := by
  have h0 : c.irqState n ≠ 0 := by omega
  have h1 : c.irqState n ≠ 1 := by omega
  simp [irqAssert, hres, h0, h1]

end

/-! ### The levels of a core (R449) -/

/-- The level of the innermost handler of a nest. -/
def nestLevel (l : List (Nat × Nat)) : Nat := match l with | [] => 0 | x :: _ => x.1

theorem fieldsOnly_irqShow (k : Nat) (c : Core) : fieldsOnly (cpuFlds k) c (irqShow k c) :=
  fieldsOnly_wr (fieldsOnly_wr (fieldsOnly_wr (fieldsOnly_refl _ c) (by simp [cpuFlds])) (by simp [cpuFlds])) (by simp [cpuFlds])

theorem blocksOnly_irqShow {k : Nat} (hk : k < 4) (c : Core) : blocksOnly irqBlks c (irqShow k c) :=
  blocksOnly_of_fieldsOnly (fieldsOnly_irqShow k c) (cpuFlds_block hk)

@[simp] theorem irqShow_irq (k : Nat) (c : Core) : (irqShow k c).irq = c.irq := rfl
@[simp] theorem irqShow_nest (k i : Nat) (c : Core) : (irqShow k c).nest i = c.nest i := rfl
@[simp] theorem irqShow_fastOn (k i : Nat) (c : Core) : (irqShow k c).fastOn i = c.fastOn i := rfl

theorem irqShow_irqState (k : Nat) {n : Nat} (hn : n < 128) (c : Core) : (irqShow k c).irqState n = c.irqState n := by
  refine fieldsOnly_irqShow k c _ ?_
  simp [cpuFlds, Fld.key, F.IRQ_SRC.STATE, F.IRQ_CPU.RLVL, F.IRQ_CPU.DEPTH, F.IRQ_CPU.FACT]
  omega

theorem irqShow_rlvl (k : Nat) (c : Core) : (irqShow k c).rd (F.IRQ_CPU.RLVL k) = nestLevel (c.nest k) % 16 := by
  unfold irqShow Core.wrB
  rw [Core.rd_wr_ne _ _ (by simp [Fld.key, F.IRQ_CPU.RLVL, F.IRQ_CPU.FACT]), Core.rd_wr_ne _ _ (by simp [Fld.key, F.IRQ_CPU.RLVL, F.IRQ_CPU.DEPTH]),
    Core.rd_wr_same]
  rfl

theorem irqShow_fact (k : Nat) (c : Core) : (irqShow k c).rd (F.IRQ_CPU.FACT k) = b2n (c.fastOn k != none) := by
  unfold irqShow Core.wrB
  rw [Core.rd_wr_same]
  show b2n (c.fastOn k != none) % 2 = _
  cases c.fastOn k != none <;> rfl

/-! ### Delivery (R436 to R438, R440) -/

/-- One step of the choice of the source to deliver. -/
def Core.irqBetter (c : Core) (k : Nat) (b : Option Nat) (n : Nat) : Option Nat :=
  if c.deliverable k n then
    match b with
    | none => some n
    | some m => if c.irqRank m < c.irqRank n then some n else some m
  else b

theorem Core.irqBest_eq (c : Core) (k : Nat) : c.irqBest k = (upTo 128).foldl (c.irqBetter k) none := rfl

theorem irqBetter_of_not {c : Core} {k n : Nat} (b : Option Nat) (h : c.deliverable k n = false) : c.irqBetter k b n = b := by
  simp [Core.irqBetter, h]

theorem foldl_irqBetter_none {c : Core} {k : Nat} {l : List Nat} (h : ∀ m ∈ l, c.deliverable k m = false) (b : Option Nat) :
    l.foldl (c.irqBetter k) b = b := by
  induction l with
  | nil => rfl
  | cons a l ih =>
    rw [List.foldl_cons, irqBetter_of_not b (h a (by simp))]
    exact ih fun m hm => h m (by simp [hm])

theorem irqBest_none {c : Core} {k : Nat} (h : ∀ m, m < 128 → c.deliverable k m = false) : c.irqBest k = none :=
  foldl_irqBetter_none (fun m hm => h m (List.mem_range.mp hm)) none

/-- The highest deliverable source stays chosen, and is chosen where it stands among those that are left. -/
theorem foldl_irqBetter_best {c : Core} {k n : Nat} (hn : c.deliverable k n = true) {l : List Nat}
    (hbest : ∀ m ∈ l, m ≠ n → c.deliverable k m = true → c.irqRank m < c.irqRank n) {b : Option Nat}
    (hb : b = some n ∨ n ∈ l ∧ ∀ m, b = some m → c.irqRank m < c.irqRank n) : l.foldl (c.irqBetter k) b = some n := by
  induction l generalizing b with
  | nil => simpa using hb
  | cons a l ih =>
    have htail := fun m hm => hbest m (List.mem_cons_of_mem a hm)
    refine ih htail ?_
    by_cases ha : a = n
    · subst ha
      left
      rcases hb with rfl | ⟨-, hb⟩
      · simp [Core.irqBetter]
      · cases b with
        | none => simp [Core.irqBetter, hn]
        | some m => simp [Core.irqBetter, hn, hb m rfl]
    · by_cases hd : c.deliverable k a = true
      · have hrank := hbest a (by simp) ha hd
        rcases hb with rfl | ⟨hmem, hb⟩
        · left
          simp [Core.irqBetter, Nat.not_lt.mpr (Nat.le_of_lt hrank)]
        · right
          refine ⟨(List.mem_cons.mp hmem).resolve_left (Ne.symm ha), fun m hm => ?_⟩
          cases b with
          | none => simp_all [Core.irqBetter]
          | some x => have := hb x rfl; simp only [Core.irqBetter, hd, if_true] at hm; split at hm <;> cases hm <;> assumption
      · rw [irqBetter_of_not b (by simpa using hd)]
        exact hb.imp_right fun h => ⟨(List.mem_cons.mp h.1).resolve_left (Ne.symm ha), h.2⟩

theorem irqBest_some {c : Core} {k n : Nat} (hlt : n < 128) (hn : c.deliverable k n = true)
    (hbest : ∀ m, m < 128 → m ≠ n → c.deliverable k m = true → c.irqRank m < c.irqRank n) : c.irqBest k = some n :=
  foldl_irqBetter_best hn (fun m hm => hbest m (List.mem_range.mp hm)) (.inr ⟨List.mem_range.mpr hlt, by simp⟩)

/-- R438, R440: source `n` becomes ACTIVE, stands in IRQ_LAST, and the hold-off of its group starts where it has one. -/
def delivered (k n : Nat) (c : Core) : Core :=
  ((irqSet n 2 c).wr (F.IRQ_LAST.SRC k) n).wrB (F.IRQ_HOLD.RUN (n / 8)) (c.on (F.IRQ_HOLD.HOLD (n / 8)))

/-- The fields that a delivery of source `n` to core `k` changes beside the levels. -/
def deliverFlds (k n : Nat) : List Fld := stateFlds n ++ [F.IRQ_LAST.SRC k, F.IRQ_HOLD.RUN (n / 8)]

theorem fieldsOnly_delivered (k n : Nat) (c : Core) : fieldsOnly (deliverFlds k n) c (delivered k n c) :=
  fieldsOnly_wr (fieldsOnly_wr (fieldsOnly_mono (fieldsOnly_irqSet n 2 c) (by simp +contextual [deliverFlds])) (by simp [deliverFlds]))
    (by simp [deliverFlds])

theorem deliverFlds_block {k n : Nat} (hk : k < 4) (hn : n < 128) : ∀ f ∈ deliverFlds k n, f.block ∈ irqBlks := by
  intro f hf
  rcases List.mem_append.mp hf with hf | hf
  · exact stateFlds_block hn f hf
  · simp only [List.mem_cons, List.not_mem_nil, or_false] at hf
    rcases hf with rfl | rfl <;> simp [irqBlks, Fld.block, Fld.key, F.IRQ_LAST.SRC, F.IRQ_HOLD.RUN, F.IRQ_STAT.NPEND] <;> omega

/-- The configuration of a source stands in other bits than what a delivery changes. -/
theorem rd_delivered {k n : Nat} {f : Fld} (c : Core) (hf : ∀ g ∈ deliverFlds k n, f.key ≠ g.key) : (delivered k n c).rd f = c.rd f :=
  fieldsOnly_delivered k n c f hf

theorem prio_notin_deliverFlds {k n m : Nat} (hm : m < 128) : ∀ g ∈ deliverFlds k n, (F.IRQ_SRC.PRIO m).key ≠ g.key := by
  simp [deliverFlds, stateFlds, Fld.key, F.IRQ_SRC.PRIO, F.IRQ_SRC.STATE, F.IRQ_PEND.PEND, F.IRQ_STAT.NPEND, F.IRQ_STAT.NACT, F.IRQ_LAST.SRC,
    F.IRQ_HOLD.RUN]
  omega

theorem fast_notin_deliverFlds (k n m : Nat) : ∀ g ∈ deliverFlds k n, (F.IRQ_SRC.FAST m).key ≠ g.key := by
  simp [deliverFlds, stateFlds, Fld.key, F.IRQ_SRC.FAST, F.IRQ_SRC.STATE, F.IRQ_PEND.PEND, F.IRQ_STAT.NPEND, F.IRQ_STAT.NACT, F.IRQ_LAST.SRC,
    F.IRQ_HOLD.RUN]
  omega

theorem hold_notin_deliverFlds {k n g : Nat} (hg : g < 16) (hk : k < 4) :
    ∀ f ∈ stateFlds n ++ [F.IRQ_LAST.SRC k], (F.IRQ_HOLD.HOLD g).key ≠ f.key := by
  simp [stateFlds, Fld.key, F.IRQ_HOLD.HOLD, F.IRQ_SRC.STATE, F.IRQ_PEND.PEND, F.IRQ_STAT.NPEND, F.IRQ_STAT.NACT, F.IRQ_LAST.SRC]
  omega

/-- R438: what the handler of the delivered source takes of its core. -/
theorem irqDeliver_best {k n : Nat} {c : Core} (hn : n < 128) (hk : k < 4) (h : c.irqBest k = some n) :
    irqDeliver k c = irqShow k (if c.on (F.IRQ_SRC.FAST n) then
        { delivered k n c with irq := { c.irq with fast := Tab.put none c.irq.fast k (some n) } }
      else { delivered k n c with irq := { c.irq with stack := Tab.put [] c.irq.stack k ((c.rd (F.IRQ_SRC.PRIO n), n) :: c.nest k) } }) := by
  have hhold : ((irqSet n 2 c).wr (F.IRQ_LAST.SRC k) n).rd (F.IRQ_HOLD.HOLD (n / 8)) = c.rd (F.IRQ_HOLD.HOLD (n / 8)) :=
    fieldsOnly_wr (fs := stateFlds n ++ [F.IRQ_LAST.SRC k]) (fieldsOnly_mono (fieldsOnly_irqSet n 2 c) (by simp +contextual)) (by simp) _
      (hold_notin_deliverFlds (by omega) hk)
  have hfast : (delivered k n c).on (F.IRQ_SRC.FAST n) = c.on (F.IRQ_SRC.FAST n) := by
    rw [Core.on_eq, Core.on_eq, rd_delivered c (fast_notin_deliverFlds k n n)]
  have hprio := rd_delivered c (prio_notin_deliverFlds (k := k) (n := n) hn)
  have hd : ((irqSet n 2 c).wr (F.IRQ_LAST.SRC k) n).wrB (F.IRQ_HOLD.RUN (n / 8))
      (((irqSet n 2 c).wr (F.IRQ_LAST.SRC k) n).rd (F.IRQ_HOLD.HOLD (n / 8)) != 0) = delivered k n c := by
    rw [hhold, ← Core.on_eq]
    rfl
  simp only [irqDeliver, h, hd, hfast, hprio]
  rfl

theorem delivered_irqState_same (k n : Nat) (c : Core) : (delivered k n c).irqState n = 2 := by
  unfold delivered Core.wrB
  rw [irqState_wr_ne _ _ _ (by simp [F.IRQ_HOLD.RUN]), irqState_wr_ne _ _ _ (by simp [F.IRQ_LAST.SRC]), irqState_irqSet_same]

theorem delivered_last {k n : Nat} (c : Core) (hn : n < 128) : (delivered k n c).rd (F.IRQ_LAST.SRC k) = n := by
  unfold delivered Core.wrB
  rw [Core.rd_wr_ne _ _ (by simp [Fld.key, F.IRQ_LAST.SRC, F.IRQ_HOLD.RUN]; omega), Core.rd_wr_same]
  exact Nat.mod_eq_of_lt hn

theorem on_wrB (c : Core) {f : Fld} (hf : f.width = 1) (b : Bool) : (c.wrB f b).on f = b := by
  rw [Core.on_eq, Core.wrB, Core.rd_wr_same, hf]
  cases b <;> rfl

/-- What a change of the handlers leaves of the registers. -/
theorem irqShow_frame {k : Nat} {c d : Core} (hk : k < 4) (h : blocksOnly irqBlks c d) (i : IrqSt) :
    blocksOnly irqBlks c (irqShow k { d with irq := i }) :=
  blocksOnly_trans (blocksOnly_of_csr h rfl) (blocksOnly_irqShow hk _)

theorem last_run_notin_cpuFlds {k n : Nat} (hn : n < 128) (hk : k < 4) :
    ∀ g ∈ cpuFlds k, (F.IRQ_LAST.SRC k).key ≠ g.key ∧ (F.IRQ_HOLD.RUN (n / 8)).key ≠ g.key := by
  simp [cpuFlds, Fld.key, F.IRQ_LAST.SRC, F.IRQ_HOLD.RUN, F.IRQ_CPU.RLVL, F.IRQ_CPU.DEPTH, F.IRQ_CPU.FACT]
  omega

/-- R438, R440: a delivery shows the same of its source whatever handler starts. -/
theorem irqShow_delivered {k n : Nat} (hn : n < 128) (hk : k < 4) (c : Core) (i : IrqSt) :
    let d := irqShow k { delivered k n c with irq := i }
    blocksOnly irqBlks c d ∧ d.irqState n = 2 ∧ d.rd (F.IRQ_LAST.SRC k) = n ∧ d.on (F.IRQ_HOLD.RUN (n / 8)) = c.on (F.IRQ_HOLD.HOLD (n / 8)) := by
  refine ⟨irqShow_frame hk (blocksOnly_of_fieldsOnly (fieldsOnly_delivered k n c) (deliverFlds_block hk hn)) i, ?_, ?_, ?_⟩
  · rw [irqShow_irqState k hn]
    exact delivered_irqState_same k n c
  · exact (fieldsOnly_irqShow k _ _ fun g hg => (last_run_notin_cpuFlds hn hk g hg).1).trans (delivered_last c hn)
  · rw [Core.on_eq, fieldsOnly_irqShow k _ _ fun g hg => (last_run_notin_cpuFlds hn hk g hg).2]
    exact on_wrB (irqSet n 2 c |>.wr (F.IRQ_LAST.SRC k) n) rfl _

theorem irqDeliver_ends {s : State} {k n : Nat} (hs : s.pwr.held = false) (hn : n < 128) (hk : k < 4) (h : s.core.irqBest k = some n) :
    Ends (.irqDeliver k) s fun t => (coreOnly s t ∧ blocksOnly irqBlks s.core t.core) ∧
      t.core.irqState n = 2 ∧ t.core.rd (F.IRQ_LAST.SRC k) = n ∧ t.core.on (F.IRQ_HOLD.RUN (n / 8)) = s.core.on (F.IRQ_HOLD.HOLD (n / 8)) ∧
      (s.core.on (F.IRQ_SRC.FAST n) = true → t.core.fastOn k = some n ∧ t.core.nest k = s.core.nest k ∧ t.core.rd (F.IRQ_CPU.FACT k) = 1) ∧
      (s.core.on (F.IRQ_SRC.FAST n) = false → t.core.nest k = (s.core.rd (F.IRQ_SRC.PRIO n), n) :: s.core.nest k ∧
        t.core.rd (F.IRQ_CPU.RLVL k) = s.core.rd (F.IRQ_SRC.PRIO n) % 16) := by
  refine ends_onCore (irqDeliver k) hs rfl ?_
  dsimp only
  rw [irqDeliver_best hn hk h]
  by_cases hfast : s.core.on (F.IRQ_SRC.FAST n) = true
  · rw [if_pos hfast]
    obtain ⟨hframe, hst, hlast, hrun⟩ := irqShow_delivered hn hk s.core { s.core.irq with fast := Tab.put none s.core.irq.fast k (some n) }
    refine ⟨⟨rfl, hframe⟩, hst, hlast, hrun, fun _ => ⟨by simp [Core.fastOn], rfl, ?_⟩, fun hn => by simp [hfast] at hn⟩
    rw [irqShow_fact]
    simp [Core.fastOn, b2n]
  · rw [if_neg hfast]
    obtain ⟨hframe, hst, hlast, hrun⟩ :=
      irqShow_delivered hn hk s.core { s.core.irq with stack := Tab.put [] s.core.irq.stack k ((s.core.rd (F.IRQ_SRC.PRIO n), n) :: s.core.nest k) }
    refine ⟨⟨rfl, hframe⟩, hst, hlast, hrun, fun h => absurd h hfast, fun _ => ⟨by simp [Core.nest], ?_⟩⟩
    rw [irqShow_rlvl]
    simp [Core.nest, nestLevel]

/-! ### End of interrupt (R439) -/

/-- R435, R439: source `n` is idle and every other source as it was. -/
def Core.idled (n : Nat) (c d : Core) : Prop := blocksOnly irqBlks c d ∧ d.irqState n = 0 ∧ ∀ m < 128, m ≠ n → d.irqState m = c.irqState m

theorem idled_irqShow {k n : Nat} (hn : n < 128) (hk : k < 4) (c : Core) (i : IrqSt) : c.idled n (irqShow k { irqSet n 0 c with irq := i }) := by
  refine ⟨irqShow_frame hk (blocksOnly_irqSet hn 0 c) i, ?_, fun m hlt hm => ?_⟩
  · rw [irqShow_irqState k hn]
    exact irqState_irqSet_same n 0 c
  · rw [irqShow_irqState k hlt]
    exact irqState_irqSet_ne 0 c hm

section
variable {k n : Nat} {c : Core}

theorem irqEoi_fast (hn : n < 128) (hk : k < 4) (h : c.fastOn k = some n) : let d := irqEoi k n c
    c.idled n d ∧ d.fastOn k = none ∧ d.nest k = c.nest k ∧ d.rd (F.IRQ_CPU.FACT k) = 0 ∧ d.rd (F.IRQ_CPU.RLVL k) = nestLevel (c.nest k) % 16 := by
  have he : irqEoi k n c = irqShow k { irqSet n 0 c with irq := { c.irq with fast := Tab.put none c.irq.fast k none } } := if_pos h
  rw [he]
  refine ⟨idled_irqShow hn hk c _, by simp [Core.fastOn], rfl, ?_, irqShow_rlvl _ _⟩
  rw [irqShow_fact]
  simp [Core.fastOn, b2n]

theorem irqEoi_nested (hn : n < 128) (hk : k < 4) (hfast : c.fastOn k ≠ some n) (hnest : ∃ x ∈ c.nest k, x.2 = n) : let d := irqEoi k n c
    let outer := (c.nest k).filter (fun x => x.2 != n)
    c.idled n d ∧ d.fastOn k = c.fastOn k ∧ d.nest k = outer ∧ d.rd (F.IRQ_CPU.RLVL k) = nestLevel outer % 16 := by
  have hany : (c.nest k).any (fun x => x.2 == n) = true := by simpa using hnest
  have he : irqEoi k n c = irqShow k { irqSet n 0 c with irq := { c.irq with stack := Tab.put [] c.irq.stack k ((c.nest k).filter (fun x => x.2 != n)) } } :=
    (if_neg hfast).trans (if_pos hany)
  rw [he]
  refine ⟨idled_irqShow hn hk c _, rfl, Tab.get_put_same [] _ k _, ?_⟩
  rw [irqShow_rlvl]
  simp [Core.nest]

theorem irqEoi_refused (hfast : c.fastOn k ≠ some n) (hnest : ∀ x ∈ c.nest k, x.2 ≠ n) : irqEoi k n c = c.cntSat (F.IRQ_CPU.EOIERR k) := by
  have hany : ¬ (c.nest k).any (fun x => x.2 == n) = true := by
    rw [List.any_eq_true]
    rintro ⟨x, hx, he⟩
    exact hnest x hx (by simpa using he)
  exact (if_neg hfast).trans (if_neg hany)

end

theorem rd_cntSat8 (c : Core) {f : Fld} (hf : f.width = 8) : (c.cntSat f).rd f = min 255 (c.rd f + 1) := by
  rw [rd_cntSat_same, hf]
  rfl

/-- R439: an end of interrupt for a source that is not active on the core counts. -/
theorem cntSat_ends {s : State} {f : Fld} {d : Core} (hf : f.width = 8) (hd : d.csr = s.core.csr) :
    fieldsOnly [f] s.core (d.cntSat f) ∧ (d.cntSat f).rd f = min 255 (s.core.rd f + 1) := by
  refine ⟨fieldsOnly_cntSat (fieldsOnly_csr hd) (by simp), ?_⟩
  rw [rd_cntSat8 d hf, Core.rd_of_csr hd]

/-! ### Discards and software interrupts (R443, R446) -/

/-- One step of a discard. -/
def discardOne (w bits i : Nat) (c : Core) : Core := if bitAt bits i && c.irqState (32 * w + i) == 1 then irqSet (32 * w + i) 0 c else c

theorem irqDiscard_eq (w bits : Nat) (c : Core) : irqDiscard w bits c = forUp 32 (discardOne w bits) c := rfl

/-- The fields that a discard in word `w` may change (R443). -/
def discardFlds (w : Nat) : List Fld :=
  F.IRQ_PEND.PEND w :: F.IRQ_STAT.NPEND :: F.IRQ_STAT.NACT :: (upTo 32).map fun n => F.IRQ_SRC.STATE (32 * w + n)

theorem discardOne_shows {w bits i : Nat} (hi : i < 32) (c : Core) : let d := discardOne w bits i c
    fieldsOnly (discardFlds w) c d ∧ d.irq = c.irq ∧ d.wait = c.wait ∧
    ∀ m, d.irqState m = if m = 32 * w + i ∧ bitAt bits i = true ∧ c.irqState m = 1 then 0 else c.irqState m := by
  unfold discardOne
  have hw : (32 * w + i) / 32 = w := by omega
  split
  · next h =>
    simp only [Bool.and_eq_true, beq_iff_eq] at h
    refine ⟨fieldsOnly_mono (fieldsOnly_irqSet _ 0 c) ?_, rfl, rfl, fun m => ?_⟩
    · simp only [stateFlds, hw, List.mem_cons, List.not_mem_nil, or_false, forall_eq_or_imp, forall_eq]
      refine ⟨?_, by simp [discardFlds], by simp [discardFlds], by simp [discardFlds]⟩
      simp only [discardFlds, List.mem_cons, List.mem_map]
      exact .inr (.inr (.inr ⟨i, List.mem_range.mpr hi, rfl⟩))
    · by_cases hm : m = 32 * w + i
      · subst hm
        rw [irqState_irqSet_same, if_pos ⟨rfl, h⟩]
      · rw [irqState_irqSet_ne 0 c hm, if_neg fun hx => hm hx.1]
  · next h =>
    refine ⟨fieldsOnly_refl _ c, rfl, rfl, fun m => ?_⟩
    rw [if_neg]
    rintro ⟨rfl, hx⟩
    exact h (by simpa using hx)

theorem forUp_discardOne (w bits : Nat) (c : Core) {n : Nat} (hn : n ≤ 32) : let d := forUp n (discardOne w bits) c
    fieldsOnly (discardFlds w) c d ∧ d.irq = c.irq ∧ d.wait = c.wait ∧
    ∀ m, d.irqState m = if m / 32 = w ∧ m % 32 < n ∧ bitAt bits (m % 32) = true ∧ c.irqState m = 1 then 0 else c.irqState m := by
  induction n with
  | zero => exact ⟨fieldsOnly_refl _ c, rfl, rfl, fun m => by simp [forUp]⟩
  | succ n ih =>
    obtain ⟨hframe, hirq, hwait, hst⟩ := ih (by omega)
    obtain ⟨hframe1, hirq1, hwait1, hst1⟩ := discardOne_shows (w := w) (bits := bits) (i := n) (by omega) (forUp n (discardOne w bits) c)
    simp only [forUp_succ]
    refine ⟨fun f hf => (hframe1 f hf).trans (hframe f hf), hirq1.trans hirq, hwait1.trans hwait, fun m => ?_⟩
    rw [hst1, hst]
    by_cases hm : m = 32 * w + n
    · subst hm
      have hdiv : (32 * w + n) / 32 = w := by omega
      have hmod : (32 * w + n) % 32 = n := by omega
      simp [hdiv, hmod]
    · have hlt : m / 32 = w → (m % 32 < n + 1 ↔ m % 32 < n) := by omega
      by_cases hw : m / 32 = w
      · simp [hm, hw, hlt hw]
      · simp [hm, hw]

/-- R443: a discard returns the pending sources of its bits to IDLE. -/
theorem irqDiscard_shows (w bits : Nat) (c : Core) : let d := irqDiscard w bits c
    fieldsOnly (discardFlds w) c d ∧ d.irq = c.irq ∧ d.wait = c.wait ∧
    ∀ m, d.irqState m = if m / 32 = w ∧ bitAt bits (m % 32) = true ∧ c.irqState m = 1 then 0 else c.irqState m := by
  obtain ⟨hframe, hirq, hwait, hst⟩ := forUp_discardOne w bits c (le_refl 32)
  refine ⟨hframe, hirq, hwait, fun m => ?_⟩
  rw [irqDiscard_eq, hst]
  simp [Nat.mod_lt]

theorem discardFlds_block {w : Nat} (hw : w < 4) : ∀ f ∈ discardFlds w, f.block ∈ irqBlks := by
  intro f hf
  simp only [discardFlds, List.mem_cons, List.mem_map] at hf
  rcases hf with rfl | rfl | rfl | ⟨i, hi, rfl⟩
  · exact irqPend_block hw
  · decide
  · decide
  · have := List.mem_range.mp hi
    exact irqState_block (by omega)

/-- R446: the software interrupts of the bits that are 1, in rising order. -/
theorem forUp_pulse (n bits : Nat) (c : Core) : let d := forUp n (fun k c => if bitAt bits k then c.pulse (124 + k) else c) c
    d.csr = c.csr ∧ d.irq.cross = c.irq.cross ++ ((upTo n).filter (fun i => bitAt bits i)).map (fun i => 124 + i) := by
  induction n with
  | zero => simp [forUp, upTo]
  | succ n ih =>
    obtain ⟨hcsr, hcross⟩ := ih
    simp only [forUp_succ]
    by_cases h : bitAt bits n = true
    · rw [if_pos h]
      refine ⟨hcsr, (congrArg (· ++ [124 + n]) hcross).trans ?_⟩
      simp [h, upTo, List.range_succ]
    · rw [if_neg h]
      refine ⟨hcsr, hcross.trans ?_⟩
      simp [h, upTo, List.range_succ]

theorem irqSgi_shows (bits : Nat) (c : Core) : (irqSgi bits c).csr = c.csr ∧
    (irqSgi bits c).irq.cross = c.irq.cross ++ ((upTo 4).filter (fun i => bitAt bits i)).map (fun i => 124 + i) := forUp_pulse 4 bits c

/-! ### The commands -/

/-- Settles O38: by the state of the source for an assertion, by what runs on the core for a delivery and an end of interrupt. -/
theorem interruptCommands : Obligations.InterruptCommands := by
  unfold Obligations.InterruptCommands
  intro s n k g w bits rest hs hn hk hg hw
  refine ⟨fun h => ends_unchanged irqCross hs rfl (irqCross_none h), fun h hres => ends_onCore irqCross hs rfl ?reserved,
    fun h hres hst => ends_onCore irqCross hs rfl ?asserted, fun h hres hst => ends_onCore irqCross hs rfl ?coalesced,
    fun h hres hst => ends_onCore irqCross hs rfl ?lost, fun h => ends_unchanged (irqDeliver k) hs rfl ?none,
    fun hd hbest => irqDeliver_ends hs hn hk (irqBest_some hn hd hbest), fun h => ends_onCore (irqEoi k n) hs rfl ?fast,
    fun hf hx => ends_onCore (irqEoi k n) hs rfl ?nested, fun hf hx => ends_onCore (irqEoi k n) hs rfl ?refused,
    ends_onCore (irqHoldEnd g) hs rfl ?hold, ends_onCore (irqDiscard w bits) hs rfl ?discard, ends_onCore (irqSgi bits) hs rfl ?sgi⟩
  case reserved => simp only [irqCross_cons h, irqAssert, hres, if_true, Core.crossed]
  case asserted =>
    dsimp only
    rw [irqCross_cons h, irqAssert_idle hres (c := s.core.crossed rest) hst]
    exact ⟨⟨rfl, blocksOnly_irqSet hn 1 _⟩, rfl, irqState_irqSet_same n 1 _, irqPend_irqSet_pending n _, fun m _ hm => irqState_irqSet_ne 1 _ hm⟩
  case coalesced =>
    dsimp only
    rw [irqCross_cons h, irqAssert_pending hres (c := s.core.crossed rest) hst]
    obtain ⟨hframe, hcnt⟩ := cntSat_ends (s := s) (d := s.core.crossed rest) (f := F.IRQ_HOLD.COAL (n / 8)) rfl rfl
    exact ⟨rfl, hframe, rfl, hcnt⟩
  case lost =>
    dsimp only
    rw [irqCross_cons h, irqAssert_active hres (c := s.core.crossed rest) hst]
    obtain ⟨hframe, hcnt⟩ := cntSat_ends (s := s) (d := s.core.crossed rest) (f := F.IRQ_SRC.OVR n) rfl rfl
    refine ⟨rfl, fieldsOnly_wr (fieldsOnly_mono hframe (by simp)) (by simp), rfl, ?_, Core.rd_wr_same _ _ _⟩
    exact (Core.rd_wr_ne _ _ (by simp [Fld.key, F.IRQ_SRC.OVR, F.IRQ_STAT.OVRSEEN]; omega)).trans hcnt
  case none => simp only [irqDeliver, irqBest_none h]
  case fast =>
    obtain ⟨⟨hframe, hidle, hother⟩, hfast, hnest, hfact, -⟩ := irqEoi_fast hn hk h
    exact ⟨⟨⟨rfl, hframe⟩, hidle, hother⟩, hfast, hnest, hfact⟩
  case nested =>
    obtain ⟨⟨hframe, hidle, hother⟩, -, hnest, hlvl⟩ := irqEoi_nested hn hk hf hx
    refine ⟨⟨⟨rfl, hframe⟩, hidle, hother⟩, hnest, hlvl.trans ?_⟩
    cases (s.core.nest k).filter (fun x => x.2 != n) <;> rfl
  case refused =>
    rw [irqEoi_refused hf hx]
    obtain ⟨hframe, hcnt⟩ := cntSat_ends (s := s) (d := s.core) (f := F.IRQ_CPU.EOIERR k) rfl rfl
    exact ⟨rfl, hframe, hcnt⟩
  case hold => exact ⟨rfl, fieldsOnly_wr (g := F.IRQ_HOLD.RUN g) (fieldsOnly_refl _ _) (by simp), Core.rd_wr_same _ (F.IRQ_HOLD.RUN g) 0⟩
  case discard =>
    obtain ⟨hframe, hirq, -, hst⟩ := irqDiscard_shows w bits s.core
    exact ⟨⟨rfl, blocksOnly_of_fieldsOnly hframe (discardFlds_block hw)⟩, hirq, fun m _ => hst m⟩
  case sgi => exact ⟨rfl, noRegister_of_csr (irqSgi_shows bits s.core).1, (irqSgi_shows bits s.core).2⟩

end Sys2Proof.Machine
end

section
/-! PROOF. O58, O60: the registers of the interrupt controller that act when they are written (R439, R443). -/

namespace Sys2Proof.Machine

/-! ### A write that acts in IRQ (R439, R443, R446) -/

/-- R546: an offset in the block of the interrupt controller is no offset of another block. -/
theorem off_ne_of_block {o a b : Nat} (ho : o / 16384 = b) (ha : a / 16384 ≠ b) : o ≠ a := fun h => ha (h ▸ ho)

theorem foldl_eq_self {α β : Type} {f : β → α → β} {l : List α} (h : ∀ b, ∀ a ∈ l, f b a = b) (b : β) : l.foldl f b = b := by
  induction l with
  | nil => rfl
  | cons a l ih =>
    rw [List.foldl_cons, h b a (by simp)]
    exact ih fun b x hx => h b x (by simp [hx])

theorem ctlWords_off (priv : Bool) (how : WMode) : ∀ f ∈ ctlWords priv how, f.off / 16384 ≠ 3 := by
  cases priv <;> cases how <;> decide

section
variable {o : Nat} (ho : o / 16384 = 3)
include ho

theorem holdCtl_irq (m : Master) (how : WMode) (v : Nat) (late : Bool) (c : Core) : holdCtl m o how v late c = c := by
  have hown : ∀ f ∈ ctlOwn, f.off ≠ o := fun f hf => (off_ne_of_block ho ((by decide : ∀ f ∈ ctlOwn, f.off / 16384 ≠ 3) f hf)).symm
  have hwords : ∀ f ∈ ctlWords (privileged m) how, f.off ≠ o := fun f hf => (off_ne_of_block ho (ctlWords_off _ _ f hf)).symm
  unfold holdCtl
  dsimp only
  rw [foldl_eq_self (fun d f hf => if_neg (hwords f hf)), foldl_eq_self (fun d f hf => if_neg (by simp [hown f hf]))]

theorem cellOwn_irq (how : WMode) (v : Nat) (c : Core) : cellOwn o how v c = c := by
  have hne : ∀ {a : Nat}, a / 16384 ≠ 3 → o ≠ a := fun h => off_ne_of_block ho h
  simp (disch := decide) only [cellOwn, hne, if_false]

theorem netOwn_irq (how : WMode) (v : Nat) (c : Core) : netOwn o how v c = c := by
  have hne : ∀ {a : Nat}, a / 16384 ≠ 3 → o ≠ a := fun h => off_ne_of_block ho h
  simp (disch := decide) only [netOwn, hne, if_false]

/-- R439, R443, R446: what a register of IRQ that acts does is all that its write does. -/
theorem ownWrite_irq (m : Master) (how : WMode) (v : Nat) (late : Bool) (s : State) : ownWrite m o how v late s = onCore (irqOwn o how v) s := by
  have hne : ∀ {a : Nat}, a / 16384 ≠ 3 → o ≠ a := fun h => off_ne_of_block ho h
  have hcore : ownCore m o how v late = irqOwn o how v := by
    funext c
    rw [ownCore, holdCtl_irq ho, netOwn_irq ho, cellOwn_irq ho]
  have hnv : ∀ q : NC, ownNv (privileged m) o how v q = q := fun q => by
    simp (disch := decide) only [ownNv, hne, if_false, false_and]
  rw [ownWrite, if_neg (hne (by decide)), hcore]
  simp only [hnv]
  cases hs : s.pwr.held
  · simp only [onCore, onNv, hs, Bool.false_eq_true, if_false]
  · simp only [onCore, onNv, hs, if_true]

/-- R33 to R42: a full write of a register of IRQ that only acts. -/
theorem registerWrite_irqOwn {m : Master} (hm : m ∈ wholeMasters) {f : Fld} (hreg : regAt o = [f]) (hcls : f.cls = .own) (hacc : f.acc ≠ .rwp)
    (hclr : f.key ≠ F.SAFM_CMD.CLRWELD.key) (hsgi : o ≠ F.IRQ_SGI.TRIG.off) (v : Nat) (late : Bool) (s : State) :
    exec (.registerWrite m o v 15 late) s = .next (onCore (irqOwn o .normal v) s) := by
  have hne : ∀ {a : Nat}, a / 16384 ≠ 3 → o ≠ a := fun h => off_ne_of_block ho h
  obtain ⟨-, hv, hword⟩ := inView_of_mem_regAt (o := o) (f := f) (by simp [hreg])
  have hcarries : carriesP (regAt o) .normal v = false := by simp [carriesP, hreg, Fld.privOnly, hacc, hclr]
  have hmask := bitsOf_fullMask_ne_zero hword
  have hset : s.beyondSet o = false := by simp [State.beyondSet, hne (a := F.SAFM_PDATA.DATA.off) (by decide)]
  have hrest : s.core.restricted m .normal o v = false :=
    restricted_eq_false (by omega) (by omega) hsgi (hne (by decide))
  have hex := exec_viewWrite (m := m) hv .normal v 15 late s
  have hbus := busWrite_whole (late := late) hm (by rw [ho]; decide) hv hrest hset
  rw [hcarries, Bool.and_false, if_neg Bool.false_ne_true] at hbus
  refine hex.trans (congrArg _ (hbus.trans ?_))
  have hplain : ∀ fs : List Fld, (∀ g ∈ fs, g = f) → fs.filter (fun g => g.cls != .own) = [] := by
    intro fs hfs
    rw [List.filter_eq_nil_iff]
    intro g hg
    simp [hfs g hg, hcls]
  have hany : ((regAt o).any fun g => g.cls == .own && g.bitsOf (2 ^ 32 - 1) != 0) = true := by
    simpa [hreg, hcls] using hmask
  unfold regWrite
  dsimp only
  rw [ho, if_neg (by simp [postedBlock]), if_neg (by decide), if_neg (by decide), hany, if_pos rfl, hplain _ (by simp +contextual [hreg, takenBy]), ownWrite_irq ho]
  have hnone : onCore (writeFields m .normal late v []) s = s := by
    cases hs : s.pwr.held
    · rw [onCore_run _ hs]
      rfl
    · rw [onCore_held _ hs]
  rw [hnone]

end

theorem regAt_irqPend {w : Nat} (hw : w < 4) : regAt (0xc340 + 4 * w) = [F.IRQ_PEND.PEND w] := by
  interval_cases w <;> rfl

theorem regAt_irqEoi {k : Nat} (hk : k < 4) : regAt (0xc204 + 16 * k) = [F.IRQ_EOI.SRC k] := by
  interval_cases k <;> rfl

/-- R443: a full write of `IRQ_PENDw` discards. -/
theorem exec_irqPendWrite {m : Master} (hm : m ∈ wholeMasters) {w : Nat} (hw : w < 4) (v : Nat) (late : Bool) (s : State) :
    exec (.registerWrite m (0xc340 + 4 * w) v 15 late) s = .next (onCore (irqDiscard w (v % 2 ^ 32)) s) := by
  have hown : irqOwn (0xc340 + 4 * w) .normal v = irqDiscard w (v % 2 ^ 32) := by
    interval_cases w <;> rfl
  rw [registerWrite_irqOwn (by omega) hm (regAt_irqPend hw) rfl (by simp [F.IRQ_PEND.PEND])
    (by simp [Fld.key, F.IRQ_PEND.PEND, F.SAFM_CMD.CLRWELD]; omega) (by simp [F.IRQ_SGI.TRIG]; omega), hown]

/-- R439: a write of a source number to `IRQ_EOIc` ends a handler of core `k`. -/
theorem exec_irqEoiWrite {k n : Nat} (hk : k < 4) (hn : n < 128) (late : Bool) (s : State) :
    exec (.registerWrite .super (0xc204 + 16 * k) n 15 late) s = .next (onCore (irqEoi k n) s) := by
  have hown : irqOwn (0xc204 + 16 * k) .normal n = irqEoi k n := by
    conv_rhs => rw [← Nat.mod_eq_of_lt hn]
    interval_cases k <;> rfl
  rw [registerWrite_irqOwn (by omega) (by decide) (regAt_irqEoi hk) rfl (by simp [F.IRQ_EOI.SRC])
    (by simp [Fld.key, F.IRQ_EOI.SRC, F.SAFM_CMD.CLRWELD]; omega) (by simp [F.IRQ_SGI.TRIG]; omega), hown]

/-- Settles O58: the write is the discard of R443. -/
theorem pendingDiscard : Obligations.PendingDiscard := by
  unfold Obligations.PendingDiscard
  intro s m w v late hs hm hw
  refine ends_onCore _ hs (exec_irqPendWrite hm hw v late s) ?_
  obtain ⟨hframe, hirq, hwait, hst⟩ := irqDiscard_shows w (v % 2 ^ 32) s.core
  refine ⟨rfl, hirq, hwait, hframe, fun n hn => ?_⟩
  have hdiv : (32 * w + n) / 32 = w := by omega
  have hmod : (32 * w + n) % 32 = n := by omega
  have hn' := hst (32 * w + n)
  rw [hdiv, hmod, bitAt_mod_two_pow _ hn] at hn'
  refine ⟨fun hbit hpend => by rw [hn', if_pos ⟨rfl, hbit, hpend⟩], fun h => ?_⟩
  rw [hn', if_neg]
  rintro ⟨-, hbit, hpend⟩
  exact h.elim (by simp [hbit]) fun hne => hne hpend

/-! ### The configuration of a source (R439) -/

theorem plain_irqSrc {n : Nat} (hn : n < 128) : Plain .imm (0xc000 + 4 * n) :=
  .of_plainReg (by decide) ((by decide : ∀ n < 128, plainReg .imm (0xc000 + 4 * n) = true) n hn)

/-- The fields of `IRQ_SRCn` that a write changes. -/
def srcFlds (n : Nat) : List Fld := [F.IRQ_SRC.PRIO n, F.IRQ_SRC.TGT n, F.IRQ_SRC.FAST n, F.IRQ_SRC.EN n, F.IRQ_SRC.URG n, F.IRQ_SRC.OVR n]

theorem writable_irqSrc {n : Nat} (hn : n < 128) : (regAt (0xc000 + 4 * n)).filter (Fld.writableBy .super .imm) = srcFlds n :=
  (by decide : ∀ n < 128, (regAt (0xc000 + 4 * n)).filter (Fld.writableBy .super .imm) = srcFlds n) n hn

/-- R33: the supervisor's write of `IRQ_SRCn`. -/
theorem irqSrcWrite_ends {s : State} {n : Nat} (hs : s.pwr.held = false) (hn : n < 128) (v : Nat) (late : Bool) :
    Ends (.registerWrite .super (0xc000 + 4 * n) v 15 late) s fun t => t = { s with core := loadFields .normal v (srcFlds n) s.core } := by
  refine (plain_irqSrc hn).ends_write hs (m := .super) (by decide) .normal late rfl ?_
  rw [(plain_irqSrc hn).writeFields_imm, writable_irqSrc hn]

theorem loadFields_irq (how : WMode) (v : Nat) (fs : List Fld) (c : Core) : (loadFields how v fs c).irq = c.irq := by
  induction fs generalizing c with
  | nil => rfl
  | cons f fs ih => exact ih _

theorem nodup_srcFlds (n : Nat) : ((srcFlds n).map Fld.key).Nodup := by
  simp [srcFlds, Fld.key, F.IRQ_SRC.PRIO, F.IRQ_SRC.TGT, F.IRQ_SRC.FAST, F.IRQ_SRC.EN, F.IRQ_SRC.URG, F.IRQ_SRC.OVR]

/-- Settles O60: the write of `IRQ_EOIc` is the end of interrupt of R439, that of `IRQ_SRCn` a load of its fields. -/
theorem endOfInterrupt : Obligations.EndOfInterrupt := by
  unfold Obligations.EndOfInterrupt
  intro s k n v late hs hk hn
  have heoi := exec_irqEoiWrite hk hn late s
  refine ⟨fun h => ends_onCore _ hs heoi ?fast, fun hf hx => ends_onCore _ hs heoi ?nested, fun hf hx => ends_onCore _ hs heoi ?refused, ?src⟩
  case fast =>
    obtain ⟨⟨-, hidle, -⟩, hfast, hnest, -, hlvl⟩ := irqEoi_fast hn hk h
    refine ⟨hidle, hfast, hnest, hlvl.trans ?_⟩
    cases s.core.nest k <;> rfl
  case nested =>
    obtain ⟨⟨-, hidle, -⟩, hfast, hnest, hlvl⟩ := irqEoi_nested hn hk hf hx
    refine ⟨hidle, hnest, hlvl.trans ?_, hfast⟩
    cases (s.core.nest k).filter (fun x => x.2 != n) <;> rfl
  case refused =>
    dsimp only
    rw [irqEoi_refused hf hx]
    obtain ⟨hframe, hcnt⟩ := cntSat_ends (s := s) (d := s.core) (f := F.IRQ_CPU.EOIERR k) rfl rfl
    exact ⟨rfl, hframe, rfl, rfl, hcnt⟩
  case src =>
    obtain ⟨t, he, rfl⟩ := irqSrcWrite_ends hs hn v late
    have hrd := rd_loadFields .normal v (nodup_srcFlds n) s.core
    refine ⟨_, he, rfl, loadFields_irq .normal v _ _, fieldsOnly_loadFields .normal v _ _, ?_, ?_, ?_⟩
    · exact (hrd (F.IRQ_SRC.PRIO n) (by simp [srcFlds])).trans (by simp [viewOp, Fld.bitsOf, F.IRQ_SRC.PRIO])
    · exact (hrd (F.IRQ_SRC.TGT n) (by simp [srcFlds])).trans (by simp [viewOp, Fld.bitsOf, F.IRQ_SRC.TGT])
    · exact (hrd (F.IRQ_SRC.FAST n) (by simp [srcFlds])).trans (by simp [viewOp, Fld.bitsOf, F.IRQ_SRC.FAST])

end Sys2Proof.Machine
end

section
/-! PROOF. What goes on of the rings after a command (R390 to R398): the few fields and transfers that it touches, and what every record keeps. -/

namespace Sys2Proof.Machine

/-! ### The resettable part -/

/-- The fields that the pumps and the end of a command show: the journal's use, the duplicates, the fault records held. -/
def pumpFlds : List Fld := [F.HIF_JUSE.USED, F.HIF_JUSE.HIGH, F.HIF_STAT.JFULL, F.HIF_DUPCNT.COUNT, F.ATU_STAT.NHELD]

/-- HIF without what the pumps touch: transfers, buffers read, fault records, PME told, messages due, returns to D0. -/
def HifSt.besidePumps (h : HifSt) : HifSt := { h with xf := [], rbuf := [], fheld := [], pmeSent := [], due := [], back := [] }

/-- From `c` to `d` the rings have gone on: only `pumpFlds` of the registers differ; transfers only join; sources only assert. -/
structure Core.Pumped (c d : Core) : Prop where
  fields : fieldsOnly pumpFlds c d
  hif : d.hif.besidePumps = c.hif.besidePumps
  xf : ∃ l, d.hif.xf = c.hif.xf ++ l ∧ ∀ x ∈ l, x.stalled = false
  cross : c.irq.cross ⊆ d.irq.cross

theorem Core.Pumped.refl (c : Core) : c.Pumped c := ⟨fieldsOnly_refl _ c, rfl, ⟨[], (List.append_nil _).symm, by simp⟩, List.Subset.refl _⟩

theorem Core.Pumped.trans {c d e : Core} (h : c.Pumped d) (g : d.Pumped e) : c.Pumped e := by
  obtain ⟨l, hl, hfree⟩ := h.xf
  obtain ⟨m, hm, hfree'⟩ := g.xf
  refine ⟨fieldsOnly_trans h.fields g.fields, g.hif.trans h.hif, ⟨l ++ m, by rw [hm, hl, List.append_assoc], ?_⟩, List.Subset.trans h.cross g.cross⟩
  intro x hx
  exact (List.mem_append.mp hx).elim (hfree x) (hfree' x)

theorem Core.Pumped.men {c d : Core} (h : c.Pumped d) : d.hif.men = c.hif.men :=
  calc d.hif.men = d.hif.besidePumps.men := rfl
    _ = c.hif.men := by rw [h.hif]; rfl

theorem pumped_wr (c : Core) {f : Fld} (v : Nat) (hf : f ∈ pumpFlds) : c.Pumped (c.wr f v) :=
  ⟨fieldsOnly_wr (fieldsOnly_refl _ c) hf, rfl, ⟨[], (List.append_nil _).symm, by simp⟩, List.Subset.refl _⟩

/-- A change of HIF beside the transfers that wait. -/
theorem pumped_hif {c : Core} {h : HifSt} (hb : h.besidePumps = c.hif.besidePumps) (hx : h.xf = c.hif.xf) : c.Pumped { c with hif := h } :=
  ⟨fieldsOnly_csr rfl, hb, ⟨[], by simp [hx], by simp⟩, List.Subset.refl _⟩

theorem pumped_raise (c : Core) (n src prim : Nat) : c.Pumped (c.raise n src prim) :=
  ⟨fieldsOnly_csr rfl, rfl, ⟨[], (List.append_nil _).symm, by simp⟩, List.subset_append_left _ _⟩

theorem pumped_send (c : Core) (o : Out) : c.Pumped (c.send o) := by
  unfold Core.send
  split
  · exact .refl c
  · exact ⟨fieldsOnly_csr rfl, rfl, ⟨[], (List.append_nil _).symm, by simp⟩, List.Subset.refl _⟩

theorem pumped_pushXf {x : Xfer} (c : Core) (hx : x.stalled = false) : c.Pumped (pushXf x c) :=
  ⟨fieldsOnly_csr rfl, rfl, ⟨[x], rfl, by simp [hx]⟩, List.Subset.refl _⟩

theorem pumped_foldl {α : Type} {f : Core → α → Core} (hf : ∀ (c : Core) (a : α), c.Pumped (f c a)) (l : List α) (c : Core) : c.Pumped (l.foldl f c) := by
  induction l generalizing c with
  | nil => exact .refl c
  | cons a l ih => exact (hf c a).trans (ih (f c a))

theorem pumped_pmeSend (fn : Nat) (c : Core) : c.Pumped (pmeSend fn c) := by
  unfold pmeSend
  split
  · refine .trans ?_ (pumped_send _ _)
    exact pumped_hif rfl rfl
  · exact .refl c

theorem pumped_vectorsAgain (fn : Nat) (q : NC) : q.2.Pumped (vectorsAgain fn q) :=
  pumped_foldl (fun c p => by dsimp only; split; exacts [pumped_hif rfl rfl, .refl c]) _ _

theorem pumped_jShow (q : NC) : q.2.Pumped (jShow q).2 :=
  ((pumped_wr _ _ (by simp [pumpFlds])).trans (pumped_wr _ _ (by simp [pumpFlds]))).trans (pumped_wr _ _ (by simp [pumpFlds]))

/-! ### The journal -/

/-- What a record keeps while its command executes, ends and is told to the host. -/
def JRec.lasting (j : JRec) : JRec := { j with stg := 0, run := false, wait := 0, status := 0, result := 0, fin := 0, cidx := 0, busy := false }

/-- From `q` to `r` the rings have gone on: the records of rings that stand stay, as what lasts of them. -/
structure PumpRun (q r : NC) : Prop where
  nv : r.1 = { q.1 with jrec := r.1.jrec }
  core : q.2.Pumped r.2
  lasting : ∀ k ∈ q.1.jrec, k.gone = false → ∃ k' ∈ r.1.jrec, k'.lasting = k.lasting

theorem PumpRun.refl (q : NC) : PumpRun q q := ⟨rfl, .refl _, fun k hk _ => ⟨k, hk, rfl⟩⟩

theorem JRec.gone_of_lasting {j k : JRec} (h : j.lasting = k.lasting) : j.gone = k.gone :=
  calc j.gone = j.lasting.gone := rfl
    _ = k.gone := by rw [h]; rfl

theorem PumpRun.trans {q r t : NC} (h : PumpRun q r) (g : PumpRun r t) : PumpRun q t := by
  refine ⟨g.nv.trans (by rw [h.nv]), h.core.trans g.core, fun k hk hgone => ?_⟩
  obtain ⟨k1, hk1, hl1⟩ := h.lasting k hk hgone
  obtain ⟨k2, hk2, hl2⟩ := g.lasting k1 hk1 ((JRec.gone_of_lasting hl1).trans hgone)
  exact ⟨k2, hk2, hl2.trans hl1⟩

theorem PumpRun.of_core {nv : NvSt} {c d : Core} (h : c.Pumped d) : PumpRun (nv, c) (nv, d) := ⟨rfl, h, fun k hk _ => ⟨k, hk, rfl⟩⟩

theorem pumpRun_foldl {α : Type} {f : NC → α → NC} (hf : ∀ q a, PumpRun q (f q a)) (l : List α) (q : NC) : PumpRun q (l.foldl f q) := by
  induction l generalizing q with
  | nil => exact .refl q
  | cons a l ih => exact (hf q a).trans (ih (f q a))

theorem pumpRun_times {f : Nat → NC → NC} (hf : ∀ k q, PumpRun q (f k q)) (n : Nat) (q : NC) : PumpRun q (times f n q) := by
  induction n generalizing q with
  | zero => exact .refl q
  | succ n ih => exact (hf n q).trans (ih (f n q))

theorem lasting_updFirst {p : JRec → Bool} {f : JRec → JRec} (hf : ∀ j, (f j).lasting = j.lasting) {l : List JRec} {k : JRec} (hk : k ∈ l) :
    ∃ k' ∈ updFirst p f l, k'.lasting = k.lasting :=
  (mem_updFirst (p := p) (f := f) hk).elim (fun h => ⟨k, h, rfl⟩) fun h => ⟨f k, h, hf k⟩

theorem pumped_finish (r sidx status result : Nat) (q : NC) : q.2.Pumped (finish r sidx status result q).2 := by
  unfold finish
  dsimp only
  refine .trans ?_ (pumped_jShow _)
  have hcount : ∀ c : Core, c.Pumped (if status = 1 then c.cntSat F.HIF_DUPCNT.COUNT else c) := by
    intro c
    split
    · exact pumped_wr _ _ (by simp [pumpFlds])
    · exact .refl c
  have htold : ∀ (b : Bool) (c : Core) (fn : Nat), c.Pumped (if b then c else pmeSend fn (c.raise 12 r sidx)) := by
    intro b c fn
    split
    · exact .refl c
    · exact (pumped_raise _ _ _ _).trans (pumped_pmeSend _ _)
  refine .trans ?_ (htold _ _ _)
  refine .trans ?_ (hcount _)
  exact pumped_hif rfl rfl

theorem pumpRun_finish (r sidx status result : Nat) (q : NC) : PumpRun q (finish r sidx status result q) := by
  refine ⟨rfl, pumped_finish r sidx status result q, fun k hk hgone => ?_⟩
  rw [finish_jrec]
  obtain ⟨k', hk', hl⟩ := lasting_updFirst (p := fun j => j.ring == r && j.sidx == sidx && j.stg == 0)
    (f := JRec.finished status result (q.1.lastFin + 1)) (fun _ => rfl) hk
  exact ⟨k', List.mem_filter.mpr ⟨hk', by simp [(JRec.gone_of_lasting hl).trans hgone]⟩, hl⟩

/-! ### The pumps -/

theorem pumpRun_advance1 (r : Nat) (q : NC) : PumpRun q (advance1 r q) := by
  unfold advance1
  split
  · exact .refl q
  · split
    · exact .refl q
    · split
      · exact pumpRun_finish _ _ _ _ q
      · split
        · exact pumpRun_finish _ _ _ _ q
        · split
          · exact .of_core (pumped_pushXf _ rfl)
          · exact .refl q

theorem pumpRun_complPump (r : Nat) (q : NC) : PumpRun q (complPump r q) := by
  unfold complPump
  split
  · exact .refl q
  · split
    · exact .refl q
    · refine ⟨rfl, pumped_pushXf _ rfl, fun k hk _ => ?_⟩
      exact lasting_updFirst (f := fun x => { x with busy := true, cidx := q.2.rmod r }) (fun _ => rfl) hk

theorem pumpRun_eventPump (q : NC) : PumpRun q (eventPump q) := by
  unfold eventPump
  dsimp only
  split
  · exact .refl q
  · split
    · exact .of_core (pumped_pmeSend _ _)
    · split
      · exact .refl q
      · exact .of_core (pumped_pushXf _ rfl)

theorem pumpRun_faultPump (q : NC) : PumpRun q (faultPump q) := by
  unfold faultPump
  dsimp only
  split
  · exact .refl q
  · split
    · exact .refl q
    · refine .of_core (.trans ?_ (pumped_wr _ _ (f := F.ATU_STAT.NHELD) (by simp [pumpFlds])))
      refine .trans ?_ (pumped_pushXf _ rfl)
      exact pumped_hif rfl rfl

theorem pumpRun_fetchPump (r : Nat) (q : NC) : PumpRun q (fetchPump r q) := by
  unfold fetchPump
  dsimp only
  split
  · exact .of_core (pumped_pushXf _ rfl)
  · exact .refl q

theorem pumpRun_backPump (q : NC) : PumpRun q (backPump q) :=
  pumpRun_foldl (fun q fn => by
    split
    · exact .of_core ((pumped_vectorsAgain fn q).trans (pumped_hif rfl rfl))
    · exact .refl q) _ q

theorem pumpRun_hifPump (q : NC) : PumpRun q (hifPump q) := by
  unfold hifPump
  split
  · exact .refl q
  · have hrings := pumpRun_foldl (f := fun q (p : Nat × JRing) => complPump p.1 (advance p.1 (fetchPump p.1 q)))
      (fun q p => ((pumpRun_fetchPump p.1 q).trans (pumpRun_times (fun _ q => pumpRun_advance1 p.1 q) _ _)).trans (pumpRun_complPump p.1 _)) q.1.jring q
    exact ((hrings.trans (pumpRun_eventPump _)).trans (pumpRun_faultPump _)).trans (pumpRun_backPump _)

end Sys2Proof.Machine
end

section
/-! PROOF. O3, O4, O55: what the steps before a reset may change (R517), and the resettable part after it (R519). -/

namespace Sys2Proof.Machine

/-! ### PROT and the trace through a step (R517) -/

@[simp] theorem Core.wr2_prot (c : Core) (lo hi : Fld) (v : Nat) : (c.wr2 lo hi v).prot = c.prot := rfl
@[simp] theorem Core.wr2_out (c : Core) (lo hi : Fld) (v : Nat) : (c.wr2 lo hi v).out = c.out := rfl
@[simp] theorem Core.wrB_prot (c : Core) (f : Fld) (b : Bool) : (c.wrB f b).prot = c.prot := rfl
@[simp] theorem Core.wrB_out (c : Core) (f : Fld) (b : Bool) : (c.wrB f b).out = c.out := rfl
@[simp] theorem Core.cntSat_prot (c : Core) (f : Fld) (n : Nat) : (c.cntSat f n).prot = c.prot := rfl
@[simp] theorem Core.cntSat_out (c : Core) (f : Fld) (n : Nat) : (c.cntSat f n).out = c.out := rfl
@[simp] theorem Core.when_prot (c : Core) (b : Bool) (f : Core → Core) : (c.when b f).prot = if b then (f c).prot else c.prot := by cases b <;> rfl
@[simp] theorem Core.when_out (c : Core) (b : Bool) (f : Core → Core) : (c.when b f).out = if b then (f c).out else c.out := by cases b <;> rfl
@[simp] theorem ite_prot (p : Prop) [Decidable p] (c d : Core) : (if p then c else d).prot = if p then c.prot else d.prot := by split <;> rfl
@[simp] theorem ite_out (p : Prop) [Decidable p] (c d : Core) : (if p then c else d).out = if p then c.out else d.out := by split <;> rfl

/-- PROT and the trace stand. -/
def Core.pinsKept (c d : Core) : Prop := d.prot = c.prot ∧ d.out = c.out

theorem foldl_pins {α : Type} {f : Core → α → Core} (hf : ∀ (c : Core) (a : α), c.pinsKept (f c a)) (l : List α) (c : Core) : c.pinsKept (l.foldl f c) := by
  induction l generalizing c with
  | nil => exact ⟨rfl, rfl⟩
  | cons a l ih =>
    obtain ⟨hprot, hout⟩ := ih (f c a)
    exact ⟨hprot.trans (hf c a).1, hout.trans (hf c a).2⟩

@[simp] theorem clearCause_pins (f : Fld) (bits present : Nat) (c : Core) :
    (clearCause f bits present c).prot = c.prot ∧ (clearCause f bits present c).out = c.out := by
  unfold clearCause
  dsimp only
  split <;> exact ⟨rfl, rfl⟩

@[simp] theorem tripEnd_pins (c : Core) : (tripEnd c).prot = c.prot ∧ (tripEnd c).out = c.out := by
  unfold tripEnd
  split <;> exact ⟨rfl, rfl⟩

@[simp] theorem clearTrip0_pins (w : Nat) (c : Core) : (clearTrip0 w c).prot = c.prot ∧ (clearTrip0 w c).out = c.out := by simp [clearTrip0]
@[simp] theorem clearTrip1_pins (w : Nat) (c : Core) : (clearTrip1 w c).prot = c.prot ∧ (clearTrip1 w c).out = c.out := by simp [clearTrip1]

@[simp] theorem cteShow_pins (c : Core) : (cteShow c).prot = c.prot ∧ (cteShow c).out = c.out := by
  unfold cteShow
  dsimp only
  split <;> split <;> exact ⟨rfl, rfl⟩

@[simp] theorem pmWrite_pins (v : Nat) (c : Core) : (pmWrite v c).prot = c.prot ∧ (pmWrite v c).out = c.out := by
  unfold pmWrite
  dsimp only
  split
  · exact ⟨rfl, rfl⟩
  · simp only [ite_prot, ite_out, cteShow_pins]
    exact ⟨ite_self _, ite_self _⟩

@[simp] theorem dmWrite_pins (v : Nat) (c : Core) : (dmWrite v c).prot = c.prot ∧ (dmWrite v c).out = c.out := by
  unfold dmWrite
  dsimp only
  split
  · exact ⟨rfl, rfl⟩
  · split <;> exact ⟨rfl, rfl⟩

@[simp] theorem accViol_pins (m : Master) (kind off : Nat) (c : Core) :
    (accViol m kind off c).prot = c.prot ∧ (accViol m kind off c).out = c.out := ⟨rfl, rfl⟩

theorem ctlApply_pins (c : Core) (w : PWrite) : c.pinsKept (ctlApply c w) := by simp [Core.pinsKept, ctlApply, Core.apply]

@[simp] theorem redShow_pins (c : Core) : (redShow c).prot = c.prot ∧ (redShow c).out = c.out := ⟨rfl, rfl⟩
@[simp] theorem toldNothing_pins (c : Core) : (toldNothing c).prot = c.prot ∧ (toldNothing c).out = c.out := ⟨rfl, rfl⟩
@[simp] theorem sbyValid_pins (v : Bool) (c : Core) : (sbyValid v c).prot = c.prot ∧ (sbyValid v c).out = c.out := by simp [sbyValid]
@[simp] theorem sbyCheck_pins (c : Core) : (sbyCheck c).prot = c.prot ∧ (sbyCheck c).out = c.out := by simp [sbyCheck]
@[simp] theorem handover_pins (cause : Nat) (c : Core) : (handover cause c).prot = c.prot ∧ (handover cause c).out = c.out := by simp [handover]

@[simp] theorem txStart_pins (c : Core) : (txStart c).prot = c.prot ∧ (txStart c).out = c.out := by
  unfold txStart
  split
  · exact ⟨rfl, rfl⟩
  · split <;> exact ⟨rfl, rfl⟩

@[simp] theorem txFailed_pins (c : Core) : (txFailed c).prot = c.prot ∧ (txFailed c).out = c.out := by
  unfold txFailed
  split <;> simp

@[simp] theorem roleMark_pins (cause : Nat) (c : Core) : (roleMark cause c).prot = c.prot ∧ (roleMark cause c).out = c.out := ⟨rfl, rfl⟩
@[simp] theorem takeRest_pins (c : Core) : (takeRest c).prot = c.prot ∧ (takeRest c).out = c.out := ⟨rfl, rfl⟩
@[simp] theorem handoverOff_pins (c : Core) : (handoverOff c).prot = c.prot ∧ (handoverOff c).out = c.out := by simp [handoverOff, mirrorInit, pwmSafe]

/-- PROT stands, and the trace only grows. -/
structure Core.PinsRun (c d : Core) : Prop where
  prot : d.prot = c.prot
  out : c.out ⊆ d.out

theorem Core.PinsRun.refl (c : Core) : c.PinsRun c := ⟨rfl, List.Subset.refl _⟩
theorem Core.PinsRun.trans {c d e : Core} (h : c.PinsRun d) (g : d.PinsRun e) : c.PinsRun e := ⟨g.prot.trans h.prot, List.Subset.trans h.out g.out⟩
theorem Core.PinsRun.of_eq {c d : Core} (hp : d.prot = c.prot) (ho : d.out = c.out) : c.PinsRun d := ⟨hp, ho ▸ List.Subset.refl _⟩
theorem Core.pinsKept.run {c d : Core} (h : c.pinsKept d) : c.PinsRun d := .of_eq h.1 h.2

theorem pinsRun_send (c : Core) (o : Out) : c.PinsRun (c.send o) := by
  unfold Core.send
  split
  · exact .refl c
  · exact ⟨rfl, List.subset_cons_self _ _⟩

theorem pinsRun_frameFill (f : TickFrame) (q : NC) : q.2.PinsRun (frameFill f q).2 := by
  unfold frameFill
  dsimp only
  refine .trans ?_ (pinsRun_send _ _)
  exact .of_eq rfl rfl

theorem pinsRun_redSend (q : NC) : q.2.PinsRun (redSend q).2 := by
  have hcheck : ∀ c : Core, c.PinsRun (sbyCheck c) := fun c => .of_eq (sbyCheck_pins c).1 (sbyCheck_pins c).2
  unfold redSend
  dsimp only
  split
  · exact .refl _
  · split
    · split
      · exact .of_eq rfl rfl
      · exact .of_eq rfl rfl
    · split
      · refine .trans (.trans ?_ (pinsRun_send _ _)) (hcheck _)
        exact .of_eq rfl rfl
      · refine .trans (.trans ?_ (pinsRun_frameFill _ _)) (hcheck _)
        exact .of_eq rfl rfl

/-! ### The memories and PROT through the steps before a reset -/

/-- From `q` to `r` only the journal changes of the memories, and PROT keeps its inputs. -/
structure JournalRun (q r : NC) : Prop where
  nv : r.1 = { q.1 with jrec := r.1.jrec, jring := r.1.jring }
  core : q.2.PinsRun r.2

theorem JournalRun.refl (q : NC) : JournalRun q q := ⟨rfl, .refl _⟩

theorem JournalRun.trans {q r t : NC} (h : JournalRun q r) (g : JournalRun r t) : JournalRun q t :=
  ⟨g.nv.trans (by rw [h.nv]), h.core.trans g.core⟩

/-- From `q` to `r` the event memory and the learned values may change too. -/
structure StepsRun (q r : NC) : Prop where
  nv : r.1 = { q.1 with jrec := r.1.jrec, jring := r.1.jring, recs := r.1.recs, est0 := r.1.est0, est1 := r.1.est1 }
  core : q.2.PinsRun r.2

theorem StepsRun.refl (q : NC) : StepsRun q q := ⟨rfl, .refl _⟩

theorem StepsRun.trans {q r t : NC} (h : StepsRun q r) (g : StepsRun r t) : StepsRun q t :=
  ⟨g.nv.trans (by rw [h.nv]), h.core.trans g.core⟩

theorem StepsRun.of_core {nv : NvSt} {c d : Core} (h : c.PinsRun d) : StepsRun (nv, c) (nv, d) := ⟨rfl, h⟩

theorem JournalRun.steps {q r : NC} (h : JournalRun q r) : StepsRun q r := ⟨by rw [h.nv], h.core⟩

theorem journalRun_foldl {α : Type} {f : NC → α → NC} (hf : ∀ q a, JournalRun q (f q a)) (l : List α) (q : NC) : JournalRun q (l.foldl f q) := by
  induction l generalizing q with
  | nil => exact .refl q
  | cons a l ih => exact (hf q a).trans (ih (f q a))

theorem stepsRun_times {f : Nat → NC → NC} (hf : ∀ k q, StepsRun q (f k q)) (n : Nat) (q : NC) : StepsRun q (times f n q) := by
  induction n generalizing q with
  | zero => exact .refl q
  | succ n ih => exact (hf n q).trans (ih (f n q))

theorem pinsRun_pmeSend (fn : Nat) (c : Core) : c.PinsRun (pmeSend fn c) := by
  unfold pmeSend
  split
  · refine .trans ?_ (pinsRun_send _ _)
    exact .of_eq rfl rfl
  · exact .refl c

theorem pinsRun_jShow (q : NC) : q.2.PinsRun (jShow q).2 := .of_eq rfl rfl

theorem pinsRun_finish (r sidx status result : Nat) (q : NC) : q.2.PinsRun (finish r sidx status result q).2 := by
  have htold : ∀ (b : Bool) (c : Core) (fn : Nat), c.PinsRun (if b then c else pmeSend fn (c.raise 12 r sidx)) := by
    intro b c fn
    split
    · exact .refl c
    · refine .trans ?_ (pinsRun_pmeSend _ _)
      exact .of_eq rfl rfl
  have hcount : ∀ c : Core, c.PinsRun (if status = 1 then c.cntSat F.HIF_DUPCNT.COUNT else c) := by
    intro c
    split <;> exact .of_eq rfl rfl
  unfold finish
  dsimp only
  refine .trans ?_ (pinsRun_jShow _)
  refine .trans ?_ (htold _ _ _)
  refine .trans ?_ (hcount _)
  exact .of_eq rfl rfl

theorem journalRun_finish (r sidx status result : Nat) (q : NC) : JournalRun q (finish r sidx status result q) := ⟨rfl, pinsRun_finish r sidx status result q⟩

theorem journalRun_listEnd (j : JRec) (q : NC) : JournalRun q (listEnd j q).1 := by
  refine ⟨rfl, .trans ?_ (foldl_pins ctlApply_pins _ _).run⟩
  exact .of_eq rfl rfl

theorem journalRun_stepsEnd (q : NC) : JournalRun q (stepsEnd q) := by
  refine journalRun_foldl (fun q j => ?_) _ q
  dsimp only
  have hlist : JournalRun q (if j.op = 19 then listEnd j q else (q, j)).1 := by
    split
    · exact journalRun_listEnd j q
    · exact .refl q
  split
  · exact hlist.trans (journalRun_finish ..)
  · exact hlist

theorem pinsRun_saveTrigger (cause : Nat) (c : Core) : c.PinsRun (saveTrigger cause c) := by
  unfold saveTrigger
  split <;> exact .of_eq rfl rfl

theorem stepsRun_saveComplete (a : AonSt) (nv : NvSt) (c : Core) : StepsRun (nv, c) (saveComplete a nv c) := by
  unfold saveComplete
  dsimp only
  split
  · exact .refl _
  · split <;> exact ⟨rfl, .of_eq rfl rfl⟩

theorem pinsRun_evSequence (a : AonSt) (p : PwrSt) (c : Core) : c.PinsRun (evSequence a p c) := by
  unfold evSequence
  split
  · exact .refl c
  · split
    · exact .refl c
    · exact .of_eq rfl rfl

theorem stepsRun_evrWrite (r : Rec) (high : Nat) (q : NC) : StepsRun q (evrWrite r high q) := by
  refine ⟨rfl, ?_⟩
  unfold evrWrite
  dsimp only
  split <;> split <;> exact .of_eq rfl rfl

theorem stepsRun_evrNew (e : SeqEv) (q : NC) : StepsRun q (evrNew e q) := (stepsRun_evrWrite _ _ q).trans (.of_core (.of_eq rfl rfl))

theorem stepsRun_evrMerge (i : Nat) (e : SeqEv) (q : NC) : StepsRun q (evrMerge i e q) := by
  unfold evrMerge
  dsimp only
  split
  · refine .trans ?_ (stepsRun_evrNew e _)
    exact ⟨rfl, .refl _⟩
  · exact ⟨rfl, .of_eq rfl rfl⟩

theorem stepsRun_evrRecord (a : AonSt) (nv : NvSt) (c : Core) : StepsRun (nv, c) (evrRecord a nv c) := by
  unfold evrRecord
  dsimp only
  split
  · exact stepsRun_evrWrite ..
  · split
    · exact .refl _
    · split
      · refine .trans ?_ (stepsRun_evrMerge ..)
        exact .of_core (.of_eq rfl rfl)
      · refine .trans ?_ (stepsRun_evrNew ..)
        exact .of_core (.of_eq rfl rfl)

theorem stepsRun_evFlush (a : AonSt) (p : PwrSt) (q : NC) : StepsRun q (evFlush a p q) := by
  unfold evFlush
  have hseq : ∀ n, q.2.PinsRun (times (fun _ c => evSequence a p c) n q.2) := by
    intro n
    generalize q.2 = c
    induction n generalizing c with
    | zero => exact .refl c
    | succ n ih => exact (pinsRun_evSequence a p c).trans (ih _)
  exact .trans (.of_core (hseq _)) (stepsRun_times (fun _ x => stepsRun_evrRecord a x.1 x.2) _ _)

theorem pinsRun_ringState (r st : Nat) (c : Core) : c.PinsRun (ringState r st c) := by
  unfold ringState
  split
  · exact .refl c
  · exact .of_eq (by simp) (by simp)

theorem journalRun_freezeRing (ops r : Nat) (q : NC) : JournalRun q (freezeRing ops r q) := by
  unfold freezeRing
  dsimp only
  split
  · exact .refl q
  · split <;>
    · refine ⟨rfl, ?_⟩
      refine .trans ?_ (pinsRun_jShow _)
      refine .trans ?_ (pinsRun_ringState r 4 _)
      exact .of_eq rfl rfl

theorem journalRun_freezeAll (ops : Nat) (q : NC) : JournalRun q (freezeAll ops q) :=
  journalRun_foldl (fun q (p : Nat × JRing) => journalRun_freezeRing ops p.1 q) _ q

theorem journalRun_recsIdle (q : NC) : JournalRun q (recsIdle q.1, q.2) := ⟨rfl, .refl _⟩

/-- R397, R405, R533: what a reset does to the memories and to PROT; of the update it discards an upload alone. -/
theorem journalReset_kept (a : AonSt) (q : NC) :
    JournalRun ({ q.1 with upd := (uploadLost q.1).upd }, q.2) (journalReset a q) := by
  have hupl : uploadLost q.1 = { q.1 with upd := (uploadLost q.1).upd } := by
    unfold uploadLost
    split <;> rfl
  rw [← hupl]
  unfold journalReset
  exact (journalRun_freezeAll a.ops (uploadLost q.1, q.2)).trans (journalRun_recsIdle _)

/-! ### The steps of a reset and what it asserts (R517, R519) -/

/-- Step 1 of R517: with a valid standby the active module hands its role over. -/
def stepsOff (dog : Bool) (s : State) : Core :=
  if !dog && s.core.active && s.core.on F.RED_STAT.SBYVALID then handoverOff (redSend (s.nv, handover 2 s.core)).2 else s.core

/-- What the commands in execution leave, with the gates off. -/
def stepsGates (dog : Bool) (s : State) : NC := stepsEnd (s.nv, pwmSafe (stepsOff dog s))

/-- The state of the memories and the resettable part behind the save that is under way. -/
def stepsSaved (dog : Bool) (s : State) : NC := saveComplete s.aon (stepsGates dog s).1 (stepsGates dog s).2

/-- Step 4 of R517 begins the save of the reset itself. -/
def stepsTrigger (q : NC) : NC := (q.1, saveTrigger 4 { q.2 with est := { q.2.est with saving := none } })

theorem resetSteps_dog (s : State) : resetSteps true s =
    { s with nv := (stepsEnd (stepsSaved true s)).1, core := (stepsEnd (stepsSaved true s)).2 } := rfl

/-- The steps behind the first save, where no watchdog asks for the reset. -/
def stepsLast (s : State) : NC :=
  let q := stepsTrigger (stepsSaved false s)
  stepsEnd (saveComplete s.aon q.1 q.2)

theorem resetSteps_full (s : State) : resetSteps false s =
    { s with nv := (evFlush s.aon s.pwr (stepsLast s)).1, core := (evFlush s.aon s.pwr (stepsLast s)).2 } := rfl

theorem pinsRun_stepsOff (dog : Bool) (s : State) : s.core.PinsRun (stepsOff dog s) := by
  unfold stepsOff
  split
  · have hask : s.core.PinsRun (handover 2 s.core) := .of_eq (handover_pins 2 s.core).1 (handover_pins 2 s.core).2
    exact .trans (.trans hask (pinsRun_redSend (s.nv, handover 2 s.core))) (.of_eq (handoverOff_pins _).1 (handoverOff_pins _).2)
  · exact .refl _

theorem stepsRun_stepsGates (dog : Bool) (s : State) : StepsRun (s.nv, s.core) (stepsGates dog s) := by
  have hgates : StepsRun (s.nv, s.core) (s.nv, pwmSafe (stepsOff dog s)) := .of_core ((pinsRun_stepsOff dog s).trans (.of_eq rfl rfl))
  exact hgates.trans (journalRun_stepsEnd _).steps

theorem stepsRun_stepsSaved (dog : Bool) (s : State) : StepsRun (s.nv, s.core) (stepsSaved dog s) :=
  .trans (stepsRun_stepsGates dog s) (stepsRun_saveComplete s.aon _ _)

theorem stepsRun_stepsTrigger (q : NC) : StepsRun q (stepsTrigger q) := by
  have hfresh : q.2.PinsRun { q.2 with est := { q.2.est with saving := none } } := .of_eq rfl rfl
  exact .of_core (hfresh.trans (pinsRun_saveTrigger 4 _))

theorem stepsRun_stepsLast (s : State) : StepsRun (s.nv, s.core) (stepsLast s) := by
  have hsave := ((stepsRun_stepsSaved false s).trans (stepsRun_stepsTrigger _)).trans (stepsRun_saveComplete s.aon _ _)
  exact hsave.trans (journalRun_stepsEnd _).steps

theorem resetSteps_kept (dog : Bool) (s : State) : StepsRun (s.nv, s.core) ((resetSteps dog s).nv, (resetSteps dog s).core) := by
  cases dog
  case true =>
    rw [resetSteps_dog]
    exact (stepsRun_stepsSaved true s).trans (journalRun_stepsEnd _).steps
  case false =>
    rw [resetSteps_full]
    exact (stepsRun_stepsLast s).trans (stepsRun_evFlush s.aon s.pwr _)

/-- Nothing but the memories and the resettable part goes through the steps. -/
theorem resetSteps_eq (dog : Bool) (s : State) : resetSteps dog s = { s with nv := (resetSteps dog s).nv, core := (resetSteps dog s).core } := by
  cases dog <;> rfl

/-- R517, R522: a device reset that nothing prevents. -/
theorem deviceReset_runs {code : Nat} {dog : Bool} {s : State} (hup : s.up) (hp : s.pwr.pcycLow = false) :
    deviceReset code dog s = resetAssert code (resetSteps dog s) := by
  obtain ⟨hvin, hheld⟩ := hup
  simp [deviceReset, hvin, hheld, hp]

/-- R522: none is performed while PCYC_N is low. -/
theorem deviceReset_low {code : Nat} {dog : Bool} {s : State} (hp : s.pwr.pcycLow = true) : deviceReset code dog s = s := by simp [deviceReset, hp]

/-- R519: what a reset keeps of the registers: the reset history, the time bases of the always-on section, the levels that stand at pins, and the
check value of the active set. -/
def resetFlds : List Fld :=
  [F.GLB_RSTCAUSE.LAST, F.GLB_RSTCAUSE.PCYCREQ, F.GLB_RSTCAUSE.PCYCFAIL, F.GLB_RSTCAUSE.WDCNT, F.GLB_RSTCAUSE.DEVCNT, F.TICK_OPS_LO.OPS, F.TICK_OPS_HI.OPS,
    F.TICK_PWRCYC.PWRCYC, F.RED_STAT.GNT, F.SVC_STAT.ATTACH, F.CHN_TONE.TONEA, F.CHN_TONE.TONEB, F.SAFM_CV_ACT.CV]

theorem coreReset_rd (a : AonSt) (p : PwrSt) (l : LineSt) (cv : Nat) (c : Core) {f : Fld} (hf : ∀ g ∈ resetFlds, f.key ≠ g.key) :
    (coreReset a p l cv c).rd f = f.reset := by
  have hwrites : fieldsOnly resetFlds ({} : Core) (coreReset a p l cv c) := by
    unfold coreReset causeShow opsShow
    repeat' refine fieldsOnly_wr ?_ (by simp [resetFlds])
    exact fieldsOnly_csr rfl
  exact hwrites f hf

/-- R519: stage 0 runs after a reset, no write is held, and the ticks stand. -/
theorem coreReset_stage (a : AonSt) (p : PwrSt) (l : LineSt) (cv : Nat) (c : Core) : (coreReset a p l cv c).rd F.GLB_BOOT.STAGE = 0 :=
  coreReset_rd a p l cv c (by decide)

theorem coreReset_last (a : AonSt) (p : PwrSt) (l : LineSt) (cv : Nat) (c : Core) :
    (coreReset a p l cv c).rd F.GLB_RSTCAUSE.LAST = p.restart % 2 ^ F.GLB_RSTCAUSE.LAST.width := by
  simp (disch := decide) only [coreReset, causeShow, opsShow, Core.wrB, Core.wr2, Core.rd_wr_same, Core.rd_wr_ne]

theorem coreReset_pcycFail (a : AonSt) (p : PwrSt) (l : LineSt) (cv : Nat) (c : Core) :
    (coreReset a p l cv c).rd F.GLB_RSTCAUSE.PCYCFAIL = b2n p.pcycFail % 2 ^ F.GLB_RSTCAUSE.PCYCFAIL.width := by
  simp (disch := decide) only [coreReset, causeShow, opsShow, Core.wrB, Core.wr2, Core.rd_wr_same, Core.rd_wr_ne]

theorem coreReset_ops (a : AonSt) (p : PwrSt) (l : LineSt) (cv : Nat) (c : Core) : (coreReset a p l cv c).rd F.TICK_OPS_LO.OPS = a.ops % 2 ^ 32 := by
  simp (disch := decide) only [coreReset, causeShow, opsShow, Core.wrB, Core.wr2, Core.rd_wr_same, Core.rd_wr_ne]
  rfl

theorem coreReset_cvAct (a : AonSt) (p : PwrSt) (l : LineSt) (cv : Nat) (c : Core) : (coreReset a p l cv c).rd F.SAFM_CV_ACT.CV = cv % 2 ^ 32 := by
  simp (disch := decide) only [coreReset, causeShow, opsShow, Core.wrB, Core.wr2, Core.rd_wr_same, Core.rd_wr_ne]
  rfl

theorem coreReset_wait (a : AonSt) (p : PwrSt) (l : LineSt) (cv : Nat) (c : Core) : (coreReset a p l cv c).wait = [] := rfl
theorem coreReset_running (a : AonSt) (p : PwrSt) (l : LineSt) (cv : Nat) (c : Core) : (coreReset a p l cv c).tick.running = false := rfl

/-- The parts of the machine that no reset reaches: the always-on section, the line interface, the safety channels, the queue. -/
structure State.SameFixed (s t : State) : Prop where
  aon : t.aon = s.aon
  line : t.line = s.line
  saf : t.saf = s.saf
  pending : t.pending = s.pending

/-- R517: a device reset as its code, its count, its resettable part and what it leaves of the memories. -/
structure State.Reset (code : Nat) (s t : State) : Prop extends s.SameFixed t where
  pwr : t.pwr = { s.pwr with restart := code, devCnt := min 65535 (s.pwr.devCnt + 1), kicked := [], warned := false }
  core : ∃ c, t.core = coreReset s.aon t.pwr s.line s.saf.cvAct c
  nv : t.nv = { s.nv with jrec := t.nv.jrec, jring := t.nv.jring, recs := t.nv.recs, est0 := t.nv.est0, est1 := t.nv.est1, upd := (uploadLost s.nv).upd }

theorem resetAssert_reset (code : Nat) (s : State) : s.Reset code (resetAssert code s) :=
  ⟨⟨rfl, rfl, rfl, rfl⟩, rfl, ⟨_, rfl⟩, (journalReset_kept s.aon (s.nv, s.core)).steps.nv⟩

theorem uploadLost_upd {a b : NvSt} (h : a.upd = b.upd) : (uploadLost a).upd = (uploadLost b).upd := by
  unfold uploadLost
  rw [h]
  split
  · simp [NvSt.setUpd, h]
  · exact h

theorem StepsRun.upd {q r : NC} (h : StepsRun q r) : r.1.upd = q.1.upd := by rw [h.nv]

theorem deviceReset_reset {code : Nat} {dog : Bool} {s : State} (hup : s.up) (hp : s.pwr.pcycLow = false) : s.Reset code (deviceReset code dog s) := by
  have hkept := resetSteps_kept dog s
  have hsteps := hkept.nv
  have hupd : (uploadLost (resetSteps dog s).nv).upd = (uploadLost s.nv).upd := uploadLost_upd hkept.upd
  rw [deviceReset_runs hup hp]
  rw [resetSteps_eq] at hupd ⊢
  refine ⟨⟨rfl, rfl, rfl, rfl⟩, rfl, ⟨_, rfl⟩, ((resetAssert_reset code _).nv).trans ?_⟩
  dsimp only at hsteps ⊢
  rw [hupd, hsteps]

/-! ### O55 -/

/-- Settles O55: the resettable part starts anew, and only `resetFlds` are shown in it (R519). -/
theorem deviceResetRegisters : Obligations.DeviceResetRegisters := by
  unfold Obligations.DeviceResetRegisters
  intro s hup hp c hc kept
  obtain ⟨code, hexec⟩ : ∃ code, exec c s = .next (deviceReset code false s) := by
    rcases List.mem_pair.mp hc with rfl | rfl
    · exact ⟨2, rfl⟩
    · exact ⟨3, rfl⟩
  obtain ⟨⟨haon, hline, hsaf, -⟩, -, ⟨d, hcore⟩, hnv⟩ := deviceReset_reset (code := code) (dog := false) hup hp
  refine ⟨_, hexec, fun f hf => ?fields, ?profile, ?wait, ?cv, ?ops, hsaf, hline, haon, ?imgA, ?imgB, ?blc⟩
  case fields => rw [hcore]; exact coreReset_rd _ _ _ _ _ hf
  case profile => rw [hcore]; exact coreReset_rd _ _ _ _ _ (by decide)
  case wait => rw [hcore]; rfl
  case cv => rw [hcore]; exact coreReset_cvAct ..
  case ops => rw [hcore]; exact coreReset_ops ..
  all_goals rw [hnv]

/-! ### O3 -/

/-- R518: PCYC_N goes low, with VIO_A there. -/
theorem head_send_pin (c : Core) (v : Nat) (h : c.prot.vioA = true) : (c.send (.pin pcycPin v)).out.head? = some (.pin 1 v) := by
  rw [Core.send_out _ _ (by simp [Core.muted, h])]
  rfl

theorem powerCycle_runs {dog : Bool} {s : State} (hup : s.up) (hp : s.pwr.pcycLow = false) :
    (powerCycle dog s).pwr = { s.pwr with pcycLow := true } ∧ (s.core.prot.vioA = true → (powerCycle dog s).core.out.head? = some (.pin 1 0)) ∧
      s.SameFixed (powerCycle dog s) := by
  obtain ⟨hvin, hheld⟩ := hup
  have hsteps := resetSteps_eq dog s
  have hprot := (resetSteps_kept dog s).core.prot.trans rfl
  have hjournal := fun x : State => (journalReset_kept x.aon (x.nv, x.core)).core.prot
  unfold powerCycle
  rw [if_neg (by simp [hvin, hheld, hp])]
  refine ⟨?_, fun hvio => head_send_pin _ _ ?_, ?_, ?_, ?_, ?_⟩
  case refine_2 => rw [hjournal]; exact hprot ▸ hvio
  all_goals rw [hsteps]

/-- R522: no reset starts while PCYC_N is low. -/
theorem powerCycle_low {dog : Bool} {s : State} (hp : s.pwr.pcycLow = true) : powerCycle dog s = s := by simp [powerCycle, hp]

theorem watchdogReset_low {s : State} (hp : s.pwr.pcycLow = true) : watchdogReset s = s := by simp [watchdogReset, hp]

/-- R517: what a device reset shows. -/
theorem State.Reset.shows {code : Nat} {s t : State} (h : s.Reset code t) (hcode : code < 8) :
    t.pwr.restart = code ∧ t.pwr.devCnt = min 65535 (s.pwr.devCnt + 1) ∧ t.core.rd F.GLB_RSTCAUSE.LAST = code ∧
      t.core.rd F.GLB_BOOT.STAGE = 0 ∧ t.core.tick.running = false ∧ t.core.wait = [] := by
  obtain ⟨-, hpwr, ⟨c, hcore⟩, -⟩ := h
  have hcode' : t.pwr.restart = code := by rw [hpwr]
  refine ⟨hcode', by rw [hpwr], ?_, ?_, ?_, ?_⟩
  · rw [hcore, coreReset_last, hcode']
    exact Nat.mod_eq_of_lt hcode
  · rw [hcore, coreReset_stage]
  · rw [hcore, coreReset_running]
  · rw [hcore, coreReset_wait]

/-- R518: the fallback of a power cycle. -/
theorem pcycFallback_reset {s : State} (hup : s.up) (hp : s.pwr.pcycLow = true) :
    ({ s with pwr := { s.pwr with pcycLow := false, pcycFail := true } } : State).Reset 2 (pcycFallback s) := by
  obtain ⟨hvin, hheld⟩ := hup
  unfold pcycFallback
  rw [if_pos (by simp [hvin, hheld, hp])]
  obtain ⟨⟨haon, hline, hsaf, hpend⟩, hpwr, hcore, hnv⟩ := resetAssert_reset 2
    { s with pwr := { s.pwr with pcycLow := false, pcycFail := true }, core := s.core.send (.pin pcycPin 1) }
  exact ⟨⟨haon, hline, hsaf, hpend⟩, hpwr, hcore, hnv⟩

/-- R405, R431: no vector of the function stays enabled. -/
theorem flr_men (ops fn : Nat) (q : NC) : ∀ v ∈ (flr ops fn q).2.hif.men, v / 16 ≠ fn := by
  have hforUp : ∀ (n : Nat) (c : Core), (forUp n (fun v c => c.wr (F.HIF_MOD.PENDING (16 * fn + v)) 0) c).hif = c.hif := fun n c =>
    forUp_invariant (P := fun d : Core => d.hif = c.hif) rfl fun _ _ hd => hd
  intro v hv
  unfold flr at hv
  dsimp only at hv
  rw [Core.raise_hif, hforUp] at hv
  simpa using (List.mem_filter.mp hv).2

theorem nvOnly_mk (s : State) (q : NC) : nvOnly s { s with nv := q.1, core := q.2 } := rfl

/-- Settles O3: the clauses on `deviceReset`, `powerCycle` and `pcycFallback` are these of the state machine of R517 and R518. -/
theorem resetCommands : Obligations.ResetCommands := by
  unfold Obligations.ResetCommands
  intro s hup
  refine ⟨fun hp => ⟨_, rfl, ?device⟩, fun hp => ⟨_, rfl, ?hot⟩, fun hp i hi => ?low, fun hp => ⟨_, rfl, ?cycle⟩, fun hp => ⟨_, rfl, ?fallback⟩,
    fun fn => ⟨_, rfl, ?flr⟩⟩
  case device =>
    have h := deviceReset_reset (code := 2) (dog := false) hup hp
    obtain ⟨hrestart, hcnt, hlast, hstage, hrun, hwait⟩ := h.shows (by decide)
    exact ⟨hrestart, hcnt, hlast, hstage, hrun, hwait, h.aon, h.line, h.saf, h.pending⟩
  case hot =>
    have h := deviceReset_reset (code := 3) (dog := false) hup hp
    obtain ⟨hrestart, hcnt, hlast, hstage, hrun, hwait⟩ := h.shows (by decide)
    exact ⟨hrestart, hcnt, hlast, hstage, hrun, hwait, h.aon, h.line, h.saf, h.pending⟩
  case low =>
    simp only [List.mem_cons, List.not_mem_nil, or_false] at hi
    rcases hi with rfl | rfl | rfl | rfl
    · exact ⟨_, rfl, deviceReset_low hp⟩
    · exact ⟨_, rfl, deviceReset_low hp⟩
    · exact ⟨_, rfl, powerCycle_low hp⟩
    · exact ⟨_, rfl, watchdogReset_low hp⟩
  case cycle =>
    obtain ⟨hpwr, hpin, hfixed⟩ := powerCycle_runs (dog := false) hup hp
    exact ⟨hpwr, hpin, hfixed.aon, hfixed.line, hfixed.saf, hfixed.pending⟩
  case fallback =>
    have h := pcycFallback_reset hup hp
    obtain ⟨c, hcore⟩ := h.core
    have hfail : (pcycFallback s).pwr.pcycFail = true := by rw [h.pwr]
    refine ⟨by rw [h.pwr], hfail, by rw [h.pwr], ?_, ?_, h.aon, h.line, h.saf, h.pending⟩
    · rw [hcore, coreReset_pcycFail, hfail]
      rfl
    · rw [hcore, coreReset_stage]
  case flr =>
    rw [onNv_run _ hup.2]
    refine ⟨nvOnly_mk s _, fun v hv => flr_men s.aon.ops fn (s.nv, s.core) v ?_⟩
    dsimp only at hv
    rw [(pumpRun_hifPump _).core.men] at hv
    exact hv

/-! ### O4 -/

/-- R521: the power state once the watchdog has expired: it is counted, with the resets of the last 600 s. -/
def PwrSt.dogSeen (ops : Nat) (p : PwrSt) : PwrSt :=
  { p with wdOps := ops :: p.wdOps.filter (fun o => decide (ops - o ≤ 600000)), wdCnt := min 255 (p.wdCnt + 1) }

/-- R521: the watchdog's reset as a plain one, or as a power cycle at the third within 600 s. -/
theorem watchdogReset_few {s : State} (hup : s.up) (hp : s.pwr.pcycLow = false)
    (hfew : (s.pwr.wdOps.filter fun o => decide (s.aon.ops - o ≤ 600000)).length ≤ 1) :
    ({ s with pwr := s.pwr.dogSeen s.aon.ops } : State).Reset 4 (watchdogReset s) := by
  obtain ⟨hvin, hheld⟩ := hup
  unfold watchdogReset
  rw [if_neg (by simp [hvin, hheld, hp])]
  dsimp only
  rw [if_neg (by rw [List.length_cons]; omega)]
  exact deviceReset_reset ⟨hvin, hheld⟩ hp

theorem watchdogReset_third {s : State} (hup : s.up) (hp : s.pwr.pcycLow = false)
    (hthird : 2 ≤ (s.pwr.wdOps.filter fun o => decide (s.aon.ops - o ≤ 600000)).length) :
    (watchdogReset s).pwr = { s.pwr with wdOps := [], wdCnt := min 255 (s.pwr.wdCnt + 1), pcycLow := true } ∧ s.SameFixed (watchdogReset s) := by
  obtain ⟨hvin, hheld⟩ := hup
  unfold watchdogReset
  rw [if_neg (by simp [hvin, hheld, hp])]
  dsimp only
  rw [if_pos (by rw [List.length_cons]; omega)]
  have h := powerCycle_runs (dog := true)
    (s := { s with pwr := { s.pwr with wdOps := [], wdCnt := min 255 (s.pwr.wdCnt + 1) } }) ⟨hvin, hheld⟩ hp
  exact ⟨h.1, ⟨h.2.2.aon, h.2.2.line, h.2.2.saf, h.2.2.pending⟩⟩

/-- Settles O4: kicks, the warning, the reset and its third time. -/
theorem watchdogCommands : Obligations.WatchdogCommands := by
  unfold Obligations.WatchdogCommands
  intro s
  refine ⟨fun k hheld hnew hlen => ⟨_, rfl, ?joins⟩, fun k hheld hnew hlen => ⟨_, rfl, ?completes⟩, fun hheld hwarn => ⟨_, rfl, ?warns⟩,
    fun hup hp => ⟨_, rfl, ?resets⟩⟩
  case joins =>
    have hfew : ¬ 4 ≤ s.pwr.kicked.length + 1 := by omega
    have hnew' : k ∉ s.pwr.kicked := by simpa using hnew
    simp [watchdogKick, hheld, hnew', hfew]
  case completes =>
    have hnew' : k ∉ s.pwr.kicked := by simpa using hnew
    have hkick : watchdogKick k s = { s with pwr := { s.pwr with kicked := [], warned := false }, core := s.core.cntWrap F.GLB_WDT.KICKS } := by
      simp [watchdogKick, hheld, hnew', hlen]
    rw [hkick]
    exact ⟨rfl, rfl, Core.rd_wr_same _ _ _, fieldsOnly_wr (fieldsOnly_refl _ _) (by simp)⟩
  case warns =>
    have hwarns : watchdogWarning s =
        { s with pwr := { s.pwr with warned := true }, core := (s.core.wr F.GLB_WDT.WARN 1).raise 123 0 (s.core.rd F.GLB_WDT.TMO) } := by
      simp [watchdogWarning, hheld, hwarn]
    rw [hwarns]
    exact ⟨rfl, rfl, (Core.rd_raise _ _ _ _ _).trans (Core.rd_wr_same _ _ _), fieldsOnly_raise (fieldsOnly_wr (fieldsOnly_refl _ _) (by simp))⟩
  case resets =>
    rcases Nat.lt_or_ge 1 (s.pwr.wdOps.filter fun o => decide (s.aon.ops - o ≤ 600000)).length with hthird | hfew
    · obtain ⟨hpwr, hfixed⟩ := watchdogReset_third hup hp hthird
      exact ⟨by rw [hpwr], fun h => by omega, fun _ => by rw [hpwr], hfixed.aon, hfixed.line, hfixed.saf, hfixed.pending⟩
    · have h := watchdogReset_few hup hp hfew
      obtain ⟨hrestart, -, hlast, hstage, -⟩ := h.shows (by decide)
      exact ⟨by rw [h.pwr]; rfl, fun _ => ⟨hrestart, hlast, hstage⟩, fun h => by omega, h.aon, h.line, h.saf, h.pending⟩

end Sys2Proof.Machine
end

section
/-! PROOF. O1: the 24 V input and the bank supplies (R511, R557, R561). -/

namespace Sys2Proof.Machine

/-! ### A lost supply of bank A -/

theorem protTrip_vioA (f : Fld) (bit code : Nat) (c : Core) : (protTrip f bit code c).prot.vioA = c.prot.vioA := by
  obtain ⟨b, h⟩ := protTrip_prot f bit code c
  rw [h]

theorem tripPin_vioA (n : Nat) (high : Bool) (c : Core) : (tripPin n high c).prot.vioA = c.prot.vioA := by
  have hlow : ∀ c : Core, (tripLow n c).prot.vioA = c.prot.vioA := by
    intro c
    unfold tripLow
    split
    · exact protTrip_vioA _ _ _ c
    · split <;> rfl
  unfold tripPin
  dsimp only
  split
  · rfl
  · split
    · rfl
    · exact hlow _

/-- R561: no gate switches without VIO_A. -/
theorem gatesOn_of_no_supply {c : Core} (h : c.prot.vioA = false) : c.gatesOn = false := by simp [Core.gatesOn, h]

theorem pwmSafe_prot (c : Core) : (pwmSafe c).prot = c.prot := rfl

theorem bankALost_vioA (c : Core) : (bankALost c).prot.vioA = c.prot.vioA := by
  have hpins : ∀ n, (forUp n (fun n c => tripPin n false c) c).prot.vioA = c.prot.vioA := fun n =>
    forUp_invariant (P := fun d : Core => d.prot.vioA = c.prot.vioA) rfl fun k d hd => (tripPin_vioA k false d).trans hd
  rw [bankALost, pwmSafe_prot]
  exact hpins 8

/-- R560, R561: the supply of bank A is as told, and nothing but the resettable part follows. -/
theorem bankChange_A (p : Bool) (s : State) :
    (bankChange false p s).pwr = { s.pwr with bankA := p } ∧ (bankChange false p s).core.prot.vioA = p ∧ s.SameFixed (bankChange false p s) := by
  unfold bankChange
  simp only [Bool.false_eq_true, if_false]
  split
  · exact ⟨rfl, bankALost_vioA _, ⟨rfl, rfl, rfl, rfl⟩⟩
  · exact ⟨rfl, rfl, ⟨rfl, rfl, rfl, rfl⟩⟩

/-! ### A lost supply of bank B -/

theorem State.SameFixed.refl (s : State) : s.SameFixed s := ⟨rfl, rfl, rfl, rfl⟩

/-- A device reset, performed or not, leaves the fixed parts and the supplies of the banks. -/
theorem deviceReset_fixed (code : Nat) (dog : Bool) (s : State) :
    s.SameFixed (deviceReset code dog s) ∧ (deviceReset code dog s).pwr.bankA = s.pwr.bankA ∧ (deviceReset code dog s).pwr.bankB = s.pwr.bankB := by
  unfold deviceReset
  split
  · exact ⟨.refl s, rfl, rfl⟩
  · rw [resetSteps_eq]
    exact ⟨⟨rfl, rfl, rfl, rfl⟩, rfl, rfl⟩

/-- R560, R561: the supply of bank B is as told. -/
theorem bankChange_B (p : Bool) (s : State) :
    (bankChange true p s).pwr.bankA = s.pwr.bankA ∧ (bankChange true p s).pwr.bankB = p ∧ s.SameFixed (bankChange true p s) := by
  unfold bankChange
  simp only [if_true]
  split
  · split
    · exact ⟨rfl, rfl, ⟨rfl, rfl, rfl, rfl⟩⟩
    · obtain ⟨⟨haon, hline, hsaf, hpend⟩, hA, hB⟩ :=
        deviceReset_fixed 3 false { s with pwr := { s.pwr with bankB := p }, core := bankBLost s.core }
      exact ⟨hA, hB, ⟨haon, hline, hsaf, hpend⟩⟩
  · split <;> exact ⟨rfl, rfl, ⟨rfl, rfl, rfl, rfl⟩⟩

/-! ### The 24 V input -/

/-- R21, R63, R557: a lost input while the domains run. -/
theorem inputLoss_runs {s : State} (hup : s.up) :
    (inputLoss s).pwr = { s.pwr with vin := .holdUp, back := false } ∧ (inputLoss s).aon = { s.aon with storing := true } ∧
      (inputLoss s).saf = outputsOff s.saf ∧ (inputLoss s).line = s.line ∧ (inputLoss s).pending = s.pending := by
  obtain ⟨hvin, hheld⟩ := hup
  unfold inputLoss
  rw [if_pos hvin]
  simp [hheld]

/-- R63, R511: the power-on reset releases. -/
theorem powerRelease_rising {s : State} (h : s.pwr.vin = .rising) :
    (powerRelease s).up ∧ (powerRelease s).aon = { s.aon with pwrcyc := min (2 ^ 32 - 1) (s.aon.pwrcyc + 1) } ∧ (powerRelease s).pwr.restart = 1 ∧
      (∃ a p l cv c, (powerRelease s).core = coreReset a p l cv c ∧ p.restart = 1) ∧
      (powerRelease s).saf = s.saf ∧ (powerRelease s).line = s.line ∧ (powerRelease s).pending = s.pending := by
  unfold powerRelease
  rw [if_pos h]
  exact ⟨⟨rfl, rfl⟩, rfl, rfl, ⟨_, _, _, _, _, rfl, rfl⟩, rfl, rfl, rfl⟩

theorem saveCut_kept (c : Core) (nv : NvSt) : saveCut c nv = { nv with est0 := (saveCut c nv).est0, est1 := (saveCut c nv).est1 } := by
  unfold saveCut
  split
  · rfl
  · split <;> rfl

/-- R21, R557: the memories at the end of a hold-up: the parameters and the records stand. -/
theorem holdUpEnd_nv {s : State} (h : s.pwr.vin = .holdUp) : (holdUpEnd s).nv.params = s.nv.params ∧ (holdUpEnd s).nv.recs = s.nv.recs := by
  have hsteps := (journalRun_stepsEnd (s.nv, s.core)).nv
  have hreset := (journalReset_kept s.aon (stepsEnd (s.nv, s.core))).nv
  unfold holdUpEnd
  rw [if_pos h]
  dsimp only
  split
  · exact ⟨rfl, rfl⟩
  · rw [saveCut_kept, hreset]
    dsimp only
    rw [hsteps]
    exact ⟨rfl, rfl⟩

/-- Settles O1: the states of the input one by one, then the banks. -/
theorem supplyCommands : Obligations.SupplyCommands := by
  unfold Obligations.SupplyCommands
  intro s
  refine ⟨fun h => ⟨_, rfl, ?on⟩, fun h => ⟨_, rfl, ?release⟩, fun h => ⟨_, rfl, ?loss⟩, fun h => ⟨_, rfl, ?ends⟩, fun h => ⟨_, rfl, ?back⟩,
    fun b p => ⟨_, rfl, ?bank⟩⟩
  case on =>
    rw [powerOn, if_pos h]
    exact ⟨rfl, rfl, rfl, rfl, rfl, rfl, fun _ => rfl, rfl, rfl, rfl⟩
  case release =>
    obtain ⟨hup, haon, -, ⟨a, p, l, cv, c, hcore, hp⟩, hsaf, hline, hpend⟩ := powerRelease_rising h
    refine ⟨hup, haon, ?_, ?_, hsaf, hline, hpend⟩
    · rw [hcore, coreReset_last, hp]
      rfl
    · rw [hcore, coreReset_stage]
  case loss =>
    obtain ⟨hpwr, haon, hsaf, hline, hpend⟩ := inputLoss_runs h
    refine ⟨hpwr, haon, fun k => ?_, ?_, hline, hpend⟩
    · rw [State.energised, hsaf]
      exact outputsOff_on s.saf k
    · rw [hsaf]
      rfl
  case ends =>
    obtain ⟨hparams, hrecs⟩ := holdUpEnd_nv h
    have haon : (holdUpEnd s).aon = opsEnd s.aon := by simp [holdUpEnd, h]
    have hsaf : (holdUpEnd s).saf = safPowerOn s.saf := by simp [holdUpEnd, h]
    have hpwr : (holdUpEnd s).pwr.vin = (if s.pwr.back then .rising else .off) ∧ (holdUpEnd s).pwr.held = true := by simp [holdUpEnd, h]
    refine ⟨hpwr.1, hpwr.2, fun hst => ?_, fun hst => ?_, by rw [hsaf]; rfl, fun k => ?_, by rw [hsaf]; rfl, hparams, hrecs, by simp [holdUpEnd, h]⟩
    · rw [haon, opsEnd, if_pos hst]
    · rw [haon, opsEnd, if_neg (by simp [hst]), opsStore, ← hst]
    · rw [State.energised, hsaf]
      rfl
  case back => rw [vinReturn, if_pos h]
  case bank =>
    cases b
    · obtain ⟨hpwr, hvio, hfixed⟩ := bankChange_A p s
      refine ⟨by rw [hpwr]; rfl, by rw [hpwr]; rfl, fun _ => hvio, fun _ hp => ?_, hfixed.aon, hfixed.line, hfixed.saf, hfixed.pending⟩
      exact gatesOn_of_no_supply (hvio.trans hp)
    · obtain ⟨hA, hB, hfixed⟩ := bankChange_B p s
      exact ⟨hA, hB, nofun, nofun, hfixed.aon, hfixed.line, hfixed.saf, hfixed.pending⟩

end Sys2Proof.Machine
end

section
/-! PROOF. O2, O59: the boot stages (R512 to R515), the update journal as shown (R544), and CANCEL with the boot that follows it (R541). -/

namespace Sys2Proof.Machine

/-! ### The update journal in its registers -/

/-- The fields that show the update journal. -/
def updFlds : List Fld :=
  [F.UPD_STAT.STATE, F.UPD_STAT.TRIES, F.UPD_PROG.DONE, F.UPD_PROG.TOTAL, F.UPD_TGTVER.VER, F.UPD_TGTVER.SVER] ++ (upTo 8).map F.UPD_TGTHASH.HASH

theorem updShow_nv (q : NC) : (updShow q).1 = q.1 := rfl

theorem updShow_fields (q : NC) : fieldsOnly updFlds q.2 (updShow q).2 := by
  unfold updShow
  dsimp only
  refine forUp_induction (P := fieldsOnly updFlds q.2) ?_ fun k hk d hd => fieldsOnly_wr hd ?_
  · repeat' refine fieldsOnly_wr ?_ (by simp [updFlds])
    exact fieldsOnly_refl _ _
  · exact List.mem_append_right _ (List.mem_map.mpr ⟨k, List.mem_range.mpr hk, rfl⟩)

theorem updShow_rd {q : NC} {f : Fld} (hf : ∀ g ∈ updFlds, f.key ≠ g.key) : (updShow q).2.rd f = q.2.rd f := updShow_fields q f hf

/-- The resettable part beside the registers. -/
theorem updShow_svc (q : NC) : (updShow q).2.svc = q.2.svc :=
  forUp_invariant (P := fun d : Core => d.svc = q.2.svc) rfl fun _ _ hd => hd

theorem updShow_state (q : NC) : (updShow q).2.rd F.UPD_STAT.STATE = q.1.upd.state % 8 := by
  unfold updShow
  dsimp only
  refine forUp_induction (P := fun d : Core => d.rd F.UPD_STAT.STATE = q.1.upd.state % 8) ?_ fun k hk d hd => ?_
  · simp (disch := decide) only [Core.rd_wr_same, Core.rd_wr_ne]
    rfl
  · refine (Core.rd_wr_ne _ _ ?_).trans hd
    simp [Fld.key, F.UPD_STAT.STATE, F.UPD_TGTHASH.HASH]
    omega

/-! ### Stage 0 (R512, R513, R539) -/

/-- R539: the memories once the record is written: the bank to boot counts its tries, and a rollback counts. -/
def NvSt.booted (nv : NvSt) : NvSt :=
  let q := bankSelect nv
  let nv2 := if q.2.2.2 then regionCount F.UPD_CNT.ROLLBACKS q.1 else q.1
  if q.1.upd.ended then (regionCount F.UPD_CNT.ROLLBACKS nv2).setUpd (fun u => { u with ended := false }) else nv2

theorem bankSelect_img (nv : NvSt) (b : Bool) : (bankSelect nv).1.img b = nv.img b := by
  unfold bankSelect
  split
  · rfl
  · split <;> rfl

theorem booted_img (nv : NvSt) (b : Bool) : nv.booted.img b = nv.img b := by
  rw [← bankSelect_img nv b]
  unfold NvSt.booted
  dsimp only
  split <;> split <;> rfl

/-- R513: a bank that verifies starts. -/
theorem bankStart_some {nv : NvSt} (want : Bool) (h : (nv.img false).valid = true ∨ (nv.img true).valid = true) : ∃ b, bankStart nv want = some b := by
  unfold bankStart
  cases want <;> rcases h with h | h <;> simp [h]

theorem bankStart_none {nv : NvSt} (want : Bool) (hA : (nv.img false).valid = false) (hB : (nv.img true).valid = false) : bankStart nv want = none := by
  cases want <;> simp [bankStart, hA, hB]

/-- R512: the resettable part once stage 0 runs a bank. -/
def stage0Core (b trial : Bool) (sfw : Nat) (nv : NvSt) (c : Core) : Core :=
  let i := nv.img b
  let c2 : Core := { c with svc := { c.svc with sel := true, run := b } }
  let c3 := ((c2.wrB F.GLB_BOOT.BANK b).wr F.UPD_RUNVER.VER i.ver).wr F.UPD_RUNVER.SVER i.sver
  (updShow (nv, (c3.wrB F.UPD_STAT.TRIAL trial).wrB F.UPD_STAT.SFWPEND (i.sfw != sfw))).2

theorem stage0Core_sel (b trial : Bool) (sfw : Nat) (nv : NvSt) (c : Core) : (stage0Core b trial sfw nv c).svc.sel = true := by
  rw [stage0Core, updShow_svc]
  rfl

theorem stage0Core_stage (b trial : Bool) (sfw : Nat) (nv : NvSt) (c : Core) :
    (stage0Core b trial sfw nv c).rd F.GLB_BOOT.STAGE = c.rd F.GLB_BOOT.STAGE := by
  rw [stage0Core, updShow_rd (by decide)]
  simp (disch := decide) only [Core.wrB, Core.rd_wr_ne]
  rfl

theorem stage0Core_bank (b trial : Bool) (sfw : Nat) (nv : NvSt) (c : Core) : (stage0Core b trial sfw nv c).rd F.GLB_BOOT.BANK = b2n b := by
  rw [stage0Core, updShow_rd (by decide)]
  simp (disch := decide) only [Core.wrB, Core.rd_wr_ne, Core.rd_wr_same]
  cases b <;> rfl

theorem stage0Core_trial (b : Bool) (sfw : Nat) (nv : NvSt) (c : Core) : (stage0Core b false sfw nv c).rd F.UPD_STAT.TRIAL = 0 := by
  rw [stage0Core, updShow_rd (by decide)]
  simp (disch := decide) only [Core.wrB, Core.rd_wr_ne, Core.rd_wr_same]
  rfl

/-- R512: stage 0 as the bank it selects and the resettable part before it. -/
theorem bootStage0_runs {s : State} (hheld : s.pwr.held = false) (hsel : s.core.svc.sel = false) (hstage : s.core.rd F.GLB_BOOT.STAGE = 0) :
    ∃ d : Core, d.rd F.GLB_BOOT.STAGE = 0 ∧
      (bootStage0 s).line = { s.line with sending := !s.nv.pairBit || s.core.on F.RED_STAT.GNT, pair := s.nv.pairBit } ∧
      (bootStage0 s).nv = s.nv.booted ∧ (bootStage0 s).pwr.pll = true ∧
      (bankStart s.nv.booted (bankSelect s.nv).2.1 = none → (bootStage0 s).core = d.wr F.GLB_BOOT.STAGE 7) ∧
      (∀ b, bankStart s.nv.booted (bankSelect s.nv).2.1 = some b →
        ∃ sfw, (bootStage0 s).core = stage0Core b ((bankSelect s.nv).2.2.1 && b == (bankSelect s.nv).2.1) sfw s.nv.booted d) ∧
      (bootStage0 s).aon = s.aon ∧ (bootStage0 s).saf = s.saf ∧ (bootStage0 s).pending = s.pending := by
  refine ⟨s.core.when ((bankSelect s.nv).2.2.2 || (bankSelect s.nv).1.upd.ended) (fun c => (c.wr F.GLB_BOOT.FALLBACK 1).raise 115 0 11), ?_, ?_⟩
  · unfold Core.when
    split
    · rw [Core.rd_raise, Core.rd_wr_ne _ _ (by decide), hstage]
    · exact hstage
  · unfold bootStage0
    rw [if_neg (by simp [hheld, hsel, hstage])]
    have hnv : (if (bankSelect s.nv).1.upd.ended = true then
        (regionCount F.UPD_CNT.ROLLBACKS (if (bankSelect s.nv).2.2.2 = true then regionCount F.UPD_CNT.ROLLBACKS (bankSelect s.nv).1
          else (bankSelect s.nv).1)).setUpd (fun u => { u with ended := false })
      else if (bankSelect s.nv).2.2.2 = true then regionCount F.UPD_CNT.ROLLBACKS (bankSelect s.nv).1 else (bankSelect s.nv).1) = s.nv.booted := rfl
    dsimp only
    rw [hnv]
    rcases hstart : bankStart s.nv.booted (bankSelect s.nv).2.1 with - | b
    · exact ⟨rfl, rfl, rfl, fun _ => rfl, nofun, rfl, rfl, rfl⟩
    · refine ⟨rfl, rfl, rfl, nofun, ?_, rfl, rfl, rfl⟩
      rintro _ ⟨⟩
      exact ⟨_, rfl⟩

/-! ### O59: CANCEL and the boot that follows -/

/-- A request within a session, with the port attached. -/
theorem inService_runs {f : State → State} {s : State} (hheld : s.pwr.held = false) (hatt : s.core.on F.SVC_STAT.ATTACH = true)
    (hses : s.core.on F.SVC_STAT.SESSION = true) : inService f s = f s := by simp [inService, hheld, hatt, hses]

/-- R541: CANCEL in TRIAL. -/
theorem updCancel_trial {q : NC} (h : q.2.on F.UPD_STAT.TRIAL = true) :
    (updCancel q).1 = q.1.setUpd (fun u => { u with pend := none, tries := 0, state := 0, ended := true }) := by rw [updCancel, if_pos h]; rfl

/-- R541: CANCEL in COMMITTED. -/
theorem updCancel_committed {q : NC} (h : q.2.on F.UPD_STAT.TRIAL = false) (hst : q.1.upd.state = 5) :
    updCancel q = updShow (q.1.setUpd (fun u => { u with state := 4, pend := none, tries := 0 }), usbAnswer 0 [] q.2) := by simp [updCancel, h, hst]

/-- R541: a trial cancelled counts as a rollback at the next boot, which takes the bank ACT. -/
theorem booted_of_cancelled {nv : NvSt} (hpend : nv.upd.pend = none) (hended : nv.upd.ended = true) :
    bankSelect nv = (nv, nv.upd.act, false, false) ∧
      nv.booted.region.get F.UPD_CNT.ROLLBACKS = min 65535 (nv.region.get F.UPD_CNT.ROLLBACKS + 1) := by
  have hselect : bankSelect nv = (nv, nv.upd.act, false, false) := by simp [bankSelect, hpend]
  refine ⟨hselect, ?_⟩
  have hbooted : nv.booted = (regionCount F.UPD_CNT.ROLLBACKS nv).setUpd (fun u => { u with ended := false }) := by
    simp [NvSt.booted, hselect, hended]
  have hcount : (regionCount F.UPD_CNT.ROLLBACKS nv).region =
      nv.region.put F.UPD_CNT.ROLLBACKS (min (2 ^ F.UPD_CNT.ROLLBACKS.width - 1) (nv.region.get F.UPD_CNT.ROLLBACKS + 1)) := rfl
  calc nv.booted.region.get F.UPD_CNT.ROLLBACKS
      = (regionCount F.UPD_CNT.ROLLBACKS nv).region.get F.UPD_CNT.ROLLBACKS := by rw [hbooted]; rfl
    _ = min (2 ^ F.UPD_CNT.ROLLBACKS.width - 1) (nv.region.get F.UPD_CNT.ROLLBACKS + 1) % 2 ^ F.UPD_CNT.ROLLBACKS.width := by
        rw [hcount, Csr.get_put_same]
    _ = min 65535 (nv.region.get F.UPD_CNT.ROLLBACKS + 1) := Nat.mod_eq_of_lt (by simp only [F.UPD_CNT.ROLLBACKS]; omega)

/-- R541: what a device reset after a cancelled trial leaves for stage 0. -/
theorem bootStage0_after_cancel {t u : State} {act : Bool} (hreset : t.Reset 2 u) (hheld : t.pwr.held = false) (hpend : t.nv.upd.pend = none)
    (hended : t.nv.upd.ended = true) (hstate : t.nv.upd.state = 0) (hact : t.nv.upd.act = act) (hvalid : (t.nv.img act).valid = true) :
    (bootStage0 u).core.svc.sel = true ∧ (bootStage0 u).core.rd F.GLB_BOOT.BANK = b2n act ∧ (bootStage0 u).core.rd F.UPD_STAT.TRIAL = 0 ∧
      (bootStage0 u).nv.region.get F.UPD_CNT.ROLLBACKS = min 65535 (t.nv.region.get F.UPD_CNT.ROLLBACKS + 1) := by
  obtain ⟨-, hpwr, ⟨c, hcore⟩, hnv⟩ := hreset
  have hupd : u.nv.upd = t.nv.upd := by
    have hlost : uploadLost t.nv = t.nv := if_neg (by omega)
    rw [hnv, hlost]
  have himg : u.nv.img act = t.nv.img act := by rw [hnv]; rfl
  have hregion : u.nv.region = t.nv.region := by rw [hnv]
  obtain ⟨hselect, hcount⟩ := booted_of_cancelled (nv := u.nv) (by rw [hupd, hpend]) (by rw [hupd, hended])
  obtain ⟨d, -, -, hnv', -, -, hsome, -⟩ := bootStage0_runs (s := u) (by rw [hpwr]; exact hheld) (by rw [hcore]; rfl) (by rw [hcore]; exact coreReset_stage ..)
  have hstart : bankStart u.nv.booted (bankSelect u.nv).2.1 = some act := by
    rw [hselect, hupd, hact]
    exact if_pos (by rw [booted_img, himg, hvalid])
  obtain ⟨sfw, hcore'⟩ := hsome act hstart
  rw [hcore', hselect]
  exact ⟨stage0Core_sel .., stage0Core_bank .., stage0Core_trial .., by rw [hnv', hcount, hregion]⟩

/-- Settles O59: in COMMITTED the request alone; in TRIAL also the reset and the boot that follow. -/
theorem cancelUpdate : Obligations.CancelUpdate := by
  unfold Obligations.CancelUpdate
  intro s hup hatt hses
  have hexec : exec .updCancel s = .next { s with nv := (updCancel (s.nv, s.core)).1, core := (updCancel (s.nv, s.core)).2 } := by
    change Host.Outcome.next (inService _ s) = _
    rw [inService_runs hup.2 hatt hses, onNv_run _ hup.2]
  refine ⟨fun htrial hst => ⟨_, hexec, ?_⟩, fun htrial hvalid => ⟨_, hexec, ?_, fun hp => ?_⟩⟩
  · rw [updCancel_committed htrial hst]
    exact ⟨rfl, rfl, updShow_state _⟩
  · dsimp only
    rw [updCancel_trial htrial]
    rfl
  · refine ⟨_, rfl, _, rfl, ?_⟩
    have hnv := updCancel_trial (q := (s.nv, s.core)) htrial
    have hregion : (updCancel (s.nv, s.core)).1.region = s.nv.region := by rw [hnv]; rfl
    have hafter := bootStage0_after_cancel (act := s.nv.upd.act)
      (deviceReset_reset (code := 2) (dog := false) (s := { s with nv := (updCancel (s.nv, s.core)).1, core := (updCancel (s.nv, s.core)).2 }) hup hp) hup.2
      (by dsimp only; rw [hnv]; rfl) (by dsimp only; rw [hnv]; rfl) (by dsimp only; rw [hnv]; rfl) (by dsimp only; rw [hnv]; rfl)
      (by dsimp only; rw [hnv]; exact hvalid)
    rw [← hregion]
    exact hafter

end Sys2Proof.Machine
end

section
/-! PROOF. O2: stages 1 to 3 (R512, R514, R515, R539). -/

namespace Sys2Proof.Machine

/-! ### Stage 1 -/

/-- The blocks whose registers stage 1 loads after the boot-locked record: the recorder and its ESN, EST, HIF, UPD, RED. -/
def loadBlks : List Nat :=
  [F.EVR_STAT.WPTR.block, F.TICK_ESN_LO.ESN.block, F.EST_STAT.EOD.block, F.HIF_STAT.ACCEPT.block, F.UPD_STAT.STATE.block, F.RED_STAT.ROLE.block]

theorem blocksOnly_evrScan (q : NC) : blocksOnly loadBlks q.2 (evrScan q).2 := by
  unfold evrScan
  dsimp only
  split
  · exact blocksOnly_wr2 (blocksOnly_wr (blocksOnly_refl _ _) (by decide)) (by decide) (by decide)
  · refine blocksOnly_wr2 (blocksOnly_wr2 (blocksOnly_wr2 ?_ (by decide) (by decide)) (by decide) (by decide)) (by decide) (by decide)
    exact blocksOnly_wr (blocksOnly_wr (blocksOnly_refl _ _) (by decide)) (by decide)

theorem blocksOnly_estLoad (nv : NvSt) (ops : Nat) (c : Core) : blocksOnly loadBlks c (estLoad nv ops c) := by
  have hfails : ∀ n, blocksOnly loadBlks c (c.cntSat F.EST_SAVE_STAT.FAILS n) := fun n => blocksOnly_wr (blocksOnly_refl _ _) (by decide)
  unfold estLoad
  dsimp only
  split
  · exact blocksOnly_of_csr (blocksOnly_wr (g := F.EST_STAT.SAVEERR) (v := 1) (hfails _) (by decide)) rfl
  · refine blocksOnly_wr (blocksOnly_wr (blocksOnly_wr ?_ (by decide)) (by decide)) (by decide)
    exact blocksOnly_of_csr (hfails _) rfl

/-- R397: the registers of a ring that the journal holds. -/
def ringRestored (c : Core) (p : Nat × JRing) : Core :=
  let r := p.1
  let x := p.2
  if !x.live then c else
    let c1 := (((((c.wr (F.HIF_RSTAT.TYPE r) x.typ).wr (F.HIF_RSTAT.VER r) x.ver).wr (F.HIF_RSTAT.OWNER r) x.owner).wr
      (F.HIF_RSTAT.LOG2N r) x.log2n).wr (F.HIF_RSTAT.PAIR r) x.pair).wr (F.HIF_RSTAT.VEC r) x.vec
    let c2 := (c1.wrB (F.HIF_RSTAT.IEN r) x.ien).wr (F.HIF_RIDX.MOD r) x.mod
    (c2.wr (F.HIF_RSTAT.STATE r) 4).wrB F.HIF_STAT.RECOVER true

theorem ringsRestore_eq (q : NC) : ringsRestore q = jShow (q.1, q.1.jring.foldl ringRestored q.2) := rfl

theorem key_ne_of_low {f g : Fld} (hf : f.key < 0x10000 * 32) (hg : 0x10000 ≤ g.off) : f.key ≠ g.key := by
  simp only [Fld.key] at hf ⊢
  omega

theorem rd_ringRestored {f : Fld} (hf : f.key < 0x10000 * 32) (c : Core) (p : Nat × JRing) : (ringRestored c p).rd f = c.rd f := by
  unfold ringRestored
  dsimp only
  split
  · rfl
  · have hrecover : 0x10000 ≤ F.HIF_STAT.RECOVER.off := by decide
    have hring : ∀ {o n : Nat}, 0x10000 ≤ o → 0x10000 ≤ o + n := fun h => by omega
    have hother : ∀ {g : Fld} (d : Core) (v : Nat), 0x10000 ≤ g.off → (d.wr g v).rd f = d.rd f := fun d v hg => Core.rd_wr_ne d v (key_ne_of_low hf hg)
    simp only [Core.wrB]
    rw [hother _ _ hrecover]
    iterate 9 rw [hother _ _ (hring (by decide))]

/-- The registers of the rings stand behind those of GLB, BLC and TICK. -/
theorem rd_ringsRestore {f : Fld} (hf : f.key < 0x10000 * 32) (q : NC) : (ringsRestore q).2.rd f = q.2.rd f := by
  have hrings : ∀ (l : Tab JRing) (c : Core), (l.foldl ringRestored c).rd f = c.rd f := by
    intro l
    induction l with
    | nil => exact fun _ => rfl
    | cons p l ih => exact fun c => (ih _).trans (rd_ringRestored hf c p)
  rw [ringsRestore_eq, (pumped_jShow _).fields f fun g hg => key_ne_of_low hf (by revert g; decide)]
  exact hrings _ _

/-- R512: a field that is not stored keeps its value when the region is loaded. -/
theorem rd_regionLoad {f : Fld} (hf : (regAt (f.key / 32)).filter (fun g => g.key == f.key && g.stored) = []) (nv : NvSt) (c : Core) :
    (regionLoad nv c).rd f = c.rd f := by
  unfold regionLoad
  generalize nv.region = l
  induction l generalizing c with
  | nil => rfl
  | cons kv l ih =>
    refine (ih _).trans ?_
    dsimp only
    split
    · next g gs hfilter =>
      have hg : g ∈ (regAt (kv.1 / 32)).filter (fun g => g.key == kv.1 && g.stored) := hfilter ▸ List.mem_cons_self
      obtain ⟨-, hkey⟩ := List.mem_filter.mp hg
      simp only [Bool.and_eq_true, beq_iff_eq] at hkey
      refine Core.rd_wr_ne _ _ fun hsame => ?_
      rw [← hkey.1, ← hsame, hf] at hg
      exact absurd hg List.not_mem_nil
    · rfl

theorem blocksOnly_ocvCommit (c : Core) : blocksOnly loadBlks c (ocvCommit c) := by
  unfold ocvCommit
  dsimp only
  split
  · exact blocksOnly_wr (blocksOnly_csr rfl) (by decide)
  · exact blocksOnly_wr (blocksOnly_refl _ _) (by decide)

theorem blocksOnly_updShow (q : NC) : blocksOnly loadBlks q.2 (updShow q).2 := blocksOnly_of_fieldsOnly (updShow_fields q) (by decide)

theorem redShow_fields (c : Core) : fieldsOnly [F.RED_STAT.SOLOACT, F.HIF_STAT.ACCEPT] c (redShow c) :=
  fieldsOnly_wr (fieldsOnly_wr (fieldsOnly_refl _ _) (by simp)) (by simp)

/-- R514: a register of the boot-locked record is loaded. -/
theorem rd_loadWord {f : Fld} {ow : Nat × Nat} (hf : ∀ g ∈ regAt ow.1, f.key ≠ g.key) (c : Core) : (loadWord c ow).rd f = c.rd f := by
  have hwrites : ∀ (l : List Fld), (∀ g ∈ l, f.key ≠ g.key) → ∀ c : Core, (l.foldl (fun c g => c.wr g (g.bitsOf ow.2)) c).rd f = c.rd f := by
    intro l
    induction l with
    | nil => exact fun _ _ => rfl
    | cons g l ih =>
      intro hl c
      exact (ih (fun x hx => hl x (List.mem_cons_of_mem _ hx)) _).trans (Core.rd_wr_ne _ _ (hl g List.mem_cons_self))
  exact hwrites _ hf c

theorem rd_loadWords {f : Fld} {l : List (Nat × Nat)} (hf : ∀ ow ∈ l, ∀ g ∈ regAt ow.1, f.key ≠ g.key) (c : Core) :
    (l.foldl loadWord c).rd f = c.rd f := by
  induction l generalizing c with
  | nil => rfl
  | cons ow l ih => exact (ih (fun x hx => hf x (List.mem_cons_of_mem _ hx)) _).trans (rd_loadWord (hf ow List.mem_cons_self) c)

theorem blcOffs_stage : ∀ o ∈ blcOffs, ∀ g ∈ regAt o, F.GLB_BOOT.STAGE.key ≠ g.key := by decide

/-- R514, R515: the load of the boot-locked record leaves the boot stage and seals the record. -/
theorem blcLoad_shows (nv : NvSt) (sver : Nat) (c : Core) :
    (blcLoad nv sver c).rd F.GLB_BOOT.STAGE = c.rd F.GLB_BOOT.STAGE ∧ (blcLoad nv sver c).rd F.BLC_SEAL.SEALED = 1 := by
  have hzip : ∀ ow ∈ blcOffs.zip nv.blc, ∀ g ∈ regAt ow.1, F.GLB_BOOT.STAGE.key ≠ g.key := by
    rintro ⟨o, w⟩ how
    exact blcOffs_stage o (List.of_mem_zip how).1
  unfold blcLoad
  dsimp only
  refine ⟨?_, ?_⟩
  · simp (disch := decide) only [Core.rd_wr_ne]
    split
    · rw [rd_loadWords hzip, Core.rd_wr_ne _ _ (by decide)]
    · simp (disch := decide) only [Core.rd_wr_ne]
  · simp (disch := decide) only [Core.rd_wr_ne, Core.rd_wr_same]
    rfl

/-- R512: a field that stage 1 loads nothing into. -/
def Fld.unloaded (f : Fld) : Bool :=
  decide (f.block ∉ loadBlks) && decide (f.key < 0x10000 * 32) && ((regAt (f.key / 32)).filter (fun g => g.key == f.key && g.stored)).isEmpty

/-- R512: what stage 1 loads behind the boot-locked record leaves such a field. -/
theorem rd_bootStage1 {f : Fld} (hf : f.unloaded = true) {s : State} (hheld : s.pwr.held = false) (hsel : s.core.svc.sel = true)
    (hstage : s.core.rd F.GLB_BOOT.STAGE = 0) :
    (bootStage1 s).core.rd f = (blcLoad s.nv (s.nv.img s.core.svc.run).sver (s.core.wr F.GLB_BOOT.STAGE 1)).rd f := by
  simp only [Fld.unloaded, Bool.and_eq_true, decide_eq_true_eq, List.isEmpty_iff] at hf
  obtain ⟨⟨hblock, hlow⟩, hstored⟩ := hf
  have hred : ∀ c : Core, (redShow c).rd f = c.rd f := fun c => blocksOnly_of_fieldsOnly (bs := loadBlks) (redShow_fields c) (by decide) f hblock
  unfold bootStage1
  rw [if_neg (by simp [hheld, hsel, hstage])]
  dsimp only
  rw [hred, blocksOnly_updShow _ f hblock]
  refine (blocksOnly_of_csr (blocksOnly_ocvCommit _) rfl f hblock).trans ?_
  rw [rd_regionLoad hstored, rd_ringsRestore hlow, blocksOnly_estLoad _ _ _ f hblock]
  exact blocksOnly_of_csr (blocksOnly_evrScan _) rfl f hblock

/-! ### The application (R512) -/

@[simp] theorem Core.raise_running (c : Core) (n src prim : Nat) : (c.raise n src prim).tick.running = c.tick.running := rfl
@[simp] theorem Core.when_running (c : Core) (b : Bool) (f : Core → Core) :
    (c.when b f).tick.running = if b then (f c).tick.running else c.tick.running := by cases b <;> rfl

theorem protTrip_running (f : Fld) (bit code : Nat) (c : Core) : (protTrip f bit code c).tick.running = c.tick.running := by
  unfold protTrip
  split
  · rfl
  · dsimp only [gateOutputs]
    rw [Core.raise_running]
    dsimp only
    split <;> rfl

/-- The blocks whose registers the start of the application shows beside the stage: RED, HIF, PROT, CNV, CHN. -/
def startBlks : List Nat := protBlks ++ [F.RED_STAT.ROLE.block, F.HIF_STAT.ACCEPT.block, F.CNV_STAT.BLOCK.block, F.CHN_CTRL.ENUM.block]

/-- From `c` to `d` the ticks go on as they did, and only `startBlks` of the registers differ. -/
structure Core.Starts (c d : Core) : Prop where
  running : d.tick.running = c.tick.running
  regs : blocksOnly startBlks c d

theorem Core.Starts.refl (c : Core) : c.Starts c := ⟨rfl, blocksOnly_refl _ _⟩

theorem Core.Starts.trans {c d e : Core} (h : c.Starts d) (g : d.Starts e) : c.Starts e := ⟨g.running.trans h.running, blocksOnly_trans h.regs g.regs⟩

theorem starts_forUp {n : Nat} {f : Nat → Core → Core} (hf : ∀ (k : Nat) (c : Core), c.Starts (f k c)) (c : Core) : c.Starts (forUp n f c) :=
  forUp_invariant (P := c.Starts) (.refl c) fun k d hd => hd.trans (hf k d)

theorem starts_wr (c : Core) {f : Fld} (v : Nat) (hf : f.block ∈ startBlks) : c.Starts (c.wr f v) := ⟨rfl, blocksOnly_wr (blocksOnly_refl _ _) hf⟩

theorem starts_redShow (c : Core) : c.Starts (redShow c) := ⟨rfl, blocksOnly_of_fieldsOnly (redShow_fields c) (by decide)⟩

theorem starts_startRole (peer : Bool) (c : Core) : c.Starts (startRole peer c) := by
  unfold startRole
  split
  · refine .trans ?_ (starts_redShow _)
    exact ⟨rfl, blocksOnly_of_csr (blocksOnly_wr (g := F.RED_STAT.ROLE) (v := if peer then 3 else 1) (blocksOnly_refl _ c) (by decide)) rfl⟩
  · exact starts_redShow c

theorem starts_protTrip {f : Fld} (hf : f ∈ causeFlds) (bit code : Nat) (c : Core) : c.Starts (protTrip f bit code c) :=
  ⟨protTrip_running f bit code c, blocksOnly_mono (blocksOnly_protTrip hf bit code c) (by decide)⟩

theorem starts_tripLow (n : Nat) (c : Core) : c.Starts (tripLow n c) := by
  unfold tripLow
  split
  · exact starts_protTrip (by decide) _ _ c
  · split
    · exact ⟨rfl, blocksOnly_of_fieldsOnly (cbcForce_shows n c).1 (by decide)⟩
    · exact .refl c

theorem starts_gateLine (ch : Nat) (c : Core) : c.Starts (gateLine ch true c) := by
  refine ⟨?_, blocksOnly_mono (blocksOnly_gateLine ch c) (by decide)⟩
  unfold gateLine
  dsimp only
  rw [if_pos rfl]
  split <;> exact protTrip_running _ _ _ _

theorem starts_refSource (c : Core) : c.Starts (refSource c) := by
  unfold refSource
  dsimp only
  split
  · exact .refl c
  · exact ⟨rfl, blocksOnly_wr (blocksOnly_csr rfl) (by decide)⟩

theorem starts_showLayout (c : Core) : c.Starts c.showLayout := (starts_wr _ _ (by decide)).trans (starts_wr _ _ (by decide))

theorem starts_enumRequest (c : Core) : c.Starts (enumRequest c) := by
  unfold enumRequest
  split
  · exact ⟨rfl, blocksOnly_csr rfl⟩
  · exact starts_wr _ _ (by decide)

theorem starts_when {b : Bool} {f : Core → Core} (hf : ∀ c : Core, c.Starts (f c)) (c : Core) : c.Starts (c.when b f) := by
  cases b
  · exact .refl c
  · exact hf c

/-- R78, R512: the resettable part as the application finds it: stage 2, ticks running. -/
def State.startCore (s : State) : Core :=
  let c := s.core.wr F.GLB_BOOT.STAGE 2
  let c0 : Core := { c with cnv := { c.cnv with deg := s.saf.deg } }
  { c0 with tick := { c0.tick with running := true }, prot := { c0.prot with win := c0.xStart } }

/-- R284, R328, R376: what starts with the ticks: the role, the pins and lines as they stand, the registers shown, the enumeration. -/
def startSteps (peer : Bool) (gate : Nat) (c1 : Core) : Core :=
  let c2 := forUp 8 (fun n c => if bitAt c.prot.low n then tripLow n c else c) (startRole peer c1)
  let c3 := forUp 2 (fun ch c => if bitAt gate ch then gateLine ch true c else c) c2
  ((refSource (showBlock c3)).showLayout).when (!c3.standby) enumRequest

theorem starts_startSteps (peer : Bool) (gate : Nat) (c : Core) : c.Starts (startSteps peer gate c) := by
  have hlows : ∀ c : Core, c.Starts (forUp 8 (fun n c => if bitAt c.prot.low n then tripLow n c else c) c) :=
    starts_forUp fun k c => by
      split
      · exact starts_tripLow k c
      · exact .refl c
  have hlines : ∀ c : Core, c.Starts (forUp 2 (fun ch c => if bitAt gate ch then gateLine ch true c else c) c) :=
    starts_forUp fun k c => by
      split
      · exact starts_gateLine k c
      · exact .refl c
  have hshow : ∀ c : Core, c.Starts (refSource (showBlock c)).showLayout := fun c =>
    ((starts_wr c _ (by decide)).trans (starts_refSource _)).trans (starts_showLayout _)
  exact ((((starts_startRole peer c).trans (hlows _)).trans (hlines _)).trans (hshow _)).trans (starts_when starts_enumRequest _)

theorem applicationStart_runs (peer : Bool) {s : State} (hheld : s.pwr.held = false) (hstage : s.core.rd F.GLB_BOOT.STAGE = 1) :
    applicationStart peer s = { s with core := startSteps peer s.saf.gate s.startCore } := by
  unfold applicationStart
  rw [if_neg (by simp [hheld, hstage])]
  rfl

theorem startCore_stage (s : State) : s.startCore.rd F.GLB_BOOT.STAGE = 2 := (Core.rd_wr_same s.core F.GLB_BOOT.STAGE 2).trans rfl

/-! ### O2 -/

/-- Settles O2: each stage, where it may run. -/
theorem bootCommands : Obligations.BootCommands := by
  unfold Obligations.BootCommands
  intro s hheld
  refine ⟨fun hsel hstage => ⟨_, rfl, ?stage0⟩, fun hsel hstage => ⟨_, rfl, ?stage1⟩, fun p hstage => ⟨_, rfl, ?application⟩,
    fun hstage hexch => ⟨_, rfl, ?ready⟩, fun hexch => ⟨_, rfl, ?early⟩⟩
  case stage0 =>
    obtain ⟨d, hd, hline, -, hpll, hnone, hsome, haon, hsaf, hpend⟩ := bootStage0_runs hheld hsel hstage
    refine ⟨hpll, fun hvalid => ?_, fun hA hB => ?_, hline, haon, hsaf, hpend⟩
    · obtain ⟨b, hb⟩ := bankStart_some (nv := s.nv.booted) (bankSelect s.nv).2.1 (by rw [booted_img, booted_img]; exact hvalid)
      obtain ⟨sfw, hcore⟩ := hsome b hb
      rw [hcore]
      exact ⟨stage0Core_sel .., (stage0Core_stage ..).trans hd⟩
    · rw [hnone (bankStart_none _ (by rw [booted_img, hA]) (by rw [booted_img, hB]))]
      exact Core.rd_wr_same _ _ _
  case stage1 =>
    obtain ⟨hstage1, hsealed⟩ := blcLoad_shows s.nv (s.nv.img s.core.svc.run).sver (s.core.wr F.GLB_BOOT.STAGE 1)
    refine ⟨?_, ?_, ?_⟩
    · rw [rd_bootStage1 (by decide) hheld hsel hstage, hstage1]
      exact Core.rd_wr_same _ _ _
    · rw [rd_bootStage1 (by decide) hheld hsel hstage, hsealed]
    · unfold bootStage1
      rw [if_neg (by simp [hheld, hsel, hstage])]
      rfl
  case application =>
    have hstarts := starts_startSteps p s.saf.gate s.startCore
    rw [applicationStart_runs p hheld hstage]
    exact ⟨(hstarts.regs _ (by decide)).trans (startCore_stage s), hstarts.running, rfl⟩
  case ready =>
    unfold ready
    rw [if_neg (by simp [hheld, hstage, hexch])]
    refine ⟨rfl, ?_, ?_, Core.rd_wr_same _ _ _, ?_⟩
    · simp (disch := decide) only [Core.rd_wr_ne, Core.rd_wr_same]
      rfl
    · simp (disch := decide) only [Core.rd_wr_ne, Core.rd_wr_same]
      rfl
    · repeat' refine fieldsOnly_wr ?_ (by simp)
      exact fieldsOnly_csr rfl
  case early => simp [ready, hexch]

end Sys2Proof.Machine
end

section
/-! PROOF. O47: the converter stops at the third reading from 125 °C by a write that may lie behind the cut-off of its tick (R17, R573). -/

namespace Sys2Proof.Machine

/-- R17: the ticks run, and the latest instant of the tick lies behind the write cut-off. -/
def Core.Late (c : Core) : Prop := c.tick.running = true ∧ 16 * (c.period - 4) < c.tick.phase

theorem Core.phase_le_instant (c : Core) : c.tick.phase ≤ c.instant := by
  unfold Core.instant
  split
  · exact Nat.le_add_right _ _
  · exact Nat.le_refl _

theorem Core.Late.pastCutOff {c : Core} (h : c.Late) : c.pastCutOff = true := by
  obtain ⟨hrun, hphase⟩ := h
  simp [Core.pastCutOff, hrun, Nat.lt_of_lt_of_le hphase c.phase_le_instant]

/-- No instant is before the latest one. -/
theorem Core.Late.raise {c : Core} (h : c.Late) (n src prim : Nat) : (c.raise n src prim).Late :=
  ⟨h.1, Nat.lt_of_lt_of_le h.2 c.phase_le_instant⟩

theorem Core.Late.wr {c : Core} (h : c.Late) {f : Fld} (v : Nat) (hf : F.TICK_ACT.PERIOD.key ≠ f.key) : (c.wr f v).Late := by
  refine ⟨h.1, ?_⟩
  rw [Core.period, Core.rd_wr_ne _ _ hf]
  exact h.2

theorem Core.Late.wrS {c : Core} (h : c.Late) (f : Fld) (v : Int) (hf : F.TICK_ACT.PERIOD.key ≠ f.key) : (c.wrS f v).Late := h.wr _ hf

theorem Core.Late.setThm {c : Core} (h : c.Late) (m : ThmSt) : ({ c with thm := m } : Core).Late := h

theorem late_thmCount {c : Core} (h : c.Late) (f : Fld) (hf : F.TICK_ACT.PERIOD.key ≠ f.key) (here : Bool) (ms : Nat) :
    (thmCount f here ms c).1.Late := by
  unfold thmCount
  split
  · exact h
  · split
    · exact h.wr _ hf
    · exact h

theorem late_thmEval {c : Core} (h : c.Late) (t : Int) : (thmEval t c).Late := by
  have hshown : ∀ {d : Core} (lvl : Nat), d.Late → (if d.rd F.THM_LVL.LVL = lvl then d else (d.wr F.THM_LVL.LVL lvl).raise 120 0 lvl).Late := by
    intro d lvl hd
    split
    · exact hd
    · exact (hd.wr _ (by decide)).raise _ _ _
  have hread := hshown (max (thmNext t c.thm).lvl (min 2 (c.rd F.THM_LVL.MINLVL)))
    ((h.wrS F.THM_TEMP.TEMP t (by decide)).wrS F.THM_TEMP.MAX (if c.rdS F.THM_TEMP.MAX < t then t else c.rdS F.THM_TEMP.MAX) (by decide))
  have hcounted := late_thmCount (late_thmCount hread F.THM_CNT.L1 (by decide)
    (max (thmNext t c.thm).lvl (min 2 (c.rd F.THM_LVL.MINLVL)) == 1) c.thm.ms1) F.THM_CNT.L2 (by decide)
    (max (thmNext t c.thm).lvl (min 2 (c.rd F.THM_LVL.MINLVL)) == 2) c.thm.ms2
  unfold thmEval
  dsimp only
  generalize (if 1250 ≤ t then (thmNext t c.thm).hot + 1 else 0) = hot
  split
  · exact Core.Late.raise (Core.Late.wr (hcounted.setThm _) (f := F.THM_LVL.HOTSEEN) _ (by decide)) _ _ _
  · exact hcounted.setThm _

/-- R17: the module's own write of ON is held, with the mark of its instant. -/
theorem fieldWrite_on (c : Core) :
    fieldWrite F.CNV_CTRL.ON 0 c = { c.moment with wait := c.wait ++ [⟨F.CNV_CTRL.ON, 0, .normal, c.pastCutOff, .super⟩] } := by
  have hplace : ∀ (late : Bool) (d : Core), placeWrite .super F.CNV_CTRL.ON .normal 0 late d =
      holdWrite ⟨F.CNV_CTRL.ON, 0, .normal, late && inCtl F.CNV_CTRL.ON.off, .super⟩ d := fun _ _ => rfl
  have hctl : inCtl F.CNV_CTRL.ON.off = true := by decide
  rw [fieldWrite, if_pos hctl, hplace, hctl, Bool.and_true]
  exact holdWrite_of_heldUnseen (c := c.moment) (show F.CNV_CTRL.ON.heldUnseen = true by decide)

/-- R573: without a valid standby the action at 125 °C ends with the write that stops the converter, with the mark of its instant. -/
theorem hotAction_wait {c : Core} (h : c.active = false) (hlate : c.Late) :
    (hotAction c).wait = c.wait ++ [⟨F.CNV_CTRL.ON, 0, .normal, true, .super⟩] := by
  have hsave : saveTrigger 4 c = { c with est := (saveTrigger 4 c).est } := by
    unfold saveTrigger
    split <;> rfl
  have hcut : (saveTrigger 4 c).pastCutOff = true := by
    rw [hsave]
    exact hlate.pastCutOff
  unfold hotAction
  dsimp only
  rw [if_neg (by simp [h]), fieldWrite_on, hcut, hsave]

/-- CTL runs, the tick is about to end, and two readings from 125 °C have come in a row. -/
def hotLateState : State :=
  { State.reset with
    core := { State.reset.core with
      tick := { State.reset.core.tick with running := true, phase := 16 * State.reset.core.period - 1 }
      thm := { State.reset.core.thm with hot := 2 } } }

theorem hotLateState_late : hotLateState.core.Late := by
  unfold Core.Late
  decide

theorem hotLateState_third : (thmEval 1250 hotLateState.core).thm.hot = 3 ∧ (thmEval 1250 hotLateState.core).active = false ∧
    (thmEval 1250 hotLateState.core).wait = [] := by decide

/-- Refutes O47: the write that stops the converter at the third reading is one of the tick's writes (R17). Its clause has that write before
the cut-off in every state; in `hotLateState` the reading comes behind the cut-off, and the write bears the late mark. -/
theorem not_thermalEvaluate : ¬ Obligations.ThermalEvaluate := by
  unfold Obligations.ThermalEvaluate
  intro h
  obtain ⟨-, hthird, -⟩ := h hotLateState 1250 rfl (by decide)
  obtain ⟨u, hexec, -, -, -, -, hmem, -⟩ := hthird (by decide) ⟨rfl, by decide⟩ (.inl (by decide))
  obtain ⟨hhot, hactive, hwait⟩ := hotLateState_third
  have hcore : u.core = hotAction (thmEval 1250 hotLateState.core) := by
    have hu : u = onCore (fun c => if (thmEval 1250 c).thm.hot = 3 then hotAction (thmEval 1250 c) else thmEval 1250 c) hotLateState :=
      (Host.Outcome.next.inj hexec).symm
    rw [hu, onCore_run _ rfl]
    dsimp only
    rw [if_pos hhot]
  rw [hcore, hotAction_wait hactive (late_thmEval hotLateState_late 1250), hwait] at hmem
  exact absurd hmem (by decide)

end Sys2Proof.Machine
end

section
/-! PROOF. O45: the service port (R529, R530). -/

namespace Sys2Proof.Machine

/-! ### The answer of a request -/

theorem Core.raise_cross (c : Core) (n src prim : Nat) : (c.raise n src prim).irq.cross = c.irq.cross ++ [n] := rfl

theorem usbAnswer_csr (status : Nat) (data : List Nat) (c : Core) : (usbAnswer status data c).csr = c.csr := by
  unfold usbAnswer Core.when
  split
  · exact Core.send_csr _ _
  · exact Core.send_csr _ _

@[simp] theorem rd_usbAnswer (status : Nat) (data : List Nat) (c : Core) (f : Fld) : (usbAnswer status data c).rd f = c.rd f :=
  Core.rd_of_csr (usbAnswer_csr status data c) f

theorem usbAnswer_out (status : Nat) (data : List Nat) (c : Core) : (usbAnswer status data c).out = .usb status data :: c.out := by
  have hsend : (c.send (.usb status data)).out = .usb status data :: c.out := Core.send_out _ _ rfl
  unfold usbAnswer Core.when
  split
  · exact hsend
  · exact hsend

theorem usbAnswer_svc (status : Nat) (data : List Nat) (c : Core) : (usbAnswer status data c).svc = c.svc := by
  unfold usbAnswer Core.when
  split
  · exact Core.send_svc _ _
  · exact Core.send_svc _ _

theorem usbAnswer_cross (status : Nat) (data : List Nat) (c : Core) : c.irq.cross ⊆ (usbAnswer status data c).irq.cross := by
  unfold usbAnswer Core.when
  split
  · rw [Core.raise_cross, Core.send_irq]
    exact List.subset_append_left _ _
  · rw [Core.send_irq]
    exact List.Subset.refl _

/-- R434: source 117 tells of the transfer while the firmware runs. -/
theorem usbAnswer_raises {status : Nat} {data : List Nat} {c : Core} (h : c.rd F.GLB_BOOT.STAGE = 3) :
    117 ∈ (usbAnswer status data c).irq.cross := by
  unfold usbAnswer Core.when
  rw [if_pos (by simp [h])]
  dsimp only
  rw [Core.raise_cross]
  simp

/-- From `c` to `d` a request has been answered. -/
def Core.Told (status : Nat) (data : List Nat) (c d : Core) : Prop :=
  d.out = .usb status data :: c.out ∧ (c.rd F.GLB_BOOT.STAGE = 3 → 117 ∈ d.irq.cross)

theorem told_usbAnswer {status : Nat} {data : List Nat} {c d : Core} (ho : d.out = c.out)
    (hs : d.rd F.GLB_BOOT.STAGE = c.rd F.GLB_BOOT.STAGE) : c.Told status data (usbAnswer status data d) :=
  ⟨by rw [usbAnswer_out, ho], fun h => usbAnswer_raises (hs.trans h)⟩

theorem fieldsOnly_usbAnswer {fs : List Fld} {c d : Core} (h : fieldsOnly fs c d) (status : Nat) (data : List Nat) :
    fieldsOnly fs c (usbAnswer status data d) := fieldsOnly_of_csr h (usbAnswer_csr status data d)

/-- R528: a request outside a session answers NOAUTH. -/
theorem inService_noauth {f : State → State} {s : State} (hheld : s.pwr.held = false) (hatt : s.core.on F.SVC_STAT.ATTACH = true)
    (hses : s.core.on F.SVC_STAT.SESSION = false) : inService f s = { s with core := usbAnswer 1 [] s.core } := by
  simp [inService, hheld, hatt, hses, onCore]

/-- R529: a detached port answers nothing. -/
theorem inService_detached {f : State → State} {s : State} (hatt : s.core.on F.SVC_STAT.ATTACH = false) : inService f s = s := by
  simp [inService, hatt]

/-! ### Sessions -/

/-- R529: a session is closed. -/
def Core.Closed (c : Core) : Prop := c.rd F.SVC_STAT.SESSION = 0 ∧ c.rd F.SVC_STAT.KEY = 0 ∧ 116 ∈ c.irq.cross

/-- R529: a session ends. -/
def sessionFlds : List Fld := [F.SVC_STAT.SESSION, F.SVC_STAT.KEY]

theorem sessionEnd_closes {c : Core} (h : c.on F.SVC_STAT.SESSION = true) :
    fieldsOnly sessionFlds c (sessionEnd c) ∧ (sessionEnd c).out = c.out ∧ (sessionEnd c).Closed := by
  unfold sessionEnd
  rw [if_pos h]
  refine ⟨fieldsOnly_raise (fieldsOnly_wr (fieldsOnly_wr (fieldsOnly_refl _ _) (by simp [sessionFlds])) (by simp [sessionFlds])), rfl, ?_, ?_, ?_⟩
  · rw [Core.rd_raise]
    simp (disch := decide) only [Core.wrB, Core.rd_wr_ne, Core.rd_wr_same]
    rfl
  · rw [Core.rd_raise]
    simp (disch := decide) only [Core.wrB, Core.rd_wr_same]
    rfl
  · rw [Core.raise_cross]
    simp

theorem sessionEnd_none {c : Core} (h : c.on F.SVC_STAT.SESSION = false) : sessionEnd c = c := if_neg (by simp [h])

theorem Core.on_wr_ne (c : Core) {f g : Fld} (v : Nat) (h : g.key ≠ f.key) : (c.wr f v).on g = c.on g := by simp [Core.on, Core.rd_wr_ne _ _ h]

/-- R529: HELLO of an attached port. -/
theorem svcHello_answers {c : Core} (h : c.on F.SVC_STAT.ATTACH = true) : ∃ x : Int, (svcHello c).svc.nonce = some x ∧ noRegister c (svcHello c) ∧
    c.Told 0 [c.rd2 F.GLB_SER_LO.SER F.GLB_SER_HI.SER, 9590, c.rd F.UPD_RUNVER.VER, c.rd F.UPD_RUNVER.SVER, c.updStat, x.toNat] (svcHello c) := by
  unfold svcHello
  rw [if_neg (by simp [h])]
  refine ⟨Config.freeInt 12 c.free, ?_, fun f => ?_, told_usbAnswer rfl rfl⟩
  · rw [usbAnswer_svc]
    rfl
  · rw [rd_usbAnswer]
    rfl

/-- R529: what bars AUTH. -/
def Core.barred (c : Core) : Prop :=
  c.on F.SVC_CTRL.BLOCK = true ∨ (c.on F.BLC_SEAL.SEALED = false ∧ c.rd F.GLB_BOOT.STAGE ≠ 7) ∨ c.on F.SVC_STAT.LOCKOUT = true

theorem svcAuth_barred {key : Nat} {ok : Bool} {c : Core} (h : c.on F.SVC_STAT.ATTACH = true) (hb : c.barred) : svcAuth key ok c = usbAnswer 2 [] c := by
  unfold svcAuth
  rw [if_neg (by simp [h]), if_pos]
  rcases hb with hb | ⟨hsealed, hstage⟩ | hb
  · simp [hb]
  · simp [hsealed, hstage]
  · simp [hb]

theorem not_barred_iff {c : Core} : ¬ c.barred ↔
    (c.on F.SVC_CTRL.BLOCK || !(c.on F.BLC_SEAL.SEALED || c.rd F.GLB_BOOT.STAGE == 7) || c.on F.SVC_STAT.LOCKOUT) = false := by
  unfold Core.barred
  cases c.on F.SVC_CTRL.BLOCK <;> cases c.on F.BLC_SEAL.SEALED <;> cases c.on F.SVC_STAT.LOCKOUT <;> simp

/-- R529: AUTH with a signature that verifies over the last nonce. -/
theorem svcAuth_opens {key : Nat} {c : Core} (h : c.on F.SVC_STAT.ATTACH = true) (hb : ¬ c.barred) (hn : c.svc.nonce ≠ none) :
    fieldsOnly [F.SVC_STAT.SESSION, F.SVC_STAT.KEY, F.SVC_STAT.FAILS, F.SVC_CNT.SESSIONS] c (svcAuth key true c) ∧ c.Told 0 [] (svcAuth key true c) ∧
      (svcAuth key true c).rd F.SVC_STAT.SESSION = 1 ∧ (svcAuth key true c).rd F.SVC_STAT.KEY = key % 4 ∧
      (svcAuth key true c).rd F.SVC_STAT.FAILS = 0 ∧ 116 ∈ (svcAuth key true c).irq.cross := by
  have hopens : svcAuth key true c = usbAnswer 0 []
      ((((c.wrB F.SVC_STAT.SESSION true).wr F.SVC_STAT.KEY key).wr F.SVC_STAT.FAILS 0).cntSat F.SVC_CNT.SESSIONS |>.raise 116 0 1) := by
    unfold svcAuth
    rw [if_neg (by simp [h]), if_neg (by rw [not_barred_iff.mp hb]; exact Bool.false_ne_true), if_pos (by simpa [Option.isSome_iff_ne_none] using hn)]
  rw [hopens]
  refine ⟨fieldsOnly_usbAnswer (fieldsOnly_raise ?_) _ _, told_usbAnswer rfl ?_, ?_, ?_, ?_, usbAnswer_cross _ _ _ ?_⟩
  · exact fieldsOnly_cntSat (fieldsOnly_wr (fieldsOnly_wr (fieldsOnly_wr (fieldsOnly_refl _ _) (by simp)) (by simp)) (by simp)) (by simp)
  · rw [Core.rd_raise]
    simp (disch := decide) only [Core.wrB, Core.cntSat_eq, Core.rd_wr_ne]
  · rw [rd_usbAnswer, Core.rd_raise]
    simp (disch := decide) only [Core.wrB, Core.cntSat_eq, Core.rd_wr_ne, Core.rd_wr_same]
    rfl
  · rw [rd_usbAnswer, Core.rd_raise]
    simp (disch := decide) only [Core.wrB, Core.cntSat_eq, Core.rd_wr_ne, Core.rd_wr_same]
    rfl
  · rw [rd_usbAnswer, Core.rd_raise]
    simp (disch := decide) only [Core.wrB, Core.cntSat_eq, Core.rd_wr_ne, Core.rd_wr_same]
    rfl
  · rw [Core.raise_cross]
    simp

/-- R529: the failures that AUTH counts, and the lockout at the third. -/
def failFlds : List Fld := [F.SVC_STAT.FAILS, F.SVC_CNT.AUTHFAIL, F.SVC_STAT.LOCKOUT, F.SVC_STAT.LOCKT]

/-- R529: AUTH that fails, as the resettable part before its answer. -/
def authFailed (c : Core) : Core :=
  let c1 := (c.wr F.SVC_STAT.FAILS (c.rd F.SVC_STAT.FAILS + 1)).cntSat F.SVC_CNT.AUTHFAIL
  if 3 ≤ c.rd F.SVC_STAT.FAILS + 1 then
    (({ c1 with svc := { c1.svc with lockMs := 600000 } } : Core).wrB F.SVC_STAT.LOCKOUT true).wr F.SVC_STAT.LOCKT 600
  else c1

theorem svcAuth_fails {key : Nat} {ok : Bool} {c : Core} (h : c.on F.SVC_STAT.ATTACH = true) (hb : ¬ c.barred) (hn : ¬ (ok = true ∧ c.svc.nonce ≠ none)) :
    svcAuth key ok c = usbAnswer 2 [] (authFailed c) := by
  unfold svcAuth
  rw [if_neg (by simp [h]), if_neg (by rw [not_barred_iff.mp hb]; exact Bool.false_ne_true),
    if_neg (by simpa [Option.isSome_iff_ne_none] using hn)]
  rfl

theorem authFailed_early {c : Core} (h : c.rd F.SVC_STAT.FAILS < 2) :
    authFailed c = (c.wr F.SVC_STAT.FAILS (c.rd F.SVC_STAT.FAILS + 1)).cntSat F.SVC_CNT.AUTHFAIL := if_neg (by omega)

theorem authFailed_shows (c : Core) : fieldsOnly failFlds c (authFailed c) ∧ (authFailed c).out = c.out ∧
    (authFailed c).rd F.SVC_STAT.FAILS = (c.rd F.SVC_STAT.FAILS + 1) % 4 ∧
    (authFailed c).rd F.SVC_CNT.AUTHFAIL = min 65535 (c.rd F.SVC_CNT.AUTHFAIL + 1) ∧
    (c.rd F.SVC_STAT.FAILS < 2 → (authFailed c).rd F.SVC_STAT.LOCKOUT = c.rd F.SVC_STAT.LOCKOUT) ∧
    (2 ≤ c.rd F.SVC_STAT.FAILS → (authFailed c).rd F.SVC_STAT.LOCKOUT = 1 ∧ (authFailed c).rd F.SVC_STAT.LOCKT = 600) := by
  have hcount : (c.wr F.SVC_STAT.FAILS (c.rd F.SVC_STAT.FAILS + 1)).rd F.SVC_CNT.AUTHFAIL = c.rd F.SVC_CNT.AUTHFAIL := Core.rd_wr_ne _ _ (by decide)
  have hsat : min (2 ^ F.SVC_CNT.AUTHFAIL.width - 1) (c.rd F.SVC_CNT.AUTHFAIL + 1) % 2 ^ F.SVC_CNT.AUTHFAIL.width =
      min 65535 (c.rd F.SVC_CNT.AUTHFAIL + 1) := Nat.mod_eq_of_lt (by simp only [F.SVC_CNT.AUTHFAIL]; omega)
  have hfields : fieldsOnly failFlds c ((c.wr F.SVC_STAT.FAILS (c.rd F.SVC_STAT.FAILS + 1)).cntSat F.SVC_CNT.AUTHFAIL) :=
    fieldsOnly_cntSat (fieldsOnly_wr (fieldsOnly_refl _ _) (by simp [failFlds])) (by simp [failFlds])
  rcases Nat.lt_or_ge (c.rd F.SVC_STAT.FAILS) 2 with h | h
  · rw [authFailed_early h]
    refine ⟨hfields, rfl, ?_, ?_, fun _ => ?_, fun h' => by omega⟩
    · simp (disch := decide) only [Core.cntSat_eq, Core.rd_wr_ne, Core.rd_wr_same]
      rfl
    · simp (disch := decide) only [Core.cntSat_eq, Core.rd_wr_same, hcount, hsat]
    · simp (disch := decide) only [Core.cntSat_eq, Core.rd_wr_ne]
  · unfold authFailed
    dsimp only
    rw [if_pos (by omega)]
    refine ⟨fieldsOnly_wr (fieldsOnly_wr (fieldsOnly_of_csr hfields rfl) (by simp [failFlds])) (by simp [failFlds]), rfl, ?_, ?_, fun h' => by omega, fun _ => ⟨?_, ?_⟩⟩
    · simp (disch := decide) only [Core.wrB, Core.rd_wr_ne]
      refine (Core.rd_of_csr (d := (c.wr F.SVC_STAT.FAILS (c.rd F.SVC_STAT.FAILS + 1)).cntSat F.SVC_CNT.AUTHFAIL) rfl _).trans ?_
      simp (disch := decide) only [Core.cntSat_eq, Core.rd_wr_ne, Core.rd_wr_same]
      rfl
    · simp (disch := decide) only [Core.wrB, Core.rd_wr_ne]
      refine (Core.rd_of_csr (d := (c.wr F.SVC_STAT.FAILS (c.rd F.SVC_STAT.FAILS + 1)).cntSat F.SVC_CNT.AUTHFAIL) rfl _).trans ?_
      simp (disch := decide) only [Core.cntSat_eq, Core.rd_wr_same, hcount, hsat]
    · simp (disch := decide) only [Core.wrB, Core.rd_wr_ne, Core.rd_wr_same]
      rfl
    · exact Core.rd_wr_same _ _ _

theorem svcAuth_refuses {key : Nat} {ok : Bool} {c : Core} (h : c.on F.SVC_STAT.ATTACH = true) (hb : ¬ c.barred)
    (hn : ¬ (ok = true ∧ c.svc.nonce ≠ none)) : fieldsOnly failFlds c (svcAuth key ok c) ∧ c.Told 2 [] (svcAuth key ok c) ∧
      (svcAuth key ok c).rd F.SVC_STAT.FAILS = (c.rd F.SVC_STAT.FAILS + 1) % 4 ∧
      (svcAuth key ok c).rd F.SVC_CNT.AUTHFAIL = min 65535 (c.rd F.SVC_CNT.AUTHFAIL + 1) ∧
      (c.rd F.SVC_STAT.FAILS < 2 → (svcAuth key ok c).rd F.SVC_STAT.LOCKOUT = c.rd F.SVC_STAT.LOCKOUT) ∧
      (2 ≤ c.rd F.SVC_STAT.FAILS → (svcAuth key ok c).rd F.SVC_STAT.LOCKOUT = 1 ∧ (svcAuth key ok c).rd F.SVC_STAT.LOCKT = 600) := by
  obtain ⟨hfields, hout, hfails, hcnt, hearly, hlock⟩ := authFailed_shows c
  rw [svcAuth_fails h hb hn]
  simp only [rd_usbAnswer]
  exact ⟨fieldsOnly_usbAnswer hfields _ _, told_usbAnswer hout (hfields _ (by decide)), hfails, hcnt, hearly, hlock⟩

/-- R529: the lockout ends. -/
theorem lockoutOver_ends {c : Core} (h : c.on F.SVC_STAT.LOCKOUT = true) :
    fieldsOnly [F.SVC_STAT.LOCKOUT, F.SVC_STAT.FAILS, F.SVC_STAT.LOCKT] c (lockoutOver c) ∧ (lockoutOver c).rd F.SVC_STAT.LOCKOUT = 0 ∧
      (lockoutOver c).rd F.SVC_STAT.FAILS = 0 ∧ (lockoutOver c).rd F.SVC_STAT.LOCKT = 0 := by
  unfold lockoutOver
  rw [if_pos h]
  refine ⟨?_, ?_, ?_, Core.rd_wr_same _ _ _⟩
  · exact fieldsOnly_wr (fieldsOnly_wr (fieldsOnly_wr (fieldsOnly_csr rfl) (by simp)) (by simp)) (by simp)
  · simp (disch := decide) only [Core.wrB, Core.rd_wr_ne, Core.rd_wr_same]
    rfl
  · simp (disch := decide) only [Core.rd_wr_ne, Core.rd_wr_same]
    rfl

theorem lockoutOver_none {c : Core} (h : c.on F.SVC_STAT.LOCKOUT = false) : lockoutOver c = c := if_neg (by simp [h])

/-! ### A register write and a reset through the port -/

/-- R38: a register write outside a session is ignored and counted. -/
theorem svcWrite_counted {off v : Nat} {late : Bool} {s : State} (hheld : s.pwr.held = false) (hatt : s.core.on F.SVC_STAT.ATTACH = true)
    (hses : s.core.on F.SVC_STAT.SESSION = false) :
    svcWrite off v late s = { s with core := usbAnswer 1 [] (accViol .svc 0 (off % 524288) s.core) } := by
  unfold svcWrite
  rw [if_pos (by simp [hatt, hses]), onCore_run _ hheld]

/-- R530: a write of the scratch register within a session. -/
theorem svcWrite_scratch {v : Nat} {late : Bool} {s : State} (hheld : s.pwr.held = false) (hatt : s.core.on F.SVC_STAT.ATTACH = true)
    (hses : s.core.on F.SVC_STAT.SESSION = true) :
    svcWrite 0x20 v late s = { s with core := usbAnswer 0 [] (s.core.wr F.GLB_SCRATCH.DATA (v % 2 ^ 32)) } := by
  have hplain := plain_scratch
  have hreg : (regAt F.GLB_SCRATCH.DATA.off).filter (Fld.writableBy .svc .imm) = [F.GLB_SCRATCH.DATA] := rfl
  have hword : F.GLB_SCRATCH.DATA.bitsOf v = v % 2 ^ 32 := by simp [Fld.bitsOf, F.GLB_SCRATCH.DATA]
  have hwrite : busWrite .svc 0x20 v 15 .normal late s = { s with core := s.core.wr F.GLB_SCRATCH.DATA (v % 2 ^ 32) } := by
    have hdirect : busWrite .svc 0x20 v 15 .normal late s = regWrite .svc F.GLB_SCRATCH.DATA.off v (2 ^ 32 - 1) .normal late s := by
      have hrest := hplain.not_restricted s.core .svc .normal v
      have hset := hplain.not_beyondSet s
      have hoff : normalOff (csrOff .svc 0x20) = F.GLB_SCRATCH.DATA.off := rfl
      have hreach : s.core.reaches .svc 0x20 = true := hses
      have hblock : ¬ blockCount ≤ F.GLB_SCRATCH.DATA.off / 16384 := by decide
      simp [busWrite, hoff, hrest, hset, hreach, hblock, viewFn, privileged]
    rw [hdirect, hplain.regWrite_eq, onCore_run _ hheld, hplain.writeFields_imm, hreg]
    rw [← hword]
    rfl
  unfold svcWrite
  rw [if_neg (by simp [hatt, hses]), inService_runs hheld hatt hses]
  rw [show aliasOf 0x20 = .normal from rfl, hwrite]
  exact onCore_run _ hheld

/-- R517: what has gone out before a reset stays in the trace. -/
theorem deviceReset_out {code : Nat} {dog : Bool} {s : State} (hup : s.up) (hp : s.pwr.pcycLow = false) :
    s.core.out ⊆ (deviceReset code dog s).core.out := by
  have hsteps := (resetSteps_kept dog s).core.out
  have hjournal := (journalReset_kept (resetSteps dog s).aon ((resetSteps dog s).nv, (resetSteps dog s).core)).core.out
  rw [deviceReset_runs hup hp]
  exact List.Subset.trans hsteps hjournal

/-- R522: none is performed while the input is lost or PCYC_N is low. -/
theorem deviceReset_none {code : Nat} {dog : Bool} {s : State} (h : s.pwr.vin ≠ .on ∨ s.pwr.pcycLow = true) : deviceReset code dog s = s := by
  rcases h with h | h <;> simp [deviceReset, h]

/-! ### O45 -/

/-- What the port and its sessions show of every request: with it detached nothing, and outside a session NOAUTH. -/
theorem service_requests {off v idx key : Nat} {late ok : Bool} {data words : List Nat} {s : State} (hheld : s.pwr.held = false) :
    (s.core.on F.SVC_STAT.ATTACH = false → ∀ i ∈ Instr.svcHello :: .svcAuth key ok :: .svcRegWrite off v late ::
      [.svcRegRead off, .svcEvrRead idx, .svcUpload off data ok ok v, .updCommit, .updCancel, .blcWrite words ok, .svcReset, .svcStatus, .sessionEnd],
      Ends i s fun t => t = s) ∧
    (s.core.on F.SVC_STAT.ATTACH = true → s.core.on F.SVC_STAT.SESSION = false → ∀ i ∈
      [Instr.svcRegRead off, .svcEvrRead idx, .svcUpload off data ok ok v, .updCommit, .updCancel, .blcWrite words ok, .svcReset, .svcStatus, .sessionEnd],
      Ends i s fun t => t = { s with core := usbAnswer 1 [] s.core }) := by
  have hrequest : ∀ i ∈ [Instr.svcRegRead off, .svcEvrRead idx, .svcUpload off data ok ok v, .updCommit, .updCancel, .blcWrite words ok, .svcReset,
      .svcStatus, .sessionEnd], ∃ f : State → State, exec i s = .next (inService f s) := by
    intro i hi
    simp only [List.mem_cons, List.not_mem_nil, or_false] at hi
    rcases hi with rfl | rfl | rfl | rfl | rfl | rfl | rfl | rfl | rfl <;> exact ⟨_, rfl⟩
  refine ⟨fun hatt i hi => ?_, fun hatt hses i hi => ?_⟩
  · rcases List.mem_cons.mp hi with rfl | hi
    · exact ends_onCore svcHello hheld rfl (congrArg (fun c => ({ s with core := c } : State)) (by simp [svcHello, hatt]))
    rcases List.mem_cons.mp hi with rfl | hi
    · exact ends_onCore (svcAuth key ok) hheld rfl (congrArg (fun c => ({ s with core := c } : State)) (by simp [svcAuth, hatt]))
    rcases List.mem_cons.mp hi with rfl | hi
    · refine ⟨_, rfl, ?_⟩
      rw [svcWrite, if_neg (by simp [hatt]), inService_detached hatt]
    · obtain ⟨f, hf⟩ := hrequest i hi
      exact ⟨_, hf, inService_detached hatt⟩
  · obtain ⟨f, hf⟩ := hrequest i hi
    exact ⟨_, hf, inService_noauth hheld hatt hses⟩

/-- A request within a session that is an effect on the resettable part alone. -/
theorem ends_inService {i : Instr} {s : State} {P : State → Prop} (f : Core → Core) (hheld : s.pwr.held = false)
    (hatt : s.core.on F.SVC_STAT.ATTACH = true) (hses : s.core.on F.SVC_STAT.SESSION = true)
    (he : exec i s = .next (inService (onCore f) s)) (h : P { s with core := f s.core }) : Ends i s P := by
  refine ⟨_, he, ?_⟩
  rw [inService_runs hheld hatt hses, onCore_run _ hheld]
  exact h

/-- Settles O45: attachment, HELLO and AUTH first, then what a session gives. -/
theorem serviceCommands : Obligations.ServiceCommands := by
  unfold Obligations.ServiceCommands
  intro s off v idx key late ok b data words hheld c requests here inside only tells closed barred good
  obtain ⟨hdetached, hnoauth⟩ := service_requests (off := off) (v := v) (idx := idx) (key := key) (late := late) (ok := ok) (data := data)
    (words := words) hheld
  refine ⟨fun hatt => hdetached (by simpa [here] using hatt), fun hatt hses i hi => ?noauth, fun hatt hses => ⟨_, rfl, ?counted⟩, ?attach, fun hses => ?detach,
    fun hatt => ?hello, fun hatt hb => ?barredAuth, fun hatt hb hg => ?opens, fun hatt hb hg => ?fails, fun h => ?locked, fun hms hlock => ?unlocked,
    fun hses => ?quiet, fun hses => ?timeout, ?block, fun hin => ⟨?read, ⟨_, rfl, ?write⟩, ?evr, ?status, ?ends, ⟨_, rfl, ?blc⟩,
      fun hvin hp => ⟨_, rfl, ?reset⟩, fun hno => ⟨_, rfl, ?noreset⟩⟩⟩
  case noauth =>
    obtain ⟨t, hexec, rfl⟩ := hnoauth hatt hses i hi
    exact ⟨_, hexec, ⟨rfl, fieldsOnly_usbAnswer (fieldsOnly_refl _ _) _ _⟩, told_usbAnswer rfl rfl⟩
  case counted =>
    obtain ⟨hfields, -, hcnt, -, -, hoff⟩ := accViol_counts (m := .svc) (c := s.core) (kind := 0) (off := off % 524288) (by decide) (Nat.mod_lt _ (by decide))
    rw [svcWrite_counted hheld hatt hses]
    refine ⟨⟨rfl, fieldsOnly_usbAnswer hfields _ _⟩, told_usbAnswer rfl (hfields _ (by decide)), ?_, ?_⟩
    · exact (rd_usbAnswer _ _ _ _).trans hcnt
    · exact (rd_usbAnswer _ _ _ _).trans hoff
  case attach =>
    exact ends_onCore (usbAttach true) hheld rfl ⟨⟨rfl, fieldsOnly_wr (fieldsOnly_refl _ _) (by simp)⟩, Core.rd_wr_same _ _ _⟩
  case detach =>
    have hses' : (s.core.wrB F.SVC_STAT.ATTACH false).on F.SVC_STAT.SESSION = true := (Core.on_wr_ne _ _ (by decide)).trans hses
    obtain ⟨hfields, -, hclosed⟩ := sessionEnd_closes hses'
    refine ends_onCore (usbAttach false) hheld rfl ⟨⟨rfl, ?_⟩, ?_, hclosed⟩
    · exact fieldsOnly_trans (fieldsOnly_wr (fieldsOnly_refl _ _) (by simp)) (fieldsOnly_mono hfields (by simp [sessionFlds]))
    · exact (hfields F.SVC_STAT.ATTACH (by decide)).trans (Core.rd_wr_same _ _ _)
  case hello =>
    obtain ⟨x, hx, hregs, htold⟩ := svcHello_answers hatt
    exact ends_onCore svcHello hheld rfl ⟨⟨rfl, fun f _ => hregs f⟩, x, hx, htold⟩
  case barredAuth =>
    refine ends_onCore (svcAuth key ok) hheld rfl ?_
    rw [svcAuth_barred hatt hb]
    exact ⟨⟨rfl, fieldsOnly_usbAnswer (fieldsOnly_refl _ _) _ _⟩, told_usbAnswer rfl rfl⟩
  case opens =>
    obtain ⟨rfl, hn⟩ := hg
    obtain ⟨hfields, htold, h⟩ := svcAuth_opens (key := key) hatt hb hn
    exact ends_onCore (svcAuth key true) hheld rfl ⟨⟨rfl, hfields⟩, htold, h⟩
  case fails =>
    obtain ⟨hfields, htold, h⟩ := svcAuth_refuses (key := key) (ok := ok) hatt hb hg
    exact ends_onCore (svcAuth key ok) hheld rfl ⟨⟨rfl, hfields⟩, htold, h⟩
  case locked =>
    refine ends_onCore (fun c => if c.svc.lockMs = 0 then lockoutOver c else c) hheld rfl (congrArg (fun c => ({ s with core := c } : State)) ?_)
    rcases h with h | h
    · exact if_neg h
    · rw [lockoutOver_none h, ite_self]
  case unlocked =>
    obtain ⟨hfields, h⟩ := lockoutOver_ends hlock
    refine ends_onCore (fun c => if c.svc.lockMs = 0 then lockoutOver c else c) hheld rfl ?_
    dsimp only
    rw [if_pos hms]
    exact ⟨⟨rfl, hfields⟩, h⟩
  case quiet => exact ends_onCore sessionEnd hheld rfl (congrArg (fun c => ({ s with core := c } : State)) (sessionEnd_none hses))
  case timeout =>
    obtain ⟨hfields, -, hclosed⟩ := sessionEnd_closes hses
    exact ends_onCore sessionEnd hheld rfl ⟨⟨rfl, hfields⟩, hclosed⟩
  case block =>
    refine ends_onCore (svcBlock b) hheld rfl ?_
    cases b
    · exact ⟨⟨rfl, fieldsOnly_wr (fieldsOnly_refl _ _) (by simp)⟩, Core.rd_wr_same _ _ _, nofun⟩
    · have hwr : fieldsOnly [F.SVC_CTRL.BLOCK] s.core (s.core.wrB F.SVC_CTRL.BLOCK true) := fieldsOnly_wr (fieldsOnly_refl _ _) (by simp)
      have hon : (s.core.wrB F.SVC_CTRL.BLOCK true).on F.SVC_STAT.SESSION = s.core.on F.SVC_STAT.SESSION := Core.on_wr_ne _ _ (by decide)
      cases hses : s.core.on F.SVC_STAT.SESSION
      · have hnone : svcBlock true s.core = s.core.wrB F.SVC_CTRL.BLOCK true := sessionEnd_none (hon.trans hses)
        rw [hnone]
        exact ⟨⟨rfl, fieldsOnly_mono hwr (by simp)⟩, Core.rd_wr_same _ _ _, fun _ h => absurd h Bool.false_ne_true⟩
      · obtain ⟨hfields, -, hclosed⟩ := sessionEnd_closes (hon.trans hses)
        exact ⟨⟨rfl, fieldsOnly_trans (fieldsOnly_mono hwr (by simp)) (fieldsOnly_mono hfields (by simp [sessionFlds]))⟩,
          (hfields F.SVC_CTRL.BLOCK (by decide)).trans (Core.rd_wr_same _ _ _), fun _ _ => hclosed⟩
  case read =>
    exact ends_inService (fun c => usbAnswer 0 (leBytes 4 (c.busRead .svc off 15)) c) hheld hin.1 hin.2 rfl
      ⟨⟨rfl, fieldsOnly_usbAnswer (fieldsOnly_refl _ _) _ _⟩, told_usbAnswer rfl rfl⟩
  case write =>
    have hwr : fieldsOnly [F.GLB_SCRATCH.DATA] s.core (s.core.wr F.GLB_SCRATCH.DATA (v % 2 ^ 32)) := fieldsOnly_wr (fieldsOnly_refl _ _) (by simp)
    rw [svcWrite_scratch hheld hin.1 hin.2]
    refine ⟨⟨rfl, fieldsOnly_usbAnswer hwr _ _⟩, ?_, told_usbAnswer rfl (hwr _ (by decide))⟩
    exact (rd_usbAnswer _ _ _ _).trans ((Core.rd_wr_same _ _ _).trans (Nat.mod_mod _ _))
  case evr =>
    refine ⟨_, rfl, ?_⟩
    rw [inService_runs hheld hin.1 hin.2, onCore_run _ hheld]
    exact ⟨⟨rfl, fieldsOnly_usbAnswer (fieldsOnly_refl _ _) _ _⟩, told_usbAnswer rfl rfl⟩
  case status =>
    exact ends_inService (fun c => usbAnswer 0 c.updWords c) hheld hin.1 hin.2 rfl
      ⟨⟨rfl, fieldsOnly_usbAnswer (fieldsOnly_refl _ _) _ _⟩, told_usbAnswer rfl rfl⟩
  case ends =>
    obtain ⟨hfields, hout, hsession, hkey, hcross⟩ := sessionEnd_closes hin.2
    refine ends_inService (fun c => usbAnswer 0 [] (sessionEnd c)) hheld hin.1 hin.2 rfl
      ⟨⟨rfl, fieldsOnly_usbAnswer hfields _ _⟩, told_usbAnswer hout (hfields _ (by decide)), ?_, ?_, usbAnswer_cross _ _ _ hcross⟩
    · exact (rd_usbAnswer _ _ _ _).trans hsession
    · exact (rd_usbAnswer _ _ _ _).trans hkey
  case blc =>
    rw [inService_runs hheld hin.1 hin.2, onNv_run _ hheld]
    exact ⟨rfl, rfl, fun f => rd_usbAnswer _ _ _ f, told_usbAnswer rfl rfl⟩
  case reset =>
    have h := deviceReset_reset (code := 2) (dog := false) (s := { s with core := usbAnswer 0 [] s.core }) ⟨hvin, hheld⟩ hp
    have hout := deviceReset_out (code := 2) (dog := false) (s := { s with core := usbAnswer 0 [] s.core }) ⟨hvin, hheld⟩ hp
    obtain ⟨hrestart, -, hlast, hstage, -, hwait⟩ := h.shows (by decide)
    rw [inService_runs hheld hin.1 hin.2, onCore_run _ hheld]
    refine ⟨hrestart, hstage, hlast, hwait, h.saf, h.aon, hout ?_⟩
    dsimp only
    rw [usbAnswer_out]
    exact List.mem_cons_self
  case noreset =>
    rw [inService_runs hheld hin.1 hin.2, onCore_run _ hheld, deviceReset_none (s := { s with core := usbAnswer 0 [] s.core }) hno]
    exact ⟨⟨rfl, fieldsOnly_usbAnswer (fieldsOnly_refl _ _) _ _⟩, told_usbAnswer rfl rfl⟩

end Sys2Proof.Machine
end

section
/-! PROOF. O46: the field update (R531 to R541, R544). -/

namespace Sys2Proof.Machine

/-! ### What shows the update -/

/-- The block of UPD. -/
def updBlks : List Nat := [F.UPD_STAT.STATE.block]

/-- From `c` to `d` only registers of UPD differ; the trace stands; sources only assert. -/
structure Core.UpdOnly (c d : Core) : Prop where
  regs : blocksOnly updBlks c d
  out : d.out = c.out
  cross : c.irq.cross ⊆ d.irq.cross

theorem Core.UpdOnly.refl (c : Core) : c.UpdOnly c := ⟨blocksOnly_refl _ _, rfl, List.Subset.refl _⟩
theorem Core.UpdOnly.trans {c d e : Core} (h : c.UpdOnly d) (g : d.UpdOnly e) : c.UpdOnly e :=
  ⟨blocksOnly_trans h.regs g.regs, g.out.trans h.out, List.Subset.trans h.cross g.cross⟩

theorem updOnly_wr (c : Core) (f : Fld) (v : Nat) (hf : f.block ∈ updBlks) : c.UpdOnly (c.wr f v) :=
  ⟨blocksOnly_wr (blocksOnly_refl _ _) hf, rfl, List.Subset.refl _⟩

theorem updOnly_raise (c : Core) (n src prim : Nat) : c.UpdOnly (c.raise n src prim) := ⟨blocksOnly_csr rfl, rfl, List.subset_append_left _ _⟩

theorem updOnly_svc (c : Core) (v : SvcSt) : c.UpdOnly { c with svc := v } := ⟨blocksOnly_csr rfl, rfl, List.Subset.refl _⟩

theorem updOnly_updShow (q : NC) : q.2.UpdOnly (updShow q).2 := by
  have hpins : (updShow q).2.out = q.2.out ∧ (updShow q).2.irq = q.2.irq :=
    forUp_invariant (P := fun d : Core => d.out = q.2.out ∧ d.irq = q.2.irq) ⟨rfl, rfl⟩ fun _ _ hd => hd
  refine ⟨blocksOnly_of_fieldsOnly (updShow_fields q) (by decide), hpins.1, ?_⟩
  rw [hpins.2]
  exact List.Subset.refl _

theorem updShow_done (q : NC) : (updShow q).2.rd F.UPD_PROG.DONE = q.1.upd.done % 65536 := by
  unfold updShow
  dsimp only
  refine forUp_induction (P := fun d : Core => d.rd F.UPD_PROG.DONE = q.1.upd.done % 65536) ?_ fun k hk d hd => ?_
  · simp (disch := decide) only [Core.rd_wr_same, Core.rd_wr_ne]
    rfl
  · refine (Core.rd_wr_ne _ _ ?_).trans hd
    simp [Fld.key, F.UPD_PROG.DONE, F.UPD_TGTHASH.HASH]
    omega

theorem updShow_err (q : NC) : (updShow q).2.rd F.UPD_STAT.ERR = q.2.rd F.UPD_STAT.ERR := updShow_rd (by decide)

/-- The memories but the update journal stand. -/
theorem setUpd_eq (nv : NvSt) (f : UpdSt → UpdSt) : nv.setUpd f = { nv with upd := f nv.upd } := rfl

/-- R532: a package is discarded. -/
theorem pkgDiscard_shows {err : Nat} (herr : err < 16) (q : NC) : q.2.UpdOnly (pkgDiscard err q).2 ∧
    (pkgDiscard err q).1 = { q.1 with upd := (pkgDiscard err q).1.upd } ∧ (pkgDiscard err q).1.upd.state = 0 ∧
    (pkgDiscard err q).1.upd.pkg = [] ∧ (pkgDiscard err q).2.rd F.UPD_STAT.STATE = 0 ∧ (pkgDiscard err q).2.rd F.UPD_STAT.ERR = err := by
  unfold pkgDiscard
  refine ⟨(updOnly_wr _ F.UPD_STAT.ERR _ (by decide)).trans (updOnly_updShow (_, _)), rfl, rfl, rfl, updShow_state _, ?_⟩
  rw [updShow_err]
  exact (Core.rd_wr_same _ _ _).trans (Nat.mod_eq_of_lt herr)

/-- R532 to R534: a package is accepted. -/
theorem pkgAccept_shows (q : NC) : q.2.UpdOnly (pkgAccept q).2 ∧ (pkgAccept q).1 = { q.1 with upd := (pkgAccept q).1.upd } ∧
    (pkgAccept q).1.upd.state = 3 ∧ (pkgAccept q).2.rd F.UPD_STAT.STATE = 3 ∧ (pkgAccept q).2.rd F.UPD_STAT.ERR = 0 ∧
    (pkgAccept q).2.rd F.UPD_PROG.DONE = 0 ∧ (pkgAccept q).1.upd.ver = q.1.upd.field 12 2 ∧ (pkgAccept q).1.upd.hash = q.1.upd.field 56 32 ∧
    (pkgAccept q).1.upd.total = ceilDiv (q.1.upd.field 20 4) 65536 := by
  unfold pkgAccept
  refine ⟨((updOnly_wr _ F.UPD_STAT.ERR _ (by decide)).trans (updOnly_svc _ _)).trans (updOnly_updShow (_, _)), rfl, rfl, updShow_state _, ?_, updShow_done _, rfl, rfl, rfl⟩
  rw [updShow_err]
  exact Core.rd_wr_same q.2 F.UPD_STAT.ERR 0

/-- R536, R537, R541: an apply ends without a target. -/
theorem applyFail_shows (err : Nat) (q : NC) : q.2.UpdOnly (applyFail err q).2 ∧ (applyFail err q).1.upd.state = 0 ∧
    (applyFail err q).2.rd F.UPD_STAT.STATE = 0 ∧ ((applyFail err q).1.img q.1.target).valid = false ∧
    (applyFail err q).1.img (!q.1.target) = q.1.img (!q.1.target) ∧
    (err ≠ 0 → err < 16 → (applyFail err q).2.rd F.UPD_STAT.ERR = err) := by
  have herr : q.2.UpdOnly (if err = 0 then q.2 else q.2.wr F.UPD_STAT.ERR err) := by
    split
    · exact .refl _
    · exact updOnly_wr _ F.UPD_STAT.ERR _ (by decide)
  unfold applyFail
  refine ⟨herr.trans (updOnly_updShow (_, _)), rfl, updShow_state _, ?_, ?_, fun h0 hlt => ?_⟩
  · rw [updShow_nv]
    cases htarget : q.1.target <;> simp [NvSt.setImg, NvSt.img, NvSt.setUpd]
  · rw [updShow_nv]
    cases htarget : q.1.target <;> simp [NvSt.setImg, NvSt.img, NvSt.setUpd]
  · rw [updShow_err]
    dsimp only
    rw [if_neg h0]
    exact (Core.rd_wr_same _ _ _).trans (Nat.mod_eq_of_lt hlt)

/-! ### The bytes of a package -/

theorem Tab.get_putList_below {α : Type} [DecidableEq α] (d : α) (vs : List α) {k n : Nat} (h : k < n) (t : Tab α) :
    Tab.get d (Tab.putList d t n vs) k = Tab.get d t k := by
  induction vs generalizing t n with
  | nil => rfl
  | cons v vs ih => exact (ih (by omega) _).trans (Tab.get_put_ne _ _ _ (by omega))

theorem Tab.get_putList_at {α : Type} [DecidableEq α] (d : α) (vs : List α) {i : Nat} (h : i < vs.length) (t : Tab α) (n : Nat) :
    Tab.get d (Tab.putList d t n vs) (n + i) = vs.getD i d := by
  induction vs generalizing t n i with
  | nil => exact absurd h (Nat.not_lt_zero _)
  | cons v vs ih =>
    cases i with
    | zero => exact (Tab.get_putList_below d vs (by omega) _).trans (Tab.get_put_same _ _ _ _)
    | succ i =>
      have hi := ih (Nat.lt_of_succ_lt_succ h) (Tab.put d t n v) (n + 1)
      rw [Nat.add_assoc, Nat.add_comm 1 i] at hi
      exact hi

theorem Tab.getList_congr {α : Type} (d : α) {t u : Tab α} {k n : Nat} (h : ∀ i, i < k + n → Tab.get d t i = Tab.get d u i) :
    Tab.getList d t k n = Tab.getList d u k n := by
  induction n generalizing k with
  | zero => rfl
  | succ n ih => simp only [Tab.getList, h k (by omega), ih (k := k + 1) fun i hi => h i (by omega)]

/-- A field of the package that the new bytes do not reach. -/
theorem UpdSt.field_congr {u w : UpdSt} {a n : Nat} (h : ∀ i, i < a + n → Tab.get 0 u.pkg i = Tab.get 0 w.pkg i) : u.field a n = w.field a n := by
  unfold UpdSt.field
  rw [Tab.getList_congr 0 h]

theorem UpdSt.field_word (u : UpdSt) (a : Nat) : u.field a 2 = Tab.get 0 u.pkg a % 256 + 256 * (Tab.get 0 u.pkg (a + 1) % 256) := by
  simp [UpdSt.field, Tab.getList]

theorem UpdSt.field_byte (u : UpdSt) (a : Nat) : u.field a 1 = Tab.get 0 u.pkg a % 256 := by simp [UpdSt.field, Tab.getList]

/-! ### An upload (R532, R533) -/

/-- R533: the package with the bytes of one request. -/
def UpdSt.taken (off : Nat) (data : List Nat) (u : UpdSt) : UpdSt :=
  let u1 := if off = 0 then { u with pkg := [], got := 0, headOk := false, full := none } else u
  { u1 with state := 1, pkg := Tab.putList 0 u1.pkg off data, got := if off ≤ u1.got then max u1.got (off + data.length) else u1.got }

/-- R532, R533: what a request does once its bytes are taken, out of the boot-failed state. -/
def uploadChecked (sigOk : Bool) (q : NC) : NC :=
  if q.1.upd.got < 88 then updShow q
  else
    let e := if q.1.upd.headOk then 0 else headErr false q.1 q.2
    if e ≠ 0 then pkgDiscard e q
    else
      let nv2 := q.1.setUpd (fun u => { u with headOk := true, full := none })
      if nv2.upd.got < nv2.upd.whole then updShow (nv2, q.2) else if sigOk then pkgAccept (nv2, q.2) else pkgDiscard 5 (nv2, q.2)

/-- R532: a package that begins clears the error shown. -/
def uploadHead (off : Nat) (c : Core) : Core := if off = 0 then c.wr F.UPD_STAT.ERR 0 else c

theorem upload_opens {off : Nat} {data : List Nat} {sigOk hashOk : Bool} {sfw : Nat} {q : NC} (hrom : q.2.rd F.GLB_BOOT.STAGE ≠ 7)
    (hst : q.1.upd.state < 3) (ho : off = 0 ∨ q.1.upd.state = 1) :
    upload off data sigOk hashOk sfw q = uploadChecked sigOk (q.1.setUpd (UpdSt.taken off data), uploadHead off q.2) := by
  have hrom' : (q.2.rd F.GLB_BOOT.STAGE == 7) = false := by simp [hrom]
  have hrun : ¬ (off ≠ 0 ∧ q.1.upd.state ≠ 1) := by omega
  unfold upload
  dsimp only
  rw [if_neg (by omega), if_neg hrun, hrom']
  simp only [Bool.false_eq_true, if_false]
  rfl

theorem updOnly_uploadHead (off : Nat) (c : Core) : c.UpdOnly (uploadHead off c) := by
  unfold uploadHead
  split
  · exact updOnly_wr _ _ _ (by decide)
  · exact .refl c

theorem uploadChecked_waits {sigOk : Bool} {q : NC} (h : q.1.upd.got < 88) : uploadChecked sigOk q = updShow q := if_pos h

/-- R532: the first check that a header fails. -/
theorem uploadChecked_refuses {sigOk : Bool} {q : NC} {e : Nat} (hgot : 88 ≤ q.1.upd.got) (hhead : q.1.upd.headOk = false) (he : e ≠ 0)
    (herr : headErr false q.1 q.2 = e) : uploadChecked sigOk q = pkgDiscard e q := by
  unfold uploadChecked
  simp only [hhead, herr, Bool.false_eq_true, if_false]
  rw [if_neg (by omega), if_pos he]

/-- R532: the package is complete, and its header has passed. -/
theorem uploadChecked_whole {sigOk : Bool} {q : NC} (hgot : 88 ≤ q.1.upd.got) (hhead : q.1.upd.headOk = true) (hwhole : q.1.upd.whole ≤ q.1.upd.got) :
    uploadChecked sigOk q =
      if sigOk then pkgAccept (q.1.setUpd (fun u => { u with headOk := true, full := none }), q.2)
      else pkgDiscard 5 (q.1.setUpd (fun u => { u with headOk := true, full := none }), q.2) := by
  have hlen : ¬ (q.1.setUpd (fun u => { u with headOk := true, full := none })).upd.got <
      (q.1.setUpd (fun u => { u with headOk := true, full := none })).upd.whole := Nat.not_lt.mpr hwhole
  unfold uploadChecked
  simp only [hhead, if_true]
  rw [if_neg (by omega), if_neg (by simp), if_neg hlen]

/-- R532: a format or a kind that is not known. -/
theorem headErr_format {nv : NvSt} {c : Core} (h : nv.upd.field 0 2 ≠ 1) : headErr false nv c = 1 := by
  unfold headErr
  dsimp only
  rw [if_pos (.inl h)]

theorem headErr_device {nv : NvSt} {c : Core} (hformat : nv.upd.field 0 2 = 1) (hkind : nv.upd.field 2 1 = 1) (h : nv.upd.field 4 2 ≠ 9590) :
    headErr false nv c = 2 := by
  unfold headErr
  dsimp only
  rw [if_neg (by simp [hformat, hkind]), if_pos h]

/-- R533: an upload that leads to no reset, with its answer. -/
theorem uploadStep_runs {off : Nat} {data : List Nat} {sigOk hashOk : Bool} {sfw : Nat} {s : State} {r : NC} (hheld : s.pwr.held = false)
    (hr : upload off data sigOk hashOk sfw (s.nv, s.core) = r) (hno : ¬ (r.2.rd F.GLB_BOOT.STAGE = 7 ∧ r.2.rd F.UPD_STAT.ERR = 0)) :
    uploadStep off data sigOk hashOk sfw s =
      { s with nv := r.1, core := usbAnswer (if r.2.rd F.UPD_STAT.ERR = 0 then 0 else 2) r.2.updWords r.2 } := by
  unfold uploadStep
  rw [onNv_run _ hheld, hr]
  dsimp only
  rw [if_neg (by tauto)]
  exact onCore_run _ hheld

/-! ### Chunks (R534, R535, R537) -/

/-- R535: the new checkpoint governs. -/
theorem check_governs (u : UpdSt) : u.check.governs.map Ckpt.chunks = some (u.done + 1) := by
  unfold UpdSt.check
  dsimp only
  split
  · next h =>
    have hlt : u.ck0.seq < max u.ck0.seq u.ck1.seq + 1 := by omega
    simp [UpdSt.governs, h.2, hlt]
  · have hge : ¬ max u.ck0.seq u.ck1.seq + 1 < u.ck1.seq := by omega
    cases hvalid : u.ck1.valid <;> simp [UpdSt.governs, hvalid, hge]

theorem check_kept (u : UpdSt) : u.check = { u with done := u.done + 1, ck0 := u.check.ck0, ck1 := u.check.ck1 } := by
  unfold UpdSt.check
  dsimp only
  split <;> rfl

/-- R534: the memories and the resettable part once a chunk has its checkpoint. -/
def chunkChecked (q : NC) : NC := updShow (q.1.setUpd UpdSt.check, q.2.raise 114 0 (q.1.setUpd UpdSt.check).upd.done)

theorem chunkChecked_shows (q : NC) : q.2.UpdOnly (chunkChecked q).2 ∧ 114 ∈ (chunkChecked q).2.irq.cross ∧ (chunkChecked q).2.svc = q.2.svc := by
  have hshow := updOnly_updShow (q.1.setUpd UpdSt.check, q.2.raise 114 0 (q.1.setUpd UpdSt.check).upd.done)
  refine ⟨(updOnly_raise _ _ _ _).trans hshow, hshow.cross ?_, updShow_svc _⟩
  rw [Core.raise_cross]
  simp

theorem chunkApplied_eq {hashOk : Bool} {sfw : Nat} {q : NC} (hst : q.1.upd.state = 3) (hres : q.2.svc.resume = false) :
    chunkApplied hashOk sfw q =
      if q.2.svc.stop then applyFail 0 (chunkChecked q)
      else if q.1.upd.done + 1 < q.1.upd.total then chunkChecked q
      else if hashOk then
        updShow (((q.1.setUpd UpdSt.check).setImg q.1.target (fun _ => ⟨true, q.1.upd.ver, q.1.upd.sver, q.1.upd.hash, sfw⟩)).setUpd
          (fun u => { u with state := 4 }), (chunkChecked q).2.raise 115 0 0)
      else applyFail 9 (q.1.setUpd UpdSt.check, (chunkChecked q).2.raise 115 0 9) := by
  have hkept := check_kept q.1.upd
  have hdone : (q.1.setUpd UpdSt.check).upd.done = q.1.upd.done + 1 := by rw [setUpd_eq, hkept]
  have htotal : (q.1.setUpd UpdSt.check).upd.total = q.1.upd.total := by rw [setUpd_eq, hkept]
  have hver : (q.1.setUpd UpdSt.check).upd.ver = q.1.upd.ver := by rw [setUpd_eq, hkept]
  have hsver : (q.1.setUpd UpdSt.check).upd.sver = q.1.upd.sver := by rw [setUpd_eq, hkept]
  have hhash : (q.1.setUpd UpdSt.check).upd.hash = q.1.upd.hash := by rw [setUpd_eq, hkept]
  have htarget : (q.1.setUpd UpdSt.check).target = q.1.target := by rw [setUpd_eq, hkept]; rfl
  have hstop : (chunkChecked q).2.svc.stop = q.2.svc.stop := by rw [(chunkChecked_shows q).2.2]
  unfold chunkApplied
  rw [if_neg (by simp [hst, hres])]
  dsimp only
  rw [← chunkChecked, hstop, hdone, htotal, hver, hsver, hhash, htarget]

/-! ### Confirmation (R540) -/

theorem storedCount_shows {f : Fld} (hw : f.width = 16) (hf : f.block ∈ updBlks) (q : NC) :
    q.2.UpdOnly (storedCount f q).2 ∧ (storedCount f q).2.rd f = min 65535 (q.2.rd f + 1) ∧
      (storedCount f q).1.region.get f = (storedCount f q).2.rd f := by
  have hcount : (q.2.cntSat f).rd f = min 65535 (q.2.rd f + 1) := by
    rw [Core.cntSat_eq, Core.rd_wr_same, hw]
    exact Nat.mod_eq_of_lt (by omega)
  refine ⟨updOnly_wr _ _ _ hf, hcount, ?_⟩
  have hput : (storedCount f q).1.region.get f = (q.2.cntSat f).rd f % 2 ^ f.width := Csr.get_put_same _ _ _
  rw [hput, hcount, hw]
  exact (Nat.mod_eq_of_lt (by omega)).trans hcount.symm

theorem imageConfirm_due {a : AonSt} {q : NC} (htrial : q.2.on F.UPD_STAT.TRIAL = true) (hready : q.2.on F.GLB_BOOT.READY = true)
    (hops : q.2.svc.readyOps + 1000 * max 1 (q.2.rd F.UPD_CFG.CONFIRMT) ≤ a.ops) (hpend : q.1.upd.pend ≠ none) :
    imageConfirm a q = storedCount F.UPD_CNT.APPLIED (updShow (q.1.setUpd (fun u => { u with act := q.2.svc.run, pend := none, tries := 0, state := 0 }),
      q.2.wrB F.UPD_STAT.TRIAL false)) := by
  have hlate : ¬ a.ops < q.2.svc.readyOps + 1000 * max 1 (q.2.rd F.UPD_CFG.CONFIRMT) := by omega
  have hsome : q.1.upd.pend.isNone = false := by simpa [Option.isSome_iff_ne_none] using hpend
  unfold imageConfirm
  rw [if_neg (by simp only [htrial, hready, hsome]; simpa using hlate)]

theorem imageConfirm_early {a : AonSt} {q : NC} (h : ¬ (q.2.on F.UPD_STAT.TRIAL = true ∧ q.2.on F.GLB_BOOT.READY = true ∧
    q.2.svc.readyOps + 1000 * max 1 (q.2.rd F.UPD_CFG.CONFIRMT) ≤ a.ops ∧ q.1.upd.pend ≠ none)) : imageConfirm a q = q := by
  unfold imageConfirm
  refine if_pos ?_
  simp only [Bool.or_eq_true, Bool.not_eq_true', decide_eq_true_eq, Option.isNone_iff_eq_none]
  by_contra hno
  refine h ?_
  simp only [not_or, Bool.not_eq_false] at hno
  obtain ⟨⟨⟨htrial, hready⟩, hops⟩, hpend⟩ := hno
  exact ⟨htrial, hready, by omega, hpend⟩

/-! ### O46 -/

theorem ends_inService_nv {i : Instr} {s : State} {P : State → Prop} (f : AonSt → NvSt → Core → NvSt × Core) (hheld : s.pwr.held = false)
    (hatt : s.core.on F.SVC_STAT.ATTACH = true) (hses : s.core.on F.SVC_STAT.SESSION = true) (he : exec i s = .next (inService (onNv f) s))
    (h : P { s with nv := (f s.aon s.nv s.core).1, core := (f s.aon s.nv s.core).2 }) : Ends i s P := by
  refine ⟨_, he, ?_⟩
  rw [inService_runs hheld hatt hses, onNv_run _ hheld]
  exact h

/-- A request whose answer goes out before the update shows. -/
theorem updShow_answered {nv : NvSt} {status : Nat} {c : Core} :
    blocksOnly updBlks c (updShow (nv, usbAnswer status [] c)).2 ∧ (updShow (nv, usbAnswer status [] c)).2.out = .usb status [] :: c.out := by
  have hshow := updOnly_updShow (nv, usbAnswer status [] c)
  exact ⟨blocksOnly_trans (blocksOnly_csr (usbAnswer_csr status [] c)) hshow.regs, hshow.out.trans (usbAnswer_out ..)⟩

/-- R533: what a state of `uploadStep` shows of the upload behind it, and its answer. -/
theorem ends_upload {off : Nat} {data : List Nat} {sigOk hashOk : Bool} {sfw : Nat} {s : State} {r : NC} {P : State → Prop} (hheld : s.pwr.held = false)
    (hatt : s.core.on F.SVC_STAT.ATTACH = true) (hses : s.core.on F.SVC_STAT.SESSION = true)
    (hr : upload off data sigOk hashOk sfw (s.nv, s.core) = r) (hno : ¬ (r.2.rd F.GLB_BOOT.STAGE = 7 ∧ r.2.rd F.UPD_STAT.ERR = 0))
    (h : P { s with nv := r.1, core := usbAnswer (if r.2.rd F.UPD_STAT.ERR = 0 then 0 else 2) r.2.updWords r.2 }) :
    Ends (.svcUpload off data sigOk hashOk sfw) s P := by
  refine ⟨_, rfl, ?_⟩
  rw [inService_runs hheld hatt hses, uploadStep_runs hheld hr hno]
  exact h

/-- An upload out of the boot-failed state. -/
theorem ends_upload_opens {off : Nat} {data : List Nat} {sigOk hashOk : Bool} {sfw : Nat} {s : State} {r : NC} {P : State → Prop} (hheld : s.pwr.held = false)
    (hatt : s.core.on F.SVC_STAT.ATTACH = true) (hses : s.core.on F.SVC_STAT.SESSION = true) (hrom : s.core.rd F.GLB_BOOT.STAGE ≠ 7)
    (hst : s.nv.upd.state < 3) (hoff : off = 0 ∨ s.nv.upd.state = 1)
    (hr : uploadChecked sigOk (s.nv.setUpd (UpdSt.taken off data), uploadHead off s.core) = r) (honly : (uploadHead off s.core).UpdOnly r.2)
    (h : blocksOnly updBlks s.core (usbAnswer (if r.2.rd F.UPD_STAT.ERR = 0 then 0 else 2) r.2.updWords r.2) →
      (usbAnswer (if r.2.rd F.UPD_STAT.ERR = 0 then 0 else 2) r.2.updWords r.2).out =
        .usb (if r.2.rd F.UPD_STAT.ERR = 0 then 0 else 2) r.2.updWords :: s.core.out →
      P { s with nv := r.1, core := usbAnswer (if r.2.rd F.UPD_STAT.ERR = 0 then 0 else 2) r.2.updWords r.2 }) :
    Ends (.svcUpload off data sigOk hashOk sfw) s P := by
  have honly' := (updOnly_uploadHead off s.core).trans honly
  refine ends_upload hheld hatt hses ((upload_opens (q := (s.nv, s.core)) hrom hst hoff).trans hr) ?_
    (h (blocksOnly_of_csr honly'.regs (usbAnswer_csr ..)) ((usbAnswer_out ..).trans (by rw [honly'.out])))
  rintro ⟨hstage, -⟩
  exact hrom ((honly'.regs _ (by decide)).symm.trans hstage)

/-- R533: the package that a request at offset 0 begins. -/
theorem taken_zero_get {data : List Nat} {i : Nat} (h : i < data.length) (u : UpdSt) : Tab.get 0 (u.taken 0 data).pkg i = data.getD i 0 := by
  have hget := Tab.get_putList_at 0 data h [] 0
  rwa [Nat.zero_add] at hget

theorem taken_zero_got (data : List Nat) (u : UpdSt) : (u.taken 0 data).got = data.length ∧ (u.taken 0 data).headOk = false := by simp [UpdSt.taken]

/-- Bytes behind the header leave its fields. -/
theorem taken_field {off : Nat} (data : List Nat) {u : UpdSt} {a n : Nat} (h0 : off ≠ 0) (h : a + n ≤ off) : (u.taken off data).field a n = u.field a n := by
  refine UpdSt.field_congr fun i hi => ?_
  simp only [UpdSt.taken, if_neg h0]
  exact Tab.get_putList_below 0 data (by omega) u.pkg

/-- Settles O46: uploads, chunks, resume, the requests of the port, the confirmation. -/
theorem updateCommands : Obligations.UpdateCommands := by
  unfold Obligations.UpdateCommands
  intro s off sfw data sigOk hashOk k hheld c u upd inside frame banks shows load got opens word tells gone fails applying chunk resumes due
  refine ⟨fun hin hst => ?busy, fun ho hgot => ?waits, fun ho h0 hlen hw => ?format, fun ho h0 hlen hw hk hd => ?device,
    fun ho hst hhead hlow hcont hwhole => ?complete, fun hno => ?idle, fun happ hstop => ?stopped,
    fun happ hstop hmore => ?chunk, fun happ hstop hlast hok => ?verified, fun happ hstop hlast hbad => ?unverified, fun hno => ?noresume,
    fun hres hsig hck => ?resumed, fun hres hbad => ?abandoned, fun hin hst => ?commit, fun hin hst => ?nocommit, fun hin htrial => ?cancelTrial,
    fun hin htrial hst => ?cancelCommitted, fun hin htrial hst => ?cancelApply, fun hin htrial hst => ?nocancel, fun hno => ?early, fun hdue => ?confirmed⟩
  case busy =>
    have hr : upload off data sigOk hashOk sfw (s.nv, s.core) = (s.nv, s.core.wr F.UPD_STAT.ERR 10) := by
      unfold upload
      exact if_pos hst
    have herr : (s.core.wr F.UPD_STAT.ERR 10).rd F.UPD_STAT.ERR = 10 := Core.rd_wr_same _ _ _
    refine ends_upload hheld hin.1 hin.2 hr (by rw [herr]; omega) ?_
    rw [herr, if_neg (by omega)]
    exact ⟨rfl, fieldsOnly_usbAnswer (fieldsOnly_wr (fieldsOnly_refl _ _) (by simp)) _ _, (rd_usbAnswer ..).trans herr, _, usbAnswer_out ..⟩
  case waits =>
    obtain ⟨hin, hrom, hst, hoff⟩ := ho
    have hgot' : (s.nv.setUpd (UpdSt.taken off data)).upd.got < 88 := by
      refine Nat.lt_of_le_of_lt (Nat.le_of_eq ?_) hgot
      by_cases h0 : off = 0 <;> simp [setUpd_eq, UpdSt.taken, h0, got, u]
    refine ends_upload_opens hheld hin.1 hin.2 hrom hst hoff (uploadChecked_waits hgot') (updOnly_updShow (_, _)) fun hregs hout =>
      ⟨⟨rfl, hregs⟩, rfl, ⟨rfl, ?_⟩, fun i hi => Tab.get_putList_at 0 data hi _ off⟩
    exact (rd_usbAnswer ..).trans (updShow_state _)
  case format =>
    obtain ⟨hin, hrom, hst, hoff⟩ := ho
    subst h0
    have hgot := taken_zero_got data s.nv.upd
    have hfield : (s.nv.setUpd (UpdSt.taken 0 data)).upd.field 0 2 ≠ 1 := by
      rw [setUpd_eq, UpdSt.field_word, taken_zero_get (by omega), taken_zero_get (by omega)]
      exact hw
    obtain ⟨honly, hnv, hstate, hpkg, hshow, herr⟩ := pkgDiscard_shows (err := 1) (by decide) (s.nv.setUpd (UpdSt.taken 0 data), uploadHead 0 s.core)
    refine ends_upload_opens hheld hin.1 hin.2 hrom hst hoff
      (uploadChecked_refuses (hgot.1 ▸ hlen) hgot.2 (by decide) (headErr_format hfield)) honly fun hregs hout => ?_
    rw [herr, if_neg (by decide)] at hregs hout ⊢
    exact ⟨⟨⟨rfl, hregs⟩, ⟨hstate, (rd_usbAnswer ..).trans hshow⟩, hpkg, (rd_usbAnswer ..).trans herr⟩, hnv, _, hout⟩
  case device =>
    obtain ⟨hin, hrom, hst, hoff⟩ := ho
    subst h0
    have hgot := taken_zero_got data s.nv.upd
    have hformat : (s.nv.setUpd (UpdSt.taken 0 data)).upd.field 0 2 = 1 := by
      rw [setUpd_eq, UpdSt.field_word, taken_zero_get (by omega), taken_zero_get (by omega)]
      exact hw
    have hkind : (s.nv.setUpd (UpdSt.taken 0 data)).upd.field 2 1 = 1 := by
      rw [setUpd_eq, UpdSt.field_byte, taken_zero_get (by omega)]
      exact hk
    have hdevice : (s.nv.setUpd (UpdSt.taken 0 data)).upd.field 4 2 ≠ 9590 := by
      rw [setUpd_eq, UpdSt.field_word, taken_zero_get (by omega), taken_zero_get (by omega)]
      exact hd
    obtain ⟨honly, hnv, hstate, hpkg, hshow, herr⟩ := pkgDiscard_shows (err := 2) (by decide) (s.nv.setUpd (UpdSt.taken 0 data), uploadHead 0 s.core)
    refine ends_upload_opens hheld hin.1 hin.2 hrom hst hoff
      (uploadChecked_refuses (hgot.1 ▸ hlen) hgot.2 (by decide) (headErr_device hformat hkind hdevice)) honly fun hregs hout => ?_
    rw [herr, if_neg (by decide)] at hregs hout ⊢
    exact ⟨⟨⟨rfl, hregs⟩, ⟨hstate, (rd_usbAnswer ..).trans hshow⟩, hpkg, (rd_usbAnswer ..).trans herr⟩, hnv, _, hout⟩
  case complete =>
    obtain ⟨hin, hrom, hst3, hoff⟩ := ho
    have h0 : off ≠ 0 := by omega
    have hgot : (s.nv.setUpd (UpdSt.taken off data)).upd.got = max u.got (off + data.length) := by
      simp [setUpd_eq, UpdSt.taken, h0, hcont, u]
    have hhead' : (s.nv.setUpd (UpdSt.taken off data)).upd.headOk = true := by
      simp only [setUpd_eq, UpdSt.taken, if_neg h0]
      exact hhead
    have hfield : ∀ a n, a + n ≤ 88 → (s.nv.setUpd (UpdSt.taken off data)).upd.field a n = u.field a n := fun a n h =>
      taken_field data h0 (Nat.le_trans h hlow)
    have hwhole' : (s.nv.setUpd (UpdSt.taken off data)).upd.whole ≤ (s.nv.setUpd (UpdSt.taken off data)).upd.got := by
      have hlen : (s.nv.setUpd (UpdSt.taken off data)).upd.whole = u.whole := by rw [UpdSt.whole, hfield 16 4 (by decide)]; rfl
      rw [hlen, hgot]
      omega
    have hchecked := uploadChecked_whole (sigOk := sigOk) (q := (s.nv.setUpd (UpdSt.taken off data), uploadHead off s.core)) (by dsimp only; omega) hhead' hwhole'
    refine ⟨fun hsig => ?bad, fun hsig => ?accepted⟩
    case bad =>
      rw [hsig, if_neg Bool.false_ne_true] at hchecked
      obtain ⟨honly, hnv, hstate, hpkg, hshow, herr⟩ := pkgDiscard_shows (err := 5) (by decide)
        ((s.nv.setUpd (UpdSt.taken off data)).setUpd (fun u => { u with headOk := true, full := none }), uploadHead off s.core)
      refine ends_upload_opens hheld hin.1 hin.2 hrom hst3 hoff (hsig ▸ hchecked) honly fun hregs hout => ?_
      rw [herr, if_neg (by decide)] at hregs hout ⊢
      exact ⟨⟨⟨rfl, hregs⟩, ⟨hstate, (rd_usbAnswer ..).trans hshow⟩, hpkg, (rd_usbAnswer ..).trans herr⟩, hnv, _, hout⟩
    case accepted =>
      rw [hsig, if_pos rfl] at hchecked
      obtain ⟨honly, hnv, hstate, hshow, herr, hdone, hver, hhash, htotal⟩ := pkgAccept_shows
        ((s.nv.setUpd (UpdSt.taken off data)).setUpd (fun u => { u with headOk := true, full := none }), uploadHead off s.core)
      refine ends_upload_opens hheld hin.1 hin.2 hrom hst3 hoff (hsig ▸ hchecked) honly fun hregs hout => ?_
      rw [herr, if_pos rfl] at hregs hout ⊢
      refine ⟨⟨rfl, hregs⟩, hnv, ⟨hstate, (rd_usbAnswer ..).trans hshow⟩, (rd_usbAnswer ..).trans herr, (rd_usbAnswer ..).trans hdone, ?_, ?_, ?_, _, hout⟩
      · exact hver.trans (hfield 12 2 (by decide))
      · exact hhash.trans (hfield 56 32 (by decide))
      · exact htotal.trans (congrArg (fun n => ceilDiv n 65536) (hfield 20 4 (by decide)))
  case idle =>
    refine ends_onNv (fun _ nv c => chunkApplied hashOk sfw (nv, c)) hheld rfl ?_
    have hsame : chunkApplied hashOk sfw (s.nv, s.core) = (s.nv, s.core) := by
      unfold chunkApplied
      refine if_pos ?_
      by_contra hboth
      exact hno ⟨by tauto, by simpa using fun h => hboth (.inr h)⟩
    rw [hsame]
  case stopped =>
    refine ends_onNv (fun _ nv c => chunkApplied hashOk sfw (nv, c)) hheld rfl ?_
    rw [chunkApplied_eq happ.1 happ.2, if_pos hstop]
    obtain ⟨honly, -⟩ := chunkChecked_shows (s.nv, s.core)
    obtain ⟨honly', hstate, hshow, hvalid, hother, -⟩ := applyFail_shows 0 (chunkChecked (s.nv, s.core))
    have htarget : (chunkChecked (s.nv, s.core)).1.target = s.nv.target := by
      show (!(s.nv.upd.check).act) = _
      rw [check_kept]
      rfl
    rw [htarget] at hvalid hother
    exact ⟨⟨rfl, (honly.trans honly').regs⟩, ⟨hstate, hshow⟩, hvalid, hother⟩
  case chunk =>
    refine ends_onNv (fun _ nv c => chunkApplied hashOk sfw (nv, c)) hheld rfl ?_
    rw [chunkApplied_eq happ.1 happ.2, if_neg (by simp [c, hstop]), if_pos hmore]
    obtain ⟨honly, hcross, -⟩ := chunkChecked_shows (s.nv, s.core)
    have hst : (s.nv.setUpd UpdSt.check).upd.state = 3 := by
      rw [setUpd_eq, check_kept]
      exact happ.1
    have hdone : (s.nv.setUpd UpdSt.check).upd.done = u.done + 1 := by rw [setUpd_eq, check_kept]
    refine ⟨⟨rfl, honly.regs⟩, rfl, ⟨hst, ?_⟩, hdone, ?_, check_governs _, hcross⟩
    · exact (updShow_state _).trans (by rw [hst])
    · exact (updShow_done _).trans (by rw [hdone])
  case verified =>
    refine ends_onNv (fun _ nv c => chunkApplied hashOk sfw (nv, c)) hheld rfl ?_
    rw [chunkApplied_eq happ.1 happ.2, if_neg (by simp [c, hstop]), if_neg (by simp [u] at hlast ⊢; omega), if_pos hok]
    obtain ⟨honly, -⟩ := chunkChecked_shows (s.nv, s.core)
    have hshow := updOnly_updShow (((s.nv.setUpd UpdSt.check).setImg s.nv.target (fun _ => ⟨true, u.ver, u.sver, u.hash, sfw⟩)).setUpd
      (fun u => { u with state := 4 }), (chunkChecked (s.nv, s.core)).2.raise 115 0 0)
    refine ⟨⟨rfl, ((honly.trans (updOnly_raise _ 115 0 0)).trans hshow).regs⟩, ⟨rfl, updShow_state _⟩, ?_, ?_, hshow.cross ?_⟩
    · rw [updShow_nv]
      cases htarget : s.nv.target <;> rfl
    · rw [updShow_nv]
      cases htarget : s.nv.target <;> rfl
    · rw [Core.raise_cross]
      simp
  case unverified =>
    refine ends_onNv (fun _ nv c => chunkApplied hashOk sfw (nv, c)) hheld rfl ?_
    rw [chunkApplied_eq happ.1 happ.2, if_neg (by simp [c, hstop]), if_neg (by simp [u] at hlast ⊢; omega), if_neg (by simp [hbad])]
    obtain ⟨honly, -⟩ := chunkChecked_shows (s.nv, s.core)
    obtain ⟨honly', hstate, hshow, hvalid, hother, herr⟩ := applyFail_shows 9 (s.nv.setUpd UpdSt.check, (chunkChecked (s.nv, s.core)).2.raise 115 0 9)
    have htarget : (s.nv.setUpd UpdSt.check).target = s.nv.target := by
      rw [setUpd_eq, check_kept]
      rfl
    rw [htarget] at hvalid hother
    refine ⟨⟨⟨rfl, ((honly.trans (updOnly_raise _ 115 0 9)).trans honly').regs⟩, ⟨hstate, hshow⟩, hvalid, hother⟩, herr (by decide) (by decide), honly'.cross ?_⟩
    rw [Core.raise_cross]
    simp
  case noresume =>
    refine ends_onNv (fun _ nv c => applyResume sigOk (nv, c)) hheld rfl ?_
    have hsame : applyResume sigOk (s.nv, s.core) = (s.nv, s.core) := by
      unfold applyResume
      refine if_pos ?_
      by_contra hboth
      simp only [Bool.or_eq_true, Bool.not_eq_true', bne_iff_ne, ne_eq, not_or, Bool.not_eq_false, not_not] at hboth
      exact hno ⟨hboth.1.1, hboth.1.2, hboth.2⟩
    rw [hsame]
  case resumed =>
    refine ends_onNv (fun _ nv c => applyResume sigOk (nv, c)) hheld rfl ?_
    obtain ⟨hsvc, hst, hready⟩ := hres
    have hck' : s.nv.upd.governs = some k := hck
    have hrun : applyResume sigOk (s.nv, s.core) = updShow (s.nv.setUpd (fun u => { u with done := k.chunks }),
        ({ s.core with svc := { s.core.svc with resume := false } } : Core).wrB F.UPD_STAT.RESUMED true) := by
      unfold applyResume
      rw [if_neg (by simp [show s.core.on F.GLB_BOOT.READY = true from hready, show s.core.svc.resume = true from hsvc, show s.nv.upd.state = 3 from hst])]
      simp only [hsig, hck']
    rw [hrun]
    have hshow := updOnly_updShow (s.nv.setUpd (fun u => { u with done := k.chunks }),
        ({ s.core with svc := { s.core.svc with resume := false } } : Core).wrB F.UPD_STAT.RESUMED true)
    refine ⟨⟨rfl, (((updOnly_svc s.core _).trans (updOnly_wr _ F.UPD_STAT.RESUMED _ (by decide))).trans hshow).regs⟩, rfl, ⟨hst, ?_⟩, rfl, ?_, ?_⟩
    · exact (updShow_state _).trans (congrArg (· % 8) hst)
    · exact (updShow_rd (by decide)).trans (Core.rd_wr_same _ _ _)
    · exact congrArg SvcSt.resume (updShow_svc _)
  case abandoned =>
    refine ends_onNv (fun _ nv c => applyResume sigOk (nv, c)) hheld rfl ?_
    obtain ⟨hsvc, hst, hready⟩ := hres
    have hrun : applyResume sigOk (s.nv, s.core) = applyFail 9 (s.nv, { s.core with svc := { s.core.svc with resume := false } }) := by
      unfold applyResume
      rw [if_neg (by simp [show s.core.on F.GLB_BOOT.READY = true from hready, show s.core.svc.resume = true from hsvc, show s.nv.upd.state = 3 from hst])]
      rcases hbad with hbad | hbad
      · simp only [hbad]
      · have hnone : s.nv.upd.governs = none := hbad
        cases sigOk <;> simp only [hnone]
    rw [hrun]
    obtain ⟨honly, hstate, hshow, hvalid, hother, herr⟩ := applyFail_shows 9 (s.nv, { s.core with svc := { s.core.svc with resume := false } })
    exact ⟨⟨⟨rfl, ((updOnly_svc s.core _).trans honly).regs⟩, ⟨hstate, hshow⟩, hvalid, hother⟩, herr (by decide) (by decide)⟩
  case commit =>
    refine ends_inService_nv (fun _ nv c => updCommit (nv, c)) hheld hin.1 hin.2 rfl ?_
    have hrun : updCommit (s.nv, s.core) = updShow (s.nv.setUpd (fun u => { u with state := 5, pend := some (!u.act), tries := 0 }), usbAnswer 0 [] s.core) :=
      if_pos hst
    rw [hrun]
    exact ⟨⟨rfl, updShow_answered.1⟩, rfl, ⟨rfl, updShow_state _⟩, rfl, rfl, _, updShow_answered.2⟩
  case nocommit =>
    refine ends_inService_nv (fun _ nv c => updCommit (nv, c)) hheld hin.1 hin.2 rfl ?_
    have hrun : updCommit (s.nv, s.core) = (s.nv, usbAnswer 2 [] (s.core.wr F.UPD_STAT.ERR 10)) := if_neg hst
    rw [hrun]
    exact ⟨rfl, fieldsOnly_usbAnswer (fieldsOnly_wr (fieldsOnly_refl _ _) (by simp)) _ _, (rd_usbAnswer ..).trans (Core.rd_wr_same _ _ _), _, usbAnswer_out ..⟩
  case cancelTrial =>
    refine ends_inService_nv (fun _ nv c => updCancel (nv, c)) hheld hin.1 hin.2 rfl ?_
    have hrun : updCancel (s.nv, s.core) =
        updShow (s.nv.setUpd (fun u => { u with pend := none, tries := 0, state := 0, ended := true }), usbAnswer 0 [] s.core) := if_pos htrial
    rw [hrun]
    exact ⟨⟨rfl, updShow_answered.1⟩, rfl, ⟨rfl, updShow_state _⟩, rfl, _, updShow_answered.2⟩
  case cancelCommitted =>
    refine ends_inService_nv (fun _ nv c => updCancel (nv, c)) hheld hin.1 hin.2 rfl ?_
    rw [updCancel_committed htrial hst]
    exact ⟨⟨rfl, updShow_answered.1⟩, rfl, ⟨rfl, updShow_state _⟩, rfl, _, updShow_answered.2⟩
  case cancelApply =>
    refine ends_inService_nv (fun _ nv c => updCancel (nv, c)) hheld hin.1 hin.2 rfl ?_
    have hst' : s.nv.upd.state = 3 := hst
    have hrun : updCancel (s.nv, s.core) = (s.nv, usbAnswer 0 [] { s.core with svc := { s.core.svc with stop := true } }) := by
      unfold updCancel
      rw [if_neg (by simp [show s.core.on F.UPD_STAT.TRIAL = false from htrial])]
      simp [hst']
    rw [hrun]
    refine ⟨rfl, fun f => (rd_usbAnswer ..).trans rfl, ?_, _, usbAnswer_out ..⟩
    exact congrArg SvcSt.stop (usbAnswer_svc _ _ _)
  case nocancel =>
    refine ends_inService_nv (fun _ nv c => updCancel (nv, c)) hheld hin.1 hin.2 rfl ?_
    simp only [List.mem_cons, List.not_mem_nil, or_false, not_or] at hst
    have hrun : updCancel (s.nv, s.core) = (s.nv, usbAnswer 2 [] s.core) := by
      unfold updCancel
      rw [if_neg (by simp [show s.core.on F.UPD_STAT.TRIAL = false from htrial]), if_neg hst.2, if_neg hst.1]
    rw [hrun]
    exact ⟨rfl, fun f => rd_usbAnswer .., usbAnswer_svc _ _ _, _, usbAnswer_out ..⟩
  case early =>
    refine ends_onNv (fun a nv c => imageConfirm a (nv, c)) hheld rfl ?_
    rw [imageConfirm_early (q := (s.nv, s.core)) hno]
  case confirmed =>
    refine ends_onNv (fun a nv c => imageConfirm a (nv, c)) hheld rfl ?_
    obtain ⟨htrial, hready, hops, hpend⟩ := hdue
    rw [imageConfirm_due (q := (s.nv, s.core)) htrial hready hops hpend]
    have hshow := updOnly_updShow (s.nv.setUpd (fun u => { u with act := s.core.svc.run, pend := none, tries := 0, state := 0 }), s.core.wrB F.UPD_STAT.TRIAL false)
    obtain ⟨hcount, happlied, hregion⟩ := storedCount_shows (f := F.UPD_CNT.APPLIED) rfl (by decide)
      (updShow (s.nv.setUpd (fun u => { u with act := s.core.svc.run, pend := none, tries := 0, state := 0 }), s.core.wrB F.UPD_STAT.TRIAL false))
    have hother : ∀ g : Fld, g.key ≠ F.UPD_CNT.APPLIED.key → ∀ q : NC, (storedCount F.UPD_CNT.APPLIED q).2.rd g = q.2.rd g := fun g hg q => Core.rd_wr_ne _ _ hg
    refine ⟨⟨rfl, (((updOnly_wr s.core F.UPD_STAT.TRIAL _ (by decide)).trans hshow).trans hcount).regs⟩, ⟨rfl, ?_⟩, rfl, rfl, ?_, ?_, hregion, rfl, rfl⟩
    · exact (hother _ (by decide) _).trans (updShow_state _)
    · refine (hother _ (by decide) _).trans ((updShow_rd (by decide)).trans ?_)
      exact Core.rd_wr_same s.core F.UPD_STAT.TRIAL 0
    · rw [happlied, updShow_rd (by decide)]
      show min 65535 ((s.core.wrB F.UPD_STAT.TRIAL false).rd F.UPD_CNT.APPLIED + 1) = _
      rw [Core.wrB, Core.rd_wr_ne _ _ (by decide)]

end Sys2Proof.Machine
end

section

/-! PROOF. O44: an event frame that a linked port sends raises an event itself -/

namespace Sys2Proof.Machine

/-- Port 1 is on and has link, and one event waits for the event frame. -/
def linkedFrameState : State :=
  { State.reset with
    core := { (State.reset.core.wr (F.NET_PORT.EN 0) 1).wr (F.NET_PORT.LINK 0) 1 with
      ev := { State.reset.core.ev with eth := [⟨1, ⟨2, 0, 0, [], ⟨0, 0⟩⟩, 0, 0, false⟩] } } }

/-- R463: the frame counts at the port it leaves through, and source 97 raises the port's event. -/
theorem linkedFrameState_raises : ((evFrameSend linkedFrameState.core).ev.raw.map Ev.src) = [1] ∧ linkedFrameState.core.ev.raw = [] := by decide

/-- Refutes O44: its clause on the event frame has the events change only by the ones sent. The frame also counts at each port that has
link (R463), which raises source 97 with an event of its own: in `linkedFrameState` that event waits for its ESN afterwards. -/
theorem not_recorderCommands : ¬ Obligations.RecorderCommands := by
  unfold Obligations.RecorderCommands
  intro h
  obtain ⟨-, -, -, -, -, -, -, hsend, -⟩ := h linkedFrameState {} [] 0 0 rfl
  obtain ⟨u, hexec, -, -, hev, -⟩ := hsend (by decide) (by decide)
  have hcore : u.core = evFrameSend linkedFrameState.core := by
    rw [← Host.Outcome.next.inj hexec]
    exact congrArg State.core (onCore_run evFrameSend rfl)
  obtain ⟨hraised, hnone⟩ := linkedFrameState_raises
  rw [← hcore, hev, hnone] at hraised
  exact absurd hraised (by decide)

end Sys2Proof.Machine
end

section

/-! PROOF. O43, O42: the SMBus ports -/

namespace Sys2Proof.Machine

/-! ### The bytes of a word (R483, R489) -/

/-- The word `v` with byte `k` replaced. -/
def byteSet (v k b : Nat) : Nat := v - 2 ^ (8 * k) * bitsAt v (8 * k) 8 + 2 ^ (8 * k) * (b % 256)

theorem bitsAt_byteSet_same {k : Nat} (hk : k < 4) (v b : Nat) : bitsAt (byteSet v k b % 2 ^ 32) (8 * k) 8 = b % 256 := by
  unfold bitsAt byteSet bitsAt
  interval_cases k <;> omega

theorem bitsAt_byteSet_ne {j k : Nat} (hj : j < 4) (hk : k < 4) (h : j ≠ k) (v b : Nat) :
    bitsAt (byteSet v k b % 2 ^ 32) (8 * j) 8 = bitsAt v (8 * j) 8 := by
  unfold bitsAt byteSet bitsAt
  interval_cases k <;> interval_cases j <;> omega

/-- Byte `i` of the words `fld`, counted from the low byte of word 0. -/
def Core.byteAt (fld : Nat → Fld) (c : Core) (i : Nat) : Nat := bitsAt (c.rd (fld (i / 4))) (8 * (i % 4)) 8

/-- One byte of the words `fld` is written. -/
def Core.putByte (fld : Nat → Fld) (i b : Nat) (c : Core) : Core := c.wr (fld (i / 4)) (byteSet (c.rd (fld (i / 4))) (i % 4) b)

section
variable {fld : Nat → Fld} (hwidth : ∀ k, (fld k).width = 32) (hfld : ∀ j k, (fld j).key = (fld k).key → j = k)
include hwidth hfld

theorem byteAt_putByte (i b : Nat) (c : Core) (j : Nat) : (c.putByte fld i b).byteAt fld j = if j = i then b % 256 else c.byteAt fld j := by
  have hi : i % 4 < 4 := Nat.mod_lt _ (by decide)
  have hj : j % 4 < 4 := Nat.mod_lt _ (by decide)
  unfold Core.byteAt Core.putByte
  by_cases hword : j / 4 = i / 4
  · rw [hword, Core.rd_wr_same, hwidth]
    by_cases hbyte : j % 4 = i % 4
    · rw [if_pos (by omega), hbyte, bitsAt_byteSet_same hi]
    · rw [if_neg (by omega), bitsAt_byteSet_ne hj hi hbyte]
  · rw [if_neg (by omega), Core.rd_wr_ne _ _ fun h => hword (hfld _ _ h)]

/-- Bytes that are written one after another from byte 0 stand there, and no other byte changes. -/
theorem byteAt_putBytes (data : Nat → Nat) (n : Nat) (c : Core) (j : Nat) :
    (forUp n (fun i => Core.putByte fld i (data i)) c).byteAt fld j = if j < n then data j % 256 else c.byteAt fld j := by
  induction n with
  | zero => rfl
  | succ n ih =>
    rw [forUp_succ, byteAt_putByte hwidth hfld, ih]
    by_cases hlast : j = n
    · rw [if_pos hlast, if_pos (by omega), hlast]
    · rw [if_neg hlast]
      exact if_congr (by omega) rfl rfl

end

/-- The bytes lie in the words that hold them; nothing but the registers changes. -/
theorem putBytes_kept {fld : Nat → Fld} {fs : List Fld} (data : Nat → Nat) {n : Nat} (hmem : ∀ i < n, fld (i / 4) ∈ fs) (c : Core) :
    let d := forUp n (fun i => Core.putByte fld i (data i)) c
    fieldsOnly fs c d ∧ d = { c with csr := d.csr } := by
  refine forUp_induction (P := fun d : Core => fieldsOnly fs c d ∧ d = { c with csr := d.csr }) ⟨fieldsOnly_refl _ _, rfl⟩ ?_
  rintro i hi d ⟨hd, heq⟩
  refine ⟨fieldsOnly_wr hd (hmem i hi), ?_⟩
  rw [heq]
  rfl

/-! ### SMB1 -/

theorem bitAt_lor_two_pow {k : Nat} (hk : k < 32) (v : Nat) : bitAt (Nat.lor v (2 ^ k) % 2 ^ 32) k = true := by
  have hbit : (Nat.lor v (2 ^ k) % 2 ^ 32).testBit k = true := by
    rw [Nat.testBit_mod_two_pow]
    simp [hk]
  simpa [bitAt, Nat.testBit, Nat.shiftRight_eq_div_pow, Nat.one_and_eq_mod_two] using hbit

theorem forUp_congr {α : Type} {n : Nat} {f g : Nat → α → α} (h : ∀ i < n, ∀ x, f i x = g i x) (x : α) : forUp n f x = forUp n g x := by
  induction n with
  | zero => rfl
  | succ n ih => rw [forUp_succ, forUp_succ, ih fun i hi => h i (by omega), h n (by omega)]

/-- The words of the window from `w` on. -/
def winFrom (w k : Nat) : Fld := F.SMB_T_WINB.WORD (w - 32 + k)

/-- The state of the bytes of a write to word `w`, before the write shows. -/
def committed (w : Nat) (data : List Nat) (c : Core) : Core := forUp data.length (fun i => Core.putByte (winFrom w) i (data.getD i 0)) c

theorem smbCommit_eq {w : Nat} {data : List Nat} (hlen : data.length ≤ 4) (c : Core) : ∃ v : Nat, smbCommit w data c =
    ((committed w data c).wr F.SMB_T_NEW.NEW (Nat.lor ((committed w data c).rd F.SMB_T_NEW.NEW) (2 ^ (w - 32)))).raise 109 w v := by
  have hput : forUp data.length (fun i (c : Core) => c.wr (F.SMB_T_WINB.WORD (w - 32)) (byteSet (c.rd (F.SMB_T_WINB.WORD (w - 32))) i (data.getD i 0))) c
      = committed w data c := by
    refine forUp_congr (fun i hi d => ?_) c
    unfold Core.putByte winFrom
    rw [Nat.div_eq_of_lt (show i < 4 by omega), Nat.mod_eq_of_lt (show i < 4 by omega)]
    rfl
  exact ⟨_, by rw [← hput]; rfl⟩

/-- R489: the bytes of a write stand in its word, whose bit of `SMB_T_NEW` is set. -/
theorem smbCommit_shows {w : Nat} {data : List Nat} (hlow : 32 ≤ w) (hhigh : w ≤ 63) (hlen : data.length ≤ 4) (c : Core) :
    let d := smbCommit w data c
    let f := F.SMB_T_WINB.WORD (w - 32)
    fieldsOnly [f, F.SMB_T_NEW.NEW] c d ∧
      (∀ i < 4, bitsAt (d.rd f) (8 * i) 8 = if i < data.length then data.getD i 0 % 256 else bitsAt (c.rd f) (8 * i) 8) ∧
      bitAt (d.rd F.SMB_T_NEW.NEW) (w - 32) = true ∧ d.irq.cross = c.irq.cross ++ [109] := by
  obtain ⟨v, heq⟩ := smbCommit_eq (w := w) hlen c
  have hword : ∀ i < data.length, winFrom w (i / 4) ∈ [F.SMB_T_WINB.WORD (w - 32), F.SMB_T_NEW.NEW] := fun i hi => by
    simp [winFrom, Nat.div_eq_of_lt (show i < 4 by omega)]
  obtain ⟨hfields, hcsr⟩ := putBytes_kept (fun i => data.getD i 0) hword c
  intro d f
  have hd : d = _ := heq
  refine ⟨?_, fun i hi => ?_, ?_, ?_⟩
  · rw [hd]
    exact fieldsOnly_raise (fieldsOnly_wr hfields (by simp))
  · have hbyte := byteAt_putBytes (fld := winFrom w) (fun _ => rfl) (fun j k h => by simp only [winFrom, Fld.key, F.SMB_T_WINB.WORD] at h; omega)
      (fun i => data.getD i 0) data.length c i
    unfold Core.byteAt at hbyte
    rw [Nat.div_eq_of_lt hi, Nat.mod_eq_of_lt hi] at hbyte
    have hother : d.rd f = (committed w data c).rd (winFrom w 0) := by
      rw [hd]
      exact Core.rd_wr_ne _ _ (by simp only [f, Fld.key, F.SMB_T_WINB.WORD, F.SMB_T_NEW.NEW]; omega)
    rw [hother]
    exact hbyte
  · rw [hd]
    exact (congrArg (bitAt · (w - 32)) (Core.rd_wr_same _ _ _)).trans (bitAt_lor_two_pow (by omega) _)
  · rw [hd, Core.raise_cross]
    have hirq : (committed w data c).irq = c.irq := by
      unfold committed
      rw [hcsr]
    exact congrArg (fun q : IrqSt => q.cross ++ [109]) hirq

/-- A command whose effect on the resettable part is known. -/
theorem ends_onCore_eq {i : Instr} {s : State} {P : State → Prop} {f : Core → Core} {d : Core} (hs : s.pwr.held = false)
    (he : exec i s = .next (onCore f s)) (hf : f s.core = d) (h : P { s with core := d }) : Ends i s P :=
  ends_onCore f hs he (hf ▸ h)

section
variable {addr code : Nat} {data : List Nat} {pecByte : Option Nat} {prev : Bool} {fin : SmbEnd} {c : Core}

theorem smbAnswers_iff : c.smbAnswers addr = true ↔ addr = c.rd F.SMB_T_CFG.ADDR ∧ c.standby = false := by simp [Core.smbAnswers]

theorem smbRefuses_write_iff : c.smbRefuses true prev = true ↔
    (prev = true ∨ c.on F.SMB_T_CFG.EN = false) ∨ c.on F.SMB_T_CFG.OVWR = false ∧ c.rd F.SMB_T_NEW.NEW ≠ 0 := by simp [Core.smbRefuses]

theorem smbRefuses_read_iff : c.smbRefuses false prev = true ↔ prev = true ∨ c.on F.SMB_T_CFG.EN = false := by simp [Core.smbRefuses]

theorem smbWrite_other (h : ¬ c.smbAnswers addr = true) : smbWrite addr code data pecByte prev fin c = c := if_pos (by simpa using h)

theorem smbRead_other (h : ¬ c.smbAnswers addr = true) : smbRead addr code prev fin c = c := if_pos (by simpa using h)

theorem smbWrite_refused (h : c.smbAnswers addr = true) (hr : c.smbRefuses true prev = true) :
    smbWrite addr code data pecByte prev fin c = c.cntSat F.SMB_T_STAT.BUSYNAK := by
  unfold smbWrite
  rw [if_neg (by simp [h]), if_pos hr]

theorem smbRead_refused (h : c.smbAnswers addr = true) (hr : c.smbRefuses false prev = true) :
    smbRead addr code prev fin c = c.cntSat F.SMB_T_STAT.BUSYNAK := by
  unfold smbRead
  rw [if_neg (by simp [h]), if_pos hr]

/-- R489: a write of another word or with a bad count. -/
theorem smbWrite_misfit (h : c.smbAnswers addr = true) (hr : ¬ c.smbRefuses true prev = true)
    (hfit : ¬ (32 ≤ code ∧ code ≤ 63 ∧ 1 ≤ data.length ∧ data.length ≤ 4)) : smbWrite addr code data pecByte prev fin c = c := by
  have hmis : code < 32 ∨ 63 < code ∨ data = [] ∨ 4 < data.length := by
    rw [← List.length_eq_zero_iff]
    omega
  unfold smbWrite
  rw [if_neg (by simp [h]), if_neg hr, if_pos hmis]

theorem smbRead_far (h : c.smbAnswers addr = true) (hr : ¬ c.smbRefuses false prev = true) (hcode : 63 < code) : smbRead addr code prev fin c = c := by
  unfold smbRead
  rw [if_neg (by simp [h]), if_neg hr, if_pos hcode]

theorem smbRead_cut (h : c.smbAnswers addr = true) (hr : ¬ c.smbRefuses false prev = true) (hcode : code ≤ 63) (hcut : fin = .start ∨ fin = .stop) :
    smbRead addr code prev fin c = smbProto c := by
  unfold smbRead
  rw [if_neg (by simp [h]), if_neg hr, if_neg (Nat.not_lt.mpr hcode), if_pos hcut]

/-- R488: the four bytes of the word, and a PEC where one is required. -/
theorem smbRead_returns (h : c.smbAnswers addr = true) (hr : ¬ c.smbRefuses false prev = true) (hcode : code ≤ 63) (hcut : ¬ (fin = .start ∨ fin = .stop)) :
    let v := if code < 32 then c.rd (F.SMB_T_WIN.WORD code) else c.rd (F.SMB_T_WINB.WORD (code - 32))
    let b := [4, v % 256, v / 256 % 256, v / 65536 % 256, v / 16777216 % 256]
    smbRead addr code prev fin c =
      c.send (.smb 1 1 (if c.on F.SMB_T_CFG.PECREQ then b ++ [pec 0 ([2 * addr, code, 2 * addr + 1] ++ b)] else b)) := by
  intro v b
  unfold smbRead
  rw [if_neg (by simp [h])]
  exact ((if_neg hr).trans (if_neg (Nat.not_lt.mpr hcode))).trans (if_neg hcut)

/-- The ends of a write to a word of the window (R489). -/
theorem smbWrite_fits (h : c.smbAnswers addr = true) (hr : ¬ c.smbRefuses true prev = true)
    (hfit : 32 ≤ code ∧ code ≤ 63 ∧ 1 ≤ data.length ∧ data.length ≤ 4) :
    let good := pecByte = some (pec 0 ([2 * addr, code, data.length] ++ data))
    let cut := fin = .start ∨ fin = .stop
    let asks := c.on F.SMB_T_CFG.PECREQ
    (cut ∨ (asks = true ∧ pecByte = none) → smbWrite addr code data pecByte prev fin c = smbProto c) ∧
      (¬ cut → (asks = true ∧ good) ∨ (asks = false ∧ pecByte = none) → smbWrite addr code data pecByte prev fin c =
        if fin = .extra then smbProto (smbCommit code data c) else smbCommit code data c) ∧
      (¬ cut → asks = false → fin = .extra ∨ pecByte ≠ none → smbWrite addr code data pecByte prev fin c = smbProto (smbCommit code data c)) ∧
      (¬ cut → asks = true → pecByte ≠ none → ¬ good → smbWrite addr code data pecByte prev fin c = (c.wrB F.SMB_T_STAT.PECERR true).raise 110 0 2) := by
  have hfits : ¬ (code < 32 ∨ 63 < code ∨ data = [] ∨ 4 < data.length) := by
    rw [← List.length_eq_zero_iff]
    omega
  intro good cut asks
  unfold smbWrite
  rw [if_neg (by simp [h]), if_neg hr, if_neg hfits]
  refine ⟨fun hcut => ?_, fun hcut hgood => ?_, fun hcut hask hpec => ?_, fun hcut hask hpec hgood => ?_⟩
  · by_cases hfin : fin = .start ∨ fin = .stop
    · rw [if_pos hfin]
    · obtain ⟨hask, hnone⟩ := hcut.resolve_left hfin
      rw [if_neg hfin, if_pos hask, hnone]
  · rw [if_neg hcut]
    rcases hgood with ⟨hask, hpec⟩ | ⟨hask, hpec⟩
    · rw [if_pos hask, hpec]
      exact if_pos rfl
    · rw [if_neg (by simp [show c.on F.SMB_T_CFG.PECREQ = false from hask]), hpec]
      simp
  · rw [if_neg hcut, if_neg (by simp [show c.on F.SMB_T_CFG.PECREQ = false from hask])]
    exact if_pos (hpec.imp_right Option.isSome_iff_ne_none.mpr)
  · obtain ⟨p, hp⟩ := Option.ne_none_iff_exists'.mp hpec
    rw [if_neg hcut, if_pos hask, hp]
    exact if_neg fun he => hgood (hp.trans (congrArg some he))

end

/-- A bit is set and its source asserts. -/
theorem set_raise_shows {f : Fld} (hf : f.width = 1) (n src prim : Nat) (c : Core) : fieldsOnly [f] c ((c.wrB f true).raise n src prim) ∧
    ((c.wrB f true).raise n src prim).rd f = 1 ∧ n ∈ ((c.wrB f true).raise n src prim).irq.cross :=
  ⟨fieldsOnly_raise (fieldsOnly_wr (fieldsOnly_refl _ c) (by simp)), (Core.rd_wr_same _ _ _).trans (by rw [hf]; rfl),
    List.mem_append_right _ (List.mem_singleton_self _)⟩

theorem smbProto_shows (c : Core) : fieldsOnly [F.SMB_T_STAT.PROTOERR] c (smbProto c) ∧ (smbProto c).rd F.SMB_T_STAT.PROTOERR = 1 ∧
    110 ∈ (smbProto c).irq.cross := set_raise_shows rfl 110 0 1 c

theorem busyNak_shows (c : Core) : fieldsOnly [F.SMB_T_STAT.BUSYNAK] c (c.cntSat F.SMB_T_STAT.BUSYNAK) ∧
    (c.cntSat F.SMB_T_STAT.BUSYNAK).rd F.SMB_T_STAT.BUSYNAK = min 65535 (c.rd F.SMB_T_STAT.BUSYNAK + 1) :=
  ⟨fieldsOnly_cntSat (fieldsOnly_refl _ c) (by simp), rd_cntSat_same c _⟩

theorem committed_proto {w : Nat} {data : List Nat} (hfit : 32 ≤ w ∧ w ≤ 63 ∧ 1 ≤ data.length ∧ data.length ≤ 4) (c : Core) :
    let d := smbProto (smbCommit w data c)
    let f := F.SMB_T_WINB.WORD (w - 32)
    fieldsOnly [f, F.SMB_T_NEW.NEW, F.SMB_T_STAT.PROTOERR] c d ∧
      ((∀ i < 4, bitsAt (d.rd f) (8 * i) 8 = if i < data.length then data.getD i 0 % 256 else bitsAt (c.rd f) (8 * i) 8) ∧
      bitAt (d.rd F.SMB_T_NEW.NEW) (w - 32) = true ∧ 109 ∈ d.irq.cross) ∧ d.rd F.SMB_T_STAT.PROTOERR = 1 ∧ 110 ∈ d.irq.cross := by
  obtain ⟨hlow, hhigh, -, hlen⟩ := hfit
  obtain ⟨hfields, hbytes, hnew, hcross⟩ := smbCommit_shows hlow hhigh hlen c
  obtain ⟨hproto, herr, h110⟩ := smbProto_shows (smbCommit w data c)
  have hword : ∀ g ∈ [F.SMB_T_STAT.PROTOERR], (F.SMB_T_WINB.WORD (w - 32)).key ≠ g.key := by
    simp [Fld.key, F.SMB_T_WINB.WORD, F.SMB_T_STAT.PROTOERR]
    omega
  intro d f
  refine ⟨fieldsOnly_trans (fieldsOnly_mono hfields (by simp [f])) (fieldsOnly_mono hproto (by simp)), ⟨?_, ?_, ?_⟩, herr, h110⟩
  · rw [show d.rd f = _ from hproto f hword]
    exact hbytes
  · rw [show d.rd F.SMB_T_NEW.NEW = _ from hproto F.SMB_T_NEW.NEW (by decide)]
    exact hnew
  · have h109 : 109 ∈ (smbCommit w data c).irq.cross := by simp [hcross]
    exact List.mem_append_left _ h109

/-- R491: the register and the pin of the alert move together. -/
theorem alertPin_shows (b : Bool) (v : Nat) (c : Core) : let d := (c.wrB F.SMB_T_CTRL.ALERT b).send (.pin alertPin v)
    fieldsOnly [F.SMB_T_CTRL.ALERT] c d ∧ d.rd F.SMB_T_CTRL.ALERT = b2n b ∧ d.out = .pin alertPin v :: c.out := by
  refine ⟨fieldsOnly_send (fieldsOnly_wr (fieldsOnly_refl _ c) (by simp)) _, ?_, Core.send_out _ _ rfl⟩
  rw [Core.rd_send]
  cases b <;> exact Core.rd_wr_same _ _ _

/-- R491: the response to the Alert Response Address that wins arbitration ends the alert. -/
theorem alertResponse_won {c : Core} (hal : c.on F.SMB_T_CTRL.ALERT = true) (hact : c.standby = false) : let d := alertResponse true c
    fieldsOnly [F.SMB_T_CTRL.ALERT, F.SMB_T_STAT.ARADONE] c d ∧ d.rd F.SMB_T_CTRL.ALERT = 0 ∧ d.rd F.SMB_T_STAT.ARADONE = 1 ∧
      d.out = .pin alertPin 1 :: .smb 1 2 [2 * c.rd F.SMB_T_CFG.ADDR] :: c.out := by
  intro d
  have hd : d = (((c.send (.smb 1 2 [2 * c.rd F.SMB_T_CFG.ADDR])).wrB F.SMB_T_CTRL.ALERT false).wrB F.SMB_T_STAT.ARADONE true).send (.pin alertPin 1) :=
    if_neg (by simp [hal, hact])
  rw [hd]
  refine ⟨fieldsOnly_send (fieldsOnly_wr (fieldsOnly_wr (fieldsOnly_csr (Core.send_csr _ _)) (by simp)) (by simp)) _, ?_, ?_, ?_⟩
  · rw [Core.rd_send]
    exact (Core.rd_wr_ne _ _ (by decide)).trans (Core.rd_wr_same _ _ _)
  · rw [Core.rd_send]
    exact Core.rd_wr_same _ _ _
  · rw [Core.send_out _ _ rfl]
    exact congrArg _ (Core.send_out c _ rfl)

/-- Settles O43: each command is one of the ends of the port's transactions. -/
theorem smbTarget : Obligations.SmbTarget := by
  unfold Obligations.SmbTarget
  intro s addr code data pecByte prev won fin hs c only write read mine full busy fits cut asks good nak proto word stored value bytes
  have hwrite : exec write s = .next (onCore (smbWrite addr code data pecByte prev fin) s) := rfl
  have hread : exec read s = .next (onCore (smbRead addr code prev fin) s) := rfl
  have hanswers : mine → c.smbAnswers addr = true := smbAnswers_iff.mpr
  have htaken : ¬ busy → ¬ full → ¬ c.smbRefuses true prev = true := fun hb hf h => (smbRefuses_write_iff.mp h).elim hb hf
  have hshown : ¬ busy → ¬ c.smbRefuses false prev = true := fun hb h => hb (smbRefuses_read_iff.mp h)
  refine ⟨fun hm i hi => ?_, fun hm hr => ?_, fun hm hb => ?_, fun hm hb hf hfit => ?_, fun hm hb hf hfit hcut => ?_, fun hm hb hf hfit hfin hgood => ?_,
    fun hm hb hf hfit hcut hend => ?_, fun hm hb hf hfit hcut hask hpec hgood => ?_, fun hm hb hcode => ?_, fun hm hb hcode hcut => ?_,
    fun hm hb hcode hcut => ?_, ?_, ?_, fun hal => ?_, fun hal => ?_, fun hno => ?_, fun hal hact => ⟨?_, ?_⟩⟩
  case refine_1 =>
    have hother : ¬ c.smbAnswers addr = true := fun h => hm (smbAnswers_iff.mp h)
    simp only [List.mem_cons, List.not_mem_nil, or_false] at hi
    rcases hi with rfl | rfl
    · exact ends_unchanged _ hs hwrite (smbWrite_other hother)
    · exact ends_unchanged _ hs hread (smbRead_other hother)
  case refine_2 =>
    obtain ⟨hfields, hcount⟩ := busyNak_shows c
    exact ends_onCore_eq hs hwrite (smbWrite_refused (hanswers hm) (smbRefuses_write_iff.mpr hr)) ⟨⟨rfl, hfields⟩, hcount⟩
  case refine_3 =>
    obtain ⟨hfields, hcount⟩ := busyNak_shows c
    exact ends_onCore_eq hs hread (smbRead_refused (hanswers hm) (smbRefuses_read_iff.mpr hb)) ⟨⟨rfl, hfields⟩, hcount⟩
  case refine_4 => exact ends_unchanged _ hs hwrite (smbWrite_misfit (hanswers hm) (htaken hb hf) hfit)
  case refine_5 =>
    obtain ⟨hproto, -, -, -⟩ := smbWrite_fits (pecByte := pecByte) (fin := fin) (hanswers hm) (htaken hb hf) hfit
    obtain ⟨hfields, herr, hirq⟩ := smbProto_shows c
    exact ends_onCore_eq hs hwrite (hproto hcut) ⟨⟨rfl, hfields⟩, herr, hirq⟩
  case refine_6 =>
    obtain ⟨-, hcommit, -, -⟩ := smbWrite_fits (pecByte := pecByte) (fin := fin) (hanswers hm) (htaken hb hf) hfit
    obtain ⟨hlow, hhigh, -, hlen⟩ := hfit
    obtain ⟨hfields, hbytes, hnew, hcross⟩ := smbCommit_shows hlow hhigh hlen c
    refine ends_onCore_eq hs hwrite ((hcommit (by simp [hfin]) hgood).trans (if_neg (by simp [hfin]))) ⟨⟨rfl, hfields⟩, hbytes, hnew, ?_⟩
    simp [hcross]
  case refine_7 =>
    obtain ⟨-, hcommit, hextra, -⟩ := smbWrite_fits (pecByte := pecByte) (fin := fin) (hanswers hm) (htaken hb hf) hfit
    obtain ⟨hfields, hstored, herr, hirq⟩ := committed_proto hfit c
    have hends : smbWrite addr code data pecByte prev fin c = smbProto (smbCommit code data c) := by
      rcases hend with ⟨hask, hgood, hfin⟩ | ⟨hask, hpec⟩
      · exact (hcommit hcut (.inl ⟨hask, hgood⟩)).trans (if_pos hfin)
      · exact hextra hcut hask hpec
    exact ends_onCore_eq hs hwrite hends ⟨⟨rfl, hfields⟩, hstored, herr, hirq⟩
  case refine_8 =>
    obtain ⟨-, -, -, hbad⟩ := smbWrite_fits (pecByte := pecByte) (fin := fin) (hanswers hm) (htaken hb hf) hfit
    obtain ⟨hfields, herr, hirq⟩ := set_raise_shows (f := F.SMB_T_STAT.PECERR) rfl 110 0 2 c
    exact ends_onCore_eq hs hwrite (hbad hcut hask hpec hgood) ⟨⟨rfl, hfields⟩, herr, hirq⟩
  case refine_9 => exact ends_unchanged _ hs hread (smbRead_far (hanswers hm) (hshown hb) hcode)
  case refine_10 =>
    obtain ⟨hfields, herr, hirq⟩ := smbProto_shows c
    exact ends_onCore_eq hs hread (smbRead_cut (hanswers hm) (hshown hb) hcode hcut) ⟨⟨rfl, hfields⟩, herr, hirq⟩
  case refine_11 =>
    exact ends_onCore_eq hs hread (smbRead_returns (hanswers hm) (hshown hb) hcode hcut)
      ⟨rfl, noRegister_of_csr (Core.send_csr _ _), Core.send_out _ _ rfl⟩
  case refine_12 =>
    obtain ⟨hfields, herr, hirq⟩ := set_raise_shows (f := F.SMB_T_STAT.TIMEOUT) rfl 110 0 3 c
    exact ends_onCore smb1Timeout hs rfl ⟨⟨rfl, hfields⟩, herr, hirq⟩
  case refine_13 =>
    obtain ⟨hfields, hrd, hout⟩ := alertPin_shows true 0 c
    exact ends_onCore alertSet hs rfl ⟨⟨rfl, hfields⟩, hrd, hout⟩
  case refine_14 => exact ends_unchanged alertClear hs rfl (if_neg (by simp [show s.core.on F.SMB_T_CTRL.ALERT = false from hal]))
  case refine_15 =>
    obtain ⟨hfields, hrd, hout⟩ := alertPin_shows false 1 c
    exact ends_onCore_eq (f := alertClear) hs rfl (if_pos hal) ⟨⟨rfl, hfields⟩, hrd, hout⟩
  case refine_16 =>
    refine ends_unchanged (alertResponse won) hs rfl (if_pos ?_)
    simpa using hno
  case refine_17 =>
    have hlost : alertResponse false c = c.send (.smb 1 2 [2 * c.rd F.SMB_T_CFG.ADDR]) :=
      if_neg (by simp [show c.on F.SMB_T_CTRL.ALERT = true from hal, show c.standby = false from hact])
    exact ends_onCore_eq hs rfl hlost ⟨rfl, noRegister_of_csr (Core.send_csr _ _), Core.send_out _ _ rfl⟩
  case refine_18 =>
    obtain ⟨hfields, halert, hdone, hout⟩ := alertResponse_won hal hact
    exact ends_onCore (alertResponse true) hs rfl ⟨⟨rfl, hfields⟩, halert, hdone, hout⟩

end Sys2Proof.Machine
end

section

/-! PROOF. O42: SMB0, the controller -/

namespace Sys2Proof.Machine

/-- What the transfer that `SMB_C_CMD` asks for puts on the bus (R483). -/
def Core.smbGoes (c : Core) : Out := .smb 0 (c.rd F.SMB_C_CMD.PROT) ([c.rd F.SMB_C_CMD.ADDR, c.rd F.SMB_C_CMD.CODE, c.rd F.SMB_C_LEN.WCNT,
  c.rd F.SMB_C_CMD.PECEN, c.rd F.SMB_C_CFG.SPEED] ++ (upTo 64).map (fun k => c.rd (F.SMB_C_DATA.DATA k)))

/-- The fields that it comes from. -/
def Fld.smbSent (f : Fld) : Prop :=
  f ∈ [F.SMB_C_CMD.PROT, F.SMB_C_CMD.ADDR, F.SMB_C_CMD.CODE, F.SMB_C_LEN.WCNT, F.SMB_C_CMD.PECEN, F.SMB_C_CFG.SPEED] ∨ ∃ k, f = F.SMB_C_DATA.DATA k

theorem smbGoes_of_rd {c d : Core} (h : ∀ f : Fld, f.smbSent → d.rd f = c.rd f) : d.smbGoes = c.smbGoes := by
  have hreg : ∀ f ∈ [F.SMB_C_CMD.PROT, F.SMB_C_CMD.ADDR, F.SMB_C_CMD.CODE, F.SMB_C_LEN.WCNT, F.SMB_C_CMD.PECEN, F.SMB_C_CFG.SPEED], d.rd f = c.rd f :=
    fun f hf => h f (.inl hf)
  have hdata : ∀ k, d.rd (F.SMB_C_DATA.DATA k) = c.rd (F.SMB_C_DATA.DATA k) := fun k => h _ (.inr ⟨k, rfl⟩)
  simp only [List.forall_mem_cons, List.not_mem_nil, false_implies, implies_true, and_true] at hreg
  obtain ⟨hprot, haddr, hcode, hwcnt, hpecen, hspeed⟩ := hreg
  simp only [Core.smbGoes, hprot, haddr, hcode, hwcnt, hpecen, hspeed, hdata]

/-- A field of the status, the control or GO is none of them. -/
theorem smbGoes_of_fieldsOnly {fs : List Fld} {c d : Core} (h : fieldsOnly fs c d)
    (hfs : ∀ g ∈ fs, g ∈ [F.SMB_C_CMD.GO, F.SMB_C_STAT.CLEARING, F.SMB_C_CTRL.CLEAR, F.SMB_C_STAT.SDASTUCK]) : d.smbGoes = c.smbGoes := by
  refine smbGoes_of_rd fun f hf => h f fun g hg => ?_
  have hg := hfs g hg
  rcases hf with hf | ⟨k, rfl⟩
  · have hdistinct : ∀ f ∈ [F.SMB_C_CMD.PROT, F.SMB_C_CMD.ADDR, F.SMB_C_CMD.CODE, F.SMB_C_LEN.WCNT, F.SMB_C_CMD.PECEN, F.SMB_C_CFG.SPEED],
        ∀ g ∈ [F.SMB_C_CMD.GO, F.SMB_C_STAT.CLEARING, F.SMB_C_CTRL.CLEAR, F.SMB_C_STAT.SDASTUCK], f.key ≠ g.key := by decide
    exact hdistinct f hf g hg
  · have hlow : ∀ g ∈ [F.SMB_C_CMD.GO, F.SMB_C_STAT.CLEARING, F.SMB_C_CTRL.CLEAR, F.SMB_C_STAT.SDASTUCK], g.key < 32 * 0x54100 := by decide
    have := hlow g hg
    simp only [Fld.key, F.SMB_C_DATA.DATA] at this ⊢
    omega

/-! ### Starting -/

theorem smbStart_goes {c : Core} (h : c.on F.SMB_C_STAT.SDASTUCK = false) :
    smbStart c = ({ c with smb := { c.smb with run := true, want := false } } : Core).send c.smbGoes := if_neg (by simp [h])

theorem smbStart_shows {c : Core} (h : c.on F.SMB_C_STAT.SDASTUCK = false) : (smbStart c).csr = c.csr ∧
    (smbStart c).smb = { c.smb with run := true, want := false } ∧ (smbStart c).out = c.smbGoes :: c.out := by
  rw [smbStart_goes h]
  exact ⟨Core.send_csr _ _, Core.send_smb _ _, Core.send_out _ _ rfl⟩

/-- R484: with SDA stuck low the transfer ends at once. -/
theorem smbStart_stuck {c : Core} (h : c.on F.SMB_C_STAT.SDASTUCK = true) : let d := smbStart c
    fieldsOnly [F.SMB_C_STAT.RESULT, F.SMB_C_STAT.DONE, F.SMB_C_CMD.GO] c d ∧ d.rd F.SMB_C_STAT.RESULT = 7 ∧
      d.rd F.SMB_C_STAT.DONE = 1 ∧ d.rd F.SMB_C_CMD.GO = 0 ∧ d.smb.run = false ∧ d.out = c.out ∧ 108 ∈ d.irq.cross := by
  intro d
  have hd : d = ({ ((c.wr F.SMB_C_STAT.RESULT 7).wrB F.SMB_C_STAT.DONE true).wrB F.SMB_C_CMD.GO false with
      smb := { c.smb with want := false, again := false, run := false } } : Core).raise 108 0 7 := if_pos h
  have hregs : fieldsOnly [F.SMB_C_STAT.RESULT, F.SMB_C_STAT.DONE, F.SMB_C_CMD.GO] c d := by
    have hwr : fieldsOnly [F.SMB_C_STAT.RESULT, F.SMB_C_STAT.DONE, F.SMB_C_CMD.GO] c
        (((c.wr F.SMB_C_STAT.RESULT 7).wrB F.SMB_C_STAT.DONE true).wrB F.SMB_C_CMD.GO false) :=
      fieldsOnly_wr (fieldsOnly_wr (fieldsOnly_wr (fieldsOnly_refl _ c) (by simp)) (by simp)) (by simp)
    rw [hd]
    exact fieldsOnly_raise (fieldsOnly_of_csr hwr rfl)
  have hrd : ∀ f, d.rd f = (((c.wr F.SMB_C_STAT.RESULT 7).wrB F.SMB_C_STAT.DONE true).wrB F.SMB_C_CMD.GO false).rd f := fun f => by
    rw [hd]
    rfl
  refine ⟨hregs, ?_, ?_, ?_, by rw [hd]; rfl, by rw [hd]; rfl, ?_⟩
  · rw [hrd]
    exact ((Core.rd_wr_ne _ _ (by decide)).trans (Core.rd_wr_ne _ _ (by decide))).trans (Core.rd_wr_same _ _ _)
  · rw [hrd]
    exact (Core.rd_wr_ne _ _ (by decide)).trans (Core.rd_wr_same _ _ _)
  · rw [hrd]
    exact Core.rd_wr_same _ _ _
  · rw [hd]
    exact List.mem_append_right _ (List.mem_singleton_self _)

theorem smbFree_congr {c d : Core} (hrun : d.smb.run = c.smb.run) (hclear : d.rd F.SMB_C_STAT.CLEARING = c.rd F.SMB_C_STAT.CLEARING)
    (hrole : d.rd F.RED_STAT.ROLE = c.rd F.RED_STAT.ROLE) : d.smbFree = c.smbFree := by
  simp only [Core.smbFree, Core.standby, Core.on, hrun, hclear, hrole]

/-- R483: GO is written and the transfer wants to start. -/
def Core.goWritten (c : Core) : Core := { c.wrB F.SMB_C_CMD.GO true with smb := { c.smb with want := true, arb := 0 } }

theorem fieldsOnly_goWritten (c : Core) : fieldsOnly [F.SMB_C_CMD.GO] c c.goWritten :=
  fieldsOnly_of_csr (fieldsOnly_wr (v := 1) (fieldsOnly_refl _ c) (List.mem_singleton_self _)) rfl

theorem goWritten_go (c : Core) : c.goWritten.rd F.SMB_C_CMD.GO = 1 := Core.rd_wr_same c F.SMB_C_CMD.GO 1

theorem goWritten_free (c : Core) : c.goWritten.smbFree = c.smbFree :=
  smbFree_congr rfl (fieldsOnly_goWritten c _ (by decide)) (fieldsOnly_goWritten c _ (by decide))

theorem goWritten_stuck (c : Core) : c.goWritten.on F.SMB_C_STAT.SDASTUCK = c.on F.SMB_C_STAT.SDASTUCK :=
  congrArg (· != 0) (fieldsOnly_goWritten c _ (by decide))

theorem smbGo_running {c : Core} (busFree : Bool) (h : c.smb.run = true) :
    smbGo busFree c = { c.wrB F.SMB_C_CMD.GO true with smb := { c.smb with again := true } } := if_pos h

theorem smbGo_idle {c : Core} (busFree : Bool) (h : c.smb.run = false) : smbGo busFree c =
    if c.smbFree && (busFree || c.on F.SMB_C_STAT.SDASTUCK) then smbStart c.goWritten else c.goWritten := by
  rw [← goWritten_free, ← goWritten_stuck]
  exact if_neg (by simp [h])

theorem smbFree_idle {c : Core} (h : c.smbFree = true) : c.smb.run = false := by
  simp only [Core.smbFree, Bool.and_eq_true, Bool.not_eq_true'] at h
  obtain ⟨⟨hrun, -⟩, -⟩ := h
  exact hrun

theorem smbGo_starts {c : Core} {busFree : Bool} (h : c.smbFree = true) (hgo : busFree = true ∨ c.on F.SMB_C_STAT.SDASTUCK = true) :
    smbGo busFree c = smbStart c.goWritten :=
  (smbGo_idle busFree (smbFree_idle h)).trans (if_pos (by simpa [h] using hgo))

theorem smbGo_waits {c : Core} {busFree : Bool} (hrun : c.smb.run = false)
    (h : c.smbFree = false ∨ busFree = false ∧ c.on F.SMB_C_STAT.SDASTUCK = false) : smbGo busFree c = c.goWritten :=
  (smbGo_idle busFree hrun).trans (if_neg (by
    rcases h with h | ⟨hb, hst⟩
    · simp [h]
    · simp [hb, hst]))

theorem smbBusFree_starts {c : Core} (hwant : c.smb.want = true) (hfree : c.smbFree = true) : smbBusFree c = smbStart c := if_pos (by simp [hwant, hfree])

theorem smbBusFree_none {c : Core} (h : c.smb.want = false ∨ c.smbFree = false) : smbBusFree c = c :=
  if_neg (by rcases h with h | h <;> simp [h])

/-! ### Ending -/

/-- What every end of a transfer shows (R484). -/
structure SmbEnded (res : Nat) (c d : Core) : Prop where
  regs : fieldsOnly [F.SMB_C_STAT.RESULT, F.SMB_C_STAT.DONE, F.SMB_C_CMD.GO, F.SMB_C_STAT.BUSERR] c d
  three : res ≠ 4 → fieldsOnly [F.SMB_C_STAT.RESULT, F.SMB_C_STAT.DONE, F.SMB_C_CMD.GO] c d
  result : d.rd F.SMB_C_STAT.RESULT = res
  done : d.rd F.SMB_C_STAT.DONE = 1
  go : d.rd F.SMB_C_CMD.GO = b2n c.smb.again
  smb : d.smb = { c.smb with run := false, want := c.smb.again, again := false, arb := 0 }
  cross : (if res = 0 then 107 else 108) ∈ d.irq.cross
  buserr : res = 4 → d.rd F.SMB_C_STAT.BUSERR = 1

/-- The registers and the port at the end, before it is told. -/
def smbEndShown (res : Nat) (c : Core) : Core :=
  { ((c.wr F.SMB_C_STAT.RESULT res).wrB F.SMB_C_STAT.DONE true).wrB F.SMB_C_CMD.GO c.smb.again with
    smb := { c.smb with run := false, want := c.smb.again, again := false, arb := 0 } }

theorem smbEndShown_three (res : Nat) (c : Core) :
    fieldsOnly [F.SMB_C_STAT.RESULT, F.SMB_C_STAT.DONE, F.SMB_C_CMD.GO] c (smbEndShown res c) := by
  refine fieldsOnly_of_csr ?_ rfl
  exact fieldsOnly_wr (fieldsOnly_wr (fieldsOnly_wr (fieldsOnly_refl _ c) (by simp)) (by simp)) (by simp)

theorem smbEndShown_rd {res : Nat} (hres : res < 8) (c : Core) : (smbEndShown res c).rd F.SMB_C_STAT.RESULT = res ∧
    (smbEndShown res c).rd F.SMB_C_STAT.DONE = 1 ∧ (smbEndShown res c).rd F.SMB_C_CMD.GO = b2n c.smb.again := by
  refine ⟨?_, ?_, ?_⟩
  · have hfirst : (smbEndShown res c).rd F.SMB_C_STAT.RESULT = res % 8 :=
      ((Core.rd_wr_ne _ _ (by decide)).trans (Core.rd_wr_ne _ _ (by decide))).trans (Core.rd_wr_same _ _ _)
    rw [hfirst, Nat.mod_eq_of_lt hres]
  · exact (Core.rd_wr_ne _ _ (by decide)).trans (Core.rd_wr_same _ _ _)
  · refine (Core.rd_wr_same _ _ _).trans ?_
    cases c.smb.again <;> rfl

theorem smbEnd_ended {res : Nat} (hres : res < 8) (c : Core) : SmbEnded res c (smbEnd res c) := by
  have hthree := smbEndShown_three res c
  have hfour := fieldsOnly_mono hthree (gs := [F.SMB_C_STAT.RESULT, F.SMB_C_STAT.DONE, F.SMB_C_CMD.GO, F.SMB_C_STAT.BUSERR]) (by simp)
  obtain ⟨hresult, hdone, hgo⟩ := smbEndShown_rd hres c
  have hmem : ∀ (n src prim : Nat) (d : Core), n ∈ (d.raise n src prim).irq.cross := fun n _ _ _ => List.mem_append_right _ (List.mem_singleton_self n)
  by_cases hzero : res = 0
  · have heq : smbEnd res c = (smbEndShown res c).raise 107 0 0 := if_pos hzero
    rw [heq]
    exact ⟨fieldsOnly_raise hfour, fun _ => fieldsOnly_raise hthree, hresult, hdone, hgo, rfl, by rw [if_pos hzero]; exact hmem _ _ _ _, by omega⟩
  · by_cases hbus : res = 4
    · have heq : smbEnd res c = ((smbEndShown res c).wrB F.SMB_C_STAT.BUSERR true).raise 108 0 res :=
        (if_neg hzero).trans (congrArg (fun d : Core => d.raise 108 0 res) (if_pos hbus))
      have hne : ∀ g : Fld, g.key ≠ F.SMB_C_STAT.BUSERR.key → (((smbEndShown res c).wrB F.SMB_C_STAT.BUSERR true).raise 108 0 res).rd g =
          (smbEndShown res c).rd g := fun g hg => Core.rd_raise_wr_ne _ 1 108 0 res hg
      rw [heq]
      refine ⟨fieldsOnly_raise (fieldsOnly_wr hfour (by simp)), fun h => absurd hbus h, ?_, ?_, ?_, rfl, by rw [if_neg hzero]; exact hmem _ _ _ _, fun _ => ?_⟩
      · exact (hne _ (by decide)).trans hresult
      · exact (hne _ (by decide)).trans hdone
      · exact (hne _ (by decide)).trans hgo
      · exact Core.rd_wr_same (smbEndShown res c) F.SMB_C_STAT.BUSERR 1
    · have heq : smbEnd res c = (smbEndShown res c).raise 108 0 res :=
        (if_neg hzero).trans (congrArg (fun d : Core => d.raise 108 0 res) (if_neg hbus))
      rw [heq]
      exact ⟨fieldsOnly_raise hfour, fun _ => fieldsOnly_raise hthree, hresult, hdone, hgo, rfl, by rw [if_neg hzero]; exact hmem _ _ _ _,
        fun h => absurd h hbus⟩

/-- What a transfer that ends with RESULT `res` leaves in the buffer and in RCNT (R483). -/
def smbReceived (res count : Nat) (data : List Nat) (c : Core) : Core :=
  if res = 0 ∨ res = 6 then
    smbStore data (if c.rd F.SMB_C_CMD.PROT = 10 ∨ c.rd F.SMB_C_CMD.PROT = 11 then c.wr F.SMB_C_LEN.RCNT count else c)
  else c

theorem smbTransferEnd_idle {c : Core} (res count : Nat) (data : List Nat) (h : c.smb.run = false) : smbTransferEnd res count data c = c :=
  if_pos (by simp [h])

theorem smbTransferEnd_retries {c : Core} {res : Nat} (count : Nat) (data : List Nat) (hrun : c.smb.run = true)
    (h : res = 3 ∧ c.smb.arb < c.rd F.SMB_C_CFG.ARBRETRY) : smbTransferEnd res count data c =
      { c with smb := { c.smb with run := false, want := true, arb := c.smb.arb + 1 } } :=
  (if_neg (by simp [hrun])).trans (if_pos h)

theorem smbTransferEnd_ends {c : Core} {res : Nat} (count : Nat) (data : List Nat) (hrun : c.smb.run = true)
    (h : ¬ (res = 3 ∧ c.smb.arb < c.rd F.SMB_C_CFG.ARBRETRY)) : smbTransferEnd res count data c = smbEnd res (smbReceived res count data c) :=
  (if_neg (by simp [hrun])).trans (if_neg h)

theorem smbStore_eq (data : List Nat) (c : Core) :
    smbStore data c = forUp data.length (fun i => Core.putByte F.SMB_C_DATA.DATA i (data.getD i 0)) c := rfl

theorem byteAt_smbStore (data : List Nat) (c : Core) (j : Nat) :
    (smbStore data c).byteAt F.SMB_C_DATA.DATA j = if j < data.length then data.getD j 0 % 256 else c.byteAt F.SMB_C_DATA.DATA j := by
  rw [smbStore_eq]
  refine byteAt_putBytes (fun _ => rfl) (fun j k h => ?_) _ _ _ _
  simp only [Fld.key, F.SMB_C_DATA.DATA] at h
  omega

theorem smbStore_kept (data : List Nat) (c : Core) :
    fieldsOnly ((List.range data.length).map fun i => F.SMB_C_DATA.DATA (i / 4)) c (smbStore data c) ∧ smbStore data c = { c with csr := (smbStore data c).csr } := by
  rw [smbStore_eq]
  exact putBytes_kept _ (fun i hi => List.mem_map.mpr ⟨i, List.mem_range.mpr hi, rfl⟩) c

theorem smbData_key (k : Nat) : 32 * 0x54100 ≤ (F.SMB_C_DATA.DATA k).key := by
  simp only [Fld.key, F.SMB_C_DATA.DATA]
  omega

theorem smbData_block {data : List Nat} (h : data.length ≤ 256) :
    ∀ f ∈ (List.range data.length).map fun i => F.SMB_C_DATA.DATA (i / 4), f.block ∈ [F.SMB_C_CFG.SPEED.block] := by
  intro f hf
  obtain ⟨i, hi, rfl⟩ := List.mem_map.mp hf
  rw [List.mem_range] at hi
  have hkey : F.SMB_C_CFG.SPEED.block = 21 := by decide
  rw [hkey, List.mem_singleton]
  simp only [Fld.block, Fld.key, F.SMB_C_DATA.DATA]
  omega

theorem smbReceived_shows {res count : Nat} {data : List Nat} (hlen : data.length ≤ 256) (c : Core) : let d := smbReceived res count data c
    blocksOnly [F.SMB_C_CFG.SPEED.block] c d ∧ d.smb = c.smb ∧
      (res = 0 ∨ res = 6 → (∀ i < data.length, d.byteAt F.SMB_C_DATA.DATA i = data.getD i 0 % 256) ∧
        (c.rd F.SMB_C_CMD.PROT = 10 ∨ c.rd F.SMB_C_CMD.PROT = 11 → d.rd F.SMB_C_LEN.RCNT = count % 256)) ∧
      (¬ (res = 0 ∨ res = 6) → d = c) := by
  unfold smbReceived
  split
  next hkeeps =>
    generalize hd : (if c.rd F.SMB_C_CMD.PROT = 10 ∨ c.rd F.SMB_C_CMD.PROT = 11 then c.wr F.SMB_C_LEN.RCNT count else c) = d
    have hrcnt : blocksOnly [F.SMB_C_CFG.SPEED.block] c d ∧ d.smb = c.smb := by
      subst hd
      split
      · exact ⟨blocksOnly_wr (blocksOnly_refl _ c) (by decide), rfl⟩
      · exact ⟨blocksOnly_refl _ c, rfl⟩
    obtain ⟨hblocks, hsmb⟩ := hrcnt
    obtain ⟨hdata, hcsr⟩ := smbStore_kept data d
    refine ⟨blocksOnly_trans hblocks (blocksOnly_of_fieldsOnly hdata (smbData_block hlen)), ?_, fun _ => ⟨fun i hi => ?_, fun hp => ?_⟩, fun h => absurd hkeeps h⟩
    · rw [hcsr]
      exact hsmb
    · rw [byteAt_smbStore, if_pos hi]
    · rw [hdata F.SMB_C_LEN.RCNT fun g hg => ?_, ← hd, if_pos hp]
      · exact Core.rd_wr_same _ _ _
      · obtain ⟨i, -, rfl⟩ := List.mem_map.mp hg
        have hlow : F.SMB_C_LEN.RCNT.key < 32 * 0x54100 := by decide
        exact (hlow.trans_le (smbData_key _)).ne
  next hkeeps => exact ⟨blocksOnly_refl _ c, rfl, fun h => absurd h hkeeps, fun _ => rfl⟩

/-! ### The bus clear -/

theorem clearRound_shows (c : Core) : let d := clearRound c
    fieldsOnly [F.SMB_C_STAT.CLEARING] c d ∧ d.rd F.SMB_C_STAT.CLEARING = 1 ∧ d.smb = { c.smb with phase := 1 } ∧ d.out = .smb 0 16 [] :: c.out := by
  unfold clearRound
  refine ⟨fieldsOnly_send (fieldsOnly_wr (fieldsOnly_csr rfl) (by simp)) _, ?_, Core.send_smb _ _, Core.send_out _ _ rfl⟩
  rw [Core.rd_send]
  exact Core.rd_wr_same _ _ _

/-- R485: SDA is low when it is sampled after a reset. -/
theorem smbClear_reset {c : Core} (h : c.smb.sampled = false) :
    smbClear true c = clearRound { c with smb := { c.smb with sampled := true, rounds := 0 } } :=
  (if_pos rfl).trans (if_neg (by simp [h]))

theorem smbClear_written {c : Core} (hrun : c.smb.run = false) (h1 : c.smb.phase ≠ 1) (h2 : c.smb.phase ≠ 2) :
    smbClear false c = clearRound (({ c with smb := { c.smb with rounds := 0 } } : Core).wrB F.SMB_C_CTRL.CLEAR true) :=
  (if_neg (by simp)).trans (if_neg (by simp [hrun, h1, h2]))

/-- R485: SDA reads high after the round: the clear is over, and SDA is not stuck. -/
def Core.cleared (c : Core) : Core :=
  ((({ c with smb := { c.smb with phase := 0, rounds := 0 } } : Core).wrB F.SMB_C_STAT.CLEARING false).wrB F.SMB_C_CTRL.CLEAR false).wrB F.SMB_C_STAT.SDASTUCK false

theorem cleared_shows (c : Core) : let d := c.cleared
    fieldsOnly [F.SMB_C_STAT.CLEARING, F.SMB_C_CTRL.CLEAR, F.SMB_C_STAT.SDASTUCK] c d ∧ d.rd F.SMB_C_STAT.CLEARING = 0 ∧
      d.rd F.SMB_C_CTRL.CLEAR = 0 ∧ d.rd F.SMB_C_STAT.SDASTUCK = 0 := by
  refine ⟨?_, ?_, ?_, ?_⟩
  · exact fieldsOnly_wr (fieldsOnly_wr (fieldsOnly_wr (fieldsOnly_csr rfl) (by simp)) (by simp)) (by simp)
  · exact ((Core.rd_wr_ne _ _ (by decide)).trans (Core.rd_wr_ne _ _ (by decide))).trans (Core.rd_wr_same _ _ _)
  · exact (Core.rd_wr_ne _ _ (by decide)).trans (Core.rd_wr_same _ _ _)
  · exact Core.rd_wr_same _ _ _

theorem cleared_stuck (c : Core) : c.cleared.on F.SMB_C_STAT.SDASTUCK = false := by
  obtain ⟨-, -, -, hstuck⟩ := cleared_shows c
  simp [Core.on, hstuck]

theorem cleared_goes (c : Core) : c.cleared.smbGoes = c.smbGoes := by
  obtain ⟨hfields, -⟩ := cleared_shows c
  exact smbGoes_of_fieldsOnly hfields (by simp)

theorem cleared_free {c : Core} (hrun : c.smb.run = false) (hact : c.standby = false) : c.cleared.smbFree = true := by
  obtain ⟨hfields, hclear, -⟩ := cleared_shows c
  have hstandby : c.cleared.standby = c.standby := by
    simp only [Core.standby, hfields F.RED_STAT.ROLE (by decide)]
  simp [Core.smbFree, Core.on, hclear, hstandby, hact, show c.cleared.smb.run = false from hrun]

/-- The clear that succeeds lets a transfer that waits start. -/
theorem clearRoundEnd_high {c : Core} (hph : c.smb.phase = 1) : clearRoundEnd true c = smbBusFree c.cleared :=
  (if_neg (by simp [hph])).trans (if_pos rfl)

theorem smbBusFree_cleared (c : Core) : let d := smbBusFree c.cleared
    d.csr = c.cleared.csr ∧ d.smb.phase = 0 ∧ (c.smb.want = true → c.smb.run = false → c.standby = false → d.smb.run = true ∧ d.out = c.smbGoes :: c.out) := by
  obtain ⟨hcsr, hsmb, hout⟩ := smbStart_shows (cleared_stuck c)
  intro d
  by_cases hgo : (c.cleared.smb.want && c.cleared.smbFree) = true
  · have hd : d = smbStart c.cleared := if_pos hgo
    rw [hd, hsmb, hout, cleared_goes]
    exact ⟨hcsr, rfl, fun _ _ _ => ⟨rfl, rfl⟩⟩
  · have hd : d = c.cleared := if_neg hgo
    rw [hd]
    refine ⟨rfl, rfl, fun hwant hrun hact => absurd ?_ hgo⟩
    rw [cleared_free hrun hact, Bool.and_true]
    exact hwant

section
variable {c : Core} (hph : c.smb.phase = 1)
include hph

theorem clearRoundEnd_stuck (h : c.on F.SMB_C_STAT.SDASTUCK = true) :
    clearRoundEnd false c = ({ c with smb := { c.smb with phase := 3 } } : Core).wrB F.SMB_C_STAT.CLEARING false :=
  ((if_neg (by simp [hph])).trans (if_neg (by simp))).trans (if_pos h)

/-- R485: the third round that fails. -/
theorem clearRoundEnd_third (h : c.on F.SMB_C_STAT.SDASTUCK = false) (hthird : 2 ≤ c.smb.rounds) : clearRoundEnd false c =
    ((({ c with smb := { c.smb with phase := 3, rounds := c.smb.rounds + 1 } } : Core).wrB F.SMB_C_STAT.CLEARING false).wrB F.SMB_C_STAT.SDASTUCK true).raise 108 0 8 :=
  (((if_neg (by simp [hph])).trans (if_neg (by simp))).trans (if_neg (by simp [h]))).trans (if_pos (by omega))

theorem clearRoundEnd_low (h : c.on F.SMB_C_STAT.SDASTUCK = false) (hround : c.smb.rounds < 2) : clearRoundEnd false c =
    { c with smb := { c.smb with phase := 2, rounds := c.smb.rounds + 1 } } :=
  (((if_neg (by simp [hph])).trans (if_neg (by simp))).trans (if_neg (by simp [h]))).trans (if_neg (by omega))

end

theorem smbData_notin (k : Nat) : ∀ g ∈ [F.SMB_C_STAT.RESULT, F.SMB_C_STAT.DONE, F.SMB_C_CMD.GO, F.SMB_C_STAT.BUSERR], (F.SMB_C_DATA.DATA k).key ≠ g.key := by
  have hlow : ∀ g ∈ [F.SMB_C_STAT.RESULT, F.SMB_C_STAT.DONE, F.SMB_C_CMD.GO, F.SMB_C_STAT.BUSERR], g.key < 32 * 0x54100 := by decide
  exact fun g hg => ((hlow g hg).trans_le (smbData_key k)).ne'

/-! ### The alert (R486) -/

theorem smbAlert_none {c : Core} (x : Option Nat) (h : c.on F.SMB_C_CFG.AUTOARA = false ∨ c.smbFree = false) : smbAlert x c = c :=
  if_pos (by simpa using h)

theorem smbAlert_answered {c : Core} (a : Nat) (hara : c.on F.SMB_C_CFG.AUTOARA = true) (hfree : c.smbFree = true) : let d := smbAlert (some a) c
    fieldsOnly [F.SMB_C_ALERT.ADDR, F.SMB_C_STAT.ALERTSEEN, F.SMB_C_ALERT.COUNT] c d ∧ d.rd F.SMB_C_ALERT.ADDR = a % 128 ∧
      d.rd F.SMB_C_STAT.ALERTSEEN = 1 ∧ d.rd F.SMB_C_ALERT.COUNT = min 65535 (c.rd F.SMB_C_ALERT.COUNT + 1) ∧ 111 ∈ d.irq.cross := by
  intro d
  generalize hu : c.send (.smb 0 17 [12, c.rd F.SMB_C_CFG.PEC]) = u
  have hsame : ∀ f, u.rd f = c.rd f := fun f => by rw [← hu, Core.rd_send]
  have hd : d = (((u.wr F.SMB_C_ALERT.ADDR a).wr F.SMB_C_STAT.ALERTSEEN 1).cntSat F.SMB_C_ALERT.COUNT).raise 111 0 a :=
    (if_neg (by simp [hara, hfree])).trans (by rw [← hu]; rfl)
  rw [hd]
  refine ⟨?_, ?_, ?_, ?_, List.mem_append_right _ (List.mem_singleton_self _)⟩
  · refine fieldsOnly_raise (fieldsOnly_cntSat (fieldsOnly_wr (fieldsOnly_wr ?_ (by simp)) (by simp)) (by simp))
    exact fun f _ => hsame f
  · exact ((Core.rd_raise_wr_ne _ _ _ _ _ (f := F.SMB_C_ALERT.COUNT) (by decide)).trans (Core.rd_wr_ne _ _ (by decide))).trans (Core.rd_wr_same _ _ _)
  · exact (Core.rd_raise_wr_ne _ _ _ _ _ (f := F.SMB_C_ALERT.COUNT) (by decide)).trans (Core.rd_wr_same _ _ _)
  · have hcount : ((u.wr F.SMB_C_ALERT.ADDR a).wr F.SMB_C_STAT.ALERTSEEN 1).rd F.SMB_C_ALERT.COUNT = c.rd F.SMB_C_ALERT.COUNT :=
      ((Core.rd_wr_ne _ _ (by decide)).trans (Core.rd_wr_ne _ _ (by decide))).trans (hsame _)
    rw [← hcount]
    exact rd_cntSat_same _ F.SMB_C_ALERT.COUNT

theorem smbAlert_unanswered {c : Core} (hara : c.on F.SMB_C_CFG.AUTOARA = true) (hfree : c.smbFree = true) :
    smbAlert none c = (c.send (.smb 0 17 [12, c.rd F.SMB_C_CFG.PEC])).wrB F.SMB_C_STAT.ALERTNAK true := if_neg (by simp [hara, hfree])

/-- Settles O42: each command by the way its transfer or its bus clear goes. -/
theorem smbController : Obligations.SmbController := by
  unfold Obligations.SmbController
  intro s busFree high res count a data hs hres hlen c smb only stuck goes refused started ended retries keeps byteAt round
  have hgo := fieldsOnly_goWritten c
  have hgoes : c.goWritten.smbGoes = goes := smbGoes_of_fieldsOnly hgo (by simp)
  have hrefused : ∀ d : Core, fieldsOnly [F.SMB_C_CMD.GO] c d → d.out = c.out → d.on F.SMB_C_STAT.SDASTUCK = true →
      refused { s with core := smbStart d } := fun d hd hout hst => by
    obtain ⟨hfields, hresult, hdone, hgone, hrun, hsent, hirq⟩ := smbStart_stuck hst
    exact ⟨⟨rfl, fieldsOnly_trans (fieldsOnly_mono hd (by simp)) hfields⟩, hresult, hdone, hgone, hrun, hsent.trans hout, hirq⟩
  have hround : ∀ d : Core, d.out = c.out → round { s with core := clearRound d } := fun d hout => by
    obtain ⟨-, hclear, hsmb, hsent⟩ := clearRound_shows d
    exact ⟨hclear, congrArg SmbSt.phase hsmb, hsent.trans (congrArg _ hout)⟩
  have hclearing : ∀ (d : Core) (l : List Fld), F.SMB_C_STAT.CLEARING ∈ l → fieldsOnly l c d → only l { s with core := clearRound d } := fun d l hl hd =>
    ⟨rfl, fieldsOnly_trans hd (fieldsOnly_mono (clearRound_shows d).1 (by simpa using hl))⟩
  have hcrossed : ∀ (n src prim : Nat) (d : Core), n ∈ (d.raise n src prim).irq.cross := fun n _ _ _ => List.mem_append_right _ (List.mem_singleton_self n)
  refine ⟨fun hrun => ?_, fun hfree hbus hst => ?_, fun hfree hst => ?_, fun hrun hno => ?_, fun hno => ?_, fun hwant hfree hst => ?_,
    fun hwant hfree hst => ?_, fun hrun i hi => ?_, fun hrun hretry => ?_, fun hrun hend => ?_, fun hrun => ?_, fun hsamp => ?_, fun hsamp => ?_,
    fun hno => ?_, fun hrun h1 h2 => ?_, fun hph => ?_, fun hph => ?_, fun hph hst => ?_, fun hph hst hthird => ?_, fun hph hst hround => ?_,
    fun hph => ?_, fun hph => ?_, fun hph => ?_, fun hph => ?_, fun hno x hx => ?_, fun hara hfree => ⟨?_, ?_⟩⟩
  case refine_1 =>
    exact ends_onCore_eq (f := smbGo busFree) hs rfl (smbGo_running busFree hrun)
      ⟨⟨rfl, fieldsOnly_of_csr (fieldsOnly_wr (v := 1) (fieldsOnly_refl _ c) (List.mem_singleton_self _)) rfl⟩, Core.rd_wr_same c F.SMB_C_CMD.GO 1, rfl, rfl⟩
  case refine_2 =>
    obtain ⟨hcsr, hsmb, hout⟩ := smbStart_shows ((goWritten_stuck c).trans hst)
    refine ends_onCore_eq (f := smbGo busFree) hs rfl (smbGo_starts hfree (.inl hbus)) ⟨⟨rfl, fieldsOnly_of_csr hgo hcsr⟩, ?_, hsmb, ?_⟩
    · exact (noRegister_of_csr hcsr F.SMB_C_CMD.GO).trans (goWritten_go c)
    · exact hout.trans (by rw [hgoes]; rfl)
  case refine_3 =>
    exact ends_onCore_eq (f := smbGo busFree) hs rfl (smbGo_starts hfree (.inr hst)) (hrefused _ hgo rfl ((goWritten_stuck c).trans hst))
  case refine_4 => exact ends_onCore_eq (f := smbGo busFree) hs rfl (smbGo_waits hrun hno) ⟨⟨rfl, hgo⟩, goWritten_go c, rfl, rfl⟩
  case refine_5 => exact ends_unchanged smbBusFree hs rfl (smbBusFree_none hno)
  case refine_6 => exact ends_onCore_eq (f := smbBusFree) hs rfl (smbBusFree_starts hwant hfree) (hrefused c (fieldsOnly_refl _ c) rfl hst)
  case refine_7 =>
    obtain ⟨hcsr, hsmb, hout⟩ := smbStart_shows hst
    exact ends_onCore_eq (f := smbBusFree) hs rfl (smbBusFree_starts hwant hfree) ⟨rfl, noRegister_of_csr hcsr, hsmb, hout⟩
  case refine_8 =>
    simp only [List.mem_cons, List.not_mem_nil, or_false] at hi
    rcases hi with rfl | rfl
    · exact ends_unchanged (smbTransferEnd res count data) hs rfl (smbTransferEnd_idle res count data hrun)
    · exact ends_unchanged smbTimeout hs rfl (if_neg (by simp [show s.core.smb.run = false from hrun]))
  case refine_9 => exact ends_onCore_eq (f := smbTransferEnd res count data) hs rfl (smbTransferEnd_retries count data hrun hretry) rfl
  case refine_10 =>
    obtain ⟨hblocks, hsmb, hkept, hnone⟩ := smbReceived_shows (res := res) (count := count) hlen c
    have hended := smbEnd_ended hres (smbReceived res count data c)
    have hbyte : ∀ i, byteAt (smbEnd res (smbReceived res count data c)) i = (smbReceived res count data c).byteAt F.SMB_C_DATA.DATA i := fun i =>
      congrArg (bitsAt · _ 8) (hended.regs _ (smbData_notin _))
    refine ends_onCore_eq (f := smbTransferEnd res count data) hs rfl (smbTransferEnd_ends count data hrun hend)
      ⟨⟨rfl, ?_, hended.result, hended.done, ?_, ?_, hended.cross⟩, hended.buserr, fun hk i hi => ?_, fun hk i _ => ?_, fun hk hp => ?_⟩
    · exact blocksOnly_trans hblocks (blocksOnly_of_fieldsOnly hended.regs (by decide))
    · rw [hended.go, hsmb]
    · rw [hended.smb, hsmb]
    · exact (hbyte i).trans ((hkept hk).1 i hi)
    · exact (hbyte i).trans (by rw [hnone hk]; rfl)
    · exact (hended.regs F.SMB_C_LEN.RCNT (by decide)).trans ((hkept hk).2 hp)
  case refine_11 =>
    have hended := smbEnd_ended (res := 5) (by decide) c
    exact ends_onCore_eq (f := smbTimeout) hs rfl (if_pos hrun)
      ⟨⟨rfl, blocksOnly_of_fieldsOnly hended.regs (by decide), hended.result, hended.done, hended.go, hended.smb, hended.cross⟩, hended.three (by decide)⟩
  case refine_12 => exact ends_unchanged (smbClear true) hs rfl (if_pos hsamp)
  case refine_13 =>
    refine ends_onCore_eq (f := smbClear true) hs rfl (smbClear_reset hsamp)
      ⟨hclearing _ _ (by simp) (fieldsOnly_csr rfl), hround _ rfl, ?_, ?_⟩
    · exact congrArg SmbSt.rounds (clearRound_shows _).2.2.1
    · exact congrArg SmbSt.sampled (clearRound_shows _).2.2.1
  case refine_14 => exact ends_unchanged (smbClear false) hs rfl (if_pos hno)
  case refine_15 =>
    refine ends_onCore_eq (f := smbClear false) hs rfl (smbClear_written hrun h1 h2) ⟨hclearing _ _ (by simp) ?_, hround _ rfl, ?_, ?_⟩
    · exact fieldsOnly_wr (fieldsOnly_csr rfl) (by simp)
    · exact ((clearRound_shows _).1 F.SMB_C_CTRL.CLEAR (by decide)).trans (Core.rd_wr_same _ F.SMB_C_CTRL.CLEAR 1)
    · exact congrArg SmbSt.rounds (clearRound_shows _).2.2.1
  case refine_16 => exact ends_unchanged (clearRoundEnd high) hs rfl (if_pos hph)
  case refine_17 =>
    obtain ⟨hfields, hclear, hctrl, hstuck⟩ := cleared_shows c
    obtain ⟨hcsr, hphase, hwaits⟩ := smbBusFree_cleared c
    have hsame := noRegister_of_csr hcsr
    exact ends_onCore_eq (f := clearRoundEnd true) hs rfl (clearRoundEnd_high hph)
      ⟨⟨rfl, fieldsOnly_of_csr hfields hcsr⟩, (hsame _).trans hclear, (hsame _).trans hctrl, (hsame _).trans hstuck, hphase, hwaits⟩
  case refine_18 =>
    exact ends_onCore_eq (f := clearRoundEnd false) hs rfl (clearRoundEnd_stuck hph hst)
      ⟨⟨rfl, fieldsOnly_wr (fieldsOnly_csr rfl) (by simp)⟩, Core.rd_wr_same _ F.SMB_C_STAT.CLEARING 0, rfl⟩
  case refine_19 =>
    refine ends_onCore_eq (f := clearRoundEnd false) hs rfl (clearRoundEnd_third hph hst hthird) ⟨⟨rfl, ?_⟩, ?_, ?_, rfl, hcrossed _ _ _ _⟩
    · exact fieldsOnly_raise (fieldsOnly_wr (fieldsOnly_wr (fieldsOnly_csr rfl) (by simp)) (by simp))
    · exact (Core.rd_raise_wr_ne _ 1 108 0 8 (f := F.SMB_C_STAT.SDASTUCK) (by decide)).trans (Core.rd_wr_same _ F.SMB_C_STAT.CLEARING 0)
    · exact Core.rd_wr_same _ F.SMB_C_STAT.SDASTUCK 1
  case refine_20 => exact ends_onCore_eq (f := clearRoundEnd false) hs rfl (clearRoundEnd_low hph hst hround) rfl
  case refine_21 => exact ends_unchanged clearHoldEnd hs rfl (if_neg hph)
  case refine_22 =>
    exact ends_onCore_eq (f := clearHoldEnd) hs rfl (if_pos hph) ⟨hclearing _ _ (by simp) (fieldsOnly_refl _ c), hround _ rfl⟩
  case refine_23 => exact ends_unchanged clearRetry hs rfl (if_neg hph)
  case refine_24 =>
    exact ends_onCore_eq (f := clearRetry) hs rfl (if_pos hph) ⟨hclearing _ _ (by simp) (fieldsOnly_refl _ c), hround _ rfl⟩
  case refine_25 => exact ends_unchanged (smbAlert x) hs rfl (smbAlert_none x hno)
  case refine_26 =>
    obtain ⟨hfields, haddr, hseen, hcount, hirq⟩ := smbAlert_answered a hara hfree
    exact ends_onCore (smbAlert (some a)) hs rfl ⟨⟨rfl, hfields⟩, haddr, hseen, hcount, hirq⟩
  case refine_27 =>
    exact ends_onCore_eq (f := smbAlert none) hs rfl (smbAlert_unanswered hara hfree)
      ⟨⟨rfl, fieldsOnly_wr (fieldsOnly_csr (Core.send_csr _ _)) (by simp)⟩, Core.rd_wr_same _ F.SMB_C_STAT.ALERTNAK 1⟩

end Sys2Proof.Machine
end

section

/-! PROOF. O41, O39: objects that BAL owns, and sheaf frames of an unknown type -/

namespace Sys2Proof.Machine

/-- BAL has taken objects 30 and 31. -/
def balOwnedState : State := { State.reset with core := State.reset.core.wr F.BAL_COOL_CAN.EN 1 }

/-- A frame of CAN that nothing is said about. -/
def plainCanFrame : CanFrame := ⟨0, false, false, false, false, false, 0, []⟩

/-- R477: a TXREQ of the host sets WERR of an object that BAL owns, and nothing else. -/
theorem balOwnedState_txreq : (objHost 30 (txReq 30) balOwnedState.core).rd (F.CAN_OBJ_CFG.TXREQ 30) = 0 ∧
    (objHost 30 (txReq 30) balOwnedState.core).rd (F.CAN_OBJ_STAT.WERR 30) = 1 := by decide

/-- Refutes O41: its clause on TXREQ has every object pending afterwards, in every state. R477 discards the host's write where BAL owns the
object: in `balOwnedState` a TXREQ of object 30 leaves TXREQ 0 and sets WERR. -/
theorem not_canCommands : ¬ Obligations.CanCommands := by
  unfold Obligations.CanCommands
  intro h
  obtain ⟨-, -, -, -, htxreq, -⟩ := h balOwnedState plainCanFrame 30 0 0 0 0 false false false rfl (by decide)
  obtain ⟨u, hexec, -, -, hreq, -⟩ := htxreq
  have hcore : u.core = objHost 30 (txReq 30) balOwnedState.core := by
    rw [← Host.Outcome.next.inj hexec]
    exact congrArg State.core (onCore_run (objHost 30 (txReq 30)) rfl)
  obtain ⟨hclear, -⟩ := balOwnedState_txreq
  rw [hcore, hclear] at hreq
  exact absurd hreq (by decide)

/-- Port 1 has link, and sheaf traffic runs under PID 1. -/
def sheafLinkState : State :=
  { State.reset with core := (((State.reset.core.wr (F.NET_PORT.LINK 0) 1).wr F.SHF_CTRL.EN 1).wr F.SHF_ID.PID 1) }

/-- A good frame to the module, of the sheaf's EtherType and of a type that the sheaf does not have. -/
def unknownSheafFrame : EthFrame := { etype := sheafLinkState.core.rd F.SHF_NET.ETYPE, src := 1, typ := 99 }

/-- R341: the frame counts among the errors of SHF. -/
theorem sheafLinkState_receives : (ethReceive unknownSheafFrame sheafLinkState.core).rd F.SHF_CNT2.RXERR = 1 ∧
    sheafLinkState.core.rd F.SHF_CNT2.RXERR = 0 ∧ portUp 1 sheafLinkState.core = true := by decide

/-- Refutes O39: its clause on a good frame has no register change outside NET and PTP. One of the sheaf's EtherType and of an unknown type
counts in `SHF_CNT2.RXERR` too (R341): `unknownSheafFrame` in `sheafLinkState`. -/
theorem not_networkCommands : ¬ Obligations.NetworkCommands := by
  unfold Obligations.NetworkCommands
  intro h
  obtain ⟨hcount, hnone, hup⟩ := sheafLinkState_receives
  obtain ⟨-, -, hgood, -⟩ := h sheafLinkState unknownSheafFrame ⟨1, 0, 0, 0, 0, 0, 0, 0, 0, 0⟩ 0 0 0 0 rfl
  obtain ⟨u, hexec, ⟨-, hblocks⟩, -⟩ := hgood ⟨.inl rfl, hup⟩ ⟨rfl, by decide⟩
  have hcore : u.core = ethReceive unknownSheafFrame sheafLinkState.core := by
    rw [← Host.Outcome.next.inj hexec]
    exact congrArg State.core (onCore_run (ethReceive unknownSheafFrame) rfl)
  have hsame := hblocks F.SHF_CNT2.RXERR (by decide)
  rw [hcore, hcount, hnone] at hsame
  exact absurd hsame (by decide)

end Sys2Proof.Machine
end

section

/-! PROOF. O40: the clock TB_PLANT, its servo and its delays -/

namespace Sys2Proof.Machine

/-! ### TB_PLANT (R466) -/

/-- TB_PLANT in ns. -/
def Core.plantNs (c : Core) : Int := (c.ptp.sec : Int) * 1000000000 + c.ptp.ns

/-- TB_PLANT counts modulo 2^48 s. -/
def plantSpan : Int := 2 ^ 48 * 1000000000

/-- The registers that show TB_PLANT. -/
def plantFlds : List Fld := [F.PTP_TIME_NS.NS, F.PTP_TIME_S_LO.S, F.PTP_TIME_S_HI.S]

theorem plantMove_ptp (d : Int) (c : Core) : (plantMove d c).ptp =
    { c.ptp with sec := ((c.plantNs + d) % plantSpan).toNat / 1000000000, ns := ((c.plantNs + d) % plantSpan).toNat % 1000000000 } := rfl

theorem plantMove_fields (d : Int) (c : Core) : fieldsOnly plantFlds c (plantMove d c) := by
  unfold plantMove
  refine fieldsOnly_wr (fieldsOnly_wr (fieldsOnly_wr (fieldsOnly_csr rfl) ?_) ?_) ?_ <;> simp [plantFlds]

theorem plantMove_plantNs (d : Int) (c : Core) : (plantMove d c).plantNs = (c.plantNs + d) % plantSpan := by
  have hpos : 0 ≤ (c.plantNs + d) % plantSpan := Int.emod_nonneg _ (by decide)
  unfold Core.plantNs at hpos ⊢
  rw [plantMove_ptp]
  unfold Core.plantNs
  dsimp only
  omega

theorem plantMove_ns (d : Int) (c : Core) : (plantMove d c).ptp.ns < 1000000000 := by
  rw [plantMove_ptp]
  exact Nat.mod_lt _ (by decide)

theorem plantMove_shown (d : Int) (c : Core) : (plantMove d c).rd F.PTP_TIME_NS.NS = (plantMove d c).ptp.ns := by
  have hns := plantMove_ns d c
  have hshown : (plantMove d c).rd F.PTP_TIME_NS.NS = (plantMove d c).ptp.ns % 2 ^ 30 :=
    ((Core.rd_wr_ne _ _ (by decide)).trans (Core.rd_wr_ne _ _ (by decide))).trans (Core.rd_wr_same _ _ _)
  rw [hshown, Nat.mod_eq_of_lt (by omega)]

/-! ### The servo (R462, R463) -/

theorem setLock_kept (b : Bool) (c : Core) : fieldsOnly [F.PTP_STAT.LOCK] c (setLock b c) ∧ (setLock b c).ptp = c.ptp := by
  unfold setLock
  split
  · exact ⟨fieldsOnly_refl _ c, rfl⟩
  · exact ⟨fieldsOnly_raise (fieldsOnly_wr (fieldsOnly_refl _ c) (List.mem_singleton_self _)), rfl⟩

/-- What the end of an update leaves: every register but LOCK, TB_PLANT and the integral. -/
structure ServoKept (c d : Core) : Prop where
  regs : fieldsOnly [F.PTP_STAT.LOCK] c d
  sec : d.ptp.sec = c.ptp.sec
  ns : d.ptp.ns = c.ptp.ns
  integ : d.ptp.integ = c.ptp.integ

theorem ServoKept.trans {c d e : Core} (h : ServoKept c d) (g : ServoKept d e) : ServoKept c e :=
  ⟨fieldsOnly_trans h.regs g.regs, g.sec.trans h.sec, g.ns.trans h.ns, g.integ.trans h.integ⟩

theorem servoKept_setLock (b : Bool) (c : Core) : ServoKept c (setLock b c) := by
  obtain ⟨hregs, hptp⟩ := setLock_kept b c
  exact ⟨hregs, by rw [hptp], by rw [hptp], by rw [hptp]⟩

/-- R463: LOCK after the counts of small and of large offsets in a row. -/
def lockCounted (n u : Nat) (c : Core) : Core :=
  let d := { c with ptp := { c.ptp with lockCnt := n, unCnt := u } }
  if 4 ≤ u then setLock false d else if 8 ≤ n then setLock true d else d

theorem servoKept_lockCounted (n u : Nat) (c : Core) : ServoKept c (lockCounted n u c) := by
  have hcount : ServoKept c { c with ptp := { c.ptp with lockCnt := n, unCnt := u } } := ⟨fieldsOnly_csr rfl, rfl, rfl, rfl⟩
  unfold lockCounted
  dsimp only
  split
  · exact hcount.trans (servoKept_setLock false _)
  · split
    · exact hcount.trans (servoKept_setLock true _)
    · exact hcount

theorem servoKept_lockUpdate (o : Int) (c : Core) : ServoKept c (lockUpdate o c) := servoKept_lockCounted _ _ c

/-- R464: a locked update enters the mean of ADJ. -/
def adjKept (adj : Int) (c : Core) : Core :=
  if c.on F.PTP_STAT.LOCK then { c with ptp := { c.ptp with adjs := (adj :: c.ptp.adjs).take 16 } } else c

theorem servoKept_adjKept (adj : Int) (c : Core) : ServoKept c (adjKept adj c) := by
  unfold adjKept
  split
  · exact ⟨fieldsOnly_csr rfl, rfl, rfl, rfl⟩
  · exact ⟨fieldsOnly_refl _ c, rfl, rfl, rfl⟩

/-- The integral after an update with offset `o`. -/
def Core.nextInteg (c : Core) (o : Int) : Int :=
  clampI (-(65536 * adjMax)) (65536 * adjMax) (c.ptp.integ - 10 * (c.rd F.PTP_SERVO.KI : Int) * o)

/-- The rate after an update with offset `o`. -/
def Core.nextAdj (c : Core) (o : Int) : Int :=
  clampI (-adjMax) adjMax (roundDiv (c.nextInteg o - 10 * (c.rd F.PTP_SERVO.KP : Int) * o) 65536)

/-- What an update with offset `o` writes, `o1` as the servo takes it, under the path delay `d`. -/
def servoWrites (o1 o d : Int) (c : Core) : Core :=
  (((({ c with ptp := { c.ptp with integ := c.nextInteg o1 } } : Core).wrS F.PTP_RATE.ADJ (c.nextAdj o1)).wrS F.PTP_OFFSET.O (satS 32 o)).wrS
    F.PTP_MPD.MPD d).wrB F.PTP_STAT.HOLD false

def servoFlds : List Fld := [F.PTP_RATE.ADJ, F.PTP_OFFSET.O, F.PTP_MPD.MPD, F.PTP_STAT.HOLD]

theorem servoWrites_fields (o1 o d : Int) (c : Core) : fieldsOnly servoFlds c (servoWrites o1 o d c) := by
  unfold servoWrites
  refine fieldsOnly_wr (fieldsOnly_wr (fieldsOnly_wr (fieldsOnly_wr (fieldsOnly_csr rfl) ?_) ?_) ?_) ?_ <;> simp [servoFlds]

theorem servoWrites_hold (o1 o d : Int) (c : Core) : (servoWrites o1 o d c).rd F.PTP_STAT.HOLD = 0 := Core.rd_wr_same _ _ _

theorem ofSigned_lt (w : Nat) (x : Int) : ofSigned w x < 2 ^ w := by
  have hpos := Nat.two_pow_pos w
  have hlt := Int.emod_lt_of_pos x (show (0 : Int) < ((2 ^ w : Nat) : Int) by omega)
  unfold ofSigned
  omega

theorem servoWrites_offset (o1 o d : Int) (c : Core) : (servoWrites o1 o d c).rd F.PTP_OFFSET.O = ofSigned 32 (satS 32 o) := by
  have hrd : (servoWrites o1 o d c).rd F.PTP_OFFSET.O = ofSigned 32 (satS 32 o) % 2 ^ 32 :=
    ((Core.rd_wr_ne _ _ (by decide)).trans (Core.rd_wr_ne _ _ (by decide))).trans (Core.rd_wr_same _ _ _)
  rw [hrd, Nat.mod_eq_of_lt (ofSigned_lt 32 _)]

theorem clampI_bounds {lo hi : Int} (h : lo ≤ hi) (x : Int) : lo ≤ clampI lo hi x ∧ clampI lo hi x ≤ hi := by
  unfold clampI
  split <;> [skip; split] <;> omega

/-- A field of 32 bits reads a signed value back that fits. -/
theorem toSigned_ofSigned_32 {x : Int} (hlow : -(2 ^ 31) ≤ x) (hhigh : x < 2 ^ 31) : toSigned 32 (ofSigned 32 x) = x := by
  unfold toSigned ofSigned
  split <;> omega

theorem servoWrites_adj (o1 o d : Int) (c : Core) : (servoWrites o1 o d c).rdS F.PTP_RATE.ADJ = c.nextAdj o1 := by
  have hrd : (servoWrites o1 o d c).rd F.PTP_RATE.ADJ = ofSigned 32 (c.nextAdj o1) % 2 ^ 32 :=
    (((Core.rd_wr_ne _ _ (by decide)).trans (Core.rd_wr_ne _ _ (by decide))).trans (Core.rd_wr_ne _ _ (by decide))).trans (Core.rd_wr_same _ _ _)
  obtain ⟨hlow, hhigh⟩ : -adjMax ≤ c.nextAdj o1 ∧ c.nextAdj o1 ≤ adjMax := clampI_bounds (by decide) _
  have hmax : adjMax = 2000000 := rfl
  rw [Core.rdS, hrd, Nat.mod_eq_of_lt (ofSigned_lt 32 _)]
  exact toSigned_ofSigned_32 (by omega) (by omega)

/-- The difference that a Sync leaves for the delay measurement (R457). -/
def Core.synced (c : Core) (x : Int) : Core := { c with ptp := { c.ptp with syncD := x } }

/-- The path delay that an update subtracts (R462). -/
def Core.pathDelay (c : Core) (port : Nat) : Option Int := if c.p2p then c.linkDelay port else some (c.rdS F.PTP_MPD.MPD)

/-- The condition of R462 for a step. -/
def Core.stepsAt (c : Core) (o : Int) : Bool := c.rd F.PTP_STAT.PSTATE == 2 && decide (((1000 * c.rd F.PTP_THR.STEP : Nat) : Int) ≤ absI o)

/-- The clock moves back by the offset (R462). -/
def Core.steppedBy (c : Core) (o : Int) : Core := (plantMove (-o) c).wrB F.PTP_STAT.STEPPED true

/-- The servo takes the offset `o` under the path delay `d`, or has the clock step by it. -/
def servoTakes (o d : Int) (c : Core) : Core :=
  let u := if c.stepsAt o then c.steppedBy o else c
  let o1 := if c.stepsAt o then 0 else o
  let v := servoWrites o1 o d u
  adjKept (u.nextAdj o1) (lockUpdate o1 (if c.stepsAt o then v else v.wr F.PTP_STAT.PSTATE 3))

/-- An update with the difference `x`, before the path delay is subtracted. -/
def servoFrom (x : Int) (c : Core) : Option Int → Core
  | none => c
  | some d => if !c.on F.PTP_CTRL.SERVO then c else servoTakes (x - d) d c

theorem servoUpdate_eq (port : Nat) (t1 t2 corr : Int) (c : Core) :
    servoUpdate port t1 t2 corr c = servoFrom (t2 - t1 - corr) (c.synced (t2 - t1 - corr)) ((c.synced (t2 - t1 - corr)).pathDelay port) := by
  unfold servoUpdate servoFrom
  rfl

section
variable {port : Nat} {t1 t2 corr d : Int} {c : Core}

theorem servoUpdate_noDelay (h : c.pathDelay port = none) : servoUpdate port t1 t2 corr c = c.synced (t2 - t1 - corr) := by
  rw [servoUpdate_eq, show (c.synced (t2 - t1 - corr)).pathDelay port = none from h]
  rfl

theorem servoUpdate_off (h : c.on F.PTP_CTRL.SERVO = false) : servoUpdate port t1 t2 corr c = c.synced (t2 - t1 - corr) := by
  rw [servoUpdate_eq]
  cases (c.synced (t2 - t1 - corr)).pathDelay port with
  | none => rfl
  | some d => exact if_pos (by simp [show (c.synced (t2 - t1 - corr)).on F.PTP_CTRL.SERVO = false from h])

theorem servoUpdate_takes (hdelay : c.pathDelay port = some d) (hservo : c.on F.PTP_CTRL.SERVO = true) :
    servoUpdate port t1 t2 corr c = servoTakes (t2 - t1 - corr - d) d (c.synced (t2 - t1 - corr)) := by
  rw [servoUpdate_eq, show (c.synced (t2 - t1 - corr)).pathDelay port = some d from hdelay]
  exact if_neg (by simp [show (c.synced (t2 - t1 - corr)).on F.PTP_CTRL.SERVO = true from hservo])

end

/-- R462: in UNCALIBRATED an offset from the threshold on moves the clock. -/
theorem servoTakes_steps {o d : Int} {c : Core} (h : c.stepsAt o = true) : let t := servoTakes o d c
    blocksOnly [F.PTP_STAT.PSTATE.block] c t ∧ t.plantNs = (c.plantNs - o) % plantSpan ∧ t.rd F.PTP_TIME_NS.NS = t.ptp.ns ∧ t.ptp.ns < 1000000000 ∧
      t.rd F.PTP_STAT.STEPPED = 1 ∧ t.rd F.PTP_STAT.PSTATE = c.rd F.PTP_STAT.PSTATE ∧ t.rd F.PTP_STAT.HOLD = 0 := by
  intro t
  have ht : t = adjKept ((c.steppedBy o).nextAdj 0) (lockUpdate 0 (servoWrites 0 o d (c.steppedBy o))) := by
    simp only [t, servoTakes, h, if_true]
  have hkept : ServoKept (servoWrites 0 o d (c.steppedBy o)) t := by
    rw [ht]
    exact (servoKept_lockUpdate 0 _).trans (servoKept_adjKept _ _)
  have hmove := plantMove_fields (-o) c
  have hstep : fieldsOnly [F.PTP_STAT.STEPPED] (plantMove (-o) c) (c.steppedBy o) := fieldsOnly_wr (fieldsOnly_refl _ _) (List.mem_singleton_self _)
  have hwrites := servoWrites_fields 0 o d (c.steppedBy o)
  have hsec : t.ptp.sec = (plantMove (-o) c).ptp.sec := hkept.sec
  have hns : t.ptp.ns = (plantMove (-o) c).ptp.ns := hkept.ns
  refine ⟨?_, ?_, ?_, ?_, ?_, ?_, ?_⟩
  · exact blocksOnly_trans (blocksOnly_trans (blocksOnly_of_fieldsOnly hmove (by decide)) (blocksOnly_of_fieldsOnly hstep (by decide)))
      (blocksOnly_trans (blocksOnly_of_fieldsOnly hwrites (by decide)) (blocksOnly_of_fieldsOnly hkept.regs (by decide)))
  · have hplant := plantMove_plantNs (-o) c
    rw [← Int.sub_eq_add_neg] at hplant
    rw [← hplant, Core.plantNs, hsec, hns, Core.plantNs]
  · rw [hns, ← plantMove_shown, hkept.regs _ (by decide), hwrites _ (by decide), hstep _ (by decide)]
  · exact hns ▸ plantMove_ns (-o) c
  · rw [hkept.regs _ (by decide), hwrites _ (by decide)]
    exact Core.rd_wr_same _ F.PTP_STAT.STEPPED 1
  · rw [hkept.regs _ (by decide), hwrites _ (by decide), hstep _ (by decide), hmove _ (by decide)]
  · rw [hkept.regs _ (by decide), servoWrites_hold]

/-- R462: else the servo takes the offset and tracks. -/
theorem servoTakes_tracks {o d : Int} {c : Core} (h : c.stepsAt o = false) : let t := servoTakes o d c
    blocksOnly [F.PTP_STAT.PSTATE.block] c t ∧ t.rd F.PTP_STAT.PSTATE = 3 ∧ t.rd F.PTP_STAT.HOLD = 0 ∧
      t.rd F.PTP_OFFSET.O = ofSigned 32 (satS 32 o) ∧ t.ptp.integ = c.nextInteg o ∧ t.rdS F.PTP_RATE.ADJ = c.nextAdj o := by
  intro t
  have ht : t = adjKept (c.nextAdj o) (lockUpdate o ((servoWrites o o d c).wr F.PTP_STAT.PSTATE 3)) := by
    simp [t, servoTakes, h]
  have hkept : ServoKept ((servoWrites o o d c).wr F.PTP_STAT.PSTATE 3) t := by
    rw [ht]
    exact (servoKept_lockUpdate o _).trans (servoKept_adjKept _ _)
  have hwrites := servoWrites_fields o o d c
  have hrd : ∀ f : Fld, f.key ≠ F.PTP_STAT.LOCK.key → f.key ≠ F.PTP_STAT.PSTATE.key → t.rd f = (servoWrites o o d c).rd f := fun f hlock hstate =>
    (hkept.regs f (by simpa using hlock)).trans (Core.rd_wr_ne _ _ hstate)
  refine ⟨?_, ?_, ?_, ?_, hkept.integ, ?_⟩
  · exact blocksOnly_trans (blocksOnly_wr (blocksOnly_of_fieldsOnly hwrites (by decide)) (by decide)) (blocksOnly_of_fieldsOnly hkept.regs (by decide))
  · rw [hkept.regs _ (by decide)]
    exact Core.rd_wr_same _ _ _
  · rw [hrd _ (by decide) (by decide), servoWrites_hold]
  · rw [hrd _ (by decide) (by decide), servoWrites_offset]
  · rw [Core.rdS, hrd _ (by decide) (by decide)]
    exact servoWrites_adj o o d c

/-! ### The module's own messages (R457, R460) -/

theorem ethSend_port {p : Nat} (hp : p = 1 ∨ p = 2) {c : Core} (hup : portUp p c = true) (kind : Nat) (data : List Nat) :
    ethSend p kind data c = portSent p (c.send (.eth p kind data)) := by
  rcases hp with rfl | rfl
  · simp [ethSend, bitAt, hup]
  · simp [ethSend, bitAt, hup]

/-- A message of the module's own leaves through a port that has link. -/
theorem ethSend_sent {p : Nat} (hp : p = 1 ∨ p = 2) {c : Core} (hup : portUp p c = true) (kind : Nat) (data : List Nat) : let d := ethSend p kind data c
    fieldsOnly [F.NET_TXOK.COUNT (p - 1)] c d ∧ d.rd (F.NET_TXOK.COUNT (p - 1)) = (c.rd (F.NET_TXOK.COUNT (p - 1)) + 1) % 2 ^ 32 ∧
      d.out = .eth p kind data :: c.out ∧ d.ptp = c.ptp := by
  intro d
  have hd : d = portSent p (c.send (.eth p kind data)) := ethSend_port hp hup kind data
  rw [hd]
  refine ⟨fieldsOnly_portSent (fieldsOnly_csr (Core.send_csr _ _)) (List.mem_singleton_self _), ?_, Core.send_out _ _ rfl, Core.send_ptp _ _⟩
  rw [← Core.rd_send c (.eth p kind data)]
  exact Core.rd_wr_same _ _ _

theorem delayReqSend_sends {p sender : Nat} {w : Int} {c : Core} (hmaster : c.ptp.master = some (p, sender)) (hp2p : c.p2p = false) :
    delayReqSend w c = ethSend p 35063 (c.ptpHead p 1) { c with ptp := { c.ptp with reqT3 := some w } } := by
  unfold delayReqSend
  rw [hmaster]
  exact if_neg (by simp [hp2p])

theorem delayReqSend_none {w : Int} {c : Core} (h : c.ptp.master = none ∨ c.p2p = true) : delayReqSend w c = c := by
  unfold delayReqSend
  rcases h with h | h
  · rw [h]
  · split
    · rfl
    · exact if_pos h

/-! ### Link delays (R460) -/

theorem roundDiv_one (x : Int) : roundDiv x 1 = x := by
  unfold roundDiv
  omega

theorem pdelayResp_first {p : Nat} {x w turn : Int} {c : Core} (hp2p : c.p2p = true) (hup : portUp p c = true)
    (hreq : Tab.get none c.ptp.reqT1 p = some x) (hresp : Tab.get [] c.ptp.resp p = []) : let d := pdelayRespReceived p w turn c
    fieldsOnly [F.PTP_PORT_LDLY.LDLY (p - 1)] c d ∧ d.rd (F.PTP_PORT_LDLY.LDLY (p - 1)) = (clampI 0 4294967294 (truncDiv (w - x - turn) 2)).toNat ∧
      Tab.get none d.ptp.reqT1 p = none := by
  intro d
  have hd : d = ({ c with ptp := { c.ptp with
        resp := Tab.put [] c.ptp.resp p [truncDiv (w - x - turn) 2]
        reqT1 := Tab.put none c.ptp.reqT1 p none } } : Core).wr (F.PTP_PORT_LDLY.LDLY (p - 1)) (clampI 0 4294967294 (truncDiv (w - x - turn) 2)).toNat := by
    simp only [d, pdelayRespReceived, hreq, hresp]
    rw [if_neg (by simp [hp2p, hup])]
    simp [sumI, roundDiv_one]
  obtain ⟨hlow, hhigh⟩ := clampI_bounds (lo := 0) (hi := 4294967294) (by decide) (truncDiv (w - x - turn) 2)
  rw [hd]
  refine ⟨fieldsOnly_wr (fieldsOnly_csr rfl) (List.mem_singleton_self _), ?_, Tab.get_put_same none c.ptp.reqT1 p none⟩
  refine (Core.rd_wr_same _ _ _).trans (Nat.mod_eq_of_lt ?_)
  change _ < 2 ^ 32
  omega

theorem pdelayResp_none {p : Nat} {w turn : Int} {c : Core} (h : Tab.get none c.ptp.reqT1 p = none) : pdelayRespReceived p w turn c = c := by
  unfold pdelayRespReceived
  rw [h]

/-! ### Held sums (R459) -/

theorem followUpMiss_counts {seq sender : Nat} {c : Core} (h : ∃ x ∈ c.ptp.sums, x.1 = seq ∧ x.2.1 = sender) : followUpMiss seq sender c =
    ({ c with ptp := { c.ptp with sums := c.ptp.sums.filter (fun x => !(x.1 == seq && x.2.1 == sender)) } } : Core).cntSat F.PTP_CNT.FUMISS :=
  if_pos (by simpa [List.any_eq_true] using h)

theorem followUpMiss_none {seq sender : Nat} {c : Core} (h : ∀ x ∈ c.ptp.sums, ¬ (x.1 = seq ∧ x.2.1 = sender)) : followUpMiss seq sender c = c := by
  refine if_neg fun hany => ?_
  obtain ⟨x, hx, hmatch⟩ := List.any_eq_true.mp hany
  exact h x hx (by simpa using hmatch)

theorem absI_eq_abs (x : Int) : absI x = |x| := by
  unfold absI
  split
  · rw [abs_of_neg ‹_›]
  · rw [abs_of_nonneg (by omega)]

/-- Settles O40: each command by the way it takes. -/
theorem ptpCommands : Obligations.PtpCommands := by
  unfold Obligations.PtpCommands
  intro s p sender seq turn t1 t2 corr w hs c ptp frame plant span moved sync o steps integ st sends
  have hmine : c.ptp.master = some (p, sender) → syncReceived p sender t1 t2 corr c = servoUpdate p t1 t2 corr c := fun h => if_pos h
  have hsync : exec sync s = .next (onCore (syncReceived p sender t1 t2 corr) s) := rfl
  have hdelay : c.p2p = false → c.pathDelay p = some (c.rdS F.PTP_MPD.MPD) := fun h => if_neg (by simp [h])
  have hsteps : (c.synced (t2 - t1 - corr)).stepsAt o = true ↔ steps := by
    simp only [Core.stepsAt, Bool.and_eq_true, beq_iff_eq, decide_eq_true_eq, absI_eq_abs]
    rfl
  have hsends : ∀ {d : Core} {data : List Nat}, p = 1 ∨ p = 2 → portUp p c = true → d.csr = c.csr → d.out = c.out →
      sends p data { s with core := ethSend p 35063 data d } := fun {d} {data} hp hup hcsr hout => by
    have hupd : portUp p d = true := by simpa [portUp, Core.on, noRegister_of_csr hcsr _] using hup
    obtain ⟨hfields, hcount, hsent, -⟩ := ethSend_sent hp hupd 35063 data
    exact ⟨rfl, fieldsOnly_trans (fieldsOnly_csr hcsr) hfields, hcount.trans (by rw [noRegister_of_csr hcsr]), hsent.trans (by rw [hout])⟩
  have hmoves : ∀ d : Int, frame { s with core := plantMove d c } ∧ moved d { s with core := plantMove d c } := fun d =>
    ⟨⟨rfl, blocksOnly_of_fieldsOnly (plantMove_fields d c) (by decide)⟩, plantMove_plantNs d c, plantMove_shown d c, plantMove_ns d c⟩
  refine ⟨fun hm => ?_, fun hm hoff => ?_, fun hm hp2p hlost => ?_, fun hm hon hp2p hst => ?_, fun hm hon hp2p hst => ?_, fun hno => ?_,
    fun hp hm hp2p hup => ?_, fun hno i hi => ?_, fun hp hp2p hup => ⟨?_, ?_, fun x hreq hresp => ?_⟩, fun hreq => ?_, fun hp => ?_, fun hp => ?_,
    fun hheld => ?_, fun hnone => ?_, fun hst => ?_, fun hst => ?_, ?_⟩
  case refine_1 => exact ends_unchanged _ hs hsync (if_neg hm)
  case refine_2 => exact ends_onCore_eq hs hsync ((hmine hm).trans (servoUpdate_off hoff)) rfl
  case refine_3 => exact ends_onCore_eq hs hsync ((hmine hm).trans (servoUpdate_noDelay ((if_pos hp2p).trans hlost))) rfl
  case refine_4 =>
    obtain ⟨hblocks, hplant, hshown, hns, hstepped, hstate, hhold⟩ := servoTakes_steps (d := c.rdS F.PTP_MPD.MPD) (hsteps.mpr hst)
    refine ends_onCore_eq hs hsync ((hmine hm).trans (servoUpdate_takes (hdelay hp2p) hon))
      ⟨⟨rfl, blocksOnly_trans (blocksOnly_csr rfl) hblocks⟩, ⟨?_, hshown, hns⟩, hstepped, hstate.trans hst.1, hhold⟩
    rw [← Int.sub_eq_add_neg]
    exact hplant
  case refine_5 =>
    obtain ⟨hblocks, hstate, hhold, hoffset, hinteg, hadj⟩ :=
      servoTakes_tracks (d := c.rdS F.PTP_MPD.MPD) (Bool.eq_false_iff.mpr fun h => hst (hsteps.mp h))
    exact ends_onCore_eq hs hsync ((hmine hm).trans (servoUpdate_takes (hdelay hp2p) hon))
      ⟨⟨rfl, blocksOnly_trans (blocksOnly_csr rfl) hblocks⟩, hstate, hhold, hoffset, hinteg, hadj⟩
  case refine_6 => exact ends_unchanged (delayReqSend w) hs rfl (delayReqSend_none hno)
  case refine_7 =>
    refine ends_onCore_eq (f := delayReqSend w) hs rfl (delayReqSend_sends hm hp2p) ⟨hsends hp hup rfl rfl, ?_⟩
    exact (ethSend_sent (c := { c with ptp := { c.ptp with reqT3 := some w } }) hp hup 35063 _).2.2.2
  case refine_8 =>
    have hidle : (!c.p2p || !portUp p c) = true := by simpa using hno
    simp only [List.mem_cons, List.not_mem_nil, or_false] at hi
    rcases hi with rfl | rfl
    · exact ends_unchanged (pdelayReqSend p w) hs rfl (if_pos hidle)
    · exact ends_unchanged (pdelayReqReceived p seq turn) hs rfl (if_pos hidle)
  case refine_9 =>
    have hbusy : ¬ (!c.p2p || !portUp p c) = true := by simp [hp2p, hup]
    refine ends_onCore_eq (f := pdelayReqSend p w) hs rfl (if_neg hbusy) ⟨hsends hp hup rfl rfl, ?_⟩
    obtain ⟨-, -, -, hptp⟩ := ethSend_sent (c := { c with ptp := { c.ptp with reqT1 := Tab.put none c.ptp.reqT1 p (some w) } }) hp hup 35063 (c.ptpHead p 2)
    exact (congrArg (fun q : PtpSt => Tab.get none q.reqT1 p) hptp).trans (Tab.get_put_same none c.ptp.reqT1 p (some w))
  case refine_10 =>
    have hbusy : ¬ (!c.p2p || !portUp p c) = true := by simp [hp2p, hup]
    obtain ⟨-, -, -, hptp⟩ := ethSend_sent hp hup 35063 (c.ptpHead p 3 ++ [seq, 65536 * turn])
    exact ends_onCore_eq (f := pdelayReqReceived p seq turn) hs rfl (if_neg hbusy) ⟨hsends hp hup rfl rfl, hptp⟩
  case refine_11 =>
    obtain ⟨hfields, hdly, hnone⟩ := pdelayResp_first (w := w) (turn := t1) hp2p hup hreq hresp
    exact ends_onCore (pdelayRespReceived p w t1) hs rfl ⟨rfl, hfields, hdly, hnone⟩
  case refine_12 => exact ends_unchanged (pdelayRespReceived p w t1) hs rfl (pdelayResp_none hreq)
  case refine_13 =>
    exact ends_onCore_eq (f := linkDelayLost p) hs rfl (if_neg (by omega))
      ⟨rfl, fieldsOnly_wr (fieldsOnly_refl _ c) (List.mem_singleton_self _), Core.rd_wr_same _ _ _⟩
  case refine_14 => exact ends_unchanged (linkDelayLost p) hs rfl (if_pos hp)
  case refine_15 =>
    refine ends_onCore_eq (f := followUpMiss seq sender) hs rfl (followUpMiss_counts hheld)
      ⟨rfl, fieldsOnly_cntSat (fieldsOnly_csr rfl) (List.mem_singleton_self _), rd_cntSat_same _ _, fun x hx => ?_⟩
    have hleft := (List.mem_filter.mp hx).2
    exact fun ⟨hseq, hsender⟩ => by simp [hseq, hsender] at hleft
  case refine_16 => exact ends_unchanged (followUpMiss seq sender) hs rfl (followUpMiss_none hnone)
  case refine_17 =>
    exact ends_onCore_eq (f := plantSet) hs rfl (if_pos hst)
      ⟨rfl, fieldsOnly_wr (fieldsOnly_refl _ c) (List.mem_singleton_self _), Core.rd_wr_same _ F.PTP_STAT.TSETERR 1⟩
  case refine_18 =>
    refine ends_onCore_eq (f := plantSet) hs rfl (if_neg hst) ⟨(hmoves _).1, ?_⟩
    refine (plantMove_plantNs _ c).trans ?_
    unfold Core.plantNs
    exact congrArg (· % plantSpan) (by ring)
  case refine_19 => exact ends_onCore plantStep hs rfl (hmoves _)

end Sys2Proof.Machine
end

section

/-! PROOF. O33: a ring command that is not ready or may not execute -/

namespace Sys2Proof.Machine

/-- R398: a ready command is the head of its ring. -/
theorem headRec_of_ready {s : State} {op r : Nat} {j : JRec} (h : s.ready1 op r = some j) : s.nv.headRec r = some j := by
  unfold State.ready1 at h
  split at h
  · next k hk =>
    split at h
    · exact hk.trans h
    · contradiction
  · contradiction

theorem found_of_ready {s : State} {op r : Nat} {j : JRec} (h : s.ready1 op r = some j) (hgone : ∀ k ∈ s.nv.jrec, k.gone = false) : j.Found s.nv := by
  have hhead := headRec_of_ready h
  have hp := List.find?_some hhead
  simp only [Bool.and_eq_true, beq_iff_eq] at hp
  obtain ⟨⟨hring, hstg⟩, -⟩ := hp
  refine ⟨hgone j (List.mem_of_find?_eq_some hhead), find?_of_narrower hhead (by simp [hstg]) fun k hk hq => ?_⟩
  simp only [Bool.and_eq_true, beq_iff_eq] at hq
  obtain ⟨⟨hkring, -⟩, hkstg⟩ := hq
  simp [hkring, hring, hkstg, hgone k hk]

section
variable {s : State} {op r : Nat} {masks : List Nat} {j : JRec} (f : JRec → State → State) (hs : s.pwr.held = false)
include hs

theorem runCmd_idle (h : s.ready1 op r = none) : runCmd op r masks f s = s := by
  unfold runCmd
  rw [if_neg (by simp [hs]), h]

/-- R400: the time of a command has passed. -/
def JRec.late (j : JRec) (s : State) : Prop := j.ttl ≠ 0 ∧ j.acc = true ∧ j.result = 0 ∧ j.ttl < s.aon.ops - j.ops

theorem runCmd_late (h : s.ready1 op r = some j) (hlate : j.late s) : runCmd op r masks f s = cmdEnd j 9 0 s := by
  unfold runCmd
  rw [if_neg (by simp [hs]), h]
  exact if_pos hlate

theorem runCmd_barred (h : s.ready1 op r = some j) (hlate : ¬ j.late s) (hperm : s.core.permits r j.own op = false) :
    runCmd op r masks f s = cmdEnd j 3 0 s := by
  unfold runCmd
  rw [if_neg (by simp [hs]), h]
  exact (if_neg hlate).trans (if_pos (by simp [hperm]))

theorem runCmd_badParam (h : s.ready1 op r = some j) (hlate : ¬ j.late s) (hperm : s.core.permits r j.own op = true)
    (hbad : j.rsv = true ∨ parOk masks j.par = false) : runCmd op r masks f s = cmdEnd j 4 0 s := by
  unfold runCmd
  rw [if_neg (by simp [hs]), h]
  exact ((if_neg hlate).trans (if_neg (by simp [hperm]))).trans (if_pos (by simpa using hbad))

end

/-- The ring command `i` executes as one of opcode `op`, with the parameter bits `masks` (R402). -/
def isRingCmd (i : Instr) (op r : Nat) (masks : List Nat) : Prop := ∃ f, ∀ s, exec i s = .next (runCmd op r masks f s)

/-- The commands of the rings, with their opcodes and the bits that their parameters have (R402). -/
def ringCmds (r : Nat) : List (Instr × Nat × List Nat) :=
  [(.ringCreate r, 1, [63, 3, 31, 3, 63, 15, 3, 0, 255, 255, 255, 255, 255, 255, 0, 0, 255, 255, 255, 255, 255, 255]),
  (.ringDelete r, 2, [63]),
  (.ringQuery r, 3, [63]),
  (.ringRestart r, 4, [63, 0, 0, 0, 0, 0, 0, 0, 255, 255, 255, 255, 255, 255, 0, 0, 255, 255, 255, 255, 255, 255]),
  (.ringReset r, 5, [63]),
  (.vectorMap r, 6, [63, 15, 1, 0, 255, 3, 255]),
  (.streamBind r, 7, [255, 63, 1]),
  (.atuInvalidate r, 8, [3, 3, 0, 0, 0, 0, 0, 0, 0, 240, 255, 255, 255, 255, 0, 0, 255, 255, 255, 255]),
  (.identify r, 9, []),
  (.nopCmd r, 16, []),
  (.regRead r, 17, [255, 255, 255, 255]),
  (.regWrite r, 18, [255, 255, 255, 255, 255, 255, 255, 255, 255, 255, 255, 255]),
  (.regList r, 19, []),
  (.cnvOn r, 32, [1]),
  (.cnvClear r, 33, []),
  (.iset r, 34, [255, 255, 255, 255, 3]),
  (.dispatchTarget r, 35, [255, 255, 255, 255]),
  (.vrefNom r, 36, [255, 255, 255, 255]),
  (.outputRequest r, 37, [63]),
  (.profileCmd r, 38, [3]),
  (.gleanCmd r, 39, [1]),
  (.restCmd r, 40, []),
  (.impBurst r, 41, []),
  (.cteLoad r, 42, [255, 3, 255, 7, 7, 0, 255, 255]),
  (.cteParam r, 43, [1]),
  (.saveCmd r, 44, []),
  (.snapshotCmd r, 48, [3]),
  (.evrRead r, 49, [255, 255, 255, 255, 255, 255, 255, 255, 255, 255]),
  (.posRead r, 50, [255, 0, 255, 255, 255, 255])]

theorem ringCmd_of_mem (r : Nat) : ∀ p ∈ ringCmds r, isRingCmd p.1 p.2.1 r p.2.2 := by
  simp only [ringCmds, List.forall_mem_cons, isRingCmd]
  exact ⟨⟨_, fun _ => rfl⟩, ⟨_, fun _ => rfl⟩, ⟨_, fun _ => rfl⟩, ⟨_, fun _ => rfl⟩, ⟨_, fun _ => rfl⟩, ⟨_, fun _ => rfl⟩, ⟨_, fun _ => rfl⟩, ⟨_, fun _ => rfl⟩, ⟨_, fun _ => rfl⟩, ⟨_, fun _ => rfl⟩, ⟨_, fun _ => rfl⟩, ⟨_, fun _ => rfl⟩, ⟨_, fun _ => rfl⟩, ⟨_, fun _ => rfl⟩, ⟨_, fun _ => rfl⟩, ⟨_, fun _ => rfl⟩, ⟨_, fun _ => rfl⟩, ⟨_, fun _ => rfl⟩, ⟨_, fun _ => rfl⟩, ⟨_, fun _ => rfl⟩, ⟨_, fun _ => rfl⟩, ⟨_, fun _ => rfl⟩, ⟨_, fun _ => rfl⟩, ⟨_, fun _ => rfl⟩, ⟨_, fun _ => rfl⟩, ⟨_, fun _ => rfl⟩, ⟨_, fun _ => rfl⟩, ⟨_, fun _ => rfl⟩, ⟨_, fun _ => rfl⟩, fun _ h => absurd h List.not_mem_nil⟩

/-- The end of a command that may not execute. -/
theorem ends_refused {i : Instr} {s : State} {j : JRec} {status : Nat} (hs : s.pwr.held = false) (hj : j.Found s.nv)
    (h : exec i s = .next (cmdEnd j status 0 s)) : Ends i s fun t => cmdFrame [] s t ∧ j.ended status 0 t :=
  ⟨_, h, cmdEnd_frame hs hj status 0⟩

/-- Settles O33: every command of the list runs through `runCmd`. -/
theorem commandRefusals : Obligations.CommandRefusals := by
  unfold Obligations.CommandRefusals
  intro s r j hs hgone frame late p hp
  obtain ⟨f, hexec⟩ := ringCmd_of_mem r p hp
  have hfound : s.ready1 p.2.1 r = some j → j.Found s.nv := fun h => found_of_ready h hgone
  have hends : ∀ {status : Nat}, s.ready1 p.2.1 r = some j → runCmd p.2.1 r p.2.2 f s = cmdEnd j status 0 s →
      Ends p.1 s fun t => frame t ∧ j.ended status 0 t := fun {status} hready heq => by
    obtain ⟨t, hrun, ⟨hnv, hjrec, hblocks⟩, hended⟩ := ends_refused hs (hfound hready) ((hexec s).trans (congrArg _ heq))
    exact ⟨t, hrun, ⟨hnv, hjrec, hblocks⟩, hended⟩
  refine ⟨fun hnone => ?_, fun hready hlate => ?_, fun hready hlate hperm => ?_, fun hready hlate hperm hbad => ?_⟩
  · exact ⟨s, (hexec s).trans (congrArg _ (runCmd_idle f hs hnone)), rfl⟩
  · exact hends hready (runCmd_late f hs hready hlate)
  · exact hends hready (runCmd_barred f hs hready hlate hperm)
  · exact hends hready (runCmd_badParam f hs hready hlate hperm hbad)

end Sys2Proof.Machine
end

section

/-! PROOF. O37: fault records that a standby holds -/

namespace Sys2Proof.Machine

/-- A standby whose ring 3 is ACTIVE, and one fault record that waits. -/
def heldFaultState : State :=
  { State.reset with
    core := { ((State.reset.core.wr F.RED_STAT.ROLE 2).wr (F.HIF_RSTAT.STATE 3) 1).wr (F.HIF_RSTAT.TYPE 3) 3 with
      hif := { State.reset.core.hif with fheld := [{}] } } }

theorem heldFaultState_ready : heldFaultState.core.rtyp 3 = 3 ∧ heldFaultState.core.takes 3 = true ∧ heldFaultState.core.hasXf 3 9 = false ∧
    heldFaultState.core.hasRoom 3 = true ∧ heldFaultState.core.standby = true := by decide

/-- Refutes O37: its clause on held fault records has the oldest go to ring 3 in every state where that has room. In a standby nothing goes
on its way (R369): in `heldFaultState` the record stays. -/
theorem not_hostCommands : ¬ Obligations.HostCommands := by
  unfold Obligations.HostCommands
  intro h
  have hall := h heldFaultState 0 0 0 0 false .error .error [] rfl (by decide) (by decide)
  obtain ⟨htype, htakes, hxf, hroom, hstandby⟩ := heldFaultState_ready
  obtain ⟨-, -, -, -, -, -, -, -, -, -, -, -, -, -, -, -, -, -, -, -, hflush⟩ := hall
  obtain ⟨u, hexec, -, hheld, -⟩ := hflush {} [] rfl htype htakes hxf hroom
  have hcore : u.core = (faultFlush (heldFaultState.nv, heldFaultState.core)).2 := by
    rw [← Host.Outcome.next.inj hexec]
    exact congrArg State.core (onNv_run (fun _ nv c => faultFlush (nv, c)) rfl)
  have hstay : faultFlush (heldFaultState.nv, heldFaultState.core) = (heldFaultState.nv, heldFaultState.core) := by
    unfold faultFlush hifPump
    rw [if_pos hstandby]
  rw [hcore, hstay] at hheld
  exact absurd hheld (by decide)

end Sys2Proof.Machine
end

section
/-! PROOF. Rules of the operations on rings: state, indices, journal (R388, R396, R397, R404). -/

namespace Sys2Proof.Machine

/-! ### The registers of a ring -/

/-- A field of the registers that each ring or vector has: `HIF_RSTAT`, `HIF_RIDX`, `HIF_MOD`. -/
def Fld.OfRings (f : Fld) : Prop := 0x10100 ≤ f.off ∧ f.off < 0x10500 ∧ f.lsb < 32

/-- A field outside them. -/
def Fld.besideRings (f : Fld) : Bool := (decide (f.off < 0x10100) || decide (0x10500 ≤ f.off)) && decide (f.lsb < 32)

theorem Fld.OfRings.block {f : Fld} (h : f.OfRings) : f.block ∈ ringBlocks := by
  obtain ⟨hlo, hhi, hlsb⟩ := h
  have hblock : f.block = F.HIF_STAT.ACCEPT.block := by
    simp only [Fld.block, Fld.key, F.HIF_STAT.ACCEPT]
    omega
  simp [hblock, ringBlocks]

theorem Fld.OfRings.key_ne {f : Fld} (h : f.OfRings) {fs : List Fld} (hfs : fs.all Fld.besideRings = true) : ∀ g ∈ fs, f.key ≠ g.key := by
  intro g hg
  obtain ⟨hlo, hhi, hlsb⟩ := h
  have hbeside := List.all_eq_true.mp hfs g hg
  simp only [Fld.besideRings, Bool.and_eq_true, Bool.or_eq_true, decide_eq_true_eq] at hbeside
  simp only [Fld.key]
  omega

section
variable {r : Nat} (hr : r < 64)
include hr

theorem ofRings_of_off {f : Fld} (b : Nat) (hoff : f.off = b + 4 * r) (hlo : 0x10100 ≤ b) (hhi : b ≤ 0x10400) (hlsb : f.lsb < 32) : f.OfRings :=
  ⟨by omega, by omega, hlsb⟩

theorem ofRings_state : (F.HIF_RSTAT.STATE r).OfRings := ofRings_of_off hr 0x10100 rfl (by decide) (by decide) (by simp [F.HIF_RSTAT.STATE])

theorem ofRings_err : (F.HIF_RSTAT.ERR r).OfRings := ofRings_of_off hr 0x10100 rfl (by decide) (by decide) (by simp [F.HIF_RSTAT.ERR])

theorem ofRings_type : (F.HIF_RSTAT.TYPE r).OfRings := ofRings_of_off hr 0x10100 rfl (by decide) (by decide) (by simp [F.HIF_RSTAT.TYPE])

theorem ofRings_ver : (F.HIF_RSTAT.VER r).OfRings := ofRings_of_off hr 0x10100 rfl (by decide) (by decide) (by simp [F.HIF_RSTAT.VER])

theorem ofRings_owner : (F.HIF_RSTAT.OWNER r).OfRings := ofRings_of_off hr 0x10100 rfl (by decide) (by decide) (by simp [F.HIF_RSTAT.OWNER])

theorem ofRings_log2n : (F.HIF_RSTAT.LOG2N r).OfRings := ofRings_of_off hr 0x10100 rfl (by decide) (by decide) (by simp [F.HIF_RSTAT.LOG2N])

theorem ofRings_pair : (F.HIF_RSTAT.PAIR r).OfRings := ofRings_of_off hr 0x10100 rfl (by decide) (by decide) (by simp [F.HIF_RSTAT.PAIR])

theorem ofRings_vec : (F.HIF_RSTAT.VEC r).OfRings := ofRings_of_off hr 0x10100 rfl (by decide) (by decide) (by simp [F.HIF_RSTAT.VEC])

theorem ofRings_ien : (F.HIF_RSTAT.IEN r).OfRings := ofRings_of_off hr 0x10100 rfl (by decide) (by decide) (by simp [F.HIF_RSTAT.IEN])

theorem ofRings_mod : (F.HIF_RIDX.MOD r).OfRings := ofRings_of_off hr 0x10200 rfl (by decide) (by decide) (by simp [F.HIF_RIDX.MOD])

theorem ofRings_host : (F.HIF_RIDX.HOST r).OfRings := ofRings_of_off hr 0x10200 rfl (by decide) (by decide) (by simp [F.HIF_RIDX.HOST])

theorem ofRings_timer : (F.HIF_MOD.TIMER r).OfRings := ofRings_of_off hr 0x10400 rfl (by decide) (by decide) (by simp [F.HIF_MOD.TIMER])

theorem ofRings_count : (F.HIF_MOD.COUNT r).OfRings := ofRings_of_off hr 0x10400 rfl (by decide) (by decide) (by simp [F.HIF_MOD.COUNT])

end

/-- What goes on of the rings leaves the registers of each ring. -/
theorem Core.Pumped.rd_ofRings {c d : Core} (h : c.Pumped d) {f : Fld} (hf : f.OfRings) : d.rd f = c.rd f := h.fields f (hf.key_ne (by decide))

/-- The fields beside the state of a ring that show the states of all (R404, R406). -/
def shownFlds : List Fld := [F.HIF_STAT.RECOVER, F.ATU_STAT.NSTALL, F.ATU_STAT.R3STALL]

/-- The fields that a change of state writes. -/
def ringFlds (r : Nat) : List Fld := F.HIF_RSTAT.STATE r :: shownFlds

theorem ringFlds_blocks {r : Nat} (hr : r < 64) : ∀ f ∈ ringFlds r, f.block ∈ ringBlocks :=
  List.forall_mem_cons.mpr ⟨(ofRings_state hr).block, by decide⟩

/-- A register of the rings that is not the state of ring `r` is none of the fields that a change of that state writes. -/
theorem Fld.OfRings.key_ne_ringFlds {f : Fld} (hf : f.OfRings) {r : Nat} (hne : f.key ≠ (F.HIF_RSTAT.STATE r).key) : ∀ g ∈ ringFlds r, f.key ≠ g.key :=
  List.forall_mem_cons.mpr ⟨hne, hf.key_ne (by decide)⟩

theorem ringErr_key_ne (r : Nat) : (F.HIF_RSTAT.ERR r).key ≠ (F.HIF_RSTAT.STATE r).key := by
  simp only [Fld.key, F.HIF_RSTAT.STATE, F.HIF_RSTAT.ERR]
  omega

/-! ### The state of a ring (R404) -/

/-- The registers that show how many rings are in a state follow. -/
def ringsShown (c : Core) : Core :=
  let c2 := c.wrB F.HIF_STAT.RECOVER ((upTo 64).any (fun k => c.rst k == 4))
  (c2.wr F.ATU_STAT.NSTALL (countIf (fun k => c2.rst k == 2) (upTo 64))).wrB F.ATU_STAT.R3STALL (c2.rst 3 == 2)

theorem ringState_eq {r st : Nat} {c : Core} (h : c.rst r ≠ st) : ringState r st c = (ringsShown (c.wr (F.HIF_RSTAT.STATE r) st)).raise 11 r st := if_neg h

theorem ringState_same {r st : Nat} {c : Core} (h : c.rst r = st) : ringState r st c = c := if_pos h

theorem ringsShown_fields (c : Core) : fieldsOnly shownFlds c (ringsShown c) :=
  fieldsOnly_wr (fieldsOnly_wr (fieldsOnly_wr (fieldsOnly_refl _ c) (by simp [shownFlds])) (by simp [shownFlds])) (by simp [shownFlds])

theorem ringState_fields (r st : Nat) (c : Core) : fieldsOnly (ringFlds r) c (ringState r st c) := by
  by_cases h : c.rst r = st
  · rw [ringState_same h]
    exact fieldsOnly_refl _ c
  · rw [ringState_eq h]
    have hshown : fieldsOnly (ringFlds r) (c.wr (F.HIF_RSTAT.STATE r) st) (ringsShown (c.wr (F.HIF_RSTAT.STATE r) st)) :=
      fieldsOnly_mono (ringsShown_fields _) fun f hf => List.mem_cons_of_mem _ hf
    exact fieldsOnly_raise (fieldsOnly_trans (fieldsOnly_wr (fieldsOnly_refl _ c) (by simp [ringFlds])) hshown)

theorem ringState_rst {r st : Nat} (hr : r < 64) (hst : st < 8) (c : Core) : (ringState r st c).rst r = st := by
  by_cases h : c.rst r = st
  · rw [ringState_same h, h]
  · rw [ringState_eq h, Core.rst, Core.rd_raise, ringsShown_fields _ _ ((ofRings_state hr).key_ne (by decide)), Core.rd_wr_same]
    exact Nat.mod_eq_of_lt hst

theorem ringState_cross (r st : Nat) (c : Core) : c.irq.cross ⊆ (ringState r st c).irq.cross := by
  unfold ringState
  split
  · exact List.Subset.refl _
  · exact List.subset_append_left _ _

theorem ringState_cross_mem {r st : Nat} {c : Core} (h : c.rst r ≠ st) : 11 ∈ (ringState r st c).irq.cross := by
  rw [ringState_eq h]
  exact List.mem_append_right _ (by simp)

/-- R404: a ring halts with a cause. -/
theorem ringHalt_shows {r e : Nat} (hr : r < 64) (he : e < 16) (c : Core) (hst : c.rst r = 1) :
    let d := ringState r 3 (c.wr (F.HIF_RSTAT.ERR r) e)
    fieldsOnly (F.HIF_RSTAT.ERR r :: ringFlds r) c d ∧ d.rst r = 3 ∧ d.rd (F.HIF_RSTAT.ERR r) = e ∧ 11 ∈ d.irq.cross ∧ c.irq.cross ⊆ d.irq.cross := by
  intro d
  have hst' : (c.wr (F.HIF_RSTAT.ERR r) e).rst r ≠ 3 := by
    rw [Core.rst, Core.rd_wr_ne c e (ringErr_key_ne r).symm, ← Core.rst, hst]
    decide
  refine ⟨?_, ringState_rst hr (by decide) _, ?_, ringState_cross_mem hst', ringState_cross r 3 (c.wr (F.HIF_RSTAT.ERR r) e)⟩
  · have hfields := fieldsOnly_mono (ringState_fields r 3 (c.wr (F.HIF_RSTAT.ERR r) e)) (gs := F.HIF_RSTAT.ERR r :: ringFlds r)
      fun f hf => List.mem_cons_of_mem _ hf
    exact fieldsOnly_trans (fieldsOnly_wr (fieldsOnly_refl _ c) (by simp)) hfields
  · rw [ringState_fields r 3 (c.wr (F.HIF_RSTAT.ERR r) e) _ ((ofRings_err hr).key_ne_ringFlds (ringErr_key_ne r)), Core.rd_wr_same]
    exact Nat.mod_eq_of_lt he

theorem ringHalt_blocks {r : Nat} (hr : r < 64) : ∀ f ∈ F.HIF_RSTAT.ERR r :: ringFlds r, f.block ∈ ringBlocks :=
  List.forall_mem_cons.mpr ⟨(ofRings_err hr).block, ringFlds_blocks hr⟩

/-! ### A run on the rings -/

/-- From `q` to `r` an operation on the rings has run: of the memories the journal, of the registers those of HIF and ATU; sources only assert. -/
structure DoorRun (q r : NC) : Prop where
  nv : r.1 = { q.1 with jrec := r.1.jrec, jring := r.1.jring }
  regs : blocksOnly ringBlocks q.2 r.2
  cross : q.2.irq.cross ⊆ r.2.irq.cross

theorem DoorRun.refl (q : NC) : DoorRun q q := ⟨rfl, blocksOnly_refl _ _, List.Subset.refl _⟩

theorem DoorRun.trans {q r t : NC} (h : DoorRun q r) (g : DoorRun r t) : DoorRun q t :=
  ⟨g.nv.trans (by rw [h.nv]), blocksOnly_trans h.regs g.regs, List.Subset.trans h.cross g.cross⟩

theorem PumpRun.door {q r : NC} (h : PumpRun q r) : DoorRun q r :=
  ⟨h.nv.trans (by rw [h.nv]), blocksOnly_of_fieldsOnly h.core.fields (by decide), h.core.cross⟩

theorem DoorRun.of_core {nv : NvSt} {c d : Core} (h : blocksOnly ringBlocks c d) (hc : c.irq.cross ⊆ d.irq.cross) : DoorRun (nv, c) (nv, d) := ⟨rfl, h, hc⟩

theorem pumpRun_jShow (q : NC) : PumpRun q (jShow q) := .of_core (pumped_jShow q)

theorem doorRun_hifPump (q : NC) : DoorRun q (hifPump q) := (pumpRun_hifPump q).door

theorem doorRun_jFree (q : NC) : DoorRun q (jFree q) := by
  unfold jFree
  refine .trans ?_ (pumpRun_jShow _).door
  exact ⟨rfl, blocksOnly_refl _ _, List.Subset.refl _⟩

theorem doorRun_cqShow (q : NC) : DoorRun q (cqShow q) := .of_core (blocksOnly_wrB (blocksOnly_refl _ _) (by decide)) (List.Subset.refl _)

theorem doorRun_setMod {r : Nat} (hr : r < 64) (v : Nat) (q : NC) : DoorRun q (setMod r v q) :=
  ⟨rfl, blocksOnly_wr (blocksOnly_refl _ _) (ofRings_mod hr).block, List.Subset.refl _⟩

theorem doorRun_accept1 (a : AonSt) {r : Nat} (hr : r < 64) (q : NC) : DoorRun q (accept1 a r q) := by
  unfold accept1
  split
  · exact .refl q
  · dsimp only
    split
    · exact .refl q
    · refine .trans ?_ (doorRun_setMod hr _ _)
      exact ⟨rfl, blocksOnly_refl _ _, List.Subset.refl _⟩

theorem doorRun_times {f : Nat → NC → NC} (hf : ∀ k q, DoorRun q (f k q)) (n : Nat) (q : NC) : DoorRun q (times f n q) := by
  induction n generalizing q with
  | zero => exact .refl q
  | succ n ih => exact (hf n q).trans (ih (f n q))

theorem doorRun_writeBack (r : Nat) (q : NC) : DoorRun q (writeBack r q) := .of_core (blocksOnly_csr rfl) (List.Subset.refl _)

end Sys2Proof.Machine
end

section
/-! PROOF. O32: doorbells, fetched descriptors, acceptance, reads that fail (R383, R389, R396) -/

namespace Sys2Proof.Machine

/-- What a record keeps to its end. -/
structure JRec.Keeps (j k : JRec) : Prop where
  ring : j.ring = k.ring
  sidx : j.sidx = k.sidx
  cid : j.cid = k.cid
  op : j.op = k.op
  own : j.own = k.own
  acc : j.acc = k.acc
  ops : j.ops = k.ops

theorem keeps_of_lasting {j k : JRec} (h : j.lasting = k.lasting) : j.Keeps k := by
  simp only [JRec.lasting, JRec.mk.injEq] at h
  constructor <;> simp only [h]

/-! ### A doorbell that is ignored (R389) -/

/-- The fields that an ignored doorbell write shows. -/
def dbFlds : List Fld := [F.HIF_DBERR.COUNT, F.HIF_DBERR.RING, F.HIF_DBERR.FUNC]

/-- What `HIF_DBERR` shows after an ignored doorbell write. -/
structure DbCounted (fn r : Nat) (c d : Core) : Prop where
  count : d.rd F.HIF_DBERR.COUNT = min 65535 (c.rd F.HIF_DBERR.COUNT + 1)
  ring : d.rd F.HIF_DBERR.RING = r
  func : d.rd F.HIF_DBERR.FUNC = fn % 4

theorem dbErr_fields (fn r : Nat) (c : Core) : fieldsOnly dbFlds c (dbErr fn r c) :=
  fieldsOnly_wr (fieldsOnly_wr (fieldsOnly_cntSat (fieldsOnly_refl _ c) (by simp [dbFlds])) (by simp [dbFlds])) (by simp [dbFlds])

theorem dbErr_counted {r : Nat} (hr : r < 64) (fn : Nat) (c : Core) : DbCounted fn r c (dbErr fn r c) := by
  unfold dbErr
  refine ⟨?_, ?_, ?_⟩ <;> simp (disch := decide) only [Core.rd_wr_same, Core.rd_wr_ne, rd_cntSat_same]
  · rfl
  · exact Nat.mod_eq_of_lt hr
  · rfl

theorem dbFlds_key_ne {r : Nat} (hr : r < 64) : ∀ f ∈ dbFlds, ∀ g ∈ F.HIF_RSTAT.ERR r :: ringFlds r, f.key ≠ g.key := by
  intro f hf
  have hring : ∀ g : Fld, g.OfRings → f.key ≠ g.key := fun g hg => (hg.key_ne (by decide) f hf).symm
  have hshown : ∀ f ∈ dbFlds, ∀ g ∈ shownFlds, f.key ≠ g.key := by decide
  exact List.forall_mem_cons.mpr ⟨hring _ (ofRings_err hr), List.forall_mem_cons.mpr ⟨hring _ (ofRings_state hr), hshown f hf⟩⟩

theorem DbCounted.of_ring {fn r : Nat} {c d e : Core} (h : DbCounted fn r c d) (hr : r < 64)
    (hd : fieldsOnly (F.HIF_RSTAT.ERR r :: ringFlds r) d e) : DbCounted fn r c e := by
  have hne := dbFlds_key_ne hr
  exact ⟨(hd _ (hne _ (by simp [dbFlds]))).trans h.count, (hd _ (hne _ (by simp [dbFlds]))).trans h.ring, (hd _ (hne _ (by simp [dbFlds]))).trans h.func⟩

theorem dbErr_rst (fn : Nat) {r : Nat} (hr : r < 64) (c : Core) : (dbErr fn r c).rst r = c.rst r :=
  dbErr_fields fn r c _ ((ofRings_state hr).key_ne (by decide))

theorem dbHalt_running {fn r : Nat} {c : Core} (hr : r < 64) (h : c.rst r ≠ 1) : dbHalt fn r c = dbErr fn r c :=
  if_neg (by rwa [dbErr_rst fn hr])

/-- R404: an ACTIVE ring halts. -/
theorem dbHalt_shows {fn r : Nat} {c : Core} (hr : r < 64) (h : c.rst r = 1) :
    let d := dbHalt fn r c
    DbCounted fn r c d ∧ d.rst r = 3 ∧ d.rd (F.HIF_RSTAT.ERR r) = 1 ∧ 11 ∈ d.irq.cross ∧ blocksOnly ringBlocks c d := by
  have hst : (dbErr fn r c).rst r = 1 := (dbErr_rst fn hr c).trans h
  obtain ⟨hfields, hhalt, herr, hcross, -⟩ := ringHalt_shows hr (e := 1) (by decide) (dbErr fn r c) hst
  have heq : dbHalt fn r c = ringState r 3 ((dbErr fn r c).wr (F.HIF_RSTAT.ERR r) 1) := if_pos hst
  rw [heq]
  exact ⟨(dbErr_counted hr fn c).of_ring hr hfields, hhalt, herr, hcross,
    blocksOnly_trans (blocksOnly_of_fieldsOnly (dbErr_fields fn r c) (by decide)) (blocksOnly_of_fieldsOnly hfields (ringHalt_blocks hr))⟩

/-! ### Doorbells (R388, R389, R430) -/

section
variable {fn r v : Nat} {q : NC}

theorem dbBad_iff {c : Core} : c.dbBad fn r = true ↔ c.rowner r ≠ fn ∨ c.rst r = 0 ∨ c.rst r = 4 := by
  simp [Core.dbBad, or_assoc]

theorem prodDoorbell_bad (h : q.2.dbBad fn r = true) : prodDoorbell fn r v q = (q.1, dbErr fn r q.2) := if_pos h

theorem prodDoorbell_other (h : ¬ q.2.dbBad fn r = true) (ht : q.2.rtyp r ≠ 0) : prodDoorbell fn r v q = q :=
  (if_neg h).trans (if_pos (by simpa using ht))

theorem prodDoorbell_over (h : ¬ q.2.dbBad fn r = true) (ht : q.2.rtyp r = 0) (ho : q.2.rsize r < dist16 v (q.2.rmod r)) :
    prodDoorbell fn r v q = (q.1, dbHalt fn r q.2) :=
  ((if_neg h).trans (if_neg (by simp [ht]))).trans (if_pos ho)

theorem prodDoorbell_good (h : ¬ q.2.dbBad fn r = true) (ht : q.2.rtyp r = 0) (ho : dist16 v (q.2.rmod r) ≤ q.2.rsize r) :
    prodDoorbell fn r v q = hifPump (q.1, (q.2.wr (F.HIF_RIDX.HOST r) v).pulse 8) :=
  ((if_neg h).trans (if_neg (by simp [ht]))).trans (if_neg (Nat.not_lt.mpr ho))

theorem cackDoorbell_bad (h : q.2.dbBad fn r = true) : cackDoorbell fn r v q = (q.1, dbErr fn r q.2) := if_pos h

theorem cackDoorbell_other (h : ¬ q.2.dbBad fn r = true) (ht : q.2.rtyp r = 0) : cackDoorbell fn r v q = q := (if_neg h).trans (if_pos ht)

theorem cackDoorbell_over (h : ¬ q.2.dbBad fn r = true) (ht : q.2.rtyp r ≠ 0) (ho : q.2.rsize r < dist16 (q.2.rmod r) v) :
    cackDoorbell fn r v q = (q.1, dbHalt fn r q.2) :=
  ((if_neg h).trans (if_neg ht)).trans (if_pos ho)

/-- R397: the records that a CACK doorbell acknowledges. -/
def acked (r n : Nat) (q : NC) : NvSt :=
  { q.1 with jrec := q.1.jrec.map (fun j =>
      if j.stg == 2 && (q.1.ring j.ring).pair == r && q.2.rtyp r == 1 && decide (n < dist16 (q.2.rmod r) j.cidx) then { j with stg := 3 } else j) }

theorem cackDoorbell_good (h : ¬ q.2.dbBad fn r = true) (ht : q.2.rtyp r ≠ 0) (ho : dist16 (q.2.rmod r) v ≤ q.2.rsize r) :
    cackDoorbell fn r v q = hifPump (cqShow (jFree (acked r (dist16 (q.2.rmod r) v) q, q.2.wr (F.HIF_RIDX.HOST r) v))) :=
  ((if_neg h).trans (if_neg ht)).trans (if_neg (Nat.not_lt.mpr ho))

/-- What a doorbell that is good runs writes, beside the host index. -/
def doorFlds : List Fld := F.HIF_STAT.CQFULL :: pumpFlds

theorem hostLoaded (hr : r < 64) {d e : Core} (hd : d.rhost r = v % 65536) (he : fieldsOnly doorFlds d e) : e.rhost r = v % 65536 :=
  (he _ ((ofRings_host hr).key_ne (by decide))).trans hd

theorem PumpRun.doorFlds {q t : NC} (h : PumpRun q t) : fieldsOnly doorFlds q.2 t.2 :=
  fieldsOnly_mono h.core.fields fun _ hf => List.mem_cons_of_mem _ hf

/-- R388: a good PROD doorbell. -/
theorem prodDoorbell_shows (hr : r < 64) (h : ¬ q.2.dbBad fn r = true) (ht : q.2.rtyp r = 0) (ho : dist16 v (q.2.rmod r) ≤ q.2.rsize r) :
    let t := prodDoorbell fn r v q
    DoorRun q t ∧ t.2.rhost r = v % 65536 ∧ 8 ∈ t.2.irq.cross := by
  rw [prodDoorbell_good h ht ho]
  have hpump := pumpRun_hifPump (q.1, (q.2.wr (F.HIF_RIDX.HOST r) v).pulse 8)
  refine ⟨.trans ?_ hpump.door, hostLoaded hr (Core.rd_wr_same ..) hpump.doorFlds, hpump.core.cross (List.mem_append_right _ (by simp))⟩
  exact .of_core (blocksOnly_pulse (blocksOnly_wr (blocksOnly_refl _ _) (ofRings_host hr).block)) (List.subset_append_left _ _)

/-- R388, R397: a good CACK doorbell. -/
theorem cackDoorbell_shows (hr : r < 64) (h : ¬ q.2.dbBad fn r = true) (ht : q.2.rtyp r ≠ 0) (ho : dist16 (q.2.rmod r) v ≤ q.2.rsize r) :
    let t := cackDoorbell fn r v q
    DoorRun q t ∧ t.2.rhost r = v % 65536 := by
  rw [cackDoorbell_good h ht ho]
  generalize hq0 : ((acked r (dist16 (q.2.rmod r) v) q, q.2.wr (F.HIF_RIDX.HOST r) v) : NC) = q0
  have hack : DoorRun q q0 := by
    subst hq0
    exact ⟨rfl, blocksOnly_wr (blocksOnly_refl _ _) (ofRings_host hr).block, List.Subset.refl _⟩
  have hhost : q0.2.rhost r = v % 65536 := by
    subst hq0
    exact Core.rd_wr_same ..
  have hpump := pumpRun_hifPump (cqShow (jFree q0))
  refine ⟨hack.trans ((doorRun_jFree q0).trans ((doorRun_cqShow _).trans hpump.door)), hostLoaded hr hhost ?_⟩
  have hfree : fieldsOnly doorFlds q0.2 (jFree q0).2 := (pumpRun_jShow _).doorFlds
  exact fieldsOnly_trans hfree (fieldsOnly_trans (fieldsOnly_wr (fieldsOnly_refl _ _) (by simp [doorFlds])) hpump.doorFlds)

theorem resumeDoorbell_bad (h : q.2.rowner r ≠ fn) : resumeDoorbell fn r q = (q.1, dbErr fn r q.2) := if_pos (by simpa using h)

theorem resumeDoorbell_other (h : q.2.rowner r = fn) (hst : q.2.rst r ≠ 2) : resumeDoorbell fn r q = q :=
  (if_neg (by simp [h])).trans (if_pos (by simpa using hst))

/-- R430: a transfer of a resumed ring walks again. -/
def Xfer.resumed (r : Nat) (x : Xfer) : Xfer := if x.ring = r then { x with stalled := false, page := none } else x

/-- R430: the transfers of a resumed ring walk again. -/
def xfResumed (r : Nat) (c : Core) : Core := { c with hif := { c.hif with xf := c.hif.xf.map (Xfer.resumed r) } }

theorem resumeDoorbell_good (h : q.2.rowner r = fn) (hst : q.2.rst r = 2) :
    resumeDoorbell fn r q = hifPump (q.1, xfResumed r (ringState r 1 q.2)) :=
  (if_neg (by simp [h])).trans (if_neg (by simp [hst]))

theorem xfResumed_free (r : Nat) (c : Core) : ∀ x ∈ (xfResumed r c).hif.xf, x.ring = r → x.stalled = false := by
  intro x hx
  obtain ⟨y, -, rfl⟩ := List.mem_map.mp hx
  unfold Xfer.resumed
  split
  · exact fun _ => rfl
  · next hne => exact fun h => absurd h hne

/-- R426, R430: RESUME of a STALLED ring. -/
theorem resumeDoorbell_shows (hr : r < 64) (h : q.2.rowner r = fn) (hst : q.2.rst r = 2) :
    let t := resumeDoorbell fn r q
    DoorRun q t ∧ t.2.rst r = 1 ∧ ∀ x ∈ t.2.hif.xf, x.ring = r → x.stalled = false := by
  rw [resumeDoorbell_good h hst]
  have hpump := pumpRun_hifPump (q.1, xfResumed r (ringState r 1 q.2))
  refine ⟨.trans ?_ hpump.door, (hpump.core.rd_ofRings (ofRings_state hr)).trans (ringState_rst hr (by decide) q.2), fun x hx hring => ?_⟩
  · have hfields : fieldsOnly (ringFlds r) q.2 (xfResumed r (ringState r 1 q.2)) := fieldsOnly_of_csr (ringState_fields r 1 q.2) rfl
    exact .of_core (blocksOnly_of_fieldsOnly hfields (ringFlds_blocks hr)) (ringState_cross r 1 q.2)
  · obtain ⟨l, hl, hfree⟩ := hpump.core.xf
    rw [hl] at hx
    exact (List.mem_append.mp hx).elim (fun hx => xfResumed_free r _ x hx hring) (hfree x)

end

/-! ### Descriptors (R390, R396) -/

section
variable {r : Nat} {q : NC}

theorem descriptorFetch_none (h : ∀ x ∈ q.2.hif.desc, x.1 ≠ r) : descriptorFetch r q = q := by
  have hfind : q.2.hif.desc.find? (fun x => x.1 == r) = none := List.find?_eq_none.mpr fun x hx => by simpa using h x hx
  unfold descriptorFetch
  dsimp only
  rw [hfind]

/-- R397: JFULL asserts where it did not show. -/
def jFullTold (r : Nat) (c : Core) : Core := if c.on F.HIF_STAT.JFULL then c else c.raise 10 r 0

theorem descriptorFetch_full {d : Nat × List Nat} (h : q.2.hif.desc.find? (fun x => x.1 == r) = some d) (hfull : 8192 ≤ q.1.jrec.length) :
    descriptorFetch r q = jShow (q.1, jFullTold r q.2) := by
  unfold descriptorFetch
  dsimp only
  rw [h]
  exact if_pos hfull

/-- R390: the record of a fetched descriptor. -/
def fetchedRec (r : Nat) (d : Nat × List Nat) (q : NC) : JRec :=
  { descOf r (Tab.get 0 q.2.hif.fetch r) d.2 with own := (q.1.ring r).owner, cls := (q.1.ring r).cls }

/-- R390: the descriptor is taken and the next one falls due. -/
def fetchMoved (r : Nat) (c : Core) : Core :=
  { c with hif := { c.hif with desc := Tab.del c.hif.desc r, fetch := Tab.put 0 c.hif.fetch r ((Tab.get 0 c.hif.fetch r + 1) % 65536) } }

theorem descriptorFetch_room {d : Nat × List Nat} (h : q.2.hif.desc.find? (fun x => x.1 == r) = some d) (hroom : q.1.jrec.length < 8192) :
    descriptorFetch r q = hifPump (jShow ({ q.1 with jrec := q.1.jrec ++ [fetchedRec r d q] }, fetchMoved r q.2)) := by
  unfold descriptorFetch
  dsimp only
  rw [h]
  exact if_neg (Nat.not_le.mpr hroom)

theorem Core.Pumped.fetch {c d : Core} (h : c.Pumped d) : d.hif.fetch = c.hif.fetch :=
  calc d.hif.fetch = d.hif.besidePumps.fetch := rfl
    _ = c.hif.fetch := by rw [h.hif]; rfl

theorem descriptorFetch_full_shows {d : Nat × List Nat} (h : q.2.hif.desc.find? (fun x => x.1 == r) = some d) (hfull : 8192 ≤ q.1.jrec.length) :
    let t := descriptorFetch r q
    DoorRun q t ∧ t.1 = q.1 ∧ t.2.rd F.HIF_STAT.JFULL = 1 ∧ (q.2.on F.HIF_STAT.JFULL = false → 10 ∈ t.2.irq.cross) := by
  rw [descriptorFetch_full h hfull]
  have hcross : q.2.irq.cross ⊆ (jFullTold r q.2).irq.cross := by
    unfold jFullTold
    split
    · exact List.Subset.refl _
    · exact List.subset_append_left _ _
  have htold : blocksOnly ringBlocks q.2 (jFullTold r q.2) := by
    unfold jFullTold
    split
    · exact blocksOnly_refl _ _
    · exact blocksOnly_csr rfl
  have hshow : (jShow (q.1, jFullTold r q.2)).2.rd F.HIF_STAT.JFULL = b2n (decide (8192 ≤ q.1.jrec.length)) % 2 := Core.rd_wr_same ..
  refine ⟨(DoorRun.of_core htold hcross).trans (pumpRun_jShow _).door, rfl, ?_, fun hoff => ?_⟩
  · rw [hshow, decide_eq_true hfull]
    rfl
  · have hraise : jFullTold r q.2 = q.2.raise 10 r 0 := if_neg (by simp [hoff])
    rw [hraise]
    exact List.mem_append_right _ (by simp)

theorem descriptorFetch_room_shows {d : Nat × List Nat} (h : q.2.hif.desc.find? (fun x => x.1 == r) = some d) (hroom : q.1.jrec.length < 8192) :
    let t := descriptorFetch r q
    DoorRun q t ∧ Tab.get 0 t.2.hif.fetch r = (Tab.get 0 q.2.hif.fetch r + 1) % 65536 ∧ ∃ j ∈ t.1.jrec, j.lasting = (fetchedRec r d q).lasting := by
  rw [descriptorFetch_room h hroom]
  have hmove : DoorRun q ({ q.1 with jrec := q.1.jrec ++ [fetchedRec r d q] }, fetchMoved r q.2) := ⟨rfl, blocksOnly_csr rfl, List.Subset.refl _⟩
  have hrun : PumpRun _ _ := (pumpRun_jShow ({ q.1 with jrec := q.1.jrec ++ [fetchedRec r d q] }, fetchMoved r q.2)).trans (pumpRun_hifPump _)
  refine ⟨hmove.trans hrun.door, ?_, hrun.lasting _ (by simp) rfl⟩
  rw [hrun.core.fetch]
  exact Tab.get_put_same ..

end

/-! ### Acceptance (R396) -/

/-- A command that is journaled and may be accepted. -/
def NC.acceptable (r : Nat) (q : NC) (j : JRec) : Prop :=
  q.1.jrec.find? (fun j => j.ring == r && !j.acc && !j.gone) = some j ∧ q.2.journaled j = true ∧ q.2.accepts = true

section
variable {a : AonSt} {r : Nat} {q : NC} {j : JRec}

/-- The record of an accepted command. -/
def JRec.accepted (a : AonSt) (j : JRec) : JRec := { j with acc := true, ops := a.ops }

theorem accept1_full (h : q.acceptable r j) (hfull : cqFull (q.1.ring r).pair q = true) : accept1 a r q = q := by
  obtain ⟨hfind, hjour, hacc⟩ := h
  unfold accept1
  rw [hfind]
  exact if_pos (by simp [hjour, hacc, hfull])

theorem accept1_free (h : q.acceptable r j) (hfree : cqFull (q.1.ring r).pair q = false) :
    accept1 a r q = setMod r (j.sidx + 1) (q.1.setRec j (JRec.accepted a), q.2) := by
  obtain ⟨hfind, hjour, hacc⟩ := h
  unfold accept1
  rw [hfind]
  exact if_neg (by simp [hjour, hacc, hfree])

theorem accept1_takes (h : q.acceptable r j) (hfree : cqFull (q.1.ring r).pair q = false) : j.accepted a ∈ (accept1 a r q).1.jrec := by
  rw [accept1_free h hfree]
  refine mem_updFirst_of_find (p := fun x => x == j) (f := JRec.accepted a) ?_
  exact find?_of_narrower h.1 (by simp) fun k _ hk => by
    rw [beq_iff_eq] at hk
    rw [hk]
    exact List.find?_some (p := fun j : JRec => j.ring == r && !j.acc && !j.gone) h.1

/-- An accepted command is not accepted again. -/
theorem accept1_keeps {k : JRec} (hk : k ∈ q.1.jrec) (hacc : k.acc = true) : k ∈ (accept1 a r q).1.jrec := by
  unfold accept1
  split
  · exact hk
  · next j hj =>
    dsimp only
    split
    · exact hk
    · refine mem_updFirst_of_not (p := fun x => x == j) ?_ hk
      have hj' := List.find?_some hj
      simp only [Bool.and_eq_true, Bool.not_eq_true'] at hj'
      obtain ⟨⟨-, hnot⟩, -⟩ := hj'
      exact beq_eq_false_iff_ne.mpr fun he => by simp [he, hnot] at hacc

theorem times_accept1_keeps {k : JRec} (hacc : k.acc = true) (n : Nat) {q : NC} (hk : k ∈ q.1.jrec) : k ∈ (times (fun _ q => accept1 a r q) n q).1.jrec := by
  induction n generalizing q with
  | zero => exact hk
  | succ n ih => exact ih (accept1_keeps hk hacc)

theorem times_id {α : Type} {f : α → α} {x : α} (h : f x = x) (n : Nat) : times (fun _ => f) n x = x := by
  induction n with
  | zero => rfl
  | succ n ih => rw [times, h, ih]

theorem countIf_pos {α : Type} {p : α → Bool} {l : List α} {x : α} (hx : x ∈ l) (hp : p x = true) : ∃ n, countIf p l = n + 1 := by
  induction l with
  | nil => simp at hx
  | cons y l ih =>
    rcases List.mem_cons.mp hx with rfl | hx
    · exact ⟨countIf p l, by simp [countIf, hp, Nat.add_comm]⟩
    · obtain ⟨n, hn⟩ := ih hx
      exact ⟨(if p y then 1 else 0) + n, by simp [countIf, hn]; omega⟩

/-- The commands of a ring that wait are tried, as often as there are some. -/
def acceptAll (a : AonSt) (r : Nat) (q : NC) : NC := times (fun _ q => accept1 a r q) (countIf (fun j => j.ring == r && !j.acc) q.1.jrec) q

theorem acceptAll_succ (h : q.acceptable r j) : ∃ n, acceptAll a r q = times (fun _ q => accept1 a r q) n (accept1 a r q) := by
  have hj := List.find?_some h.1
  simp only [Bool.and_eq_true] at hj
  obtain ⟨n, hn⟩ := countIf_pos (p := fun j : JRec => j.ring == r && !j.acc) (List.mem_of_find?_eq_some h.1) (by simp [hj])
  exact ⟨n, by rw [acceptAll, hn, times]⟩

/-- R395: the write-back that covers what was accepted, where some command was. -/
def acceptTold (r m : Nat) (q : NC) : NC := if q.2.rmod r = m then q else hifPump (writeBack r (q.1, q.2.raise 9 r (dist16 (q.2.rmod r) m)))

theorem commandAccept_idle (h : q.2.rst r = 0 ∨ q.2.rst r = 4 ∨ q.2.rtyp r ≠ 0) : commandAccept a r q = q :=
  if_pos (by simpa [or_assoc] using h)

theorem commandAccept_eq (h : ¬ (q.2.rst r = 0 ∨ q.2.rst r = 4 ∨ q.2.rtyp r ≠ 0)) :
    commandAccept a r q = acceptTold r (q.2.rmod r) (cqShow (acceptAll a r q)) :=
  if_neg (by simpa [or_assoc] using h)

theorem acceptTold_lasting (r m : Nat) (q : NC) {k : JRec} (hk : k ∈ q.1.jrec) (hgone : k.gone = false) :
    ∃ k' ∈ (acceptTold r m q).1.jrec, k'.lasting = k.lasting := by
  unfold acceptTold
  split
  · exact ⟨k, hk, rfl⟩
  · exact (pumpRun_hifPump _).lasting k hk hgone

theorem doorRun_acceptTold (r m : Nat) (q : NC) : DoorRun q (acceptTold r m q) := by
  unfold acceptTold
  split
  · exact .refl q
  · refine .trans ?_ (doorRun_hifPump _)
    refine .trans ?_ (doorRun_writeBack r _)
    exact .of_core (blocksOnly_csr rfl) (List.subset_append_left _ _)

/-- R396: the first command that waits is accepted. -/
theorem commandAccept_takes (hr : r < 64) (hgood : ¬ (q.2.rst r = 0 ∨ q.2.rst r = 4 ∨ q.2.rtyp r ≠ 0)) (h : q.acceptable r j)
    (hfree : cqFull (q.1.ring r).pair q = false) :
    let t := commandAccept a r q
    DoorRun q t ∧ ∃ k ∈ t.1.jrec, k.lasting = (j.accepted a).lasting := by
  rw [commandAccept_eq hgood]
  have hgone : j.gone = false := by
    have hj := List.find?_some h.1
    simp only [Bool.and_eq_true, Bool.not_eq_true'] at hj
    exact hj.2
  have hall : DoorRun q (acceptAll a r q) := doorRun_times (fun _ q => doorRun_accept1 a hr q) _ q
  refine ⟨hall.trans ((doorRun_cqShow _).trans (doorRun_acceptTold r _ _)), acceptTold_lasting r _ _ ?_ hgone⟩
  obtain ⟨n, hn⟩ := acceptAll_succ (a := a) h
  rw [hn]
  exact times_accept1_keeps rfl n (accept1_takes h hfree)

/-- What a table shows that is not the default is one of its entries. -/
theorem Tab.mem_of_get_ne {α : Type} {d : α} {t : Tab α} {r : Nat} (h : Tab.get d t r ≠ d) : (r, Tab.get d t r) ∈ t := by
  induction t with
  | nil => exact absurd rfl h
  | cons p t ih =>
    obtain ⟨k, v⟩ := p
    by_cases hk : k = r
    · simp [Tab.get, hk]
    · simp only [Tab.get, if_neg hk] at h ⊢
      exact List.mem_cons_of_mem _ (ih h)

theorem cqShow_full (h : q.acceptable r j) (hlive : (q.1.ring r).live = true) (htyp : (q.1.ring r).typ = 0) (hfull : cqFull (q.1.ring r).pair q = true) :
    (cqShow q).2.rd F.HIF_STAT.CQFULL = 1 := by
  obtain ⟨hfind, hjour, hacc⟩ := h
  have hmem : (r, q.1.ring r) ∈ q.1.jring := Tab.mem_of_get_ne fun he => by simp [NvSt.ring, he] at hlive
  have hshow : (cqShow q).2.rd F.HIF_STAT.CQFULL = b2n (q.1.jring.any (fun x => x.2.live && x.2.typ == 0 &&
      match q.1.jrec.find? (fun j => j.ring == x.1 && !j.acc && !j.gone) with
      | some j => q.2.journaled j && q.2.accepts && cqFull x.2.pair q
      | none => false)) % 2 := Core.rd_wr_same ..
  rw [hshow, List.any_eq_true.mpr ⟨_, hmem, by simp [hlive, htyp, hfind, hjour, hacc, hfull]⟩]
  rfl

theorem cqShow_fields (q : NC) : fieldsOnly [F.HIF_STAT.CQFULL] q.2 (cqShow q).2 := fieldsOnly_wr (fieldsOnly_refl _ _) (by simp)

/-- R396: while no completion entry is free, nothing is accepted and CQFULL shows. -/
theorem commandAccept_full (hr : r < 64) (hgood : ¬ (q.2.rst r = 0 ∨ q.2.rst r = 4 ∨ q.2.rtyp r ≠ 0)) (h : q.acceptable r j)
    (hfull : cqFull (q.1.ring r).pair q = true) : commandAccept a r q = cqShow q := by
  have hall : acceptAll a r q = q := times_id (accept1_full h hfull) _
  have hmod : (cqShow q).2.rmod r = q.2.rmod r :=
    Core.rd_wr_ne _ _ (by simp only [Fld.key, F.HIF_RIDX.MOD, F.HIF_STAT.CQFULL]; omega)
  rw [commandAccept_eq hgood, hall]
  exact if_pos hmod

end

/-! ### A read that fails (R383) -/

section
variable {q : NC} {x : Xfer}

theorem tlpError_none (h : q.2.xfPick = none) : tlpError q = q := by
  unfold tlpError
  rw [h]

theorem tlpError_write (h : q.2.xfPick = some x) (hw : x.write = true) : tlpError q = q := by
  unfold tlpError
  rw [h]
  exact if_pos hw

/-- R383: the read goes, with an event. -/
def readLost (x : Xfer) (c : Core) : Core := ({ c with hif := { c.hif with xf := c.hif.xf.filter (fun t => t != x) } } : Core).raise 15 x.fn x.ring

theorem tlpError_fetch (h : q.2.xfPick = some x) (hw : x.write = false) (hk : x.kind = 1) (hst : q.2.rst x.ring = 1) :
    tlpError q = (q.1, ringState x.ring 3 ((readLost x q.2).wr (F.HIF_RSTAT.ERR x.ring) 2)) := by
  have hst' : (readLost x q.2).rst x.ring = 1 := hst
  unfold tlpError
  rw [h]
  refine (if_neg (by simp [hw])).trans ((if_pos hk).trans ?_)
  exact congrArg (Prod.mk q.1) (if_pos hst')

theorem tlpError_read (h : q.2.xfPick = some x) (hw : x.write = false) (hk : x.kind ≠ 1) :
    tlpError q = hifPump (finish x.ring x.idx 10 0 (q.1, readLost x q.2)) := by
  unfold tlpError
  rw [h]
  exact (if_neg (by simp [hw])).trans (if_neg hk)

theorem readLost_door (x : Xfer) (nv : NvSt) (c : Core) : DoorRun (nv, c) (nv, readLost x c) := .of_core (blocksOnly_csr rfl) (List.subset_append_left _ _)

theorem readLost_cross (x : Xfer) (c : Core) : 15 ∈ (readLost x c).irq.cross := List.mem_append_right _ (by simp)

end

/-! ### The obligation -/

/-- The frame of the operations on rings that touch the journal, HIF and the ATU. -/
theorem DoorRun.frame {s : State} {q : NC} (h : DoorRun (s.nv, s.core) q) :
    let t : State := { s with nv := q.1, core := q.2 }
    nvOnly s t ∧ t.nv = { s.nv with jrec := t.nv.jrec, jring := t.nv.jring } ∧ blocksOnly [F.HIF_STAT.ACCEPT.block, F.ATU_STAT.NHELD.block] s.core t.core :=
  ⟨rfl, h.nv, h.regs⟩

/-- Settles O32: each command by what its function does to the journal and the resettable part. -/
theorem ringDoorbells : Obligations.RingDoorbells := by
  unfold Obligations.RingDoorbells
  intro s fn r v hs hr
  have prod {P} := ends_onNv (P := P) (fun _ nv c => prodDoorbell fn r v (nv, c)) hs (rfl : exec (.submitDoorbell fn r v) s = _)
  have cack {P} := ends_onNv (P := P) (fun _ nv c => cackDoorbell fn r v (nv, c)) hs (rfl : exec (.completionAckDoorbell fn r v) s = _)
  have resume {P} := ends_onNv (P := P) (fun _ nv c => resumeDoorbell fn r (nv, c)) hs (rfl : exec (.ringResume fn r) s = _)
  have fetch {P} := ends_onNv (P := P) (fun _ nv c => descriptorFetch r (nv, c)) hs (rfl : exec (.descriptorFetch r) s = _)
  have accept {P} := ends_onNv (P := P) (fun a nv c => commandAccept a r (nv, c)) hs (rfl : exec (.commandAccept r) s = _)
  have tlp {P} := ends_onNv (P := P) (fun _ nv c => tlpError (nv, c)) hs (rfl : exec .tlpError s = _)
  have hbad : (s.core.rowner r ≠ fn ∨ s.core.rst r = 0 ∨ s.core.rst r = 4) ↔ s.core.dbBad fn r = true := dbBad_iff.symm
  obtain ⟨hcount, hring, hfunc⟩ := dbErr_counted hr fn s.core
  refine ⟨?prodBad, ?cackBad, ?prodOther, ?cackOther, ?prodHalt, ?prodOver, ?prodGood, ?cackHalt, ?cackOver, ?cackGood, ?resumeBad, ?resumeOther,
    ?resumeGood, ?fetchNone, ?fetchFull, ?fetchRoom, ?acceptIdle, ?acceptTakes, ?tlpNone, ?tlpWrite, ?tlpFetch, ?tlpRead⟩
  case prodBad => exact fun h => prod (by rw [prodDoorbell_bad (hbad.mp h)]; exact ⟨⟨rfl, hcount, hring, hfunc⟩, dbErr_fields fn r s.core⟩)
  case cackBad => exact fun h => cack (by rw [cackDoorbell_bad (hbad.mp h)]; exact ⟨⟨rfl, hcount, hring, hfunc⟩, dbErr_fields fn r s.core⟩)
  case prodOther => exact fun h ht => prod (by rw [prodDoorbell_other (mt hbad.mpr h) ht])
  case cackOther => exact fun h ht => cack (by rw [cackDoorbell_other (mt hbad.mpr h) ht])
  case prodHalt =>
    intro h ht ho hst
    obtain ⟨⟨hcount, hring, hfunc⟩, hhalt⟩ := dbHalt_shows (fn := fn) hr hst
    exact prod (by rw [prodDoorbell_over (mt hbad.mpr h) ht ho]; exact ⟨⟨rfl, hcount, hring, hfunc⟩, hhalt⟩)
  case prodOver =>
    intro h ht ho hst
    exact prod (by
      rw [prodDoorbell_over (mt hbad.mpr h) ht ho, dbHalt_running hr hst]
      exact ⟨⟨rfl, hcount, hring, hfunc⟩, dbErr_fields fn r s.core⟩)
  case prodGood =>
    intro h ht ho
    obtain ⟨hrun, hhost, hcross⟩ := prodDoorbell_shows (q := (s.nv, s.core)) hr (mt hbad.mpr h) ht ho
    exact prod ⟨hrun.frame, hhost, hcross⟩
  case cackHalt =>
    intro h ht ho hst
    obtain ⟨⟨hcount, hring, hfunc⟩, hhalt⟩ := dbHalt_shows (fn := fn) hr hst
    exact cack (by rw [cackDoorbell_over (mt hbad.mpr h) ht ho]; exact ⟨⟨rfl, hcount, hring, hfunc⟩, hhalt⟩)
  case cackOver =>
    intro h ht ho hst
    exact cack (by
      rw [cackDoorbell_over (mt hbad.mpr h) ht ho, dbHalt_running hr hst]
      exact ⟨⟨rfl, hcount, hring, hfunc⟩, dbErr_fields fn r s.core⟩)
  case cackGood =>
    intro h ht ho
    obtain ⟨hrun, hhost⟩ := cackDoorbell_shows (q := (s.nv, s.core)) hr (mt hbad.mpr h) ht ho
    exact cack ⟨hrun.frame, hhost⟩
  case resumeBad => exact fun h => resume (by rw [resumeDoorbell_bad h]; exact ⟨⟨rfl, hcount, hring, hfunc⟩, dbErr_fields fn r s.core⟩)
  case resumeOther => exact fun h hst => resume (by rw [resumeDoorbell_other h hst])
  case resumeGood =>
    intro h hst
    obtain ⟨hrun, hrst, hxf⟩ := resumeDoorbell_shows (q := (s.nv, s.core)) hr h hst
    exact resume ⟨hrun.frame, hrst, hxf⟩
  case fetchNone => exact fun h => fetch (by rw [descriptorFetch_none h])
  case fetchFull =>
    intro d h hfull
    obtain ⟨hrun, hshows⟩ := descriptorFetch_full_shows (q := (s.nv, s.core)) h hfull
    exact fetch ⟨hrun.frame, hshows⟩
  case fetchRoom =>
    intro d h hroom
    obtain ⟨hrun, hidx, j, hj, hlast⟩ := descriptorFetch_room_shows (q := (s.nv, s.core)) h hroom
    have hrec := keeps_of_lasting hlast
    exact fetch ⟨hrun.frame, hidx, j, hj, hrec.ring, hrec.sidx, hrec.cid, hrec.op, hrec.own, JRec.gone_of_lasting hlast⟩
  case acceptIdle => exact fun h => accept (by rw [commandAccept_idle h])
  case acceptTakes =>
    intro j hj h0 h4 ht hjour hacc hlive htyp hptyp hpst
    have hgood : ¬ (s.core.rst r = 0 ∨ s.core.rst r = 4 ∨ s.core.rtyp r ≠ 0) := by simp [h0, h4, ht]
    have hable : NC.acceptable r (s.nv, s.core) j := ⟨hj, hjour, hacc⟩
    refine ⟨fun hroom => ?_, fun hfull => ?_⟩
    · obtain ⟨hrun, k, hk, hlast⟩ := commandAccept_takes (a := s.aon) hr hgood hable (by simp [cqFull, hptyp, hpst, hroom])
      have hring : j.ring = r := by
        have hp := List.find?_some hj
        simp only [Bool.and_eq_true, beq_iff_eq] at hp
        exact hp.1.1
      have hrec := keeps_of_lasting hlast
      exact accept ⟨hrun.frame, k, hk, hrec.ring.trans hring, hrec.sidx, hrec.acc, hrec.ops⟩
    · have hcq : cqFull (s.nv.ring r).pair (s.nv, s.core) = true := by simp [cqFull, hfull]
      have hshow := cqShow_full hable hlive htyp hcq
      exact accept (by
        rw [commandAccept_full hr hgood hable hcq]
        exact ⟨rfl, cqShow_fields _, hshow⟩)
  case tlpNone => exact fun h => tlp (by rw [tlpError_none (q := (s.nv, s.core)) h])
  case tlpWrite => exact fun x h hw => tlp (by rw [tlpError_write (q := (s.nv, s.core)) h hw])
  case tlpFetch =>
    rintro x h hw hk rfl hst
    obtain ⟨hfields, hhalt, herr, -, hcross⟩ := ringHalt_shows hr (e := 2) (by decide) (readLost x s.core) hst
    exact tlp (by
      rw [tlpError_fetch (q := (s.nv, s.core)) h hw hk hst]
      exact ⟨rfl, blocksOnly_trans (readLost_door x s.nv s.core).regs (blocksOnly_of_fieldsOnly hfields (ringHalt_blocks hr)), hhalt, herr,
        hcross (readLost_cross x s.core)⟩)
  case tlpRead =>
    intro x h hw hk
    have hpump := (pumpRun_finish x.ring x.idx 10 0 (s.nv, readLost x s.core)).trans (pumpRun_hifPump _)
    exact tlp (by
      rw [tlpError_read (q := (s.nv, s.core)) h hw hk]
      exact ⟨((readLost_door x s.nv s.core).trans hpump.door).frame, hpump.core.cross (readLost_cross x s.core)⟩)

end Sys2Proof.Machine
end

section
/-! PROOF. O34: the commands of ring 0 on rings, vectors, streams and the ATU (R402 to R411, R423) -/

namespace Sys2Proof.Machine

/-! ### The parameters of a command (R390) -/

theorem leVal_take_drop (n : Nat) (l : List Nat) (i : Nat) : leVal ((l.drop i).take (n + 1)) = l.getD i 0 % 256 + 256 * leVal ((l.drop (i + 1)).take n) := by
  induction i generalizing l with
  | zero => cases l <;> simp [leVal]
  | succ i ih =>
    cases l with
    | nil => simp [leVal]
    | cons b l => simpa using ih l

theorem JRec.arg_one (j : JRec) (i : Nat) : j.arg i 1 = j.par.getD i 0 % 256 := by
  rw [JRec.arg, leVal_take_drop, List.take_zero, leVal]
  omega

theorem JRec.arg_two (j : JRec) (i : Nat) : j.arg i 2 = j.par.getD i 0 % 256 + 256 * (j.par.getD (i + 1) 0 % 256) := by
  rw [JRec.arg, leVal_take_drop, leVal_take_drop, List.take_zero, leVal]
  omega

theorem le_of_clearBits {x m : Nat} (h : clearBits x m = 0) : x ≤ m := by
  have hx : x = x &&& m := Nat.xor_eq_zero_iff.mp h
  exact hx ▸ Nat.and_le_right

theorem par_le {masks par : List Nat} (h : parOk masks par = true) {i : Nat} (hi : i < 32) : par.getD i 0 ≤ masks.getD i 0 := by
  refine le_of_clearBits (beq_iff_eq.mp (List.all_eq_true.mp h i ?_))
  simpa [upTo] using hi

section
variable {s : State} {op r : Nat} {masks : List Nat} {j : JRec}

theorem JRec.runs.arg_le (h : j.runs s op r masks) {i : Nat} (hi : i < 32) : j.arg i 1 ≤ masks.getD i 0 := by
  obtain ⟨-, -, -, -, hpar⟩ := h
  exact j.arg_one i ▸ (Nat.mod_le _ _).trans (par_le hpar hi)

theorem JRec.runs.ring (h : j.runs s op r masks) : j.ring = r := by
  have hp := List.find?_some (headRec_of_runs h)
  simp only [Bool.and_eq_true, beq_iff_eq] at hp
  exact hp.1.1

/-- R384: the commands on rings run on ring 0 alone. -/
theorem JRec.runs.ring_zero (h : j.runs s op r masks) (hop : op < 16) : r = 0 := by
  obtain ⟨-, -, hperm, -⟩ := h
  have hgroup : opGroup op = 6 := if_pos (.inl hop)
  simpa [Core.permits, hgroup] using hperm

end

/-! ### An operation on the rings, and then the end of its command -/

/-- What a command on rings changes: the journal, HIF and the ATU. -/
def ringFrame (s t : State) : Prop :=
  nvOnly s t ∧ t.nv = { s.nv with jrec := t.nv.jrec, jring := t.nv.jring } ∧ blocksOnly [F.HIF_STAT.ACCEPT.block, F.ATU_STAT.NHELD.block] s.core t.core

/-- The record of a command stays the one that is found, where records of it or of others in its ring that execute stay as they are. -/
theorem JRec.Found.of_kept {j : JRec} {nv nv' : NvSt} (h : j.Found nv) {p : JRec → Bool} {f : JRec → JRec} (he : nv'.jrec = (nv.jrec.filter p).map f)
    (hp : ∀ k, k.ring = j.ring → k.stg = 0 → p k = true ∧ f k = k) (hf : ∀ k, (f k).ring = k.ring ∧ (f k).sidx = k.sidx ∧ (f k).stg = k.stg) :
    j.Found nv' := by
  refine ⟨h.kept, ?_⟩
  have hstg : j.stg = 0 := by
    have hj := List.find?_some h.first
    simp only [Bool.and_eq_true, beq_iff_eq] at hj
    exact hj.2
  have htest : (fun k : JRec => p k && ((f k).ring == j.ring && (f k).sidx == j.sidx && (f k).stg == 0)) =
      fun k : JRec => k.ring == j.ring && k.sidx == j.sidx && k.stg == 0 := by
    funext k
    obtain ⟨h1, h2, h3⟩ := hf k
    rw [h1, h2, h3]
    by_cases hk : k.ring = j.ring ∧ k.stg = 0
    · simp [(hp k hk.1 hk.2).1]
    · by_cases hkr : k.ring = j.ring
      · have hks : k.stg ≠ 0 := fun h0 => hk ⟨hkr, h0⟩
        simp [hks]
      · simp [hkr]
  rw [he, List.find?_map, List.find?_filter]
  simp only [Function.comp_def, Bool.decide_and, Bool.decide_eq_true]
  rw [htest, h.first]
  simp [(hp j rfl hstg).2]

section
variable {s : State} {j : JRec} (hs : s.pwr.held = false) {q : NC} (hd : DoorRun (s.nv, s.core) q) (hj : j.Found q.1)
include hs hd hj

/-- R397, R398: an operation on the rings has run; then its command ends, and the rings go on. -/
theorem cmdEnd_ringOp (status result : Nat) :
    let t := cmdEnd j status result { s with nv := q.1, core := q.2 }
    ringFrame s t ∧ j.ended status result t ∧ PumpRun q (t.nv, t.core) := by
  intro t
  have ht : t = { s with nv := (hifPump (finish j.ring j.sidx status result q)).1, core := (hifPump (finish j.ring j.sidx status result q)).2 } :=
    onNv_run (s := { s with nv := q.1, core := q.2 }) _ hs
  have hrun : PumpRun q (hifPump (finish j.ring j.sidx status result q)) := (pumpRun_finish ..).trans (pumpRun_hifPump _)
  have hends := cmdEnd_ends (s := { s with nv := q.1, core := q.2 }) hs hj status result
  have hdoor := hd.trans hrun.door
  rw [ht]
  refine ⟨⟨rfl, hdoor.nv, hdoor.regs⟩, ?_, hrun⟩
  rw [← ht]
  exact hends.ended

/-- A command on rings that has an effect and ends. -/
theorem ends_ringOp {i : Instr} {op r res : Nat} {masks : List Nat} {g : JRec → State → State} {P : State → Prop} (hr : j.runs s op r masks)
    (he : exec i s = .next (runCmd op r masks g s)) (status : Nat) (hg : g j s = cmdEnd j status res { s with nv := q.1, core := q.2 })
    (hP : ∀ t, ringFrame s t → j.ended status res t → PumpRun q (t.nv, t.core) → P t) : Ends i s P := by
  refine ends_runCmd g hs hr he ?_
  obtain ⟨hframe, hended, hrun⟩ := cmdEnd_ringOp hs hd hj status res
  rw [hg]
  exact hP _ hframe hended hrun

end

section
variable {s : State} {j : JRec} (hs : s.pwr.held = false) (hj : j.Found s.nv)
include hs hj

/-- A command on rings that is refused. -/
theorem ends_ringRefused {i : Instr} {op r : Nat} {masks : List Nat} {g : JRec → State → State} (hr : j.runs s op r masks)
    (he : exec i s = .next (runCmd op r masks g s)) {status res : Nat} (hg : g j s = cmdEnd j status res s) :
    Ends i s fun t => ringFrame s t ∧ j.ended status res t :=
  ends_ringOp (q := (s.nv, s.core)) hs (.refl _) hj hr he status hg fun _ hframe hended _ => ⟨hframe, hended⟩

end

/-! ### A ring created, freed, restarted, reset (R403, R404, R407) -/

/-- After a change of the state of a ring its other registers show what they showed. -/
theorem ringState_rd {r : Nat} {f : Fld} (hf : f.OfRings) (hne : f.key ≠ (F.HIF_RSTAT.STATE r).key) (st : Nat) (c : Core) :
    (ringState r st c).rd f = c.rd f :=
  ringState_fields r st c f (hf.key_ne_ringFlds hne)

theorem ringIdx_key_ne (r : Nat) : (F.HIF_RIDX.MOD r).key ≠ (F.HIF_RSTAT.STATE r).key ∧ (F.HIF_RIDX.HOST r).key ≠ (F.HIF_RSTAT.STATE r).key := by
  simp only [Fld.key, F.HIF_RIDX.MOD, F.HIF_RIDX.HOST, F.HIF_RSTAT.STATE]
  omega

theorem ringType_key_ne (r : Nat) : (F.HIF_RSTAT.TYPE r).key ≠ (F.HIF_RSTAT.STATE r).key ∧ (F.HIF_RSTAT.OWNER r).key ≠ (F.HIF_RSTAT.STATE r).key := by
  simp only [Fld.key, F.HIF_RSTAT.STATE, F.HIF_RSTAT.TYPE, F.HIF_RSTAT.OWNER]
  omega

/-- An operation on the rings that changes the state of one of them. -/
theorem DoorRun.ringState {q : NC} {nv : NvSt} {c : Core} {r : Nat} (h : DoorRun q (nv, c)) (hr : r < 64) (st : Nat) : DoorRun q (nv, ringState r st c) :=
  h.trans (.of_core (blocksOnly_of_fieldsOnly (ringState_fields r st c) (ringFlds_blocks hr)) (ringState_cross r st c))

theorem ring_setRing_same (nv : NvSt) (r : Nat) (f : JRing → JRing) : (nv.setRing r f).ring r = f (nv.ring r) := Tab.get_put_same ..

/-- R404: the registers of a ring that is created. -/
def ringNamed (r : Nat) (x : JRing) (c : Core) : Core :=
  (((((c.wr (F.HIF_RSTAT.TYPE r) x.typ).wr (F.HIF_RSTAT.VER r) x.ver).wr (F.HIF_RSTAT.OWNER r) x.owner).wr
    (F.HIF_RSTAT.LOG2N r) x.log2n).wr (F.HIF_RSTAT.PAIR r) x.pair).wr (F.HIF_RSTAT.VEC r) x.vec

/-- R404: its indices begin at 0. -/
def ringZeroed (r : Nat) (x : JRing) (c : Core) : Core :=
  ((((ringNamed r x c).wrB (F.HIF_RSTAT.IEN r) x.ien).wr (F.HIF_RIDX.MOD r) 0).wr (F.HIF_RIDX.HOST r) 0).wr (F.HIF_RSTAT.ERR r) 0

/-- R404: what the module keeps of it beside its registers begins at 0. -/
def ringBegun (r : Nat) (x : JRing) (c : Core) : Core :=
  { ringZeroed r x c with
    hif := { c.hif with
      fetch := Tab.put 0 c.hif.fetch r 0, wbCnt := Tab.put 0 c.hif.wbCnt r 0, sseq := Tab.put 0 c.hif.sseq r 0, sdrop := Tab.put 0 c.hif.sdrop r 0,
      desc := Tab.del c.hif.desc r } }

theorem ringBegun_csr (r : Nat) (x : JRing) (c : Core) : (ringBegun r x c).csr = (ringZeroed r x c).csr := rfl

theorem ringCreate_eq (r : Nat) (x : JRing) (q : NC) :
    ringCreate r x q = (q.1.setRing r (fun _ => { x with live := true, mod := 0 }), ringState r 1 (ringBegun r x q.2)) := rfl

theorem ringNamed_blocks {r : Nat} (hr : r < 64) (x : JRing) (c : Core) : blocksOnly ringBlocks c (ringNamed r x c) :=
  blocksOnly_wr (blocksOnly_wr (blocksOnly_wr (blocksOnly_wr (blocksOnly_wr (blocksOnly_wr (blocksOnly_refl _ c) (ofRings_type hr).block)
    (ofRings_ver hr).block) (ofRings_owner hr).block) (ofRings_log2n hr).block) (ofRings_pair hr).block) (ofRings_vec hr).block

theorem ringBegun_blocks {r : Nat} (hr : r < 64) (x : JRing) (c : Core) : blocksOnly ringBlocks c (ringBegun r x c) := by
  refine blocksOnly_of_csr ?_ (ringBegun_csr r x c)
  exact blocksOnly_wr (blocksOnly_wr (blocksOnly_wr (blocksOnly_wrB (ringNamed_blocks hr x c) (ofRings_ien hr).block) (ofRings_mod hr).block)
    (ofRings_host hr).block) (ofRings_err hr).block

/-- The fields of `HIF_RSTAT` and `HIF_RIDX` of one ring are apart. -/
theorem ringBegun_shows (r : Nat) (x : JRing) (c : Core) :
    (ringBegun r x c).rd (F.HIF_RIDX.MOD r) = 0 ∧ (ringBegun r x c).rd (F.HIF_RIDX.HOST r) = 0 ∧ (ringBegun r x c).rd (F.HIF_RSTAT.TYPE r) = x.typ % 4 ∧
      (ringBegun r x c).rd (F.HIF_RSTAT.OWNER r) = x.owner % 4 := by
  have hrd : ∀ f, (ringBegun r x c).rd f = (ringZeroed r x c).rd f := fun _ => rfl
  simp only [hrd, ringZeroed, ringNamed, Core.wrB]
  refine ⟨?_, ?_, ?_, ?_⟩ <;>
  · simp (disch := (simp only [Fld.key, F.HIF_RIDX.MOD, F.HIF_RIDX.HOST, F.HIF_RSTAT.ERR, F.HIF_RSTAT.IEN, F.HIF_RSTAT.VEC, F.HIF_RSTAT.PAIR,
      F.HIF_RSTAT.LOG2N, F.HIF_RSTAT.OWNER, F.HIF_RSTAT.VER, F.HIF_RSTAT.TYPE]; omega)) only [Core.rd_wr_same, Core.rd_wr_ne]
    rfl

/-- What RING_CREATE shows. -/
theorem ringCreate_shows {r : Nat} (hr : r < 64) (x : JRing) (q : NC) :
    let t := ringCreate r x q
    DoorRun q t ∧ t.1.jrec = q.1.jrec ∧ t.2.rst r = 1 ∧ t.2.rmod r = 0 ∧ t.2.rhost r = 0 ∧ t.2.rtyp r = x.typ % 4 ∧ t.2.rowner r = x.owner % 4 ∧
      t.1.ring r = { x with live := true, mod := 0 } := by
  rw [ringCreate_eq]
  obtain ⟨hmodne, hhostne⟩ := ringIdx_key_ne r
  obtain ⟨htypne, hownne⟩ := ringType_key_ne r
  obtain ⟨hmod, hhost, htyp, hown⟩ := ringBegun_shows r x q.2
  have hrun : DoorRun q (q.1.setRing r (fun _ => { x with live := true, mod := 0 }), ringBegun r x q.2) :=
    ⟨rfl, ringBegun_blocks hr x q.2, List.Subset.refl _⟩
  exact ⟨hrun.ringState hr 1, rfl, ringState_rst hr (by decide) _, (ringState_rd (ofRings_mod hr) hmodne 1 _).trans hmod,
    (ringState_rd (ofRings_host hr) hhostne 1 _).trans hhost, (ringState_rd (ofRings_type hr) htypne 1 _).trans htyp,
    (ringState_rd (ofRings_owner hr) hownne 1 _).trans hown, ring_setRing_same ..⟩

/-- R404, R411: what a ring that becomes FREE takes with it. -/
def ringCleared (r : Nat) (c : Core) : Core :=
  { c with hif := { c.hif with
      xf := c.hif.xf.filter (fun t => t.ring != r || (t.kind == 2 || t.kind == 3))
      bind := c.hif.bind.filter (fun b => b.2 != r)
      desc := Tab.del c.hif.desc r } }

/-- R411: the records of a ring that becomes FREE: what executed goes, what waits is of no ring that stands. -/
def recsFreed (r : Nat) (l : List JRec) : List JRec :=
  (l.filter (fun j => !(j.ring == r && j.stg != 0))).map (fun j => if j.ring = r then { j with gone := true } else j)

theorem ringFree_eq (r : Nat) (q : NC) :
    ringFree r q = jShow ({ (q.1.setRing r (fun _ => {})) with jrec := recsFreed r q.1.jrec }, ringState r 0 (ringCleared r q.2)) := rfl

section
variable {r : Nat} {q : NC} {j : JRec} (hr : r < 64) (hj : j.Found q.1) (hne : j.ring ≠ r)
include hr hj hne

/-- R404, R411: a FROZEN ring becomes FREE. -/
theorem ringFree_shows : let t := ringFree r q
    DoorRun q t ∧ j.Found t.1 ∧ t.2.rst r = 0 ∧ (t.1.ring r).live = false := by
  rw [ringFree_eq]
  generalize hnv : ({ (q.1.setRing r (fun _ => {})) with jrec := recsFreed r q.1.jrec } : NvSt) = nv
  have hrun : DoorRun q (nv, ringCleared r q.2) := by
    subst hnv
    exact ⟨rfl, blocksOnly_csr rfl, List.Subset.refl _⟩
  have hshow := pumpRun_jShow (nv, ringState r 0 (ringCleared r q.2))
  refine ⟨(hrun.ringState hr 0).trans hshow.door, ?_, (hshow.core.rd_ofRings (ofRings_state hr)).trans (ringState_rst hr (by decide) _), ?_⟩
  · subst hnv
    refine hj.of_kept (nv' := { (q.1.setRing r (fun _ => {})) with jrec := recsFreed r q.1.jrec }) rfl (fun k hk _ => ?_) fun k => ?_
    · have hk' : k.ring ≠ r := hk ▸ hne
      simp [hk']
    · split <;> exact ⟨rfl, rfl, rfl⟩
  · subst hnv
    show ((q.1.setRing r fun _ => {}).ring r).live = false
    rw [ring_setRing_same]

/-- R404: the fetches of a ring that drains. -/
def ringUnfetched (r : Nat) (c : Core) : Core :=
  { c with hif := { c.hif with xf := c.hif.xf.filter (fun x => !(x.ring == r && x.kind == 1)), desc := Tab.del c.hif.desc r } }

/-- R404: the records of a ring that drains: those accepted or begun. -/
def recsDrained (r : Nat) (l : List JRec) : List JRec := l.filter (fun j => !(j.ring == r && j.stg == 0 && !j.acc && !j.run && !j.gone))

/-- R404: an ACTIVE ring drains. -/
theorem ringDelete_drains (hst : q.2.rst r = 1) : let t := ringDelete r q
    DoorRun q t ∧ j.Found t.1 ∧ t.2.rst r = 5 := by
  have heq : ringDelete r q = jShow ({ q.1 with jrec := recsDrained r q.1.jrec }, ringState r 5 (ringUnfetched r q.2)) := by
    unfold ringDelete
    dsimp only
    rw [hst, if_neg (by decide), if_pos (by decide), if_neg (by decide)]
    rfl
  rw [heq]
  have hrun : DoorRun q ({ q.1 with jrec := recsDrained r q.1.jrec }, ringUnfetched r q.2) := ⟨rfl, blocksOnly_csr rfl, List.Subset.refl _⟩
  have hshow := pumpRun_jShow ({ q.1 with jrec := recsDrained r q.1.jrec }, ringState r 5 (ringUnfetched r q.2))
  refine ⟨(hrun.ringState hr 5).trans hshow.door, ?_, (hshow.core.rd_ofRings (ofRings_state hr)).trans (ringState_rst hr (by decide) _)⟩
  refine hj.of_kept (nv' := { q.1 with jrec := recsDrained r q.1.jrec }) (f := id) (List.map_id _).symm (fun k hk _ => ?_) fun k => ⟨rfl, rfl, rfl⟩
  have hk' : k.ring ≠ r := hk ▸ hne
  simp [hk']

end

/-! ### A ring restarted (R407) -/

/-- R407: the memory of a ring that restarts. -/
def ringMoved (r base wb : Nat) (nv : NvSt) : NvSt := nv.setRing r (fun x => { x with base := base, wb := wb })

/-- R407: a SUBMIT ring that restarts fetches again from its consumer index, and its transfers walk on. -/
def submitAgain (r : Nat) (c : Core) : Core :=
  { c.wr (F.HIF_RIDX.HOST r) (c.rmod r) with
    hif := { c.hif with fetch := Tab.put 0 c.hif.fetch r (c.rmod r), xf := c.hif.xf.map (fun x => if x.ring = r then { x with stalled := false } else x) } }

/-- R407: a completion that a restarted COMPLETE ring has to write again. -/
def JRec.returned (r : Nat) (nv : NvSt) (j : JRec) : JRec := if (nv.ring j.ring).pair = r && j.stg == 1 then { j with ret := true } else j

/-- R407: the completions of a ring that restarts. -/
def recsReturned (r : Nat) (nv : NvSt) : NvSt :=
  if (nv.ring r).typ = 1 then { nv with jrec := nv.jrec.map (JRec.returned r nv) } else nv

theorem ringMoved_typ (r base wb : Nat) (nv : NvSt) : ((ringMoved r base wb nv).ring r).typ = (nv.ring r).typ := by
  rw [ringMoved, ring_setRing_same]

theorem ringRestart_submit {r base wb : Nat} {q : NC} (h : (q.1.ring r).typ = 0) :
    ringRestart r base wb q = writeBack r (ringMoved r base wb q.1, ringState r 1 (submitAgain r q.2)) := if_pos h

theorem ringRestart_other {r base wb : Nat} {q : NC} (h : (q.1.ring r).typ ≠ 0) :
    ringRestart r base wb q = setMod r 0 (recsReturned r (ringMoved r base wb q.1), ringState r 1 (q.2.wr (F.HIF_RIDX.HOST r) 0)) := by
  refine (if_neg h).trans ?_
  rw [recsReturned, ringMoved_typ]
  rfl

theorem recsReturned_found {r : Nat} {nv : NvSt} {j : JRec} (hj : j.Found nv) : j.Found (recsReturned r nv) := by
  unfold recsReturned
  split
  · refine hj.of_kept (p := fun _ => true) (f := JRec.returned r nv) (by simp) (fun k _ hk => ⟨rfl, if_neg (by simp [hk])⟩) fun k => ?_
    unfold JRec.returned
    split <;> exact ⟨rfl, rfl, rfl⟩
  · exact hj

theorem doorRun_recsReturned (r : Nat) (nv : NvSt) (c : Core) : DoorRun (nv, c) (recsReturned r nv, c) := by
  unfold recsReturned
  split
  · exact ⟨rfl, blocksOnly_refl _ _, List.Subset.refl _⟩
  · exact .refl _

theorem recsReturned_jring (r : Nat) (nv : NvSt) : (recsReturned r nv).jring = nv.jring := by
  unfold recsReturned
  split <;> rfl

section
variable {r base wb : Nat} {q : NC} {j : JRec} (hr : r < 64) (hj : j.Found q.1)
include hr hj

theorem ringRestart_submit_shows (h : (q.1.ring r).typ = 0) : let t := ringRestart r base wb q
    DoorRun q t ∧ j.Found t.1 ∧ t.2.rst r = 1 ∧ t.2.rmod r = q.2.rmod r ∧ t.2.rhost r = q.2.rmod r % 65536 ∧ (t.1.ring r).wb = wb := by
  rw [ringRestart_submit h]
  obtain ⟨hmodne, hhostne⟩ := ringIdx_key_ne r
  have hrun : DoorRun q (ringMoved r base wb q.1, submitAgain r q.2) :=
    ⟨rfl, blocksOnly_of_csr (blocksOnly_wr (v := q.2.rmod r) (blocksOnly_refl _ _) (ofRings_host hr).block) rfl, List.Subset.refl _⟩
  have hidx : (F.HIF_RIDX.MOD r).key ≠ (F.HIF_RIDX.HOST r).key := by
    simp only [Fld.key, F.HIF_RIDX.MOD, F.HIF_RIDX.HOST]
    omega
  have hmod : (submitAgain r q.2).rd (F.HIF_RIDX.MOD r) = q.2.rmod r := Core.rd_wr_ne _ _ hidx
  have hhost : (submitAgain r q.2).rd (F.HIF_RIDX.HOST r) = q.2.rmod r % 65536 := Core.rd_wr_same ..
  exact ⟨(hrun.ringState hr 1).trans (doorRun_writeBack r _), ⟨hj.kept, hj.first⟩, ringState_rst hr (by decide) (submitAgain r q.2),
    (ringState_rd (ofRings_mod hr) hmodne 1 (submitAgain r q.2)).trans hmod, (ringState_rd (ofRings_host hr) hhostne 1 (submitAgain r q.2)).trans hhost,
    congrArg JRing.wb (ring_setRing_same ..)⟩

theorem ringRestart_other_shows (h : (q.1.ring r).typ ≠ 0) : let t := ringRestart r base wb q
    DoorRun q t ∧ j.Found t.1 ∧ t.2.rst r = 1 ∧ t.2.rmod r = 0 ∧ t.2.rhost r = 0 ∧ (t.1.ring r).base = base := by
  rw [ringRestart_other h]
  obtain ⟨hmodne, hhostne⟩ := ringIdx_key_ne r
  have hidx : (F.HIF_RIDX.HOST r).key ≠ (F.HIF_RIDX.MOD r).key := by
    simp only [Fld.key, F.HIF_RIDX.MOD, F.HIF_RIDX.HOST]
    omega
  have hmoved : DoorRun q (ringMoved r base wb q.1, q.2.wr (F.HIF_RIDX.HOST r) 0) :=
    ⟨rfl, blocksOnly_wr (blocksOnly_refl _ _) (ofRings_host hr).block, List.Subset.refl _⟩
  have hrun := (hmoved.trans (doorRun_recsReturned r _ _)).ringState hr 1
  have hfound : j.Found (recsReturned r (ringMoved r base wb q.1)) := recsReturned_found (nv := ringMoved r base wb q.1) ⟨hj.kept, hj.first⟩
  refine ⟨hrun.trans (doorRun_setMod hr 0 _), ⟨hfound.kept, hfound.first⟩, ?_, Core.rd_wr_same .., ?_, ?_⟩
  · exact (Core.rd_wr_ne _ _ hmodne.symm).trans (ringState_rst hr (by decide) (q.2.wr (F.HIF_RIDX.HOST r) 0))
  · refine (Core.rd_wr_ne _ _ hidx).trans ((ringState_rd (ofRings_host hr) hhostne 1 _).trans ?_)
    exact Core.rd_wr_same ..
  · show ((NvSt.setRing _ r _).ring r).base = base
    rw [ring_setRing_same, NvSt.ring, recsReturned_jring]
    exact congrArg JRing.base (ring_setRing_same q.1 r _)

end

/-! ### A ring reset (R402, R404) -/

/-- R402: a SUBMIT ring that is reset fetches again from its consumer index. -/
def submitReset (r : Nat) (c : Core) : Core :=
  { c.wr (F.HIF_RIDX.HOST r) (c.rmod r) with
    hif := { c.hif with
      fetch := Tab.put 0 c.hif.fetch r (c.rmod r), desc := Tab.del c.hif.desc r
      xf := (c.hif.xf.filter (fun x => !(x.ring == r && x.kind == 1))).map (fun x => if x.ring = r then { x with stalled := false } else x) } }

/-- R402: the records of a SUBMIT ring that is reset: those accepted or begun. -/
def recsReset (r : Nat) (l : List JRec) : List JRec := l.filter (fun j => !(j.ring == r && j.stg == 0 && !j.acc && !j.run))

/-- R404: the error of a ring that becomes ACTIVE is 0. -/
def ringCured (r : Nat) (c : Core) : Core := ringState r 1 (c.wr (F.HIF_RSTAT.ERR r) 0)

theorem ringReset_submit {r : Nat} {q : NC} (h : q.2.rtyp r = 0) :
    ringReset r q = jShow ({ q.1 with jrec := recsReset r q.1.jrec }, ringCured r (submitReset r q.2)) := if_pos h

theorem ringReset_other {r : Nat} {q : NC} (h : q.2.rtyp r ≠ 0) : ringReset r q = (q.1, ringCured r q.2) := if_neg h

theorem ringCured_shows {r : Nat} (hr : r < 64) (c : Core) : (ringCured r c).rst r = 1 ∧ (ringCured r c).rd (F.HIF_RSTAT.ERR r) = 0 :=
  ⟨ringState_rst hr (by decide) _, (ringState_rd (ofRings_err hr) (ringErr_key_ne r) 1 _).trans (Core.rd_wr_same ..)⟩

theorem DoorRun.ringCured {r : Nat} (hr : r < 64) {q : NC} {nv : NvSt} {c : Core} (h : DoorRun q (nv, c)) : DoorRun q (nv, ringCured r c) := by
  have herr : DoorRun (nv, c) (nv, c.wr (F.HIF_RSTAT.ERR r) 0) := .of_core (blocksOnly_wr (blocksOnly_refl _ _) (ofRings_err hr).block) (List.Subset.refl _)
  exact (h.trans herr).ringState hr 1

theorem ringReset_shows {r : Nat} {q : NC} {j : JRec} (hr : r < 64) (hj : j.Found q.1) (hne : j.ring ≠ r) : let t := ringReset r q
    DoorRun q t ∧ j.Found t.1 ∧ t.2.rst r = 1 ∧ t.2.rd (F.HIF_RSTAT.ERR r) = 0 := by
  by_cases htyp : q.2.rtyp r = 0
  · rw [ringReset_submit htyp]
    have hrun : DoorRun q ({ q.1 with jrec := recsReset r q.1.jrec }, submitReset r q.2) :=
      ⟨rfl, blocksOnly_of_csr (blocksOnly_wr (v := q.2.rmod r) (blocksOnly_refl _ _) (ofRings_host hr).block) rfl, List.Subset.refl _⟩
    have hshow := pumpRun_jShow ({ q.1 with jrec := recsReset r q.1.jrec }, ringCured r (submitReset r q.2))
    obtain ⟨hst, herr⟩ := ringCured_shows hr (submitReset r q.2)
    refine ⟨(hrun.ringCured hr).trans hshow.door, ?_, (hshow.core.rd_ofRings (ofRings_state hr)).trans hst,
      (hshow.core.rd_ofRings (ofRings_err hr)).trans herr⟩
    refine hj.of_kept (nv' := { q.1 with jrec := recsReset r q.1.jrec }) (f := id) (List.map_id _).symm (fun k hk _ => ?_) fun k => ⟨rfl, rfl, rfl⟩
    have hk' : k.ring ≠ r := hk ▸ hne
    simp [hk']
  · rw [ringReset_other htyp]
    exact ⟨(DoorRun.refl q).ringCured hr, hj, ringCured_shows hr q.2⟩

/-! ### Vectors, streams, caches (R408, R415, R423) -/

/-- R402, R415: the vector of a ring and its moderation. -/
def vectorSet (r v : Nat) (j : JRec) (c : Core) : Core :=
  (((c.wr (F.HIF_RSTAT.VEC r) (j.arg 1 1)).wr (F.HIF_RSTAT.IEN r) (j.arg 2 1)).wr (F.HIF_MOD.TIMER v) (j.arg 4 2)).wr (F.HIF_MOD.COUNT v) (j.arg 6 1)

theorem vectorSet_shows {r v : Nat} (hr : r < 64) (hv : v < 64) (j : JRec) (c : Core) :
    blocksOnly ringBlocks c (vectorSet r v j c) ∧ (vectorSet r v j c).rd (F.HIF_RSTAT.VEC r) = j.arg 1 1 % 2 ^ 4 ∧
      (vectorSet r v j c).rd (F.HIF_RSTAT.IEN r) = j.arg 2 1 % 2 ^ 1 ∧ (vectorSet r v j c).rd (F.HIF_MOD.TIMER v) = j.arg 4 2 % 2 ^ 10 ∧
      (vectorSet r v j c).rd (F.HIF_MOD.COUNT v) = j.arg 6 1 % 2 ^ 8 := by
  have hvec : ∀ f : Fld, f.off = 0x10400 + 4 * v → (F.HIF_RSTAT.VEC r).key ≠ f.key ∧ (F.HIF_RSTAT.IEN r).key ≠ f.key := by
    intro f hf
    simp only [Fld.key, F.HIF_RSTAT.VEC, F.HIF_RSTAT.IEN]
    omega
  obtain ⟨hvt, hit⟩ := hvec (F.HIF_MOD.TIMER v) rfl
  obtain ⟨hvc, hic⟩ := hvec (F.HIF_MOD.COUNT v) rfl
  have hvi : (F.HIF_RSTAT.VEC r).key ≠ (F.HIF_RSTAT.IEN r).key := by
    simp only [Fld.key, F.HIF_RSTAT.VEC, F.HIF_RSTAT.IEN]
    omega
  have htc : (F.HIF_MOD.TIMER v).key ≠ (F.HIF_MOD.COUNT v).key := by
    simp only [Fld.key, F.HIF_MOD.TIMER, F.HIF_MOD.COUNT]
    omega
  unfold vectorSet
  refine ⟨blocksOnly_wr (blocksOnly_wr (blocksOnly_wr (blocksOnly_wr (blocksOnly_refl _ c) (ofRings_vec hr).block) (ofRings_ien hr).block)
    (ofRings_timer hv).block) (ofRings_count hv).block, ?_, ?_, ?_, Core.rd_wr_same ..⟩
  · rw [Core.rd_wr_ne _ _ hvc, Core.rd_wr_ne _ _ hvt, Core.rd_wr_ne _ _ hvi, Core.rd_wr_same]
    rfl
  · rw [Core.rd_wr_ne _ _ hic, Core.rd_wr_ne _ _ hit, Core.rd_wr_same]
    rfl
  · rw [Core.rd_wr_ne _ _ htc, Core.rd_wr_same]
    rfl

/-- R402: the rings that a record source is bound to. -/
def Core.bound (c : Core) (b : List (Nat × Nat)) : Core := { c with hif := { c.hif with bind := b } }

theorem doorRun_bound (nv : NvSt) (c : Core) (b : List (Nat × Nat)) : DoorRun (nv, c) (nv, c.bound b) := .of_core (blocksOnly_csr rfl) (List.Subset.refl _)

theorem Core.Pumped.bind {c d : Core} (h : c.Pumped d) : d.hif.bind = c.hif.bind :=
  calc d.hif.bind = d.hif.besidePumps.bind := rfl
    _ = c.hif.bind := by rw [h.hif]; rfl

theorem Core.Pumped.tlb {c d : Core} (h : c.Pumped d) : d.hif.tlb = c.hif.tlb :=
  calc d.hif.tlb = d.hif.besidePumps.tlb := rfl
    _ = c.hif.tlb := by rw [h.hif]; rfl

theorem Core.Pumped.l1c {c d : Core} (h : c.Pumped d) : d.hif.l1c = c.hif.l1c :=
  calc d.hif.l1c = d.hif.besidePumps.l1c := rfl
    _ = c.hif.l1c := by rw [h.hif]; rfl

theorem atuInvalidate_all (fn first pages : Nat) (c : Core) : (atuInvalidate 0 fn first pages c).hif.tlb = [] ∧ (atuInvalidate 0 fn first pages c).hif.l1c = [] := by
  simp [atuInvalidate, cacheDrop]

theorem doorRun_atuInvalidate (scope fn first pages : Nat) (nv : NvSt) (c : Core) : DoorRun (nv, c) (nv, atuInvalidate scope fn first pages c) :=
  .of_core (blocksOnly_csr rfl) (List.Subset.refl _)

theorem doorRun_atuInvDone (fn : Nat) (nv : NvSt) (c : Core) : DoorRun (nv, c) (nv, atuInvDone fn c) :=
  .of_core (blocksOnly_raise (blocksOnly_cntSat (blocksOnly_refl _ c) (by decide))) (List.subset_append_left _ _)

/-! ### What each command does, by its case -/

/-- The state with a result of the operation on the rings. -/
def State.ringsSet (s : State) (q : NC) : State := { s with nv := q.1, core := q.2 }

theorem onNv_ringsSet {s : State} (hs : s.pwr.held = false) (f : NC → NC) : onNv (fun _ nv c => f (nv, c)) s = s.ringsSet (f (s.nv, s.core)) := onNv_run _ hs

/-- R402: a command on a ring ends with the word of that ring. -/
def ringDone (j : JRec) (s : State) : State := cmdEnd j 0 (ringWord (j.arg 0 1) s.nv s.core) s

section
variable {j : JRec} {s : State}

theorem cmdRingCreate_version (h : s.core.verOk (createRing j).ver = false) : cmdRingCreate j s = cmdEnd j 7 0 s := if_pos (by simp [h])

theorem cmdRingCreate_param (hv : s.core.verOk (createRing j).ver = true) (h : s.core.createOk (j.arg 0 1) (createRing j) = false) :
    cmdRingCreate j s = cmdEnd j 4 0 s :=
  (if_neg (by simp [hv])).trans (if_pos (by simp [h]))

theorem cmdRingCreate_state (hv : s.core.verOk (createRing j).ver = true) (h : s.core.createOk (j.arg 0 1) (createRing j) = true)
    (hst : s.core.rst (j.arg 0 1) ≠ 0) : cmdRingCreate j s = cmdEnd j 5 0 s :=
  ((if_neg (by simp [hv])).trans (if_neg (by simp [h]))).trans (if_pos hst)

theorem cmdRingCreate_free (hs : s.pwr.held = false) (hv : s.core.verOk (createRing j).ver = true)
    (h : s.core.createOk (j.arg 0 1) (createRing j) = true) (hst : s.core.rst (j.arg 0 1) = 0) :
    cmdRingCreate j s = ringDone j (s.ringsSet (ringCreate (j.arg 0 1) (createRing j) (s.nv, s.core))) := by
  rw [← onNv_ringsSet hs (ringCreate (j.arg 0 1) (createRing j))]
  exact ((if_neg (by simp [hv])).trans (if_neg (by simp [h]))).trans (if_neg (by simp [hst]))

theorem cmdRingDelete_param (h : j.arg 0 1 < 2) : cmdRingDelete j s = cmdEnd j 4 0 s := if_pos h

theorem cmdRingDelete_state (h : 2 ≤ j.arg 0 1) (hst : s.core.rst (j.arg 0 1) = 0) : cmdRingDelete j s = cmdEnd j 5 0 s :=
  (if_neg (Nat.not_lt.mpr h)).trans (if_pos hst)

theorem cmdRingDelete_busy (h : 2 ≤ j.arg 0 1) (hst : s.core.rst (j.arg 0 1) ≠ 0) (ht : s.core.rtyp (j.arg 0 1) = 1)
    (hp : ∃ p ∈ s.nv.jring, p.2.live = true ∧ p.2.typ = 0 ∧ p.2.pair = j.arg 0 1) : cmdRingDelete j s = cmdEnd j 8 0 s := by
  refine ((if_neg (Nat.not_lt.mpr h)).trans (if_neg hst)).trans (if_pos ?_)
  obtain ⟨p, hmem, hp⟩ := hp
  rw [ht, List.any_eq_true.mpr ⟨p, hmem, by simp [hp]⟩]
  rfl

theorem cmdRingDelete_done (hs : s.pwr.held = false) (h : 2 ≤ j.arg 0 1) (hst : s.core.rst (j.arg 0 1) ≠ 0) (ht : s.core.rtyp (j.arg 0 1) ≠ 1) :
    cmdRingDelete j s = if (ringDelete (j.arg 0 1) (s.nv, s.core)).2.rst (j.arg 0 1) = 0 then cmdEnd j 0 0 (s.ringsSet (ringDelete (j.arg 0 1) (s.nv, s.core)))
      else cmdWait j 14 (s.ringsSet (ringDelete (j.arg 0 1) (s.nv, s.core))) := by
  show _ = if (s.ringsSet (ringDelete (j.arg 0 1) (s.nv, s.core))).core.rst (j.arg 0 1) = 0 then _ else _
  rw [← onNv_ringsSet hs (ringDelete (j.arg 0 1))]
  exact ((if_neg (Nat.not_lt.mpr h)).trans (if_neg hst)).trans (if_neg (by simp [ht]))

theorem cmdRingRestart_param (h : j.arg 0 1 < 2 ∨ j.arg 8 8 % 4096 ≠ 0 ∨ j.arg 16 8 % 8 ≠ 0) : cmdRingRestart j s = cmdEnd j 4 0 s := if_pos h

/-- R407: RING_RESTART names a ring above 1 and memory that is aligned. -/
def JRec.restarts (j : JRec) : Prop := ¬ (j.arg 0 1 < 2 ∨ j.arg 8 8 % 4096 ≠ 0 ∨ j.arg 16 8 % 8 ≠ 0)

theorem JRec.restarts_of {j : JRec} (h2 : 2 ≤ j.arg 0 1) (hb : j.arg 8 8 % 4096 = 0) (hw : j.arg 16 8 % 8 = 0) : j.restarts := by
  rintro (h | h | h)
  exacts [absurd h (Nat.not_lt.mpr h2), h hb, h hw]

theorem cmdRingRestart_state (h : j.restarts) (hst : s.core.rst (j.arg 0 1) ≠ 4) : cmdRingRestart j s = cmdEnd j 5 0 s :=
  (if_neg h).trans (if_pos hst)

theorem cmdRingRestart_version (h : j.restarts) (hst : s.core.rst (j.arg 0 1) = 4) (hv : s.core.verOk (s.nv.ring (j.arg 0 1)).ver = false) :
    cmdRingRestart j s = cmdEnd j 7 0 s :=
  ((if_neg h).trans (if_neg (by simp [hst]))).trans (if_pos (by simp [hv]))

theorem cmdRingRestart_frozen (hs : s.pwr.held = false) (h : j.restarts) (hst : s.core.rst (j.arg 0 1) = 4)
    (hv : s.core.verOk (s.nv.ring (j.arg 0 1)).ver = true) (hp : s.core.rtyp (j.arg 0 1) ≠ 0 ∨ s.core.rst (s.nv.ring (j.arg 0 1)).pair = 1) :
    cmdRingRestart j s = ringDone j (s.ringsSet (ringRestart (j.arg 0 1) (j.arg 8 8) (j.arg 16 8) (s.nv, s.core))) := by
  rw [← onNv_ringsSet hs (ringRestart (j.arg 0 1) (j.arg 8 8) (j.arg 16 8))]
  refine ((if_neg h).trans (if_neg (by simp [hst]))).trans ((if_neg (by simp [hv])).trans (if_neg ?_))
  rintro ⟨h0, h1⟩
  exact hp.elim (absurd h0) h1

theorem cmdRingReset_state (h : s.core.rst (j.arg 0 1) ≠ 3) : cmdRingReset j s = cmdEnd j 5 0 s := if_pos h

theorem cmdRingReset_halted (hs : s.pwr.held = false) (h : s.core.rst (j.arg 0 1) = 3) :
    cmdRingReset j s = ringDone j (s.ringsSet (ringReset (j.arg 0 1) (s.nv, s.core))) := by
  rw [← onNv_ringsSet hs (ringReset (j.arg 0 1))]
  exact if_neg (by simp [h])

theorem cmdVectorMap_state (h : s.core.rst (j.arg 0 1) = 0) : cmdVectorMap j s = cmdEnd j 5 0 s := if_pos h

/-- R415: the journal keeps the vector of a ring. -/
def NvSt.vectorKept (nv : NvSt) (j : JRec) : NvSt := nv.setRing (j.arg 0 1) (fun x => { x with vec := j.arg 1 1, ien := j.arg 2 1 == 1 })

theorem cmdVectorMap_ring (h : s.core.rst (j.arg 0 1) ≠ 0) :
    cmdVectorMap j s = cmdEnd j 0 0 (s.ringsSet (s.nv.vectorKept j, vectorSet (j.arg 0 1) (16 * s.core.rowner (j.arg 0 1) + j.arg 1 1) j s.core)) :=
  if_neg h

theorem cmdStreamBind_param (h : j.arg 0 1 = 0 ∨ 2 < j.arg 0 1) : cmdStreamBind j s = cmdEnd j 4 0 s := if_pos h

theorem cmdStreamBind_state (h : j.arg 0 1 = 1 ∨ j.arg 0 1 = 2) (hst : s.core.rst (j.arg 1 1) = 0 ∨ s.core.rtyp (j.arg 1 1) ≠ 2) :
    cmdStreamBind j s = cmdEnd j 5 0 s :=
  (if_neg (by omega)).trans (if_pos hst)

section
variable (h : j.arg 0 1 = 1 ∨ j.arg 0 1 = 2) (hst : s.core.rst (j.arg 1 1) ≠ 0) (ht : s.core.rtyp (j.arg 1 1) = 2)
include h hst ht

theorem cmdStreamBind_off (hoff : j.arg 2 1 = 0) :
    cmdStreamBind j s = cmdEnd j 0 0 (s.ringsSet (s.nv, s.core.bound (s.core.hif.bind.filter (fun b => b != (j.arg 0 1, j.arg 1 1))))) :=
  ((if_neg (by omega)).trans (if_neg (by simp [hst, ht]))).trans (if_pos hoff)

theorem cmdStreamBind_on (hon : j.arg 2 1 = 1) (hnew : (j.arg 0 1, j.arg 1 1) ∉ s.core.hif.bind)
    (hroom : countIf (fun b => b.1 == j.arg 0 1) s.core.hif.bind < 2) :
    cmdStreamBind j s = cmdEnd j 0 0 (s.ringsSet (s.nv, s.core.bound (s.core.hif.bind ++ [(j.arg 0 1, j.arg 1 1)]))) :=
  ((if_neg (by omega)).trans (if_neg (by simp [hst, ht]))).trans ((if_neg (by simp [hon])).trans ((if_neg (by simpa using hnew)).trans (if_neg (Nat.not_le.mpr hroom))))

end

theorem cmdAtuInvalidate_param (h : j.arg 0 1 = 3 ∨ j.arg 0 1 = 2 ∧ j.arg 16 4 = 0) : cmdAtuInvalidate j s = cmdEnd j 4 0 s := if_pos h

/-- R423: the caches without what the command has in scope. -/
def Core.invalidated (c : Core) (j : JRec) : Core := atuInvalidate 0 (j.arg 1 1) (j.arg 8 8 / 4096) (j.arg 16 4) c

theorem cmdAtuInvalidate_all (hs : s.pwr.held = false) (h : j.arg 0 1 = 0) :
    cmdAtuInvalidate j s = if s.core.holdsIn 0 (j.arg 1 1) (j.arg 8 8 / 4096) (j.arg 16 4) then cmdWait j 15 (s.ringsSet (s.nv, s.core.invalidated j))
      else cmdEnd j 0 0 (s.ringsSet (s.nv, atuInvDone (j.arg 1 1) (s.core.invalidated j))) := by
  have hset : onCore (atuInvalidate 0 (j.arg 1 1) (j.arg 8 8 / 4096) (j.arg 16 4)) s = s.ringsSet (s.nv, s.core.invalidated j) := onCore_run _ hs
  have hdone : onCore (atuInvDone (j.arg 1 1)) (s.ringsSet (s.nv, s.core.invalidated j)) = s.ringsSet (s.nv, atuInvDone (j.arg 1 1) (s.core.invalidated j)) :=
    onCore_run (s := s.ringsSet (s.nv, s.core.invalidated j)) _ hs
  refine (if_neg (by omega)).trans ?_
  rw [h, hset, hdone]
  rfl

end

/-- A command on rings that has an effect and waits. -/
theorem cmdWait_ringOp {s : State} {j : JRec} {q : NC} (hd : DoorRun (s.nv, s.core) q) (hj : j.Found q.1) (w : Nat) :
    let t := cmdWait j w (s.ringsSet q)
    ringFrame s t ∧ j.waits w t ∧ t.core = q.2 :=
  ⟨⟨rfl, congrArg (fun nv : NvSt => { nv with jrec := (cmdWait j w (s.ringsSet q)).nv.jrec }) hd.nv, hd.regs⟩, cmdWait_waits (s := s.ringsSet q) hj w, rfl⟩

theorem PumpRun.ring {q t : NC} (h : PumpRun q t) (r : Nat) : t.1.ring r = q.1.ring r := by
  rw [h.nv]
  rfl

/-- Settles O34: each command by its operation on the rings, and the end that all of them share. -/
theorem ringCommands : Obligations.RingCommands := by
  unfold Obligations.RingCommands
  intro s r j hs hgone
  refine ⟨fun hr => ?create, fun hr => ?delete, fun hr => ?query, fun hr => ?restart, fun hr => ?reset, fun hr hown => ?vector, fun hr => ?stream,
    fun hr => ?atu⟩
  case create =>
    have hj := found_of_runs hr hgone
    have hq : j.arg 0 1 < 64 := Nat.lt_succ_of_le (hr.arg_le (by decide))
    refine ⟨fun h => ends_ringRefused hs hj hr rfl (cmdRingCreate_version h), fun hv h => ends_ringRefused hs hj hr rfl (cmdRingCreate_param hv h),
      fun hv h hst => ends_ringRefused hs hj hr rfl (cmdRingCreate_state hv h hst), fun hv h hst => ?_⟩
    obtain ⟨hrun, hjrec, hact, hmod, hhost, htyp, hown, hring⟩ := ringCreate_shows hq (createRing j) (s.nv, s.core)
    refine ends_ringOp hs hrun ⟨hj.kept, hjrec ▸ hj.first⟩ hr rfl 0 (cmdRingCreate_free hs hv h hst) fun t hframe hended hgo => ?_
    exact ⟨⟨hframe, _, hended⟩, (hgo.core.rd_ofRings (ofRings_state hq)).trans hact, (hgo.core.rd_ofRings (ofRings_mod hq)).trans hmod,
      (hgo.core.rd_ofRings (ofRings_host hq)).trans hhost, (hgo.core.rd_ofRings (ofRings_type hq)).trans htyp,
      (hgo.core.rd_ofRings (ofRings_owner hq)).trans hown, (hgo.ring _).trans hring⟩
  case delete =>
    have hj := found_of_runs hr hgone
    have hq : j.arg 0 1 < 64 := Nat.lt_succ_of_le (hr.arg_le (by decide))
    have hne : 2 ≤ j.arg 0 1 → j.ring ≠ j.arg 0 1 := fun h2 => by
      rw [hr.ring, hr.ring_zero (by decide)]
      omega
    refine ⟨fun h => ends_ringRefused hs hj hr rfl (cmdRingDelete_param h), fun h hst => ends_ringRefused hs hj hr rfl (cmdRingDelete_state h hst),
      fun h hst ht hp => ends_ringRefused hs hj hr rfl (cmdRingDelete_busy h hst ht hp), fun h hst ht => ?_, fun h hst ht => ?_⟩
    · have hfree : ringDelete (j.arg 0 1) (s.nv, s.core) = ringFree (j.arg 0 1) (s.nv, s.core) := if_pos hst
      obtain ⟨hrun, hfound, hfreed, hlive⟩ := ringFree_shows (q := (s.nv, s.core)) hq hj (hne h)
      have hdel := cmdRingDelete_done (j := j) hs h (by simp [hst]) ht
      rw [hfree, if_pos hfreed] at hdel
      exact ends_ringOp hs hrun hfound hr rfl 0 hdel fun t hframe hended hgo =>
        ⟨⟨hframe, hended⟩, (hgo.core.rd_ofRings (ofRings_state hq)).trans hfreed, (congrArg JRing.live (hgo.ring _)).trans hlive⟩
    · obtain ⟨hrun, hfound, hdrain⟩ := ringDelete_drains (q := (s.nv, s.core)) hq hj (hne h) hst
      have hdel := cmdRingDelete_done (j := j) hs h (by simp [hst]) ht
      rw [if_neg (by simp [hdrain])] at hdel
      obtain ⟨hframe, hwaits, hcore⟩ := cmdWait_ringOp hrun hfound 14
      refine ends_runCmd _ hs hr rfl ?_
      rw [hdel]
      exact ⟨hframe, hwaits, hdrain⟩
  case query => exact ends_ringRefused hs (found_of_runs hr hgone) hr rfl rfl
  case restart =>
    have hj := found_of_runs hr hgone
    have hq : j.arg 0 1 < 64 := Nat.lt_succ_of_le (hr.arg_le (by decide))
    refine ⟨fun h => ends_ringRefused hs hj hr rfl (cmdRingRestart_param h),
      fun h2 hb hw hst => ends_ringRefused hs hj hr rfl (cmdRingRestart_state (JRec.restarts_of h2 hb hw) hst),
      fun h2 hb hw hst hv => ends_ringRefused hs hj hr rfl (cmdRingRestart_version (JRec.restarts_of h2 hb hw) hst hv),
      fun h2 hb hw hst hv ht htyp => ?_, fun h2 hb hw hst hv ht hp htyp => ?_⟩
    · obtain ⟨hrun, hfound, hact, hmod, hhost, hbase⟩ := ringRestart_other_shows (base := j.arg 8 8) (wb := j.arg 16 8) (q := (s.nv, s.core)) hq hj htyp
      refine ends_ringOp hs hrun hfound hr rfl 0 (cmdRingRestart_frozen hs (JRec.restarts_of h2 hb hw) hst hv (.inl ht)) fun t hframe hended hgo => ?_
      exact ⟨⟨hframe, _, hended⟩, (hgo.core.rd_ofRings (ofRings_state hq)).trans hact, (hgo.core.rd_ofRings (ofRings_mod hq)).trans hmod,
        (hgo.core.rd_ofRings (ofRings_host hq)).trans hhost, (congrArg JRing.base (hgo.ring _)).trans hbase⟩
    · obtain ⟨hrun, hfound, hact, hmod, hhost, hwb⟩ := ringRestart_submit_shows (base := j.arg 8 8) (wb := j.arg 16 8) (q := (s.nv, s.core)) hq hj htyp
      refine ends_ringOp hs hrun hfound hr rfl 0 (cmdRingRestart_frozen hs (JRec.restarts_of h2 hb hw) hst hv (.inr hp)) fun t hframe hended hgo => ?_
      exact ⟨⟨hframe, _, hended⟩, (hgo.core.rd_ofRings (ofRings_state hq)).trans hact, (hgo.core.rd_ofRings (ofRings_mod hq)).trans hmod,
        (hgo.core.rd_ofRings (ofRings_host hq)).trans hhost, (congrArg JRing.wb (hgo.ring _)).trans hwb⟩
  case reset =>
    have hj := found_of_runs hr hgone
    have hq : j.arg 0 1 < 64 := Nat.lt_succ_of_le (hr.arg_le (by decide))
    refine ⟨fun h => ends_ringRefused hs hj hr rfl (cmdRingReset_state h), fun hst hne => ?_⟩
    obtain ⟨hrun, hfound, hact, herr⟩ := ringReset_shows (q := (s.nv, s.core)) hq hj (fun h => hne (h.symm.trans hr.ring))
    exact ends_ringOp hs hrun hfound hr rfl 0 (cmdRingReset_halted hs hst) fun t hframe hended hgo =>
      ⟨⟨hframe, _, hended⟩, (hgo.core.rd_ofRings (ofRings_state hq)).trans hact, (hgo.core.rd_ofRings (ofRings_err hq)).trans herr⟩
  case vector =>
    have hj := found_of_runs hr hgone
    have hq : j.arg 0 1 < 64 := Nat.lt_succ_of_le (hr.arg_le (by decide))
    refine ⟨fun h => ends_ringRefused hs hj hr rfl (cmdVectorMap_state h), fun hst => ?_⟩
    have hvec : j.arg 1 1 ≤ 15 := hr.arg_le (by decide)
    have hien : j.arg 2 1 ≤ 1 := hr.arg_le (by decide)
    have hcount : j.arg 6 1 ≤ 255 := hr.arg_le (by decide)
    have htimer : j.arg 4 2 < 1024 := by
      obtain ⟨-, -, -, -, hpar⟩ := hr
      have h4 : j.par.getD (4 + 1) 0 ≤ 3 := par_le hpar (by decide)
      rw [j.arg_two]
      omega
    have hv : 16 * s.core.rowner (j.arg 0 1) + j.arg 1 1 < 64 := by omega
    obtain ⟨hblocks, h1, h2, h3, h4⟩ := vectorSet_shows hq hv j s.core
    have hrun : DoorRun (s.nv, s.core) (s.nv.vectorKept j, vectorSet (j.arg 0 1) (16 * s.core.rowner (j.arg 0 1) + j.arg 1 1) j s.core) :=
      ⟨rfl, hblocks, List.Subset.refl _⟩
    refine ends_ringOp hs hrun ⟨hj.kept, hj.first⟩ hr rfl 0 (cmdVectorMap_ring hst) fun t hframe hended hgo => ?_
    exact ⟨⟨hframe, hended⟩, ((hgo.core.rd_ofRings (ofRings_vec hq)).trans h1).trans (Nat.mod_eq_of_lt (by omega)),
      ((hgo.core.rd_ofRings (ofRings_ien hq)).trans h2).trans (Nat.mod_eq_of_lt (by omega)),
      ((hgo.core.rd_ofRings (ofRings_timer hv)).trans h3).trans (Nat.mod_eq_of_lt (by omega)),
      ((hgo.core.rd_ofRings (ofRings_count hv)).trans h4).trans (Nat.mod_eq_of_lt (by omega))⟩
  case stream =>
    have hj := found_of_runs hr hgone
    refine ⟨fun h => ends_ringRefused hs hj hr rfl (cmdStreamBind_param h), fun h hst => ends_ringRefused hs hj hr rfl (cmdStreamBind_state h hst),
      fun h hst ht hoff => ?_, fun h hst ht hon hnew hroom => ?_⟩
    · exact ends_ringOp hs (doorRun_bound _ _ _) hj hr rfl 0 (cmdStreamBind_off h hst ht hoff) fun t hframe hended hgo => ⟨⟨hframe, hended⟩, hgo.core.bind⟩
    · exact ends_ringOp hs (doorRun_bound _ _ _) hj hr rfl 0 (cmdStreamBind_on h hst ht hon hnew hroom) fun t hframe hended hgo =>
        ⟨⟨hframe, hended⟩, hgo.core.bind⟩
  case atu =>
    have hj := found_of_runs hr hgone
    refine ⟨fun h => ends_ringRefused hs hj hr rfl (cmdAtuInvalidate_param h), fun h hfree => ?_, fun h hheld => ?_⟩
    · have hrun := (doorRun_atuInvalidate 0 (j.arg 1 1) (j.arg 8 8 / 4096) (j.arg 16 4) s.nv s.core).trans (doorRun_atuInvDone (j.arg 1 1) _ _)
      have hcmd := cmdAtuInvalidate_all (j := j) hs h
      rw [if_neg (by simp [hfree])] at hcmd
      obtain ⟨htlb, hl1⟩ := atuInvalidate_all (j.arg 1 1) (j.arg 8 8 / 4096) (j.arg 16 4) s.core
      refine ends_ringOp hs hrun hj hr rfl 0 hcmd fun t hframe hended hgo => ⟨⟨hframe, hended⟩, hgo.core.tlb.trans htlb, hgo.core.l1c.trans hl1, ?_⟩
      have hcount := rd_cntSat_same (s.core.invalidated j) F.ATU_INVCNT.COUNT
      exact (hgo.core.fields _ (by decide)).trans hcount
    · have hcmd := cmdAtuInvalidate_all (j := j) hs h
      rw [if_pos hheld] at hcmd
      obtain ⟨hframe, hwaits, hcore⟩ := cmdWait_ringOp (doorRun_atuInvalidate 0 (j.arg 1 1) (j.arg 8 8 / 4096) (j.arg 16 4) s.nv s.core) hj 15
      refine ends_runCmd _ hs hr rfl ?_
      rw [hcmd]
      exact ⟨hframe, hwaits, (atuInvalidate_all _ _ _ _).1⟩

end Sys2Proof.Machine
end

section
/-! PROOF. O31: the grant of a line interface that has kept the setting of a pair -/

namespace Sys2Proof.Machine

/-- A module whose line interface has kept the setting of a pair, whose registers show none, and whose CNV switches. -/
def keptPairState : State :=
  { State.reset with
    line := { State.reset.line with pair := true }
    core := { State.reset.core.wr F.CNV_STAT.STATE 2 with prot := { State.reset.core.prot with vioA := true } } }

theorem keptPairState_gatesOn : (grantChange false keptPairState.line keptPairState.core).2.gatesOn = true := by decide

/-- Refutes O31: without the grant it has the gates off where the line interface has kept the setting of a pair. Whether the gates are enabled
(R301, R365) asks `RED_CFG.PAIR` alone: in `keptPairState`, where that is 0, they still are once the grant has gone. -/
theorem not_pairCommands : ¬ Obligations.PairCommands := by
  unfold Obligations.PairCommands
  intro h
  obtain ⟨⟨t, hexec, -, -, -, hpair, -⟩, -⟩ := h keptPairState {} false false 0 0 0 0 rfl (by decide)
  obtain ⟨-, hgate⟩ := hpair (.inl rfl)
  obtain ⟨-, hoff⟩ := hgate rfl
  have hrun : onLine (grantChange false) keptPairState = t := Host.Outcome.next.inj hexec
  have hcore : t.core = (grantChange false keptPairState.line keptPairState.core).2 := by
    rw [← hrun]
    exact congrArg State.core (onLine_run (s := keptPairState) (grantChange false) rfl)
  rw [hcore, keptPairState_gatesOn] at hoff
  exact absurd hoff (by decide)

end Sys2Proof.Machine
end
